-- ==== Sys2Proof/Word.lean ====
section
/-! DEFINITION. The word types: a byte, the 32-bit word of a register (R7) and the 64-bit word of a general register of
a Corbel context (R65). -/

namespace Sys2Proof

/-- One byte. -/
abbrev Byte := BitVec 8

/-- A string of bytes, the first byte first. -/
abbrev Bytes := List Byte

/-- A 32-bit word: every register of a page (R7). -/
abbrev Word := BitVec 32

/-- A 64-bit word: a general register of a Corbel context (R65). -/
abbrev DWord := BitVec 64

end Sys2Proof
end

