-- ==== Sys2Proof/Config.lean ====
section
/-! DEFINITION. What one module fixes and the spec leaves open: free values, as opaque constants without a body. Nothing
in Lean can evaluate them, so a statement about the machine holds whatever they are. -/

namespace Sys2Proof

/-- The byte that a random generator or a noise source yields at its n-th draw (R211, log entry 6). -/
opaque Config.freeByte : Nat → Byte

/-- The two primes that RSA key generation finds from random bytes (R276, R282, log entry 7): modulus bits, random
bytes. -/
opaque Config.rsaPrimes : Nat → Bytes → Nat × Nat

/-- A byte of the key that a KEY derive micro-operation makes of a shared secret (R274, log entry 14): secret, length in bytes,
place of the byte. -/
opaque Config.derivedByte : Bytes → Nat → Nat → Byte

/-- The bytes of the PUF secret, the same at every regeneration and re-enrolment (R176, R180, log entry 8). -/
opaque Config.pufByte : Nat → Byte

/-- The module UID that OTP holds (R460, log entry 8). -/
opaque Config.moduleUid : BitVec 64

/-- The MAC address that OTP gives a port (R375, log entry 8). -/
opaque Config.portMac : Nat → BitVec 48

end Sys2Proof
end

