-- ==== Sys2Proof/Machine/Names.lean ====
section
/-! DEFINITION. The names the spec gives: statuses with their codes (R6, R91), events with their codes (R567), islands
(R12), requesters (R22), page kinds with their addresses (R43, R45), field types (R7) and the fields of the common
header (R39). -/

namespace Sys2Proof.Machine

/-- The status codes (R6, R91 and the chapters' own tables). -/
inductive Status where
  /-- 0x0000 ST_OK: Success -/
  | ok
  /-- 0x0101 ST_FRAME_LENGTH: Frame or descriptor length inconsistent with its contents -/
  | frameLength
  /-- 0x0102 ST_FUNCTION_UNKNOWN: Function code not defined -/
  | functionUnknown
  /-- 0x0103 ST_TLV_MALFORMED: TLV structure broken -/
  | tlvMalformed
  /-- 0x0104 ST_TLV_MISSING: A TLV required by the function is absent -/
  | tlvMissing
  /-- 0x0105 ST_DEADLINE_RANGE: Deadline above 1,000,000 µs -/
  | deadlineRange
  /-- 0x0201 ST_KEY_HANDLE: No such key handle in the requesting bay -/
  | keyHandle
  /-- 0x0202 ST_KEY_USAGE: Key usage, mode of use or output steering does not permit the operation -/
  | keyUsage
  /-- 0x0203 ST_KEY_EXHAUSTED: Use counter, DUKPT counter or nonce counter exhausted -/
  | keyExhausted
  /-- 0x0204 ST_KEY_EXPIRED: Key past its validity, or expired at reset -/
  | keyExpired
  /-- 0x0205 ST_KEY_INTEGRITY: Wrapped key record failed authentication -/
  | keyIntegrity
  /-- 0x0301 ST_POLICY_DENIED: Operation forbidden by bay or module policy -/
  | policyDenied
  /-- 0x0302 ST_FLOOR_LOCKED: Function version above the fleet format floor -/
  | floorLocked
  /-- 0x0303 ST_PID_UNBOUND: Process identifier not in the binding table -/
  | pidUnbound
  /-- 0x0304 ST_PROGRAM_ABSENT: Pinned program version not available -/
  | programAbsent
  /-- 0x0401 ST_INPUT_RANGE: A value outside its permitted range -/
  | inputRange
  /-- 0x0402 ST_POINT_INVALID: Elliptic-curve point invalid -/
  | pointInvalid
  /-- 0x0403 ST_PIN_FORMAT: PIN block not of a valid form for its format -/
  | pinFormat
  /-- 0x0404 ST_VERIFY_FAILED: A PIN, MAC, cryptogram, CVV or signature did not verify -/
  | verifyFailed
  /-- 0x0405 ST_RECORD_LOST: A Cornerstone or Mark record was lost before it became durable (R437, R537) -/
  | recordLost
  /-- 0x0501 ST_BUSY: The bay's key-cache quota is wholly held by requests in flight -/
  | busy
  /-- 0x0502 ST_EXPIRED: Deadline reached before completion -/
  | expired
  /-- 0x0503 ST_BAY_RESET: Request ended by a reset of its bay -/
  | bayReset
  /-- 0x0504 ST_QUEUE_FULL: The bay's queue is full (network face) -/
  | queueFull
  /-- 0x0505 ST_QUOTA_EXCEEDED: The bay's Vault quota is full -/
  | quotaExceeded
  /-- 0x0601 ST_ABORTED: Job aborted before its end -/
  | aborted
  /-- 0x0602 ST_ENGINE_FAULT: An engine reported a fault -/
  | engineFault
  /-- 0x0603 ST_XING_TIMEOUT: A clock-domain crossing timed out or was stalled or fenced -/
  | xingTimeout
  /-- 0x0701 ST_SUSPENDED: Cryptographic work halted by a tamper response -/
  | suspended
  /-- 0x0702 ST_CONTROL_SWITCHED: Management operation ended by a Keystone switch -/
  | controlSwitched
  /-- 0x0703 ST_LC_STATE: Operation not permitted in the present life-cycle state -/
  | lcState
  /-- 0x0320 ST_TRANSLATION_DENIED: Translation pair not permitted, or downgrade not enabled -/
  | translationDenied
  /-- 0x0321 ST_PIN_GOVERNOR: Bay's PIN-failure governor level at 0 or below -/
  | pinGovernor
  /-- 0x0420 ST_PIN_LENGTH: Decoded PIN length outside the bay's limits -/
  | pinLength
  /-- 0x0421 ST_PAN_FORMAT: PAN not 12 to 19 decimal digits -/
  | panFormat
  /-- 0x0422 ST_MAC_LENGTH: Verification tag shorter than the bay's minimum -/
  | macLength
  /-- 0x0240 ST_BDK_MISMATCH: KSN identifier differs from the BDK's or initial key's identifier -/
  | bdkMismatch
  /-- 0x0241 ST_KB_STRENGTH: Key stronger than its KBPK, or AES key under a TDES KBPK -/
  | kbStrength
  /-- 0x0242 ST_KB_EXPORT: Exportability forbids export -/
  | kbExport
  /-- 0x0440 ST_KSN_FORMAT: KSN length or form wrong for the BDK -/
  | ksnFormat
  /-- 0x0441 ST_KB_HEADER: Key block header field or length invalid -/
  | kbHeader
  /-- 0x0442 ST_KB_OPTBLOCK: Optional block unknown, repeated, malformed or not allowed for the key -/
  | kbOptblock
  /-- 0x0443 ST_KB_UNSUPPORTED: Version, usage, algorithm, component or exportability not accepted -/
  | kbUnsupported
  /-- 0x0444 ST_KCV_MISMATCH: Key check value in the block differs from the computed value -/
  | kcvMismatch
  /-- 0x0445 ST_TOKEN_DOMAIN: Middle digit count outside 6 to 19 -/
  | tokenDomain
  /-- 0x0446 ST_LUHN: PAN or token check digit not as the profile requires -/
  | luhn
  /-- 0x0447 ST_TOKEN_NOT_FOUND: No live vault entry for the token -/
  | tokenNotFound
  /-- 0x0448 ST_TOKEN_SPACE: Eight token draws rejected -/
  | tokenSpace
  /-- 0x0220 ST_ROOT_ABSENT: The Quarry root could not be regenerated or was erased -/
  | rootAbsent
  /-- 0x0221 ST_ENTROPY_FAIL: DRBG reseed due while the noise source has failed -/
  | entropyFail
  /-- 0x0222 ST_FORMAT_UNKNOWN: Record or bundle format above the module's readable limit -/
  | formatUnknown
  /-- 0x0223 ST_FLOOR_UNSUPPORTED: Floor raise not above the floor, or beyond a resident FORMAT_MAX -/
  | floorUnsupported
  /-- 0x0224 ST_BUNDLE_AUTH: Bundle manifest, signature or chunk failed authentication -/
  | bundleAuth
  /-- 0x0225 ST_RESTORE_CONFLICT: Destination bay holds objects -/
  | restoreConflict
  /-- 0x0226 ST_ATTR_IMMUTABLE: Attribute change not permitted -/
  | attrImmutable
  /-- 0x0227 ST_CERT_REFUSED: Identity certificate not installed under R187 -/
  | certRefused
  /-- 0x0640 ST_WIPE_FAULT: A core's wipe check failed; the job's result was discarded -/
  | wipeFault
  /-- 0x0641 ST_NONCE_RESERVE: A nonce counter reservation could not be made durable -/
  | nonceReserve
  /-- 0x0460 ST_PK_ENCODING: Input length or point prefix not valid for the operation -/
  | pkEncoding
  /-- 0x0461 ST_PK_UNSUPPORTED: Curve, parameter set, hash ID or padding not supported -/
  | pkUnsupported
  /-- 0x0462 ST_RSA_MODULUS: RSA modulus or public exponent outside R287 -/
  | rsaModulus
  /-- 0x0463 ST_UCODE_AUTH: Microcode signing key or signature did not verify -/
  | ucodeAuth
  /-- 0x0464 ST_UCODE_BINDING: Microcode bound to a release that neither Keystone runs -/
  | ucodeBinding
  /-- 0x0520 ST_BAY_DISABLED: Bay not enabled, or quiescing -/
  | bayDisabled
  /-- 0x0521 ST_PID_BOUND: Identifier bound to another bay or to the manager -/
  | pidBound
  /-- 0x0522 ST_BIND_FULL: All 4,096 binding table entries in use -/
  | bindFull
  /-- 0x0110 ST_SESSION_AUTH: Certificate or transcript signature did not verify -/
  | sessionAuth
  /-- 0x0111 ST_ANCHOR_UNKNOWN: No valid anchor with the certificate's authority key identifier -/
  | anchorUnknown
  /-- 0x0112 ST_PID_NOT_PERMITTED: Requested identifier outside the anchor's range -/
  | pidNotPermitted
  /-- 0x0113 ST_PID_MISMATCH: Frame PID differs from the session's -/
  | pidMismatch
  /-- 0x0114 ST_SESSION_LIMIT: Session table full -/
  | sessionLimit
  /-- 0x0115 ST_RING_PASID: Ring PASID bound to another target -/
  | ringPasid
  /-- 0x0116 ST_BULK_STREAM: Stream not open or not owned by the session -/
  | bulkStream
  /-- 0x0117 ST_REASSEMBLY: Request or record fragments incomplete, overlapping or too many -/
  | reassembly
  /-- 0x0118 ST_OUTPUT_SPACE: Host output buffer too small -/
  | outputSpace
  /-- 0x0119 ST_CERT_INVALID: Certificate form, algorithm or validity not accepted -/
  | certInvalid
  /-- 0x0620 ST_CARD_REMOVED_IN_WRITE: Card removed with a slot write in doubt -/
  | cardRemovedInWrite
  /-- 0x0621 ST_CARD_REMOVED: Card removed during another exchange -/
  | cardRemoved
  /-- 0x0622 ST_CARD_ABSENT: No card present -/
  | cardAbsent
  /-- 0x0623 ST_CARD_ATR: No usable ATR or PPS -/
  | cardAtr
  /-- 0x0624 ST_CARD_PROTOCOL: T=1 recovery failed -/
  | cardProtocol
  /-- 0x0625 ST_CARD_TIMEOUT: Waiting time or WTX limit exceeded -/
  | cardTimeout
  /-- 0x0626 ST_CARD_VCC: VCC overload or out of range -/
  | cardVcc
  /-- 0x0627 ST_CARD_AUTH: Card signature invalid or card not in the roster -/
  | cardAuth
  /-- 0x0628 ST_CARD_SESSION: Card session lost or WAKE failed -/
  | cardSession
  /-- 0x0629 ST_PIN_REJECTED: Custodian PIN wrong or blocked -/
  | pinRejected
  /-- 0x062A ST_SLOT_PROTECTED: Slot write-protected -/
  | slotProtected
  /-- 0x062B ST_SLOT_UNDEFINED: Slot CRC failed -/
  | slotUndefined
  /-- 0x062C ST_CARD_DUPLICATE: Card already counted in this ceremony -/
  | cardDuplicate
  /-- 0x062D ST_CER_STATE: Ceremony command not valid in the present state -/
  | cerState
  /-- 0x0720 ST_LC_TARGET: Target not reachable from the present state -/
  | lcTarget
  /-- 0x0721 ST_LC_PENDING: Another transition is pending -/
  | lcPending
  /-- 0x0722 ST_AUTH_TOKEN: Token malformed, not for this module or challenge, signature invalid, or scope not permitted -/
  | authToken
  /-- 0x0723 ST_CHALLENGE_ABSENT: No live challenge -/
  | challengeAbsent
  /-- 0x0724 ST_LC_PRECHECK: A pre-check of R443 failed -/
  | lcPrecheck
  /-- 0x0725 ST_LC_HELD: Request not accepted by a held module -/
  | lcHeld
deriving DecidableEq, Repr, Inhabited

/-- The 16-bit code of a status (R6, R91). -/
def Status.code : Status → Nat
  | .ok => 0x0000
  | .frameLength => 0x0101
  | .functionUnknown => 0x0102
  | .tlvMalformed => 0x0103
  | .tlvMissing => 0x0104
  | .deadlineRange => 0x0105
  | .keyHandle => 0x0201
  | .keyUsage => 0x0202
  | .keyExhausted => 0x0203
  | .keyExpired => 0x0204
  | .keyIntegrity => 0x0205
  | .policyDenied => 0x0301
  | .floorLocked => 0x0302
  | .pidUnbound => 0x0303
  | .programAbsent => 0x0304
  | .inputRange => 0x0401
  | .pointInvalid => 0x0402
  | .pinFormat => 0x0403
  | .verifyFailed => 0x0404
  | .recordLost => 0x0405
  | .busy => 0x0501
  | .expired => 0x0502
  | .bayReset => 0x0503
  | .queueFull => 0x0504
  | .quotaExceeded => 0x0505
  | .aborted => 0x0601
  | .engineFault => 0x0602
  | .xingTimeout => 0x0603
  | .suspended => 0x0701
  | .controlSwitched => 0x0702
  | .lcState => 0x0703
  | .translationDenied => 0x0320
  | .pinGovernor => 0x0321
  | .pinLength => 0x0420
  | .panFormat => 0x0421
  | .macLength => 0x0422
  | .bdkMismatch => 0x0240
  | .kbStrength => 0x0241
  | .kbExport => 0x0242
  | .ksnFormat => 0x0440
  | .kbHeader => 0x0441
  | .kbOptblock => 0x0442
  | .kbUnsupported => 0x0443
  | .kcvMismatch => 0x0444
  | .tokenDomain => 0x0445
  | .luhn => 0x0446
  | .tokenNotFound => 0x0447
  | .tokenSpace => 0x0448
  | .rootAbsent => 0x0220
  | .entropyFail => 0x0221
  | .formatUnknown => 0x0222
  | .floorUnsupported => 0x0223
  | .bundleAuth => 0x0224
  | .restoreConflict => 0x0225
  | .attrImmutable => 0x0226
  | .certRefused => 0x0227
  | .wipeFault => 0x0640
  | .nonceReserve => 0x0641
  | .pkEncoding => 0x0460
  | .pkUnsupported => 0x0461
  | .rsaModulus => 0x0462
  | .ucodeAuth => 0x0463
  | .ucodeBinding => 0x0464
  | .bayDisabled => 0x0520
  | .pidBound => 0x0521
  | .bindFull => 0x0522
  | .sessionAuth => 0x0110
  | .anchorUnknown => 0x0111
  | .pidNotPermitted => 0x0112
  | .pidMismatch => 0x0113
  | .sessionLimit => 0x0114
  | .ringPasid => 0x0115
  | .bulkStream => 0x0116
  | .reassembly => 0x0117
  | .outputSpace => 0x0118
  | .certInvalid => 0x0119
  | .cardRemovedInWrite => 0x0620
  | .cardRemoved => 0x0621
  | .cardAbsent => 0x0622
  | .cardAtr => 0x0623
  | .cardProtocol => 0x0624
  | .cardTimeout => 0x0625
  | .cardVcc => 0x0626
  | .cardAuth => 0x0627
  | .cardSession => 0x0628
  | .pinRejected => 0x0629
  | .slotProtected => 0x062A
  | .slotUndefined => 0x062B
  | .cardDuplicate => 0x062C
  | .cerState => 0x062D
  | .lcTarget => 0x0720
  | .lcPending => 0x0721
  | .authToken => 0x0722
  | .challengeAbsent => 0x0723
  | .lcPrecheck => 0x0724
  | .lcHeld => 0x0725

/-- The events that make a Mark record (R567). -/
inductive Event where
  /-- 0x0101 EV_XING_UNSTABLE; source island: Island of the crossing's owning page (R33) -/
  | xingUnstable
  /-- 0x0102 EV_XING_OVERRUN; source island: As 0x0101 -/
  | xingOverrun
  /-- 0x0103 EV_XING_TIMEOUT; source island: As 0x0101 -/
  | xingTimeout
  /-- 0x0104 EV_XING_RESUMED; source island: As 0x0101 -/
  | xingResumed
  /-- 0x0105 EV_XING_FENCED; source island: As 0x0101 -/
  | xingFenced
  /-- 0x0106 EV_REG_PARTIAL; source island: Island of the page addressed -/
  | regPartial
  /-- 0x0107 EV_REG_UNMAPPED; source island: Management (0) -/
  | regUnmapped
  /-- 0x0108 EV_BLOCK_EVENT; source island: Island of the page (R568) -/
  | blockEvent
  /-- 0x0201 EV_PROG_INTEGRITY; source island: Corbel (3) -/
  | progIntegrity
  /-- 0x0301 EV_PN_TIME_FAULT; source island: Key island (6) -/
  | pnTimeFault
  /-- 0x0302 EV_PIN_GOVERNOR; source island: Key island (6), unit the bay -/
  | pinGovernor
  /-- 0x0501 EV_ROOT_FAIL; source island: Key island (6) -/
  | rootFail
  /-- 0x0502 EV_PUF_REENROLLED; source island: Key island (6) -/
  | pufReenrolled
  /-- 0x0503 EV_CERT_INSTALLED; source island: Key island (6) -/
  | certInstalled
  /-- 0x0504 EV_RN_SOURCE_FAIL; source island: Key island (6), unit the source -/
  | rnSourceFail
  /-- 0x0601 EV_AS_LOCK_MISMATCH; source island: Ashlar (4), unit the core -/
  | asLockMismatch
  /-- 0x0602 EV_AS_WIPE_FAULT; source island: Ashlar (4), unit the core -/
  | asWipeFault
  /-- 0x0603 EV_NONCE_EXHAUSTED; source island: Key island (6), unit the bay -/
  | nonceExhausted
  /-- 0x0701 EV_VS_RESULT_CHECK; source island: Voussoir (5), unit the engine -/
  | vsResultCheck
  /-- 0x0702 EV_VS_LOCK_MISMATCH; source island: Voussoir (5), unit the engine -/
  | vsLockMismatch
  /-- 0x0703 EV_VS_TIME_FAULT; source island: Voussoir (5), unit the engine -/
  | vsTimeFault
  /-- 0x0704 EV_VS_WIPE_FAULT; source island: Voussoir (5), unit the engine -/
  | vsWipeFault
  /-- 0x0705 EV_VS_UCODE_FAIL; source island: Voussoir (5), unit the engine -/
  | vsUcodeFail
  /-- 0x0801 EV_BAY_RESET; source island: Corbel (3), unit the bay -/
  | bayReset
  /-- 0x0802 EV_BAY_QUIET; source island: Corbel (3), unit the bay -/
  | bayQuiet
  /-- 0x0803 EV_BAY_QUIET_FORCED; source island: Corbel (3), unit the bay -/
  | bayQuietForced
  /-- 0x0804 EV_BAY_RING_FULL; source island: Management (0), unit the bay -/
  | bayRingFull
  /-- 0x0A01 EV_CD_REMOVED; source island: Card island (12), unit the interface -/
  | cdRemoved
  /-- 0x0A02 EV_CD_VCC_OVER; source island: Card island (12), unit the interface -/
  | cdVccOver
  /-- 0x0A03 EV_CD_VCC_OPEN; source island: As 0x0A02 -/
  | cdVccOpen
  /-- 0x0A04 EV_CD_VCC_RANGE; source island: As 0x0A02 -/
  | cdVccRange
  /-- 0x0A10 EV_CER_OPEN; source island: Card island (12), unit interface 0 -/
  | cerOpen
  /-- 0x0A11 EV_CER_CARD; source island: As 0x0A10 -/
  | cerCard
  /-- 0x0A12 EV_CER_STANDING; source island: As 0x0A10 -/
  | cerStanding
  /-- 0x0A13 EV_CER_STEP; source island: As 0x0A10 -/
  | cerStep
  /-- 0x0A14 EV_CER_SLOT_INDET; source island: As 0x0A10 -/
  | cerSlotIndet
  /-- 0x0A15 EV_CER_CLOSED; source island: As 0x0A10 -/
  | cerClosed
  /-- 0x0B01 EV_TAMPER_FIRE; source island: Tamper front-end (14), or the Plinth (13) on the backup node; unit the source -/
  | tamperFire
  /-- 0x0B02 EV_PLINTH_PROGRAM; source island: Plinth (13) -/
  | plinthProgram
  /-- 0x0C01 EV_LC_DONE; source island: Management (0) -/
  | lcDone
  /-- 0x0C02 EV_LC_RESUMED; source island: Management (0) -/
  | lcResumed
  /-- 0x0C03 EV_DBG_OPEN; source island: Debug (15) -/
  | dbgOpen
  /-- 0x0C04 EV_DBG_CLOSE; source island: Debug (15) -/
  | dbgClose
  /-- 0x0D01 EV_GATE_FAULT; source island: Mortar fabric (7), unit the gate -/
  | gateFault
  /-- 0x0D02 EV_GATE_IMPRECISE; source island: As 0x0D01 -/
  | gateImprecise
  /-- 0x0D03 EV_GATE_DRAIN_TIMEOUT; source island: Mortar fabric (7), unit the gate -/
  | gateDrainTimeout
  /-- 0x0E01 EV_KS_DIVERGE; source island: Management (0), unit the standby, 0 A or 1 B -/
  | ksDiverge
  /-- 0x0E02 EV_KS_PATH_FAULT; source island: Management (0), unit the Keystone -/
  | ksPathFault
  /-- 0x0E03 EV_KS_SWITCH; source island: Management (0), unit the new controller -/
  | ksSwitch
  /-- 0x0E04 EV_KS_MATCHED; source island: Management (0), unit the Keystone -/
  | ksMatched
  /-- 0x0E05 EV_KS_PAIR_REFUSED; source island: Management (0), unit the restarted Keystone -/
  | ksPairRefused
  /-- 0x0E06 EV_KS_REVERT; source island: Management (0), unit A -/
  | ksRevert
  /-- 0x0E07 EV_KS_REVERT_HELD; source island: Management (0), unit A -/
  | ksRevertHeld
  /-- 0x0F01 EV_START_ATTEMPT; source island: Management (0) -/
  | startAttempt
  /-- 0x0F02 EV_START_DONE; source island: Management (0) -/
  | startDone
  /-- 0x0F03 EV_SCRAP_REST; source island: Management (0) -/
  | scrapRest
  /-- 0x0F04 EV_PW_DOMAIN_FAULT; source island: Management (0), unit the domain -/
  | pwDomainFault
  /-- 0x0F05 EV_PLUMB_PLAN; source island: Management (0) -/
  | plumbPlan
  /-- 0x0F06 EV_PLUMB_FLOOR; source island: Management (0), unit the island -/
  | plumbFloor
  /-- 0x1001 EV_MARK_LOST_POWER; source island: Management (0) -/
  | markLostPower
  /-- 0x1002 EV_MARK_CLEARED; source island: Management (0) -/
  | markCleared
  /-- 0x1003 EV_PC_OVERFLOW; source island: Management (0) -/
  | pcOverflow
deriving DecidableEq, Repr, Inhabited

/-- The 16-bit code of an event (R567). -/
def Event.code : Event → Nat
  | .xingUnstable => 0x0101
  | .xingOverrun => 0x0102
  | .xingTimeout => 0x0103
  | .xingResumed => 0x0104
  | .xingFenced => 0x0105
  | .regPartial => 0x0106
  | .regUnmapped => 0x0107
  | .blockEvent => 0x0108
  | .progIntegrity => 0x0201
  | .pnTimeFault => 0x0301
  | .pinGovernor => 0x0302
  | .rootFail => 0x0501
  | .pufReenrolled => 0x0502
  | .certInstalled => 0x0503
  | .rnSourceFail => 0x0504
  | .asLockMismatch => 0x0601
  | .asWipeFault => 0x0602
  | .nonceExhausted => 0x0603
  | .vsResultCheck => 0x0701
  | .vsLockMismatch => 0x0702
  | .vsTimeFault => 0x0703
  | .vsWipeFault => 0x0704
  | .vsUcodeFail => 0x0705
  | .bayReset => 0x0801
  | .bayQuiet => 0x0802
  | .bayQuietForced => 0x0803
  | .bayRingFull => 0x0804
  | .cdRemoved => 0x0A01
  | .cdVccOver => 0x0A02
  | .cdVccOpen => 0x0A03
  | .cdVccRange => 0x0A04
  | .cerOpen => 0x0A10
  | .cerCard => 0x0A11
  | .cerStanding => 0x0A12
  | .cerStep => 0x0A13
  | .cerSlotIndet => 0x0A14
  | .cerClosed => 0x0A15
  | .tamperFire => 0x0B01
  | .plinthProgram => 0x0B02
  | .lcDone => 0x0C01
  | .lcResumed => 0x0C02
  | .dbgOpen => 0x0C03
  | .dbgClose => 0x0C04
  | .gateFault => 0x0D01
  | .gateImprecise => 0x0D02
  | .gateDrainTimeout => 0x0D03
  | .ksDiverge => 0x0E01
  | .ksPathFault => 0x0E02
  | .ksSwitch => 0x0E03
  | .ksMatched => 0x0E04
  | .ksPairRefused => 0x0E05
  | .ksRevert => 0x0E06
  | .ksRevertHeld => 0x0E07
  | .startAttempt => 0x0F01
  | .startDone => 0x0F02
  | .scrapRest => 0x0F03
  | .pwDomainFault => 0x0F04
  | .plumbPlan => 0x0F05
  | .plumbFloor => 0x0F06
  | .markLostPower => 0x1001
  | .markCleared => 0x1002
  | .pcOverflow => 0x1003

/-- The 16 islands of the die (R12). -/
inductive Island where
  | management | keystoneA | keystoneB | corbel | ashlar | voussoir | key | mortar | hbm | vault | network | host
  | card | plinth | tamper | debug
deriving DecidableEq, Repr, Inhabited

/-- The island code that every ERR_INFO register and Mark record carries (R12). -/
def Island.code : Island → Nat
  | .management => 0 | .keystoneA => 1 | .keystoneB => 2 | .corbel => 3 | .ashlar => 4 | .voussoir => 5 | .key => 6
  | .mortar => 7 | .hbm => 8 | .vault => 9 | .network => 10 | .host => 11 | .card => 12 | .plinth => 13 | .tamper => 14
  | .debug => 15

/-- The ORIGIN that the entry port stamps into a header (R21, R22). -/
inductive Origin where
  | supervisor | bay | program | debug
deriving DecidableEq, Repr, Inhabited

/-- The ORIGIN field of the header (R21). -/
def Origin.code : Origin → Nat
  | .supervisor => 0 | .bay => 1 | .program => 2 | .debug => 3

/-- Who asks for a register access, as the hardware stamps it (R22): the ORIGIN, the bay where there is one, and the
island whose code ERR_INFO records. -/
structure Requester where
  origin : Origin
  bay : Nat
  island : Island
deriving DecidableEq, Repr, Inhabited

/-- The controlling Keystone, carrying out a supervisor access (R47). -/
def Requester.manager : Requester := ⟨.supervisor, 0, .keystoneA⟩

/-- An access by the software of a bay through the host face (R47). -/
def Requester.ofBay (bay : Nat) : Requester := ⟨.bay, bay, .host⟩

/-- The kinds of register page (R43, R45). The bay window gives four: bw is page 0x0, hq page 0x1, hqd page 0x2 and hqv
page 0x3. Instance 256 of hq and hqd is the manager's ring block in the HF page (R376). -/
inductive Blk where
  | module | ks | pw | ck | pl | lc | dbg | tm | cs | ev | pc | ic | kt | kc | vt | rn | sc | cb | asp | hs | vs | pn
  | nfp | nfc | hf | cd | lg | by | bw | hq | hqd | hqv
deriving DecidableEq, Repr, Inhabited

/-- The first page index of a page kind (R43, R45). -/
def Blk.basePage : Blk → Nat
  | .module => 0x000 | .ks => 0x001 | .pw => 0x010 | .ck => 0x011 | .pl => 0x012 | .lc => 0x020 | .dbg => 0x021
  | .tm => 0x030 | .cs => 0x031 | .ev => 0x040 | .pc => 0x041 | .ic => 0x042 | .kt => 0x050 | .kc => 0x051
  | .vt => 0x052 | .rn => 0x053 | .sc => 0x060 | .cb => 0x100 | .asp => 0x200 | .hs => 0x280 | .vs => 0x300
  | .pn => 0x320 | .nfp => 0x400 | .nfc => 0x408 | .hf => 0x410 | .cd => 0x420 | .lg => 0x500 | .by => 0x600
  | .bw => 0x2000 | .hq => 0x2001 | .hqd => 0x2002 | .hqv => 0x2003

/-- The number of pages of a kind (R43, R45). -/
def Blk.pages : Blk → Nat
  | .ks => 2 | .cb => 64 | .asp => 128 | .hs => 16 | .vs => 16 | .nfp => 8 | .cd => 2 | .lg => 40 | .by => 256
  | .bw => 256 | .hq => 256 | .hqd => 256 | .hqv => 256
  | _ => 1

/-- The distance in pages between two instances: 16 in the bay windows (R45), 1 elsewhere (R43). -/
def Blk.stride : Blk → Nat
  | .bw => 16 | .hq => 16 | .hqd => 16 | .hqv => 16
  | _ => 1

/-- The block type code that BLOCK_ID shows (R43, R45). -/
def Blk.typeCode : Blk → Nat
  | .module => 0x01 | .ks => 0x02 | .pw => 0x10 | .ck => 0x11 | .pl => 0x12 | .lc => 0x20 | .dbg => 0x21
  | .tm => 0x30 | .cs => 0x31 | .ev => 0x40 | .pc => 0x41 | .ic => 0x42 | .kt => 0x50 | .kc => 0x51
  | .vt => 0x52 | .rn => 0x53 | .sc => 0x60 | .cb => 0x80 | .asp => 0x81 | .hs => 0x82 | .vs => 0x83
  | .pn => 0x84 | .nfp => 0x90 | .nfc => 0x91 | .hf => 0x92 | .cd => 0x93 | .lg => 0xA0 | .by => 0xB0
  | .bw => 0xB1 | .hq => 0xB1 | .hqd => 0xB1 | .hqv => 0xB1

/-- The island whose gate guards the pages of a kind (R461), which is the island of the page in R567 and R568. -/
def Blk.island : Blk → Island
  | .module => .management | .ks => .management | .pw => .management | .ck => .management | .pl => .management
  | .lc => .management | .dbg => .management | .tm => .tamper | .cs => .management | .ev => .management
  | .pc => .management | .ic => .management | .kt => .key | .kc => .key | .vt => .key | .rn => .key | .sc => .corbel
  | .cb => .corbel | .asp => .ashlar | .hs => .ashlar | .vs => .voussoir | .pn => .key | .nfp => .network
  | .nfc => .network | .hf => .host | .cd => .card | .lg => .mortar | .by => .corbel | .bw => .corbel
  | .hq => .host | .hqd => .host | .hqv => .host

/-- The page index of an instance of a kind (R43, R45). Instance 256 of a ring page stands in the HF page (R376). -/
def Blk.page (b : Blk) (inst : Nat) : Nat := b.basePage + b.stride * inst

/-- Every page kind of the manager window, in address order (R43). -/
def Blk.managerKinds : List Blk :=
  [.module, .ks, .pw, .ck, .pl, .lc, .dbg, .tm, .cs, .ev, .pc, .ic, .kt, .kc, .vt, .rn, .sc, .cb, .asp, .hs, .vs, .pn,
   .nfp, .nfc, .hf, .cd, .lg, .by]

/-- How a field type behaves on a read and a write (R7). -/
inductive Kind where
  | ro | rw | rwl | w1c | w1s | wo | rc
deriving DecidableEq, Repr, Inhabited

/-- How a field repeats: once; in an array of n registers a number of bytes apart; n times side by side in one register;
or once for each value of the page's index register. -/
inductive Rep where
  | one
  | words (n stride : Nat)
  | packed (n : Nat)
  | indexed (n : Nat)
deriving DecidableEq, Repr, Inhabited

/-- One field of a register: page kind, offset of the register, lowest bit, width, type, reset value, repetition, and
whether a write is staged to the next course boundary. -/
structure Fld where
  blk : Blk
  off : Nat
  lo : Nat
  width : Nat
  kind : Kind
  reset : Nat
  rep : Rep
  staged : Bool
deriving DecidableEq, Repr, Inhabited

/-- The offset of the register that holds repetition k of a field. -/
def Fld.offset (f : Fld) (k : Nat) : Nat :=
  match f.rep with
  | .words _ stride => f.off + stride * k
  | _ => f.off

/-- The lowest bit of repetition k of a field. -/
def Fld.bit (f : Fld) (k : Nat) : Nat :=
  match f.rep with
  | .packed _ => f.lo + f.width * k
  | _ => f.lo

/-- The number of values a field can hold. -/
def Fld.bound (f : Fld) : Nat := 2 ^ f.width

/-- The place of a field of a page instance in the field file: one number for each page, offset, bit and repetition. -/
def Fld.key (f : Fld) (inst k : Nat) : Nat :=
  ((f.blk.page inst * 0x1000 + f.off) * 32 + f.lo) * 0x1000 + k

namespace R

/-- R39: 1: block accepts work. -/
def CTRL_ENABLE (b : Blk) : Fld := ⟨b, 0x008, 0, 1, .rw, 0, .one, false⟩
/-- R39: 1: accept no new work, finish work in flight. -/
def CTRL_QUIESCE (b : Blk) : Fld := ⟨b, 0x008, 1, 1, .rw, 0, .one, false⟩
/-- R39, R41: 1 resets the block; reads 1 until done. -/
def CTRL_SOFT_RESET (b : Blk) : Fld := ⟨b, 0x008, 2, 1, .w1s, 0, .one, false⟩
/-- R339: 1: the bay reads its counters in BW_CNT0 to BW_CNT7. -/
def CTRL_CNT_VISIBLE : Fld := ⟨.by, 0x008, 3, 1, .rw, 0, .one, false⟩
/-- R339: 1: the bay may reset itself through BW_RESET. -/
def CTRL_SELF_RESET_EN : Fld := ⟨.by, 0x008, 4, 1, .rw, 0, .one, false⟩
/-- R39: block powered, clocked and enabled. -/
def STATUS_READY (b : Blk) : Fld := ⟨b, 0x00C, 0, 1, .ro, 0, .one, false⟩
/-- R39: work in flight. -/
def STATUS_BUSY (b : Blk) : Fld := ⟨b, 0x00C, 1, 1, .ro, 0, .one, false⟩
/-- R39: QUIESCE is set and no work is in flight. -/
def STATUS_QUIESCED (b : Blk) : Fld := ⟨b, 0x00C, 2, 1, .ro, 0, .one, false⟩
/-- R39: the block has reported a fault. -/
def STATUS_FAULT (b : Blk) : Fld := ⟨b, 0x00C, 3, 1, .ro, 0, .one, false⟩
/-- R39, R34: the block's crossings are fenced. -/
def STATUS_FENCED (b : Blk) : Fld := ⟨b, 0x00C, 4, 1, .ro, 0, .one, false⟩
/-- R39, R33: a crossing owned by the block is stalled. -/
def STATUS_XING_STALLED (b : Blk) : Fld := ⟨b, 0x00C, 5, 1, .ro, 0, .one, false⟩
/-- R339: reset action taken, quiet not yet declared. -/
def STATUS_RESETTING : Fld := ⟨.by, 0x00C, 8, 1, .ro, 0, .one, false⟩
/-- R339: last quiet declared under R325. -/
def STATUS_QUIET_FORCED : Fld := ⟨.by, 0x00C, 9, 1, .ro, 0, .one, false⟩
/-- R39, R40: every block event, latched whether or not it is enabled. -/
def INT_RAW (b : Blk) : Fld := ⟨b, 0x010, 0, 32, .ro, 0, .one, false⟩
/-- R39: 1 enables the INT_RAW bit of the same number. -/
def INT_ENABLE (b : Blk) : Fld := ⟨b, 0x014, 0, 32, .rw, 0, .one, false⟩
/-- R39, R40: INT_RAW AND INT_ENABLE; a view of the two. -/
def INT_PENDING (b : Blk) : Fld := ⟨b, 0x018, 0, 32, .w1c, 0, .one, false⟩
/-- R39, R41: 1 freezes every RWL field of the page. -/
def LOCK (b : Blk) : Fld := ⟨b, 0x01C, 0, 1, .w1s, 0, .one, false⟩
/-- R39, R42: count of staged configurations that have taken effect; wraps at 2^32. -/
def EPOCH (b : Blk) : Fld := ⟨b, 0x020, 0, 32, .ro, 0, .one, false⟩
/-- R39: island code of the requester of the last error. -/
def ERR_ISLAND (b : Blk) : Fld := ⟨b, 0x024, 24, 8, .rc, 0, .one, false⟩
/-- R39: errors since the last read, saturating at 255. -/
def ERR_COUNT (b : Blk) : Fld := ⟨b, 0x024, 16, 8, .rc, 0, .one, false⟩
/-- R39: status of the last error. -/
def ERR_CODE (b : Blk) : Fld := ⟨b, 0x024, 0, 16, .rc, 0, .one, false⟩
/-- R39: block type code. -/
def ID_TYPE (b : Blk) : Fld := ⟨b, 0x000, 24, 8, .ro, b.typeCode, .one, false⟩
/-- R39: instance within the block's page range, or the bay number; a view. -/
def ID_INSTANCE (b : Blk) : Fld := ⟨b, 0x000, 16, 8, .ro, 0, .one, false⟩
/-- R39: page index; a view. -/
def ID_PAGE (b : Blk) : Fld := ⟨b, 0x000, 0, 16, .ro, 0, .one, false⟩
/-- R39: MAJOR 0x01. -/
def VERSION_MAJOR (b : Blk) : Fld := ⟨b, 0x004, 24, 8, .ro, 1, .one, false⟩
/-- R39: MINOR 0x00. -/
def VERSION_MINOR (b : Blk) : Fld := ⟨b, 0x004, 16, 8, .ro, 0, .one, false⟩

/-- The common header of a page kind (R39), with the block-specific bits of CTRL and STATUS of the BY page (R339). -/
def headerFields (b : Blk) : List Fld :=
  [ID_TYPE b, ID_INSTANCE b, ID_PAGE b, VERSION_MAJOR b, VERSION_MINOR b, CTRL_ENABLE b, CTRL_QUIESCE b,
   CTRL_SOFT_RESET b, STATUS_READY b, STATUS_BUSY b, STATUS_QUIESCED b, STATUS_FAULT b, STATUS_FENCED b,
   STATUS_XING_STALLED b, INT_RAW b, INT_ENABLE b, INT_PENDING b, LOCK b, EPOCH b, ERR_ISLAND b, ERR_COUNT b,
   ERR_CODE b] ++
  (if b = .by then [CTRL_CNT_VISIBLE, CTRL_SELF_RESET_EN, STATUS_RESETTING, STATUS_QUIET_FORCED] else [])

end R

end Sys2Proof.Machine
end

