-- ==== Sys2Proof/Machine/Tab.lean ====
section
/-! DEFINITION. Sparse tables: a list of (number, value) pairs, numbers strictly rising, that lists nothing but what
differs from the value an unlisted number reads as. The register fields, the memories, the contexts, the sessions and
every other numbered piece of state are held so; equal tables are then equal data. -/

namespace Sys2Proof.Machine

/-- A sparse table of values of type α by number. -/
abbrev Tab (α : Type) := List (Nat × α)

/-- The listed value of a number. -/
def Tab.look {α : Type} : Tab α → Nat → Option α
  | [], _ => none
  | (a, b) :: r, k => if a = k then some b else Tab.look r k

/-- The value of a number, d where it is not listed. -/
def Tab.get {α : Type} (t : Tab α) (k : Nat) (d : α) : α := (Tab.look t k).getD d

/-- List a value at its place. -/
def Tab.put {α : Type} : Tab α → Nat → α → Tab α
  | [], k, v => [(k, v)]
  | (a, b) :: r, k, v =>
    if k < a then (k, v) :: (a, b) :: r
    else if a = k then (k, v) :: r
    else (a, b) :: Tab.put r k v

/-- Take a number out of the list. -/
def Tab.del {α : Type} : Tab α → Nat → Tab α
  | [], _ => []
  | (a, b) :: r, k => if a = k then Tab.del r k else (a, b) :: Tab.del r k

/-- Write a value whose number reads as d when unlisted: writing d takes the entry out. -/
def Tab.set {α : Type} [DecidableEq α] (t : Tab α) (k : Nat) (d v : α) : Tab α :=
  if v = d then Tab.del t k else Tab.put t k v

/-- The numbers of a table rise strictly. -/
def Tab.rising {α : Type} : Tab α → Bool
  | [] => true
  | [_] => true
  | (a, _) :: (b, y) :: r => decide (a < b) && Tab.rising ((b, y) :: r)

/-- The canonical form of a table whose unlisted numbers read as d: numbers rising, nothing listed that reads as d. -/
def Tab.wf {α : Type} [DecidableEq α] (t : Tab α) (d : Nat → α) : Bool :=
  Tab.rising t && t.all (fun e => decide (e.2 ≠ d e.1))

/-- How many entries satisfy a test. -/
def Tab.count {α : Type} (t : Tab α) (p : Nat → α → Bool) : Nat :=
  (t.filter (fun e => p e.1 e.2)).length

/-- Apply a change to every listed value. -/
def Tab.mapVal {α : Type} (t : Tab α) (f : Nat → α → α) : Tab α := t.map (fun e => (e.1, f e.1 e.2))

/-- Keep the entries that satisfy a test. -/
def Tab.keep {α : Type} (t : Tab α) (p : Nat → α → Bool) : Tab α := t.filter (fun e => p e.1 e.2)

end Sys2Proof.Machine
end

