-- ==== Sys2Proof/Machine/Types.lean ====
section
/-! DEFINITION. The plain data types of the machine's state and of the commands' operands: requests and completions,
contexts and lane registers, keys, sessions, records, engine jobs and the rest. Every type is plain data. -/

namespace Sys2Proof.Machine

/-! ## Requests (ch. 02) -/

/-- A TLV: a tag and its value (R352). -/
structure Tlv where
  tag : Nat
  val : Bytes
deriving DecidableEq, Repr, Inhabited

/-- The source of a client frame: port, MAC, IP and UDP port (R348). -/
structure Client where
  port : Nat
  mac : Nat
  ip : Nat
  udp : Nat
deriving DecidableEq, Repr, Inhabited

/-- Where a request came from, and so where its completion goes: a Slofavar session and the source of the frame, or a
ring pair of the host face (owner 0 to 255, or 256 for the manager), with the ring's epoch, the output buffer and its
capacity (R54, R348, R366). -/
inductive Via where
  | session (id : Nat) (src : Client)
  | ring (owner ring epoch outAddr outLen : Nat)
deriving DecidableEq, Repr, Inhabited

/-- An admitted function request as its queue entry holds it (R57). -/
structure Request where
  via : Via
  reqId : Nat
  bay : Nat
  gen : Nat
  func : Nat
  tlvs : List Tlv
  deadline : Nat
  entry : Nat
  entryGen : Nat
deriving DecidableEq, Repr, Inhabited

/-- A completion as a context presents it: the request it answers, the context, whether its slot was an owned slot
(R546), its status and its output (R73, R75). -/
structure Completion where
  req : Request
  ctx : Nat
  owned : Bool
  status : Status
  out : List Tlv
deriving DecidableEq, Repr, Inhabited

/-- The state of a context as CB_CTX_STATE shows it (R95). -/
inductive CtxState where
  | free | running | waiting | stopping | faulted
deriving DecidableEq, Repr, Inhabited

/-- The code CB_CTX_STATE shows (R95). -/
def CtxState.code : CtxState → Nat
  | .free => 0 | .running => 1 | .waiting => 2 | .stopping => 3 | .faulted => 4

/-! ## Keys (ch. 05) -/

/-- The key usages the module accepts, in ANSI X9.143 characters (R155). -/
inductive Usage where
  | b0 | b1 | b2 | c0 | d0 | e0 | e1 | e2 | e3 | e4 | e5 | e6 | k0 | k1 | m0 | m1 | m3 | m6 | m7 | p0 | v1 | v2
deriving DecidableEq, Repr, Inhabited

/-- The two characters of a usage (R155). -/
def Usage.chars : Usage → Nat
  | .b0 => 0x4230 | .b1 => 0x4231 | .b2 => 0x4232 | .c0 => 0x4330 | .d0 => 0x4430 | .e0 => 0x4530 | .e1 => 0x4531
  | .e2 => 0x4532 | .e3 => 0x4533 | .e4 => 0x4534 | .e5 => 0x4535 | .e6 => 0x4536 | .k0 => 0x4B30 | .k1 => 0x4B31
  | .m0 => 0x4D30 | .m1 => 0x4D31 | .m3 => 0x4D33 | .m6 => 0x4D36 | .m7 => 0x4D37 | .p0 => 0x5030 | .v1 => 0x5631
  | .v2 => 0x5632

/-- Every usage. -/
def Usage.all : List Usage :=
  [.b0, .b1, .b2, .c0, .d0, .e0, .e1, .e2, .e3, .e4, .e5, .e6, .k0, .k1, .m0, .m1, .m3, .m6, .m7, .p0, .v1, .v2]

/-- The usage two characters name, if the module accepts it (R155). -/
def Usage.ofChars (c : Nat) : Option Usage := Usage.all.find? (fun u => u.chars == c)

/-- The algorithm of a key: AES, TDES, HMAC, or a Voussoir key type of a private key (R189). -/
inductive Alg where
  | aes | tdes | hmac
  | pk (kind : Nat)
deriving DecidableEq, Repr, Inhabited

/-- The algorithm character (R155); 0x50 stands for a Voussoir key type. -/
def Alg.char : Alg → Nat
  | .aes => 0x41 | .tdes => 0x54 | .hmac => 0x48 | .pk _ => 0x50

/-- The modes of use (R155, R189). -/
inductive ModeOfUse where
  | b | c | d | e | g | n | v | x
deriving DecidableEq, Repr, Inhabited

/-- The character of a mode of use (R155). -/
def ModeOfUse.char : ModeOfUse → Nat
  | .b => 0x42 | .c => 0x43 | .d => 0x44 | .e => 0x45 | .g => 0x47 | .n => 0x4E | .v => 0x56 | .x => 0x58

/-- The mode of use a character names (R155). -/
def ModeOfUse.ofChar (c : Nat) : Option ModeOfUse :=
  [ModeOfUse.b, .c, .d, .e, .g, .n, .v, .x].find? (fun m => m.char == c)

/-- The object types of a key record (R189). -/
inductive ObjType where
  | symmetric | dectab | privateKey
deriving DecidableEq, Repr, Inhabited

/-- The object type code (R189). -/
def ObjType.code : ObjType → Nat
  | .symmetric => 1 | .dectab => 2 | .privateKey => 3

/-- A token profile (R161). -/
structure TokenProfile where
  keepHead : Nat
  keepTail : Nat
  check : Nat
  tweak : Nat
  vault : Bool
deriving DecidableEq, Repr, Inhabited

/-- The attributes of a key or table (R189). -/
structure Attrs where
  type : ObjType
  usage : Usage
  alg : Alg
  mode : ModeOfUse
  exportable : Bool
  keyVersion : Nat
  useLimit : Nat
  notAfter : Nat
  externalIv : Bool
  profile : Option TokenProfile
  keySetId : Bytes
  initialKeyId : Bytes
  hmacSha512 : Bool
  dualControl : Bool
deriving DecidableEq, Repr, Inhabited

/-- A stored object of a bay: a key record and its key field (R205), with the flags, the uses left and the uses reserved
in the checkpoint area (R190), and whether its record authenticates. -/
structure Obj where
  attrs : Attrs
  key : Bytes
  format : Nat
  created : Nat
  deletedAt : Option Nat
  restorePending : Bool
  usesLeft : Nat
  usesReserved : Nat
  timeStamp : Bytes
  intact : Bool
deriving DecidableEq, Repr, Inhabited

/-- A session key: a key that lives in the key cache only, with the epoch of its handle (R188, R192). -/
structure SessKey where
  obj : Obj
  powerSeq : Nat
  gen : Nat
deriving DecidableEq, Repr, Inhabited

/-- The nonce counter of a key: salt, next value, the first value above the last durable reservation, whether a
reservation write is on its way, and whether the last value has been assigned (R240 to R246). -/
structure Nonce where
  salt : Bytes
  next : Nat
  reservedTo : Nat
  reserving : Bool
  exhausted : Bool
deriving DecidableEq, Repr, Inhabited

/-- A lane register: a value, the usage and algorithm it is tagged with, and whether it is tagged as a session key or as a
shared secret (R65, R69, R274). -/
structure Lane where
  val : Bytes
  usage : Usage
  alg : Alg
  session : Bool
  secret : Bool
deriving DecidableEq, Repr, Inhabited

/-- One of the 512 contexts: its state, the request it holds, its general registers, data buffer, key handles and lane
registers, whether its slot was an owned slot, the micro-operations outstanding, the PIN-lane value and the PIN unit's
output waiting for it, the deferred status of R106, and the bay's translation and limit settings in effect at dispatch
(PERMIT, DOWNGRADE, MAC_MIN, PIN_MIN, PIN_MAX, R132), the value of a PIN verification key's encryption on the PIN lane, and
the status of the last completion token (R65, R68 to R71). -/
structure Ctx where
  state : CtxState
  req : Option Request
  owned : Bool
  regs : Tab DWord
  buf : Tab Byte
  handles : List Nat
  lanes : Tab Lane
  outstanding : Nat
  pinLane : Option Bytes
  pinOut : Option Bytes
  pinRef : Option Bytes
  deferred : Status
  policy : List Nat
  last : Status
deriving DecidableEq, Repr, Inhabited

/-- A context that holds nothing (R66, R71). -/
def Ctx.empty : Ctx := ⟨.free, none, false, [], [], [], [], 0, none, none, none, .ok, [], .ok⟩

/-- What a program image states of one function it implements: its code, its version and whether its outputs are
verifiable on other modules (ch. 02, R84, R85). -/
structure ImageFunc where
  func : Nat
  version : Nat
  verifiable : Bool
deriving DecidableEq, Repr, Inhabited

/-- A function program image: version, FORMAT_MAX and the functions it implements (R83, R218). -/
structure Image where
  version : Nat
  formatMax : Nat
  funcs : List ImageFunc
deriving DecidableEq, Repr, Inhabited

/-- A bay whose reset action was taken and whose quiet is not declared: the cycle of the last action, and whether the key
cache has still to overwrite the bay's entries (R322, R324). -/
structure ResetWait where
  since : Nat
  flushing : Bool
deriving DecidableEq, Repr, Inhabited

/-! ## Events, records, counters (ch. 16) -/

/-- An entry of a bay's event ring (R336). -/
structure RingEntry where
  seq : Nat
  event : Event
  rep : Nat
  p0 : Nat
  p1 : Nat
deriving DecidableEq, Repr, Inhabited

/-- A Mark record without its CRC, which is computed where the record is read (R533). -/
structure Mark where
  seq : Nat
  event : Event
  rep : Nat
  island : Island
  unit : Nat
  p0 : Nat
  p1 : Nat
  p2 : Nat
  p3 : Nat
deriving DecidableEq, Repr, Inhabited

/-- Occurrences of a counted event on their way from an island's accumulator to the PC page, with the scheduler cycle
they took place in; level marks a cycle in which a condition held, which only a level counter counts (R542, R543). -/
structure Occ where
  code : Nat
  bay : Option Nat
  qual : Nat
  weight : Nat
  cycle : Nat
  level : Bool
deriving DecidableEq, Repr, Inhabited

/-- An item waiting to be sent to an events session (R532). -/
inductive EvItem where
  | ring (e : RingEntry)
  | main (m : Mark)
  | plinth (m : Mark)
deriving DecidableEq, Repr, Inhabited

/-! ## Faces (ch. 09) -/

/-- What the face's checks leave of an accepted Slofavar frame of a session: its source, session and process identifier
(R348, R349). -/
structure FrameHdr where
  src : Client
  session : Nat
  pid : Nat
deriving DecidableEq, Repr, Inhabited

/-- A live Slofavar session: identifier, target (bay, or 256 for the manager), flags, replay window (H and the accepted
values in it), last client address, frames sent, unsent event items and whether some were dropped, and the session keys
as the session table of the frame ciphers holds them (R355, R360, R531). -/
structure Session where
  pid : Nat
  target : Nat
  events : Bool
  idePsk : Bool
  high : Nat
  seen : List Nat
  src : Client
  sent : Nat
  unsent : List EvItem
  dropped : Bool
  keys : Bytes
deriving DecidableEq, Repr, Inhabited

/-- The stage of a handshake: waiting for its Voussoir jobs, HELLO_S sent, FINISH_C being checked (R354). -/
inductive HsStage where
  | jobs | helloSent
deriving DecidableEq, Repr, Inhabited

/-- A handshake in progress, with the status of a job of it that failed (R354, R355, R357). -/
structure Handshake where
  stage : HsStage
  src : Client
  pid : Nat
  events : Bool
  idePsk : Bool
  nonceC : Bytes
  nonceM : Bytes
  pointC : Bytes
  kemKeyC : Bytes
  helloC : Bytes
  okm : Bytes
  failed : Status
deriving DecidableEq, Repr, Inhabited

/-- A request whose fragments are not all received: the header fields that must agree and the fragments so far (R351);
ended marks one that has had its response and whose further fragments are dropped until its 10 ms are over. -/
structure Partial where
  reqId : Nat
  func : Nat
  fragCount : Nat
  deadline : Nat
  tlvLen : Nat
  pid : Nat
  frags : Tab Bytes
  ended : Bool
deriving DecidableEq, Repr, Inhabited

/-- A bulk descriptor, its address fields apart from the output buffer taken up by the data the face fetched (R235). -/
structure BulkDesc where
  op : Nat
  ivMode : Nat
  handle : Nat
  aadLen : Nat
  payLen : Nat
  outAddr : Nat
  iv : Bytes
  reqId : Nat
  reservedZero : Bool
deriving DecidableEq, Repr, Inhabited

/-- A record in reassembly on a network stream (R364). -/
structure Reasm where
  number : Nat
  desc : Option BulkDesc
  pieces : Tab Bytes
  last : Option Nat
deriving DecidableEq, Repr, Inhabited

/-- An open bulk stream of the network face (R363). -/
structure Stream where
  session : Nat
  owner : Nat
  closing : Bool
  reasm : List Reasm
deriving DecidableEq, Repr, Inhabited

/-- The host-face side of a ring pair: request tail, completion head, descriptors in flight, unsignalled completion
entries, and a count of the resets of the ring (R366 to R369, R377). -/
structure HostRing where
  tail : Nat
  cplHead : Nat
  inflight : Nat
  unsignalled : Nat
  epoch : Nat
deriving DecidableEq, Repr, Inhabited

/-! ## Crossings (ch. 01) -/

/-- A clock-domain crossing: sending and receiving domain, its Mortar port (0xFFFF for none), and the page that owns it
(R27, R33, R567). -/
structure Xing where
  tx : Nat
  rx : Nat
  port : Nat
  owner : Option (Blk × Nat)
deriving DecidableEq, Repr, Inhabited

/-! ## Token entries and bundles (ch. 04, 05) -/

/-- The state of a token entry (R166 to R171): live, retired at a Plinth second, or restore pending. -/
inductive EntryState where
  | live | retired (at_ : Nat) | restoring
deriving DecidableEq, Repr, Inhabited

/-- A vault-mode token entry (R167). -/
structure TokenEntry where
  bay : Nat
  pan : List Nat
  token : List Nat
  reference : Bytes
  created : Nat
  format : Nat
  state : EntryState
deriving DecidableEq, Repr, Inhabited

/-- An object or token entry of a bundle with what travels (R214). -/
structure BundleItem where
  handle : Nat
  obj : Obj
deriving DecidableEq, Repr, Inhabited

/-- A backup bundle as it crosses the boundary: format version, identifiers, the bay, its objects and token entries
(R214). -/
structure Bundle where
  format : Nat
  bundleId : Bytes
  backupId : Bytes
  bay : Nat
  objects : List BundleItem
  entries : List TokenEntry
deriving DecidableEq, Repr, Inhabited

/-! ## Operands of commands -/

/-- Where a micro-operation takes its key from (R68): a handle, or a lane register from a number on, so many bytes. -/
inductive KeySrc where
  | handle (h : Nat)
  | lane (n len : Nat)
deriving DecidableEq, Repr, Inhabited

/-- Where a micro-operation takes data from (R68): general registers from a number on, the data buffer, lane registers, or
the value the PIN unit holds for the context. -/
inductive Src where
  | none
  | regs (first n : Nat)
  | buf (off len : Nat)
  | lane (n len : Nat)
  | pinUnit
deriving DecidableEq, Repr, Inhabited

/-- The destination a program names for a micro-operation (R68, R69). -/
inductive MicroDest where
  | none
  | reg (n : Nat)
  | buf (off : Nat)
  | lane (n : Nat)
  | pinLane
deriving DecidableEq, Repr, Inhabited

/-- The operations of a CIPHER micro-operation (R69, R127). -/
inductive CipherKind where
  | derive (usage : Usage) (alg : Alg)
  | unwrap
  | wrap
  | decrypt
  | encrypt
  | mac (len : Nat)
  | macVerify (tag : Src)
  | cvv (len : Nat)
deriving DecidableEq, Repr, Inhabited

/-- The modes of a CIPHER micro-operation (R226): the ciphers' modes, the PIN-block mode with a format and the PAN digits,
and HMAC on a hash core (R258). -/
inductive CipherMode where
  | ecb
  | cbc (iv : Src)
  | ctr (iv : Src)
  | cmac
  | iso1 (padding : Nat)
  | iso3 (padding : Nat)
  | pinBlock (format : Nat) (pan : Src)
  | hmac256
  | hmac512
deriving DecidableEq, Repr, Inhabited

/-- A CIPHER micro-operation (R68, R69). -/
structure CipherOp where
  key : KeySrc
  kind : CipherKind
  mode : CipherMode
  src : Src
  dest : MicroDest
deriving DecidableEq, Repr, Inhabited

/-- The functions of a hash core, a SHAKE with its output length (R257). -/
inductive HashFn where
  | sha224 | sha256 | sha384 | sha512 | sha3224 | sha3256 | sha3384 | sha3512
  | shake128 (n : Nat)
  | shake256 (n : Nat)
deriving DecidableEq, Repr, Inhabited

/-- The steps of a PIN micro-operation (R68, R104 to R116, R128). -/
inductive PinOp where
  /-- Check the PIN field on the PIN lane against a format and build a field of another format. -/
  | translate (fi fo : Nat)
  /-- Check the field and compare the offset of its PIN; the natural digits come from the V1 encryption. -/
  | verifyOffset (f len : Nat) (table : Nat) (offset : Src)
  /-- Check the field and give the offset of its PIN. -/
  | offset (f len : Nat) (table : Nat)
  /-- Check the field and build the data of the PVV encryption. -/
  | pvvData (f : Nat) (pan : Src) (pvki : Nat)
  /-- Compare a PVV with the decimalized V2 encryption. -/
  | verifyPvv (pvv : Src)
  /-- Give the PVV of the V2 encryption. -/
  | pvv
  /-- Draw a PIN of so many digits and build its field. -/
  | generate (n fo : Nat)
  /-- Give the card verification value of the C0 computation. -/
  | cvv (len : Nat)
  /-- Compare a card verification value. -/
  | verifyCvv (value : Src)
deriving DecidableEq, Repr, Inhabited

/-- A KEY micro-operation (R68): load a key, derive a key from a shared secret in lane registers into the cache (R274),
unwrap a record into the cache. -/
inductive KeyOp where
  | load (h : Nat)
  | derive (lane len : Nat) (attrs : Attrs) (keyLen : Nat)
  | unwrap (h : Nat)
deriving DecidableEq, Repr, Inhabited

/-- A RAND micro-operation (R68): so many registers, or a key of so many bytes for a lane register. -/
inductive RandOp where
  | regs (first n : Nat)
  | lane (n len : Nat) (usage : Usage) (alg : Alg)
deriving DecidableEq, Repr, Inhabited

/-- A VAULT micro-operation (R68): read a record into the cache, or write the key of a lane register as a new record with
its attributes, its handle to a general register. -/
inductive VaultOp where
  | read (h : Nat)
  | write (n len : Nat) (attrs : Attrs) (dest : Nat)
deriving DecidableEq, Repr, Inhabited

/-- A PK micro-operation (R68): the operation by its function code, the private key, the public inputs, and where its
output goes, a shared secret to lane registers. -/
structure PkOp where
  func : Nat
  key : Nat
  inputs : List Src
  dest : MicroDest
deriving DecidableEq, Repr, Inhabited

/-- What a microcode image states, and whether its signing key and its signature verify (R296 to R298). -/
structure Ucode where
  version : Nat
  release : Nat
  formatMax : Nat
  authentic : Bool
deriving DecidableEq, Repr, Inhabited

/-- A microcode store error met in a job (R300). -/
inductive EccEvent where
  | none | corrected | uncorrectable
deriving DecidableEq, Repr, Inhabited

/-- The bank of a core that an abort reaches (R250, R259): CUR or NEXT of a cipher core, or a hash core. -/
inductive CoreSel where
  | cur (c : Fin 128)
  | next (c : Fin 128)
  | hash (h : Fin 16)
deriving DecidableEq, Repr, Inhabited

/-- The unit whose bank holds the job that a message belongs to: a core's bank, or a Voussoir engine (R253, R295). -/
inductive FlitUnit where
  | none
  | core (k : CoreSel)
  | engine (e : Fin 16)
deriving DecidableEq, Repr, Inhabited

/-- The registers that PN_BAY_WRITE writes (R132). -/
inductive PnReg where
  | limits | gov | govCtl
deriving DecidableEq, Repr, Inhabited

/-! ## What the block sends -/

/-- A register access's answer: the status and the data read (R38, R353). -/
structure Answer where
  status : Status
  data : Nat
deriving DecidableEq, Repr, Inhabited

/-- The header of a Mortar message (R21). -/
structure Header where
  dst : Nat
  src : Nat
  cls : Nat
  origin : Origin
  bay : Nat
  gen : Nat
  tag : Nat
  op : Nat
  len : Nat
  addr : Nat
deriving DecidableEq, Repr, Inhabited

/-- How a PCIe read completes: successfully, with Unsupported Request (R371, R469) or with Completer Abort (R489). -/
inductive TlpEnd where
  | ok | unsupported | abort
deriving DecidableEq, Repr, Inhabited

/-- The operations of a CLASS 0 request that a gate checks (R21, R462). -/
inductive AccessOp where
  | read | write | posted | fetch
deriving DecidableEq, Repr, Inhabited

/-- The OP code of an operation (R21). -/
def AccessOp.code : AccessOp → Nat
  | .read => 0 | .write => 1 | .posted => 2 | .fetch => 6

/-- Where the answer to an access goes: to its requester on the die, a PCIe completion, a MGMT_RESPONSE, the debug port, into
the one response of a split access (R38), or nowhere (R469). -/
inductive Reply where
  | none
  | requester
  | half (id : Nat) (upper : Bool)
  | tlp (tag : Nat)
  | mgmt (session reqId : Nat)
  | tap
deriving DecidableEq, Repr, Inhabited

/-- A target at a Mortar port that no register page serves: its gate, where one stands in front of it, the header of the
message, the crossing behind the port, and the unit whose lock entries a flit meets (R21, R232, R461). -/
structure PortTarget where
  gate : Option Nat
  hdr : Header
  xing : Option Xing
  unit : FlitUnit
deriving DecidableEq, Repr, Inhabited

/-- An access to a register page, or a message to another target: operation, byte address, size in bytes, the data of a write,
who makes it, its Mortar source and destination ports, where the answer goes, the PASID of a TLP that carries one, and the
target where it is no register page (R21, R38, R366, R462). -/
structure Access where
  op : AccessOp
  addr : Nat
  size : Nat
  data : Bytes
  req : Requester
  src : Nat
  dst : Nat
  reply : Reply
  pasid : Option Nat
  port : Option PortTarget
deriving DecidableEq, Repr, Inhabited

/-- A 64-bit access that was split in two, and the answers of its halves so far (R38). -/
structure Split where
  whole : Access
  lower : Option Answer
  upper : Option Answer
deriving DecidableEq, Repr, Inhabited

/-- A crossing that is stalled or that holds something: the transactions refused while stalled, the accesses that have not
been acknowledged, oldest first (in a crossing into the Plinth the first of them is in the mailbox), and the pulses
pending (R30, R33 to R35, R567). -/
structure XingState where
  xing : Xing
  stalled : Bool
  refusals : Nat
  waiting : List Access
  pulses : Nat
deriving DecidableEq, Repr, Inhabited

/-- Everything the block sends to the outside or hands to a requester, in the order sent. -/
inductive Output where
  /-- The answer to a register access of a requester. -/
  | answer (req : Requester) (addr : Nat) (a : Answer)
  /-- The completion of a PCIe read of BAR0: tag, data, and how it ends (R469, R489). -/
  | tlp (tag : Nat) (data : Nat) (how : TlpEnd)
  /-- A RESPONSE of a session: sequence number, request ID, status and output TLVs (R351). -/
  | response (dest : Client) (session seq reqId : Nat) (status : Status) (out : List Tlv)
  /-- A MGMT_RESPONSE (R353). -/
  | mgmtResponse (dest : Client) (session seq reqId : Nat) (status : Status) (value : Nat)
  /-- An ALERT of a handshake (R354). -/
  | alert (dest : Client) (session : Nat) (status : Status)
  /-- HELLO_S: session ID, module nonce, module point, ML-KEM ciphertext, certificate, signature (R354). -/
  | helloS (dest : Client) (session : Nat) (nonce point cipher cert sig : Bytes)
  /-- FINISH_S: session, bound target, idle limit (R354). -/
  | finishS (dest : Client) (session target idle : Nat)
  /-- An EVENT frame (R532). -/
  | eventFrame (dest : Client) (session seq : Nat) (dropped : Bool) (items : List EvItem)
  /-- BULK_DATA frames with a record's output, then its completion (R364, R239). -/
  | bulkFrames (dest : Client) (session stream : Nat) (reqId : Nat) (status : Status) (iv out : Bytes)
  /-- An answer to an ARP request or a neighbour solicitation (R347). -/
  | neighbourAnswer (dest : Client) (ip mac : Nat)
  /-- Bytes written to host memory by DMA. -/
  | hostWrite (addr : Nat) (data : Bytes)
  /-- A completion-ring entry (R366). -/
  | ringEntry (owner ring index : Nat) (reqId : Nat) (status : Status) (phase : Nat) (outLen : Nat) (iv : Bytes)
  /-- An MSI-X message (R528). -/
  | msi (vector : Nat)
  /-- A configuration-request answer: Successful or Request Retry Status (R369). -/
  | config (retry : Bool)
  /-- A Mortar message carried to its destination port (R21). -/
  | mortar (h : Header) (payload : Bytes)
  /-- An answer of the SMBus target (R559). -/
  | smbus (bytes : Bytes)
  /-- A command to the card of an interface: T=1 block or command bytes. -/
  | card (iface : Nat) (apdu : Bytes)
  /-- The contacts of an interface are driven: activation or deactivation in the ISO order (R381, R397). -/
  | contacts (iface : Nat) (active : Bool)
  /-- A DOE or IDE message of the host face (R370). -/
  | doe (ok : Bool) (data : Bytes)
  /-- A bundle that an export sends on the manager's bulk stream, with the source identity certificate (R214, R215). -/
  | bundle (b : Bundle) (certificate : Bytes)
  /-- Bits shifted out of the TAP (R455). -/
  | tap (bits : Nat) (width : Nat)
deriving DecidableEq, Repr, Inhabited

end Sys2Proof.Machine
end

