-- ==== Sys2Proof/Machine/Stimuli.lean ====
section
/-! DEFINITION. Plain data that commands carry from outside: accesses, frames, descriptors, certificates' findings, card
answers, and what a firmware image states. -/

namespace Sys2Proof.Machine

/-! ## Faces (ch. 09) -/

/-- One fragment of a REQUEST (R351). -/
structure ReqFrag where
  reqId : Nat
  func : Nat
  frag : Nat
  fragCount : Nat
  deadline : Nat
  tlvLen : Nat
  data : Bytes
deriving DecidableEq, Repr, Inhabited

/-- A descriptor of a ring pair with what it points to, as the face fetched it (R235, R366). -/
inductive HostDesc where
  | func (reqId func deadline tlvLen outAddr outLen : Nat) (reservedZero : Bool) (tlvs : Bytes)
  | bulk (x : BulkDesc) (aad pay tag : Bytes)
deriving DecidableEq, Repr, Inhabited

/-- One BULK_DATA fragment (R364). -/
structure BulkPiece where
  stream : Nat
  number : Nat
  offset : Nat
  last : Bool
  desc : Option BulkDesc
  data : Bytes
deriving DecidableEq, Repr, Inhabited

/-- A UDP datagram's check value as the port finds it (R347). -/
inductive Checksum where
  | good | bad | zero
deriving DecidableEq, Repr, Inhabited

/-- A UDP datagram with the header of the Slofavar frame in it, and whether that frame authenticates under its session's
client key (R347, R349, R360). -/
structure Datagram where
  v6 : Bool
  dstIp : Nat
  dstPort : Nat
  fragment : Bool
  checksum : Checksum
  len : Nat
  version : Nat
  type : Nat
  length : Nat
  session : Nat
  seq : Nat
  auth : Bool
deriving DecidableEq, Repr, Inhabited

/-- What an Ethernet frame carries (R345, R347). -/
inductive EtherBody where
  | arp (ip : Nat)
  | neighbour (ip : Nat)
  | udp (x : Datagram)
  | pause
  | other
deriving DecidableEq, Repr, Inhabited

/-- A received Ethernet frame: source, 802.1Q tags, contents (R347). -/
structure EtherFrame where
  src : Client
  vlans : List Nat
  body : EtherBody
deriving DecidableEq, Repr, Inhabited

/-- The IDE_KM messages that act on a selective stream (R370). -/
inductive IdeMsg where
  | keyProg (key : Bytes)
  | keySetGo
  | keySetStop
deriving DecidableEq, Repr, Inhabited

/-- What FINISH_C brings, as the module's checks find it (R354, R357): the certificate's form, validity and authority key
identifier, and whether its signature verifies under that anchor and the transcript signature under its key. -/
structure ClientCert where
  form : Bool
  notBefore : Nat
  notAfter : Nat
  authorityKey : Bytes
  certSigned : Bool
  transcriptSigned : Bool
deriving DecidableEq, Repr, Inhabited

/-- A HELLO_C frame (R354): its source, identifier and flags, the client nonce, the point and the encapsulation key. -/
structure Hello where
  src : Client
  pid : Nat
  events : Bool
  idePsk : Bool
  nonce : Bytes
  point : Bytes
  kemKey : Bytes
deriving DecidableEq, Repr, Inhabited

/-! ## Cards (ch. 10) -/

/-- The characters of an ATR that the module uses (R385): TS, whether TCK and the structure hold, TA1, whether T=1 is
offered, whether TA2 is present and says T=1, clock stop X and classes Y (bit 0 class A, 1 B, 2 C) of the first TA for
T=15, IFSC, BWI, CWI and the error detection. -/
structure Atr where
  ts : Nat
  intact : Bool
  ta1 : Nat
  t1 : Bool
  ta2 : Option Bool
  clock : Option (Nat × Nat)
  ifsc : Nat
  bwi : Nat
  cwi : Nat
  crc : Bool
deriving DecidableEq, Repr, Inhabited

/-- A slot image of a card (R393), and whether its CRC holds. -/
structure SlotImage where
  kind : Nat
  flags : Nat
  version : Nat
  data : Bytes
  crcOk : Bool
deriving DecidableEq, Repr, Inhabited

/-- The card's response to a command (R391): a status word other than 0x9000, the card's identity with the check of its
signature, a slot image, a version counter, the check of WAKE's MAC, or success without data. -/
inductive CardAnswer where
  | refused (sw : Nat)
  | session (cardId keyHash : Nat) (signed : Bool)
  | slot (x : SlotImage)
  | written (version : Nat)
  | wake (macOk : Bool)
  | ok
deriving DecidableEq, Repr, Inhabited

/-- A T=1 block from the card (R388, R389): the last I-block of a response, a chained one, an R-block that acknowledges or
asks for the block again, S(WTX request), the answer to S(RESYNCH request), the echo of a PPS, or a block in error. -/
inductive T1Block where
  | response (a : CardAnswer)
  | chained
  | ack
  | again
  | wtx (m : Nat)
  | resynched
  | ppsEcho (exact : Bool)
  | bad
deriving DecidableEq, Repr, Inhabited

/-! ## Start (ch. 14, 15) -/

/-- A control-firmware image as its header states it: release, FORMAT_MAX, PAIR_MIN, and whether its signature verifies
(R494, R509). -/
structure FwImage where
  release : Nat
  formatMax : Nat
  pairMin : Nat
  signed : Bool
deriving DecidableEq, Repr, Inhabited

/-- What a measurement and plan leaves for an island: slack in 0.1 %, voltage in mV, frequency in MHz, and the headroom
left below 0.72 V at the floor, in mV (R517, R519, R524). -/
structure PlanItem where
  island : Nat
  slack : Nat
  mv : Nat
  mhz : Nat
  margin : Nat
deriving DecidableEq, Repr, Inhabited

/-- What a start attempt finds (R506 to R512): whether the Plinth program's digest holds, whether a start-table copy is
valid and the lowest release it permits, the noise sources that pass, the errors corrected in each helper copy, whether the
Vault mounts and the floor record reads, the slot's image with the microcode and program images it carries and whether it
reloads the Plinth program, a domain that does not come into regulation in stage A or in step 11, the plan of step 10, and
which Keystones complete their start. -/
structure StartFindings where
  program : Bool
  tables : Bool
  lowest : Nat
  noise : Nat
  errs : Option Nat × Option Nat
  mounts : Bool
  floorReads : Bool
  image : FwImage
  ucode : Ucode
  progs : List (Nat × Image)
  reload : Bool
  faultA : Option Nat
  faultB : Option Nat
  plan : List PlanItem
  starts : Bool × Bool
deriving DecidableEq, Repr, Inhabited

end Sys2Proof.Machine
end

