-- ==== Sys2Proof/Syntax.lean ====
section
/-! DEFINITION. The commands: one constructor for each row of the opcode table, with its operands. A command is an event
at the module's boundary or an event inside it that the spec gives a moment of its own; its operands are what the spec
leaves to the outside (an address, a value, a received frame, a physical measurement) or which of several units acts. -/

namespace Sys2Proof

open Sys2Proof.Machine

/-- A command of the block (spec/opcode_table.json). -/
inductive Instr where
  /-- REGISTER_WRITE (R7): A write to a register field that has no row of its own sets the field according to its
  type. size is in bytes. -/
  | registerWrite (req : Requester) (addr : BitVec 48) (size : Nat) (v : DWord)
  /-- RC_READ (R9): A read of an RC field returns its value and clears it; an event in the same clock is kept for the
  next read. -/
  | rcRead (req : Requester) (addr : BitVec 48)
  /-- INT_PENDING_WRITE (R40): Writing 1 to an INT_PENDING bit clears that bit in both INT_PENDING and INT_RAW. pg is
  the page index. -/
  | intPendingWrite (req : Requester) (pg : BitVec 16) (v : Word)
  /-- LOCK_WRITE (R41): Writing 1 to LOCK freezes every RWL field of the page until main power-up or module reset. pg
  is the page index. -/
  | lockWrite (req : Requester) (pg : BitVec 16) (v : Word)
  /-- SOFT_RESET (R41): Writing 1 to CTRL.SOFT_RESET aborts the block's work with its wipe and returns the page's
  fields to their reset values. pg is the page index, v the word written to CTRL. -/
  | softReset (req : Requester) (pg : BitVec 16) (v : Word)
  /-- BAR0_ACCESS (R47): A PCIe access to BAR0 is stamped as a manager or bay access and carried to the addressed
  page. stream is the secure stream the TLP comes in, src and dst the Mortar ports. -/
  | bar0Access (addr : BitVec 26) (write : Bool) (size : Nat) (v : DWord) (stream : Option (Fin 4)) (pasid : Option
    (BitVec 20)) (tag : Nat) (src : Nat) (dst : Nat)
  /-- MGMT_REQUEST (R353): A MGMT_REQUEST frame reads or writes a module address within the session's reach and is
  answered by MGMT_RESPONSE. src and dst are the Mortar ports. -/
  | mgmtRequest (h : FrameHdr) (reqId : Word) (op : Byte) (addr : BitVec 48) (v : Word) (src : Nat) (dst : Nat)
  /-- MORTAR_MESSAGE (R21): A Mortar message with its stamped header is carried from its source port to its
  destination port. size is an access's size in bytes, isl the requester's island; gate, x and unit are those of a
  target that no register page serves; quads are the quadrants on the way. -/
  | mortarMessage (h : Header) (payload : Bytes) (size : Nat) (isl : Island) (gate : Option (Fin 40)) (x : Option
    Xing) (unit : FlitUnit) (quads : List (Fin 4)) (stamp : Nat)
  /-- XING_UNSTABLE (R29): No two successive samples agree within 16 receiving clocks, so the value is discarded with
  ST_XING_TIMEOUT. unit is the unit of a job message. -/
  | xingUnstable (x : Xing) (unit : FlitUnit)
  /-- XING_TIMEOUT (R31): The acknowledge has not returned after 4,096 ring ticks, so the transaction ends with
  ST_XING_TIMEOUT and the crossing stalls. unit is the unit of a job message. -/
  | xingTimeout (x : Xing) (unit : FlitUnit)
  /-- XING_RESUMED (R33): The crossing sees the far side's toggles change, realigns, records EV_XING_RESUMED and
  applies pending aborts. -/
  | xingResumed (x : Xing)
  /-- PLINTH_TICK (R35): At each 32.768 kHz tick the Plinth takes up its mailboxes and checks the cell-watched
  sources. -/
  | plinthTick
  /-- TAMPER_DEMAND_RESEND (R35): Every 2 µs the tamper front-end resends a demand over a stalled tamper demand
  crossing until it is acknowledged. -/
  | tamperDemandResend
  /-- CLOCK_STOP (R253): A clock domain stops; its units keep their lock entries and state while transactions toward
  them time out. n is the domain. -/
  | clockStop (n : Fin 19)
  /-- CLOCK_RESTART (R33): A stopped clock domain restarts, letting its crossings realign. n is the domain. -/
  | clockRestart (n : Fin 19)
  /-- REQUEST_FRAGMENT (R351): An authenticated REQUEST fragment is stored, and the request is admitted once all its
  fragments agree and are present. -/
  | requestFragment (h : FrameHdr) (f : ReqFrag)
  /-- REQUEST_REASSEMBLY_TIMEOUT (R351): A request whose fragments are not all received within 10 ms is refused with
  ST_REASSEMBLY. The header names the session and the source that the response goes to. -/
  | requestReassemblyTimeout (h : FrameHdr) (reqId : Nat)
  /-- DESCRIPTOR_FETCH (R367): The host face fetches a descriptor from a ring once there is room, after checking the
  ring's PASID. The owner is a bay, or 256 for the manager. -/
  | descriptorFetch (owner : Fin 257) (ring : Fin 4) (x : HostDesc)
  /-- SCHEDULER_CYCLE (R59): Each scheduler cycle retires completions, applies due reset actions, fills two dispatch
  slots and grants bulk cores. -/
  | schedulerCycle
  /-- REQUEST_EXPIRE (R74): A request whose deadline cycle is reached is removed or stopped and completes with
  ST_EXPIRED. -/
  | requestExpire
  /-- COURSE_BOUNDARY (R60): At the first cycle of a course, staged changes are applied and the 1,024 slot owners are
  recomputed. -/
  | courseBoundary
  /-- ASHLAR_CLAIM (R231): The claim unit fills a free lock entry of an Ashlar core for a waiting payment micro-
  operation. -/
  | ashlarClaim
  /-- MICROOP_CIPHER (R69): A CIPHER micro-operation runs on a payment-pool core with output steered by key usage. -/
  | microopCipher (c : Fin 512) (op : CipherOp)
  /-- MICROOP_HASH (R68): A HASH micro-operation runs on a hash core. -/
  | microopHash (c : Fin 512) (f : HashFn) (src : Src) (dest : MicroDest)
  /-- MICROOP_PK (R286): A PK micro-operation has its key checked at the key island and waits for a Voussoir engine.
  -/
  | microopPk (c : Fin 512) (op : PkOp)
  /-- MICROOP_PIN (R572): A PIN micro-operation is sent to the PIN unit and waits for a free step lane. -/
  | microopPin (c : Fin 512) (op : PinOp) (dest : Fin 32)
  /-- MICROOP_KEY (R68): A KEY micro-operation loads, derives or unwraps a key into the cache and returns a status. -/
  | microopKey (c : Fin 512) (op : KeyOp)
  /-- MICROOP_RAND (R68): A RAND micro-operation draws from the bay's DRBG into a general or lane register. -/
  | microopRand (c : Fin 512) (op : RandOp)
  /-- MICROOP_VAULT (R68): A VAULT micro-operation reads a record into the cache or writes one to the Vault. -/
  | microopVault (c : Fin 512) (op : VaultOp)
  /-- MICROOP_COMPLETION (R92): A micro-operation's completion token returns to its context, and the program continues
  or ends on a fault status. -/
  | microopCompletion (c : Fin 512)
  /-- KEY_CACHE_FILL (R198): A cache miss fill from HBM or NAND completes with the record authenticated and unwrapped.
  The n-th fill in progress ends. -/
  | keyCacheFill (n : Nat) (fromNand : Bool)
  /-- SC_GROUP_DISPATCH_WRITE (R88): A write of SC_GROUP.DISPATCH_EN enables or stops dispatch to a group, refused if
  it would strand a pinned bay. -/
  | scGroupDispatchWrite (req : Requester) (g : Fin 16) (v : Word)
  /-- PROGRAM_IMAGE_LOAD (R83): A program image is copied into a group's program store and checked against its
  recorded digest. -/
  | programImageLoad (g : Fin 16) (img : Image) (intact : Bool)
  /-- SC_CORE_SPLIT_WRITE (R82): A write of SC_CORE_SPLIT stages a new payment and bulk pool split for the next course
  boundary. -/
  | scCoreSplitWrite (req : Requester) (v : Word)
  /-- SC_MODE_WRITE (R317): A write of SC_MODE.LENDING stages strict or lending mode for the next course boundary. -/
  | scModeWrite (v : Word)
  /-- SC_PIN_DATA_WRITE (R86): A write of SC_PIN_DATA stages a bay's program version pin for the next course boundary.
  -/
  | scPinDataWrite (v : Word)
  /-- PIN_TRANSLATION (R109): Function 0x0101 translates a PIN block between formats and keys. The context c that
  holds the request runs its program. -/
  | pinTranslation (c : Fin 512)
  /-- PIN_VERIFY_OFFSET (R113): Function 0x0110 verifies a PIN by the offset method. -/
  | pinVerifyOffset (c : Fin 512)
  /-- PIN_VERIFY_PVV (R116): Function 0x0111 verifies a PIN by the PVV method. -/
  | pinVerifyPvv (c : Fin 512)
  /-- PIN_OFFSET_GENERATION (R114): Function 0x0120 generates a PIN and its offset. -/
  | pinOffsetGeneration (c : Fin 512)
  /-- OFFSET_FROM_CHOSEN_PIN (R113): Function 0x0121 computes the offset of a chosen PIN. -/
  | offsetFromChosenPin (c : Fin 512)
  /-- PVV_FROM_CHOSEN_PIN (R116): Function 0x0122 computes the PVV of a chosen PIN. -/
  | pvvFromChosenPin (c : Fin 512)
  /-- RANDOM_PIN_PVV_GENERATION (R116): Function 0x0123 draws a random PIN and returns it enciphered with its PVV. -/
  | randomPinPvvGeneration (c : Fin 512)
  /-- PIN_CHANGE_OFFSET (R115): Function 0x0130 verifies the old PIN under its offset and returns the new PIN's
  offset. -/
  | pinChangeOffset (c : Fin 512)
  /-- PIN_CHANGE_PVV (R116): Function 0x0131 verifies the old PIN under its PVV and returns the new PVV. -/
  | pinChangePvv (c : Fin 512)
  /-- MAC_GENERATION (R124): Function 0x0140 computes a MAC tag over a message. -/
  | macGeneration (c : Fin 512)
  /-- MAC_VERIFICATION (R127): Function 0x0141 verifies a MAC tag inside the computing core. -/
  | macVerification (c : Fin 512)
  /-- CVV_GENERATION (R128): Function 0x0150 computes a card verification value. -/
  | cvvGeneration (c : Fin 512)
  /-- CVV_VERIFICATION (R128): Function 0x0151 verifies a card verification value. -/
  | cvvVerification (c : Fin 512)
  /-- PIN_LANE_GRANT (R572): A waiting PIN micro-operation takes the lowest free PIN unit step lane, first come first
  served. -/
  | pinLaneGrant
  /-- PIN_STEP_END (R106): A PIN unit step ends at its fixed length, returns ST_OK and holds the true status as
  deferred status. The step of a lane ends at a clock count. -/
  | pinStepEnd (lane : Fin 24) (clocks : Nat)
  /-- GOVERNOR_REFILL (R119): Once per millisecond RATE is added to the bay accumulator and whole thousands raise the
  level up to BURST. -/
  | governorRefill
  /-- PN_BAY_WRITE (R132): A write of PN_BAY_LIMITS, PN_BAY_GOV or PN_BAY_GOV_CTL is checked and staged for the next
  course boundary. -/
  | pnBayWrite (req : Requester) (reg : PnReg) (v : Word)
  /-- PN_BAY_XLATE_WRITE (R133): A write of PN_BAY_XLATE is staged, and setting DOWNGRADE needs a standing class 6
  authorization. -/
  | pnBayXlateWrite (req : Requester) (v : Word)
  /-- DUKPT_DATA_DECRYPTION (R144): Function 0x0210 derives a DUKPT data key and decrypts ciphertext. -/
  | dukptDataDecryption (c : Fin 512)
  /-- DUKPT_DATA_TRANSLATION (R144): Function 0x0211 decrypts DUKPT data and re-encrypts it under a D0 key with a
  hardware IV. -/
  | dukptDataTranslation (c : Fin 512)
  /-- DUKPT_INITIAL_KEY_EXPORT (R145): Function 0x0212 derives an initial key and exports it as a B1 key block. -/
  | dukptInitialKeyExport (c : Fin 512)
  /-- ARQC_VERIFICATION (R148): Function 0x0220 verifies an EMV ARQC. -/
  | arqcVerification (c : Fin 512)
  /-- ARQC_VERIFY_ARPC_GENERATION (R150): Function 0x0221 verifies an ARQC and always generates an ARPC, dropped on
  failure. -/
  | arqcVerifyArpcGeneration (c : Fin 512)
  /-- ARPC_GENERATION (R149): Function 0x0222 generates an ARPC. -/
  | arpcGeneration (c : Fin 512)
  /-- ISSUER_SCRIPT_MAC (R152): Function 0x0223 computes the issuer script MAC. -/
  | issuerScriptMac (c : Fin 512)
  /-- ISSUER_SCRIPT_ENCRYPTION (R152): Function 0x0224 encrypts issuer script data. -/
  | issuerScriptEncryption (c : Fin 512)
  /-- KEY_BLOCK_IMPORT (R157): Function 0x0230 checks and imports a key block and stores the key. -/
  | keyBlockImport (c : Fin 512)
  /-- KEY_BLOCK_EXPORT (R159): Function 0x0231 exports a key as a key block under a KBPK. -/
  | keyBlockExport (c : Fin 512)
  /-- KEY_CHECK_VALUE (R160): Function 0x0232 returns a key check value of a customer key. -/
  | keyCheckValue (c : Fin 512)
  /-- FF1_TOKENIZATION (R164): Function 0x0240 tokenizes a PAN with FF1. -/
  | ff1Tokenization (c : Fin 512)
  /-- FF1_DETOKENIZATION (R164): Function 0x0241 recovers a PAN from an FF1 token. -/
  | ff1Detokenization (c : Fin 512)
  /-- VAULT_TOKENIZATION (R169): Function 0x0242 returns the live token of a PAN or draws and writes a new vault
  entry. -/
  | vaultTokenization (c : Fin 512)
  /-- VAULT_DETOKENIZATION (R171): Function 0x0243 returns the PAN and reference of a live token. -/
  | vaultDetokenization (c : Fin 512)
  /-- VAULT_TOKEN_RETIREMENT (R171): Function 0x0244 retires a vault token entry. -/
  | vaultTokenRetirement (c : Fin 512)
  /-- INDEX_SLOT_CLAIM (R170): A request waiting on a pending index slot claims it when the owner releases it. -/
  | indexSlotClaim (c : Fin 512)
  /-- KEY_GENERATION (R193): Function 0x0301 draws a new symmetric key, stores it and returns its handle and check
  value. -/
  | keyGeneration (c : Fin 512)
  /-- KEY_DELETION (R193): Function 0x0302 marks a key record deleted. -/
  | keyDeletion (c : Fin 512)
  /-- ATTRIBUTE_CHANGE (R194): Function 0x0303 applies one of the permitted attribute changes. -/
  | attributeChange (c : Fin 512)
  /-- ECDSA_SIGNATURE (R275): Function 0x0501 makes an ECDSA signature. -/
  | ecdsaSignature (c : Fin 512)
  /-- ECDSA_VERIFICATION (R275): Function 0x0502 verifies an ECDSA signature. -/
  | ecdsaVerification (c : Fin 512)
  /-- ECDH (R274): Function 0x0503 computes an ECDH shared secret into lane registers. -/
  | ecdh (c : Fin 512)
  /-- ED25519_SIGNATURE (R275): Function 0x0504 makes an Ed25519 signature. -/
  | ed25519Signature (c : Fin 512)
  /-- ED25519_VERIFICATION (R275): Function 0x0505 verifies an Ed25519 signature. -/
  | ed25519Verification (c : Fin 512)
  /-- RSA_SIGNATURE (R275): Function 0x0506 makes an RSA signature. -/
  | rsaSignature (c : Fin 512)
  /-- RSA_VERIFICATION (R275): Function 0x0507 verifies an RSA signature. -/
  | rsaVerification (c : Fin 512)
  /-- RSA_PUBLIC_OPERATION (R275): Function 0x0508 computes input^e mod n. -/
  | rsaPublicOperation (c : Fin 512)
  /-- ML_KEM_ENCAPSULATION (R275): Function 0x0509 encapsulates a shared secret under an ML-KEM key. -/
  | mlKemEncapsulation (c : Fin 512)
  /-- ML_KEM_DECAPSULATION (R275): Function 0x050A decapsulates an ML-KEM ciphertext into a lane register. -/
  | mlKemDecapsulation (c : Fin 512)
  /-- ML_DSA_SIGNATURE (R281): Function 0x050B makes an ML-DSA signature. -/
  | mlDsaSignature (c : Fin 512)
  /-- ML_DSA_VERIFICATION (R275): Function 0x050C verifies an ML-DSA signature. -/
  | mlDsaVerification (c : Fin 512)
  /-- KEY_PAIR_GENERATION (R278): Function 0x050D generates a key pair and stores the private key. -/
  | keyPairGeneration (c : Fin 512)
  /-- REPOINT_SWEEP (R199): Every PERIOD_MS a new mask is drawn and a sweep rewrites each cache entry to it. -/
  | repointSweep
  /-- REPOINT_SWEEP_END (R199): A repointing sweep ends, and a late next sweep starts, setting SWEEP_LATE. -/
  | repointSweepEnd
  /-- KEY_CACHE_FLUSH_DONE (R200): An overwrite of cache entries after a bay reset or zeroize ends and FLUSH_DONE is
  set. -/
  | keyCacheFlushDone (bay : Option (Fin 256))
  /-- USE_RESERVATION_DURABLE (R190): A reservation of key uses in the checkpoint area becomes durable before the uses
  it covers are consumed. The n-th reservation being written. -/
  | useReservationDurable (n : Nat)
  /-- NONCE_RESERVATION_DURABLE (R244): A nonce counter block reservation becomes durable, or fails and ends the
  waiting record with ST_NONCE_RESERVE. The n-th counter, in index order, whose reservation is being written. -/
  | nonceReservationDurable (n : Nat) (ok : Bool)
  /-- VAULT_WRITE_DURABLE (R203): A Vault write becomes durable and the logical map is switched to the new location.
  The n-th write on its way. -/
  | vaultWriteDurable (n : Nat)
  /-- RETENTION_PURGE_CHECK (R207): At least hourly, deleted and retired records past their retention are purged and
  their quota released. -/
  | retentionPurgeCheck
  /-- NAND_REFRESH (R521): The Vault controller scans NAND blocks and rewrites those with high error counts or old
  data. -/
  | nandRefresh (blocks : Nat) (progress : Fin 101) (days : BitVec 16) (wear : Byte)
  /-- RN_SOURCE_FAIL (R209): A noise source that fails a health test is excluded and EV_RN_SOURCE_FAIL is recorded.
  Test 0 repetition count, 1 adaptive proportion. -/
  | rnSourceFail (source : Fin 8) (test : Fin 2)
  /-- RN_STARTUP_TEST_DONE (R209): The noise sources finish their start-up tests over their first 1,024 samples. -/
  | rnStartupTestDone (passed : Byte)
  /-- DRBG_RESEED (R211): A DRBG instance reseeds after RN_RESEED.MS or 2^20 generate requests. -/
  | drbgReseed (gen : Fin 257)
  /-- ROOT_REGENERATION_DONE (R177): Root regeneration ends; ROOT reads 2 if the identity key matches the reference
  key, otherwise 3 with EV_ROOT_FAIL. For each helper copy the errors corrected, where it decodes. -/
  | rootRegenerationDone (errs : Option Nat × Option Nat)
  /-- KT_RAISE_FLOOR (R219): KT_CMD operation 0x01 raises the fleet format floor under a standing quorum. -/
  | ktRaiseFloor (req : Requester)
  /-- KT_SET_EXTERNAL_IV (R224): KT_CMD operation 0x02 sets External IV on a D0 AES key under a standing quorum. -/
  | ktSetExternalIv (req : Requester) (bay : Fin 256)
  /-- KT_CLEAR_EXTERNAL_IV (R224): KT_CMD operation 0x03 clears External IV on a D0 AES key. -/
  | ktClearExternalIv (bay : Fin 256)
  /-- KT_INSTALL_CERTIFICATE (R187): KT_CMD operation 0x04 installs the identity certificate in PROVISIONED. -/
  | ktInstallCertificate (req : Requester) (key : Option Bytes) (signed : Bool)
  /-- KC_BAY_QUOTA_WRITE (R196): A key-cache quota write is checked against the sum limit and staged. -/
  | kcBayQuotaWrite (req : Requester) (bay : Fin 256) (v : Word)
  /-- VT_BAY_QUOTA_WRITE (R223): A Vault quota write is checked against the objects area and staged. -/
  | vtBayQuotaWrite (req : Requester) (bay : Fin 256) (v : Word)
  /-- BACKUP_KEY_CREATION (R213): A backup key is drawn, split into Shamir shares written to Eweom slots, and erased.
  -/
  | backupKeyCreation (req : Requester) (m : Nat) (n : Nat)
  /-- BUNDLE_EXPORT (R214): VT_BUNDLE_CTL operation 1 exports a bay's objects as a bundle under a standing quorum. -/
  | bundleExport (req : Requester) (src : Fin 256)
  /-- BUNDLE_RESTORE (R216): VT_BUNDLE_CTL operation 2 checks a bundle and restores it into the destination bay. -/
  | bundleRestore (req : Requester) (src : Fin 256) (dst : Fin 256) (b : Bundle) (manifest : Bool) (chunks : Bool)
  /-- BUNDLE_ABORT (R215): VT_BUNDLE_CTL operation 3 aborts the bundle operation in progress. -/
  | bundleAbort
  /-- BUNDLE_DONE (R216): A bundle operation ends; a restore commits by clearing all restore-pending flags. -/
  | bundleDone
  /-- BULK_ENCRYPT (R237): Bulk OP 0x01 encrypts a record with AES-GCM and writes ciphertext and tag. The core's CUR
  record is run. -/
  | bulkEncrypt (c : Fin 128)
  /-- BULK_DECRYPT (R238): Bulk OP 0x02 decrypts a record to staging and releases plaintext only if the tag verifies.
  -/
  | bulkDecrypt (c : Fin 128)
  /-- GMAC_GENERATE (R237): Bulk OP 0x03 computes a GMAC tag over header data. -/
  | gmacGenerate (c : Fin 128)
  /-- GMAC_VERIFY (R238): Bulk OP 0x04 verifies a GMAC tag. -/
  | gmacVerify (c : Fin 128)
  /-- ASHLAR_JOB_END (R248): An Ashlar job ends; its bank is wiped and checked, then its completion is presented and
  its lock entry freed. wiped says whether the wipe check passes. -/
  | ashlarJobEnd (c : Fin 128) (wiped : Bool)
  /-- JOB_ABORT (R250): An abort reaches an Ashlar or hash core, and the job ends at its next block boundary with a
  wipe. -/
  | jobAbort (sel : CoreSel) (wiped : Bool)
  /-- AS_OFFLINE_WRITE (R234): Writing AS_SERVICE.OFFLINE takes a cipher core out of both pools after its jobs end. -/
  | asOfflineWrite (c : Fin 128) (v : Word)
  /-- HS_OFFLINE_WRITE (R259): Writing HS_SERVICE.OFFLINE takes a hash core out of service after its job ends. -/
  | hsOfflineWrite (h : Fin 16) (v : Word)
  /-- HASH_JOB_END (R259): A hash core job ends, and its bank is wiped and checked before the completion. -/
  | hashJobEnd (h : Fin 16) (wiped : Bool)
  /-- VOUSSOIR_CLAIM (R314): The claim unit grants a free Voussoir engine to a waiting job by Voussoir-share stride.
  -/
  | voussoirClaim
  /-- VOUSSOIR_JOB_END (R291): A Voussoir job ends after its fixed clock count, is wiped and checked, and presents its
  completion. The job of engine e ends at a clock count. -/
  | voussoirJobEnd (e : Fin 16) (clocks : Nat) (wiped : Bool) (ecc : EccEvent)
  /-- VOUSSOIR_ABORT (R293): An abort stops the engine's sequencer within 8 clocks and presents ST_ABORTED after the
  wipe. -/
  | voussoirAbort (e : Fin 16) (wiped : Bool)
  /-- VS_OFFLINE_WRITE (R295): Writing VS_SERVICE.OFFLINE stops further claims on an engine. -/
  | vsOfflineWrite (e : Fin 16) (v : Word)
  /-- VS_UCODE_LOAD (R297): Writing VS_UCODE_CTL.LOAD starts loading and verifying a microcode image into an offline
  engine. -/
  | vsUcodeLoad (req : Requester) (e : Fin 16) (v : Word)
  /-- VS_UCODE_LOAD_DONE (R297): A microcode load ends with VALID set, or fails with EV_VS_UCODE_FAIL. -/
  | vsUcodeLoadDone (e : Fin 16) (u : Ucode)
  /-- IDENTITY_KEY_DERIVATION (R265): The boot routine of engine 0 derives the P-521 identity public key from the
  identity node. -/
  | identityKeyDerivation
  /-- BOOT_SIGNATURE_VERIFY (R265): The boot routine verifies an ECDSA P-521 signature for the Footing ROM. -/
  | bootSignatureVerify (point : Bytes) (message : Bytes) (sig : Bytes)
  /-- BOOT_SHA512 (R265): The boot routine computes SHA-512 of a stream for the Footing ROM. -/
  | bootSha512 (message : Bytes)
  /-- BIND (R305): Bind command binds a process identifier to a bay or the manager. The target is a bay, or the
  manager for none. -/
  | bind (target : Option (Fin 256)) (pid : BitVec 20)
  /-- UNBIND (R305): Unbind command frees a process identifier's binding entry. -/
  | unbind (target : Option (Fin 256)) (pid : BitVec 20)
  /-- BIND_QUERY (R305): Query command reports whether an identifier is bound to the target. -/
  | bindQuery (target : Option (Fin 256)) (pid : BitVec 20)
  /-- BY_SHARE_WRITE (R308): A write of a course, Voussoir or bulk share is checked against the sum limit and staged.
  Kind 0 course, 1 Voussoir, 2 bulk. -/
  | byShareWrite (req : Requester) (bay : Fin 256) (kind : Fin 3) (v : Word)
  /-- BY_QUEUE_WRITE (R311): A queue depth write is checked against the sum limit and staged. -/
  | byQueueWrite (req : Requester) (bay : Fin 256) (v : Word)
  /-- BY_CTX_WRITE (R312): A context limit write is staged for the next course boundary. -/
  | byCtxWrite (req : Requester) (bay : Fin 256) (v : Word)
  /-- BAY_RESET (R320): A write of CTRL.SOFT_RESET in a BY page requests a reset of that bay. -/
  | bayReset (bay : Fin 256) (v : Word)
  /-- BAY_SELF_RESET (R320): A write of BW_RESET requests a reset of the bay, dropped unless SELF_RESET_EN is 1. -/
  | baySelfReset (req : Requester) (bay : Fin 256) (v : Word)
  /-- BAY_RESET_ACTION (R321): In step 4 of the next cycle the generation rises, old requests complete with
  ST_BAY_RESET and aborts are sent. -/
  | bayResetAction (bay : Fin 256)
  /-- BAY_QUIET (R324): When every unit has acknowledged, the bay is declared quiet and EV_BAY_QUIET is placed in its
  ring. -/
  | bayQuiet (bay : Fin 256)
  /-- BAY_QUIET_FORCED (R325): 200 µs after the reset action, a bay with unacknowledged stalled units is declared
  quiet anyway. -/
  | bayQuietForced (bay : Fin 256)
  /-- BW_EV_TAIL_WRITE (R338): A write of BW_EV_TAIL moves the tail forward if within the unread range, otherwise is
  dropped. -/
  | bwEvTailWrite (req : Requester) (bay : Fin 256) (v : Word)
  /-- LANE_MODE_WRITE (R344): A write of NF_LANE_MODE changes group modes, takes down their links and starts
  negotiation. -/
  | laneModeWrite (req : Requester) (v : Word)
  /-- LINK_TRAINING_DONE (R346): Link training ends, storing lane losses, cable length estimate and partner base page.
  The losses, the cable estimate and the partner's page are what the port measured. -/
  | linkTrainingDone (port : Fin 16) (losses : List Byte) (cable : Fin 32) (partner : BitVec 48)
  /-- LINK_DOWN (R345): A port's link goes down and LINK_CHANGE is set. -/
  | linkDown (port : Fin 16)
  /-- ETHERNET_FRAME (R347): A received Ethernet frame is filtered, answered if ARP or neighbour solicitation, or
  passed as a Slofavar datagram. With the FEC codewords corrected and uncorrectable on the way. -/
  | ethernetFrame (x : EtherFrame) (corrected : Nat) (uncorrectable : Nat)
  /-- HELLO_C (R354): A HELLO_C frame starts a handshake and its Voussoir supervisor jobs. -/
  | helloC (x : Hello)
  /-- HELLO_S (R354): When the handshake jobs end, the session keys are derived and HELLO_S is sent. -/
  | helloS (session : Word)
  /-- FINISH_C (R357): A FINISH_C frame is checked, and the module sends FINISH_S or ALERT. -/
  | finishC (src : Client) (session : Word) (auth : Bool) (c : ClientCert)
  /-- HANDSHAKE_TIMEOUT (R359): A handshake whose FINISH_C has not authenticated within 1 s of HELLO_S is erased. -/
  | handshakeTimeout (session : Word)
  /-- SESSION_IDLE_TIMEOUT (R362): A session with no authenticated client frame for NF_SESSION_IDLE.S seconds ends. -/
  | sessionIdleTimeout (session : Word)
  /-- SESSION_CLOSE (R362): A CLOSE frame ends the session and erases its entry. -/
  | sessionClose (h : FrameHdr)
  /-- SESSION_KILL (R362): A write of NF_SESSION_KILL ends the named session. -/
  | sessionKill (session : Word)
  /-- STREAM_OPEN (R363): A STREAM_OPEN frame opens a bulk stream and is answered with its stream number. -/
  | streamOpen (h : FrameHdr) (reqId : Nat)
  /-- STREAM_CLOSE (R363): A STREAM_CLOSE frame closes a stream once its records end. -/
  | streamClose (h : FrameHdr) (stream : Nat)
  /-- BULK_DATA (R364): A BULK_DATA fragment is reassembled into a record in HBM. -/
  | bulkData (h : FrameHdr) (p : BulkPiece)
  /-- BULK_REASSEMBLY_TIMEOUT (R364): A record not complete 100 ms after its first fragment ends with ST_REASSEMBLY.
  -/
  | bulkReassemblyTimeout (stream : Nat) (number : Nat)
  /-- EVENT_FRAME (R531): Waiting ring entries or Mark records are sent to an events session in an EVENT frame. -/
  | eventFrame (session : Word)
  /-- UTC_TICK (R375): Each second the module advances NF_UTC. -/
  | utcTick
  /-- HQ_DOORBELL (R368): The host writes a request ring tail to HQ_DOORBELL_r. The owner is a bay, or 256 for the
  manager; pasid is the prefix the write carries. -/
  | hqDoorbell (owner : Fin 257) (ring : Fin 4) (pasid : Option (BitVec 20)) (v : Word)
  /-- HQ_CPL_DOORBELL (R368): The host writes the consumed completion head to HQ_CPL_DOORBELL_r. -/
  | hqCplDoorbell (owner : Fin 257) (ring : Fin 4) (pasid : Option (BitVec 20)) (v : Word)
  /-- HQ_CFG_WRITE (R377): A write of HQ_CFG configures a ring pair or clears EN to stop descriptor fetch. -/
  | hqCfgWrite (owner : Fin 257) (ring : Fin 4) (v : Word)
  /-- PERST (R369): PERST# resets the host face link, rings and IDE state. -/
  | perst (asserted : Bool)
  /-- PCIE_CONFIG_REQUEST (R369): A PCIe configuration request is answered, with Retry Status until firmware is
  verified. A write of the MSI-X control word carries enable and function mask. -/
  | pcieConfigRequest (control : Option (Bool × Bool))
  /-- PCIE_LINK_UP (R530): The PCIe link comes up and held MSI-X markings send their messages. -/
  | pcieLinkUp (speed : Fin 6) (width : Fin 17)
  /-- SPDM_PSK_EXCHANGE (R370): A DOE PSK_EXCHANGE opens an SPDM secure session with the manager session's PSK. -/
  | spdmPskExchange (hint : Word) (verified : Bool)
  /-- IDE_KEY_PROG (R370): An IDE_KM KEY_PROG message programs stream keys over the session-key port. -/
  | ideKeyProg (stream : Fin 4) (m : IdeMsg)
  /-- MSIX_VECTOR_UNMASK (R528): Unmasking a pending vector sends one MSI-X message. The mask bit written. -/
  | msixVectorUnmask (vec : Fin 512) (masked : Bool)
  /-- IC_MAP_WRITE (R529): A write of IC_MAP sets an IRQ's vector and enable, keeping markings pending while disabled.
  -/
  | icMapWrite (v : Word)
  /-- CARD_ACTIVATE (R381): Writing CD_CTL.ACTIVATE starts ISO cold reset activation of a card. -/
  | cardActivate (cd : Fin 2)
  /-- CARD_DEACTIVATE (R397): Writing CD_CTL.DEACTIVATE deactivates the contacts in ISO order. -/
  | cardDeactivate (cd : Fin 2)
  /-- CARD_ATR (R385): A received ATR is checked and a PPS is negotiated if needed. -/
  | cardAtr (cd : Fin 2) (a : Atr)
  /-- ATR_TIMEOUT (R381): No ATR begins within 40,000 clocks of RST, so the interface retries with class B or records
  ST_CARD_ATR. -/
  | atrTimeout (cd : Fin 2)
  /-- CLASS_RETRY (R381): After 10 ms the interface retries activation with class B. -/
  | classRetry (cd : Fin 2)
  /-- PPS_RETRY (R386): After a failed PPS the interface reactivates after 10 ms without PPS. -/
  | ppsRetry (cd : Fin 2)
  /-- CARD_T1_BLOCK (R388): A T=1 block from the card is acknowledged, answered with an R-block on error, or WTX
  granted. -/
  | cardT1Block (cd : Fin 2) (b : T1Block)
  /-- CARD_WAIT_TIMEOUT (R388): A BWT or CWT overrun starts T=1 error recovery or ends the exchange with
  ST_CARD_TIMEOUT. -/
  | cardWaitTimeout (cd : Fin 2)
  /-- WTX_LIMIT (R389): A command reaching WTX_MAX_S ends with ST_CARD_TIMEOUT and the interface deactivates. -/
  | wtxLimit (cd : Fin 2)
  /-- CARD_CLOCK_STOP (R390): After IDLE_MS of idle time the card clock is stopped in the state X names. -/
  | cardClockStop (cd : Fin 2)
  /-- CARD_VCC_SAMPLE (R383): Every 100 µs VCC and load current are measured and wiring faults handled. VCC in mV and
  the current in 0.01 mA, as measured. -/
  | cardVccSample (cd : Fin 2) (mv : BitVec 16) (current : BitVec 16)
  /-- CARD_REMOVED (R397): A removal edge on card-detect is handled by REMOVE_MODE, observing or deactivating at once.
  -/
  | cardRemoved (cd : Fin 2)
  /-- CARD_INSERTED (R397): A card insertion is reported after the presence debounce. -/
  | cardInserted (cd : Fin 2)
  /-- CARD_OPEN_SESSION (R394): CD_CMD operation 1 selects Eweom and opens an authenticated secure-messaging session.
  The word written to CD_CMD. -/
  | cardOpenSession (req : Requester) (cd : Fin 2) (v : Word)
  /-- CARD_READ_SLOT (R393): CD_CMD operation 2 reads a slot image and checks its CRC. -/
  | cardReadSlot (req : Requester) (cd : Fin 2) (v : Word)
  /-- CARD_VERIFY (R392): CD_CMD operation 3 forwards the encrypted PIN block in VERIFY and clears the buffer. -/
  | cardVerify (req : Requester) (cd : Fin 2) (v : Word)
  /-- CARD_WRITE_SHARE (R396): CD_CMD operation 4 checks the slot's protection and writes a backup share. -/
  | cardWriteShare (req : Requester) (cd : Fin 2) (v : Word)
  /-- CARD_PROTECT_SLOT (R395): CD_CMD operation 5 sets a slot's permanent write-protect. -/
  | cardProtectSlot (req : Requester) (cd : Fin 2) (v : Word)
  /-- CARD_WAKE (R390): CD_CMD operation 6 restarts the card clock and re-validates the session with WAKE. -/
  | cardWake (req : Requester) (cd : Fin 2) (v : Word)
  /-- CARD_CLOSE (R391): CD_CMD operation 7 closes the Eweom session. -/
  | cardClose (req : Requester) (cd : Fin 2) (v : Word)
  /-- CEREMONY_OPEN (R402): CD_CER_CTL OPEN opens a ceremony of a class in GATHERING. -/
  | ceremonyOpen (req : Requester) (v : Word)
  /-- CEREMONY_CLOSE (R402): CD_CER_CTL CLOSE ends the open ceremony. -/
  | ceremonyClose (req : Requester)
  /-- CEREMONY_TIMEOUT (R404): A ceremony not STANDING within TIMEOUT_S returns to IDLE. -/
  | ceremonyTimeout
  /-- AUTHORIZATION_LAPSE (R404): A standing authorization whose operation has not started within HOLD_S lapses. -/
  | authorizationLapse
  /-- TAMPER_EVENT (R414): A sensor event is stamped and counted by its source's filter. The stamp is in the clock
  that watches the source; level marks a condition that lasts. -/
  | tamperEvent (source : Fin 42) (stamp : Nat) (reading : Word) (level : Bool)
  /-- TEMPERATURE_SAMPLE (R415): Every 1 ms the temperature sensors are sampled against their thresholds and warnings.
  Temperatures in quarters of a degree. -/
  | temperatureSample (t0 : Int) (t1 : Int) (t2 : Int) (stamp : Nat)
  /-- MESH_PATTERN_CHANGE (R426): Every 2 µs the front-end drives a new pattern on each mesh and compares the return.
  The meshes whose return differs. -/
  | meshPatternChange (differs : BitVec 4) (stamp : Nat)
  /-- SHARE_ERASE_DONE (R426): The Plinth overwrites and verifies the sealing share for a ZEROIZE_ROOT. -/
  | shareEraseDone
  /-- TM_RESUME (R424): A write of TM_RESUME returns E to 0 when permitted and regenerates the root after level 3. -/
  | tmResume (req : Requester) (v : Word)
  /-- TM_SRC_CFG_WRITE (R416): A write of TM_SRC_CFG changes a source's filter and response within the allowed limits.
  -/
  | tmSrcCfgWrite (req : Requester) (v : Word)
  /-- TM_FUSE_CMD (R418): A write of TM_FUSE_CMD under a fuse token starts programming a source's fuse bit. -/
  | tmFuseCmd (v : Word)
  /-- FUSE_DONE (R418): Fuse programming ends with read-back and a Cornerstone record. -/
  | fuseDone
  /-- CORNERSTONE_FLUSH (R434): A buffered record is linked, written to the Vault and freed once durable. -/
  | cornerstoneFlush
  /-- PLINTH_POWER_RESTORED (R437): The Plinth regains power after SRAM loss and writes a record of kind 0x0A that
  skips 256 numbers. -/
  | plinthPowerRestored
  /-- CS_READ (R440): A write of CS_READ_INDEX starts reading a Cornerstone record. -/
  | csRead (v : Word)
  /-- CS_READ_DONE (R440): A Cornerstone read ends with the record data or a status. -/
  | csReadDone
  /-- PLINTH_SECOND (R573): After SEALED, the Plinth seconds count rises by 1 each Plinth second. -/
  | plinthSecond
  /-- LC_TRANSITION_REQUEST (R443): Writing LC_CTRL.GO requests a life-cycle transition, checked before anything is
  programmed. -/
  | lcTransitionRequest (v : Word)
  /-- LC_STEP_DONE (R444): A transition step ends and its progress bit is programmed; after the last, groups are
  programmed and the module resets. ok is the finding of a step that checks. -/
  | lcStepDone (ok : Bool)
  /-- LC_CHALLENGE_NEW (R453): Writing LC_CHAL_CTL.NEW draws a new challenge. -/
  | lcChallengeNew (req : Requester) (v : Word)
  /-- CHALLENGE_EXPIRY (R453): A challenge ends 600 s after it was drawn. -/
  | challengeExpiry
  /-- TOKEN_SUBMIT (R454): Writing LC_TOKEN_CTL.SUBMIT ends the challenge and starts checking the token. -/
  | tokenSubmit (v : Word)
  /-- TOKEN_CHECK_DONE (R454): The token check ends, leaving a transition or fuse token standing or opening a debug
  session. signed says whether the signature verifies. -/
  | tokenCheckDone (signed : Bool)
  /-- TOKEN_STANDING_EXPIRY (R454): A standing transition or fuse token lapses 600 s after acceptance. -/
  | tokenStandingExpiry
  /-- TAP_IDCODE (R455): The IDCODE TAP instruction. stamp is the time for the tamper filters. -/
  | tapIdcode (stamp : Nat)
  /-- TAP_BYPASS (R455): The BYPASS TAP instruction. -/
  | tapBypass (stamp : Nat)
  /-- TAP_SAMPLE_PRELOAD (R455): The SAMPLE/PRELOAD TAP instruction. -/
  | tapSamplePreload (stamp : Nat)
  /-- TAP_EXTEST (R455): The EXTEST TAP instruction. -/
  | tapExtest (stamp : Nat)
  /-- TAP_INTEST (R455): The INTEST TAP instruction. -/
  | tapIntest (stamp : Nat)
  /-- TAP_DBG_AUTH (R455): The DBG_AUTH TAP instruction reaches the LC challenge and token registers. off is the
  offset in the LC page. -/
  | tapDbgAuth (off : BitVec 12) (write : Bool) (v : Word) (stamp : Nat)
  /-- TAP_DBG_ACCESS (R455): The DBG_ACCESS TAP instruction drives a debug master access. gate and x are those of a
  target that no register page serves. -/
  | tapDbgAccess (op : AccessOp) (addr : BitVec 48) (size : Nat) (v : DWord) (gate : Option (Fin 40)) (x : Option
    Xing) (src : Nat) (dst : Nat) (stamp : Nat)
  /-- DBG_END (R456): A write of DBG_CTL.END ends the open debug session. -/
  | dbgEnd (v : Word)
  /-- DEBUG_SESSION_EXPIRY (R456): A debug session ends when its session length runs out. -/
  | debugSessionExpiry
  /-- LG_COMMIT (R472): Writing LG_COMMIT.GO checks the staged bank and opens a drain. inflight is the number of
  accesses in flight under the old rules. -/
  | lgCommit (req : Requester) (g : Fin 40) (v : Word) (inflight : BitVec 16)
  /-- DRAIN_END (R474): INFLIGHT reaches 0, the staged bank becomes active and held accesses are checked. clocks is
  the length of the drain. -/
  | drainEnd (g : Fin 40) (clocks : Nat) (stamp : Nat)
  /-- GATE_DRAIN_TIMEOUT (R475): A drain not done within 2 µs faults every held and new access until it ends. -/
  | gateDrainTimeout (g : Fin 40)
  /-- KEYSTONE_INPUT (R478): The arbiter delivers a numbered input to both Keystones and compares their output
  digests. digest is the controller's; standby holds the standby's digests that arrive, for its oldest outstanding
  inputs. -/
  | keystoneInput (digest : DWord) (standby : List DWord) (stamp : Nat)
  /-- HEARTBEAT_WINDOW (R485): Every 100 µs the arbiter closes a heartbeat window and counts misses on each path. The
  operands say on which paths a heartbeat of each unit arrived in the window. -/
  | heartbeatWindow (aMortar : Bool) (aWire : Bool) (bMortar : Bool) (bWire : Bool) (stamp : Nat)
  /-- KEYSTONE_FAULT_LINE (R486): A Keystone raises its fault line and is declared failed with cause SELF. -/
  | keystoneFaultLine (u : Fin 2) (stamp : Nat)
  /-- KEYSTONE_AUTO_RESTART (R492): 10 ms after a failure declaration the arbiter restarts the failed unit. -/
  | keystoneAutoRestart (u : Fin 2)
  /-- KS_RESTART (R492): A write of KS_CTRL.RESTART restarts a unit that is not controlling. -/
  | ksRestart (req : Requester) (u : Fin 2) (v : Word)
  /-- KEYSTONE_IMAGE_LOADED (R493): A restarted unit's image is verified and its pairing checked, entering RESYNC or
  FAILED. -/
  | keystoneImageLoaded (u : Fin 2) (img : FwImage)
  /-- KEYSTONE_RESYNC_DONE (R493): A resyncing unit catches up with equal digests and becomes MATCHED. -/
  | keystoneResyncDone (u : Fin 2)
  /-- KS_PAIR_SWITCH (R497): Writing KS_PAIR_CTL.SWITCH requests a planned handover. -/
  | ksPairSwitch (req : Requester)
  /-- PLANNED_HANDOVER (R496): At an input boundary the role moves from the outgoing to the incoming unit in one step.
  -/
  | plannedHandover
  /-- REVERT_DUE (R498): A has been MATCHED 60 s while B controls, so a revert is made or held. -/
  | revertDue
  /-- KS_REVERT_ARM (R499): Writing KS_PAIR_CTL.REVERT_ARM clears the revert hold and history. -/
  | ksRevertArm
  /-- MAIN_POWER_UP (R506): VIN_MAIN rises above 11.4 V, the sequence number rises and the Plinth applies the pending
  response. -/
  | mainPowerUp
  /-- START_ATTEMPT (R506): After the supply window holds 10 ms, a start attempt runs steps 3 to 13. f is what the
  attempt finds. -/
  | startAttempt (f : StartFindings) (stamp : Nat)
  /-- START_RETRY (R511): After the wait of a failed attempt, the next attempt starts from step 3 with the other slot.
  f is what the attempt finds. -/
  | startRetry (f : StartFindings) (stamp : Nat)
  /-- ROOT_RETRY (R512): After a failed root regeneration, steps 7 and 8 are repeated on the retry waits. f is what
  the attempt finds. -/
  | rootRetry (f : StartFindings)
  /-- VIN_MAIN_DIP (R505): VIN_MAIN falls below 10.8 V and the 1 ms loss timer starts. -/
  | vinMainDip
  /-- POWER_LOSS (R505): A dip lasting 1 ms declares power loss and powers the module down in order. writes is the
  number of Vault writes whose NAND operations complete. -/
  | powerLoss (writes : Nat) (stamp : Nat)
  /-- VIN_AUX_CHANGE (R555): VIN_AUX rises or falls, moving the management-side domains between inputs. up says
  whether VIN_AUX is within its window. -/
  | vinAuxChange (up : Bool) (stamp : Nat)
  /-- POWER_DOMAIN_ON (R515): PW_DOM_CTL switch-on brings a domain into regulation and it wipes before work. The
  domain is PW_DOM_INDEX. -/
  | powerDomainOn (req : Requester)
  /-- POWER_DOMAIN_OFF (R515): PW_DOM_CTL switch-off checks the condition, fences, checks again and removes power. The
  domain is PW_DOM_INDEX. -/
  | powerDomainOff (req : Requester)
  /-- DOMAIN_FAULT (R516): A domain leaving regulation is fenced and EV_PW_DOMAIN_FAULT is recorded. mv is its
  voltage. -/
  | domainFault (dom : Fin 80) (mv : Nat)
  /-- PW_BOOT_PREFERRED_WRITE (R509): A write of PW_BOOT.PREFERRED stores the preferred slot in the NOR start tables.
  -/
  | pwBootPreferredWrite (v : Word)
  /-- PLUMB_MEASURE (R517): A write of PL_CTL.MEASURE starts a plumb measurement at once. -/
  | plumbMeasure
  /-- PLUMB_MEASURE_PERIOD (R517): Every PERIOD_H hours a plumb measurement is started. -/
  | plumbMeasurePeriod
  /-- PLUMB_PLAN (R518): A measurement ends and the Keystone re-plans voltages and Ashlar frequency. -/
  | plumbPlan (plan : List PlanItem)
  /-- MARK_DURABLE (R537): A buffered Mark record becomes durable in the main area. -/
  | markDurable
  /-- EV_CLEAR (R539): A write of EV_CLEAR clears a full, archived main area under a class 8 authorization. -/
  | evClear (req : Requester) (v : Word)
  /-- EV_READ (R541): A write of EV_READ_SEQ_HI starts reading a Mark record. v is the value written to
  EV_READ_SEQ_HI. -/
  | evRead (v : Word)
  /-- EV_READ_DONE (R541): A Mark record read ends with the data or a status. -/
  | evReadDone
  /-- PC_FREEZE (R544): A write of PC_CTL.FREEZE flushes accumulators and stops every counter. on is the bit written
  to PC_CTL.FREEZE. -/
  | pcFreeze (on : Bool)
  /-- PC_FROZEN (R544): The accumulators are flushed and FROZEN reads 1. -/
  | pcFrozen
  /-- PC_SNAPSHOT (R544): A write of PC_CTL.SNAPSHOT flushes accumulators before copying counters to the shadow bank.
  -/
  | pcSnapshot
  /-- PC_SNAPSHOT_DONE (R544): Every counter is copied to the shadow bank with SC_TIME and PC_SNAP_SEQ rises. -/
  | pcSnapshotDone
  /-- PC_ACCUMULATOR_FLUSH (R543): At least once per microsecond each island passes its accumulated counts to the PC
  page. -/
  | pcAccumulatorFlush
  /-- SMBUS_BLOCK_READ (R559): SMBus command 0x01 reads a permitted register at the given module address. -/
  | smbusBlockRead (cmd : Byte) (addr : Word)
  /-- SMBUS_ALERT_RESPONSE (R559): The module answers the SMBus alert response address while SMB_ALERT_N is low. -/
  | smbusAlertResponse
  /-- INTERRUPT_MODERATION_TIMEOUT (R377): MOD_US microseconds after the first unsignalled completion entry of a ring
  pair, the ring's COMPLETION interrupt is raised even though MOD_COUNT entries have not been reached. -/
  | interruptModerationTimeout (owner : Fin 257) (ring : Fin 4)
  /-- PCIE_LINK_DOWN (R530): The PCIe link goes down without PERST#, LINK_CHANGE is set, and MSI-X markings are held
  pending until the link is up again. -/
  | pcieLinkDown
  /-- TAMPER_CONDITION_END (R415): A level tamper condition, such as an open case switch or a low backup node, ends
  and its source stops being asserted. -/
  | tamperConditionEnd (source : Fin 42) (reading : Word)
  /-- SUPPLY_MEASUREMENT (R504): Every 100 µs VIN_MAIN, VIN_AUX and input power are measured, and MAIN_WARN, AUX_WARN
  and POWER_HIGH are set when their conditions hold. mV, mV, 10 mA and 0.1 W (twice), averaged over 10 ms. -/
  | supplyMeasurement (main : Nat) (aux : Nat) (iin : Nat) (power : Nat) (ballast : Nat)
  /-- PPS_ECHO_TIMEOUT (R386): The card does not echo the PPS within the initial waiting time, so the interface
  deactivates before its reactivation without PPS. -/
  | ppsEchoTimeout (cd : Fin 2)
  /-- ATR_COMPLETION_TIMEOUT (R385): An ATR that has begun is not complete within 20,160 ETU of its first character
  and is refused with ST_CARD_ATR. -/
  | atrCompletionTimeout (cd : Fin 2)
deriving DecidableEq, Repr, Inhabited

end Sys2Proof
end

