-- ==== Sys2Proof/Decode.lean ====
section
/-! DEFINITION. The command that a word spells by the bits of the opcode table. The table gives no row any bits: a
command reaches the block as an access, a frame or an event, not as a word. -/

namespace Sys2Proof

/-- The command that a word of nbits bits spells: none, since the table gives bits to no row. -/
def decodeTableWord (_nbits _w : Nat) : Option Instr := none

end Sys2Proof
end

