-- ==== Sys2Proof/Machine/Aes.lean ====
section
/-! DEFINITION. The block cipher AES (R226), as FIPS 197 gives it (log entry 5): blocks as 16 bytes, tables packed in one
number each. -/

namespace Sys2Proof.Machine

/-- The S-box: byte i of the number is the substitute of i. -/
def aesSbox : Nat :=
  0x16bb54b00f2d99416842e6bf0d89a18cdf2855cee9871e9b948ed9691198f8e19e1dc186b95735610ef6034866b53e708a8bbd4b1f74dde8c6b4a61c2e2578ba08ae7a65eaf4566ca94ed58d6d37c8e779e4959162acd3c25c2406490a3a32e0db0b5ede14b8ee4688902a22dc4f816073195d643d7ea7c41744975fec130ccdd2f3ff1021dab6bcf5389d928f40a351a89f3c507f02f94585334d43fbaaefd0cf584c4a39becb6a5bb1fc20ed00d153842fe329b3d63b52a05a6e1b1a2c830975b227ebe28012079a059618c323c7041531d871f1e5a534ccf73f362693fdb7c072a49cafa2d4adf04759fa7dc982ca76abd7fe2b670130c56f6bf27b777c63

/-- The inverse S-box. -/
def aesInv : Nat :=
  0x7d0c2155631469e126d677ba7e042b17619953833cbbebc8b0f52aae4d3be0a0ef9cc9939f7ae52d0d4ab519a97f51605fec8027591012b131c7078833a8dd1ff45acd78fec0db9a2079d2c64b3e56fc1bbe18aa0e62b76f89c5291d711af1476edf751ce837f9e28535ade72274ac9673e6b4f0cecff297eadc674f4111913a6b8a130103bdafc1020f3fca8f1e2cd00645b3b80558e4f70ad3bc8c00abd890849d8da75746155edab9edfd5048706c92b6655dcc5ca4d41698688664f6f87225d18b6d49a25b76b224d92866a12e084ec3fa420b954cee3d23c2a632947b54cbe9dec444438e3487ff2f9b8239e37cfbd7f3819ea340bf38a53630d56a0952

/-- Byte i of a packed table of bytes. -/
def tabByte (t i : Nat) : Nat := (t >>> (8 * i)) % 256

/-- Multiply by x in GF(2^8). -/
def xtime (a : Nat) : Nat := if a < 128 then 2 * a else (2 * a) ^^^ 0x11B

/-- The product in GF(2^8) with the polynomial 0x11B. -/
def gfMul (a b : Nat) : Nat :=
  ((List.range 8).foldl (fun (s : Nat × Nat) i => (if (b >>> i) % 2 = 1 then s.1 ^^^ s.2 else s.1, xtime s.2)) (0, a)).1

/-- One column of MixColumns. -/
def mixColumn (a b c d : Nat) : List Nat :=
  let t := a ^^^ b ^^^ c ^^^ d
  [a ^^^ t ^^^ xtime (a ^^^ b), b ^^^ t ^^^ xtime (b ^^^ c), c ^^^ t ^^^ xtime (c ^^^ d), d ^^^ t ^^^ xtime (d ^^^ a)]

/-- MixColumns over 16 bytes. -/
def mixColumns : List Nat → List Nat
  | a :: b :: c :: d :: r => mixColumn a b c d ++ mixColumns r
  | _ => []

/-- InvMixColumns: a column is first multiplied by 04·x² + 05, then mixed. -/
def invMixColumns : List Nat → List Nat
  | a :: b :: c :: d :: r =>
    let u := xtime (xtime (a ^^^ c))
    let v := xtime (xtime (b ^^^ d))
    mixColumn (a ^^^ u) (b ^^^ v) (c ^^^ u) (d ^^^ v) ++ invMixColumns r
  | _ => []

/-- ShiftRows: byte i comes from byte 5i modulo 16. -/
def shiftRows (s : List Nat) : List Nat := (List.range 16).map (fun i => s.getD (5 * i % 16) 0)

/-- InvShiftRows. -/
def invShiftRows (s : List Nat) : List Nat := (List.range 16).map (fun i => s.getD (13 * i % 16) 0)

/-- XOR of two byte strings. -/
def xorNats (a b : List Nat) : List Nat := List.zipWith (· ^^^ ·) a b

/-- SubWord of four bytes. -/
def subBytes (s : List Nat) : List Nat := s.map (tabByte aesSbox)

/-- One step of the key expansion: the last words, newest first, give the next word. -/
def aesNextWord (nk i rcon : Nat) (ws : List (List Nat)) : List Nat :=
  let prev := ws.headD []
  let t :=
    if i % nk = 0 then
      match subBytes (prev.drop 1 ++ prev.take 1) with
      | a :: r => (a ^^^ rcon) :: r
      | [] => []
    else if nk > 6 ∧ i % nk = 4 then subBytes prev
    else prev
  xorNats t (ws.getD (nk - 1) [])

/-- Extend the key by n words. -/
def aesExpand (nk : Nat) : Nat → Nat → Nat → List (List Nat) → List (List Nat)
  | 0, _, _, ws => ws
  | n + 1, i, rcon, ws =>
    aesExpand nk n (i + 1) (if i % nk = 0 then xtime rcon else rcon) (aesNextWord nk i rcon ws :: ws)

/-- Cut a byte string into words of four bytes. -/
def words4 : List Nat → List (List Nat)
  | a :: b :: c :: d :: r => [a, b, c, d] :: words4 r
  | _ => []

/-- Cut a list of words into round keys of 16 bytes. -/
def roundKeys : List (List Nat) → List (List Nat)
  | a :: b :: c :: d :: r => (a ++ b ++ c ++ d) :: roundKeys r
  | _ => []

/-- The round keys of a key of 16, 24 or 32 bytes. -/
def aesKeys (key : List Nat) : List (List Nat) :=
  let nk := key.length / 4
  roundKeys (aesExpand nk (4 * (nk + 7) - nk) nk 1 (words4 key).reverse).reverse

/-- The rounds after the first AddRoundKey. -/
def aesRounds : List (List Nat) → List Nat → List Nat
  | [], s => s
  | [k], s => xorNats (shiftRows (subBytes s)) k
  | k :: r, s => aesRounds r (xorNats (mixColumns (shiftRows (subBytes s))) k)

/-- The rounds of the inverse cipher, with the round keys in reverse order. -/
def aesInvRounds : List (List Nat) → List Nat → List Nat
  | [], s => s
  | [k], s => xorNats ((invShiftRows s).map (tabByte aesInv)) k
  | k :: r, s => aesInvRounds r (invMixColumns (xorNats ((invShiftRows s).map (tabByte aesInv)) k))

/-- A byte string as numbers. -/
def toNats (b : Bytes) : List Nat := b.map (·.toNat)

/-- Numbers as a byte string. -/
def ofNats (l : List Nat) : Bytes := l.map (BitVec.ofNat 8)

/-- Encipher one block of 16 bytes under a key of 16, 24 or 32 bytes. -/
def aesEncrypt (key block : Bytes) : Bytes :=
  match aesKeys (toNats key) with
  | [] => []
  | k :: r => ofNats (aesRounds r (xorNats (toNats block) k))

/-- Decipher one block of 16 bytes. -/
def aesDecrypt (key block : Bytes) : Bytes :=
  match (aesKeys (toNats key)).reverse with
  | [] => []
  | k :: r => ofNats (aesInvRounds r (xorNats (toNats block) k))

end Sys2Proof.Machine
end

