-- ==== Sys2Proof/Machine/Des.lean ====
section
/-! DEFINITION. The block ciphers DES and TDES (R226), as SP 800-67 gives them (log entry 5): blocks as 8 bytes. -/

namespace Sys2Proof.Machine

/-- Permute the bits of a number of w bits: bit positions count from 1 at the left. -/
def permute (t : List Nat) (w x : Nat) : Nat := t.foldl (fun a p => 2 * a + (x >>> (w - p)) % 2) 0

/-- The initial permutation. -/
def desIP : List Nat :=
  [58, 50, 42, 34, 26, 18, 10, 2, 60, 52, 44, 36, 28, 20, 12, 4,
   62, 54, 46, 38, 30, 22, 14, 6, 64, 56, 48, 40, 32, 24, 16, 8,
   57, 49, 41, 33, 25, 17, 9, 1, 59, 51, 43, 35, 27, 19, 11, 3,
   61, 53, 45, 37, 29, 21, 13, 5, 63, 55, 47, 39, 31, 23, 15, 7]

/-- The final permutation. -/
def desFP : List Nat :=
  [40, 8, 48, 16, 56, 24, 64, 32, 39, 7, 47, 15, 55, 23, 63, 31,
   38, 6, 46, 14, 54, 22, 62, 30, 37, 5, 45, 13, 53, 21, 61, 29,
   36, 4, 44, 12, 52, 20, 60, 28, 35, 3, 43, 11, 51, 19, 59, 27,
   34, 2, 42, 10, 50, 18, 58, 26, 33, 1, 41, 9, 49, 17, 57, 25]

/-- The expansion of the right half. -/
def desE : List Nat :=
  [32, 1, 2, 3, 4, 5, 4, 5, 6, 7, 8, 9, 8, 9, 10, 11,
   12, 13, 12, 13, 14, 15, 16, 17, 16, 17, 18, 19, 20, 21, 20, 21,
   22, 23, 24, 25, 24, 25, 26, 27, 28, 29, 28, 29, 30, 31, 32, 1]

/-- The permutation after the S-boxes. -/
def desP : List Nat :=
  [16, 7, 20, 21, 29, 12, 28, 17, 1, 15, 23, 26, 5, 18, 31, 10,
   2, 8, 24, 14, 32, 27, 3, 9, 19, 13, 30, 6, 22, 11, 4, 25]

/-- The first permuted choice of the key. -/
def desPC1 : List Nat :=
  [57, 49, 41, 33, 25, 17, 9, 1, 58, 50, 42, 34, 26, 18,
   10, 2, 59, 51, 43, 35, 27, 19, 11, 3, 60, 52, 44, 36,
   63, 55, 47, 39, 31, 23, 15, 7, 62, 54, 46, 38, 30, 22,
   14, 6, 61, 53, 45, 37, 29, 21, 13, 5, 28, 20, 12, 4]

/-- The second permuted choice of the key. -/
def desPC2 : List Nat :=
  [14, 17, 11, 24, 1, 5, 3, 28, 15, 6, 21, 10, 23, 19, 12, 4,
   26, 8, 16, 7, 27, 20, 13, 2, 41, 52, 31, 37, 47, 55, 30, 40,
   51, 45, 33, 48, 44, 49, 39, 56, 34, 53, 46, 42, 50, 36, 29, 32]

/-- The shifts of the key halves. -/
def desShifts : List Nat := [1, 1, 2, 2, 2, 2, 2, 2, 1, 2, 2, 2, 2, 2, 2, 1]

/-- The eight S-boxes, each packed in one number: entry i, row by row, is nibble i. -/
def desS : List Nat :=
  [0xd60ae3b5719428cf05a379cfb26d8e148359bc6a1d2e47f07095c6a38bf21d4e,
   0x9e50c76b24f31a8df2396c851d4ab7e05b96a10ce82f74d3a50cd27943b6e81f,
   0xc25b3ef478960da17ea5c21b03f8946d1fbce582a643907d824b7cd15f36e90a,
   0xe27cb5498d1a60f34825e31fd7bc096a9ea1c27430f65b8df4cb5821a9603ed7,
   0x354a90f6d2e17c8be0365c9f87dab1246893af051d74c2be9e0df3586ba714c2,
   0xd80671ebaf59c2346bd1a4073c825fe983b0ed1659c724fab57e43d08629fa1c,
   0xc32ef0597a418db6295086fae73cdb4168f2c53ea1947b0d16a579c3d80fe2b4,
   0xb65309cfd8a47e12853fda602ec914b729e0b65c473a8df17c05e39a1bf6482d]

/-- Rotate a number of 28 bits left. -/
def rotl28 (x n : Nat) : Nat := (x * 2 ^ n) % 2 ^ 28 + x / 2 ^ (28 - n)

/-- The 16 round keys, from the halves of the key. -/
def desKeys : List Nat → Nat → Nat → List Nat
  | [], _, _ => []
  | n :: r, c, d =>
    let c1 := rotl28 c n
    let d1 := rotl28 d n
    permute desPC2 56 (c1 * 2 ^ 28 + d1) :: desKeys r c1 d1

/-- The S-boxes over 48 bits, box j taking the j-th six bits from the left. -/
def desSboxes (x : Nat) : Nat :=
  (desS.foldl (fun (s : Nat × Nat) t =>
    let v := (x >>> s.1) % 64
    let i := (v / 32 * 2 + v % 2) * 16 + v / 2 % 16
    (s.1 - 6, s.2 * 16 + (t >>> (4 * i)) % 16)) (42, 0)).2

/-- The 16 rounds. -/
def desRounds : List Nat → Nat → Nat → Nat
  | [], l, r => r * 2 ^ 32 + l
  | k :: ks, l, r => desRounds ks r (l ^^^ permute desP 32 (desSboxes (permute desE 32 r ^^^ k)))

/-- DES over one number of 64 bits; the round keys in order encipher, reversed decipher. -/
def desRun (rev : Bool) (key x : Nat) : Nat :=
  let k := permute desPC1 64 key
  let ks := desKeys desShifts (k / 2 ^ 28) (k % 2 ^ 28)
  let y := permute desIP 64 x
  permute desFP 64 (desRounds (if rev then ks.reverse else ks) (y / 2 ^ 32) (y % 2 ^ 32))

/-- The number that bytes spell, most significant first. -/
def beNat (b : Bytes) : Nat := b.foldl (fun a x => a * 256 + x.toNat) 0

/-- A number as n bytes, most significant first. -/
def beBytes (n x : Nat) : Bytes := (List.range n).reverse.map (fun i => BitVec.ofNat 8 (x / 256 ^ i))

/-- Single DES of one block of 8 bytes. -/
def desBlock (rev : Bool) (key block : Bytes) : Bytes := beBytes 8 (desRun rev (beNat key) (beNat block))

/-- Encipher one block under a two-key or three-key TDES key. -/
def tdesEncrypt (key block : Bytes) : Bytes :=
  let k1 := beNat (key.take 8)
  let k2 := beNat ((key.drop 8).take 8)
  let k3 := if key.length = 24 then beNat (key.drop 16) else k1
  beBytes 8 (desRun false k3 (desRun true k2 (desRun false k1 (beNat block))))

/-- Decipher one block under a two-key or three-key TDES key. -/
def tdesDecrypt (key block : Bytes) : Bytes :=
  let k1 := beNat (key.take 8)
  let k2 := beNat ((key.drop 8).take 8)
  let k3 := if key.length = 24 then beNat (key.drop 16) else k1
  beBytes 8 (desRun true k1 (desRun false k2 (desRun true k3 (beNat block))))

end Sys2Proof.Machine
end

