-- ==== Sys2Proof/Machine/Hash.lean ====
section
/-! DEFINITION. The hash functions of the hash cores (R257): SHA-2 as FIPS 180-4 gives it, SHA-3 as FIPS 202 gives it,
HMAC as FIPS 198-1 gives it, and CRC-32 (log entry 5). -/

namespace Sys2Proof.Machine

/-- Rotate a number of w bits right. -/
def rotr (w x n : Nat) : Nat := x / 2 ^ n + (x * 2 ^ (w - n)) % 2 ^ w

/-- The parameters of a SHA-2 family: word bits, block bytes, round constants, the six rotations and two shifts. -/
structure Sha2 where
  w : Nat
  ks : List Nat
  a : Nat × Nat × Nat
  e : Nat × Nat × Nat
  s0 : Nat × Nat × Nat
  s1 : Nat × Nat × Nat

/-- The constants of SHA-256. -/
def k256 : List Nat :=
  [0x428a2f98, 0x71374491, 0xb5c0fbcf, 0xe9b5dba5, 0x3956c25b, 0x59f111f1, 0x923f82a4, 0xab1c5ed5,
   0xd807aa98, 0x12835b01, 0x243185be, 0x550c7dc3, 0x72be5d74, 0x80deb1fe, 0x9bdc06a7, 0xc19bf174,
   0xe49b69c1, 0xefbe4786, 0xfc19dc6, 0x240ca1cc, 0x2de92c6f, 0x4a7484aa, 0x5cb0a9dc, 0x76f988da,
   0x983e5152, 0xa831c66d, 0xb00327c8, 0xbf597fc7, 0xc6e00bf3, 0xd5a79147, 0x6ca6351, 0x14292967,
   0x27b70a85, 0x2e1b2138, 0x4d2c6dfc, 0x53380d13, 0x650a7354, 0x766a0abb, 0x81c2c92e, 0x92722c85,
   0xa2bfe8a1, 0xa81a664b, 0xc24b8b70, 0xc76c51a3, 0xd192e819, 0xd6990624, 0xf40e3585, 0x106aa070,
   0x19a4c116, 0x1e376c08, 0x2748774c, 0x34b0bcb5, 0x391c0cb3, 0x4ed8aa4a, 0x5b9cca4f, 0x682e6ff3,
   0x748f82ee, 0x78a5636f, 0x84c87814, 0x8cc70208, 0x90befffa, 0xa4506ceb, 0xbef9a3f7, 0xc67178f2]

/-- The constants of SHA-512. -/
def k512 : List Nat :=
  [0x428a2f98d728ae22, 0x7137449123ef65cd, 0xb5c0fbcfec4d3b2f, 0xe9b5dba58189dbbc,
   0x3956c25bf348b538, 0x59f111f1b605d019, 0x923f82a4af194f9b, 0xab1c5ed5da6d8118,
   0xd807aa98a3030242, 0x12835b0145706fbe, 0x243185be4ee4b28c, 0x550c7dc3d5ffb4e2,
   0x72be5d74f27b896f, 0x80deb1fe3b1696b1, 0x9bdc06a725c71235, 0xc19bf174cf692694,
   0xe49b69c19ef14ad2, 0xefbe4786384f25e3, 0xfc19dc68b8cd5b5, 0x240ca1cc77ac9c65,
   0x2de92c6f592b0275, 0x4a7484aa6ea6e483, 0x5cb0a9dcbd41fbd4, 0x76f988da831153b5,
   0x983e5152ee66dfab, 0xa831c66d2db43210, 0xb00327c898fb213f, 0xbf597fc7beef0ee4,
   0xc6e00bf33da88fc2, 0xd5a79147930aa725, 0x6ca6351e003826f, 0x142929670a0e6e70,
   0x27b70a8546d22ffc, 0x2e1b21385c26c926, 0x4d2c6dfc5ac42aed, 0x53380d139d95b3df,
   0x650a73548baf63de, 0x766a0abb3c77b2a8, 0x81c2c92e47edaee6, 0x92722c851482353b,
   0xa2bfe8a14cf10364, 0xa81a664bbc423001, 0xc24b8b70d0f89791, 0xc76c51a30654be30,
   0xd192e819d6ef5218, 0xd69906245565a910, 0xf40e35855771202a, 0x106aa07032bbd1b8,
   0x19a4c116b8d2d0c8, 0x1e376c085141ab53, 0x2748774cdf8eeb99, 0x34b0bcb5e19b48a8,
   0x391c0cb3c5c95a63, 0x4ed8aa4ae3418acb, 0x5b9cca4f7763e373, 0x682e6ff3d6b2b8a3,
   0x748f82ee5defb2fc, 0x78a5636f43172f60, 0x84c87814a1f0ab72, 0x8cc702081a6439ec,
   0x90befffa23631e28, 0xa4506cebde82bde9, 0xbef9a3f7b2c67915, 0xc67178f2e372532b,
   0xca273eceea26619c, 0xd186b8c721c0c207, 0xeada7dd6cde0eb1e, 0xf57d4f7fee6ed178,
   0x6f067aa72176fba, 0xa637dc5a2c898a6, 0x113f9804bef90dae, 0x1b710b35131c471b,
   0x28db77f523047d84, 0x32caab7b40c72493, 0x3c9ebe0a15c9bebc, 0x431d67c49c100d4c,
   0x4cc5d4becb3e42b6, 0x597f299cfc657e2a, 0x5fcb6fab3ad6faec, 0x6c44198c4a475817]

/-- The SHA-256 family. -/
def fam256 : Sha2 := ⟨32, k256, (2, 13, 22), (6, 11, 25), (7, 18, 3), (17, 19, 10)⟩

/-- The SHA-512 family. -/
def fam512 : Sha2 := ⟨64, k512, (28, 34, 39), (14, 18, 41), (1, 8, 7), (19, 61, 6)⟩

/-- The big sigma functions. -/
def bigSigma (w : Nat) (p : Nat × Nat × Nat) (x : Nat) : Nat := rotr w x p.1 ^^^ rotr w x p.2.1 ^^^ rotr w x p.2.2

/-- The small sigma functions. -/
def smallSigma (w : Nat) (p : Nat × Nat × Nat) (x : Nat) : Nat := rotr w x p.1 ^^^ rotr w x p.2.1 ^^^ (x / 2 ^ p.2.2)

/-- One round; the schedule holds the next 16 words. -/
def shaRound (f : Sha2) (st : List Nat) (k wt : Nat) : List Nat :=
  match st with
  | [a, b, c, d, e, g, h, i] =>
    let m := 2 ^ f.w
    let t1 := i + bigSigma f.w f.e e + ((e &&& g) ^^^ ((m - 1 - e) &&& h)) + k + wt
    let t2 := bigSigma f.w f.a a + ((a &&& b) ^^^ (a &&& c) ^^^ (b &&& c))
    [(t1 + t2) % m, a, b, c, (d + t1) % m, e, g, h]
  | _ => st

/-- All rounds of one block. -/
def shaRounds (f : Sha2) : List Nat → List Nat → List Nat → List Nat
  | [], _, st => st
  | k :: ks, w, st =>
    let wt := w.headD 0
    let nw := (smallSigma f.w f.s1 (w.getD 14 0) + w.getD 9 0 + smallSigma f.w f.s0 (w.getD 1 0) + wt) % 2 ^ f.w
    shaRounds f ks (w.drop 1 ++ [nw]) (shaRound f st k wt)

/-- Cut a byte string into pieces of n bytes; fuel bounds the number of pieces. -/
def chop (n : Nat) : Nat → Bytes → List Bytes
  | 0, _ => []
  | f + 1, b => if b = [] then [] else b.take n :: chop n f (b.drop n)

/-- The pieces of n bytes of a byte string. -/
def pieces (n : Nat) (b : Bytes) : List Bytes := chop n (b.length / n + 1) b

/-- The padded message of SHA-2. -/
def shaPad (block lenBytes : Nat) (m : Bytes) : Bytes :=
  let z := (block - (m.length + 1 + lenBytes) % block) % block
  m ++ [0x80#8] ++ List.replicate z 0#8 ++ beBytes lenBytes (8 * m.length)

/-- SHA-2 from an initial value, cut to n bytes. -/
def sha2 (f : Sha2) (iv : List Nat) (n : Nat) (m : Bytes) : Bytes :=
  let block := 2 * f.w
  let st := (pieces block (shaPad block (f.w / 4) m)).foldl (fun st b =>
    List.zipWith (fun x y => (x + y) % 2 ^ f.w) st (shaRounds f f.ks ((pieces (f.w / 8) b).map beNat) st)) iv
  (st.flatMap (beBytes (f.w / 8))).take n

/-- SHA-224. -/
def sha224 (m : Bytes) : Bytes := sha2 fam256
  [0xc1059ed8, 0x367cd507, 0x3070dd17, 0xf70e5939, 0xffc00b31, 0x68581511, 0x64f98fa7, 0xbefa4fa4] 28 m

/-- SHA-256. -/
def sha256 (m : Bytes) : Bytes := sha2 fam256
  [0x6a09e667, 0xbb67ae85, 0x3c6ef372, 0xa54ff53a, 0x510e527f, 0x9b05688c, 0x1f83d9ab, 0x5be0cd19] 32 m

/-- SHA-384. -/
def sha384 (m : Bytes) : Bytes := sha2 fam512
  [0xcbbb9d5dc1059ed8, 0x629a292a367cd507, 0x9159015a3070dd17, 0x152fecd8f70e5939,
   0x67332667ffc00b31, 0x8eb44a8768581511, 0xdb0c2e0d64f98fa7, 0x47b5481dbefa4fa4] 48 m

/-- SHA-512. -/
def sha512 (m : Bytes) : Bytes := sha2 fam512
  [0x6a09e667f3bcc908, 0xbb67ae8584caa73b, 0x3c6ef372fe94f82b, 0xa54ff53a5f1d36f1,
   0x510e527fade682d1, 0x9b05688c2b3e6c1f, 0x1f83d9abfb41bd6b, 0x5be0cd19137e2179] 64 m

/-- The round constants of Keccak. -/
def keccakRC : List Nat :=
  [0x1, 0x8082, 0x800000000000808a, 0x8000000080008000, 0x808b, 0x80000001,
   0x8000000080008081, 0x8000000000008009, 0x8a, 0x88, 0x80008009, 0x8000000a,
   0x8000808b, 0x800000000000008b, 0x8000000000008089, 0x8000000000008003, 0x8000000000008002, 0x8000000000000080,
   0x800a, 0x800000008000000a, 0x8000000080008081, 0x8000000000008080, 0x80000001, 0x8000000080008008]

/-- The rotations of Keccak by lane 5y + x. -/
def keccakRot : List Nat := [0, 1, 62, 28, 27, 36, 44, 6, 55, 20, 3, 10, 43, 25, 39, 41, 45, 15, 21, 8, 18, 2, 61, 56, 14]

/-- Rotate a lane left. -/
def rotl64 (x n : Nat) : Nat := (x * 2 ^ n) % 2 ^ 64 + x / 2 ^ (64 - n)

/-- One round of Keccak-f[1600] over 25 lanes. -/
def keccakRound (a : List Nat) (rc : Nat) : List Nat :=
  let l (i : Nat) : Nat := a.getD i 0
  let c := (List.range 5).map (fun x => l x ^^^ l (x + 5) ^^^ l (x + 10) ^^^ l (x + 15) ^^^ l (x + 20))
  let d := (List.range 5).map (fun x => c.getD ((x + 4) % 5) 0 ^^^ rotl64 (c.getD ((x + 1) % 5) 0) 1)
  let t := (List.range 25).map (fun i => rotl64 (l i ^^^ d.getD (i % 5) 0) (keccakRot.getD i 0))
  let b := (List.range 25).map (fun i =>
    let y := i / 5
    let x := i % 5
    let x0 := (x + 3 * y) % 5
    t.getD (x0 + 5 * x) 0)
  let chi := (List.range 25).map (fun i =>
    let y := i / 5 * 5
    b.getD i 0 ^^^ ((2 ^ 64 - 1 - b.getD (y + (i + 1) % 5) 0) &&& b.getD (y + (i + 2) % 5) 0))
  match chi with
  | h :: r => (h ^^^ rc) :: r
  | [] => []

/-- Keccak-f[1600]. -/
def keccakF (a : List Nat) : List Nat := keccakRC.foldl keccakRound a

/-- The lanes of a block of bytes, least significant byte first, 25 in all. -/
def keccakLanes (b : Bytes) : List Nat :=
  (List.range 25).map (fun i => beNat (((b.drop (8 * i)).take 8).reverse))

/-- A lane as bytes. -/
def laneBytes (x : Nat) : Bytes := (beBytes 8 x).reverse

/-- The output blocks of the sponge, n of them. -/
def squeeze (rate : Nat) : Nat → List Nat → Bytes
  | 0, _ => []
  | n + 1, st => (st.flatMap laneBytes).take rate ++ squeeze rate n (keccakF st)

/-- The sponge: rate in bytes, the domain byte, output bytes. -/
def sponge (rate : Nat) (dom : Byte) (n : Nat) (m : Bytes) : Bytes :=
  let z := rate - (m.length + 1) % rate
  let p := if z = rate then [dom ||| 0x80#8] else [dom] ++ List.replicate (z - 1) 0#8 ++ [0x80#8]
  let st := (pieces rate (m ++ p)).foldl (fun a b => keccakF (xorNats a (keccakLanes b))) (List.replicate 25 0)
  (squeeze rate ((n + rate - 1) / rate) st).take n

/-- SHA3 with an output of n bytes. -/
def sha3 (n : Nat) (m : Bytes) : Bytes := sponge (200 - 2 * n) 0x06#8 n m

/-- SHAKE128 with an output of n bytes. -/
def shake128 (n : Nat) (m : Bytes) : Bytes := sponge 168 0x1F#8 n m

/-- SHAKE256 with an output of n bytes. -/
def shake256 (n : Nat) (m : Bytes) : Bytes := sponge 136 0x1F#8 n m

/-- XOR every byte with a constant. -/
def xorByte (c : Byte) (b : Bytes) : Bytes := b.map (· ^^^ c)

/-- HMAC over a hash with its block length; keys are at most one block long. -/
def hmac (h : Bytes → Bytes) (block : Nat) (key m : Bytes) : Bytes :=
  let k := key ++ List.replicate (block - key.length) 0#8
  h (xorByte 0x5C#8 k ++ h (xorByte 0x36#8 k ++ m))

/-- HMAC-SHA-256. -/
def hmac256 (key m : Bytes) : Bytes := hmac sha256 64 key m

/-- HMAC-SHA-512. -/
def hmac512 (key m : Bytes) : Bytes := hmac sha512 128 key m

/-- One bit of CRC-32, reflected form of the polynomial 0x04C1_1DB7. -/
def crcBit (c : Nat) : Nat := if c % 2 = 1 then (c / 2) ^^^ 0xEDB88320 else c / 2

/-- CRC-32 (R533, log entry 5). -/
def crc32 (m : Bytes) : Nat :=
  (m.foldl (fun c b => (List.range 8).foldl (fun x _ => crcBit x) (c ^^^ b.toNat)) 0xFFFFFFFF) ^^^ 0xFFFFFFFF

end Sys2Proof.Machine
end

