-- ==== Sys2Proof/Machine/Modes.lean ====
section
/-! DEFINITION. The modes of operation of the cipher cores (R226): CBC, CMAC, ISO 9797-1, GCM, the PIN-block mode, the KDF
of R181, FF1 (R164), and Shamir's scheme (R213). The modes named by a standard follow it (log entry 5). -/

namespace Sys2Proof.Machine

/-- Zero bytes. -/
def zeros (n : Nat) : Bytes := List.replicate n 0#8

/-- XOR of two byte strings. -/
def xorB (a b : Bytes) : Bytes := List.zipWith (· ^^^ ·) a b

/-- A symmetric block cipher: TDES or AES. -/
inductive Cipher where
  | aes | tdes
deriving DecidableEq, Repr, Inhabited

/-- The block length in bytes. -/
def Cipher.block : Cipher → Nat
  | .aes => 16 | .tdes => 8

/-- Encipher one block. -/
def Cipher.enc : Cipher → Bytes → Bytes → Bytes
  | .aes => aesEncrypt
  | .tdes => tdesEncrypt

/-- Decipher one block. -/
def Cipher.dec : Cipher → Bytes → Bytes → Bytes
  | .aes => aesDecrypt
  | .tdes => tdesDecrypt

/-- CBC encryption of whole blocks. -/
def cbcEncBlocks (enc : Bytes → Bytes) : List Bytes → Bytes → Bytes
  | [], _ => []
  | b :: r, iv =>
    let c := enc (xorB b iv)
    c ++ cbcEncBlocks enc r c

/-- CBC decryption of whole blocks. -/
def cbcDecBlocks (dec : Bytes → Bytes) : List Bytes → Bytes → Bytes
  | [], _ => []
  | b :: r, iv => xorB (dec b) iv ++ cbcDecBlocks dec r b

/-- CBC encryption. -/
def cbcEnc (c : Cipher) (key iv m : Bytes) : Bytes := cbcEncBlocks (c.enc key) (pieces c.block m) iv

/-- CBC decryption. -/
def cbcDec (c : Cipher) (key iv m : Bytes) : Bytes := cbcDecBlocks (c.dec key) (pieces c.block m) iv

/-- ECB encryption. -/
def ecbEnc (c : Cipher) (key m : Bytes) : Bytes := (pieces c.block m).flatMap (c.enc key)

/-- ECB decryption. -/
def ecbDec (c : Cipher) (key m : Bytes) : Bytes := (pieces c.block m).flatMap (c.dec key)

/-- The last block of a CBC encryption under a zero IV. -/
def cbcMac (enc : Bytes → Bytes) (n : Nat) (m : Bytes) : Bytes :=
  (pieces n m).foldl (fun x b => enc (xorB b x)) (zeros n)

/-- Double in GF(2^(8n)), as CMAC does. -/
def cmacDouble (n : Nat) (x : Bytes) : Bytes :=
  let v := beNat x
  let r := if n = 16 then 0x87 else 0x1B
  beBytes n (if v < 2 ^ (8 * n - 1) then 2 * v else (2 * v) % 2 ^ (8 * n) ^^^ r)

/-- CMAC of NIST SP 800-38B. -/
def cmac (c : Cipher) (key m : Bytes) : Bytes :=
  let n := c.block
  let l := c.enc key (zeros n)
  let k1 := cmacDouble n l
  let full := (m.length - 1) / n * n
  let last := m.drop full
  let tail :=
    if last.length = n then xorB last k1
    else xorB (last ++ [0x80#8] ++ zeros (n - 1 - last.length)) (cmacDouble n k1)
  cbcMac (c.enc key) n (m.take full ++ tail)

/-- Padding methods 1 and 2 of ISO 9797-1. -/
def isoPad (method n : Nat) (m : Bytes) : Bytes :=
  if method = 1 then m ++ zeros ((n - m.length % n) % n)
  else m ++ [0x80#8] ++ zeros ((n - (m.length + 1) % n) % n)

/-- ISO 9797-1 algorithm 1 with TDES (R124). -/
def isoMac1 (key : Bytes) (method : Nat) (m : Bytes) : Bytes := cbcMac (tdesEncrypt key) 8 (isoPad method 8 m)

/-- ISO 9797-1 algorithm 3, the retail MAC (R124). -/
def isoMac3 (key : Bytes) (method : Nat) (m : Bytes) : Bytes :=
  let k1 := key.take 8
  let h := cbcMac (desBlock false k1) 8 (isoPad method 8 m)
  desBlock false k1 (desBlock true (key.drop 8) h)

/-- Multiply in the field of GHASH: bit 0 is the leftmost. -/
def ghashMul (x y : Nat) : Nat :=
  ((List.range 128).foldl (fun (s : Nat × Nat) i =>
    (if x.testBit (127 - i) then s.1 ^^^ s.2 else s.1,
     if s.2 % 2 = 1 then (s.2 / 2) ^^^ (0xE1 * 2 ^ 120) else s.2 / 2)) (0, y)).1

/-- Pad with zeros to whole blocks of 16 bytes. -/
def pad16 (m : Bytes) : Bytes := m ++ zeros ((16 - m.length % 16) % 16)

/-- GHASH of header data and ciphertext. -/
def ghash (h aad ct : Bytes) : Bytes :=
  let hv := beNat h
  let len := beBytes 8 (8 * aad.length) ++ beBytes 8 (8 * ct.length)
  beBytes 16 ((pieces 16 (pad16 aad ++ pad16 ct ++ len)).foldl (fun y b => ghashMul (y ^^^ beNat b) hv) 0)

/-- The key stream of GCM from counter value n on. -/
def gcmStream (key iv : Bytes) : Nat → List Bytes → Bytes
  | _, [] => []
  | n, b :: r => xorB b (aesEncrypt key (iv ++ beBytes 4 n)) ++ gcmStream key iv (n + 1) r

/-- The GCM tag over header data and ciphertext, with J0 the IV followed by 1 (R240). -/
def gcmTag (key iv aad ct : Bytes) : Bytes :=
  xorB (ghash (aesEncrypt key (zeros 16)) aad ct) (aesEncrypt key (iv ++ beBytes 4 1))

/-- GCM encryption: ciphertext and tag. -/
def gcmEnc (key iv aad pt : Bytes) : Bytes × Bytes :=
  let ct := gcmStream key iv 2 (pieces 16 pt)
  (ct, gcmTag key iv aad ct)

/-- GCM decryption: the plaintext, if the tag verifies. -/
def gcmDec (key iv aad ct tag : Bytes) : Option Bytes :=
  if gcmTag key iv aad ct = tag then some (gcmStream key iv 2 (pieces 16 ct)) else none

/-- The PIN-block mode of format 4 (R102, R103): two passes with the PAN field between them. -/
def pinBlock4 (key pin pan : Bytes) : Bytes := aesEncrypt key (xorB (aesEncrypt key pin) pan)

/-- The inverse of the PIN-block mode of format 4 (R102). -/
def pinField4 (key block pan : Bytes) : Bytes := aesDecrypt key (xorB (aesDecrypt key block) pan)

/-! ## The KDF of the key tree (R181) -/

/-- The counter-mode KDF: parent, label, context and output length in bits. -/
def kdf (parent label context : Bytes) (l : Nat) : Bytes :=
  let n := (l + 127) / 128
  ((List.range n).flatMap (fun i =>
    cmac .aes parent (beBytes 1 (i + 1) ++ label ++ [0#8] ++ context ++ beBytes 2 l))).take (l / 8)

/-- A node label (R182): level, purpose, owner and output length in bits. -/
def nodeLabel (level purpose owner l : Nat) : Bytes :=
  beBytes 1 level ++ beBytes 1 purpose ++ beBytes 2 owner ++ beBytes 2 l ++ zeros 10

/-! ## FF1 (R164) -/

/-- The number that digits spell. -/
def digitsNat (d : List Nat) : Nat := d.foldl (fun a x => 10 * a + x) 0

/-- A number as n digits. -/
def natDigits (n x : Nat) : List Nat := (List.range n).reverse.map (fun i => x / 10 ^ i % 10)

/-- The round function of FF1: P, then Q with the round number and the other half. -/
def ff1Round (key p tweak : Bytes) (b d i : Nat) (half : List Nat) : Nat :=
  let pad := (16 - (tweak.length + b + 1) % 16) % 16
  let q := tweak ++ zeros pad ++ beBytes 1 i ++ beBytes b (digitsNat half)
  let r := cbcMac (aesEncrypt key) 16 (p ++ q)
  let s := r ++ (List.range ((d + 15) / 16 - 1)).flatMap (fun j => aesEncrypt key (xorB r (beBytes 16 (j + 1))))
  beNat (s.take d)

/-- The number of bytes that hold v digits. -/
def ff1Bytes (v : Nat) : Nat := (Nat.log2 (10 ^ v - 1) + 8) / 8

/-- The fixed block P of FF1. -/
def ff1P (n t : Nat) : Bytes :=
  [1#8, 2#8, 1#8] ++ beBytes 3 10 ++ [10#8] ++ beBytes 1 (n / 2) ++ beBytes 4 n ++ beBytes 4 t

/-- FF1 encryption of decimal digits. -/
def ff1Enc (key tweak : Bytes) (x : List Nat) : List Nat :=
  let n := x.length
  let u := n / 2
  let b := ff1Bytes (n - u)
  let d := 4 * ((b + 3) / 4) + 4
  let p := ff1P n tweak.length
  let r := (List.range 10).foldl (fun (s : List Nat × List Nat) i =>
    let m := if i % 2 = 0 then u else n - u
    (s.2, natDigits m ((digitsNat s.1 + ff1Round key p tweak b d i s.2) % 10 ^ m))) (x.take u, x.drop u)
  r.1 ++ r.2

/-- FF1 decryption of decimal digits. -/
def ff1Dec (key tweak : Bytes) (x : List Nat) : List Nat :=
  let n := x.length
  let u := n / 2
  let b := ff1Bytes (n - u)
  let d := 4 * ((b + 3) / 4) + 4
  let p := ff1P n tweak.length
  let r := (List.range 10).reverse.foldl (fun (s : List Nat × List Nat) i =>
    let m := if i % 2 = 0 then u else n - u
    let y := ff1Round key p tweak b d i s.1
    (natDigits m ((digitsNat s.2 + (10 ^ m - y % 10 ^ m)) % 10 ^ m), s.1)) (x.take u, x.drop u)
  r.1 ++ r.2

/-! ## Shamir's scheme (R213) -/

/-- The value at x of a polynomial over GF(2^8), lowest coefficient first. -/
def gfEval (cs : List Nat) (x : Nat) : Nat := cs.foldr (fun c a => c ^^^ gfMul x a) 0

/-- The share with index x of a secret: each byte is the value at x of a polynomial whose constant is the secret's byte;
the random bytes give the other coefficients, M - 1 for each byte of the secret. -/
def shamirShare (m : Nat) (secret random : Bytes) (x : Nat) : Bytes :=
  (List.range secret.length).map (fun i =>
    BitVec.ofNat 8 (gfEval ((secret.getD i 0#8).toNat :: ((random.drop (i * (m - 1))).take (m - 1)).map (·.toNat)) x))

/-- The inverse in GF(2^8). -/
def gfInv (a : Nat) : Nat := (List.range 253).foldl (fun p _ => gfMul p a) a

/-- The secret that shares with distinct indices give, by interpolation at 0. -/
def shamirJoin (shares : List (Nat × Bytes)) : Bytes :=
  let n := (shares.map (·.2.length)).foldl max 0
  (List.range n).map (fun i => BitVec.ofNat 8 (shares.foldl (fun a s =>
    let l := shares.foldl (fun p t => if t.1 = s.1 then p else gfMul p (gfMul t.1 (gfInv (t.1 ^^^ s.1)))) 1
    a ^^^ gfMul l (s.2.getD i 0#8).toNat) 0))

end Sys2Proof.Machine
end

