-- ==== Sys2Proof/Machine/Curve.lean ====
section
/-! DEFINITION. Public-key arithmetic: the NIST curves and ECDSA (FIPS 186-5), Ed25519 (RFC 8032), RSA with its paddings
(PKCS#1), as the standards that R276 names lay them down (log entry 5). -/

namespace Sys2Proof.Machine

/-! ## Modular arithmetic -/

/-- b to the e modulo m, for an e of at most n bits. -/
def modPow (b m : Nat) : Nat → Nat → Nat
  | 0, _ => 1 % m
  | n + 1, e =>
    let h := modPow b m n (e / 2)
    let s := h * h % m
    if e % 2 = 1 then s * b % m else s

/-- The inverse modulo a prime. -/
def modInv (a p : Nat) : Nat := modPow (a % p) p (Nat.log2 p + 1) (p - 2)

/-- a minus b modulo p. -/
def modSub (a b p : Nat) : Nat := (a + p - b % p) % p

/-- The bits of a number. -/
def bitLen (x : Nat) : Nat := if x = 0 then 0 else Nat.log2 x + 1

/-! ## The curves P-256, P-384 and P-521 (R276): y² = x³ − 3x + b -/

/-- A curve: field prime, coefficient b, group order, base point, and the bytes of a coordinate. -/
structure Curve where
  p : Nat
  b : Nat
  n : Nat
  gx : Nat
  gy : Nat
  len : Nat
deriving DecidableEq, Repr, Inhabited

def p256 : Curve where
  p := 0xffffffff00000001000000000000000000000000ffffffffffffffffffffffff
  b := 0x5ac635d8aa3a93e7b3ebbd55769886bc651d06b0cc53b0f63bce3c3e27d2604b
  n := 0xffffffff00000000ffffffffffffffffbce6faada7179e84f3b9cac2fc632551
  gx := 0x6b17d1f2e12c4247f8bce6e563a440f277037d812deb33a0f4a13945d898c296
  gy := 0x4fe342e2fe1a7f9b8ee7eb4a7c0f9e162bce33576b315ececbb6406837bf51f5
  len := 32

def p384 : Curve where
  p := 2 ^ 384 - 2 ^ 128 - 2 ^ 96 + 2 ^ 32 - 1
  b := 0xb3312fa7e23ee7e4988e056be3f82d19181d9c6efe8141120314088f5013875ac656398d8a2ed19d2a85c8edd3ec2aef
  n := 0xffffffffffffffffffffffffffffffffffffffffffffffffc7634d81f4372ddf581a0db248b0a77aecec196accc52973
  gx := 0xaa87ca22be8b05378eb1c71ef320ad746e1d3b628ba79b9859f741e082542a385502f25dbf55296c3a545e3872760ab7
  gy := 0x3617de4a96262c6f5d9e98bf9292dc29f8f41dbd289a147ce9da3113b5f0b8c00a60b1ce1d7e819d7a431d7c90ea0e5f
  len := 48

def p521 : Curve where
  p := 2 ^ 521 - 1
  b := 0x051953eb9618e1c9a1f929a21a0b68540eea2da725b99b315f3b8b489918ef109e156193951ec7e937b1652c0bd3bb1bf073573df883d2c34f1ef451fd46b503f00
  n := 0x1fffffffffffffffffffffffffffffffffffffffffffffffffffffffffffffffffa51868783bf2f966b7fcc0148f709a5d03bb5c9b8899c47aebb6fb71e91386409
  gx := 0xc6858e06b70404e9cd9e3ecb662395b4429c648139053fb521f828af606b4d3dbaa14b5e77efe75928fe1dc127a2ffa8de3348b3c1856a429bf97e7e31c2e5bd66
  gy := 0x11839296a789a3bc0045c8a5fb42c7d1bd998f54449579b446817afbd17273e662c97ee72995ef42640c550b9013fad0761353c7086a272c24088be94769fd16650
  len := 66

/-- The curve of a key type or curve code (R271). -/
def curveOf (code : Nat) : Option Curve :=
  if code = 1 then some p256 else if code = 2 then some p384 else if code = 3 then some p521 else none

/-- A point, none for the point at infinity. -/
abbrev Point := Option (Nat × Nat)

/-- The sum of two points. -/
def Curve.add (c : Curve) (a b : Point) : Point :=
  match a, b with
  | none, q => q
  | q, none => q
  | some (x1, y1), some (x2, y2) =>
    if x1 = x2 ∧ (y1 + y2) % c.p = 0 then none
    else
      let s := if x1 = x2 then (3 * x1 * x1 + c.p - 3) % c.p * modInv (2 * y1) c.p % c.p
        else modSub y2 y1 c.p * modInv (modSub x2 x1 c.p) c.p % c.p
      let x3 := modSub (modSub (s * s) x1 c.p) x2 c.p
      some (x3, modSub (s * modSub x1 x3 c.p) y1 c.p)

/-- k times a point, for a k of at most n bits. -/
def Curve.mul (c : Curve) (q : Point) : Nat → Nat → Point
  | 0, _ => none
  | n + 1, k =>
    let h := c.mul q n (k / 2)
    let s := c.add h h
    if k % 2 = 1 then c.add s q else s

/-- k times a point. -/
def Curve.times (c : Curve) (k : Nat) (q : Point) : Point := c.mul q (bitLen k) k

/-- The base point. -/
def Curve.base (c : Curve) : Point := some (c.gx, c.gy)

/-- The right side of the curve equation. -/
def Curve.rhs (c : Curve) (x : Nat) : Nat := modSub (x * x % c.p * x + c.b) (3 * x) c.p

/-- A point encoding whose prefix byte and length are right (R276, R287). -/
def Curve.pointForm (c : Curve) (b : Bytes) : Bool :=
  let pre := (b.getD 0 0#8).toNat
  if pre = 4 then b.length == 1 + 2 * c.len
  else if pre = 2 ∨ pre = 3 then b.length == 1 + c.len
  else pre == 0 && b.length == 1

/-- The point that an encoding of the right form names, if it is a valid point other than infinity (R289). -/
def Curve.decode (c : Curve) (b : Bytes) : Option (Nat × Nat) :=
  let pre := (b.getD 0 0#8).toNat
  let x := beNat ((b.drop 1).take c.len)
  if pre = 0 ∨ x ≥ c.p then none
  else if pre = 4 then
    let y := beNat (b.drop (1 + c.len))
    if y < c.p ∧ y * y % c.p = c.rhs x then some (x, y) else none
  else
    let y := modPow (c.rhs x) c.p (bitLen c.p) ((c.p + 1) / 4)
    if y * y % c.p = c.rhs x then some (x, if y % 2 = pre % 2 then y else c.p - y) else none

/-- A point as 0x04 ‖ X ‖ Y (R276). -/
def Curve.encode (c : Curve) (q : Point) : Bytes :=
  match q with
  | some (x, y) => [0x04#8] ++ beBytes c.len x ++ beBytes c.len y
  | none => [0x00#8]

/-- The leftmost bits of a digest, of the length of n (R276, FIPS 186-5). -/
def Curve.digest (c : Curve) (h : Bytes) : Nat := beNat h / 2 ^ (8 * h.length - bitLen c.n)

/-- An ECDSA signature r ‖ s with the nonce k (R275, R277). -/
def Curve.sign (c : Curve) (dk k : Nat) (h : Bytes) : Bytes :=
  let r := match c.times k c.base with | some (x, _) => x % c.n | none => 0
  let s := modInv k c.n * (c.digest h + r * dk) % c.n
  beBytes c.len r ++ beBytes c.len s

/-- An ECDSA signature verifies. -/
def Curve.verify (c : Curve) (q : Nat × Nat) (h : Bytes) (r s : Nat) : Bool :=
  let w := modInv s c.n
  match c.add (c.times (c.digest h * w % c.n) c.base) (c.times (r * w % c.n) (some q)) with
  | some (x, _) => x % c.n == r
  | none => false

/-- The ECDH secret: the X coordinate. -/
def Curve.shared (c : Curve) (dk : Nat) (q : Nat × Nat) : Bytes :=
  match c.times dk (some q) with
  | some (x, _) => beBytes c.len x
  | none => zeros c.len

/-! ## Ed25519 (RFC 8032) -/

/-- The field prime, the group order, and the curve constant d. -/
def edP : Nat := 2 ^ 255 - 19
def edL : Nat := 2 ^ 252 + 27742317777372353535851937790883648493
def edD : Nat := modSub 0 121665 edP * modInv 121666 edP % edP

/-- The sum of two affine points of the twisted Edwards curve. -/
def edAdd (a b : Nat × Nat) : Nat × Nat :=
  let k := edD * a.1 % edP * b.1 % edP * a.2 % edP * b.2 % edP
  ((a.1 * b.2 + b.1 * a.2) % edP * modInv (1 + k) edP % edP,
   (a.2 * b.2 + a.1 * b.1) % edP * modInv (modSub 1 k edP) edP % edP)

/-- k times a point, for a k of at most n bits. -/
def edMul (q : Nat × Nat) : Nat → Nat → Nat × Nat
  | 0, _ => (0, 1)
  | n + 1, k =>
    let h := edMul q n (k / 2)
    let s := edAdd h h
    if k % 2 = 1 then edAdd s q else s

/-- The number of a little-endian byte string. -/
def leNat (b : Bytes) : Nat := beNat b.reverse

/-- n bytes, little-endian. -/
def leBytes (n x : Nat) : Bytes := (beBytes n x).reverse

/-- The x of a y with a sign bit, if there is one; x = 0 with sign bit 1 is refused (R289). -/
def edX (y sign : Nat) : Option Nat :=
  let u := modSub (y * y) 1 edP
  let v := (edD * (y * y % edP) + 1) % edP
  let w := u * modInv v edP % edP
  let x := modPow w edP 256 ((edP + 3) / 8)
  let x1 := if x * x % edP = w then some x
    else
      let z := x * modPow 2 edP 256 ((edP - 1) / 4) % edP
      if z * z % edP = w then some z else none
  match x1 with
  | none => none
  | some x => if x = 0 ∧ sign = 1 then none else some (if x % 2 = sign then x else (edP - x) % edP)

/-- Decode a point of 32 bytes. -/
def edDecode (b : Bytes) : Option (Nat × Nat) :=
  let n := leNat b
  let y := n % 2 ^ 255
  if y ≥ edP then none else (edX y (n / 2 ^ 255)).map (fun x => (x, y))

/-- Encode a point. -/
def edEncode (q : Nat × Nat) : Bytes := leBytes 32 (q.2 + q.1 % 2 * 2 ^ 255)

/-- The base point. -/
def edBase : Nat × Nat :=
  let y := 4 * modInv 5 edP % edP
  ((edX y 0).getD 0, y)

/-- The secret scalar of a seed. -/
def edScalar (seed : Bytes) : Nat := leNat ((sha512 seed).take 32) % 2 ^ 254 / 8 * 8 + 2 ^ 254

/-- The public key of a seed. -/
def edPublic (seed : Bytes) : Bytes := edEncode (edMul edBase 256 (edScalar seed))

/-- A signature R ‖ S. -/
def edSign (seed m : Bytes) : Bytes :=
  let a := edScalar seed
  let r := leNat (sha512 ((sha512 seed).drop 32 ++ m)) % edL
  let rb := edEncode (edMul edBase 256 r)
  let k := leNat (sha512 (rb ++ edPublic seed ++ m)) % edL
  rb ++ leBytes 32 ((r + k * a) % edL)

/-- The cofactored equation: 8·S·B = 8·R + 8·k·A. -/
def edVerify (pub m rb : Bytes) (a r : Nat × Nat) (s : Nat) : Bool :=
  let k := leNat (sha512 (rb ++ pub ++ m)) % edL
  let left := edMul (edMul edBase 256 s) 4 8
  let right := edMul (edAdd r (edMul a 256 k)) 4 8
  left == right

/-! ## RSA (R276) -/

/-- A hash by its ID (R276). -/
def hashById (id : Nat) : Option (Bytes → Bytes) :=
  if id = 1 then some sha256 else if id = 2 then some sha384 else if id = 3 then some sha512 else none

/-- The length of a hash's digest. -/
def hashLen (id : Nat) : Nat := if id = 1 then 32 else if id = 2 then 48 else 64

/-- The DigestInfo prefix of PKCS#1 v1.5. -/
def digestInfo (id : Nat) : Bytes :=
  if id = 1 then beBytes 19 0x3031300d060960864801650304020105000420
  else if id = 2 then beBytes 19 0x3041300d060960864801650304020205000430
  else beBytes 19 0x3051300d060960864801650304020305000440

/-- The encoded message of PKCS#1 v1.5, k bytes. -/
def pkcs1Encode (id k : Nat) (h : Bytes) : Bytes :=
  let t := digestInfo id ++ h
  [0x00#8, 0x01#8] ++ List.replicate (k - 3 - t.length) 0xFF#8 ++ [0x00#8] ++ t

/-- The mask generation function MGF1. -/
def mgf1 (hash : Bytes → Bytes) (hLen : Nat) (seed : Bytes) (n : Nat) : Bytes :=
  ((List.range ((n + hLen - 1) / hLen)).flatMap (fun i => hash (seed ++ beBytes 4 i))).take n

/-- The encoded message of PSS with a salt of the hash's length, for a modulus of so many bits. -/
def pssEncode (id bits : Nat) (h salt : Bytes) : Bytes :=
  let hash := (hashById id).getD sha256
  let hLen := hashLen id
  let emLen := (bits - 1 + 7) / 8
  let hh := hash (zeros 8 ++ h ++ salt)
  let db := zeros (emLen - 2 * hLen - 2) ++ [0x01#8] ++ salt
  let masked := xorB db (mgf1 hash hLen hh (emLen - hLen - 1))
  let top := beBytes masked.length (beNat masked % 2 ^ (8 * masked.length - (8 * emLen - (bits - 1))))
  top ++ hh ++ [0xBC#8]

/-- PSS verification of an encoded message. -/
def pssOk (id bits : Nat) (h em : Bytes) : Bool :=
  let hash := (hashById id).getD sha256
  let hLen := hashLen id
  let emLen := (bits - 1 + 7) / 8
  let masked := em.take (emLen - hLen - 1)
  let hh := (em.drop (emLen - hLen - 1)).take hLen
  let db := xorB masked (mgf1 hash hLen hh (emLen - hLen - 1))
  let spare := 8 * emLen - (bits - 1)
  let dbn := beNat db % 2 ^ (8 * db.length - spare)
  let salt := lastBytes hLen db
  em.length == emLen && decide (beNat masked < 2 ^ (8 * masked.length - spare)) && em.getLast? == some 0xBC#8 &&
    beBytes db.length dbn == zeros (emLen - 2 * hLen - 2) ++ [0x01#8] ++ salt && hash (zeros 8 ++ h ++ salt) == hh
where
  /-- The last n bytes. -/
  lastBytes (n : Nat) (b : Bytes) : Bytes := b.drop (b.length - n)

/-- The private operation by the Chinese remainder theorem, on the key field p, q, dp, dq, qinv (R271). -/
def rsaPrivate (key : Bytes) (m : Nat) : Nat :=
  let h := key.length / 5
  let f (i : Nat) : Nat := beNat ((key.drop (i * h)).take h)
  let p := f 0
  let q := f 1
  let m1 := modPow (m % p) p (8 * h) (f 2)
  let m2 := modPow (m % q) q (8 * h) (f 3)
  m2 + q * (f 4 * modSub m1 m2 p % p)

/-- The modulus of a private key field. -/
def rsaModulus (key : Bytes) : Nat :=
  let h := key.length / 5
  beNat (key.take h) * beNat ((key.drop h).take h)

end Sys2Proof.Machine
end

