-- ==== Sys2Proof/Machine/Units.lean ====
section
/-! DEFINITION. The plain data of the engines and of the key island: jobs and locks of the cipher cores, hash cores and
Voussoir engines (ch. 06, 07), PIN unit steps (ch. 03), the token index (ch. 04), the key cache, the Vault writes on
their way and the noise source (ch. 05). -/

namespace Sys2Proof.Machine

/-! ## Jobs -/

/-- Where a micro-operation's output goes (R68, R69): nowhere, a general register, the data buffer from an offset on, lane
registers from a number on with their tag, or the PIN lane. -/
inductive Dest where
  | none
  | reg (n : Nat)
  | buf (off : Nat)
  | lane (n : Nat) (usage : Usage) (alg : Alg) (session : Bool)
  | secret (n : Nat)
  | pinLane
  | pinRef
deriving DecidableEq, Repr, Inhabited

/-- A lock entry of a core or an engine: state (0 free, 1 micro-operation, 2 bulk record or supervisor job, 3 wiping),
origin class, bay, generation number and tag (R230, R232, R259, R283). -/
structure Lock where
  state : Nat
  supervisor : Bool
  bay : Nat
  gen : Nat
  tag : Nat
deriving DecidableEq, Repr, Inhabited

/-- A free lock entry. -/
def Lock.free : Lock := ⟨0, false, 0, 0, 0⟩

/-- A bulk record: the face and stream it came on, its descriptor, its data, and the IV it took at the grant, twelve zero
bytes before, with the key its bank holds from then on (R225, R235, R239). -/
structure BulkRec where
  via : Via
  stream : Nat
  number : Nat
  bay : Nat
  gen : Nat
  desc : BulkDesc
  aad : Bytes
  pay : Bytes
  tag : Bytes
  iv : Bytes
  key : Bytes
  checked : Bool
deriving DecidableEq, Repr, Inhabited

/-- What becomes of a job's result when the job ends: a completion token to the program, the end of a whole function, a
bulk record's completion, a token-vault write for the function, or nothing. -/
inductive JobEnd where
  | token
  | whole (out : List Tlv)
  | store (bay handle : Nat) (o : Obj) (session : Bool) (out : List Tlv)
  | bulk (r : BulkRec)
  | handshake (session : Nat)
  | supervisor
deriving DecidableEq, Repr, Inhabited

/-- A job of a core, an engine or the PIN unit: who it is for, what it returns and where, the status it ends with, its
clock count where the unit counts (0 where it does not), the clocks its grant is charged (R314), the cipher blocks it
takes, its key's handle, whether it runs on a substitute operand (R288), and whether an abort is pending. -/
structure Job where
  supervisor : Bool
  bay : Nat
  gen : Nat
  tag : Nat
  ctx : Nat
  req : Option Request
  func : Nat
  dest : Dest
  out : Bytes
  status : Status
  clocks : Nat
  cost : Nat
  blocks : Nat
  finish : JobEnd
  handle : Nat
  invalid : Bool
  abort : Bool
deriving DecidableEq, Repr, Inhabited

/-- A cipher core: its two lock entries and the jobs in its two banks (R230). A hash core or a Voussoir engine uses the
first of each. -/
structure Core where
  cur : Lock
  next : Lock
  curJob : Option Job
  nextJob : Option Job
  swept : Bool
deriving DecidableEq, Repr, Inhabited

/-- A core that holds nothing. -/
def Core.idle : Core := ⟨Lock.free, Lock.free, none, none, false⟩

/-- A completion token on its way to a context (R68, R92): the request it belongs to and its status. -/
structure Token where
  ctx : Nat
  req : Option Request
  status : Status
deriving DecidableEq, Repr, Inhabited

/-- The engines: waiting payment micro-operations, cipher cores; waiting hash jobs in the order they arrived, hash cores;
waiting Voussoir jobs, engines; waiting PIN steps in the order they reached the unit, the 24 step lanes; waiting bulk
records of each bay and the record each bay's head waits with; the passes of the two stride procedures (R571) with the
last bay of share 0 served, the bytes of a bay's bulk records below a whole KiB; completion tokens; what the boot routine of engine 0 last gave the
Footing ROM (R265). -/
structure Eng where
  ashWait : List Job
  cores : Tab Core
  hashWait : List Job
  hashes : Tab Core
  vsWait : List Job
  engines : Tab Core
  pinWait : List Job
  pinLanes : Tab Job
  bulkWait : Tab (List BulkRec)
  bulkPasses : Tab Nat
  bulkPresent : Nat
  bulkLast : Nat
  bulkRem : Tab Nat
  vsPasses : Tab Nat
  vsPresent : Nat
  vsLast : Nat
  tokens : List Token
  boot : Bytes
deriving DecidableEq, Repr

/-! ## The key island and the Vault (ch. 05) -/

/-- Keys of one bay in the key cache: handle and the entries it takes, oldest use first in the list that holds it (R195,
R197, R273). -/
structure CacheEntry where
  bay : Nat
  handle : Nat
  size : Nat
deriving DecidableEq, Repr, Inhabited

/-- A cache miss being filled (R198). -/
structure Fill where
  ctx : Nat
  req : Option Request
  bay : Nat
  handle : Nat
deriving DecidableEq, Repr, Inhabited

/-- A pending index slot: the bay and the PAN, and the request that holds it (R169). -/
structure PendingSlot where
  bay : Nat
  pan : List Nat
  token : List Nat
  ctx : Nat
  gen : Nat
deriving DecidableEq, Repr, Inhabited

/-- What a Vault write puts in place when it is durable (R203): a key record, or a token entry. -/
inductive VaultItem where
  | object (handle : Nat) (o : Obj)
  | entry (n : Nat) (e : TokenEntry)
deriving DecidableEq, Repr, Inhabited

/-- A Vault write on its way: its bay, what it writes, the context and request it completes, and the output that goes with
it (R203). -/
structure VaultWrite where
  bay : Nat
  item : VaultItem
  ctx : Nat
  req : Option Request
  whole : Bool
  out : List Tlv
deriving DecidableEq, Repr, Inhabited

/-- A DRBG instance: generate requests since its last reseed, whether a reseed has fallen due and waits for the noise
source, and whether it is erased (R210 to R212). -/
structure Drbg where
  requests : Nat
  due : Bool
  erased : Bool
deriving DecidableEq, Repr, Inhabited

/-- A fresh instance. -/
def Drbg.fresh : Drbg := ⟨0, false, false⟩

/-- A copy of the PUF helper data: its enrolment count, and whether its CRC holds (R175). -/
structure HelperCopy where
  count : Nat
  valid : Bool
deriving DecidableEq, Repr, Inhabited

/-- A bundle operation in progress: 1 export or 2 restore, source and destination bays, and whether it is committing. -/
structure BundleOp where
  op : Nat
  src : Nat
  dst : Nat
  cls : Nat
  committing : Bool
  backupId : Bytes
deriving DecidableEq, Repr, Inhabited

/-- A context whose request waits for a reservation to become durable before anything of it is consumed: the key index,
and whether a nonce block or key uses are reserved (R190, R244). -/
structure KeyWait where
  ctx : Nat
  index : Nat
  nonce : Bool
deriving DecidableEq, Repr, Inhabited

/-- The key island and the Vault: the root while it is present, stored objects by bay and object number, session keys by bay and slot, the last numbers
assigned in each bay, cached keys in the order of their last use, tree nodes held, misses being filled, nonce counters
by key index, requests waiting for a reservation, use reservations being written, token entries and pending slots, requests waiting on a slot,
Vault writes on their way, DRBG instances, key commands in progress, helper copies, the NOR identity and certificate
records, the floor waiting for the next boundary, the bundle operation, the sweep, and whether work waits for the root after a
resumption (R424). -/
structure Keys where
  root : Option Bytes
  objs : Tab Obj
  sess : Tab SessKey
  lastObj : Tab Nat
  lastSlot : Tab Nat
  cache : List CacheEntry
  nodes : List (Nat × Nat)
  fills : List Fill
  nonces : Tab Nonce
  waits : List KeyWait
  useWrites : List Nat
  entries : Tab TokenEntry
  lastEntry : Nat
  slots : List PendingSlot
  slotWait : List Nat
  writes : List VaultWrite
  drbgs : Tab Drbg
  helpers : HelperCopy × HelperCopy
  identity : Option Bytes
  certificate : Option (Bytes × Bytes)
  certWait : Bool
  floorNext : Option Nat
  floorRecord : List (Nat × Nat)
  bundle : Option BundleOp
  sweepDue : Bool
  flushing : Bool
  scratchKey : Bool
  resuming : Bool
deriving DecidableEq, Repr

end Sys2Proof.Machine
end

