-- ==== Sys2Proof/Machine/Plant.lean ====
section
/-! DEFINITION. The plain data of the parts around the data path: custodian cards and ceremonies (ch. 10), the Plinth and
the Cornerstone log (ch. 11), the life cycle and debug (ch. 12), the Lintel gates (ch. 13), the Keystone pair (ch. 14),
start-up and power (ch. 15). -/

namespace Sys2Proof.Machine

/-! ## Cards (ch. 10) -/

/-- A roster entry (R400). -/
structure RosterEntry where
  cardId : Nat
  keyHash : Nat
  classes : Nat
deriving DecidableEq, Repr, Inhabited

/-- An open card session: the card, its roster entry's classes, whether VERIFY succeeded, the flags of each slot as read
in this session (bit 0 temporary, bit 1 permanent protection), and the session counter of WAKE (R390 to R395). -/
structure CardSession where
  cardId : Nat
  keyHash : Nat
  classes : Nat
  verified : Bool
  flags : Tab Nat
  counter : Nat
deriving DecidableEq, Repr, Inhabited

/-- An exchange in progress with a card: operation of CD_CMD, slot, the data of a write, the slot's version counter before
the write, whether WRITE SLOT has been sent, failures at the present block, RESYNCH requests sent, whether the last failure
was a waiting-time overrun, and the waiting-time multiplier granted (R388, R389, R398). -/
structure CardExchange where
  op : Nat
  slot : Nat
  data : Bytes
  version : Nat
  sent : Bool
  tries : Nat
  resynchs : Nat
  timeout : Bool
  wtx : Nat
deriving DecidableEq, Repr, Inhabited

/-- A slot whose write ended in doubt: card, slot, version counter before the write, and the data (R398, R399). -/
structure InDoubt where
  cardId : Nat
  slot : Nat
  version : Nat
  data : Bytes
deriving DecidableEq, Repr, Inhabited

/-- An interface: the card-detect input, whether a retry with class B or without PPS waits for its 10 ms, whether this
activation uses no PPS, the PPS1 sent and not yet echoed, the N(S) of the next I-block, whether every current sample of the
activation was below 0.2 mA, samples of VCC out of tolerance in a row, the exchange and the session (R381 to R397). -/
structure CardIf where
  detect : Bool
  retryClass : Bool
  retryPps : Bool
  noPps : Bool
  pps : Option Nat
  ns : Nat
  lowCurrent : Bool
  vccBad : Nat
  exchange : Option CardExchange
  session : Option CardSession
deriving DecidableEq, Repr, Inhabited

/-- An interface that holds nothing. -/
def CardIf.idle : CardIf := ⟨false, false, false, false, none, 0, false, 0, none, none⟩

/-- The backup key of a ceremony (R213): identifier, threshold, number of shares, key, the random coefficients of the
sharing, and the shares written. -/
structure BackupKey where
  id : Bytes
  m : Nat
  n : Nat
  key : Bytes
  coeffs : Bytes
  written : List Nat
deriving DecidableEq, Repr, Inhabited

/-- Cards, roster, the cards staged in PROVISIONED, the cards counted in the open ceremony, slots in doubt, the backup key
while a ceremony holds it, and the shares read for a restore or an export (R215, R400 to R407). -/
structure Cards where
  ifs : Tab CardIf
  roster : List RosterEntry
  thresholds : Tab Nat
  staged : List RosterEntry
  counted : List Nat
  inDoubt : List InDoubt
  backup : Option BackupKey
  shares : List (Nat × Bytes)
  shareId : Bytes
  shareM : Nat
deriving DecidableEq, Repr

/-! ## Plinth and Cornerstone (ch. 11) -/

/-- The body of a Cornerstone record (R433). -/
structure CsBody where
  number : Nat
  seconds : Nat
  tick : Nat
  powerSeq : Nat
  kind : Nat
  source : Nat
  level : Nat
  flags : Nat
  p0 : Nat
  p1 : Nat
  p2 : Nat
  mask : Nat
deriving DecidableEq, Repr, Inhabited

/-- The Plinth: the sealing share in its battery-backed SRAM (R178), its seconds count and whether it runs (from SEALED on), the tick within the second, the main-power
sequence number, the pending level P with the sources that fired since main power was lost, the sources asserted, the
stamps of each source's last events, and whether the response program's digest holds (R412 to R432, R573). -/
structure Plinth where
  share : Option Bytes
  seconds : Nat
  running : Bool
  tick : Nat
  powerSeq : Nat
  pending : Nat
  pendingFired : List Nat
  asserted : List Nat
  stamps : Tab (List Nat)
  programOk : Bool
deriving DecidableEq, Repr

/-- The Cornerstone log: the Plinth's buffer, oldest first, the number of the next record, the durable records with their
links, the head link, the numbers skipped, and the read in progress (R433 to R440). -/
structure CsLog where
  buffer : List CsBody
  next : Nat
  durable : List (CsBody × Bytes)
  head : Bytes
  skipped : List (Nat × Nat)
  reading : Option Nat
  data : Bytes
deriving DecidableEq, Repr

/-! ## Life cycle and debug (ch. 12) -/

/-- A transition that has been accepted: its target, and the step it is at (R443, R444). -/
structure Transition where
  target : Nat
  step : Nat
deriving DecidableEq, Repr, Inhabited

/-- The token check in progress: whether a challenge was live, that challenge, and the token's words (R454). -/
structure TokenCheck where
  live : Bool
  challenge : Bytes
deriving DecidableEq, Repr, Inhabited

/-- The instructions of the TAP (R455). -/
inductive TapIns where
  | idcode | bypass | samplePreload | extest | intest | dbgAuth | dbgAccess
deriving DecidableEq, Repr, Inhabited

/-- The life-cycle controller and the debug island: live challenge, token words, check in progress, standing token
(purpose, and target or source), pending transition, scope of the open session with the time it was to run, the TAP's
instruction, and the shift register of DBG_ACCESS (R443 to R460). -/
structure Life where
  challenge : Option Bytes
  token : Tab Nat
  checking : Option TokenCheck
  standing : Option (Nat × Nat)
  transition : Option Transition
  session : Option Nat
  tap : TapIns
  fusing : Option Nat
deriving DecidableEq, Repr

/-! ## Gates (ch. 13) -/

/-- A gate's drain: the accesses held, in arrival order, and whether the drain is past its limit (R473 to R475). -/
structure GateDrain where
  held : List Access
  late : Bool
deriving DecidableEq, Repr, Inhabited

/-! ## The Keystone pair (ch. 14) -/

/-- A Keystone: whether a path-fault episode is open (R487), the heartbeat windows in which automatic restarts failed
(R492), the firmware slot it runs, whether no automatic restart is made (R494), whether the present run is an automatic
restart, and the FORMAT_MAX of its image (R218). -/
structure KUnit where
  episode : Bool
  failTimes : List Nat
  slot : Nat
  noAuto : Bool
  autoRun : Bool
  formatMax : Nat
deriving DecidableEq, Repr, Inhabited

/-- The pair: its units, the next input number, the controller's digests that wait for the standby's with their input
numbers, the heartbeat windows in which reverts took place, whether a revert waits for its boundary, and the heartbeat
windows closed, 100 µs of the management reference each (R478 to R499). -/
structure Pair where
  a : KUnit
  b : KUnit
  nextInput : Nat
  digests : List (Nat × Nat)
  reverts : List Nat
  revert : Bool
  windows : Nat
deriving DecidableEq, Repr

/-! ## Supplies, start and domains (ch. 15) -/

/-- How far the module's power has come: main power absent, waiting for a start attempt, waiting after a failed attempt,
running, at rest in SCRAP, or held (R506 to R511, R451). -/
inductive Stage where
  | off | window | waiting | running | rest | held
deriving DecidableEq, Repr, Inhabited

/-- Supplies and start: presence of the inputs, whether a dip of VIN_MAIN runs, the stage, the attempts made since the main
power-up and the slot of the last one, whether root regeneration is repeated, whether the rest in SCRAP is recorded, the
floor copy of the NOR start tables, and whether a plumb measurement waits for its plan (R504 to R520). -/
structure Power where
  main : Bool
  aux : Bool
  dip : Bool
  stage : Stage
  attempts : Nat
  lastSlot : Option Nat
  rootRetry : Bool
  restNoted : Bool
  floorCopy : Nat
  measuring : Bool
deriving DecidableEq, Repr

end Sys2Proof.Machine
end

