-- ==== Sys2Proof/Machine/Dev.lean ====
section
/-! DEFINITION. Everything the block holds but the queue of waiting commands, in groups of plain data. A register field
has its one home in the register file (group regs), by its key, unless it shows a list or a count of another group. -/

namespace Sys2Proof.Machine

/-- The register file: every field that differs from its reset value; the values in effect of staged fields that differ
from their reset values; the keys staged for the next course boundary (R7, R42). -/
structure RegFile where
  vals : Tab Nat
  eff : Tab Nat
  staged : List Nat
deriving DecidableEq, Repr

/-- The course scheduler, the bay queues and the contexts (ch. 02, 08). Queues, entry generations (by bay and entry),
contexts and program stores are tables; groupNext lists the groups that dispatch from the next course boundary on. -/
structure Sched where
  time : Nat
  owners : List Nat
  lentLast : Nat
  queues : Tab (List Request)
  entryGens : Tab Nat
  ctxs : Tab Ctx
  progs : Tab Image
  groupNext : List Nat
  presented : List Completion
  failures : List Nat
  govAcc : Tab Nat
  govDone : Nat
  courseDone : Option Nat
  resetDue : List Nat
  resets : Tab ResetWait
  bindings : Tab Nat
deriving DecidableEq, Repr

/-- The three reporting channels (ch. 16): bay event rings, Mark records, counters with the cycle a level
counter last counted, the MSI-X state, the record being read (R541), and the range of sequence numbers that a power loss
took and the next start has to record (R537). -/
structure Rec where
  rings : Tab (List RingEntry)
  ringOverflow : List Nat
  markBuf : List Mark
  markMain : List Mark
  markNext : Nat
  markBase : Nat
  markLost : List (Nat × Nat)
  plinthMarks : Tab Mark
  plinthNext : Nat
  lostEpisode : Bool
  acc : List Occ
  counters : Tab Nat
  shadow : Tab Nat
  levelLast : Tab Nat
  irqHeld : List Nat
  vecUnmasked : List Nat
  markRead : Option (Bool × Nat)
  markGap : Option (Nat × Nat)
  funcMask : Bool
  msixEnable : Bool
deriving DecidableEq, Repr

/-- The network face and the host face (ch. 09): sessions, handshakes and partial requests by session ID, bulk streams
by number, ring pairs by owner and ring, IDE stream keys, the SPDM pre-shared key with its hint and whether the SPDM
session is open. -/
structure Face where
  sessions : Tab Session
  handshakes : Tab Handshake
  partials : Tab (List Partial)
  streams : Tab Stream
  rings : Tab HostRing
  ideKeys : Tab Bytes
  psk : Option (Nat × Bytes)
  spdm : Bool
  perst : Bool
deriving DecidableEq, Repr

/-- Crossings that hold something, the split accesses that wait for an answer (R38), the demand that the tamper front-end
holds, and the clock domains that are stopped (ch. 01). -/
structure Wires where
  xings : List XingState
  splits : Tab Split
  demand : Bool
  stoppedClocks : List Nat
deriving DecidableEq, Repr

/-- The permanent state, which few commands touch: the tamper response level E and the level P applied at this power-up
(R421, R429), whether the sealing share is erased (R426), the life-cycle words of OTP (R441) and the tamper fuses
(R418). -/
structure Perm where
  level : Nat
  appliedP : Nat
  shareErased : Bool
  otp : Tab Nat
  fuses : List Nat
deriving DecidableEq, Repr

/-- The block but for its queue of commands and its permanent state. free counts the free values drawn (log entry 6). -/
structure Dev where
  regs : RegFile
  sched : Sched
  log : Rec
  face : Face
  wires : Wires
  eng : Eng
  keys : Keys
  cards : Cards
  plinth : Plinth
  cs : CsLog
  life : Life
  gates : Tab GateDrain
  pair : Pair
  power : Power
  hbm : Tab Byte
  free : Nat
  outbox : List Output
deriving DecidableEq, Repr

end Sys2Proof.Machine
end

