-- ==== Sys2Proof/Machine/State.lean ====
section
/-! DEFINITION. The state of the block: the queue of the commands that wait, the permanent state, and everything else the
spec gives the machine, in groups of plain data; the reasons a command can stop; and the block after reset. -/

namespace Sys2Proof.Machine

/-- The block: the commands that wait, first in, first out; the permanent state; and everything else (Dev). -/
structure State where
  pending : List Instr
  perm : Perm
  dev : Dev
deriving DecidableEq, Repr

/-- The reasons a command ends in a fault: none. The spec answers every command with an effect or with a status. -/
inductive Fault where
deriving DecidableEq, Repr

/-- The reasons a command is refused. -/
inductive Refusal where
  /-- A command without a meaning, raised by the arm of exec that stands for it; safe, because nothing can be proved of
  what the command does. -/
  | notModelled (mnemonic : String)
deriving DecidableEq, Repr

/-- Register fields after reset: each at the value of its table, none staged (R7, R42). -/
def RegFile.reset : RegFile := ⟨[], [], []⟩

/-- The scheduler after reset: time 0, empty queues, free contexts, no program image, no binding (R58, R83, R304). -/
def Sched.reset : Sched where
  time := 0
  owners := []
  lentLast := 255
  queues := []
  entryGens := []
  ctxs := []
  progs := []
  groupNext := []
  presented := []
  failures := []
  govAcc := []
  govDone := 0
  courseDone := none
  resetDue := []
  resets := []
  bindings := []

/-- The reporting channels after reset: empty (R336, R533, R542, R527). -/
def Rec.reset : Rec where
  rings := []
  ringOverflow := []
  markBuf := []
  markMain := []
  markNext := 0
  markBase := 0
  markLost := []
  plinthMarks := []
  plinthNext := 0
  lostEpisode := false
  acc := []
  counters := []
  shadow := []
  levelLast := []
  irqHeld := []
  vecUnmasked := []
  markRead := none
  markGap := none
  funcMask := false
  msixEnable := false

/-- The faces after reset: no session, no stream, rings not configured, PERST# asserted (R360, R369). -/
def Face.reset : Face := ⟨[], [], [], [], [], [], none, false, true⟩

/-- The crossings after reset: none stalled or fenced, the mailboxes empty (R33, R35). -/
def Wires.reset : Wires := ⟨[], [], false, []⟩

/-- The engines after reset: idle. -/
def Eng.reset : Eng where
  ashWait := []
  cores := []
  hashWait := []
  hashes := []
  vsWait := []
  engines := []
  pinWait := []
  pinLanes := []
  bulkWait := []
  bulkPasses := []
  bulkPresent := 0
  bulkLast := 256
  bulkRem := []
  vsPasses := []
  vsPresent := 0
  vsLast := 256
  tokens := []
  boot := []

/-- The key island and the Vault after reset: nothing stored, nothing cached. -/
def Keys.reset : Keys where
  root := none
  objs := []
  sess := []
  lastObj := []
  lastSlot := []
  cache := []
  nodes := []
  fills := []
  nonces := []
  waits := []
  useWrites := []
  entries := []
  lastEntry := 0
  slots := []
  slotWait := []
  writes := []
  drbgs := []
  helpers := (⟨0, false⟩, ⟨0, false⟩)
  identity := none
  certificate := none
  certWait := false
  floorNext := none
  floorRecord := []
  bundle := none
  sweepDue := false
  flushing := false
  scratchKey := false
  resuming := false

/-- Cards and ceremonies after reset: no card, an empty roster. -/
def Cards.reset : Cards where
  ifs := []
  roster := []
  thresholds := []
  staged := []
  counted := []
  inDoubt := []
  backup := none
  shares := []
  shareId := []
  shareM := 0

/-- The Plinth after reset: counting from the start, nothing pending. -/
def Plinth.reset : Plinth where
  share := none
  seconds := 0
  running := false
  tick := 0
  powerSeq := 0
  pending := 0
  pendingFired := []
  asserted := []
  stamps := []
  programOk := true

/-- The Cornerstone log after reset: empty. -/
def CsLog.reset : CsLog := ⟨[], 0, [], List.replicate 64 0, [], none, []⟩

/-- The life-cycle controller and the debug island after reset: nothing live. -/
def Life.reset : Life := ⟨none, [], none, none, none, none, .idcode, none⟩

/-- A Keystone that is off. -/
def KUnit.off : KUnit := ⟨false, [], 0, false, false, 0⟩

/-- The Keystone pair after reset: both units off; the first input has number 1 (log entry 18). -/
def Pair.reset : Pair := ⟨KUnit.off, KUnit.off, 1, [], [], false, 0⟩

/-- The supplies after reset: no input present, nothing started. -/
def Power.reset : Power where
  main := false
  aux := false
  dip := false
  stage := .off
  attempts := 0
  lastSlot := none
  rootRetry := false
  restNoted := false
  floorCopy := 0
  measuring := false

/-- The permanent state of a new module: E and P 0, the sealing share unerased, no life-cycle word and no fuse programmed
(R421, R441, R418). -/
def Perm.reset : Perm := ⟨0, 0, false, [], []⟩

/-- Everything but the queue and the permanent state, after reset. -/
def Dev.reset : Dev where
  regs := RegFile.reset
  sched := Sched.reset
  log := Rec.reset
  face := Face.reset
  wires := Wires.reset
  eng := Eng.reset
  keys := Keys.reset
  cards := Cards.reset
  plinth := Plinth.reset
  cs := CsLog.reset
  life := Life.reset
  gates := []
  pair := Pair.reset
  power := Power.reset
  hbm := []
  free := 0
  outbox := []

/-- The block after reset: no command waits, and everything is as the spec gives it for reset. -/
def State.reset : State := ⟨[], Perm.reset, Dev.reset⟩

end Sys2Proof.Machine
end

