-- ==== Sys2Proof/Machine/Meaning.lean ====
section
/-! DEFINITION. How a meaning changes the state: everything but the queue and the permanent state, or the permanent state
too. The queue is never touched. -/

namespace Sys2Proof.Machine

/-- A change of the block as an outcome: the queue and the permanent state stay. -/
def State.after (s : State) (f : Dev → Dev) : Host.Outcome State Fault Refusal := .next { s with dev := f s.dev }

/-- A change of the block that reads the permanent state and leaves it. -/
def State.afterWith (s : State) (f : Perm → Dev → Dev) : Host.Outcome State Fault Refusal :=
  .next { s with dev := f s.perm s.dev }

/-- A change of the block and of its permanent state. -/
def State.afterPerm (s : State) (f : Perm → Dev → Perm × Dev) : Host.Outcome State Fault Refusal :=
  let r := f s.perm s.dev
  .next { s with perm := r.1, dev := r.2 }

end Sys2Proof.Machine
end

