-- ==== Sys2Proof/Machine/RegTable.lean ====
section
/-! DEFINITION. The register fields of every page, one constant for each field row of the register tables of the spec
(offset, bits, type, reset value), and the list of the fields of each page kind. The fields of the common header stand in
Sys2Proof.Machine.Names beside the type. Indexed registers and register arrays are one constant with a repetition. -/

namespace Sys2Proof.Machine.R

/-- R502: Unit's claim (R481) -/
def KS_STATUS_CLAIM : Fld := ⟨.ks, 0x040, 24, 8, .ro, 0, .one, false⟩
/-- R502: State of R484 -/
def KS_STATUS_STATE : Fld := ⟨.ks, 0x040, 16, 4, .ro, 0, .one, false⟩
/-- R502: Consecutive misses on the Mortar path, saturating at 15 -/
def KS_STATUS_MISS_MORTAR : Fld := ⟨.ks, 0x040, 12, 4, .ro, 0, .one, false⟩
/-- R502: Consecutive misses on the wire path, saturating at 15 -/
def KS_STATUS_MISS_WIRE : Fld := ⟨.ks, 0x040, 8, 4, .ro, 0, .one, false⟩
/-- R502: Last failure: 0 none, 1 heartbeat, 2 SELF, 3 DIVERGE, 4 LAG, 5 PAIR, 6 image verification -/
def KS_STATUS_CAUSE : Fld := ⟨.ks, 0x040, 0, 3, .ro, 0, .one, false⟩
/-- R502: Release the unit runs, as its verified image states it; 0x0000 while the unit is OFF or STARTING (R39) -/
def KS_FW_RELEASE : Fld := ⟨.ks, 0x044, 16, 16, .ro, 0, .one, false⟩
/-- R502: PAIR_MIN of that release (R494), as the image states it; 0x0000 while the unit is OFF or STARTING -/
def KS_FW_PAIR_MIN : Fld := ⟨.ks, 0x044, 0, 16, .ro, 0, .one, false⟩
/-- R502: Seconds in MATCHED without a break; 0 in any other state -/
def KS_MATCHED_S : Fld := ⟨.ks, 0x048, 0, 32, .ro, 0, .one, false⟩
/-- R502: Input sequence number last processed, lower and upper words; a read of LO latches HI -/
def KS_INPUT_LO : Fld := ⟨.ks, 0x04C, 0, 32, .ro, 0, .one, false⟩
/-- R502: Input sequence number last processed, lower and upper words; a read of LO latches HI -/
def KS_INPUT_HI : Fld := ⟨.ks, 0x050, 0, 32, .ro, 0, .one, false⟩
/-- R502: Inputs behind the controller, 0 to 4,096; 0 for the controller -/
def KS_LAG : Fld := ⟨.ks, 0x054, 0, 13, .ro, 0, .one, false⟩
/-- R502: Firmware slot for the next manager restart -/
def KS_CTRL_SLOT : Fld := ⟨.ks, 0x058, 1, 1, .rw, 0, .one, false⟩
/-- R502: 1 restarts the unit under R492; reads 1 until STARTING ends -/
def KS_CTRL_RESTART : Fld := ⟨.ks, 0x058, 0, 1, .w1s, 0, .one, false⟩
/-- R502: Automatic restarts that failed within the past hour -/
def KS_RESTARTS_AUTO_HOUR : Fld := ⟨.ks, 0x05C, 16, 16, .ro, 0, .one, false⟩
/-- R502: Restarts since main power-up; wraps at 2^16 -/
def KS_RESTARTS_TOTAL : Fld := ⟨.ks, 0x05C, 0, 16, .ro, 0, .one, false⟩
/-- R502: Episodes under R487; mismatches under R479; each saturating at 2^32 − 1 -/
def KS_PATH_FAULTS : Fld := ⟨.ks, 0x060, 0, 32, .rc, 0, .one, false⟩
/-- R502: Episodes under R487; mismatches under R479; each saturating at 2^32 − 1 -/
def KS_DIVERGE : Fld := ⟨.ks, 0x064, 0, 32, .rc, 0, .one, false⟩
/-- R502: 1 clears the hold and the revert history (R499) -/
def KS_PAIR_CTL_REVERT_ARM : Fld := ⟨.ks, 0x070, 2, 1, .w1s, 0, .one, false⟩
/-- R502: 1 starts a planned handover (R497); reads 1 until it ends -/
def KS_PAIR_CTL_SWITCH : Fld := ⟨.ks, 0x070, 1, 1, .w1s, 0, .one, false⟩
/-- R502: 1: A reverts under R498 -/
def KS_PAIR_CTL_AUTO_REVERT : Fld := ⟨.ks, 0x070, 0, 1, .rw, 1, .one, false⟩
/-- R502: No unit holds the role (R491) -/
def KS_PAIR_STATUS_LOST : Fld := ⟨.ks, 0x074, 31, 1, .ro, 0, .one, false⟩
/-- R502: Reverts held (R499) -/
def KS_PAIR_STATUS_HOLD : Fld := ⟨.ks, 0x074, 30, 1, .ro, 0, .one, false⟩
/-- R502: Reverts in the past 3,600 s, 0 to 3 -/
def KS_PAIR_STATUS_REVERTS : Fld := ⟨.ks, 0x074, 24, 2, .ro, 0, .one, false⟩
/-- R502: Claim obeyed by the output stages; 0x00 while LOST -/
def KS_PAIR_STATUS_CONTROLLER : Fld := ⟨.ks, 0x074, 0, 8, .ro, 0, .one, false⟩
/-- R502: Handovers under R496, reverts included; wraps at 2^16 -/
def KS_SWITCHES_PLANNED : Fld := ⟨.ks, 0x078, 16, 16, .ro, 0, .one, false⟩
/-- R502: Switches under R488; wraps at 2^16 -/
def KS_SWITCHES_FAILURE : Fld := ⟨.ks, 0x078, 0, 16, .ro, 0, .one, false⟩
/-- R522: Attempt that succeeded, or in progress -/
def PW_BOOT_ATTEMPT : Fld := ⟨.pw, 0x040, 16, 16, .ro, 1, .one, false⟩
/-- R522: Cause code of the last failed attempt (R510) -/
def PW_BOOT_CAUSE : Fld := ⟨.pw, 0x040, 12, 4, .ro, 0, .one, false⟩
/-- R522: Last step reached (R506) -/
def PW_BOOT_STEP : Fld := ⟨.pw, 0x040, 8, 4, .ro, 0, .one, false⟩
/-- R522: Started from the slot other than PREFERRED -/
def PW_BOOT_FALLBACK : Fld := ⟨.pw, 0x040, 2, 1, .ro, 0, .one, false⟩
/-- R522: Slot of the present image -/
def PW_BOOT_SLOT : Fld := ⟨.pw, 0x040, 1, 1, .ro, 0, .one, false⟩
/-- R522: Slot for attempt 1; a write is stored in the NOR start tables -/
def PW_BOOT_PREFERRED : Fld := ⟨.pw, 0x040, 0, 1, .rw, 0, .one, false⟩
/-- R522: VIN_MAIN in mV; VIN_MAIN current in 10 mA -/
def PW_SUPPLY_MAIN_MV : Fld := ⟨.pw, 0x044, 16, 16, .ro, 0, .one, false⟩
/-- R522: VIN_AUX in mV; input power in 0.1 W -/
def PW_SUPPLY_AUX_MV : Fld := ⟨.pw, 0x044, 0, 16, .ro, 0, .one, false⟩
/-- R522: VIN_MAIN in mV; VIN_MAIN current in 10 mA -/
def PW_INPUT_IIN : Fld := ⟨.pw, 0x048, 16, 16, .ro, 0, .one, false⟩
/-- R522: VIN_AUX in mV; input power in 0.1 W -/
def PW_INPUT_POWER : Fld := ⟨.pw, 0x048, 0, 16, .ro, 0, .one, false⟩
/-- R522: TEMP_CRIT when sensor 0 or 1 exceeds this, in °C -/
def PW_TEMP_WARN_DIE_C : Fld := ⟨.pw, 0x04C, 8, 8, .rw, 105, .one, false⟩
/-- R522: TEMP_WARN when sensor 2 exceeds this, in °C -/
def PW_TEMP_WARN_PLATE_C : Fld := ⟨.pw, 0x04C, 0, 8, .rw, 70, .one, false⟩
/-- R522: PW_DOM_INDEX: domain 0 to 79; bits [31:7] reserved -/
def PW_DOM_INDEX : Fld := ⟨.pw, 0x050, 0, 7, .rw, 0, .one, false⟩
/-- R522: PW_DOM_CTL: 1 switch on, 2 switch off (R514); bits [31:2] reserved -/
def PW_DOM_CTL : Fld := ⟨.pw, 0x054, 0, 2, .wo, 0, .indexed 80, false⟩
/-- R522: Domain voltage in mV -/
def PW_DOM_STATUS_MV : Fld := ⟨.pw, 0x058, 16, 16, .ro, 0, .indexed 80, false⟩
/-- R522: Crossings fenced -/
def PW_DOM_STATUS_FENCED : Fld := ⟨.pw, 0x058, 3, 1, .ro, 0, .indexed 80, false⟩
/-- R522: 0 off, 1 switching on, 2 on, 3 switching off, 4 fault -/
def PW_DOM_STATUS_STATE : Fld := ⟨.pw, 0x058, 0, 3, .ro, 0, .indexed 80, false⟩
/-- R522: Bit d − 32w of PW_ON_w: domain d on; PW_ON_2 bits [31:16] reserved -/
def PW_ON_0 : Fld := ⟨.pw, 0x05C, 0, 32, .ro, 0, .one, false⟩
/-- R522: Bit d − 32w of PW_ON_w: domain d on; PW_ON_2 bits [31:16] reserved -/
def PW_ON_1 : Fld := ⟨.pw, 0x060, 0, 32, .ro, 0, .one, false⟩
/-- R522: Bit d − 32w of PW_ON_w: domain d on; PW_ON_2 bits [31:16] reserved -/
def PW_ON_2 : Fld := ⟨.pw, 0x064, 0, 32, .ro, 0, .one, false⟩
/-- R522: Power losses under R505 since seal; ballast dissipation in 0.1 W -/
def PW_LOSSES : Fld := ⟨.pw, 0x068, 0, 32, .ro, 0, .one, false⟩
/-- R522: Power losses under R505 since seal; ballast dissipation in 0.1 W -/
def PW_BALLAST : Fld := ⟨.pw, 0x06C, 0, 32, .ro, 0, .one, false⟩
/-- R523: Clock domain 1 to 18 -/
def CK_DOM_INDEX : Fld := ⟨.ck, 0x040, 0, 5, .rw, 1, .one, false⟩
/-- R523: Frequency measured against the management reference; frequency of the plan in effect, in kHz -/
def CK_DOM_FREQ : Fld := ⟨.ck, 0x044, 0, 32, .ro, 0, .indexed 19, false⟩
/-- R523: Frequency measured against the management reference; frequency of the plan in effect, in kHz -/
def CK_DOM_TARGET : Fld := ⟨.ck, 0x048, 0, 32, .ro, 0, .indexed 19, false⟩
/-- R523: Clock stops since main power-up; wraps at 2^16 -/
def CK_DOM_STATUS_STOPS : Fld := ⟨.ck, 0x04C, 16, 16, .ro, 0, .indexed 19, false⟩
/-- R523: Frequency step in progress (R518) -/
def CK_DOM_STATUS_SLEWING : Fld := ⟨.ck, 0x04C, 2, 1, .ro, 0, .indexed 19, false⟩
/-- R523: PLL locked; 1 for domains 12, 15 and 17 while running -/
def CK_DOM_STATUS_LOCKED : Fld := ⟨.ck, 0x04C, 1, 1, .ro, 0, .indexed 19, false⟩
/-- R523: Clock running -/
def CK_DOM_STATUS_RUNNING : Fld := ⟨.ck, 0x04C, 0, 1, .ro, 0, .indexed 19, false⟩
/-- R524: G, 5 to 15 %; other values refused with ST_INPUT_RANGE -/
def PL_CTL_GUARD_PCT : Fld := ⟨.pl, 0x040, 12, 4, .rwl, 8, .one, false⟩
/-- R524: Measurement period, 1 to 168 h -/
def PL_CTL_PERIOD_H : Fld := ⟨.pl, 0x040, 1, 11, .rw, 24, .one, false⟩
/-- R524: 1 measures now; reads 1 until the plan ends -/
def PL_CTL_MEASURE : Fld := ⟨.pl, 0x040, 0, 1, .w1s, 0, .one, false⟩
/-- R524: Island code -/
def PL_INDEX : Fld := ⟨.pl, 0x044, 0, 4, .rw, 0, .one, false⟩
/-- R524: Last slack in 0.1 %; island voltage in mV -/
def PL_SLACK_SLACK : Fld := ⟨.pl, 0x048, 16, 16, .ro, 0, .indexed 16, false⟩
/-- R524: Lowest slack since seal; island frequency in MHz -/
def PL_SLACK_MIN_SLACK : Fld := ⟨.pl, 0x048, 0, 16, .ro, 0, .indexed 16, false⟩
/-- R524: Last slack in 0.1 %; island voltage in mV -/
def PL_PLAN_MV : Fld := ⟨.pl, 0x04C, 16, 16, .ro, 0, .indexed 16, false⟩
/-- R524: Lowest slack since seal; island frequency in MHz -/
def PL_PLAN_MHZ : Fld := ⟨.pl, 0x04C, 0, 16, .ro, 0, .indexed 16, false⟩
/-- R524: Voltage headroom left below 0.72 V at the floor, in mV; Plinth seconds count of the last measurement -/
def PL_MARGIN : Fld := ⟨.pl, 0x050, 0, 32, .ro, 0, .indexed 16, false⟩
/-- R524: Voltage headroom left below 0.72 V at the floor, in mV; Plinth seconds count of the last measurement -/
def PL_LAST : Fld := ⟨.pl, 0x054, 0, 32, .ro, 0, .indexed 16, false⟩
/-- R524: Re-enrolments under R180 since seal -/
def PL_PUF_REENROLS : Fld := ⟨.pl, 0x058, 16, 16, .ro, 0, .one, false⟩
/-- R524: Highest KT_STATUS.CORRECTED of the last 8 starts -/
def PL_PUF_MAX_CORRECTED : Fld := ⟨.pl, 0x058, 0, 16, .ro, 0, .one, false⟩
/-- R524: Bits [23:16] scan progress in percent, bits [15:0] days since the last full scan; blocks rewritten under R521, saturating at 2^32 − 1 -/
def PL_NAND : Fld := ⟨.pl, 0x05C, 0, 32, .ro, 0, .one, false⟩
/-- R524: Bits [23:16] scan progress in percent, bits [15:0] days since the last full scan; blocks rewritten under R521, saturating at 2^32 − 1 -/
def PL_NAND_REFRESHED : Fld := ⟨.pl, 0x060, 0, 32, .rc, 0, .one, false⟩
/-- R460: OTP word 0 (R441) -/
def LC_STATE_RAW : Fld := ⟨.lc, 0x040, 0, 32, .ro, 0, .one, false⟩
/-- R460: Transition in progress -/
def LC_STATUS_BUSY : Fld := ⟨.lc, 0x044, 31, 1, .ro, 0, .one, false⟩
/-- R460: Module held (R451) -/
def LC_STATUS_HELD : Fld := ⟨.lc, 0x044, 30, 1, .ro, 0, .one, false⟩
/-- R460: Transition resumed at this start -/
def LC_STATUS_RESUMED : Fld := ⟨.lc, 0x044, 29, 1, .ro, 0, .one, false⟩
/-- R460: Present state code -/
def LC_STATUS_CODE : Fld := ⟨.lc, 0x044, 24, 3, .ro, 0, .one, false⟩
/-- R460: Target of the pending transition -/
def LC_STATUS_TARGET : Fld := ⟨.lc, 0x044, 21, 3, .ro, 0, .one, false⟩
/-- R460: Step in progress -/
def LC_STATUS_STEP : Fld := ⟨.lc, 0x044, 16, 5, .ro, 0, .one, false⟩
/-- R460: Status of the last request or step -/
def LC_STATUS_STATUS : Fld := ⟨.lc, 0x044, 0, 16, .ro, 0, .one, false⟩
/-- R460: Target state code -/
def LC_CTRL_TARGET : Fld := ⟨.lc, 0x048, 8, 3, .rw, 0, .one, false⟩
/-- R460: 1 requests the transition under R443; reads 1 until accepted or refused -/
def LC_CTRL_GO : Fld := ⟨.lc, 0x048, 0, 1, .w1s, 0, .one, false⟩
/-- R460: LC_OTP_INDEX: life-cycle word 0 to 7; bits [31:3] reserved -/
def LC_OTP_INDEX : Fld := ⟨.lc, 0x04C, 0, 3, .rw, 0, .one, false⟩
/-- R460: LC_OTP_DATA: the selected word (R449) -/
def LC_OTP_DATA : Fld := ⟨.lc, 0x050, 0, 32, .ro, 0, .one, false⟩
/-- R460: Module UID, lower and upper words -/
def LC_UID_LO : Fld := ⟨.lc, 0x054, 0, 32, .ro, 0, .one, false⟩
/-- R460: Module UID, lower and upper words -/
def LC_UID_HI : Fld := ⟨.lc, 0x058, 0, 32, .ro, 0, .one, false⟩
/-- R460: A challenge is live (R453) -/
def LC_CHAL_CTL_LIVE : Fld := ⟨.lc, 0x05C, 31, 1, .ro, 0, .one, false⟩
/-- R460: 1 draws a new challenge -/
def LC_CHAL_CTL_NEW : Fld := ⟨.lc, 0x05C, 0, 1, .w1s, 0, .one, false⟩
/-- R460: LC_CHAL_INDEX: challenge word 0 to 7, word 0 holding bytes 0 to 3; bits [31:3] reserved -/
def LC_CHAL_INDEX : Fld := ⟨.lc, 0x060, 0, 3, .rw, 0, .one, false⟩
/-- R460: LC_CHAL_DATA: the selected word; 0 while no challenge is live -/
def LC_CHAL_DATA : Fld := ⟨.lc, 0x064, 0, 32, .ro, 0, .one, false⟩
/-- R460: LC_TOKEN_INDEX: token word 0 to 46; bits [31:6] reserved -/
def LC_TOKEN_INDEX : Fld := ⟨.lc, 0x068, 0, 6, .rw, 0, .one, false⟩
/-- R460: LC_TOKEN_DATA: writes the selected word -/
def LC_TOKEN_DATA : Fld := ⟨.lc, 0x06C, 0, 32, .wo, 0, .one, false⟩
/-- R460: LC_TOKEN_CTL: 1 checks the token under R454; bits [31:1] reserved -/
def LC_TOKEN_CTL : Fld := ⟨.lc, 0x070, 0, 1, .w1s, 0, .one, false⟩
/-- R460: LC_TOKEN_STATUS: check in progress; a transition or fuse token stands; status of the last check; other bits reserved -/
def LC_TOKEN_STATUS_BUSY : Fld := ⟨.lc, 0x074, 31, 1, .ro, 0, .one, false⟩
/-- R460: LC_TOKEN_STATUS: check in progress; a transition or fuse token stands; status of the last check; other bits reserved -/
def LC_TOKEN_STATUS_STANDING : Fld := ⟨.lc, 0x074, 30, 1, .ro, 0, .one, false⟩
/-- R460: LC_TOKEN_STATUS: check in progress; a transition or fuse token stands; status of the last check; other bits reserved -/
def LC_TOKEN_STATUS_STATUS : Fld := ⟨.lc, 0x074, 0, 16, .ro, 0, .one, false⟩
/-- R460: In PROVISIONED: class mask given to the next card whose session opens and whose VERIFY succeeds; that card is staged for the first roster -/
def LC_ROSTER_MASK : Fld := ⟨.lc, 0x078, 0, 10, .rw, 0, .one, false⟩
/-- R460: LO: M of classes 1 to 6, 5 bits each, class 1 in [4:0], bits [31:30] reserved; HI: M of classes 7 to 10, 5 bits each, class 7 in [4:0], bits ... -/
def LC_ROSTER_M_LO : Fld := ⟨.lc, 0x07C, 0, 32, .rw, 0, .one, false⟩
/-- R460: LO: M of classes 1 to 6, 5 bits each, class 1 in [4:0], bits [31:30] reserved; HI: M of classes 7 to 10, 5 bits each, class 7 in [4:0], bits ... -/
def LC_ROSTER_M_HI : Fld := ⟨.lc, 0x080, 0, 32, .rw, 0, .one, false⟩
/-- R460: A debug session is open -/
def DBG_STATUS_SESSION : Fld := ⟨.dbg, 0x040, 31, 1, .ro, 0, .one, false⟩
/-- R460: Scope in effect (R457) -/
def DBG_STATUS_SCOPE : Fld := ⟨.dbg, 0x040, 16, 8, .ro, 0, .one, false⟩
/-- R460: Mask the present state permits -/
def DBG_STATUS_PERMITTED : Fld := ⟨.dbg, 0x040, 8, 8, .ro, 0, .one, false⟩
/-- R460: 1 ends the open session -/
def DBG_CTL : Fld := ⟨.dbg, 0x044, 0, 1, .w1s, 0, .one, false⟩
/-- R460: Seconds left in the session -/
def DBG_REMAIN : Fld := ⟨.dbg, 0x048, 0, 17, .ro, 0, .one, false⟩
/-- R460: Debug accesses and TAP instructions refused, saturating at 2^32 − 1; sessions opened since main power-up, wrapping at 2^32 -/
def DBG_REFUSED : Fld := ⟨.dbg, 0x04C, 0, 32, .rc, 0, .one, false⟩
/-- R460: Debug accesses and TAP instructions refused, saturating at 2^32 − 1; sessions opened since main power-up, wrapping at 2^32 -/
def DBG_SESSIONS : Fld := ⟨.dbg, 0x050, 0, 32, .ro, 0, .one, false⟩
/-- R438: Sealing share erased -/
def TM_STATE_ROOT_ERASED : Fld := ⟨.tm, 0x040, 11, 1, .ro, 0, .one, false⟩
/-- R438: E is 2 or more -/
def TM_STATE_SUSPENDED : Fld := ⟨.tm, 0x040, 10, 1, .ro, 0, .one, false⟩
/-- R438: ALARM_OUT pulled low -/
def TM_STATE_ALARM : Fld := ⟨.tm, 0x040, 9, 1, .ro, 0, .one, false⟩
/-- R438: P applied at this power-up (R429) -/
def TM_STATE_APPLIED_P : Fld := ⟨.tm, 0x040, 3, 3, .ro, 0, .one, false⟩
/-- R438: E, 0 to 4 -/
def TM_STATE_LEVEL : Fld := ⟨.tm, 0x040, 0, 3, .ro, 0, .one, false⟩
/-- R438: 1 requests resumption under R424 -/
def TM_RESUME : Fld := ⟨.tm, 0x044, 0, 1, .wo, 0, .one, false⟩
/-- R438: Source 0 to 41; other values refused with ST_INPUT_RANGE -/
def TM_SRC_INDEX : Fld := ⟨.tm, 0x04C, 0, 6, .rw, 0, .one, false⟩
/-- R438: Events, 1 to 255 -/
def TM_SRC_CFG_N : Fld := ⟨.tm, 0x050, 24, 8, .rwl, 0, .indexed 42, false⟩
/-- R438: 0 µs, 1 ms, 2 s; 3 refused -/
def TM_SRC_CFG_W_UNIT : Fld := ⟨.tm, 0x050, 22, 2, .rwl, 0, .indexed 42, false⟩
/-- R438: Window, 1 to 10,000 units -/
def TM_SRC_CFG_W : Fld := ⟨.tm, 0x050, 8, 14, .rwl, 0, .indexed 42, false⟩
/-- R438: Level, 0 to 4 -/
def TM_SRC_CFG_RESPONSE : Fld := ⟨.tm, 0x050, 0, 3, .rwl, 0, .indexed 42, false⟩
/-- R438: Source fused (R419) -/
def TM_SRC_STATUS_FUSED : Fld := ⟨.tm, 0x054, 31, 1, .ro, 0, .indexed 42, false⟩
/-- R438: Level condition present (R415) -/
def TM_SRC_STATUS_ASSERTED : Fld := ⟨.tm, 0x054, 30, 1, .ro, 0, .indexed 42, false⟩
/-- R438: Watched on the backup node -/
def TM_SRC_STATUS_CELL : Fld := ⟨.tm, 0x054, 29, 1, .ro, 0, .indexed 42, false⟩
/-- R438: Lowest settable level -/
def TM_SRC_STATUS_LOWEST : Fld := ⟨.tm, 0x054, 24, 3, .ro, 0, .indexed 42, false⟩
/-- R438: Events of the source; firings of the source; each saturating at 2^32 − 1 -/
def TM_SRC_EVENTS : Fld := ⟨.tm, 0x058, 0, 32, .rc, 0, .indexed 42, false⟩
/-- R438: Events of the source; firings of the source; each saturating at 2^32 − 1 -/
def TM_SRC_FIRINGS : Fld := ⟨.tm, 0x05C, 0, 32, .rc, 0, .indexed 42, false⟩
/-- R438: LO bit s: source s; HI bits [9:0]: sources 32 to 41, bits [31:10] reserved; set at each firing of level 1 or more; R9 applies -/
def TM_FIRED_LO : Fld := ⟨.tm, 0x060, 0, 32, .w1c, 0, .one, false⟩
/-- R438: LO bit s: source s; HI bits [9:0]: sources 32 to 41, bits [31:10] reserved; set at each firing of level 1 or more; R9 applies -/
def TM_FIRED_HI : Fld := ⟨.tm, 0x064, 0, 32, .w1c, 0, .one, false⟩
/-- R438: 1 lets the TM_FIRED bit of the same source raise its IRQ -/
def TM_FIRED_EN_LO : Fld := ⟨.tm, 0x068, 0, 32, .rw, 4294967295, .one, false⟩
/-- R438: 1 lets the TM_FIRED bit of the same source raise its IRQ; bits [9:0]: sources 32 to 41 (log entry 52) -/
def TM_FIRED_EN_HI : Fld := ⟨.tm, 0x06C, 0, 10, .rw, 1023, .one, false⟩
/-- R438: Fuse bit of each source, laid out as TM_FIRED -/
def TM_FUSES_LO : Fld := ⟨.tm, 0x070, 0, 32, .ro, 0, .one, false⟩
/-- R438: Fuse bit of each source, laid out as TM_FIRED -/
def TM_FUSES_HI : Fld := ⟨.tm, 0x074, 0, 32, .ro, 0, .one, false⟩
/-- R438: Must be 0x5A; any other value drops the write -/
def TM_FUSE_CMD_CONFIRM : Fld := ⟨.tm, 0x078, 8, 8, .wo, 0, .one, false⟩
/-- R438: Source to fuse, under R418 -/
def TM_FUSE_CMD_SOURCE : Fld := ⟨.tm, 0x078, 0, 6, .wo, 0, .one, false⟩
/-- R438: Fuse programming in progress -/
def TM_FUSE_STATUS_BUSY : Fld := ⟨.tm, 0x07C, 31, 1, .ro, 0, .one, false⟩
/-- R438: Status of the last fuse command -/
def TM_FUSE_STATUS_STATUS : Fld := ⟨.tm, 0x07C, 0, 16, .ro, 0, .one, false⟩
/-- R438: Backup node in mV -/
def TM_BACKUP_MV : Fld := ⟨.tm, 0x080, 16, 16, .ro, 0, .one, false⟩
/-- R438: Backup node fed from VBAT_EXT -/
def TM_BACKUP_ON_EXT : Fld := ⟨.tm, 0x080, 1, 1, .ro, 0, .one, false⟩
/-- R438: VBAT_EXT present -/
def TM_BACKUP_EXT_PRESENT : Fld := ⟨.tm, 0x080, 0, 1, .ro, 0, .one, false⟩
/-- R438: Sensor 2, two's complement, 0.25 °C -/
def TM_TEMP_S2 : Fld := ⟨.tm, 0x084, 20, 10, .ro, 0, .one, false⟩
/-- R438: Sensor 1, as S2 -/
def TM_TEMP_S1 : Fld := ⟨.tm, 0x084, 10, 10, .ro, 0, .one, false⟩
/-- R438: Sensor 0, as S2 -/
def TM_TEMP_S0 : Fld := ⟨.tm, 0x084, 0, 10, .ro, 0, .one, false⟩
/-- R438: Field magnitude in 0.1 mT, saturating at 102.3 mT -/
def TM_MAG_Z : Fld := ⟨.tm, 0x088, 20, 10, .ro, 0, .one, false⟩
/-- R438: As Z -/
def TM_MAG_Y : Fld := ⟨.tm, 0x088, 10, 10, .ro, 0, .one, false⟩
/-- R438: As Z -/
def TM_MAG_X : Fld := ⟨.tm, 0x088, 0, 10, .ro, 0, .one, false⟩
/-- R440: Cornerstone area full (R436) -/
def CS_STATUS_FULL : Fld := ⟨.cs, 0x040, 31, 1, .ro, 0, .one, false⟩
/-- R440: Flush in progress -/
def CS_STATUS_FLUSHING : Fld := ⟨.cs, 0x040, 30, 1, .ro, 0, .one, false⟩
/-- R440: A summary record is held (R435) -/
def CS_STATUS_SUMMARY : Fld := ⟨.cs, 0x040, 29, 1, .ro, 0, .one, false⟩
/-- R440: Records in the Plinth buffer, 0 to 256 -/
def CS_STATUS_BUFFERED : Fld := ⟨.cs, 0x040, 0, 9, .ro, 0, .one, false⟩
/-- R440: Durable records; record number of the next record to be made -/
def CS_COUNT : Fld := ⟨.cs, 0x044, 0, 32, .ro, 0, .one, false⟩
/-- R440: Durable records; record number of the next record to be made -/
def CS_NEXT : Fld := ⟨.cs, 0x048, 0, 32, .ro, 0, .one, false⟩
/-- R440: Plinth seconds count; main-power sequence number -/
def CS_SECONDS : Fld := ⟨.cs, 0x04C, 0, 32, .ro, 0, .one, false⟩
/-- R440: Plinth seconds count; main-power sequence number -/
def CS_POWER_SEQ : Fld := ⟨.cs, 0x050, 0, 32, .ro, 0, .one, false⟩
/-- R440: CS_HEAD_INDEX: word 0 to 15 of the head link; bits [31:4] reserved -/
def CS_HEAD_INDEX : Fld := ⟨.cs, 0x054, 0, 4, .rw, 0, .one, false⟩
/-- R440: CS_HEAD: the selected word, word 0 holding link bytes 0 to 3 -/
def CS_HEAD : Fld := ⟨.cs, 0x058, 0, 32, .ro, 0, .one, false⟩
/-- R440: CS_READ_INDEX: record number; a write starts the read -/
def CS_READ_INDEX : Fld := ⟨.cs, 0x05C, 0, 32, .rw, 0, .one, false⟩
/-- R440: CS_READ_WORD: word 0 to 31 of the record; bits [31:5] reserved -/
def CS_READ_WORD : Fld := ⟨.cs, 0x060, 0, 5, .rw, 0, .one, false⟩
/-- R440: CS_READ_DATA: the selected word -/
def CS_READ_DATA : Fld := ⟨.cs, 0x064, 0, 32, .ro, 0, .one, false⟩
/-- R440: CS_READ_STATUS: read in progress; data valid; words 16 to 31 hold the record's link (0: record still in the Plinth buffer, link words read 0); ... -/
def CS_READ_STATUS_BUSY : Fld := ⟨.cs, 0x068, 31, 1, .ro, 0, .one, false⟩
/-- R440: CS_READ_STATUS: read in progress; data valid; words 16 to 31 hold the record's link (0: record still in the Plinth buffer, link words read 0); ... -/
def CS_READ_STATUS_VALID : Fld := ⟨.cs, 0x068, 30, 1, .ro, 0, .one, false⟩
/-- R440: CS_READ_STATUS: read in progress; data valid; words 16 to 31 hold the record's link (0: record still in the Plinth buffer, link words read 0); ... -/
def CS_READ_STATUS_LINKED : Fld := ⟨.cs, 0x068, 29, 1, .ro, 0, .one, false⟩
/-- R440: CS_READ_STATUS: read in progress; data valid; words 16 to 31 hold the record's link (0: record still in the Plinth buffer, link words read 0); ... -/
def CS_READ_STATUS_STATUS : Fld := ⟨.cs, 0x068, 0, 16, .ro, 0, .one, false⟩
/-- R549: Next main sequence number; main base (R538); next Plinth sequence number. In HI registers bits [15:0] hold bits [47:32] and the rest are reserved -/
def EV_HEAD_LO : Fld := ⟨.ev, 0x040, 0, 32, .ro, 0, .one, false⟩
/-- R549: Next main sequence number; main base (R538); next Plinth sequence number. In HI registers bits [15:0] hold bits [47:32] and the rest are reserved -/
def EV_HEAD_HI : Fld := ⟨.ev, 0x044, 0, 32, .ro, 0, .one, false⟩
/-- R549: Next main sequence number; main base (R538); next Plinth sequence number. In HI registers bits [15:0] hold bits [47:32] and the rest are reserved -/
def EV_BASE_LO : Fld := ⟨.ev, 0x048, 0, 32, .ro, 0, .one, false⟩
/-- R549: Next main sequence number; main base (R538); next Plinth sequence number. In HI registers bits [15:0] hold bits [47:32] and the rest are reserved -/
def EV_BASE_HI : Fld := ⟨.ev, 0x04C, 0, 32, .ro, 0, .one, false⟩
/-- R549: Next main sequence number; main base (R538); next Plinth sequence number. In HI registers bits [15:0] hold bits [47:32] and the rest are reserved -/
def EV_P_HEAD_LO : Fld := ⟨.ev, 0x05C, 0, 32, .ro, 0, .one, false⟩
/-- R549: Next main sequence number; main base (R538); next Plinth sequence number. In HI registers bits [15:0] hold bits [47:32] and the rest are reserved -/
def EV_P_HEAD_HI : Fld := ⟨.ev, 0x060, 0, 32, .ro, 0, .one, false⟩
/-- R549: Repeat updates in either area (R534); wraps at 2^32 -/
def EV_REPEAT_GEN : Fld := ⟨.ev, 0x050, 0, 32, .ro, 0, .one, false⟩
/-- R549: Main area full -/
def EV_STATUS_FULL : Fld := ⟨.ev, 0x054, 31, 1, .ro, 0, .one, false⟩
/-- R549: 15/16 reached -/
def EV_STATUS_NEAR_FULL : Fld := ⟨.ev, 0x054, 30, 1, .ro, 0, .one, false⟩
/-- R549: Main area in use -/
def EV_STATUS_MOUNTED : Fld := ⟨.ev, 0x054, 29, 1, .ro, 0, .one, false⟩
/-- R549: Records not yet durable -/
def EV_STATUS_BUFFERED : Fld := ⟨.ev, 0x054, 0, 13, .ro, 0, .one, false⟩
/-- R549: Records diverted under R538 since the last clear; saturating at 2^32 − 1 -/
def EV_LOST : Fld := ⟨.ev, 0x058, 0, 32, .ro, 0, .one, false⟩
/-- R549: Bit i: records from island i set RECORD; are sent in event frames -/
def EV_NOTIFY : Fld := ⟨.ev, 0x064, 0, 16, .rw, 65535, .one, false⟩
/-- R549: Bit i: records from island i set RECORD; are sent in event frames -/
def EV_FRAME : Fld := ⟨.ev, 0x068, 0, 16, .rw, 0, .one, false⟩
/-- R549: Highest sequence number archived (R539); HI bits [15:0] -/
def EV_ARCHIVED_LO : Fld := ⟨.ev, 0x06C, 0, 32, .rw, 0, .one, false⟩
/-- R549: Highest sequence number archived (R539); HI bits [15:0] -/
def EV_ARCHIVED_HI : Fld := ⟨.ev, 0x070, 0, 32, .rw, 0, .one, false⟩
/-- R549: 1 clears the main area under R539 -/
def EV_CLEAR : Fld := ⟨.ev, 0x074, 0, 1, .wo, 0, .one, false⟩
/-- R549: LO: bits [31:0]. HI: bits [15:0] hold bits [47:32], bit 16 is AREA (0 main, 1 Plinth); a write of HI starts the read -/
def EV_READ_SEQ_LO : Fld := ⟨.ev, 0x078, 0, 32, .rw, 0, .one, false⟩
/-- R549: LO: bits [31:0]. HI: bits [15:0] hold bits [47:32], bit 16 is AREA (0 main, 1 Plinth); a write of HI starts the read -/
def EV_READ_SEQ_HI : Fld := ⟨.ev, 0x07C, 0, 32, .rw, 0, .one, false⟩
/-- R549: Read in progress -/
def EV_READ_STATUS_BUSY : Fld := ⟨.ev, 0x080, 31, 1, .ro, 0, .one, false⟩
/-- R549: EV_READ_DATA holds the record -/
def EV_READ_STATUS_VALID : Fld := ⟨.ev, 0x080, 30, 1, .ro, 0, .one, false⟩
/-- R549: Status of the read -/
def EV_READ_STATUS_STATUS : Fld := ⟨.ev, 0x080, 0, 16, .ro, 0, .one, false⟩
/-- R549: Record bytes 4k to 4k + 3 in EV_READ_DATAk -/
def EV_READ_DATA : Fld := ⟨.ev, 0x0A0, 0, 32, .ro, 0, .words 8 4, false⟩
/-- R550: Freeze in effect (R544) -/
def PC_CTL_FROZEN : Fld := ⟨.pc, 0x040, 3, 1, .ro, 0, .one, false⟩
/-- R550: 1 takes a snapshot; reads 1 until done -/
def PC_CTL_SNAPSHOT : Fld := ⟨.pc, 0x040, 2, 1, .w1s, 0, .one, false⟩
/-- R550: 1 freezes every counter -/
def PC_CTL_FREEZE : Fld := ⟨.pc, 0x040, 1, 1, .rw, 0, .one, false⟩
/-- R550: Snapshots taken, wrapping at 2^32; SC_TIME of the last snapshot, lower and upper words -/
def PC_SNAP_SEQ : Fld := ⟨.pc, 0x044, 0, 32, .ro, 0, .one, false⟩
/-- R550: Snapshots taken, wrapping at 2^32; SC_TIME of the last snapshot, lower and upper words -/
def PC_SNAP_TIME_LO : Fld := ⟨.pc, 0x048, 0, 32, .ro, 0, .one, false⟩
/-- R550: Snapshots taken, wrapping at 2^32; SC_TIME of the last snapshot, lower and upper words -/
def PC_SNAP_TIME_HI : Fld := ⟨.pc, 0x04C, 0, 32, .ro, 0, .one, false⟩
/-- R550: Counter 0 to 63 -/
def PC_INDEX : Fld := ⟨.pc, 0x050, 0, 6, .rw, 0, .one, false⟩
/-- R550: Counting enabled -/
def PC_SEL_EN : Fld := ⟨.pc, 0x054, 31, 1, .rw, 0, .indexed 64, false⟩
/-- R550: 0 edge counting, 1 level counting (R542) -/
def PC_SEL_LEVEL : Fld := ⟨.pc, 0x054, 30, 1, .rw, 0, .indexed 64, false⟩
/-- R550: 1: only the bay in BAY -/
def PC_SEL_BAY_EN : Fld := ⟨.pc, 0x054, 29, 1, .rw, 0, .indexed 64, false⟩
/-- R550: Bay filter -/
def PC_SEL_BAY : Fld := ⟨.pc, 0x054, 16, 8, .rw, 0, .indexed 64, false⟩
/-- R550: Qualifier, 5 bits; 0x1F all -/
def PC_SEL_QUAL : Fld := ⟨.pc, 0x054, 11, 5, .rw, 31, .indexed 64, false⟩
/-- R550: Event code (R542) -/
def PC_SEL_EVENT : Fld := ⟨.pc, 0x054, 0, 10, .rw, 0, .indexed 64, false⟩
/-- R550: Counter and shadow, bits [31:0]; HI bits [15:0] hold bits [47:32] -/
def PC_CNT_LO : Fld := ⟨.pc, 0x058, 0, 32, .rw, 0, .indexed 64, false⟩
/-- R550: Counter and shadow, bits [31:0]; HI bits [15:0] hold bits [47:32] -/
def PC_CNT_HI : Fld := ⟨.pc, 0x05C, 0, 32, .rw, 0, .indexed 64, false⟩
/-- R550: Counter and shadow, bits [31:0]; HI bits [15:0] hold bits [47:32] -/
def PC_SHD_LO : Fld := ⟨.pc, 0x060, 0, 32, .ro, 0, .indexed 64, false⟩
/-- R550: Counter and shadow, bits [31:0]; HI bits [15:0] hold bits [47:32] -/
def PC_SHD_HI : Fld := ⟨.pc, 0x064, 0, 32, .ro, 0, .indexed 64, false⟩
/-- R550: Bit k: counter 32w + k wrapped; R9 applies -/
def PC_OVF_LO : Fld := ⟨.pc, 0x068, 0, 32, .w1c, 0, .one, false⟩
/-- R550: Bit k: counter 32w + k wrapped; R9 applies -/
def PC_OVF_HI : Fld := ⟨.pc, 0x06C, 0, 32, .w1c, 0, .one, false⟩
/-- R550: Bay of the shadow registers below -/
def PC_BAY_INDEX : Fld := ⟨.pc, 0x070, 0, 8, .rw, 0, .one, false⟩
/-- R550: Shadow of BY_CNTk of the selected bay -/
def PC_BAY_SHD : Fld := ⟨.pc, 0x080, 0, 32, .ro, 0, .words 8 4, false⟩
/-- R548: IRQ 0 to 499; other values refused with ST_INPUT_RANGE -/
def IC_INDEX : Fld := ⟨.ic, 0x040, 0, 9, .rw, 0, .one, false⟩
/-- R548: 1: markings under R528 -/
def IC_MAP_ENABLE : Fld := ⟨.ic, 0x044, 31, 1, .rw, 1, .indexed 500, false⟩
/-- R548: Marking held under R529 or R530 -/
def IC_MAP_PENDING : Fld := ⟨.ic, 0x044, 30, 1, .ro, 0, .indexed 500, false⟩
/-- R548: IRQ asserted -/
def IC_MAP_ASSERTED : Fld := ⟨.ic, 0x044, 29, 1, .ro, 0, .indexed 500, false⟩
/-- R548: MSI-X vector, 0 to 511 -/
def IC_MAP_VECTOR : Fld := ⟨.ic, 0x044, 0, 9, .rw, 0, .indexed 500, false⟩
/-- R548: MSI-X messages sent; event frames sent; items dropped under R532; each saturating at 2^32 − 1 -/
def IC_MSGS : Fld := ⟨.ic, 0x048, 0, 32, .rc, 0, .one, false⟩
/-- R548: MSI-X messages sent; event frames sent; items dropped under R532; each saturating at 2^32 − 1 -/
def IC_FRAMES : Fld := ⟨.ic, 0x04C, 0, 32, .rc, 0, .one, false⟩
/-- R548: MSI-X messages sent; event frames sent; items dropped under R532; each saturating at 2^32 − 1 -/
def IC_FRAME_DROPPED : Fld := ⟨.ic, 0x050, 0, 32, .rc, 0, .one, false⟩
/-- R548: Bit i of word w: IRQ 32w + i asserted; word 15 bits [31:20] reserved -/
def IC_ASSERTED : Fld := ⟨.ic, 0x080, 0, 32, .ro, 0, .words 16 4, false⟩
/-- R224: Errors corrected at the last regeneration (R180) -/
def KT_STATUS_CORRECTED : Fld := ⟨.kt, 0x040, 16, 16, .ro, 0, .one, false⟩
/-- R224: Re-enrolment took place at this start -/
def KT_STATUS_REENROLLED : Fld := ⟨.kt, 0x040, 2, 1, .ro, 0, .one, false⟩
/-- R224: 0 absent, 1 regenerating, 2 present, 3 failed -/
def KT_STATUS_ROOT : Fld := ⟨.kt, 0x040, 0, 2, .ro, 0, .one, false⟩
/-- R224: Percent of 512, 30 to 90; other values refused with ST_INPUT_RANGE in ERR_INFO -/
def KT_REENROL : Fld := ⟨.kt, 0x044, 0, 7, .rwl, 60, .one, false⟩
/-- R224: Tree nodes held in the internal reserve -/
def KT_NODES : Fld := ⟨.kt, 0x048, 0, 13, .ro, 0, .one, false⟩
/-- R224: Run-time value (R39): lowest FORMAT_MAX stated by the images of both Keystones, the resident program images and the loaded microcode images; ... -/
def KT_FLEET_FLOOR_FORMAT_MAX : Fld := ⟨.kt, 0x04C, 16, 16, .ro, 0, .one, false⟩
/-- R224: Format version written (R218); 0x0000 before the floor record exists -/
def KT_FLEET_FLOOR_FLOOR : Fld := ⟨.kt, 0x04C, 0, 16, .ro, 0, .one, false⟩
/-- R224: New floor in bits [15:0] for operation 0x01; handle for operations 0x02 and 0x03; certificate length in bytes, 1 to 2,048, for operation 0x04 -/
def KT_CMD_ARG : Fld := ⟨.kt, 0x050, 0, 32, .rw, 0, .one, false⟩
/-- R224: Bay of the handle in KT_CMD_ARG -/
def KT_CMD_BAY : Fld := ⟨.kt, 0x054, 8, 8, .wo, 0, .one, false⟩
/-- R224: 0x01 raise floor; 0x02 set External IV; 0x03 clear External IV; 0x04 install identity certificate (R187); other values refused with ST_INPUT_RANGE -/
def KT_CMD_OP : Fld := ⟨.kt, 0x054, 0, 8, .wo, 0, .one, false⟩
/-- R224: Command in progress -/
def KT_CMD_STATUS_BUSY : Fld := ⟨.kt, 0x058, 31, 1, .ro, 0, .one, false⟩
/-- R224: Status of the last command -/
def KT_CMD_STATUS_STATUS : Fld := ⟨.kt, 0x058, 0, 16, .ro, 0, .one, false⟩
/-- R224: HBM address of the certificate for KT_CMD operation 0x04 (R187), lower and upper words -/
def KT_CERT_ADDR_LO : Fld := ⟨.kt, 0x05C, 0, 32, .rw, 0, .one, false⟩
/-- R224: HBM address of the certificate for KT_CMD operation 0x04 (R187), lower and upper words -/
def KT_CERT_ADDR_HI : Fld := ⟨.kt, 0x060, 0, 32, .rw, 0, .one, false⟩
/-- R224: Banks -/
def KC_INFO_BANKS : Fld := ⟨.kc, 0x040, 24, 8, .ro, 4, .one, false⟩
/-- R224: Entries, 262,144 -/
def KC_INFO_ENTRIES : Fld := ⟨.kc, 0x040, 0, 19, .ro, 262144, .one, false⟩
/-- R224: A sweep is in progress -/
def KC_REPOINT_SWEEPING : Fld := ⟨.kc, 0x044, 31, 1, .ro, 0, .one, false⟩
/-- R224: Repointing period, 1 to 100 ms; other values refused with ST_INPUT_RANGE in ERR_INFO -/
def KC_REPOINT_PERIOD_MS : Fld := ⟨.kc, 0x044, 0, 7, .rw, 10, .one, true⟩
/-- R224: Sweeps completed; wraps at 2^32 -/
def KC_SWEEPS : Fld := ⟨.kc, 0x048, 0, 32, .ro, 0, .one, false⟩
/-- R224: Internal reserve entries in use -/
def KC_INTERNAL_USED : Fld := ⟨.kc, 0x04C, 16, 16, .ro, 0, .one, false⟩
/-- R224: Internal reserve, 4,096 entries -/
def KC_INTERNAL_RESERVE : Fld := ⟨.kc, 0x04C, 0, 16, .ro, 4096, .one, false⟩
/-- R224: Bay addressed by offsets 0x054 to 0x060 -/
def KC_BAY_INDEX : Fld := ⟨.kc, 0x050, 0, 8, .rw, 0, .one, false⟩
/-- R224: Entries, subject to R196 -/
def KC_BAY_QUOTA : Fld := ⟨.kc, 0x054, 0, 19, .rw, 1008, .indexed 256, true⟩
/-- R224: Entries held by the bay -/
def KC_BAY_USED : Fld := ⟨.kc, 0x058, 0, 19, .ro, 0, .indexed 256, false⟩
/-- R224: Fills under R198; ST_BUSY refusals under R197; each saturating at 2^32 − 1 -/
def KC_BAY_MISSES : Fld := ⟨.kc, 0x05C, 0, 32, .rc, 0, .indexed 256, false⟩
/-- R224: Fills under R198; ST_BUSY refusals under R197; each saturating at 2^32 − 1 -/
def KC_BAY_BUSY : Fld := ⟨.kc, 0x060, 0, 32, .rc, 0, .indexed 256, false⟩
/-- R224: Size of the objects area, 1,901,972 MiB -/
def VT_AREA : Fld := ⟨.vt, 0x040, 0, 32, .ro, 1901972, .one, false⟩
/-- R224: Bay addressed by offsets 0x048 to 0x050 -/
def VT_BAY_INDEX : Fld := ⟨.vt, 0x044, 0, 8, .rw, 0, .one, false⟩
/-- R224: Vault quota in MiB; a write that brings the sum of quotas above VT_AREA is refused with ST_INPUT_RANGE in ERR_INFO -/
def VT_BAY_QUOTA : Fld := ⟨.vt, 0x048, 0, 21, .rw, 0, .indexed 256, true⟩
/-- R224: Quota in use, in KiB, rounded up -/
def VT_BAY_USED : Fld := ⟨.vt, 0x04C, 0, 32, .ro, 0, .indexed 256, false⟩
/-- R224: Retention before purge, 0 to 3,650 days; other values refused with ST_INPUT_RANGE in ERR_INFO -/
def VT_BAY_RETAIN : Fld := ⟨.vt, 0x050, 0, 12, .rw, 0, .indexed 256, true⟩
/-- R224: Destination bay for a restore -/
def VT_BUNDLE_CTL_DST_BAY : Fld := ⟨.vt, 0x054, 16, 8, .rw, 0, .one, false⟩
/-- R224: Bay exported, or the bundle's bay restored -/
def VT_BUNDLE_CTL_SRC_BAY : Fld := ⟨.vt, 0x054, 8, 8, .rw, 0, .one, false⟩
/-- R224: Written last: 1 export, 2 restore, 3 abort; reads 0 when done -/
def VT_BUNDLE_CTL_OP : Fld := ⟨.vt, 0x054, 0, 2, .rw, 0, .one, false⟩
/-- R224: 0 idle, 1 running, 2 committing, 3 done -/
def VT_BUNDLE_STATUS_STATE : Fld := ⟨.vt, 0x058, 16, 2, .ro, 0, .one, false⟩
/-- R224: Status of the last bundle operation -/
def VT_BUNDLE_STATUS_STATUS : Fld := ⟨.vt, 0x058, 0, 16, .ro, 0, .one, false⟩
/-- R224: Rated NAND erase cycles used, in percent -/
def VT_WEAR : Fld := ⟨.vt, 0x05C, 0, 8, .ro, 0, .one, false⟩
/-- R224: Fewer than 4 healthy sources (R210) -/
def RN_STATUS_FAIL : Fld := ⟨.rn, 0x040, 9, 1, .ro, 0, .one, false⟩
/-- R224: Start-up tests complete -/
def RN_STATUS_STARTED : Fld := ⟨.rn, 0x040, 8, 1, .ro, 0, .one, false⟩
/-- R224: Bit s set: source s healthy -/
def RN_STATUS_HEALTHY : Fld := ⟨.rn, 0x040, 0, 8, .ro, 0, .one, false⟩
/-- R224: Repetition count failures; adaptive proportion failures; each saturating at 2^32 − 1 -/
def RN_RCT_FAILS : Fld := ⟨.rn, 0x044, 0, 32, .rc, 0, .one, false⟩
/-- R224: Repetition count failures; adaptive proportion failures; each saturating at 2^32 − 1 -/
def RN_APT_FAILS : Fld := ⟨.rn, 0x048, 0, 32, .rc, 0, .one, false⟩
/-- R224: Reseed interval, 1 to 1,000 ms; other values refused with ST_INPUT_RANGE in ERR_INFO -/
def RN_RESEED : Fld := ⟨.rn, 0x04C, 0, 10, .rwl, 1000, .one, false⟩
/-- R224: Reseeds of all instances; wraps at 2^32 -/
def RN_RESEEDS : Fld := ⟨.rn, 0x050, 0, 32, .ro, 0, .one, false⟩
/-- R93: 0 strict mode, 1 lending mode; staged to the next course boundary -/
def SC_MODE : Fld := ⟨.sc, 0x040, 0, 1, .rw, 0, .one, true⟩
/-- R93: 1: payment micro-operations may use idle bulk-pool cores -/
def SC_CORE_SPLIT_PAY_BORROW : Fld := ⟨.sc, 0x044, 16, 1, .rw, 1, .one, true⟩
/-- R93: Bulk-pool cores in effect, 128 minus PAY_CORES -/
def SC_CORE_SPLIT_BULK_CORES : Fld := ⟨.sc, 0x044, 8, 8, .ro, 104, .one, false⟩
/-- R93: Payment-pool cores, 0 to 128; staged to the next course boundary; a value above 128 is refused and recorded in ERR_INFO as ST_INPUT_RANGE -/
def SC_CORE_SPLIT_PAY_CORES : Fld := ⟨.sc, 0x044, 0, 8, .rw, 24, .one, true⟩
/-- R93: Courses since the scheduler was enabled; wraps at 2^32 -/
def SC_COURSE : Fld := ⟨.sc, 0x048, 0, 32, .ro, 0, .one, false⟩
/-- R93: Scheduler cycles since main power-up, 64 per µs; a read of SC_TIME_LO latches the upper word into SC_TIME_HI -/
def SC_TIME_LO : Fld := ⟨.sc, 0x04C, 0, 32, .ro, 0, .one, false⟩
/-- R93: Scheduler cycles since main power-up, 64 per µs; a read of SC_TIME_LO latches the upper word into SC_TIME_HI -/
def SC_TIME_HI : Fld := ⟨.sc, 0x050, 0, 32, .ro, 0, .one, false⟩
/-- R93: Sum of bay shares in effect, 0 to 1,024 -/
def SC_SHARE_SUM : Fld := ⟨.sc, 0x054, 0, 11, .ro, 0, .one, false⟩
/-- R93: Requests in all bay queues -/
def SC_QUEUED : Fld := ⟨.sc, 0x058, 0, 21, .ro, 0, .one, false⟩
/-- R93: Contexts holding a request, 0 to 512 -/
def SC_INFLIGHT : Fld := ⟨.sc, 0x05C, 0, 10, .ro, 0, .one, false⟩
/-- R93: Bay addressed by SC_PIN_DATA -/
def SC_PIN_INDEX : Fld := ⟨.sc, 0x060, 0, 8, .rw, 0, .one, false⟩
/-- R93: 1: the bay is pinned to VERSION; staged to the next course boundary -/
def SC_PIN_DATA_PINNED : Fld := ⟨.sc, 0x064, 16, 1, .rw, 0, .indexed 256, true⟩
/-- R93: Pinned image version -/
def SC_PIN_DATA_VERSION : Fld := ⟨.sc, 0x064, 0, 16, .rw, 0, .indexed 256, true⟩
/-- R93: Expiries under R74; discards under R75; refusals under R87; each saturating at 2^32 − 1 -/
def SC_EXPIRED : Fld := ⟨.sc, 0x068, 0, 32, .rc, 0, .one, false⟩
/-- R93: Expiries under R74; discards under R75; refusals under R87; each saturating at 2^32 − 1 -/
def SC_LATE : Fld := ⟨.sc, 0x06C, 0, 32, .rc, 0, .one, false⟩
/-- R93: Expiries under R74; discards under R75; refusals under R87; each saturating at 2^32 − 1 -/
def SC_PROG_ABSENT : Fld := ⟨.sc, 0x070, 0, 32, .rc, 0, .one, false⟩
/-- R93: Free contexts in the group, 0 to 32 -/
def SC_GROUP_FREE_CTX : Fld := ⟨.sc, 0x080, 18, 6, .ro, 0, .words 16 4, false⟩
/-- R93: No context of the group holds a request -/
def SC_GROUP_DRAINED : Fld := ⟨.sc, 0x080, 17, 1, .ro, 0, .words 16 4, false⟩
/-- R93: 1: the group receives dispatches; a clearing write is subject to R88 -/
def SC_GROUP_DISPATCH_EN : Fld := ⟨.sc, 0x080, 16, 1, .rw, 0, .words 16 4, false⟩
/-- R93: Image version in the group's program store, as the resident image states it, 0x0001 to 0xFFFF; 0x0000 while no image is resident (R39) -/
def SC_GROUP_VERSION : Fld := ⟨.sc, 0x080, 0, 16, .ro, 0, .words 16 4, false⟩
/-- R95: Image version of the sequencer's group, as SC_GROUP.VERSION shows it; 0x0000 while no image is resident (R39) -/
def CB_INFO_VERSION : Fld := ⟨.cb, 0x040, 16, 16, .ro, 0, .one, false⟩
/-- R95: Hardware contexts -/
def CB_INFO_CONTEXTS : Fld := ⟨.cb, 0x040, 8, 8, .ro, 8, .one, false⟩
/-- R95: Corbel group -/
def CB_INFO_GROUP : Fld := ⟨.cb, 0x040, 0, 4, .ro, 0, .one, false⟩
/-- R95: State of context c, for c from 0 to 7: 0 free, 1 running, 2 waiting on an engine, 3 stopping under R74 or a bay reset, 4 faulted; other values ... -/
def CB_CTX_STATE : Fld := ⟨.cb, 0x044, 0, 4, .ro, 0, .packed 8, false⟩
/-- R95: Context shown in CB_CTX_JOB, CB_CTX_GEN and CB_CTX_DEADLINE -/
def CB_CTX_SEL : Fld := ⟨.cb, 0x048, 0, 3, .rw, 0, .one, false⟩
/-- R95: Entry generation of the request held -/
def CB_CTX_JOB_ENTRY_GEN : Fld := ⟨.cb, 0x04C, 24, 8, .ro, 0, .one, false⟩
/-- R95: Function code -/
def CB_CTX_JOB_FUNCTION : Fld := ⟨.cb, 0x04C, 8, 16, .ro, 0, .one, false⟩
/-- R95: Bay of the request held -/
def CB_CTX_JOB_BAY : Fld := ⟨.cb, 0x04C, 0, 8, .ro, 0, .one, false⟩
/-- R95: Bay generation number stamped at dispatch -/
def CB_CTX_GEN : Fld := ⟨.cb, 0x050, 0, 16, .ro, 0, .one, false⟩
/-- R95: Lower 32 bits of the deadline cycle -/
def CB_CTX_DEADLINE : Fld := ⟨.cb, 0x054, 0, 32, .ro, 0, .one, false⟩
/-- R95: Requests retired by the sequencer; Corbel clocks in which it issued an instruction; Corbel clocks in which every context holding a request was ... -/
def CB_RETIRED : Fld := ⟨.cb, 0x058, 0, 32, .ro, 0, .one, false⟩
/-- R95: Requests retired by the sequencer; Corbel clocks in which it issued an instruction; Corbel clocks in which every context holding a request was ... -/
def CB_ISSUE_CYCLES : Fld := ⟨.cb, 0x05C, 0, 32, .ro, 0, .one, false⟩
/-- R95: Requests retired by the sequencer; Corbel clocks in which it issued an instruction; Corbel clocks in which every context holding a request was ... -/
def CB_WAIT_CYCLES : Fld := ⟨.cb, 0x060, 0, 32, .ro, 0, .one, false⟩
/-- R261: 0 bulk pool, 1 payment pool, in effect -/
def AS_INFO_POOL : Fld := ⟨.asp, 0x040, 16, 1, .ro, 0, .one, false⟩
/-- R261: Core number, 0 to 127 -/
def AS_INFO_CORE : Fld := ⟨.asp, 0x040, 8, 7, .ro, 0, .one, false⟩
/-- R261: Ashlar group, 0 to 7 -/
def AS_INFO_GROUP : Fld := ⟨.asp, 0x040, 0, 3, .ro, 0, .one, false⟩
/-- R261: 0 free, 1 payment micro-operation, 2 bulk record, 3 wiping -/
def AS_LOCK_CUR_STATE : Fld := ⟨.asp, 0x044, 30, 2, .ro, 0, .one, false⟩
/-- R261: Owning bay -/
def AS_LOCK_CUR_BAY : Fld := ⟨.asp, 0x044, 16, 8, .ro, 0, .one, false⟩
/-- R261: Bulk stream number, or sequencer × 8 + context -/
def AS_LOCK_CUR_TAG : Fld := ⟨.asp, 0x044, 0, 16, .ro, 0, .one, false⟩
/-- R261: 0 free, 1 payment micro-operation, 2 bulk record, 3 wiping -/
def AS_LOCK_NEXT_STATE : Fld := ⟨.asp, 0x04C, 30, 2, .ro, 0, .one, false⟩
/-- R261: Owning bay -/
def AS_LOCK_NEXT_BAY : Fld := ⟨.asp, 0x04C, 16, 8, .ro, 0, .one, false⟩
/-- R261: Bulk stream number, or sequencer × 8 + context -/
def AS_LOCK_NEXT_TAG : Fld := ⟨.asp, 0x04C, 0, 16, .ro, 0, .one, false⟩
/-- R261: Generation number of the entry's job -/
def AS_LOCK_CUR_GEN : Fld := ⟨.asp, 0x048, 0, 16, .ro, 0, .one, false⟩
/-- R261: Generation number of the entry's job -/
def AS_LOCK_NEXT_GEN : Fld := ⟨.asp, 0x050, 0, 16, .ro, 0, .one, false⟩
/-- R261: The core is out of both pools and both lock entries are free -/
def AS_SERVICE_IS_OFFLINE : Fld := ⟨.asp, 0x054, 2, 1, .ro, 0, .one, false⟩
/-- R261: Set under R249; cleared only by a module reset -/
def AS_SERVICE_FAULTED : Fld := ⟨.asp, 0x054, 1, 1, .ro, 0, .one, false⟩
/-- R261: 1 takes the core out of both pools under R234 -/
def AS_SERVICE_OFFLINE : Fld := ⟨.asp, 0x054, 0, 1, .rw, 0, .one, false⟩
/-- R261: Cipher blocks processed; jobs ended; each wraps at 2^32 -/
def AS_BLOCKS : Fld := ⟨.asp, 0x058, 0, 32, .ro, 0, .one, false⟩
/-- R261: Cipher blocks processed; jobs ended; each wraps at 2^32 -/
def AS_JOBS : Fld := ⟨.asp, 0x05C, 0, 32, .ro, 0, .one, false⟩
/-- R261: Jobs aborted under R250; wipe faults under R249; each saturating at 2^32 − 1 -/
def AS_ABORTS : Fld := ⟨.asp, 0x060, 0, 32, .rc, 0, .one, false⟩
/-- R261: Jobs aborted under R250; wipe faults under R249; each saturating at 2^32 − 1 -/
def AS_WIPE_FAULTS : Fld := ⟨.asp, 0x064, 0, 32, .rc, 0, .one, false⟩
/-- R261: Flits dropped under R232; saturating at 2^32 − 1 -/
def AS_LOCK_MISMATCH : Fld := ⟨.asp, 0x068, 0, 32, .rc, 0, .one, false⟩
/-- R261: Module value in every salt drawn after the write (R241) -/
def AS_NONCE_NODE : Fld := ⟨.asp, 0x06C, 0, 12, .rwl, 0, .one, false⟩
/-- R262: Hash core number, 0 to 15 -/
def HS_INFO_CORE : Fld := ⟨.hs, 0x040, 8, 4, .ro, 0, .one, false⟩
/-- R262: Ashlar group, 0 to 7 -/
def HS_INFO_GROUP : Fld := ⟨.hs, 0x040, 0, 3, .ro, 0, .one, false⟩
/-- R262: 0 free, 1 micro-operation, 2 supervisor job, 3 wiping -/
def HS_LOCK_STATE : Fld := ⟨.hs, 0x044, 30, 2, .ro, 0, .one, false⟩
/-- R262: Owning bay; 0 for a supervisor job -/
def HS_LOCK_BAY : Fld := ⟨.hs, 0x044, 16, 8, .ro, 0, .one, false⟩
/-- R262: Sequencer × 8 + context; 0 for a supervisor job -/
def HS_LOCK_TAG : Fld := ⟨.hs, 0x044, 0, 16, .ro, 0, .one, false⟩
/-- R262: Generation number of the job -/
def HS_LOCK_GEN : Fld := ⟨.hs, 0x048, 0, 16, .ro, 0, .one, false⟩
/-- R262: The core is out of service and its lock entry is free -/
def HS_SERVICE_IS_OFFLINE : Fld := ⟨.hs, 0x04C, 2, 1, .ro, 0, .one, false⟩
/-- R262: Set on a wipe fault; cleared only by a module reset -/
def HS_SERVICE_FAULTED : Fld := ⟨.hs, 0x04C, 1, 1, .ro, 0, .one, false⟩
/-- R262: 1 takes the core out of service, as R234 does for a cipher core -/
def HS_SERVICE_OFFLINE : Fld := ⟨.hs, 0x04C, 0, 1, .rw, 0, .one, false⟩
/-- R262: Hash blocks processed; jobs ended; each wraps at 2^32 -/
def HS_BLOCKS : Fld := ⟨.hs, 0x050, 0, 32, .ro, 0, .one, false⟩
/-- R262: Hash blocks processed; jobs ended; each wraps at 2^32 -/
def HS_JOBS : Fld := ⟨.hs, 0x054, 0, 32, .ro, 0, .one, false⟩
/-- R262: Wipe faults; saturating at 2^32 − 1 -/
def HS_WIPE_FAULTS : Fld := ⟨.hs, 0x058, 0, 32, .rc, 0, .one, false⟩
/-- R302: Engine clock in MHz -/
def VS_INFO_CLOCK_MHZ : Fld := ⟨.vs, 0x040, 16, 16, .ro, 1500, .one, false⟩
/-- R302: Engine number, 0 to 15 -/
def VS_INFO_ENGINE : Fld := ⟨.vs, 0x040, 0, 4, .ro, 0, .one, false⟩
/-- R302: 0 free, 1 bay micro-operation, 2 supervisor job, 3 wiping -/
def VS_LOCK_STATE : Fld := ⟨.vs, 0x044, 30, 2, .ro, 0, .one, false⟩
/-- R302: Owning bay; 0 for a supervisor job -/
def VS_LOCK_BAY : Fld := ⟨.vs, 0x044, 16, 8, .ro, 0, .one, false⟩
/-- R302: Sequencer × 8 + context, or requesting Mortar port -/
def VS_LOCK_TAG : Fld := ⟨.vs, 0x044, 0, 16, .ro, 0, .one, false⟩
/-- R302: Generation number of the job -/
def VS_LOCK_GEN : Fld := ⟨.vs, 0x048, 0, 16, .ro, 0, .one, false⟩
/-- R302: 0 idle, 1 parse, 2 preamble, 3 main, 4 output, 5 wipe; others reserved -/
def VS_JOB_PHASE : Fld := ⟨.vs, 0x04C, 16, 3, .ro, 0, .one, false⟩
/-- R302: Function code of the job -/
def VS_JOB_FUNCTION : Fld := ⟨.vs, 0x04C, 0, 16, .ro, 0, .one, false⟩
/-- R302: The engine receives no claim and its lock entry is free -/
def VS_SERVICE_IS_OFFLINE : Fld := ⟨.vs, 0x050, 2, 1, .ro, 1, .one, false⟩
/-- R302: Set under R292; cleared only by a module reset -/
def VS_SERVICE_FAULTED : Fld := ⟨.vs, 0x050, 1, 1, .ro, 0, .one, false⟩
/-- R302: 1: the claim unit makes no further claim on the engine -/
def VS_SERVICE_OFFLINE : Fld := ⟨.vs, 0x050, 0, 1, .rw, 1, .one, false⟩
/-- R302: HBM address of the microcode image, lower and upper words -/
def VS_UCODE_ADDR_LO : Fld := ⟨.vs, 0x054, 0, 32, .rw, 0, .one, false⟩
/-- R302: HBM address of the microcode image, lower and upper words -/
def VS_UCODE_ADDR_HI : Fld := ⟨.vs, 0x058, 0, 32, .rw, 0, .one, false⟩
/-- R302: 1 starts a load under R297; reads 1 until the load ends -/
def VS_UCODE_CTL : Fld := ⟨.vs, 0x05C, 0, 1, .w1s, 0, .one, false⟩
/-- R302: A verified image is in the store -/
def VS_UCODE_STATUS_VALID : Fld := ⟨.vs, 0x060, 31, 1, .ro, 0, .one, false⟩
/-- R302: Set under R298 -/
def VS_UCODE_STATUS_STALE : Fld := ⟨.vs, 0x060, 30, 1, .ro, 0, .one, false⟩
/-- R302: A load is in progress -/
def VS_UCODE_STATUS_LOADING : Fld := ⟨.vs, 0x060, 29, 1, .ro, 0, .one, false⟩
/-- R302: Status of the last load -/
def VS_UCODE_STATUS_STATUS : Fld := ⟨.vs, 0x060, 0, 16, .ro, 0, .one, false⟩
/-- R302: Firmware release to which the loaded image is bound -/
def VS_UCODE_VERSION_RELEASE : Fld := ⟨.vs, 0x064, 16, 16, .ro, 0, .one, false⟩
/-- R302: Image version -/
def VS_UCODE_VERSION_VERSION : Fld := ⟨.vs, 0x064, 0, 16, .ro, 0, .one, false⟩
/-- R302: FORMAT_MAX of the loaded image, counted in KT_FLEET_FLOOR.FORMAT_MAX -/
def VS_UCODE_FMAX : Fld := ⟨.vs, 0x068, 0, 16, .ro, 0, .one, false⟩
/-- R302: Jobs ended; clocks in which the lock entry was not free; each wraps at 2^32 -/
def VS_JOBS : Fld := ⟨.vs, 0x06C, 0, 32, .ro, 0, .one, false⟩
/-- R302: Jobs ended; clocks in which the lock entry was not free; each wraps at 2^32 -/
def VS_BUSY_CLOCKS : Fld := ⟨.vs, 0x070, 0, 32, .ro, 0, .one, false⟩
/-- R302: Jobs ended on a substitute operand under R288; parse faults under R287; aborts under R293; each saturating at 2^32 − 1 -/
def VS_INVALID : Fld := ⟨.vs, 0x074, 0, 32, .rc, 0, .one, false⟩
/-- R302: Jobs ended on a substitute operand under R288; parse faults under R287; aborts under R293; each saturating at 2^32 − 1 -/
def VS_PARSE_FAULTS : Fld := ⟨.vs, 0x078, 0, 32, .rc, 0, .one, false⟩
/-- R302: Jobs ended on a substitute operand under R288; parse faults under R287; aborts under R293; each saturating at 2^32 − 1 -/
def VS_ABORTS : Fld := ⟨.vs, 0x07C, 0, 32, .rc, 0, .one, false⟩
/-- R302: Wipe faults under R292; corrected store errors under R300; time faults under R290; each saturating at 2^32 − 1 -/
def VS_WIPE_FAULTS : Fld := ⟨.vs, 0x080, 0, 32, .rc, 0, .one, false⟩
/-- R302: Wipe faults under R292; corrected store errors under R300; time faults under R290; each saturating at 2^32 − 1 -/
def VS_ECC_CORRECTED : Fld := ⟨.vs, 0x084, 0, 32, .rc, 0, .one, false⟩
/-- R302: Wipe faults under R292; corrected store errors under R300; time faults under R290; each saturating at 2^32 − 1 -/
def VS_TIME_FAULTS : Fld := ⟨.vs, 0x088, 0, 32, .rc, 0, .one, false⟩
/-- R133: Bit f set: ISO 9564-1 format f supported -/
def PN_INFO_FORMATS : Fld := ⟨.pn, 0x040, 24, 8, .ro, 27, .one, false⟩
/-- R133: PIN unit clock in MHz -/
def PN_INFO_CLOCK_MHZ : Fld := ⟨.pn, 0x040, 0, 16, .ro, 1200, .one, false⟩
/-- R133: Bay addressed by offsets 0x048 to 0x060 -/
def PN_BAY_INDEX : Fld := ⟨.pn, 0x044, 0, 8, .rw, 0, .one, false⟩
/-- R133: 1: AES-to-TDES pairs permitted where PERMIT allows; set only under R133 -/
def PN_BAY_XLATE_DOWNGRADE : Fld := ⟨.pn, 0x048, 16, 1, .rw, 0, .indexed 256, true⟩
/-- R133: Bit 4 × i + o: translation from format index i to format index o permitted -/
def PN_BAY_XLATE_PERMIT : Fld := ⟨.pn, 0x048, 0, 16, .rw, 36349, .indexed 256, true⟩
/-- R133: Shortest verification tag in bytes, 4 to 16; other values refused with ST_INPUT_RANGE in ERR_INFO -/
def PN_BAY_LIMITS_MAC_MIN : Fld := ⟨.pn, 0x04C, 8, 5, .rw, 4, .indexed 256, true⟩
/-- R133: Longest PIN, 4 to 12, not below PIN_MIN; otherwise the write is refused under R132 -/
def PN_BAY_LIMITS_PIN_MAX : Fld := ⟨.pn, 0x04C, 4, 4, .rw, 12, .indexed 256, true⟩
/-- R133: Shortest PIN, 4 to 12; otherwise the write is refused under R132 -/
def PN_BAY_LIMITS_PIN_MIN : Fld := ⟨.pn, 0x04C, 0, 4, .rw, 4, .indexed 256, true⟩
/-- R133: Highest level, 1 to 65,535; 0 refused with ST_INPUT_RANGE in ERR_INFO -/
def PN_BAY_GOV_BURST : Fld := ⟨.pn, 0x050, 16, 16, .rw, 1000, .indexed 256, true⟩
/-- R133: Refill in failures per second, 0 to 65,535 -/
def PN_BAY_GOV_RATE : Fld := ⟨.pn, 0x050, 0, 16, .rw, 100, .indexed 256, true⟩
/-- R133: 1: CVV verification failures count under R119 -/
def PN_BAY_GOV_CTL_CVV : Fld := ⟨.pn, 0x054, 1, 1, .rw, 1, .indexed 256, true⟩
/-- R133: 1: governor active -/
def PN_BAY_GOV_CTL_EN : Fld := ⟨.pn, 0x054, 0, 1, .rw, 1, .indexed 256, true⟩
/-- R133: Governor level, two's complement, −512 to 65,535 -/
def PN_BAY_GOV_LEVEL : Fld := ⟨.pn, 0x058, 0, 32, .ro, 1000, .indexed 256, false⟩
/-- R133: Failures counted under R119; refusals with ST_PIN_GOVERNOR; each saturating at 2^32 − 1 -/
def PN_BAY_FAILS : Fld := ⟨.pn, 0x05C, 0, 32, .rc, 0, .indexed 256, false⟩
/-- R133: Failures counted under R119; refusals with ST_PIN_GOVERNOR; each saturating at 2^32 − 1 -/
def PN_BAY_GOV_REFUSED : Fld := ⟨.pn, 0x060, 0, 32, .rc, 0, .indexed 256, false⟩
/-- R133: PIN unit steps completed; wraps at 2^32 -/
def PN_STEPS : Fld := ⟨.pn, 0x064, 0, 32, .ro, 0, .one, false⟩
/-- R133: Steps ended under R97; saturating at 2^32 − 1 -/
def PN_TIME_FAULTS : Fld := ⟨.pn, 0x068, 0, 32, .rc, 0, .one, false⟩
/-- R374: Mode in effect (R344) -/
def NF_PORT_STATUS_MODE : Fld := ⟨.nfp, 0x040, 8, 2, .ro, 0, .one, false⟩
/-- R374: Bit 4 port A, bit 5 port B -/
def NF_PORT_STATUS_FEC_LOCK : Fld := ⟨.nfp, 0x040, 4, 2, .ro, 0, .one, false⟩
/-- R374: Bit 2 port A, bit 3 port B -/
def NF_PORT_STATUS_TRAINING : Fld := ⟨.nfp, 0x040, 2, 2, .ro, 0, .one, false⟩
/-- R374: Bit 0 port A, bit 1 port B -/
def NF_PORT_STATUS_LINK_UP : Fld := ⟨.nfp, 0x040, 0, 2, .ro, 0, .one, false⟩
/-- R374: Loss of lane 4g + i in 0.1 dB, for i from 0 to 3 (R346) -/
def NF_PORT_LOSS : Fld := ⟨.nfp, 0x044, 0, 8, .ro, 0, .packed 4, false⟩
/-- R374: Port B length in 0.25 m steps; 31 beyond 7.5 m or not direct-attach -/
def NF_PORT_CABLE_LEN_B : Fld := ⟨.nfp, 0x048, 8, 5, .ro, 31, .one, false⟩
/-- R374: Port A, as LEN_B -/
def NF_PORT_CABLE_LEN_A : Fld := ⟨.nfp, 0x048, 0, 5, .ro, 31, .one, false⟩
/-- R374: Partner base page bits [31:0] (LO) and [47:32] in [15:0] (HI, upper bits 0) -/
def NF_PORT_PARTNER_A_LO : Fld := ⟨.nfp, 0x04C, 0, 32, .ro, 0, .one, false⟩
/-- R374: Partner base page bits [31:0] (LO) and [47:32] in [15:0] (HI, upper bits 0) -/
def NF_PORT_PARTNER_A_HI : Fld := ⟨.nfp, 0x050, 0, 32, .ro, 0, .one, false⟩
/-- R374: Partner base page bits [31:0] (LO) and [47:32] in [15:0] (HI, upper bits 0) -/
def NF_PORT_PARTNER_B_LO : Fld := ⟨.nfp, 0x054, 0, 32, .ro, 0, .one, false⟩
/-- R374: Partner base page bits [31:0] (LO) and [47:32] in [15:0] (HI, upper bits 0) -/
def NF_PORT_PARTNER_B_HI : Fld := ⟨.nfp, 0x058, 0, 32, .ro, 0, .one, false⟩
/-- R374: 1: port B requires VID_B -/
def NF_PORT_VLAN_EN_B : Fld := ⟨.nfp, 0x05C, 28, 1, .rw, 0, .one, false⟩
/-- R374: Port B VLAN -/
def NF_PORT_VLAN_VID_B : Fld := ⟨.nfp, 0x05C, 16, 12, .rw, 0, .one, false⟩
/-- R374: 1: port A requires VID_A -/
def NF_PORT_VLAN_EN_A : Fld := ⟨.nfp, 0x05C, 12, 1, .rw, 0, .one, false⟩
/-- R374: Port A VLAN -/
def NF_PORT_VLAN_VID_A : Fld := ⟨.nfp, 0x05C, 0, 12, .rw, 0, .one, false⟩
/-- R374: Both ports: frames received; frames sent; FEC codewords corrected; uncorrectable; dropped under R347 and R349; failed GCM authentication; dropped ... -/
def NF_PORT_RX : Fld := ⟨.nfp, 0x060, 0, 32, .rc, 0, .one, false⟩
/-- R374: Both ports: frames received; frames sent; FEC codewords corrected; uncorrectable; dropped under R347 and R349; failed GCM authentication; dropped ... -/
def NF_PORT_TX : Fld := ⟨.nfp, 0x064, 0, 32, .rc, 0, .one, false⟩
/-- R374: Both ports: frames received; frames sent; FEC codewords corrected; uncorrectable; dropped under R347 and R349; failed GCM authentication; dropped ... -/
def NF_PORT_FEC_CORR : Fld := ⟨.nfp, 0x068, 0, 32, .rc, 0, .one, false⟩
/-- R374: Both ports: frames received; frames sent; FEC codewords corrected; uncorrectable; dropped under R347 and R349; failed GCM authentication; dropped ... -/
def NF_PORT_FEC_UNCORR : Fld := ⟨.nfp, 0x06C, 0, 32, .rc, 0, .one, false⟩
/-- R374: Both ports: frames received; frames sent; FEC codewords corrected; uncorrectable; dropped under R347 and R349; failed GCM authentication; dropped ... -/
def NF_PORT_DROP : Fld := ⟨.nfp, 0x070, 0, 32, .rc, 0, .one, false⟩
/-- R374: Both ports: frames received; frames sent; FEC codewords corrected; uncorrectable; dropped under R347 and R349; failed GCM authentication; dropped ... -/
def NF_PORT_AUTH_FAIL : Fld := ⟨.nfp, 0x074, 0, 32, .rc, 0, .one, false⟩
/-- R374: Both ports: frames received; frames sent; FEC codewords corrected; uncorrectable; dropped under R347 and R349; failed GCM authentication; dropped ... -/
def NF_PORT_REPLAY : Fld := ⟨.nfp, 0x078, 0, 32, .rc, 0, .one, false⟩
/-- R375: Mode of group g, for g from 0 to 7 (R344) -/
def NF_LANE_MODE : Fld := ⟨.nfc, 0x040, 0, 2, .rw, 0, .packed 8, false⟩
/-- R375: Slofavar UDP port -/
def NF_UDP : Fld := ⟨.nfc, 0x044, 0, 16, .rwl, 7513, .one, false⟩
/-- R375: NF_ADDR_INDEX: port addressed by 0x04C to 0x068 -/
def NF_ADDR_INDEX : Fld := ⟨.nfc, 0x048, 0, 4, .rw, 0, .one, false⟩
/-- R375: NF_ADDR_CTL: bit 0 IPv4 enabled, bit 1 IPv6 enabled; other bits reserved -/
def NF_ADDR_CTL : Fld := ⟨.nfc, 0x04C, 0, 2, .rw, 0, .indexed 16, false⟩
/-- R375: IPv4 address; IPv6 address, word 0 most significant; MAC bits [31:0], and [47:32] in MAC_HI [15:0] -/
def NF_ADDR_IPV4 : Fld := ⟨.nfc, 0x050, 0, 32, .rw, 0, .indexed 16, false⟩
/-- R375: IPv4 address; IPv6 address, word 0 most significant; MAC bits [31:0], and [47:32] in MAC_HI [15:0] -/
def NF_ADDR_MAC_LO : Fld := ⟨.nfc, 0x064, 0, 32, .ro, 0, .indexed 16, false⟩
/-- R375: IPv4 address; IPv6 address, word 0 most significant; MAC bits [31:0], and [47:32] in MAC_HI [15:0] -/
def NF_ADDR_MAC_HI : Fld := ⟨.nfc, 0x068, 0, 32, .ro, 0, .indexed 16, false⟩
/-- R375: Idle limit, 1 to 86,400 s; other values refused with ST_INPUT_RANGE -/
def NF_SESSION_IDLE : Fld := ⟨.nfc, 0x06C, 0, 17, .rw, 300, .one, false⟩
/-- R375: UTC seconds since 1970, advanced by the module each second; 0 disables the date check -/
def NF_UTC : Fld := ⟨.nfc, 0x070, 0, 32, .rw, 0, .one, false⟩
/-- R375: Handshakes in progress -/
def NF_SESSIONS_HANDSHAKES : Fld := ⟨.nfc, 0x074, 19, 13, .ro, 0, .one, false⟩
/-- R375: Live sessions -/
def NF_SESSIONS_LIVE : Fld := ⟨.nfc, 0x074, 0, 17, .ro, 0, .one, false⟩
/-- R375: Ends the session with this ID (R362) -/
def NF_SESSION_KILL : Fld := ⟨.nfc, 0x078, 0, 32, .wo, 0, .one, false⟩
/-- R375: NF_ANCHOR_INDEX: word 0 to 40 and anchor 0 to 15 addressed -/
def NF_ANCHOR_INDEX_WORD : Fld := ⟨.nfc, 0x07C, 8, 6, .rw, 0, .one, false⟩
/-- R375: NF_ANCHOR_INDEX: word 0 to 40 and anchor 0 to 15 addressed -/
def NF_ANCHOR_INDEX_ANCHOR : Fld := ⟨.nfc, 0x07C, 0, 4, .rw, 0, .one, false⟩
/-- R375: Word 0: bit 0 valid, bits [9:8] curve (1 P-384, 2 P-521); 1: PID_LO; 2: PID_HI; 3–7: key identifier; 8–40: public key X ‖ Y, zero-padded -/
def NF_ANCHOR_DATA : Fld := ⟨.nfc, 0x080, 0, 32, .rwl, 0, .indexed 1024, false⟩
/-- R375: HELLO_C dropped under R358; responses discarded under R362; each saturating at 2^32 − 1 -/
def NF_HS_DROPPED : Fld := ⟨.nfc, 0x084, 0, 32, .rc, 0, .one, false⟩
/-- R375: HELLO_C dropped under R358; responses discarded under R362; each saturating at 2^32 − 1 -/
def NF_ORPHANED : Fld := ⟨.nfc, 0x088, 0, 32, .rc, 0, .one, false⟩
/-- R375: Process identifier, as BY_BIND_PID -/
def NF_MGR_BIND_PID : Fld := ⟨.nfc, 0x08C, 0, 20, .rw, 0, .one, false⟩
/-- R375: As BY_BIND_CMD -/
def NF_MGR_BIND_CMD : Fld := ⟨.nfc, 0x090, 0, 2, .wo, 0, .one, false⟩
/-- R375: As BY_BIND_STATUS -/
def NF_MGR_BIND_STATUS_BUSY : Fld := ⟨.nfc, 0x094, 31, 1, .ro, 0, .one, false⟩
/-- R375: As BY_BIND_STATUS -/
def NF_MGR_BIND_STATUS_BOUND : Fld := ⟨.nfc, 0x094, 30, 1, .ro, 0, .one, false⟩
/-- R375: As BY_BIND_STATUS -/
def NF_MGR_BIND_STATUS_STATUS : Fld := ⟨.nfc, 0x094, 0, 16, .ro, 0, .one, false⟩
/-- R375: IPv6 address, word 0 most significant -/
def NF_ADDR_IPV6_0 : Fld := ⟨.nfc, 0x054, 0, 32, .rw, 0, .indexed 16, false⟩
/-- R375: IPv6 address, word 0 most significant -/
def NF_ADDR_IPV6_1 : Fld := ⟨.nfc, 0x058, 0, 32, .rw, 0, .indexed 16, false⟩
/-- R375: IPv6 address, word 0 most significant -/
def NF_ADDR_IPV6_2 : Fld := ⟨.nfc, 0x05C, 0, 32, .rw, 0, .indexed 16, false⟩
/-- R375: IPv6 address, word 0 most significant -/
def NF_ADDR_IPV6_3 : Fld := ⟨.nfc, 0x060, 0, 32, .rw, 0, .indexed 16, false⟩
/-- R376: Link up -/
def HF_LINK_UP : Fld := ⟨.hf, 0x040, 31, 1, .ro, 0, .one, false⟩
/-- R376: PCIe generation, 1 to 5 -/
def HF_LINK_SPEED : Fld := ⟨.hf, 0x040, 16, 4, .ro, 0, .one, false⟩
/-- R376: Lanes in use -/
def HF_LINK_WIDTH : Fld := ⟨.hf, 0x040, 0, 5, .ro, 0, .one, false⟩
/-- R376: HF_IDE_CTL: 1 applies R371; bits [31:1] reserved -/
def HF_IDE_CTL : Fld := ⟨.hf, 0x044, 0, 1, .rwl, 0, .one, false⟩
/-- R376: HF_IDE_STATUS, stream s from 0 to 3: 0 insecure, 1 keys programmed, 2 secure, 3 error -/
def HF_IDE_STATUS : Fld := ⟨.hf, 0x048, 0, 4, .ro, 0, .packed 4, false⟩
/-- R376: TLPs refused under R371; completions discarded under R367 and R369; each saturating at 2^32 − 1 -/
def HF_UNSECURED : Fld := ⟨.hf, 0x04C, 0, 32, .rc, 0, .one, false⟩
/-- R376: TLPs refused under R371; completions discarded under R367 and R369; each saturating at 2^32 − 1 -/
def HF_ORPHANED : Fld := ⟨.hf, 0x050, 0, 32, .rc, 0, .one, false⟩
/-- R409: Presence debounce, 1 to 255 ms -/
def CD_CTL_DEBOUNCE_MS : Fld := ⟨.cd, 0x040, 8, 8, .rw, 20, .one, false⟩
/-- R409: 0 C then B, 1 C only, 2 B only; 3 refused with ST_INPUT_RANGE -/
def CD_CTL_CLASS : Fld := ⟨.cd, 0x040, 4, 2, .rw, 0, .one, false⟩
/-- R409: 0: detect input high when a card is present -/
def CD_CTL_DETECT_POL : Fld := ⟨.cd, 0x040, 3, 1, .rw, 0, .one, false⟩
/-- R409: 1 deactivates in the ISO order -/
def CD_CTL_DEACTIVATE : Fld := ⟨.cd, 0x040, 2, 1, .w1s, 0, .one, false⟩
/-- R409: 1 activates under R381 -/
def CD_CTL_ACTIVATE : Fld := ⟨.cd, 0x040, 1, 1, .w1s, 0, .one, false⟩
/-- R409: 0 OBSERVE, 1 DEACTIVATE (R397) -/
def CD_CTL_REMOVE_MODE : Fld := ⟨.cd, 0x040, 0, 1, .rw, 1, .one, false⟩
/-- R409: Eweom session open -/
def CD_STATE_SESSION : Fld := ⟨.cd, 0x044, 8, 1, .ro, 0, .one, false⟩
/-- R409: 1 class C, 2 class B -/
def CD_STATE_CLASS_USED : Fld := ⟨.cd, 0x044, 6, 2, .ro, 0, .one, false⟩
/-- R409: Debounced presence -/
def CD_STATE_PRESENT : Fld := ⟨.cd, 0x044, 5, 1, .ro, 0, .one, false⟩
/-- R409: 0 absent, 1 present inactive, 2 activating, 3 active, 4 clock stopped, 5 deactivating, 6 fault -/
def CD_STATE_STATE : Fld := ⟨.cd, 0x044, 0, 4, .ro, 0, .one, false⟩
/-- R409: PPS limit, as a TA1 value (R386) -/
def CD_CLK_MAX_FD : Fld := ⟨.cd, 0x048, 8, 8, .rw, 150, .one, false⟩
/-- R409: Card clock = 100 MHz ÷ DIV, 20 to 100; staged to the next activation -/
def CD_CLK_DIV : Fld := ⟨.cd, 0x048, 0, 7, .rw, 25, .one, false⟩
/-- R409: Fi and Di in use -/
def CD_PARAM_TA1 : Fld := ⟨.cd, 0x04C, 24, 8, .ro, 17, .one, false⟩
/-- R409: IFSC in use -/
def CD_PARAM_IFSC : Fld := ⟨.cd, 0x04C, 16, 8, .ro, 32, .one, false⟩
/-- R409: BWI in use -/
def CD_PARAM_BWI : Fld := ⟨.cd, 0x04C, 12, 4, .ro, 4, .one, false⟩
/-- R409: CWI in use -/
def CD_PARAM_CWI : Fld := ⟨.cd, 0x04C, 8, 4, .ro, 13, .one, false⟩
/-- R409: X from the ATR -/
def CD_PARAM_CLOCK_STOP : Fld := ⟨.cd, 0x04C, 6, 2, .ro, 0, .one, false⟩
/-- R409: 1: CRC error detection -/
def CD_PARAM_CRC : Fld := ⟨.cd, 0x04C, 5, 1, .ro, 0, .one, false⟩
/-- R409: PPS accepted -/
def CD_PARAM_PPS_DONE : Fld := ⟨.cd, 0x04C, 4, 1, .ro, 0, .one, false⟩
/-- R409: WTX limit, 1 to 60 s (R389) -/
def CD_T1_WTX_MAX_S : Fld := ⟨.cd, 0x050, 8, 6, .rw, 10, .one, false⟩
/-- R409: Retries, 1 to 3; 0 refused with ST_INPUT_RANGE -/
def CD_T1_RETRY : Fld := ⟨.cd, 0x050, 0, 2, .rw, 3, .one, false⟩
/-- R409: Idle time before clock stop, 10 to 10,000 ms (R390) -/
def CD_PWR : Fld := ⟨.cd, 0x054, 0, 14, .rw, 100, .one, false⟩
/-- R409: VCC in mV -/
def CD_VCC_MV : Fld := ⟨.cd, 0x058, 16, 16, .ro, 0, .one, false⟩
/-- R409: Load current in 0.01 mA -/
def CD_VCC_CURRENT : Fld := ⟨.cd, 0x058, 0, 16, .ro, 0, .one, false⟩
/-- R409: Card ID of the open session, lower and upper words -/
def CD_CARD_ID_LO : Fld := ⟨.cd, 0x05C, 0, 32, .ro, 0, .one, false⟩
/-- R409: Card ID of the open session, lower and upper words -/
def CD_CARD_ID_HI : Fld := ⟨.cd, 0x060, 0, 32, .ro, 0, .one, false⟩
/-- R409: Share index for WRITE; length in bytes, 16 to 128, of the PIN block in CD_PINBLK for VERIFY (R392); other lengths refused with ST_INPUT_RANGE -/
def CD_CMD_ARG : Fld := ⟨.cd, 0x064, 16, 16, .wo, 0, .one, false⟩
/-- R409: Slot, 0 to 15 -/
def CD_CMD_SLOT : Fld := ⟨.cd, 0x064, 8, 8, .wo, 0, .one, false⟩
/-- R409: 1 open session, 2 read slot, 3 verify, 4 write share, 5 protect slot, 6 wake, 7 close; others refused with ST_INPUT_RANGE -/
def CD_CMD_OP : Fld := ⟨.cd, 0x064, 0, 8, .wo, 0, .one, false⟩
/-- R409: Command in progress -/
def CD_CMD_STATUS_BUSY : Fld := ⟨.cd, 0x068, 31, 1, .ro, 0, .one, false⟩
/-- R409: Slot flags from the last READ; bit 6 UNDEFINED -/
def CD_CMD_STATUS_FLAGS : Fld := ⟨.cd, 0x068, 24, 7, .ro, 0, .one, false⟩
/-- R409: PIN tries left, from the card -/
def CD_CMD_STATUS_TRIES : Fld := ⟨.cd, 0x068, 16, 8, .ro, 0, .one, false⟩
/-- R409: Status of the last command -/
def CD_CMD_STATUS_STATUS : Fld := ⟨.cd, 0x068, 0, 16, .ro, 0, .one, false⟩
/-- R409: Version counter of the last slot read or written -/
def CD_SLOT_VERSION : Fld := ⟨.cd, 0x06C, 0, 32, .ro, 0, .one, false⟩
/-- R409: Bay, for a bay-scoped class -/
def CD_CER_CTL_BAY : Fld := ⟨.cd, 0x070, 16, 8, .wo, 0, .one, false⟩
/-- R409: Class, 1 to 10 (R401) -/
def CD_CER_CTL_CLASS : Fld := ⟨.cd, 0x070, 8, 8, .wo, 0, .one, false⟩
/-- R409: 1 OPEN, 2 CLOSE; others refused with ST_INPUT_RANGE -/
def CD_CER_CTL_OP : Fld := ⟨.cd, 0x070, 0, 8, .wo, 0, .one, false⟩
/-- R409: State of R402 -/
def CD_CER_STATUS_STATE : Fld := ⟨.cd, 0x074, 28, 4, .ro, 0, .one, false⟩
/-- R409: Class of the ceremony -/
def CD_CER_STATUS_CLASS : Fld := ⟨.cd, 0x074, 24, 4, .ro, 0, .one, false⟩
/-- R409: Bay of the ceremony -/
def CD_CER_STATUS_BAY : Fld := ⟨.cd, 0x074, 16, 8, .ro, 0, .one, false⟩
/-- R409: Cards counted -/
def CD_CER_STATUS_COUNT : Fld := ⟨.cd, 0x074, 10, 6, .ro, 0, .one, false⟩
/-- R409: Threshold -/
def CD_CER_STATUS_M : Fld := ⟨.cd, 0x074, 5, 5, .ro, 0, .one, false⟩
/-- R409: Gathering limit, 60 to 3,600 s -/
def CD_CER_TIME_TIMEOUT_S : Fld := ⟨.cd, 0x078, 16, 16, .rw, 900, .one, false⟩
/-- R409: Standing limit, 10 to 3,600 s -/
def CD_CER_TIME_HOLD_S : Fld := ⟨.cd, 0x078, 0, 16, .rw, 300, .one, false⟩
/-- R409: CD_ROSTER_INDEX: bits [8:4] entry 0 to 16; bits [3:0] word 0 to 10; bits [31:9] reserved -/
def CD_ROSTER_INDEX : Fld := ⟨.cd, 0x07C, 0, 9, .rw, 0, .one, false⟩
/-- R409: CD_ROSTER_DATA. Entries 0 to 15: word 0, bit 31 valid and bits [9:0] class mask; words 1 and 2, card ID; words 3 to 10, key hash. Entry 16, the ... -/
def CD_ROSTER_DATA : Fld := ⟨.cd, 0x080, 0, 32, .ro, 0, .one, false⟩
/-- R409: Bytes 4k to 4k + 3 of the console-encrypted PIN block (R392); cleared when VERIFY ends; reads 0x0000_0000 -/
def CD_PINBLK : Fld := ⟨.cd, 0x100, 0, 32, .wo, 0, .words 32 4, false⟩
/-- R477: Island code of the target (R12) -/
def LG_INFO_ISLAND : Fld := ⟨.lg, 0x040, 16, 8, .ro, 0, .one, false⟩
/-- R477: Regions -/
def LG_INFO_REGIONS : Fld := ⟨.lg, 0x040, 8, 8, .ro, 16, .one, false⟩
/-- R477: Gate number, 0 to 39 -/
def LG_INFO_GATE : Fld := ⟨.lg, 0x040, 0, 6, .ro, 0, .one, false⟩
/-- R477: Drain in progress -/
def LG_COMMIT_PENDING : Fld := ⟨.lg, 0x044, 31, 1, .ro, 0, .one, false⟩
/-- R477: Last commit: 0 none, 1 drained in time, 2 drained after GATE_DRAIN_TIMEOUT -/
def LG_COMMIT_LAST : Fld := ⟨.lg, 0x044, 16, 2, .ro, 0, .one, false⟩
/-- R477: 1 commits the staged bank (R472); reads 1 while pending -/
def LG_COMMIT_GO : Fld := ⟨.lg, 0x044, 0, 1, .w1s, 0, .one, false⟩
/-- R477: Accesses held, 0 to 64 -/
def LG_DRAIN_HELD : Fld := ⟨.lg, 0x048, 16, 7, .ro, 0, .one, false⟩
/-- R477: Old-epoch accesses not yet drained -/
def LG_DRAIN_INFLIGHT : Fld := ⟨.lg, 0x048, 0, 16, .ro, 0, .one, false⟩
/-- R477: Captured address bits [31:0]; in HI, bits [47:32] in [15:0], upper bits 0 -/
def LG_FAULT_ADDR_LO : Fld := ⟨.lg, 0x04C, 0, 32, .ro, 0, .one, false⟩
/-- R477: Captured address bits [31:0]; in HI, bits [47:32] in [15:0], upper bits 0 -/
def LG_FAULT_ADDR_HI : Fld := ⟨.lg, 0x050, 0, 32, .ro, 0, .one, false⟩
/-- R477: A fault is captured; while 1, later faults are counted but not captured; R9 applies -/
def LG_FAULT_INFO_VALID : Fld := ⟨.lg, 0x054, 31, 1, .w1c, 0, .one, false⟩
/-- R477: Cause of the refusal, for precise and imprecise notices alike: 1 denied, 2 straddle, 3 no match, 5 GATE_DRAIN_TIMEOUT, 6 debug reach; 4 and 7 ... -/
def LG_FAULT_INFO_KIND : Fld := ⟨.lg, 0x054, 28, 3, .ro, 0, .one, false⟩
/-- R477: Stamped ORIGIN -/
def LG_FAULT_INFO_ORIGIN : Fld := ⟨.lg, 0x054, 26, 2, .ro, 0, .one, false⟩
/-- R477: Stamped OP -/
def LG_FAULT_INFO_OP : Fld := ⟨.lg, 0x054, 22, 4, .ro, 0, .one, false⟩
/-- R477: Deciding region of the first byte; 0 when none -/
def LG_FAULT_INFO_REGION : Fld := ⟨.lg, 0x054, 18, 4, .ro, 0, .one, false⟩
/-- R477: 1: the access was a posted write, reported by a GATE_IMPRECISE notice -/
def LG_FAULT_INFO_POSTED : Fld := ⟨.lg, 0x054, 17, 1, .ro, 0, .one, false⟩
/-- R477: Stamped BAY -/
def LG_FAULT_INFO_BAY : Fld := ⟨.lg, 0x054, 8, 8, .ro, 0, .one, false⟩
/-- R477: Stamped SRC port -/
def LG_FAULT_INFO_SRC : Fld := ⟨.lg, 0x054, 0, 8, .ro, 0, .one, false⟩
/-- R477: Precise refusals; GATE_IMPRECISE notices; drain timeouts; each saturating at 2^32 − 1 -/
def LG_FAULTS : Fld := ⟨.lg, 0x058, 0, 32, .rc, 0, .one, false⟩
/-- R477: Precise refusals; GATE_IMPRECISE notices; drain timeouts; each saturating at 2^32 − 1 -/
def LG_IMPRECISE : Fld := ⟨.lg, 0x05C, 0, 32, .rc, 0, .one, false⟩
/-- R477: Precise refusals; GATE_IMPRECISE notices; drain timeouts; each saturating at 2^32 − 1 -/
def LG_DRAIN_TIMEOUTS : Fld := ⟨.lg, 0x060, 0, 32, .rc, 0, .one, false⟩
/-- R477: Mortar clocks from GO to the end of the last drain -/
def LG_DRAIN_TIME : Fld := ⟨.lg, 0x064, 0, 32, .ro, 0, .one, false⟩
/-- R477: Base bits [31:12] -/
def LG_RGN_BASE_LO : Fld := ⟨.lg, 0x100, 12, 20, .rwl, 0, .words 16 16, false⟩
/-- R477: Base bits [31:12] -/
def LG_ACT_BASE_LO_BASE : Fld := ⟨.lg, 0x200, 12, 20, .ro, 0, .words 16 16, false⟩
/-- R477: Base bits [47:32] -/
def LG_RGN_BASE_HI : Fld := ⟨.lg, 0x104, 0, 16, .rwl, 0, .words 16 16, false⟩
/-- R477: Base bits [47:32] -/
def LG_ACT_BASE_HI_BASE : Fld := ⟨.lg, 0x204, 0, 16, .ro, 0, .words 16 16, false⟩
/-- R477: Region enabled -/
def LG_RGN_CFG_EN : Fld := ⟨.lg, 0x108, 31, 1, .rwl, 0, .words 16 16, false⟩
/-- R477: Region enabled -/
def LG_ACT_CFG_EN : Fld := ⟨.lg, 0x208, 31, 1, .ro, 0, .words 16 16, false⟩
/-- R477: k, 12 to 48, checked at commit -/
def LG_RGN_CFG_LOG2_SIZE : Fld := ⟨.lg, 0x108, 16, 6, .rwl, 0, .words 16 16, false⟩
/-- R477: k, 12 to 48, checked at commit -/
def LG_ACT_CFG_LOG2_SIZE : Fld := ⟨.lg, 0x208, 16, 6, .ro, 0, .words 16 16, false⟩
/-- R477: Bit j: sub-region j excluded -/
def LG_RGN_CFG_SUB_DIS : Fld := ⟨.lg, 0x108, 0, 8, .rwl, 0, .words 16 16, false⟩
/-- R477: Bit j: sub-region j excluded -/
def LG_ACT_CFG_SUB_DIS : Fld := ⟨.lg, 0x208, 0, 8, .ro, 0, .words 16 16, false⟩
/-- R477: Bay bits compared -/
def LG_RGN_PERM_BAY_MASK : Fld := ⟨.lg, 0x10C, 24, 8, .rwl, 0, .words 16 16, false⟩
/-- R477: Bay bits compared -/
def LG_ACT_PERM_BAY_MASK : Fld := ⟨.lg, 0x20C, 24, 8, .ro, 0, .words 16 16, false⟩
/-- R477: Value they must equal -/
def LG_RGN_PERM_BAY_VALUE : Fld := ⟨.lg, 0x10C, 16, 8, .rwl, 0, .words 16 16, false⟩
/-- R477: Value they must equal -/
def LG_ACT_PERM_BAY_VALUE : Fld := ⟨.lg, 0x20C, 16, 8, .ro, 0, .words 16 16, false⟩
/-- R477: 1: BAY must equal the address bits at SELF_SHIFT -/
def LG_RGN_PERM_SELF_EN : Fld := ⟨.lg, 0x10C, 15, 1, .rwl, 0, .words 16 16, false⟩
/-- R477: 1: BAY must equal the address bits at SELF_SHIFT -/
def LG_ACT_PERM_SELF_EN : Fld := ⟨.lg, 0x20C, 15, 1, .ro, 0, .words 16 16, false⟩
/-- R477: Lowest address bit of the bay field, 0 to 40 -/
def LG_RGN_PERM_SELF_SHIFT : Fld := ⟨.lg, 0x10C, 9, 6, .rwl, 0, .words 16 16, false⟩
/-- R477: Lowest address bit of the bay field, 0 to 40 -/
def LG_ACT_PERM_SELF_SHIFT : Fld := ⟨.lg, 0x20C, 9, 6, .ro, 0, .words 16 16, false⟩
/-- R477: Debug X, W, R -/
def LG_RGN_PERM_DBG_XWR : Fld := ⟨.lg, 0x10C, 6, 3, .rwl, 0, .words 16 16, false⟩
/-- R477: Debug X, W, R -/
def LG_ACT_PERM_DBG_XWR : Fld := ⟨.lg, 0x20C, 6, 3, .ro, 0, .words 16 16, false⟩
/-- R477: Bay and program X, W, R -/
def LG_RGN_PERM_BAY_XWR : Fld := ⟨.lg, 0x10C, 3, 3, .rwl, 0, .words 16 16, false⟩
/-- R477: Bay and program X, W, R -/
def LG_ACT_PERM_BAY_XWR : Fld := ⟨.lg, 0x20C, 3, 3, .ro, 0, .words 16 16, false⟩
/-- R477: Supervisor X, W, R -/
def LG_RGN_PERM_SUP_XWR : Fld := ⟨.lg, 0x10C, 0, 3, .rwl, 0, .words 16 16, false⟩
/-- R477: Supervisor X, W, R -/
def LG_ACT_PERM_SUP_XWR : Fld := ⟨.lg, 0x20C, 0, 3, .ro, 0, .words 16 16, false⟩
/-- R339: Share in effect -/
def BY_SHARE_EFFECTIVE : Fld := ⟨.by, 0x040, 16, 11, .ro, 0, .one, false⟩
/-- R339: Staged share, 0 to 1,024, under R308 -/
def BY_SHARE_SHARE : Fld := ⟨.by, 0x040, 0, 11, .rw, 0, .one, true⟩
/-- R339: Queue depth, 64 to 65,536 (R311) -/
def BY_QUEUE : Fld := ⟨.by, 0x044, 0, 17, .rw, 64, .one, true⟩
/-- R339: Requests queued -/
def BY_QUEUE_USED : Fld := ⟨.by, 0x048, 0, 17, .ro, 0, .one, false⟩
/-- R339: Contexts holding a request of the bay -/
def BY_CTX_HELD : Fld := ⟨.by, 0x04C, 16, 10, .ro, 0, .one, false⟩
/-- R339: Context limit, 1 to 512 (R312) -/
def BY_CTX_MAX : Fld := ⟨.by, 0x04C, 0, 10, .rw, 512, .one, true⟩
/-- R339: Default deadline in µs, 1 to 1,000,000 -/
def BY_DEADLINE : Fld := ⟨.by, 0x050, 0, 20, .rw, 1000, .one, false⟩
/-- R339: Share in effect -/
def BY_VS_SHARE_EFFECTIVE : Fld := ⟨.by, 0x054, 16, 11, .ro, 0, .one, false⟩
/-- R339: Staged Voussoir share (R314); staged bulk share (R315); 0 to 1,024 -/
def BY_VS_SHARE_SHARE : Fld := ⟨.by, 0x054, 0, 11, .rw, 0, .one, true⟩
/-- R339: Share in effect -/
def BY_BULK_SHARE_EFFECTIVE : Fld := ⟨.by, 0x058, 16, 11, .ro, 0, .one, false⟩
/-- R339: Staged Voussoir share (R314); staged bulk share (R315); 0 to 1,024 -/
def BY_BULK_SHARE_SHARE : Fld := ⟨.by, 0x058, 0, 11, .rw, 0, .one, true⟩
/-- R339: Bay resets since main power-up; wraps at 2^16 -/
def BY_GEN_RESETS : Fld := ⟨.by, 0x05C, 16, 16, .ro, 0, .one, false⟩
/-- R339: Current generation number -/
def BY_GEN_GEN : Fld := ⟨.by, 0x05C, 0, 16, .ro, 0, .one, false⟩
/-- R339: Time from the last reset action to quiet, in µs, rounded up -/
def BY_RESET_TIME : Fld := ⟨.by, 0x060, 0, 8, .ro, 0, .one, false⟩
/-- R339: Process identifier for BY_BIND_CMD -/
def BY_BIND_PID : Fld := ⟨.by, 0x064, 0, 20, .rw, 0, .one, false⟩
/-- R339: 1 bind, 2 unbind, 3 query, under R305; 0 has no effect -/
def BY_BIND_CMD : Fld := ⟨.by, 0x068, 0, 2, .wo, 0, .one, false⟩
/-- R339: Command in progress -/
def BY_BIND_STATUS_BUSY : Fld := ⟨.by, 0x06C, 31, 1, .ro, 0, .one, false⟩
/-- R339: Last query: the identifier is bound to this bay -/
def BY_BIND_STATUS_BOUND : Fld := ⟨.by, 0x06C, 30, 1, .ro, 0, .one, false⟩
/-- R339: Status of the last command -/
def BY_BIND_STATUS_STATUS : Fld := ⟨.by, 0x06C, 0, 16, .ro, 0, .one, false⟩
/-- R339: Free binding table entries, module-wide -/
def BY_BIND_COUNT_FREE : Fld := ⟨.by, 0x070, 16, 13, .ro, 4096, .one, false⟩
/-- R339: Identifiers bound to this bay -/
def BY_BIND_COUNT_BOUND : Fld := ⟨.by, 0x070, 0, 13, .ro, 0, .one, false⟩
/-- R339: 0 slots retired, 1 slots wasted, 2 slots front-starved, 3 slots back-starved, 4 requests admitted, 5 requests refused at a face, 6 header and ... -/
def BY_CNT : Fld := ⟨.by, 0x080, 0, 32, .ro, 0, .words 8 4, false⟩
/-- R341: SC_MODE.LENDING in effect -/
def BW_STATUS_LENDING : Fld := ⟨.bw, 0x040, 19, 1, .ro, 0, .one, false⟩
/-- R341: Mirror of BY CTRL.CNT_VISIBLE -/
def BW_STATUS_CNT_VISIBLE : Fld := ⟨.bw, 0x040, 18, 1, .ro, 0, .one, false⟩
/-- R341: Mirror of BY STATUS.RESETTING -/
def BW_STATUS_RESETTING : Fld := ⟨.bw, 0x040, 17, 1, .ro, 0, .one, false⟩
/-- R341: Mirror of BY CTRL.ENABLE -/
def BW_STATUS_ENABLED : Fld := ⟨.bw, 0x040, 16, 1, .ro, 0, .one, false⟩
/-- R341: Current generation number -/
def BW_STATUS_GEN : Fld := ⟨.bw, 0x040, 0, 16, .ro, 0, .one, false⟩
/-- R341: 1 resets the bay when SELF_RESET_EN is 1 (R320); reads 1 until quiet -/
def BW_RESET : Fld := ⟨.bw, 0x044, 0, 1, .w1s, 0, .one, false⟩
/-- R341: Voussoir share in effect -/
def BW_SHARE_VS : Fld := ⟨.bw, 0x048, 16, 11, .ro, 0, .one, false⟩
/-- R341: Course share in effect -/
def BW_SHARE_COURSE : Fld := ⟨.bw, 0x048, 0, 11, .ro, 0, .one, false⟩
/-- R341: Depth in effect; requests queued -/
def BW_QUEUE_DEPTH : Fld := ⟨.bw, 0x04C, 0, 17, .ro, 64, .one, false⟩
/-- R341: Depth in effect; requests queued -/
def BW_QUEUE_USED : Fld := ⟨.bw, 0x050, 0, 17, .ro, 0, .one, false⟩
/-- R341: Mirror of PN_BAY_GOV_LEVEL for this bay -/
def BW_GOV_LEVEL : Fld := ⟨.bw, 0x054, 0, 32, .ro, 1000, .one, false⟩
/-- R341: Failures counted under R119; wraps at 2^32; reading it does not clear PN_BAY_FAILS -/
def BW_GOV_FAILS : Fld := ⟨.bw, 0x058, 0, 32, .ro, 0, .one, false⟩
/-- R341: Sequence number of the next entry to be written -/
def BW_EV_HEAD : Fld := ⟨.bw, 0x060, 0, 32, .ro, 1, .one, false⟩
/-- R341: Sequence number of the oldest unread entry, under R338 -/
def BW_EV_TAIL : Fld := ⟨.bw, 0x064, 0, 32, .rw, 1, .one, false⟩
/-- R341: Raised by each repeat-count update under R337; wraps at 2^32 -/
def BW_EV_REPEAT_GEN : Fld := ⟨.bw, 0x068, 0, 32, .ro, 0, .one, false⟩
/-- R341: Events dropped under R337; saturating at 2^32 − 1 -/
def BW_EV_OVERFLOW : Fld := ⟨.bw, 0x06C, 0, 32, .ro, 0, .one, false⟩
/-- R341: BY_CNTk while CNT_VISIBLE is 1; 0x0000_0000 while it is 0 -/
def BW_CNT : Fld := ⟨.bw, 0x080, 0, 32, .ro, 0, .words 8 4, false⟩
/-- R377: Host address of the request and completion rings, 64-byte aligned -/
def HQ_REQ_BASE_LO : Fld := ⟨.hq, 0x040, 0, 32, .rw, 0, .words 4 32, false⟩
/-- R377: Host address of the request and completion rings, 64-byte aligned -/
def HQ_REQ_BASE_HI : Fld := ⟨.hq, 0x044, 0, 32, .rw, 0, .words 4 32, false⟩
/-- R377: Host address of the request and completion rings, 64-byte aligned -/
def HQ_CPL_BASE_LO : Fld := ⟨.hq, 0x048, 0, 32, .rw, 0, .words 4 32, false⟩
/-- R377: Host address of the request and completion rings, 64-byte aligned -/
def HQ_CPL_BASE_HI : Fld := ⟨.hq, 0x04C, 0, 32, .rw, 0, .words 4 32, false⟩
/-- R377: 1: the ring pair runs -/
def HQ_CFG_EN : Fld := ⟨.hq, 0x050, 31, 1, .rw, 0, .words 4 32, false⟩
/-- R377: 0 function ring, 1 bulk ring (R366) -/
def HQ_CFG_KIND : Fld := ⟨.hq, 0x050, 30, 1, .rw, 0, .words 4 32, false⟩
/-- R377: k, 6 to 16 -/
def HQ_CFG_LOG2_SIZE : Fld := ⟨.hq, 0x050, 16, 5, .rw, 6, .words 4 32, false⟩
/-- R377: Interrupt after this many entries; 0 disables moderation -/
def HQ_CFG_MOD_COUNT : Fld := ⟨.hq, 0x050, 8, 8, .rw, 1, .words 4 32, false⟩
/-- R377: Or this many µs after the first unsignalled entry, whichever comes first -/
def HQ_CFG_MOD_US : Fld := ⟨.hq, 0x050, 0, 8, .rw, 0, .words 4 32, false⟩
/-- R377: HQ_PASID: PASID of the ring pair (R367) -/
def HQ_PASID : Fld := ⟨.hq, 0x054, 0, 20, .rw, 0, .words 4 32, false⟩
/-- R377: HQ_HEAD: next descriptor to be fetched -/
def HQ_HEAD : Fld := ⟨.hq, 0x058, 0, 16, .ro, 0, .words 4 32, false⟩
/-- R377: HQ_STATUS: halted under R367; EN is 1, or completions of descriptors fetched are still outstanding (R377); current phase; next completion entry to ... -/
def HQ_STATUS_HALTED : Fld := ⟨.hq, 0x05C, 31, 1, .ro, 0, .words 4 32, false⟩
/-- R377: HQ_STATUS: halted under R367; EN is 1, or completions of descriptors fetched are still outstanding (R377); current phase; next completion entry to ... -/
def HQ_STATUS_RUNNING : Fld := ⟨.hq, 0x05C, 30, 1, .ro, 0, .words 4 32, false⟩
/-- R377: HQ_STATUS: halted under R367; EN is 1, or completions of descriptors fetched are still outstanding (R377); current phase; next completion entry to ... -/
def HQ_STATUS_PHASE : Fld := ⟨.hq, 0x05C, 16, 1, .ro, 0, .words 4 32, false⟩
/-- R377: HQ_STATUS: halted under R367; EN is 1, or completions of descriptors fetched are still outstanding (R377); current phase; next completion entry to ... -/
def HQ_STATUS_CPL_TAIL : Fld := ⟨.hq, 0x05C, 0, 16, .ro, 0, .words 4 32, false⟩
/-- R378: Request ring tail -/
def HQ_DOORBELL : Fld := ⟨.hqd, 0x040, 0, 16, .wo, 0, .words 4 4, false⟩
/-- R378: Consumed completion head -/
def HQ_CPL_DOORBELL : Fld := ⟨.hqd, 0x050, 0, 16, .wo, 0, .words 4 4, false⟩
/-- R378: MSI-X vector of IRQ n -/
def HQ_VECTOR : Fld := ⟨.hqv, 0x040, 0, 9, .ro, 0, .one, false⟩
/-- R378: Masks the bay vector while the pending bit is kept -/
def HQ_VEC_MASK : Fld := ⟨.hqv, 0x044, 0, 1, .rw, 0, .one, false⟩

/-- The block-specific fields of a page of kind module. -/
def moduleFields : List Fld :=
  []
/-- The block-specific fields of a page of kind ks. -/
def ksFields : List Fld :=
  [KS_STATUS_CLAIM, KS_STATUS_STATE, KS_STATUS_MISS_MORTAR, KS_STATUS_MISS_WIRE, KS_STATUS_CAUSE, KS_FW_RELEASE, 
   KS_FW_PAIR_MIN, KS_MATCHED_S, KS_INPUT_LO, KS_INPUT_HI, KS_LAG, KS_CTRL_SLOT, KS_CTRL_RESTART, 
   KS_RESTARTS_AUTO_HOUR, KS_RESTARTS_TOTAL, KS_PATH_FAULTS, KS_DIVERGE, KS_PAIR_CTL_REVERT_ARM, KS_PAIR_CTL_SWITCH, 
   KS_PAIR_CTL_AUTO_REVERT, KS_PAIR_STATUS_LOST, KS_PAIR_STATUS_HOLD, KS_PAIR_STATUS_REVERTS, 
   KS_PAIR_STATUS_CONTROLLER, KS_SWITCHES_PLANNED, KS_SWITCHES_FAILURE]
/-- The block-specific fields of a page of kind pw. -/
def pwFields : List Fld :=
  [PW_BOOT_ATTEMPT, PW_BOOT_CAUSE, PW_BOOT_STEP, PW_BOOT_FALLBACK, PW_BOOT_SLOT, PW_BOOT_PREFERRED, 
   PW_SUPPLY_MAIN_MV, PW_SUPPLY_AUX_MV, PW_INPUT_IIN, PW_INPUT_POWER, PW_TEMP_WARN_DIE_C, PW_TEMP_WARN_PLATE_C, 
   PW_DOM_INDEX, PW_DOM_CTL, PW_DOM_STATUS_MV, PW_DOM_STATUS_FENCED, PW_DOM_STATUS_STATE, PW_ON_0, PW_ON_1, PW_ON_2, 
   PW_LOSSES, PW_BALLAST]
/-- The block-specific fields of a page of kind ck. -/
def ckFields : List Fld :=
  [CK_DOM_INDEX, CK_DOM_FREQ, CK_DOM_TARGET, CK_DOM_STATUS_STOPS, CK_DOM_STATUS_SLEWING, CK_DOM_STATUS_LOCKED, 
   CK_DOM_STATUS_RUNNING]
/-- The block-specific fields of a page of kind pl. -/
def plFields : List Fld :=
  [PL_CTL_GUARD_PCT, PL_CTL_PERIOD_H, PL_CTL_MEASURE, PL_INDEX, PL_SLACK_SLACK, PL_SLACK_MIN_SLACK, PL_PLAN_MV, 
   PL_PLAN_MHZ, PL_MARGIN, PL_LAST, PL_PUF_REENROLS, PL_PUF_MAX_CORRECTED, PL_NAND, PL_NAND_REFRESHED]
/-- The block-specific fields of a page of kind lc. -/
def lcFields : List Fld :=
  [LC_STATE_RAW, LC_STATUS_BUSY, LC_STATUS_HELD, LC_STATUS_RESUMED, LC_STATUS_CODE, LC_STATUS_TARGET, LC_STATUS_STEP, 
   LC_STATUS_STATUS, LC_CTRL_TARGET, LC_CTRL_GO, LC_OTP_INDEX, LC_OTP_DATA, LC_UID_LO, LC_UID_HI, LC_CHAL_CTL_LIVE, 
   LC_CHAL_CTL_NEW, LC_CHAL_INDEX, LC_CHAL_DATA, LC_TOKEN_INDEX, LC_TOKEN_DATA, LC_TOKEN_CTL, LC_TOKEN_STATUS_BUSY, 
   LC_TOKEN_STATUS_STANDING, LC_TOKEN_STATUS_STATUS, LC_ROSTER_MASK, LC_ROSTER_M_LO, LC_ROSTER_M_HI]
/-- The block-specific fields of a page of kind dbg. -/
def dbgFields : List Fld :=
  [DBG_STATUS_SESSION, DBG_STATUS_SCOPE, DBG_STATUS_PERMITTED, DBG_CTL, DBG_REMAIN, DBG_REFUSED, DBG_SESSIONS]
/-- The block-specific fields of a page of kind tm. -/
def tmFields : List Fld :=
  [TM_STATE_ROOT_ERASED, TM_STATE_SUSPENDED, TM_STATE_ALARM, TM_STATE_APPLIED_P, TM_STATE_LEVEL, TM_RESUME, 
   TM_SRC_INDEX, TM_SRC_CFG_N, TM_SRC_CFG_W_UNIT, TM_SRC_CFG_W, TM_SRC_CFG_RESPONSE, TM_SRC_STATUS_FUSED, 
   TM_SRC_STATUS_ASSERTED, TM_SRC_STATUS_CELL, TM_SRC_STATUS_LOWEST, TM_SRC_EVENTS, TM_SRC_FIRINGS, TM_FIRED_LO, 
   TM_FIRED_HI, TM_FIRED_EN_LO, TM_FIRED_EN_HI, TM_FUSES_LO, TM_FUSES_HI, TM_FUSE_CMD_CONFIRM, TM_FUSE_CMD_SOURCE, 
   TM_FUSE_STATUS_BUSY, TM_FUSE_STATUS_STATUS, TM_BACKUP_MV, TM_BACKUP_ON_EXT, TM_BACKUP_EXT_PRESENT, TM_TEMP_S2, 
   TM_TEMP_S1, TM_TEMP_S0, TM_MAG_Z, TM_MAG_Y, TM_MAG_X]
/-- The block-specific fields of a page of kind cs. -/
def csFields : List Fld :=
  [CS_STATUS_FULL, CS_STATUS_FLUSHING, CS_STATUS_SUMMARY, CS_STATUS_BUFFERED, CS_COUNT, CS_NEXT, CS_SECONDS, 
   CS_POWER_SEQ, CS_HEAD_INDEX, CS_HEAD, CS_READ_INDEX, CS_READ_WORD, CS_READ_DATA, CS_READ_STATUS_BUSY, 
   CS_READ_STATUS_VALID, CS_READ_STATUS_LINKED, CS_READ_STATUS_STATUS]
/-- The block-specific fields of a page of kind ev. -/
def evFields : List Fld :=
  [EV_HEAD_LO, EV_HEAD_HI, EV_BASE_LO, EV_BASE_HI, EV_P_HEAD_LO, EV_P_HEAD_HI, EV_REPEAT_GEN, EV_STATUS_FULL, 
   EV_STATUS_NEAR_FULL, EV_STATUS_MOUNTED, EV_STATUS_BUFFERED, EV_LOST, EV_NOTIFY, EV_FRAME, EV_ARCHIVED_LO, 
   EV_ARCHIVED_HI, EV_CLEAR, EV_READ_SEQ_LO, EV_READ_SEQ_HI, EV_READ_STATUS_BUSY, EV_READ_STATUS_VALID, 
   EV_READ_STATUS_STATUS, EV_READ_DATA]
/-- The block-specific fields of a page of kind pc. -/
def pcFields : List Fld :=
  [PC_CTL_FROZEN, PC_CTL_SNAPSHOT, PC_CTL_FREEZE, PC_SNAP_SEQ, PC_SNAP_TIME_LO, PC_SNAP_TIME_HI, PC_INDEX, PC_SEL_EN, 
   PC_SEL_LEVEL, PC_SEL_BAY_EN, PC_SEL_BAY, PC_SEL_QUAL, PC_SEL_EVENT, PC_CNT_LO, PC_CNT_HI, PC_SHD_LO, PC_SHD_HI, 
   PC_OVF_LO, PC_OVF_HI, PC_BAY_INDEX, PC_BAY_SHD]
/-- The block-specific fields of a page of kind ic. -/
def icFields : List Fld :=
  [IC_INDEX, IC_MAP_ENABLE, IC_MAP_PENDING, IC_MAP_ASSERTED, IC_MAP_VECTOR, IC_MSGS, IC_FRAMES, IC_FRAME_DROPPED, 
   IC_ASSERTED]
/-- The block-specific fields of a page of kind kt. -/
def ktFields : List Fld :=
  [KT_STATUS_CORRECTED, KT_STATUS_REENROLLED, KT_STATUS_ROOT, KT_REENROL, KT_NODES, KT_FLEET_FLOOR_FORMAT_MAX, 
   KT_FLEET_FLOOR_FLOOR, KT_CMD_ARG, KT_CMD_BAY, KT_CMD_OP, KT_CMD_STATUS_BUSY, KT_CMD_STATUS_STATUS, 
   KT_CERT_ADDR_LO, KT_CERT_ADDR_HI]
/-- The block-specific fields of a page of kind kc. -/
def kcFields : List Fld :=
  [KC_INFO_BANKS, KC_INFO_ENTRIES, KC_REPOINT_SWEEPING, KC_REPOINT_PERIOD_MS, KC_SWEEPS, KC_INTERNAL_USED, 
   KC_INTERNAL_RESERVE, KC_BAY_INDEX, KC_BAY_QUOTA, KC_BAY_USED, KC_BAY_MISSES, KC_BAY_BUSY]
/-- The block-specific fields of a page of kind vt. -/
def vtFields : List Fld :=
  [VT_AREA, VT_BAY_INDEX, VT_BAY_QUOTA, VT_BAY_USED, VT_BAY_RETAIN, VT_BUNDLE_CTL_DST_BAY, VT_BUNDLE_CTL_SRC_BAY, 
   VT_BUNDLE_CTL_OP, VT_BUNDLE_STATUS_STATE, VT_BUNDLE_STATUS_STATUS, VT_WEAR]
/-- The block-specific fields of a page of kind rn. -/
def rnFields : List Fld :=
  [RN_STATUS_FAIL, RN_STATUS_STARTED, RN_STATUS_HEALTHY, RN_RCT_FAILS, RN_APT_FAILS, RN_RESEED, RN_RESEEDS]
/-- The block-specific fields of a page of kind sc. -/
def scFields : List Fld :=
  [SC_MODE, SC_CORE_SPLIT_PAY_BORROW, SC_CORE_SPLIT_BULK_CORES, SC_CORE_SPLIT_PAY_CORES, SC_COURSE, SC_TIME_LO, 
   SC_TIME_HI, SC_SHARE_SUM, SC_QUEUED, SC_INFLIGHT, SC_PIN_INDEX, SC_PIN_DATA_PINNED, SC_PIN_DATA_VERSION, 
   SC_EXPIRED, SC_LATE, SC_PROG_ABSENT, SC_GROUP_FREE_CTX, SC_GROUP_DRAINED, SC_GROUP_DISPATCH_EN, SC_GROUP_VERSION]
/-- The block-specific fields of a page of kind cb. -/
def cbFields : List Fld :=
  [CB_INFO_VERSION, CB_INFO_CONTEXTS, CB_INFO_GROUP, CB_CTX_STATE, CB_CTX_SEL, CB_CTX_JOB_ENTRY_GEN, 
   CB_CTX_JOB_FUNCTION, CB_CTX_JOB_BAY, CB_CTX_GEN, CB_CTX_DEADLINE, CB_RETIRED, CB_ISSUE_CYCLES, CB_WAIT_CYCLES]
/-- The block-specific fields of a page of kind asp. -/
def aspFields : List Fld :=
  [AS_INFO_POOL, AS_INFO_CORE, AS_INFO_GROUP, AS_LOCK_CUR_STATE, AS_LOCK_CUR_BAY, AS_LOCK_CUR_TAG, 
   AS_LOCK_NEXT_STATE, AS_LOCK_NEXT_BAY, AS_LOCK_NEXT_TAG, AS_LOCK_CUR_GEN, AS_LOCK_NEXT_GEN, AS_SERVICE_IS_OFFLINE, 
   AS_SERVICE_FAULTED, AS_SERVICE_OFFLINE, AS_BLOCKS, AS_JOBS, AS_ABORTS, AS_WIPE_FAULTS, AS_LOCK_MISMATCH, 
   AS_NONCE_NODE]
/-- The block-specific fields of a page of kind hs. -/
def hsFields : List Fld :=
  [HS_INFO_CORE, HS_INFO_GROUP, HS_LOCK_STATE, HS_LOCK_BAY, HS_LOCK_TAG, HS_LOCK_GEN, HS_SERVICE_IS_OFFLINE, 
   HS_SERVICE_FAULTED, HS_SERVICE_OFFLINE, HS_BLOCKS, HS_JOBS, HS_WIPE_FAULTS]
/-- The block-specific fields of a page of kind vs. -/
def vsFields : List Fld :=
  [VS_INFO_CLOCK_MHZ, VS_INFO_ENGINE, VS_LOCK_STATE, VS_LOCK_BAY, VS_LOCK_TAG, VS_LOCK_GEN, VS_JOB_PHASE, 
   VS_JOB_FUNCTION, VS_SERVICE_IS_OFFLINE, VS_SERVICE_FAULTED, VS_SERVICE_OFFLINE, VS_UCODE_ADDR_LO, 
   VS_UCODE_ADDR_HI, VS_UCODE_CTL, VS_UCODE_STATUS_VALID, VS_UCODE_STATUS_STALE, VS_UCODE_STATUS_LOADING, 
   VS_UCODE_STATUS_STATUS, VS_UCODE_VERSION_RELEASE, VS_UCODE_VERSION_VERSION, VS_UCODE_FMAX, VS_JOBS, 
   VS_BUSY_CLOCKS, VS_INVALID, VS_PARSE_FAULTS, VS_ABORTS, VS_WIPE_FAULTS, VS_ECC_CORRECTED, VS_TIME_FAULTS]
/-- The block-specific fields of a page of kind pn. -/
def pnFields : List Fld :=
  [PN_INFO_FORMATS, PN_INFO_CLOCK_MHZ, PN_BAY_INDEX, PN_BAY_XLATE_DOWNGRADE, PN_BAY_XLATE_PERMIT, 
   PN_BAY_LIMITS_MAC_MIN, PN_BAY_LIMITS_PIN_MAX, PN_BAY_LIMITS_PIN_MIN, PN_BAY_GOV_BURST, PN_BAY_GOV_RATE, 
   PN_BAY_GOV_CTL_CVV, PN_BAY_GOV_CTL_EN, PN_BAY_GOV_LEVEL, PN_BAY_FAILS, PN_BAY_GOV_REFUSED, PN_STEPS, 
   PN_TIME_FAULTS]
/-- The block-specific fields of a page of kind nfp. -/
def nfpFields : List Fld :=
  [NF_PORT_STATUS_MODE, NF_PORT_STATUS_FEC_LOCK, NF_PORT_STATUS_TRAINING, NF_PORT_STATUS_LINK_UP, NF_PORT_LOSS, 
   NF_PORT_CABLE_LEN_B, NF_PORT_CABLE_LEN_A, NF_PORT_PARTNER_A_LO, NF_PORT_PARTNER_A_HI, NF_PORT_PARTNER_B_LO, 
   NF_PORT_PARTNER_B_HI, NF_PORT_VLAN_EN_B, NF_PORT_VLAN_VID_B, NF_PORT_VLAN_EN_A, NF_PORT_VLAN_VID_A, NF_PORT_RX, 
   NF_PORT_TX, NF_PORT_FEC_CORR, NF_PORT_FEC_UNCORR, NF_PORT_DROP, NF_PORT_AUTH_FAIL, NF_PORT_REPLAY]
/-- The block-specific fields of a page of kind nfc. -/
def nfcFields : List Fld :=
  [NF_LANE_MODE, NF_UDP, NF_ADDR_INDEX, NF_ADDR_CTL, NF_ADDR_IPV4, NF_ADDR_MAC_LO, NF_ADDR_MAC_HI, NF_SESSION_IDLE, 
   NF_UTC, NF_SESSIONS_HANDSHAKES, NF_SESSIONS_LIVE, NF_SESSION_KILL, NF_ANCHOR_INDEX_WORD, NF_ANCHOR_INDEX_ANCHOR, 
   NF_ANCHOR_DATA, NF_HS_DROPPED, NF_ORPHANED, NF_MGR_BIND_PID, NF_MGR_BIND_CMD, NF_MGR_BIND_STATUS_BUSY, 
   NF_MGR_BIND_STATUS_BOUND, NF_MGR_BIND_STATUS_STATUS, NF_ADDR_IPV6_0, NF_ADDR_IPV6_1, NF_ADDR_IPV6_2, 
   NF_ADDR_IPV6_3]
/-- The block-specific fields of a page of kind hf. -/
def hfFields : List Fld :=
  [HF_LINK_UP, HF_LINK_SPEED, HF_LINK_WIDTH, HF_IDE_CTL, HF_IDE_STATUS, HF_UNSECURED, HF_ORPHANED]
/-- The block-specific fields of a page of kind cd. -/
def cdFields : List Fld :=
  [CD_CTL_DEBOUNCE_MS, CD_CTL_CLASS, CD_CTL_DETECT_POL, CD_CTL_DEACTIVATE, CD_CTL_ACTIVATE, CD_CTL_REMOVE_MODE, 
   CD_STATE_SESSION, CD_STATE_CLASS_USED, CD_STATE_PRESENT, CD_STATE_STATE, CD_CLK_MAX_FD, CD_CLK_DIV, CD_PARAM_TA1, 
   CD_PARAM_IFSC, CD_PARAM_BWI, CD_PARAM_CWI, CD_PARAM_CLOCK_STOP, CD_PARAM_CRC, CD_PARAM_PPS_DONE, CD_T1_WTX_MAX_S, 
   CD_T1_RETRY, CD_PWR, CD_VCC_MV, CD_VCC_CURRENT, CD_CARD_ID_LO, CD_CARD_ID_HI, CD_CMD_ARG, CD_CMD_SLOT, CD_CMD_OP, 
   CD_CMD_STATUS_BUSY, CD_CMD_STATUS_FLAGS, CD_CMD_STATUS_TRIES, CD_CMD_STATUS_STATUS, CD_SLOT_VERSION, 
   CD_CER_CTL_BAY, CD_CER_CTL_CLASS, CD_CER_CTL_OP, CD_CER_STATUS_STATE, CD_CER_STATUS_CLASS, CD_CER_STATUS_BAY] ++
  [CD_CER_STATUS_COUNT, CD_CER_STATUS_M, CD_CER_TIME_TIMEOUT_S, CD_CER_TIME_HOLD_S, CD_ROSTER_INDEX, CD_ROSTER_DATA, 
   CD_PINBLK]
/-- The block-specific fields of a page of kind lg. -/
def lgFields : List Fld :=
  [LG_INFO_ISLAND, LG_INFO_REGIONS, LG_INFO_GATE, LG_COMMIT_PENDING, LG_COMMIT_LAST, LG_COMMIT_GO, LG_DRAIN_HELD, 
   LG_DRAIN_INFLIGHT, LG_FAULT_ADDR_LO, LG_FAULT_ADDR_HI, LG_FAULT_INFO_VALID, LG_FAULT_INFO_KIND, 
   LG_FAULT_INFO_ORIGIN, LG_FAULT_INFO_OP, LG_FAULT_INFO_REGION, LG_FAULT_INFO_POSTED, LG_FAULT_INFO_BAY, 
   LG_FAULT_INFO_SRC, LG_FAULTS, LG_IMPRECISE, LG_DRAIN_TIMEOUTS, LG_DRAIN_TIME, LG_RGN_BASE_LO, LG_ACT_BASE_LO_BASE, 
   LG_RGN_BASE_HI, LG_ACT_BASE_HI_BASE, LG_RGN_CFG_EN, LG_ACT_CFG_EN, LG_RGN_CFG_LOG2_SIZE, LG_ACT_CFG_LOG2_SIZE, 
   LG_RGN_CFG_SUB_DIS, LG_ACT_CFG_SUB_DIS, LG_RGN_PERM_BAY_MASK, LG_ACT_PERM_BAY_MASK, LG_RGN_PERM_BAY_VALUE, 
   LG_ACT_PERM_BAY_VALUE, LG_RGN_PERM_SELF_EN, LG_ACT_PERM_SELF_EN, LG_RGN_PERM_SELF_SHIFT, LG_ACT_PERM_SELF_SHIFT] ++
  [LG_RGN_PERM_DBG_XWR, LG_ACT_PERM_DBG_XWR, LG_RGN_PERM_BAY_XWR, LG_ACT_PERM_BAY_XWR, LG_RGN_PERM_SUP_XWR, 
   LG_ACT_PERM_SUP_XWR]
/-- The block-specific fields of a page of kind by. -/
def byFields : List Fld :=
  [BY_SHARE_EFFECTIVE, BY_SHARE_SHARE, BY_QUEUE, BY_QUEUE_USED, BY_CTX_HELD, BY_CTX_MAX, BY_DEADLINE, 
   BY_VS_SHARE_EFFECTIVE, BY_VS_SHARE_SHARE, BY_BULK_SHARE_EFFECTIVE, BY_BULK_SHARE_SHARE, BY_GEN_RESETS, BY_GEN_GEN, 
   BY_RESET_TIME, BY_BIND_PID, BY_BIND_CMD, BY_BIND_STATUS_BUSY, BY_BIND_STATUS_BOUND, BY_BIND_STATUS_STATUS, 
   BY_BIND_COUNT_FREE, BY_BIND_COUNT_BOUND, BY_CNT]
/-- The block-specific fields of a page of kind bw. -/
def bwFields : List Fld :=
  [BW_STATUS_LENDING, BW_STATUS_CNT_VISIBLE, BW_STATUS_RESETTING, BW_STATUS_ENABLED, BW_STATUS_GEN, BW_RESET, 
   BW_SHARE_VS, BW_SHARE_COURSE, BW_QUEUE_DEPTH, BW_QUEUE_USED, BW_GOV_LEVEL, BW_GOV_FAILS, BW_EV_HEAD, BW_EV_TAIL, 
   BW_EV_REPEAT_GEN, BW_EV_OVERFLOW, BW_CNT]
/-- The block-specific fields of a page of kind hq. -/
def hqFields : List Fld :=
  [HQ_REQ_BASE_LO, HQ_REQ_BASE_HI, HQ_CPL_BASE_LO, HQ_CPL_BASE_HI, HQ_CFG_EN, HQ_CFG_KIND, HQ_CFG_LOG2_SIZE, 
   HQ_CFG_MOD_COUNT, HQ_CFG_MOD_US, HQ_PASID, HQ_HEAD, HQ_STATUS_HALTED, HQ_STATUS_RUNNING, HQ_STATUS_PHASE, 
   HQ_STATUS_CPL_TAIL]
/-- The block-specific fields of a page of kind hqd. -/
def hqdFields : List Fld :=
  [HQ_DOORBELL, HQ_CPL_DOORBELL]
/-- The block-specific fields of a page of kind hqv. -/
def hqvFields : List Fld :=
  [HQ_VECTOR, HQ_VEC_MASK]

end Sys2Proof.Machine.R
end

