-- ==== Sys2Proof/Machine/Ops.lean ====
section
/-! DEFINITION. The named operations every meaning is written in: reading and writing a register field, reporting an
error, raising an interrupt bit, recording a Mark, placing an event in a bay's ring, counting, drawing a free value and
sending. -/

namespace Sys2Proof.Machine

/-! ## Small arithmetic -/

/-- A number's lowest n bits. -/
def low (n x : Nat) : Nat := x % 2 ^ n

/-- Bits [hi:lo] of a number. -/
def bits (x hi lo : Nat) : Nat := x / 2 ^ lo % 2 ^ (hi + 1 - lo)

/-- Bit n of a number. -/
def bitOf (x n : Nat) : Bool := x.testBit n

/-- A Bool as a register bit. -/
def b2n (b : Bool) : Nat := if b then 1 else 0

/-- The highest value of a 32-bit saturating counter (R7 and the counters' tables). -/
def max32 : Nat := 0xFFFFFFFF

/-! ## Register fields (R7, R39) -/

/-- The default filter and response of a tamper source (R411): N, W_UNIT (0 µs, 1 ms, 2 s), W, RESPONSE. Where N is 1
the table gives no window, and W is 1 µs (log entry 17). -/
def tmSourceReset (s : Nat) : Nat × Nat × Nat × Nat :=
  if s ≤ 5 then (1, 0, 1, 4)
  else if s ≤ 9 then (2, 1, 1, 3)
  else if s ≤ 15 then (3, 1, 5, if s % 2 = 0 then 4 else 2)
  else if s = 16 ∨ s = 18 then (1, 0, 1, 2)
  else if s = 17 ∨ s = 19 then (1, 0, 1, 0)
  else if s ≤ 27 then (1, 0, 1, 3)
  else if s ≤ 29 then (1, 0, 1, 2)
  else if s = 30 then (2, 2, 1, 1)
  else if s = 31 then (4, 1, 1, 1)
  else if s ≤ 33 then (2, 1, 1, 4)
  else if s ≤ 36 then (3, 1, 10, 3)
  else if s = 37 then (1, 0, 1, 1)
  else if s = 38 then (1, 0, 1, 4)
  else if s = 39 then (16, 2, 1, 1)
  else if s = 40 then (1, 0, 1, 4)
  else (1, 0, 1, 2)

/-- The value repetition k of a field holds at reset: the table's value, but for the fields whose tables give one value
for each index: IC_MAP.VECTOR is the IRQ number (R527) and TM_SRC_CFG is the source's row of R411. -/
def Fld.resetAt (f : Fld) (k : Nat) : Nat :=
  match f.blk with
  | .ic => if f.off = 0x044 ∧ f.lo = 0 then k else f.reset
  | .tm =>
    if f.off = 0x050 then
      let r := tmSourceReset k
      if f.lo = 24 then r.1 else if f.lo = 22 then r.2.1 else if f.lo = 8 then r.2.2.1 else r.2.2.2
    else f.reset
  | _ => f.reset

/-- The value a register field holds, as wide as the field (R7): page instance, repetition. -/
def Dev.get (d : Dev) (f : Fld) (inst : Nat := 0) (k : Nat := 0) : Nat :=
  (Tab.look d.regs.vals (f.key inst k)).getD (f.resetAt k) % f.bound

/-- A one-bit field is 1. -/
def Dev.on (d : Dev) (f : Fld) (inst : Nat := 0) (k : Nat := 0) : Bool := d.get f inst k == 1

/-- Write a register field, cut to its width (R7). -/
def Dev.set (d : Dev) (f : Fld) (v : Nat) (inst : Nat := 0) (k : Nat := 0) : Dev :=
  { d with regs := { d.regs with vals := Tab.set d.regs.vals (f.key inst k) (f.resetAt k) (v % f.bound) } }

/-- Add to a counter that saturates at the top of its field. -/
def Dev.bumpSat (d : Dev) (f : Fld) (inst : Nat := 0) (k : Nat := 0) (n : Nat := 1) : Dev :=
  d.set f (min (f.bound - 1) (d.get f inst k + n)) inst k

/-- Add to a counter that wraps. -/
def Dev.bumpWrap (d : Dev) (f : Fld) (inst : Nat := 0) (k : Nat := 0) (n : Nat := 1) : Dev :=
  d.set f (d.get f inst k + n) inst k

/-- The value in effect of a staged field (R42, R308). -/
def Dev.eff (d : Dev) (f : Fld) (inst : Nat := 0) (k : Nat := 0) : Nat :=
  (Tab.look d.regs.eff (f.key inst k)).getD (f.resetAt k) % f.bound

/-- Put a value in effect. -/
def Dev.setEff (d : Dev) (f : Fld) (v : Nat) (inst : Nat := 0) (k : Nat := 0) : Dev :=
  { d with regs := { d.regs with eff := Tab.set d.regs.eff (f.key inst k) (f.resetAt k) (v % f.bound) } }

/-- Write a staged field: the register shows the value at once, and it takes effect at the next course boundary. -/
def Dev.stage (d : Dev) (f : Fld) (v : Nat) (inst : Nat := 0) (k : Nat := 0) : Dev :=
  let d1 := d.set f v inst k
  { d1 with regs := { d1.regs with staged := (f.key inst k) :: d1.regs.staged.filter (· ≠ f.key inst k) } }

/-- The page index a field key belongs to. -/
def keyPage (key : Nat) : Nat := key / 0x1000 / 32 / 0x1000

/-- Send something (ch. 09, 10, 12, 17). -/
def Dev.send (d : Dev) (o : Output) : Dev := { d with outbox := d.outbox ++ [o] }

/-- Draw n free bytes (R211, log entry 6). -/
def Dev.draw (d : Dev) (n : Nat) : Bytes × Dev :=
  ((List.range n).map (fun i => Config.freeByte (d.free + i)), { d with free := d.free + n })

/-! ## The life-cycle state (R441, R450) -/

/-- A word of the life-cycle area of OTP (R449). -/
def Perm.otpWord (p : Perm) (w : Nat) : Nat := Tab.get p.otp w 0

/-- The highest state code whose group, and every group below it, is fully programmed (R441, R450). -/
def stateOfRaw (raw : Nat) : Nat :=
  ((List.range 7).takeWhile (fun n => bits raw (4 * n + 3) (4 * n) == 15)).length

/-- The life-cycle state: 0 BLANK, 1 TEST, 2 PROVISIONED, 3 SEALED, 4 OPERATIONAL, 5 DECOMMISSIONED, 6 ANALYSIS,
7 SCRAP (R441). -/
def Perm.lcState (p : Perm) : Nat := stateOfRaw (p.otpWord 0)

/-! ## Counters (R542, R543) -/

/-- An occurrence of a counted event goes to its island's accumulator; while the counters are frozen it is not counted
(R543, R544). -/
def Dev.occur (d : Dev) (code : Nat) (bay : Option Nat := none) (qual : Nat := 0x1F) (weight : Nat := 1) : Dev :=
  if d.on R.PC_CTL_FROZEN then d
  else { d with log := { d.log with acc := d.log.acc ++ [⟨code, bay, qual, weight, d.sched.time, false⟩] } }

/-- A condition holds in this scheduler cycle: a level counter counts the cycle (R542). -/
def Dev.holds (d : Dev) (code : Nat) (bay : Option Nat) (qual : Nat) : Dev :=
  if d.on R.PC_CTL_FROZEN then d
  else { d with log := { d.log with acc := d.log.acc ++ [⟨code, bay, qual, 1, d.sched.time, true⟩] } }

/-- Raise a bay's fixed counter k, which a freeze stops (R339, R544). -/
def Dev.countBay (d : Dev) (bay k : Nat) (n : Nat := 1) : Dev :=
  if d.on R.PC_CTL_FROZEN then d else d.bumpWrap R.BY_CNT bay k n

/-! ## Interrupts (R40, R525 to R530) -/

/-- INT_PENDING of a page (R40). -/
def Dev.pendingBits (d : Dev) (b : Blk) (inst : Nat) : Nat :=
  d.get (R.INT_RAW b) inst &&& d.get (R.INT_ENABLE b) inst

/-- The pages, and the bits of their INT_PENDING, that feed an IRQ (R525 and the chapters' own tables). -/
def irqFeeds (i : Nat) : List (Blk × Nat × Nat) :=
  if i < 256 then [(.by, i, max32), (.bw, i, max32), (.hq, i, max32)]
  else if i < 272 then [(.vs, i - 256, max32)]
  else if i < 336 then [(.cb, i - 272, max32)]
  else if i < 344 then [(.nfp, i - 336, max32)]
  else if i = 344 then [(.hf, 0, 0x00C)]
  else if i = 345 then [(.hf, 0, 0x0F0)]
  else if i = 346 then [(.hf, 0, 0x100)]
  else if i = 347 then [(.hf, 0, 0x600)]
  else if i < 356 then
    let u := (i - 348) / 4
    let m := match (i - 348) % 4 with
      | 0 => 0x00C | 1 => 0x010 | 2 => 0x020 | _ => 0x0C0
    (.cd, u, m) :: (if i = 350 then [(.cd, 0, 0x700)] else [])
  else if i < 398 then []
  else if i = 398 then [(.lc, 0, 0x04)]
  else if i = 399 then [(.lc, 0, 0x28)]
  else if i = 400 then [(.lc, 0, 0x10)]
  else if i = 401 then [(.dbg, 0, 0x0C)]
  else if i < 442 then [(.lg, i - 402, max32)]
  else if i = 442 then [(.ks, 0, 0x080)]
  else if i = 443 then [(.ks, 0, 0x100)]
  else if i = 444 then [(.ks, 0, 0x020), (.ks, 1, 0x020)]
  else if i = 445 then [(.ks, 0, 0x040), (.ks, 1, 0x040)]
  else if i = 446 then [(.ks, 0, 0x004)]
  else if i = 447 then [(.ks, 1, 0x004)]
  else if i = 448 then [(.ks, 0, 0x008), (.ks, 1, 0x008)]
  else if i = 449 then [(.ks, 0, 0x010), (.ks, 1, 0x010)]
  else if i < 470 then [(.pw, 0, 2 ^ (i - 448))]
  else if i < 488 then [(.ck, 0, 2 ^ (i - 468))]
  else if i < 496 then [(.pl, 0, 2 ^ (i - 486))]
  else if i = 496 then [(.ev, 0, 0x04)]
  else if i = 497 then [(.ev, 0, 0x08)]
  else if i = 498 then [(.ev, 0, 0x10)]
  else if i = 499 then [(.ev, 0, 0x60)]
  else []

/-- An IRQ is asserted while a bit that feeds it is pending (R525); a tamper source's IRQ is asserted while its TM_FIRED
bit and its enable are set (R438). -/
def Dev.irqAsserted (d : Dev) (i : Nat) : Bool :=
  if 356 ≤ i ∧ i < 398 then
    let s := i - 356
    if s < 32 then bitOf (d.get R.TM_FIRED_LO &&& d.get R.TM_FIRED_EN_LO) s
    else bitOf (d.get R.TM_FIRED_HI &&& d.get R.TM_FIRED_EN_HI) (s - 32)
  else (irqFeeds i).any (fun p => (d.pendingBits p.1 p.2.1 &&& p.2.2) ≠ 0)

/-- The IRQs that a page feeds (R525). -/
def irqsOf (b : Blk) (inst : Nat) : List Nat :=
  match b with
  | .by | .bw | .hq => if inst < 256 then [inst] else [345, 347]
  | .vs => [256 + inst]
  | .cb => [272 + inst]
  | .nfp => [336 + inst]
  | .hf => [344, 345, 346, 347]
  | .cd => [348 + 4 * inst, 349 + 4 * inst, 350 + 4 * inst, 351 + 4 * inst]
  | .lc => [398, 399, 400]
  | .dbg => [401]
  | .lg => [402 + inst]
  | .ks => [442, 443, 444, 445, 446, 447, 448, 449]
  | .pw => (List.range 20).map (· + 450)
  | .ck => (List.range 18).map (· + 470)
  | .pl => (List.range 8).map (· + 488)
  | .ev => [496, 497, 498, 499]
  | _ => []

/-- The pages that have no IRQ of their own, whose events make Mark records (R526). -/
def Blk.noIrq : Blk → Bool
  | .module | .sc | .pn | .kt | .kc | .vt | .rn | .asp | .hs | .nfc | .tm | .cs | .ic | .pc => true
  | _ => false

/-- Messages can be sent: the link is up, PERST# is not asserted and MSI-X is enabled (R530). -/
def Dev.msiReady (d : Dev) : Bool :=
  d.on R.HF_LINK_UP && !d.face.perst && d.log.msixEnable

/-- A vector is masked: by the function mask, by its own mask bit, which is 1 after reset, or, for the vector of a bay's
IRQ, by HQ_VEC_MASK (R527). -/
def Dev.vecMasked (d : Dev) (irq vec : Nat) : Bool :=
  d.log.funcMask || !d.log.vecUnmasked.contains vec || (irq < 256 && d.on R.HQ_VEC_MASK irq)

/-- Send the message of a vector: it covers every marking held for that vector by an enabled IRQ; IC_MSGS counts it (R528,
R548). -/
def Dev.sendVector (d : Dev) (vec : Nat) : Dev :=
  let kept := d.log.irqHeld.filter (fun i => d.get R.IC_MAP_VECTOR 0 i ≠ vec || !d.on R.IC_MAP_ENABLE 0 i)
  (({ d with log := { d.log with irqHeld := kept } }).bumpSat R.IC_MSGS).send (.msi vec)

/-- Send the message of a vector that is pending, where it can be sent (R528 to R530): the host face is up, and an enabled
IRQ holds a marking for it that no mask stops. -/
def Dev.flushVec (d : Dev) (vec : Nat) : Dev :=
  if d.msiReady && d.log.irqHeld.any (fun i =>
      d.get R.IC_MAP_VECTOR 0 i == vec && d.on R.IC_MAP_ENABLE 0 i && !d.vecMasked i vec) then d.sendVector vec
  else d

/-- Send every message that can be sent (R530). -/
def Dev.flushAll (d : Dev) : Dev :=
  ((d.log.irqHeld.map (fun i => d.get R.IC_MAP_VECTOR 0 i)).dedup).foldl (fun a v => a.flushVec v) d

/-- Mark the vector of an enabled IRQ (R528): the message goes at once where it can be sent, and the marking is held where
the vector is masked or the host face cannot send (R529, R530). -/
def Dev.markIrq (d : Dev) (irq : Nat) : Dev :=
  let vec := d.get R.IC_MAP_VECTOR 0 irq
  if d.on R.IC_MAP_ENABLE 0 irq then
    if d.msiReady && !d.vecMasked irq vec then d.sendVector vec
    else { d with log := { d.log with irqHeld := irq :: d.log.irqHeld.filter (· ≠ irq) } }
  else d

/-- After a change of INT_RAW or INT_ENABLE: mark every IRQ of the list that went from deasserted to asserted (R528). -/
def Dev.markRisen (before d : Dev) (irqs : List Nat) : Dev :=
  irqs.foldl (fun a i => if a.irqAsserted i && !before.irqAsserted i then a.markIrq i else a) d

/-- Latch a block event into INT_RAW, whether or not it is enabled (R40). -/
def Dev.raiseInt (d : Dev) (b : Blk) (inst : Nat) (bit : Nat) : Dev :=
  let d1 := d.set (R.INT_RAW b) (d.get (R.INT_RAW b) inst ||| 2 ^ bit) inst
  d.markRisen d1 (irqsOf b inst)

/-! ## Mark records (R533 to R538) -/

/-- The records a full main area holds (R538). -/
def markAreaSize : Nat := 67108864

/-- The slot of the Plinth area that holds the record with a sequence number (R536). -/
def plinthSlot (s : Nat) : Nat := if s < 256 then s else 256 + (s - 256) % 256

/-- Two records carry the same event: code, source and parameters (R534). -/
def Mark.same (a b : Mark) : Bool :=
  a.event == b.event && a.island == b.island && a.unit == b.unit && a.p0 == b.p0 && a.p1 == b.p1 && a.p2 == b.p2 &&
  a.p3 == b.p3

/-- The newest record of the main area, in the buffer or durable. -/
def Dev.newestMain (d : Dev) : Option Mark :=
  (d.log.markBuf.getLast?).orElse (fun _ => d.log.markMain.getLast?)

/-- Queue an item for an events session, at most 1,024 unsent; a further item is dropped, counted and flagged (R532). -/
def Session.queueItem (s : Session) (i : EvItem) : Session × Bool :=
  if s.unsent.length < 1024 then ({ s with unsent := s.unsent ++ [i] }, false) else ({ s with dropped := true }, true)

/-- Queue an item for every events session that a test selects (R531). -/
def Dev.queueItems (d : Dev) (sel : Session → Bool) (i : EvItem) : Dev :=
  let r := d.face.sessions.map (fun e =>
    if e.2.events && sel e.2 then ((e.1, (e.2.queueItem i).1), (e.2.queueItem i).2) else (e, false))
  let d1 := { d with face := { d.face with sessions := r.map (·.1) } }
  let n := (r.filter (·.2)).length
  if n = 0 then d1 else d1.bumpSat R.IC_FRAME_DROPPED 0 0 n

/-- A new record sets EV INT_RAW.RECORD where EV_NOTIFY selects its island, and goes to the manager's events sessions
where EV_FRAME does (R531, R549). -/
def Dev.notifyMark (d : Dev) (m : Mark) (plinth : Bool) : Dev :=
  let d1 := if bitOf (d.get R.EV_NOTIFY) m.island.code then d.raiseInt .ev 0 2 else d
  if bitOf (d1.get R.EV_FRAME) m.island.code then
    d1.queueItems (fun s => s.target == 256) (if plinth then .plinth m else .main m)
  else d1

/-- Raise the repeat count of the newest main record (R534). -/
def Dev.repeatMain (d : Dev) : Dev :=
  let up (m : Mark) : Mark := { m with rep := m.rep + 1 }
  let bumpLast (l : List Mark) : List Mark := l.dropLast ++ (l.getLast?.map up).toList
  let d1 := match d.log.markBuf with
    | [] => { d with log := { d.log with markMain := bumpLast d.log.markMain } }
    | l => { d with log := { d.log with markBuf := bumpLast l } }
  d1.bumpWrap R.EV_REPEAT_GEN

/-- Add a new record to the Plinth area, in its slot (R536). -/
def Dev.markPlinthNew (d : Dev) (m : Mark) : Dev :=
  let r : Mark := { m with seq := d.log.plinthNext }
  let t := Tab.put d.log.plinthMarks (plinthSlot d.log.plinthNext) r
  ({ d with log := { d.log with plinthMarks := t, plinthNext := d.log.plinthNext + 1 } }).notifyMark r true

/-- Record an event in the Plinth area: a repeat of the newest record, or a new record in its slot (R534, R536). -/
def Dev.markPlinth (d : Dev) (m : Mark) : Dev :=
  let newest := if d.log.plinthNext = 0 then none else Tab.look d.log.plinthMarks (plinthSlot (d.log.plinthNext - 1))
  match newest with
  | some n =>
    if n.same m && n.rep < 65535 then
      let t := Tab.put d.log.plinthMarks (plinthSlot (d.log.plinthNext - 1)) { n with rep := n.rep + 1 }
      ({ d with log := { d.log with plinthMarks := t } }).bumpWrap R.EV_REPEAT_GEN
    else d.markPlinthNew m
  | none => d.markPlinthNew m

/-- Add a new record to the main area's buffer; the last slots of the area set NEAR_FULL and FULL (R537, R538). -/
def Dev.markMainNew (d : Dev) (m : Mark) : Dev :=
  let r : Mark := { m with seq := d.log.markNext }
  let d1 : Dev := { d with log := { d.log with markBuf := d.log.markBuf ++ [r], markNext := d.log.markNext + 1 } }
  let slot := d.log.markNext - d.log.markBase
  let d2 := if slot = 62914559 then (d1.set R.EV_STATUS_NEAR_FULL 1).raiseInt .ev 0 3 else d1
  let d3 := if slot = markAreaSize - 1 then (d2.set R.EV_STATUS_FULL 1).raiseInt .ev 0 4 else d2
  d3.notifyMark r false

/-- The main area cannot take a record: EV_LOST rises and IRQ 499 is raised once in an episode (R538). -/
def Dev.markDiverted (d : Dev) (m : Mark) : Dev :=
  let d1 := d.bumpSat R.EV_LOST
  let d2 := if d1.log.lostEpisode then d1 else ({ d1 with log := { d1.log with lostEpisode := true } }).raiseInt .ev 0 5
  d2.markPlinth m

/-- Record an event once (R533 to R538): start events always, and every event while the main area is not mounted, go to the
Plinth area; an equal event raises the newest record's repeat count; what a full main area or a full buffer cannot take
goes to the Plinth area. -/
def Dev.markOnce (d : Dev) (event : Event) (island : Island) (unit : Nat := 0) (p0 p1 p2 p3 : Nat := 0) : Dev :=
  let m : Mark := ⟨0, event, 0, island, unit, p0 % 2 ^ 32, p1 % 2 ^ 32, p2 % 2 ^ 32, p3 % 2 ^ 32⟩
  if event = .startAttempt ∨ event = .startDone ∨ !d.on R.EV_STATUS_MOUNTED then d.markPlinth m
  else
    match d.newestMain with
    | some n =>
      if n.same m && n.rep < 65535 then d.repeatMain
      else if d.on R.EV_STATUS_FULL || d.log.markBuf.length ≥ 8191 then d.markDiverted m
      else d.markMainNew m
    | none => if d.on R.EV_STATUS_FULL || d.log.markBuf.length ≥ 8191 then d.markDiverted m else d.markMainNew m

/-- The record of FRAME_DROPPED, an event of the IC page (R526, R548, R568). -/
def Dev.frameDropped (d : Dev) : Dev := (d.raiseInt .ic 0 2).markOnce .blockEvent Blk.ic.island 0 (Blk.ic.page 0) 2

/-- Record an event (R533 to R538). Where its own item is dropped from a session's queue, FRAME_DROPPED is recorded too;
a drop of that record's item is its repeat (R532, R534). -/
def Dev.mark (d : Dev) (event : Event) (island : Island) (unit : Nat := 0) (p0 p1 p2 p3 : Nat := 0) : Dev :=
  let n (x : Dev) : Nat := x.get R.IC_FRAME_DROPPED
  let d1 := d.markOnce event island unit p0 p1 p2 p3
  if n d1 = n d then d1
  else
    let d2 := d1.frameDropped
    if n d2 = n d1 then d2 else d2.frameDropped

/-! ## Block events and errors (R39, R526, R568) -/

/-- ERR_INFO as one word (R39). -/
def Dev.errInfo (d : Dev) (b : Blk) (inst : Nat) : Nat :=
  d.get (R.ERR_ISLAND b) inst * 2 ^ 24 + d.get (R.ERR_COUNT b) inst * 2 ^ 16 + d.get (R.ERR_CODE b) inst

/-- Latch a block event; in a page without an IRQ of its own it also makes a Mark record EV_BLOCK_EVENT (R568). -/
def Dev.blockEvent (d : Dev) (b : Blk) (inst : Nat) (bit : Nat) : Dev :=
  let d1 := d.raiseInt b inst bit
  if b.noIrq then
    d1.mark .blockEvent b.island inst (b.page inst) bit (if bit = 0 then d1.errInfo b inst else 0)
  else d1

/-- A refused access: ERR_INFO takes the status and the requester's island and counts it, and INT_RAW.ERR is set (R39). -/
def Dev.err (d : Dev) (b : Blk) (inst : Nat) (req : Requester) (st : Status) : Dev :=
  let d1 := d.set (R.ERR_ISLAND b) req.island.code inst
  let d2 := d1.bumpSat (R.ERR_COUNT b) inst
  (d2.set (R.ERR_CODE b) st.code inst).blockEvent b inst 0

/-! ## Bay event rings (R336 to R338, R342) -/

/-- The entries of a bay's ring that are unread: head minus tail, modulo 2^32 (R338). -/
def Dev.unread (d : Dev) (bay : Nat) : Nat :=
  (d.get R.BW_EV_HEAD bay + 2 ^ 32 - d.get R.BW_EV_TAIL bay) % 2 ^ 32

/-- Place an event in a bay's ring (R336, R337): a repeat of the newest unread entry raises its repeat count; a full ring
drops the event, and the first drop of an episode is recorded; otherwise a new entry is written and the bay's interrupt
raised. -/
def Dev.ringEvent (d : Dev) (bay : Nat) (event : Event) (p0 p1 : Nat := 0) : Dev :=
  let ring := Tab.get d.log.rings bay []
  let add (d : Dev) : Dev :=
    let e : RingEntry := ⟨d.get R.BW_EV_HEAD bay, event, 0, p0 % 2 ^ 32, p1 % 2 ^ 32⟩
    let kept := if ring.length < 1024 then ring else ring.drop 1
    let d1 : Dev := { d with log := { d.log with
      rings := Tab.put d.log.rings bay (kept ++ [e]), ringOverflow := d.log.ringOverflow.filter (· ≠ bay) } }
    let d2 := (d1.bumpWrap R.BW_EV_HEAD bay).raiseInt .bw bay 2
    let d3 := d2.queueItems (fun s => s.target == bay) (.ring e)
    if d3.get R.IC_FRAME_DROPPED = d2.get R.IC_FRAME_DROPPED then d3 else d3.blockEvent .ic 0 2
  let addOrDrop (d : Dev) : Dev :=
    if d.unread bay < 1024 then add d
    else
      let d1 := (d.bumpSat R.BW_EV_OVERFLOW bay).raiseInt .by bay 5
      if d1.log.ringOverflow.contains bay then d1
      else ({ d1 with log := { d1.log with ringOverflow := bay :: d1.log.ringOverflow } }).mark .bayRingFull .management
        bay (d1.get R.BW_EV_HEAD bay) (d1.get R.BW_EV_TAIL bay)
  match ring.getLast? with
  | some n =>
    if n.event == event && n.p0 == p0 % 2 ^ 32 && n.p1 == p1 % 2 ^ 32 && d.unread bay > 0 && n.rep < 65535 then
      let t := Tab.put d.log.rings bay (ring.dropLast ++ [{ n with rep := n.rep + 1 }])
      ({ d with log := { d.log with rings := t } }).bumpWrap R.BW_EV_REPEAT_GEN bay
    else addOrDrop d
  | none => addOrDrop d

end Sys2Proof.Machine
end

