-- ==== Sys2Proof/Machine/Wires.lean ====
section
/-! DEFINITION. Crossings and clocks (ch. 01): what a crossing holds, which page owns it, its records and interrupts, its
refusals while it is stalled or fenced. -/

namespace Sys2Proof.Machine

/-! ## Ownership (R33) -/

/-- The page that owns the crossings at the Mortar port that serves a page: the lowest page of that port (R33). Ashlar's
ports serve 16 cipher cores and two hash cores each, Corbel's four sequencers each (R12, R33). -/
def portPage (b : Blk) (inst : Nat) : Option (Blk × Nat) :=
  match b with
  | .asp => some (.asp, inst / 16 * 16)
  | .hs => some (.asp, inst / 2 * 16)
  | .cb => some (.cb, inst / 4 * 4)
  | .module | .ks | .pw | .ck | .pl | .lc | .dbg | .ev | .pc | .ic => some (.module, 0)
  | .tm | .cs => some (.tm, 0)
  | .kt | .kc | .vt | .rn | .pn => some (.kt, 0)
  | .cd => some (.cd, 0)
  | .nfc => some (.nfp, 0)
  | .hq | .hqd | .hqv => some (.hf, 0)
  | .lg => none
  | _ => some (b, inst)

/-- The clock domain of a page's registers (R14). The gates run in the Mortar's own (R461). -/
def pageClock (b : Blk) : Nat :=
  match b with
  | .asp | .hs => 4
  | .vs => 5
  | .sc | .cb | .by | .bw => 3
  | .kt | .kc | .vt | .rn | .pn => 6
  | .nfp | .nfc => 11
  | .hf | .hq | .hqd | .hqv => 13
  | .cd => 14
  | .tm | .cs => 16
  | .lg => 7
  | _ => 18

/-- The crossing that an access from the Mortar to a page passes; none for the gates' own pages. -/
def pageXing (b : Blk) (inst dst : Nat) : Option Xing :=
  (portPage b inst).map (fun o => ⟨7, pageClock b, dst, some o⟩)

/-- The power domains behind the crossings that a page owns (R18). A crossing without a page into a Keystone's clock leads
into that Keystone's. -/
def xingDomains (x : Xing) : List Nat :=
  match x.owner with
  | some (.asp, c) => [18 + c / 16]
  | some (.cb, s) => [2 + s / 4]
  | some (.vs, e) => [26 + e]
  | some (.kt, _) => [42]
  | some (.nfp, i) => [60 + i]
  | some (.hf, _) => [68]
  | some (.cd, _) => [69, 70]
  | some (.tm, _) => [72]
  | none => if x.rx = 1 then [0] else if x.rx = 2 then [1] else []
  | _ => []

/-! ## What a crossing holds -/

/-- What a crossing holds. -/
def Dev.xing (d : Dev) (x : Xing) : XingState :=
  (d.wires.xings.find? (fun s => s.xing == x)).getD ⟨x, false, 0, [], 0⟩

/-- Put in place what a crossing holds; one that holds nothing is not listed. -/
def Dev.setXing (d : Dev) (s : XingState) : Dev :=
  let rest := d.wires.xings.filter (fun o => o.xing ≠ s.xing)
  let idle := s = ⟨s.xing, false, 0, [], 0⟩
  { d with wires := { d.wires with xings := if idle then rest else rest ++ [s] } }

/-- A crossing is fenced: every domain behind it is (R34). -/
def Dev.fenced (d : Dev) (x : Xing) : Bool :=
  !(xingDomains x).isEmpty && (xingDomains x).all (fun i => d.on R.PW_DOM_STATUS_FENCED 0 i)

/-- A crossing that a page owns is stalled: STATUS.XING_STALLED (R33). -/
def Dev.pageStalled (d : Dev) (b : Blk) (inst : Nat) : Bool :=
  d.wires.xings.any (fun s => s.xing.owner == some (b, inst) && s.stalled)

/-- The crossings that a page owns are fenced: STATUS.FENCED (R34). Only a port's lowest page owns crossings (R33). -/
def Dev.pageFenced (d : Dev) (b : Blk) (inst : Nat) : Bool :=
  portPage b inst == some (b, inst) && d.fenced ⟨7, pageClock b, 0, some (b, inst)⟩

/-- A crossing that a page owns is stalled or fenced (R33, R34). -/
def Dev.blocked (d : Dev) (b : Blk) (inst : Nat) : Bool := d.pageStalled b inst || d.pageFenced b inst

/-- A clock domain is stopped. -/
def Dev.stopped (d : Dev) (dom : Nat) : Bool := d.wires.stoppedClocks.contains dom

/-- The tamper demand crossing, from the tamper front-end into the Plinth (R35, R426). -/
def demandXing : Xing := ⟨16, 15, 0xFFFF, none⟩

/-- The tamper demand crossing is stalled. -/
def Dev.demandStalled (d : Dev) : Bool := (d.xing demandXing).stalled

/-! ## Records, interrupts and refusals (R29 to R34, R567) -/

/-- Record an event of a crossing: its source is its owning page; one without a page is recorded as the Mortar's. -/
def Dev.xingMark (d : Dev) (x : Xing) (ev : Event) (p3 : Nat := 0) : Dev :=
  match x.owner with
  | some (b, i) => d.mark ev b.island i x.rx x.tx x.port p3
  | none => d.mark ev .mortar 0 x.rx x.tx x.port p3

/-- INT_RAW.XING of the owning page, where the crossing has one (R39). -/
def Dev.xingInt (d : Dev) (x : Xing) : Dev :=
  match x.owner with
  | some (b, i) => d.raiseInt b i 1
  | none => d

/-- The interrupt of a clock domain (R17, R523). -/
def Dev.clockInt (d : Dev) (dom : Nat) : Dev := d.raiseInt .ck 0 (dom + 1)

/-- A transaction toward a fenced or a stalled crossing is refused: EV_XING_FENCED, or a repeat of the timeout's record,
which is counted (R33, R34). -/
def Dev.xingRefuse (d : Dev) (x : Xing) : Dev :=
  let s := d.xing x
  if d.fenced x then d.xingMark x .xingFenced
  else (d.setXing { s with refusals := min max32 (s.refusals + 1) }).xingMark x .xingTimeout

/-- A crossing times out: it stalls, EV_XING_TIMEOUT is recorded, and the interrupt of the far clock domain is raised (R31,
R33). -/
def Dev.xingStall (d : Dev) (x : Xing) : Dev :=
  let d1 := (d.setXing { d.xing x with stalled := true, refusals := 0 }).xingMark x .xingTimeout
  (d1.xingInt x).clockInt x.rx

/-- A stalled crossing realigns, and its pending pulses are sent (R33). -/
def Dev.xingResume (d : Dev) (x : Xing) : Dev :=
  let s := d.xing x
  (d.setXing { s with stalled := false, refusals := 0, pulses := 0 }).xingMark x .xingResumed s.refusals

/-- A pulse arrives at an event crossing. It goes to the far side at once where that answers; else the pulse in flight and
15 more are held, and a further one is lost (R30). -/
def Dev.xingPulse (d : Dev) (x : Xing) : Dev :=
  let s := d.xing x
  if d.fenced x then d.xingRefuse x
  else if !s.stalled ∧ !d.stopped x.rx then d
  else if s.pulses < 16 then d.setXing { s with pulses := s.pulses + 1 }
  else ((d.xingMark x .xingOverrun).xingInt x).clockInt x.rx

end Sys2Proof.Machine
end

