-- ==== Sys2Proof/Machine/Cores.lean ====
section
/-! DEFINITION. The cipher and hash cores of Ashlar (ch. 06): what they hold, the pools, and the core that a micro-operation or
a record takes. -/

namespace Sys2Proof.Machine

/-! ## Cores (R229 to R234, R259, R570) -/

/-- A cipher core. -/
def Dev.core (d : Dev) (c : Nat) : Core := Tab.get d.eng.cores c Core.idle

/-- Write a cipher core. -/
def Dev.setCore (d : Dev) (c : Nat) (x : Core) : Dev :=
  { d with eng := { d.eng with cores := Tab.set d.eng.cores c Core.idle x } }

/-- A hash core; it uses the first entry and bank only (R259). -/
def Dev.hash (d : Dev) (h : Nat) : Core := Tab.get d.eng.hashes h Core.idle

/-- Write a hash core. -/
def Dev.setHash (d : Dev) (h : Nat) (x : Core) : Dev :=
  { d with eng := { d.eng with hashes := Tab.set d.eng.hashes h Core.idle x } }

/-- Both lock entries are free (R63). -/
def Core.isIdle (x : Core) : Bool := x.cur.state == 0 && x.next.state == 0

/-- The place of a core in the order in which the payment pool is filled: position 15 of every group, then 14, and so on
(R229). -/
def payRank (c : Nat) : Nat := (15 - c % 16) * 8 + c / 16

/-- A core belongs to the payment pool in effect; one that still holds a bulk record joins when the record ends (R82,
R229). -/
def Dev.inPayPool (d : Dev) (c : Nat) : Bool :=
  decide (payRank c < d.eff R.SC_CORE_SPLIT_PAY_CORES) && (d.core c).cur.state ≠ 2 && (d.core c).next.state ≠ 2

/-- The claim unit may claim a core: in service, not faulted, its group's crossing and domain up (R230, R234, R249). -/
def Dev.coreUsable (d : Dev) (c : Nat) : Bool :=
  !d.on R.AS_SERVICE_OFFLINE c && !d.on R.AS_SERVICE_FAULTED c && !d.blocked .asp (c / 16 * 16)

/-- The same for a hash core (R259). -/
def Dev.hashUsable (d : Dev) (h : Nat) : Bool :=
  !d.on R.HS_SERVICE_OFFLINE h && !d.on R.HS_SERVICE_FAULTED h && !d.blocked .asp (h / 2 * 16)

/-- The core a payment micro-operation takes, if any (R63, R570). -/
def Dev.payCore (d : Dev) : Option Nat :=
  let all := (List.range 128).filter (fun c => d.coreUsable c)
  let idle := all.filter (fun c => (d.core c).isIdle)
  match idle.find? (fun c => d.inPayPool c) with
  | some c => some c
  | none =>
    match if d.eff R.SC_CORE_SPLIT_PAY_BORROW = 1 then idle.find? (fun c => !d.inPayPool c) else none with
    | some c => some c
    | none => all.find? (fun c => d.inPayPool c && (d.core c).cur.state ≠ 0 && (d.core c).next.state == 0)

/-- The hash core that the next hash job takes: the lowest free one (R259). -/
def Dev.freeHash (d : Dev) : Option Nat := (List.range 16).find? (fun h => d.hashUsable h && (d.hash h).isIdle)

/-- The lowest-numbered bulk-pool core that a record can take: idle, or with a free NEXT entry (R64, R231, R570). -/
def Dev.bulkCore (d : Dev) : Option Nat :=
  let all := (List.range 128).filter (fun c =>
    d.coreUsable c && decide (d.eff R.SC_CORE_SPLIT_PAY_CORES ≤ payRank c))
  match all.find? (fun c => (d.core c).isIdle) with
  | some c => some c
  | none => all.find? (fun c => (d.core c).cur.state ≠ 0 && (d.core c).next.state == 0)

/-- The lock entry of a job (R230, R232). -/
def Job.lock (j : Job) (state : Nat) : Lock := ⟨state, j.supervisor, j.bay, j.gen, j.tag⟩

/-- Claim a core for a job: CUR of an idle core, NEXT of a busy one (R231). -/
def Core.claim (x : Core) (j : Job) (state : Nat) : Core :=
  if x.isIdle then { x with cur := j.lock state, curJob := some j } else { x with next := j.lock state, nextJob := some j }

end Sys2Proof.Machine
end

