-- ==== Sys2Proof/Machine/Sched.lean ====
section
/-! DEFINITION. The course scheduler's shared operations (ch. 02, 08): slot owners, the choice of a context, the end of a
request with its delivery, expiry. -/

namespace Sys2Proof.Machine

/-! ## Delivery (R54, R77, R366) -/

/-- The bytes of a TLV list (R352). -/
def encodeTlvs (l : List Tlv) : Bytes := l.flatMap (fun t => beBytes 2 t.tag ++ beBytes 2 t.val.length ++ t.val)

/-- The host-face state of a ring pair (R366). -/
def Dev.hostRing (d : Dev) (owner ring : Nat) : HostRing := Tab.get d.face.rings (owner * 4 + ring) ⟨0, 0, 0, 0, 0⟩

/-- Write the host-face state of a ring pair. -/
def Dev.setHostRing (d : Dev) (owner ring : Nat) (r : HostRing) : Dev :=
  { d with face := { d.face with rings := Tab.set d.face.rings (owner * 4 + ring) ⟨0, 0, 0, 0, 0⟩ r } }

/-- Raise COMPLETION_r of a ring pair: in page 0x1 of the bay's window, or in the HF page for the manager (R376, R377). -/
def Dev.raiseCompletion (d : Dev) (owner ring : Nat) : Dev :=
  if owner < 256 then d.raiseInt .hq owner (2 + ring) else d.raiseInt .hf 0 (4 + ring)

/-- Raise RING_HALTED (R376, R377). -/
def Dev.raiseHalted (d : Dev) (owner : Nat) : Dev :=
  if owner < 256 then d.raiseInt .hq owner 6 else d.raiseInt .hf 0 10

/-- Write a completion-ring entry, advance CPL_TAIL, invert PHASE at a wrap, and signal under the ring's moderation (R366,
R377). An entry for a ring that was reset since the descriptor's fetch, or that is halted, is discarded and counted
(R367, R369). -/
def Dev.ringComplete (d : Dev) (owner ring epoch reqId : Nat) (st : Status) (outLen : Nat) (iv : Bytes) : Dev :=
  let h := d.hostRing owner ring
  if epoch ≠ h.epoch ∨ d.on R.HQ_STATUS_HALTED owner ring then d.bumpSat R.HF_ORPHANED
  else
    let size := 2 ^ d.get R.HQ_CFG_LOG2_SIZE owner ring
    let tail := d.get R.HQ_STATUS_CPL_TAIL owner ring
    let phase := d.get R.HQ_STATUS_PHASE owner ring
    let d1 := d.send (.ringEntry owner ring tail reqId st phase outLen iv)
    let d2 := d1.set R.HQ_STATUS_CPL_TAIL ((tail + 1) % size) owner ring
    let d3 := if tail + 1 = size then d2.set R.HQ_STATUS_PHASE (1 - phase) owner ring else d2
    let left := h.inflight - 1
    let d4 := d3.set R.HQ_STATUS_RUNNING (b2n (d.on R.HQ_CFG_EN owner ring || left ≠ 0)) owner ring
    let n := d.get R.HQ_CFG_MOD_COUNT owner ring
    if n = 0 ∨ h.unsignalled + 1 ≥ n then
      (d4.setHostRing owner ring { h with inflight := left, unsignalled := 0 }).raiseCompletion owner ring
    else d4.setHostRing owner ring { h with inflight := left, unsignalled := h.unsignalled + 1 }

/-- End a session: its entry, its partial requests and its streams are erased (R362). -/
def Dev.endSession (d : Dev) (id : Nat) : Dev :=
  match Tab.look d.face.sessions id with
  | none => d
  | some _ =>
    let f : Face := { d.face with
      sessions := Tab.del d.face.sessions id, partials := Tab.del d.face.partials id,
      streams := d.face.streams.filter (fun e => e.2.session ≠ id) }
    ({ d with face := f }).blockEvent .nfc 0 3

/-- Number the next frames the module sends in a session (R350). -/
def Dev.nextFrame (d : Dev) (id : Nat) (s : Session) (n : Nat := 1) : Dev :=
  { d with face := { d.face with sessions := Tab.put d.face.sessions id { s with sent := s.sent + n } } }

/-- Frames sent on the port of a client (R348, R374). -/
def Dev.countTx (d : Dev) (c : Client) (n : Nat := 1) : Dev := d.bumpSat R.NF_PORT_TX (c.port / 2) 0 n

/-- Deliver a completion where its request came from; a request that ends other than with ST_OK returns no output (R54,
R77), in fragments of at most 8,944 bytes (R351). A response whose session has ended, or whose numbers are used up, is
discarded and counted (R350, R362). -/
def Dev.deliver (d : Dev) (via : Via) (reqId : Nat) (st : Status) (out : List Tlv) : Dev :=
  let out := if st = .ok then out else []
  match via with
  | .session id src =>
    match Tab.look d.face.sessions id with
    | none => d.bumpSat R.NF_ORPHANED
    | some s =>
      let frames := max 1 (((encodeTlvs out).length + 8943) / 8944)
      if s.sent + frames ≥ 2 ^ 64 then (d.endSession id).bumpSat R.NF_ORPHANED
      else ((d.nextFrame id s frames).countTx src frames).send (.response src id (s.sent + 1) reqId st out)
  | .ring owner ring epoch outAddr outLen =>
    let bytes := encodeTlvs out
    if st = .ok ∧ bytes.length > outLen then d.ringComplete owner ring epoch reqId .outputSpace 0 []
    else if bytes = [] ∨ epoch ≠ (d.hostRing owner ring).epoch ∨ d.on R.HQ_STATUS_HALTED owner ring then
      d.ringComplete owner ring epoch reqId st 0 []
    else (d.send (.hostWrite outAddr bytes)).ringComplete owner ring epoch reqId st bytes.length []

/-! ## Contexts (R65, R66, R71) -/

/-- A context, empty where nothing is listed. -/
def Dev.ctx (d : Dev) (c : Nat) : Ctx := Tab.get d.sched.ctxs c Ctx.empty

/-- Write a context. -/
def Dev.setCtx (d : Dev) (c : Nat) (x : Ctx) : Dev :=
  { d with sched := { d.sched with ctxs := Tab.set d.sched.ctxs c Ctx.empty x } }

/-- A context is free when it holds no request and no micro-operation of its last request is outstanding (R71). -/
def Dev.ctxFree (d : Dev) (c : Nat) : Bool := (d.ctx c).req.isNone && (d.ctx c).outstanding == 0

/-- The contexts that hold a request of a bay (R312). -/
def Dev.ctxHeld (d : Dev) (bay : Nat) : Nat :=
  Tab.count d.sched.ctxs (fun _ x => match x.req with | some r => r.bay == bay | none => false)

/-- The free contexts of a range. -/
def Dev.freeIn (d : Dev) (first n : Nat) : Nat :=
  n - Tab.count d.sched.ctxs (fun c x => first ≤ c && c < first + n && !(x.req.isNone && x.outstanding == 0))

/-- The Corbel group of a context: 32 contexts to a group, 8 to a sequencer (R95). -/
def ctxGroup (c : Nat) : Nat := c / 32

/-- The member of a list with the greatest measure, the first on a tie. -/
def argMax (l : List Nat) (f : Nat → Nat) : Option Nat :=
  l.foldl (fun best x => match best with
    | none => some x
    | some b => if f x > f b then some x else some b) none

/-- The context that R71 chooses among the groups given: the group with the most free contexts, its sequencer with the
most free contexts, that sequencer's lowest free context. -/
def Dev.pickCtx (d : Dev) (groups : List Nat) : Option Nat :=
  match argMax (groups.filter (fun g => d.freeIn (32 * g) 32 > 0)) (fun g => d.freeIn (32 * g) 32) with
  | none => none
  | some g =>
    match argMax ((List.range 4).map (fun i => 4 * g + i)) (fun s => d.freeIn (8 * s) 8) with
    | none => none
    | some s => ((List.range 8).map (fun i => 8 * s + i)).find? (fun c => d.ctxFree c)

/-! ## The end of a request (R54, R57, R73 to R77, R546) -/

/-- The current entry generation of a bay's queue entry (R57). -/
def Dev.entryGen (d : Dev) (bay entry : Nat) : Nat := Tab.get d.sched.entryGens (bay * 65536 + entry) 0

/-- Retire a queue entry: its entry generation rises by 1, modulo 256 (R57). -/
def Dev.retireEntry (d : Dev) (bay entry : Nat) : Dev :=
  let g := (d.entryGen bay entry + 1) % 256
  { d with sched := { d.sched with entryGens := Tab.set d.sched.entryGens (bay * 65536 + entry) 0 g } }

/-- The statuses of the wasted class (R546). -/
def Status.wasted : Status → Bool
  | .expired | .bayReset | .aborted | .suspended => true
  | _ => false

/-- Set GROUP_DRAINED when a group out of dispatch holds no request any more (R89). -/
def Dev.checkDrained (d : Dev) (c : Nat) : Dev :=
  let g := ctxGroup c
  let holds := Tab.count d.sched.ctxs (fun k x => ctxGroup k == g && x.req.isSome)
  if !d.on R.SC_GROUP_DISPATCH_EN 0 g && holds = 0 then d.blockEvent .sc 0 2 else d

/-- Stop the engine jobs of a context (R74, R250, R284, R293): a job that waits for a core or an engine is removed, a job
that runs is aborted at its next boundary. A PIN unit step runs to its end. -/
def Dev.stopJobs (d : Dev) (c : Nat) : Dev :=
  let mine (j : Job) : Bool := !j.supervisor && j.ctx == c && (match j.finish with | .bulk _ => false | _ => true)
  let gone := (d.eng.ashWait ++ d.eng.hashWait ++ d.eng.vsWait).filter mine
  let mark (x : Core) : Core :=
    let f (j : Job) : Job := if mine j then { j with abort := true } else j
    { x with curJob := x.curJob.map f, nextJob := x.nextJob.map f }
  let x := d.ctx c
  let e : Eng := { d.eng with
    ashWait := d.eng.ashWait.filter (fun j => !mine j), hashWait := d.eng.hashWait.filter (fun j => !mine j),
    vsWait := d.eng.vsWait.filter (fun j => !mine j), cores := Tab.mapVal d.eng.cores (fun _ y => mark y),
    hashes := Tab.mapVal d.eng.hashes (fun _ y => mark y), engines := Tab.mapVal d.eng.engines (fun _ y => mark y) }
  ({ d with eng := e }).setCtx c { x with outstanding := x.outstanding - gone.length }

/-- Let go of the request a context holds: its lane registers and handles are cleared (R66), its jobs stopped, its waits
for reservations and index slots dropped; it is free at once, or stopping while a micro-operation is outstanding (R71,
R74). -/
def Dev.clearCtx (d : Dev) (c : Nat) : Dev :=
  let d1 := d.stopJobs c
  let back := (d1.eng.tokens.filter (fun t => t.ctx = c)).length + (d1.keys.fills.filter (fun f => f.ctx = c)).length
  let n := (d1.ctx c).outstanding - back
  let d2 : Dev := { d1 with
    keys := { d1.keys with
      waits := d1.keys.waits.filter (fun w => w.ctx ≠ c), slotWait := d1.keys.slotWait.filter (· ≠ c),
      fills := d1.keys.fills.filter (fun f => f.ctx ≠ c) }
    eng := { d1.eng with tokens := d1.eng.tokens.filter (fun t => t.ctx ≠ c) } }
  (d2.setCtx c { Ctx.empty with outstanding := n, state := if n = 0 then .free else .stopping }).checkDrained c

/-- One outstanding micro-operation of a context is over: a context that has let go of its request and waits for no more
is free (R71). -/
def Dev.settle (d : Dev) (c : Nat) : Dev :=
  let x := d.ctx c
  let n := x.outstanding - 1
  let st := if x.req.isNone then (if n = 0 then CtxState.free else .stopping) else if n = 0 then .running else x.state
  d.setCtx c { x with outstanding := n, state := st }

/-- A micro-operation of a context has ended: its completion token is on its way to the context, or, where the context has
let go of the request, nothing but the end is noted (R68, R71, R75). -/
def Dev.jobToken (d : Dev) (c : Nat) (req : Option Request) (st : Status) : Dev :=
  if (d.ctx c).req.isSome && decide ((d.ctx c).req = req) then
    { d with eng := { d.eng with tokens := d.eng.tokens ++ [⟨c, req, st⟩] } }
  else d.settle c

/-- Complete a request: deliver the status, retire its entry, count it, and count its slot class where it was dispatched
in an owned slot (R54, R57, R546). -/
def Dev.endRequest (d : Dev) (r : Request) (owned : Bool) (st : Status) (out : List Tlv) : Dev :=
  let d1 := ((d.deliver r.via r.reqId st out).retireEntry r.bay r.entry).occur 0x012 (some r.bay)
  if owned then
    let k := if st.wasted then 1 else 0
    (d1.countBay r.bay k).occur (if st.wasted then 0x004 else 0x003) (some r.bay)
  else d1

/-- Complete the request a context holds, and let go of it. A context that ends a request with ST_ENGINE_FAULT or
ST_XING_TIMEOUT sets its sequencer's CTX_FAULT (R95). -/
def Dev.endCtx (d : Dev) (c : Nat) (r : Request) (owned : Bool) (st : Status) (out : List Tlv) : Dev :=
  let d1 := (d.endRequest r owned st out).bumpWrap R.CB_RETIRED (c / 8)
  let d2 := if st = .engineFault ∨ st = .xingTimeout then d1.raiseInt .cb (c / 8) 2 else d1
  if (d2.ctx c).req = some r then d2.clearCtx c else d2

/-- A presented completion (R73, R106). -/
def Dev.present (d : Dev) (c : Completion) : Dev :=
  { d with sched := { d.sched with presented := d.sched.presented ++ [c] } }

/-- Retire a presented completion: with its own status, or discarded where its entry generation or its bay's generation
number is no longer current (R73, R75). -/
def Dev.retire (d : Dev) (c : Completion) : Dev :=
  let r := c.req
  if d.entryGen r.bay r.entry ≠ r.entryGen ∨ d.get R.BY_GEN_GEN r.bay ≠ r.gen then
    (d.bumpSat R.SC_LATE).occur 0x013 (some r.bay)
  else d.endCtx c.ctx r c.owned c.status c.out

/-- Step 1 of R59: retire every completion presented in this cycle. -/
def Dev.retireAll (d : Dev) : Dev :=
  d.sched.presented.foldl (fun a c => a.retire c) { d with sched := { d.sched with presented := [] } }

/-! ## Queues and expiry (R55, R74) -/

/-- A bay's queue, oldest request first (R55). -/
def Dev.queue (d : Dev) (bay : Nat) : List Request := Tab.get d.sched.queues bay []

/-- Write a bay's queue. -/
def Dev.setQueue (d : Dev) (bay : Nat) (q : List Request) : Dev :=
  { d with sched := { d.sched with queues := Tab.set d.sched.queues bay [] q } }

/-- Expire one request of a queue: it is removed, completes with ST_EXPIRED and is counted (R74). -/
def Dev.expireQueued (d : Dev) (r : Request) : Dev :=
  let d1 := d.setQueue r.bay ((d.queue r.bay).filter (· ≠ r))
  (d1.endRequest r false .expired []).bumpSat R.SC_EXPIRED

/-- Expire the request a context holds: it issues no further micro-operation, its lane registers are cleared, and the
request completes with ST_EXPIRED (R74). -/
def Dev.expireCtx (d : Dev) (c : Nat) (r : Request) : Dev :=
  (d.endCtx c r (d.ctx c).owned .expired []).bumpSat R.SC_EXPIRED

/-- Step 2 of R59: expire every request whose deadline cycle has been reached (R74). -/
def Dev.expireAll (d : Dev) : Dev :=
  let now := d.sched.time
  let queued := (d.sched.queues.flatMap (·.2)).filter (fun r => r.deadline ≤ now)
  let held := d.sched.ctxs.filterMap (fun e => match e.2.req with
    | some r => if r.deadline ≤ now then some (e.1, r) else none
    | none => none)
  held.foldl (fun a e => a.expireCtx e.1 e.2) (queued.foldl (fun a r => a.expireQueued r) d)

/-! ## Slot owners (R60) -/

/-- The pseudo-owner of unowned slots (R60). -/
def unowned : Nat := 256

/-- One owner of the stride procedure of R60: owner number, credit, stride and pass, strides in units of 1/65,536. -/
structure StrideOwner where
  owner : Nat
  credit : Nat
  stride : Nat
  pass : Nat
deriving DecidableEq, Repr

/-- The stride of a share: 1,024 over the share, in units of 1/65,536, rounded down (log entry 12). -/
def strideOf (share : Nat) : Nat := 1024 * 65536 / share

/-- The owner with credit and the smallest pass, the lowest owner on a tie (R60). -/
def bestOwner (l : List StrideOwner) : Option StrideOwner :=
  (l.filter (fun o => o.credit > 0)).foldl (fun best o => match best with
    | none => some o
    | some b => if o.pass < b.pass ∨ (o.pass = b.pass ∧ o.owner < b.owner) then some o else some b) none

/-- Assign n slots by the stride procedure of R60. -/
def assignSlots : Nat → List StrideOwner → List Nat
  | 0, _ => []
  | n + 1, l =>
    match bestOwner l with
    | none => []
    | some b =>
      b.owner :: assignSlots n (l.map (fun o =>
        if o.owner = b.owner then { o with credit := o.credit - 1, pass := o.pass + o.stride } else o))

/-- The owners of the 1,024 slots of a course for the shares in effect (R60). -/
def courseOwners (shares : List (Nat × Nat)) : List Nat :=
  let sum := (shares.map (·.2)).foldl (· + ·) 0
  let all := shares ++ [(unowned, 1024 - sum)]
  assignSlots 1024 ((all.filter (fun e => e.2 > 0)).map (fun e => ⟨e.1, e.2, strideOf e.2, strideOf e.2⟩))

/-- The shares in effect of the 256 bays, those above 0 (R60, R308). -/
def Dev.sharesInEffect (d : Dev) (f : Fld) : List (Nat × Nat) :=
  ((List.range 256).map (fun b => (b, d.get f b))).filter (fun e => e.2 > 0)

/-! ## Dispatch (R61, R71, R85 to R90, R121) -/

/-- The PIN and CVV functions, which the governor guards (R111 row 1, R121). -/
def guardedFunc (f : Nat) : Bool :=
  [0x0101, 0x0110, 0x0111, 0x0120, 0x0121, 0x0122, 0x0123, 0x0130, 0x0131, 0x0150, 0x0151].contains f

/-- The groups with DISPATCH_EN set, from the course boundary after the write on, that hold an image satisfying a test
(R83, R90). -/
def Dev.groupsWith (d : Dev) (p : Image → Bool) : List Nat :=
  (List.range 16).filter (fun g => d.on R.SC_GROUP_DISPATCH_EN 0 g && !d.sched.groupNext.contains g &&
    (match Tab.look d.sched.progs g with | some i => p i | none => false))

/-- The groups that may run a bay's function: an image implementing it and, for a pinned bay, the pinned version (R90). -/
def Dev.runGroups (d : Dev) (bay func : Nat) : List Nat :=
  d.groupsWith (fun i => i.funcs.any (fun f => f.func == func) &&
    (d.eff R.SC_PIN_DATA_PINNED 0 bay ≠ 1 || i.version == d.eff R.SC_PIN_DATA_VERSION 0 bay))

/-- The bay is pinned to a version that no enabled group holds (R87). -/
def Dev.pinAbsent (d : Dev) (bay : Nat) : Bool :=
  d.eff R.SC_PIN_DATA_PINNED 0 bay == 1 && (d.groupsWith (fun i => i.version == d.eff R.SC_PIN_DATA_VERSION 0 bay)).isEmpty

/-- A group's image gives the function a version above the fleet format floor and marks it verifiable elsewhere (R85). -/
def Dev.floorLocked (d : Dev) (group func : Nat) : Bool :=
  match Tab.look d.sched.progs group with
  | some i => i.funcs.any (fun f => f.func == func && f.verifiable && f.version > d.get R.KT_FLEET_FLOOR_FLOOR)
  | none => false

/-- The governor's level of a bay is 0 or below, as a two's complement number (R119, R133). -/
def Dev.govShut (d : Dev) (bay : Nat) : Bool :=
  d.eff R.PN_BAY_GOV_CTL_EN 0 bay == 1 &&
    (d.get R.PN_BAY_GOV_LEVEL 0 bay == 0 || d.get R.PN_BAY_GOV_LEVEL 0 bay ≥ 2 ^ 31)

/-- What became of a slot (R61, R546). -/
inductive SlotUse where
  | used | backStarved
deriving DecidableEq, Repr

/-- Offer a slot to a bay with a queued request: the oldest request is dispatched to the context of R71, or completed in
its slot (R85, R87, R121); or the slot is lost. -/
def Dev.offer (d : Dev) (bay : Nat) (owned : Bool) : Dev × SlotUse :=
  match d.queue bay with
  | [] => (d, .backStarved)
  | r :: rest =>
    let blocked := !d.on (R.CTRL_ENABLE .by) bay || d.on R.STATUS_RESETTING bay
    let endInSlot (st : Status) : Dev := (d.setQueue bay rest).endRequest r owned st []
    if blocked then (d, .backStarved)
    else if d.pinAbsent bay then (((endInSlot .programAbsent).bumpSat R.SC_PROG_ABSENT).blockEvent .sc 0 3, .used)
    else if guardedFunc r.func && d.govShut bay then
      ((endInSlot .pinGovernor).bumpSat R.PN_BAY_GOV_REFUSED 0 bay, .used)
    else if d.ctxHeld bay ≥ d.eff R.BY_CTX_MAX bay then (d, .backStarved)
    else
      match d.pickCtx (d.runGroups bay r.func) with
      | none => (d, .backStarved)
      | some c =>
        if d.floorLocked (ctxGroup c) r.func then (endInSlot .floorLocked, .used)
        else
          let policy := [d.eff R.PN_BAY_XLATE_PERMIT 0 bay, d.eff R.PN_BAY_XLATE_DOWNGRADE 0 bay,
            d.eff R.PN_BAY_LIMITS_MAC_MIN 0 bay, d.eff R.PN_BAY_LIMITS_PIN_MIN 0 bay, d.eff R.PN_BAY_LIMITS_PIN_MAX 0 bay]
          let x : Ctx := { Ctx.empty with state := .running, req := some r, owned := owned, policy := policy }
          (((d.setQueue bay rest).setCtx c x).occur 0x020 (some bay) (ctxGroup c), .used)

/-- The bay a lent slot goes to: the next with a queued request, enabled and with a share in effect, in round-robin order
after the last that received one (R61, R326). -/
def Dev.lentBay (d : Dev) : Option Nat :=
  ((List.range 256).map (fun i => (d.sched.lentLast + 1 + i) % 256)).find? (fun b =>
    !(d.queue b).isEmpty && d.on (R.CTRL_ENABLE .by) b && d.get R.BY_SHARE_EFFECTIVE b > 0 && !d.on R.STATUS_RESETTING b)

/-- Lend a slot in lending mode; in strict mode it stays idle (R61, R317). -/
def Dev.lend (d : Dev) : Dev :=
  if d.eff R.SC_MODE = 1 then
    match d.lentBay with
    | none => d.occur 0x008
    | some b =>
      let r := d.offer b false
      let d1 : Dev := { r.1 with sched := { r.1.sched with lentLast := b } }
      if r.2 = .used then d1.occur 0x007 (some b) else d1
  else d.occur 0x008

/-- Fill one dispatch slot (R61), and classify it where a bay owns it (R546). -/
def Dev.fillSlot (d : Dev) (slot : Nat) : Dev :=
  let owner := d.sched.owners.getD slot unowned
  if owner < 256 then
    let d0 := d.occur 0x002 (some owner)
    if (d0.queue owner).isEmpty then ((d0.countBay owner 2).occur 0x005 (some owner)).lend
    else
      let r := d0.offer owner true
      if r.2 = .used then r.1 else (r.1.countBay owner 3).occur 0x006 (some owner)
  else d.lend

/-! ## Governor refill (R119, R121) -/

/-- A level as an integer: two's complement of 32 bits (R133). -/
def levelInt (x : Nat) : Int := if x < 2 ^ 31 then (x : Int) else (x : Int) - 2 ^ 32

/-- An integer as a 32-bit two's complement number. -/
def levelNat (x : Int) : Nat := (x % 2 ^ 32).toNat

/-- The millisecond refill of one bay: RATE to the accumulator, whole thousands to the level, not above BURST (R119). -/
def Dev.refillBay (d : Dev) (bay : Nat) : Dev :=
  if d.eff R.PN_BAY_GOV_CTL_EN 0 bay = 1 then
    let acc := Tab.get d.sched.govAcc bay 0 + d.eff R.PN_BAY_GOV_RATE 0 bay
    let lvl := levelInt (d.get R.PN_BAY_GOV_LEVEL 0 bay)
    let burst : Int := d.eff R.PN_BAY_GOV_BURST 0 bay
    let up := min (lvl + (acc / 1000 : Nat)) (max lvl burst)
    ({ d with sched := { d.sched with govAcc := Tab.set d.sched.govAcc bay 0 (acc % 1000) } }).set R.PN_BAY_GOV_LEVEL
      (levelNat up) 0 bay
  else d

/-- The refill of the cycle, in each cycle whose number is a nonzero multiple of 64,000, once (R119, R121). -/
def Dev.govRefill (d : Dev) : Dev :=
  let now := d.sched.time
  if now % 64000 = 0 ∧ now ≠ 0 ∧ d.sched.govDone ≠ now then
    (List.range 256).foldl (fun a b => a.refillBay b) { d with sched := { d.sched with govDone := now } }
  else d

/-- One failure of a bay's PIN unit step: counted, and the level falls by 1; a level that falls from above 0 to 0 or below
is recorded (R119, R123). -/
def Dev.govFail (d : Dev) (bay : Nat) : Dev :=
  let d1 := (d.bumpSat R.PN_BAY_FAILS 0 bay).bumpWrap R.BW_GOV_FAILS bay
  if d.eff R.PN_BAY_GOV_CTL_EN 0 bay = 1 then
    d1.set R.PN_BAY_GOV_LEVEL (levelNat (levelInt (d.get R.PN_BAY_GOV_LEVEL 0 bay) - 1)) 0 bay
  else d1

/-- The failures presented in this cycle, applied in step 1 (R121). An emptied governor raises its events once, with the
level after the cycle (R123). -/
def Dev.govApply (d : Dev) : Dev :=
  let bays := d.sched.failures.foldl (fun l b => if l.contains b then l else l ++ [b]) []
  let d1 := d.sched.failures.foldl (fun a b => a.govFail b) { d with sched := { d.sched with failures := [] } }
  bays.foldl (fun a b =>
    if levelInt (d.get R.PN_BAY_GOV_LEVEL 0 b) > 0 ∧ levelInt (a.get R.PN_BAY_GOV_LEVEL 0 b) ≤ 0 then
      let lvl := a.get R.PN_BAY_GOV_LEVEL 0 b
      let rate := a.eff R.PN_BAY_GOV_RATE 0 b
      ((a.ringEvent b .pinGovernor lvl rate).raiseInt .pn 0 3).mark .pinGovernor .key b lvl rate
    else a) d1

/-! ## The course boundary (R59 step 3, R62, R219, R308) -/

/-- Put a staged key in effect: what the register shows. -/
def Dev.applyKey (d : Dev) (key : Nat) : Dev :=
  match Tab.look d.regs.vals key with
  | some v => { d with regs := { d.regs with eff := Tab.put d.regs.eff key v } }
  | none => { d with regs := { d.regs with eff := Tab.del d.regs.eff key } }

/-- Every page kind that stages configuration, with its pages. -/
def stagingPages : List (Blk × Nat) :=
  [(.sc, 0), (.pn, 0), (.kt, 0), (.kc, 0), (.vt, 0)] ++ (List.range 256).map (fun b => (Blk.by, b))

/-- A Keystone runs an image: it is neither OFF nor STARTING (R484, R502). -/
def Dev.ksRuns (d : Dev) (u : Nat) : Bool := decide (d.get R.KS_STATUS_STATE u ≥ 2)

/-- The state of a Keystone: A for 0, B for 1 (R478). -/
def Dev.unit (d : Dev) (u : Nat) : KUnit := if u = 0 then d.pair.a else d.pair.b

/-- KT_FLEET_FLOOR.FORMAT_MAX: the lowest FORMAT_MAX of the images the module runs, 0 until the Keystones run (R218,
R224). -/
def Dev.refreshFormats (d : Dev) : Dev :=
  let ks := ((List.range 2).filter (fun u => d.ksRuns u)).map (fun u => (d.unit u).formatMax)
  let others := d.sched.progs.map (fun e => e.2.formatMax) ++
    ((List.range 16).filter (fun e => d.on R.VS_UCODE_STATUS_VALID e)).map (fun e => d.get R.VS_UCODE_FMAX e)
  d.set R.KT_FLEET_FLOOR_FORMAT_MAX (match ks with
    | [] => 0
    | k :: r => (r ++ others).foldl min k)

/-- A raised floor takes effect (R219). -/
def Dev.applyFloor (d : Dev) : Dev :=
  match d.keys.floorNext with
  | none => d
  | some f =>
    (({ d with keys := { d.keys with floorNext := none } }).set R.KT_FLEET_FLOOR_FLOOR f).bumpWrap (R.EPOCH .kt)

/-- Put every staged value in effect, raise EPOCH of each page that staged one, show the shares and the core split in
effect, cap governor levels at a lowered BURST, and recompute the slot owners (R42, R59, R60, R132). -/
def Dev.courseBoundary (d : Dev) : Dev :=
  let keys := d.regs.staged
  let pages := stagingPages.filter (fun e => keys.any (fun k => keyPage k == e.1.page e.2))
  let d1 := keys.foldl (fun a k => a.applyKey k) { d with regs := { d.regs with staged := [] } }
  let d2 := pages.foldl (fun a e => a.bumpWrap (R.EPOCH e.1) e.2) d1
  let d3 := (pages.filter (fun e => e.1 = .by)).foldl (fun a e =>
    ((a.set R.BY_SHARE_EFFECTIVE (a.eff R.BY_SHARE_SHARE e.2) e.2).set R.BY_VS_SHARE_EFFECTIVE
      (a.eff R.BY_VS_SHARE_SHARE e.2) e.2).set R.BY_BULK_SHARE_EFFECTIVE (a.eff R.BY_BULK_SHARE_SHARE e.2) e.2) d2
  let d4 := d3.set R.SC_CORE_SPLIT_BULK_CORES (128 - d3.eff R.SC_CORE_SPLIT_PAY_CORES)
  let d5 := if keys.any (fun k => keyPage k == Blk.page .pn 0) then
      (List.range 256).foldl (fun a b =>
        if levelInt (a.get R.PN_BAY_GOV_LEVEL 0 b) > (a.eff R.PN_BAY_GOV_BURST 0 b : Int) then
          a.set R.PN_BAY_GOV_LEVEL (a.eff R.PN_BAY_GOV_BURST 0 b) 0 b else a) d4
    else d4
  let d6 := d5.applyFloor.bumpWrap R.SC_COURSE
  { d6 with sched := { d6.sched with
      groupNext := [], owners := courseOwners (d6.sharesInEffect R.BY_SHARE_EFFECTIVE), courseDone := some d6.sched.time } }

/-- Step 3 of R59: the course boundary, in the first cycle of a course, once. -/
def Dev.courseStep (d : Dev) : Dev :=
  if d.sched.time % 512 = 0 ∧ d.sched.courseDone ≠ some d.sched.time then d.courseBoundary else d

end Sys2Proof.Machine
end

