-- ==== Sys2Proof/Machine/Keys.lean ====
section
/-! DEFINITION. The key island's shared operations (ch. 05): standing authorizations, the DRBG instances, tree nodes,
handles and their resolution (rows 5 to 8 of R111), the key cache, use counts, nonce counters, the Vault's quota and
writes. -/

namespace Sys2Proof.Machine

/-! ## Standing authorizations (R401, R402, R405, R407) -/

/-- The classes whose authorization covers one bay (R401). -/
def bayScoped (cls : Nat) : Bool := cls == 5 || cls == 6 || cls == 10

/-- An authorization of a class stands, for the bay where the class is bay-scoped (R405). -/
def Dev.authStands (d : Dev) (cls : Nat) (bay : Nat := 0) : Bool :=
  d.get R.CD_CER_STATUS_STATE == 2 && d.get R.CD_CER_STATUS_CLASS == cls &&
    (!bayScoped cls || d.get R.CD_CER_STATUS_BAY == bay)

/-- The covered operation starts: the ceremony is EXECUTING (R402, R405). -/
def Dev.authStart (d : Dev) : Dev := d.set R.CD_CER_STATUS_STATE 3

/-- End the ceremony (R402, R407): reason 0 done, 1 CLOSE, 2 timeout, 3 lapse, 4 tamper. Nothing is left of its class,
bay, count and threshold; the backup key and the shares read are erased (R213). -/
def Dev.cerEnd (d : Dev) (reason : Nat) : Dev :=
  let cls := d.get R.CD_CER_STATUS_CLASS
  let st := d.get R.CD_CER_STATUS_STATE
  let d1 := ((d.set R.CD_CER_STATUS_STATE 0).set R.CD_CER_STATUS_CLASS 0).set R.CD_CER_STATUS_BAY 0
  let d2 := (d1.set R.CD_CER_STATUS_COUNT 0).set R.CD_CER_STATUS_M 0
  let d3 : Dev := { d2 with cards := { d2.cards with
    counted := [], backup := none, shares := [], shareId := [], shareM := 0 } }
  (d3.mark .cerClosed .card 0 cls st reason).raiseInt .cd 0 9

/-- The covered operation's last step ends, with ST_OK or not (R402). -/
def Dev.authDone (d : Dev) : Dev := if d.get R.CD_CER_STATUS_STATE = 3 then d.cerEnd 0 else d

/-! ## DRBG instances (R210 to R212) -/

/-- The internal instance (R211). -/
def internalDrbg : Nat := 256

/-- A DRBG instance. -/
def Dev.drbg (d : Dev) (i : Nat) : Drbg := Tab.get d.keys.drbgs i Drbg.fresh

/-- Write a DRBG instance. -/
def Dev.setDrbg (d : Dev) (i : Nat) (x : Drbg) : Dev :=
  { d with keys := { d.keys with drbgs := Tab.set d.keys.drbgs i Drbg.fresh x } }

/-- Reseed an instance (R211). -/
def Dev.reseed (d : Dev) (i : Nat) : Dev := (d.setDrbg i Drbg.fresh).bumpWrap R.RN_RESEEDS

/-- Draw n bytes from an instance: an erased instance is reinstantiated first, an instance whose reseed is due reseeds
first; neither is possible while fewer than 4 noise sources are healthy, and the draw then fails (R210, R212). -/
def Dev.drbgDraw (d : Dev) (i n : Nat) : Option (Bytes × Dev) :=
  let x := d.drbg i
  let due := x.due || x.requests ≥ 2 ^ 20
  if (due || x.erased) && d.on R.RN_STATUS_FAIL then none
  else
    let d1 := if due then d.reseed i else if x.erased then d.setDrbg i Drbg.fresh else d
    let d2 := d1.setDrbg i { d1.drbg i with requests := (d1.drbg i).requests + 1 }
    some (d2.draw n)

/-- Nibbles drawn in turn, 64 bits for each, reduced modulo the number of values (R108). -/
def drawNibbles (n modulus : Nat) (b : Bytes) : List Nat :=
  (List.range n).map (fun i => beNat ((b.drop (8 * i)).take 8) % modulus)

/-! ## The key tree (R181 to R184) -/

/-- The root is present (R177). -/
def Dev.rootPresent (d : Dev) : Bool := d.get R.KT_STATUS_ROOT == 2

/-- The level that gates new work: after a resumption from level 3, work waits for the root (R424). -/
def Dev.workLevel (d : Dev) (level : Nat) : Nat := if d.keys.resuming then max level 2 else level

/-- The PUF secret, 32 bytes (R176, log entry 8). -/
def pufSecret : Bytes := (List.range 32).map Config.pufByte

/-- The Quarry root: the KDF under the sealing share with the PUF secret as the context (R181). -/
def quarryRoot (share : Bytes) : Bytes := kdf share (zeros 16) pufSecret 256

/-- The value of a tree node of level 3 (R181 to R183): owner, purpose and length in bits. -/
def nodeValue (root : Bytes) (owner purpose l : Nat) : Bytes :=
  let l1 := nodeLabel 1 0 owner 256
  let l2 := nodeLabel 2 purpose owner 256
  let n1 := kdf root l1 (zeros 16) 256
  let n2 := kdf n1 l2 l1 256
  kdf n2 (nodeLabel 3 purpose owner l) l2 l

/-- Hold the nodes on the way to a node of level 3 in the internal reserve (R184), by level and owner, and purpose. -/
def Dev.useNode (d : Dev) (owner purpose : Nat) : Dev :=
  let path := [(owner, 0), (0x10000 + owner, purpose), (0x20000 + owner, purpose)]
  { d with keys := { d.keys with nodes := d.keys.nodes ++ path.filter (fun p => !d.keys.nodes.contains p) } }

/-! ## Handles (R67, R188, R192) -/

/-- What a handle names in a bay. -/
inductive Found where
  | none | stale | key (o : Obj)
deriving DecidableEq, Repr

/-- The place of a stored object in the table of objects. -/
def objIndex (bay num : Nat) : Nat := bay * 2 ^ 24 + num

/-- The handle of a session key: the low bits of the main-power sequence number and of the bay's generation number, and
the slot (R188). -/
def sessionHandle (seq gen slot : Nat) : Nat := 2 ^ 31 + seq % 128 * 2 ^ 24 + gen % 256 * 2 ^ 16 + slot

/-- The place of a session slot. -/
def sessIndex (bay slot : Nat) : Nat := bay * 65536 + slot

/-- Resolve a handle in a bay (R67, R188, R192): a deleted or restore-pending record names nothing; a session handle of
another epoch is stale. -/
def Dev.lookup (d : Dev) (bay handle : Nat) : Found :=
  if bitOf handle 31 then
    if bits handle 30 24 ≠ d.plinth.powerSeq % 128 ∨ bits handle 23 16 ≠ d.get R.BY_GEN_GEN bay % 256 then .stale
    else
      match Tab.look d.keys.sess (sessIndex bay (handle % 65536)) with
      | some s => .key s.obj
      | none => .none
  else if handle = 0 ∨ handle ≥ 2 ^ 24 then .none
  else
    match Tab.look d.keys.objs (objIndex bay handle) with
    | some o => if o.deletedAt.isSome || o.restorePending then .none else .key o
    | none => .none

/-- Write the object a handle names. -/
def Dev.setObj (d : Dev) (bay handle : Nat) (o : Obj) : Dev :=
  if bitOf handle 31 then
    let i := sessIndex bay (handle % 65536)
    match Tab.look d.keys.sess i with
    | some s => { d with keys := { d.keys with sess := Tab.put d.keys.sess i { s with obj := o } } }
    | none => d
  else { d with keys := { d.keys with objs := Tab.put d.keys.objs (objIndex bay handle) o } }

/-- The next number above the last that is free, wrapping from the top to 1 (R188). -/
def nextFree (used : List Nat) (top last : Nat) : Option Nat :=
  let rec go : Nat → Nat → Option Nat
    | 0, _ => none
    | n + 1, k =>
      let k1 := if k ≥ top then 1 else k + 1
      if used.contains k1 then go n k1 else some k1
  if used.length ≥ top then none else go (used.length + 1) last

/-- The numbers of a bay's stored objects, deleted ones that are still retained among them. -/
def Dev.objNumbers (d : Dev) (bay : Nat) : List Nat :=
  d.keys.objs.filterMap (fun e => if e.1 / 2 ^ 24 = bay then some (e.1 % 2 ^ 24) else none) ++
  d.keys.writes.filterMap (fun w => match w.item with
    | .object h _ => if w.bay = bay then some h else none
    | .entry _ _ => none)

/-- The next object number of a bay (R188). -/
def Dev.nextObject (d : Dev) (bay : Nat) : Option Nat :=
  nextFree (d.objNumbers bay) 16777215 (Tab.get d.keys.lastObj bay 0)

/-- The next session slot of a bay within the present epoch (R188). -/
def Dev.nextSlot (d : Dev) (bay : Nat) : Option Nat :=
  let used := d.keys.sess.filterMap (fun e => if e.1 / 65536 = bay then some (e.1 % 65536) else none)
  nextFree used 65535 (Tab.get d.keys.lastSlot bay 0)

/-! ## The key cache (R195 to R198, R273) -/

/-- The key-cache entries a key takes: one for each 64 bytes (R195, R273). -/
def Obj.entries (o : Obj) : Nat := (o.key.length + 63) / 64

/-- A key is pinned while a request in flight, an engine job or a bulk record holds it (R197, R273). -/
def Dev.pinned (d : Dev) (bay handle : Nat) : Bool :=
  let held (r : Option Request) : Bool := match r with | some r => r.bay == bay | none => false
  let jobs := d.eng.vsWait ++ d.eng.ashWait ++ (d.eng.cores ++ d.eng.engines).flatMap (fun e =>
    e.2.curJob.toList ++ e.2.nextJob.toList)
  d.sched.ctxs.any (fun e => held e.2.req && e.2.handles.contains handle) ||
    jobs.any (fun j => j.bay == bay && j.handle == handle) ||
    d.eng.bulkWait.any (fun e => e.1 == bay && e.2.any (fun r => r.checked && r.desc.handle == handle))

/-- The entries a bay holds (R196, KC_BAY_USED). -/
def Dev.cacheUsed (d : Dev) (bay : Nat) : Nat :=
  ((d.keys.cache.filter (fun e => e.bay == bay)).map (·.size)).foldl (· + ·) 0

/-- A key is in the cache. -/
def Dev.cached (d : Dev) (bay handle : Nat) : Bool := d.keys.cache.any (fun e => e.bay == bay && e.handle == handle)

/-- An entry may be evicted: it is unpinned, and it is no session key, which lives nowhere else (R192, R197). -/
def Dev.evictable (d : Dev) (keep : List Nat) (e : CacheEntry) : Bool :=
  !bitOf e.handle 31 && !keep.contains e.handle && !d.pinned e.bay e.handle

/-- The keys of a request do not fit: what the bay's quota has left, with every evictable entry gone, is not enough for
those that miss (R197). -/
def Dev.cacheBusy (d : Dev) (bay : Nat) (handles : List Nat) : Bool :=
  let misses := (handles.dedup.filter (fun h => !d.cached bay h)).map (fun h => match d.lookup bay h with
    | .key o => o.entries
    | _ => 0)
  let need := misses.foldl (· + ·) 0
  let free := ((d.keys.cache.filter (fun e => e.bay == bay && d.evictable handles e)).map (·.size)).foldl (· + ·) 0
  need > 0 && d.cacheUsed bay + need > d.eff R.KC_BAY_QUOTA 0 bay + free

/-- A request of a bay is refused with ST_BUSY: the bay's count and the counted event (R197, R542). -/
def Dev.refuseBusy (d : Dev) (bay : Nat) : Dev := (d.bumpSat R.KC_BAY_BUSY 0 bay).occur 0x061 (some bay)

/-- Evict least recently used entries of a bay until n more fit its quota (R197). -/
def Dev.evictFor (d : Dev) (bay : Nat) (keep : List Nat) (n : Nat) : Dev :=
  (d.keys.cache.filter (fun e => e.bay == bay)).foldl (fun a e =>
    if a.cacheUsed bay + n > a.eff R.KC_BAY_QUOTA 0 bay ∧ a.evictable keep e then
      { a with keys := { a.keys with cache := a.keys.cache.filter (· ≠ e) } }
    else a) d

/-- Bring a key into the cache, the most recently used of its bay: a miss is a fill and is counted (R197, R198). -/
def Dev.cacheIn (d : Dev) (bay : Nat) (keep : List Nat) (handle size : Nat) : Dev :=
  match d.keys.cache.find? (fun e => e.bay == bay && e.handle == handle) with
  | some e => { d with keys := { d.keys with cache := d.keys.cache.filter (· ≠ e) ++ [e] } }
  | none =>
    let d1 := d.evictFor bay keep size
    let d2 : Dev := { d1 with keys := { d1.keys with cache := d1.keys.cache ++ [⟨bay, handle, size⟩] } }
    if bitOf handle 31 then d2 else d2.bumpSat R.KC_BAY_MISSES 0 bay

/-- Take a key out of the cache. -/
def Dev.cacheOut (d : Dev) (bay handle : Nat) : Dev :=
  { d with keys := { d.keys with cache := d.keys.cache.filter (fun e => !(e.bay == bay && e.handle == handle)) } }

/-! ## Nonce counters (R240 to R246) -/

/-- The index of a key's nonce counter; a bay's KEK and token-vault key stand above every handle. -/
def nonceIndex (bay handle : Nat) : Nat := bay * 2 ^ 34 + handle

/-- The index of the counter of a bay's KEK (R205, R240). -/
def kekIndex (bay : Nat) : Nat := nonceIndex bay (2 ^ 32)

/-- The index of the counter of a bay's token-vault key (R167, R240). -/
def vaultKeyIndex (bay : Nat) : Nat := nonceIndex bay (2 ^ 32 + 1)

/-- A key's nonce counter, its salt not drawn where nothing is listed. -/
def Dev.nonce (d : Dev) (i : Nat) : Nonce := Tab.get d.keys.nonces i ⟨[], 0, 0, false, false⟩

/-- Write a nonce counter. -/
def Dev.setNonce (d : Dev) (i : Nat) (x : Nonce) : Dev :=
  { d with keys := { d.keys with nonces := Tab.put d.keys.nonces i x } }

/-- A value of the counter is reserved and not yet assigned (R244). -/
def Nonce.ready (x : Nonce) : Bool := x.exhausted || decide (x.next < x.reservedTo)

/-- Start writing the reservation of the next block (R244). -/
def Dev.reserveNonce (d : Dev) (i : Nat) : Dev := d.setNonce i { d.nonce i with reserving := true }

/-- What assigning the next value of a counter gives. -/
inductive IvResult where
  | iv (b : Bytes) | exhausted | entropy
deriving DecidableEq, Repr

/-- Assign the next value of a counter that is ready (R240 to R246): the salt is drawn at the key's first encryption; the
next block is reserved while fewer than 2^22 values remain; the last value retires the key for encryption. -/
def Dev.takeIv (d : Dev) (bay i : Nat) : IvResult × Dev :=
  let x := d.nonce i
  if x.exhausted then (.exhausted, d)
  else
    let withSalt : Option (Bytes × Dev) :=
      if x.salt = [] then
        match d.drbgDraw internalDrbg 3 with
        | some (b, d1) => some (beBytes 4 (d.get R.AS_NONCE_NODE * 2 ^ 20 + beNat b % 2 ^ 20), d1)
        | none => none
      else some (x.salt, d)
    match withSalt with
    | none => (.entropy, d)
    | some (salt, d1) =>
      let next := x.next + 1
      let low := decide (x.reservedTo < next + 2 ^ 22) && decide (x.reservedTo < 2 ^ 64)
      let d2 := d1.setNonce i ⟨salt, next, x.reservedTo, x.reserving || low, decide (next = 2 ^ 64)⟩
      let d3 := if next = 2 ^ 64 then
          (d2.mark .nonceExhausted .key bay (i % 2 ^ 34)).ringEvent bay .nonceExhausted (i % 2 ^ 34)
        else d2
      (.iv (salt ++ beBytes 8 x.next), d3)

/-! ## Key resolution: rows 5 to 8 of R111, and the order every other function shares (R574) -/

/-- A key or table a function names: its handle, the fit of row 7, and the checks made with row 8 after its expiry and use
check (R139). -/
structure Want where
  handle : Nat
  fits : Obj → Bool
  after : Obj → Option Status := fun _ => none

/-- A decimalization table that R118 permits: 16 entries, each 0 to 9, every decimal digit among them. -/
def dectabOk (key : Bytes) : Bool :=
  key.length == 16 && key.all (fun b => b.toNat < 10) && (List.range 10).all (fun i => key.contains (BitVec.ofNat 8 i))

/-- Row 6: the record's format is readable, it authenticates, and a table keeps R118. -/
def Dev.loadFault (d : Dev) (o : Obj) : Option Status :=
  if o.format > d.get R.KT_FLEET_FLOOR_FORMAT_MAX then some .formatUnknown
  else if !o.intact then some .keyIntegrity
  else if o.attrs.type = .dectab && !dectabOk o.key then some .keyIntegrity
  else none

/-- Row 8 for one key: past Not after, or no use left (R190, R191). -/
def Dev.useFault (d : Dev) (o : Obj) : Option Status :=
  if o.attrs.notAfter ≠ 0 ∧ d.plinth.seconds > o.attrs.notAfter then some .keyExpired
  else if o.attrs.useLimit ≠ 0 ∧ o.usesLeft = 0 then some .keyExhausted
  else none

/-- A stored key with a use limit and no use reserved in the checkpoint area: its use waits for a reservation (R190). -/
def needsReservation (handle : Nat) (o : Obj) : Bool :=
  o.attrs.useLimit ≠ 0 && !bitOf handle 31 && o.usesReserved == 0 && o.usesLeft ≠ 0

/-- Consume one use of a key (R190). -/
def Dev.consume (d : Dev) (bay handle : Nat) (o : Obj) : Dev :=
  if o.attrs.useLimit = 0 then d
  else d.setObj bay handle { o with usesLeft := o.usesLeft - 1, usesReserved := o.usesReserved - 1 }

/-- The first status a list of checks gives. -/
def firstFault (l : List (Option Status)) : Option Status := l.findSome? id

/-- Rows 5 to 7 of R111, row by row, with the root first (R574, R192). -/
def Dev.keyRows (d : Dev) (bay : Nat) (ws : List Want) : Option Status :=
  let found := ws.map (fun w => d.lookup bay w.handle)
  let obj (f : Found) (g : Obj → Option Status) : Option Status := match f with | .key o => g o | _ => none
  if ws = [] then none
  else if !d.rootPresent then some .rootAbsent
  else firstFault (
    found.map (fun f => match f with | .none => some Status.keyHandle | .stale => some .keyExpired | .key _ => none) ++
    found.map (fun f => obj f d.loadFault) ++
    (ws.zip found).map (fun p => obj p.2 (fun o => if p.1.fits o then none else some .keyUsage)))

/-- The keys that row 8 would reach and that wait for a use reservation: those before the first key that fails. -/
def Dev.reservationsNeeded (d : Dev) (bay : Nat) : List Want → List Nat
  | [] => []
  | w :: r =>
    match d.lookup bay w.handle with
    | .key o =>
      if (d.useFault o).isSome then []
      else if needsReservation w.handle o then w.handle :: d.reservationsNeeded bay r
      else if (w.after o).isSome then [] else d.reservationsNeeded bay r
    | _ => []

/-- Row 8 for every key in order; each key that passes is consumed, once however often the request names it (R190). -/
def Dev.useRow (d : Dev) (bay : Nat) : List Nat → List Want → Option Status × Dev
  | _, [] => (none, d)
  | done, w :: r =>
    match d.lookup bay w.handle with
    | .key o =>
      if done.contains w.handle then
        match w.after o with
        | some st => (some st, d)
        | none => d.useRow bay done r
      else
        match d.useFault o with
        | some st => (some st, d)
        | none =>
          let d1 := d.consume bay w.handle o
          match w.after o with
          | some st => (some st, d1)
          | none => d1.useRow bay (w.handle :: done) r
    | _ => (some .keyHandle, d)

/-- What resolving the keys of a request gives: a status, a wait for a reservation, or the keys in order. -/
inductive Resolved where
  | refused (st : Status)
  | waits
  | keys (l : List Obj)
deriving DecidableEq, Repr

/-- Put a context in wait for use reservations, and write those (R190). -/
def Dev.waitReservation (d : Dev) (c bay : Nat) (handles nonces : List Nat) : Dev :=
  let ks := handles.map (fun h => nonceIndex bay h)
  let d1 := nonces.foldl (fun a i => a.reserveNonce i) d
  let ws := ks.map (fun i => (⟨c, i, false⟩ : KeyWait)) ++ nonces.map (fun i => (⟨c, i, true⟩ : KeyWait))
  { d1 with keys := { d1.keys with
      waits := d1.keys.waits ++ ws, useWrites := d1.keys.useWrites ++ ks.filter (fun i => !d1.keys.useWrites.contains i) } }

/-- Resolve the keys of a context's request (rows 5 to 8). ivs are the nonce counters the function will draw on if its
keys pass; a request that finds no reserved use or no reserved value waits, and nothing is consumed (R190, R244). -/
def Dev.resolve (d : Dev) (c bay : Nat) (ws : List Want) (ivs : List Nat := []) : Resolved × Dev :=
  match d.keyRows bay ws with
  | some st => (.refused st, d)
  | none =>
    let hs := ws.map (·.handle)
    let need := d.reservationsNeeded bay ws
    let nonces := ivs.filter (fun i => !(d.nonce i).ready)
    let passes := ws.all (fun w => match d.lookup bay w.handle with
      | .key o => (d.useFault o).isNone && (w.after o).isNone
      | _ => false)
    if need ≠ [] ∨ (passes ∧ nonces ≠ []) then (.waits, d.waitReservation c bay need (if passes then nonces else []))
    else
      let objs := ws.filterMap (fun w => match d.lookup bay w.handle with | .key o => some o | _ => none)
      let d1 := (ws.zip objs).foldl (fun a p => a.cacheIn bay hs p.1.handle p.2.entries) d
      let d2 := if ws.any (fun w => !bitOf w.handle 31) then d1.useNode bay 1 else d1
      let d3 := d2.setCtx c { d2.ctx c with handles := hs.dedup.take 8 }
      match d3.useRow bay [] ws with
      | (some st, d4) => (.refused st, d4)
      | (none, d4) => (.keys objs, d4)

/-! ## The Vault (R203 to R207, R218) -/

/-- The bytes of quota a record takes, its extensions included (R206, R207). -/
def Obj.quotaBytes (o : Obj) : Nat :=
  let n := o.key.length
  if n ≤ 64 then 256 else 256 * (1 + (n - 64 + 223) / 224)

/-- What a Vault write adds to the quota. -/
def VaultItem.quotaBytes : VaultItem → Nat
  | .object _ o => o.quotaBytes
  | .entry _ _ => 128

/-- The bytes of a bay's quota in use: records and token entries, deleted and retired ones until they are purged (R207),
and new ones on their way. -/
def Dev.quotaUsed (d : Dev) (bay : Nat) : Nat :=
  let objs := d.keys.objs.filterMap (fun e => if e.1 / 2 ^ 24 = bay then some e.2.quotaBytes else none)
  let ents := d.keys.entries.filterMap (fun e => if e.2.bay = bay then some 128 else none)
  let way := d.keys.writes.filterMap (fun w =>
    let fresh : Bool := match w.item with
      | .object h _ => (Tab.look d.keys.objs (objIndex bay h)).isNone
      | .entry n _ => (Tab.look d.keys.entries n).isNone
    if w.bay = bay ∧ fresh then some w.item.quotaBytes else none)
  (objs ++ ents ++ way).foldl (· + ·) 0

/-- A bay's quota has room for so many bytes more (R196, R223). -/
def Dev.quotaRoom (d : Dev) (bay bytes : Nat) : Bool :=
  decide (d.quotaUsed bay + bytes ≤ d.eff R.VT_BAY_QUOTA 0 bay * 2 ^ 20)

/-- The format that every record is written in (R218). -/
def Dev.floor (d : Dev) : Nat := d.get R.KT_FLEET_FLOOR_FLOOR

/-- Start a Vault write; its record takes an IV under the bay's KEK, an entry under the token-vault key (R167, R205). -/
def Dev.vaultWrite (d : Dev) (w : VaultWrite) : Option Status × Dev :=
  let r := match w.item with
    | .object _ _ => (d.useNode w.bay 1).takeIv w.bay (kekIndex w.bay)
    | .entry _ _ => ((d.useNode w.bay 2).useNode w.bay 3).takeIv w.bay (vaultKeyIndex w.bay)
  match r.1 with
  | .exhausted => (some .keyExhausted, r.2)
  | .entropy => (some .entropyFail, r.2)
  | .iv _ => (none, { r.2 with keys := { r.2.keys with writes := r.2.keys.writes ++ [w] } })

/-- Two writes put the same record or entry in place. -/
def VaultWrite.sameItem (a b : VaultWrite) : Bool :=
  match a.item, b.item with
  | .object h _, .object k _ => a.bay == b.bay && h == k
  | .entry n _, .entry m _ => n == m
  | _, _ => false

/-- The newest contents of a stored object, those of a write on its way among them. -/
def Dev.newestObj (d : Dev) (bay handle : Nat) (o : Obj) : Obj :=
  d.keys.writes.foldl (fun a w => match w.item with
    | .object h x => if w.bay = bay ∧ h = handle then x else a
    | .entry _ _ => a) o

/-- A durable Vault write switches the logical map to the new contents; the uses counted meanwhile stay counted (R190,
R203). -/
def Dev.vaultApply (d : Dev) (w : VaultWrite) : Dev :=
  match w.item with
  | .object h o =>
    let o1 := match Tab.look d.keys.objs (objIndex w.bay h) with
      | some old => { o with usesLeft := old.usesLeft, usesReserved := old.usesReserved }
      | none => o
    { d with keys := { d.keys with objs := Tab.put d.keys.objs (objIndex w.bay h) o1 } }
  | .entry n e => { d with keys := { d.keys with entries := Tab.put d.keys.entries n e } }

end Sys2Proof.Machine
end

