-- ==== Sys2Proof/Machine/Operands.lean ====
section
/-! DEFINITION. The operand forms: the TLVs of each function (R96, R135, R193, R275, R352) and the ways a function reads
them. -/

namespace Sys2Proof.Machine

/-- The TLVs of a function: the public parameters by tag, each required or not, and the number of key TLVs. -/
structure FuncForm where
  func : Nat
  params : List Bool
  keys : Nat
deriving DecidableEq, Repr, Inhabited

/-- Every function code with its TLVs: parameter n has tag n, a key has tag 0x0080 + n (R352). -/
def funcForms : List FuncForm :=
  let req (n : Nat) : List Bool := List.replicate n true
  [⟨0x0101, req 4, 2⟩, ⟨0x0110, req 6, 3⟩, ⟨0x0111, req 5, 2⟩, ⟨0x0120, req 6, 3⟩, ⟨0x0121, req 5, 3⟩, ⟨0x0122, req 4, 2⟩,
   ⟨0x0123, req 4, 2⟩, ⟨0x0130, req 7, 4⟩, ⟨0x0131, req 6, 3⟩, ⟨0x0140, [true, false, true, true], 1⟩,
   ⟨0x0141, [true, false, true, true], 1⟩, ⟨0x0150, req 4, 1⟩, ⟨0x0151, req 4, 1⟩,
   ⟨0x0210, [true, true, false, true], 1⟩, ⟨0x0211, [true, true, false, true], 2⟩, ⟨0x0212, req 2, 2⟩,
   ⟨0x0220, req 6, 1⟩, ⟨0x0221, req 6 ++ [false, true], 1⟩, ⟨0x0222, req 6 ++ [false, true], 1⟩, ⟨0x0223, req 4, 1⟩,
   ⟨0x0224, req 4, 1⟩, ⟨0x0230, req 1, 1⟩, ⟨0x0231, req 1, 2⟩, ⟨0x0232, req 1, 1⟩, ⟨0x0240, [true, false], 1⟩,
   ⟨0x0241, [true, false], 1⟩, ⟨0x0242, [true, false], 1⟩, ⟨0x0243, req 1, 1⟩, ⟨0x0244, req 1, 1⟩,
   ⟨0x0301, req 4 ++ List.replicate 7 false, 0⟩, ⟨0x0302, req 1, 0⟩, ⟨0x0303, req 2, 0⟩,
   ⟨0x0501, req 2, 1⟩, ⟨0x0502, req 5, 0⟩, ⟨0x0503, req 1, 1⟩, ⟨0x0504, req 1, 1⟩, ⟨0x0505, req 3, 0⟩, ⟨0x0506, req 3, 1⟩,
   ⟨0x0507, req 6, 0⟩, ⟨0x0508, req 3, 0⟩, ⟨0x0509, req 2, 0⟩, ⟨0x050A, req 1, 1⟩, ⟨0x050B, req 2, 1⟩, ⟨0x050C, req 5, 0⟩,
   ⟨0x050D, [true, false, false, false, true] ++ List.replicate 7 false, 0⟩]

/-- The form of a function, if its code is defined. -/
def formOf (func : Nat) : Option FuncForm := funcForms.find? (fun f => f.func == func)

/-- The tags of a form, each with whether it is required. -/
def FuncForm.tags (f : FuncForm) : List (Nat × Bool) :=
  ((List.range f.params.length).map (fun i => (i + 1, f.params.getD i false))) ++
  (List.range f.keys).map (fun i => (0x0081 + i, true))

/-- The face's check of a function code and its TLVs (R52, R352). -/
def formFault (func : Nat) (tlvs : List Tlv) : Option Status :=
  match formOf func with
  | none => some .functionUnknown
  | some f =>
    let given := tlvs.map (·.tag)
    if given.any (fun t => !(f.tags.any (fun p => p.1 == t))) || decide (given ≠ given.dedup) then some .tlvMalformed
    else if f.tags.any (fun p => p.2 && !given.contains p.1) then some .tlvMissing
    else none

/-- Read a string of TLVs, if its structure holds (R352). -/
def parseTlvs : Nat → Bytes → Option (List Tlv)
  | _, [] => some []
  | 0, _ => none
  | n + 1, b =>
    if b.length < 4 then none
    else
      let tag := beNat (b.take 2)
      let len := beNat ((b.drop 2).take 2)
      if b.length < 4 + len then none
      else (parseTlvs n (b.drop (4 + len))).map (⟨tag, (b.drop 4).take len⟩ :: ·)

/-! ## Reading parameters -/

/-- The value of a tag, if it is present. -/
def Request.tlv? (r : Request) (tag : Nat) : Option Bytes := (r.tlvs.find? (fun t => t.tag == tag)).map (·.val)

/-- The value of a tag; the empty string where an optional one is absent. -/
def Request.tlv (r : Request) (tag : Nat) : Bytes := (r.tlv? tag).getD []

/-- The number a tag holds, big-endian (R352). -/
def Request.num (r : Request) (tag : Nat) : Nat := beNat (r.tlv tag)

/-- The decimal digits of a string of ASCII characters, if every one is a digit (R352). -/
def asciiDigits (b : Bytes) : Option (List Nat) :=
  if b.all (fun c => 0x30 ≤ c.toNat && c.toNat ≤ 0x39) then some (b.map (fun c => c.toNat - 0x30)) else none

/-- Digits as ASCII characters (R352). -/
def digitsAscii (d : List Nat) : Bytes := d.map (fun x => BitVec.ofNat 8 (0x30 + x))

/-- The decimal digits a tag holds. -/
def Request.digits (r : Request) (tag : Nat) : Option (List Nat) := asciiDigits (r.tlv tag)

/-- The handle in key TLV n, from 0: the first 4 bytes. -/
def Request.handle (r : Request) (n : Nat) : Nat := beNat ((r.tlv (0x0081 + n)).take 4)

/-- The key serial number of a DUKPT input in key TLV n: what follows the handle (R135). -/
def Request.ksn (r : Request) (n : Nat) : Bytes := (r.tlv (0x0081 + n)).drop 4

/-- Output TLVs in the order of the Output column (R352). -/
def outputs (l : List Bytes) : List Tlv := (List.range l.length).map (fun i => ⟨0x8001 + i, l.getD i []⟩)

/-! ## Nibbles and digits -/

/-- The nibbles of a byte string, the high nibble of each byte first. -/
def nibbles (b : Bytes) : List Nat := b.flatMap (fun x => [x.toNat / 16, x.toNat % 16])

/-- The bytes that nibbles spell, two to a byte. -/
def nibbleBytes : List Nat → Bytes
  | a :: b :: r => BitVec.ofNat 8 (16 * a + b) :: nibbleBytes r
  | [a] => [BitVec.ofNat 8 (16 * a)]
  | [] => []

/-- The last n of a list. -/
def lastN {α : Type} (n : Nat) (l : List α) : List α := l.drop (l.length - n)

/-- The Luhn sum of digits whose last is the check digit: every second digit from the right but the first is doubled. -/
def luhnSum (d : List Nat) : Nat :=
  ((List.range d.length).map (fun i =>
    let x := d.reverse.getD i 0
    if i % 2 = 1 then (if 2 * x > 9 then 2 * x - 9 else 2 * x) else x)).foldl (· + ·) 0

/-- Digits pass the Luhn check (R163). -/
def luhnOk (d : List Nat) : Bool := luhnSum d % 10 == 0

/-- The check digit that makes digits pass the Luhn check. -/
def luhnDigit (d : List Nat) : Nat := (10 - luhnSum (d ++ [0]) % 10) % 10

/-- A PAN: 12 to 19 decimal digits (R100). -/
def panOk (d : Option (List Nat)) : Bool :=
  match d with
  | some l => 12 ≤ l.length && l.length ≤ 19
  | none => false

end Sys2Proof.Machine
end

