-- ==== Sys2Proof/Machine/Program.lean ====
section
/-! DEFINITION. How a function program runs: whole, as one command on the context that holds its request (log entry 3).
The public checks, the keys' resolution and the end of the program are shared here; the PIN unit's step lanes too. -/

namespace Sys2Proof.Machine

/-- The program of a context presents its completion (R73); the context holds the request until it retires. -/
def Dev.finish (d : Dev) (c : Nat) (r : Request) (st : Status) (out : List Tlv) : Dev :=
  let x := d.ctx c
  (d.setCtx c { x with state := .waiting }).present ⟨r, c, x.owned, st, if st = .ok then out else []⟩

/-- The handles in the key TLVs of a request. -/
def Request.handles (r : Request) : List Nat :=
  (r.tlvs.filter (fun t => 0x0081 ≤ t.tag && t.tag < 0x0100)).map (fun t => beNat (t.val.take 4))

/-- Run the program of one function on the request a context holds. A context that holds no running request of that
function does nothing. Key-cache capacity precedes every check (R111, R197). -/
def Dev.runProgram (d : Dev) (c func : Nat) (body : Request → Dev → Dev) : Dev :=
  let x := d.ctx c
  match x.req with
  | none => d
  | some r =>
    if x.state = .running ∧ r.func = func then
      if d.cacheBusy r.bay r.handles then (d.refuseBusy r.bay).finish c r .busy []
      else body r d
    else d

/-- Go on with a program if none of its checks gives a status. -/
def Dev.checked (d : Dev) (c : Nat) (r : Request) (checks : List (Option Status)) (k : Dev → Dev) : Dev :=
  match firstFault checks with
  | some st => d.finish c r st []
  | none => k d

/-- The micro-operation of a context that takes an engine's place has been sent: one more is outstanding (R71). -/
def Dev.outstand (d : Dev) (c : Nat) : Dev :=
  let x := d.ctx c
  d.setCtx c { x with outstanding := x.outstanding + 1, state := .waiting }

/-! ## Cores for a program (R63, R68, R231, R253) -/

/-- The job of a micro-operation. -/
def microJob (c : Nat) (r : Request) (dest : Dest) (out : Bytes) (st : Status) (blocks : Nat) : Job where
  supervisor := false
  bay := r.bay
  gen := r.gen
  tag := c
  ctx := c
  req := some r
  func := r.func
  dest := dest
  out := out
  status := st
  clocks := 0
  cost := 0
  blocks := blocks
  finish := .token
  handle := 0
  invalid := false
  abort := false

/-- The unit of Ashlar that a program's work with its keys takes. -/
inductive CoreNeed where
  | none | cipher | hash
deriving DecidableEq, Repr, Inhabited

/-- What the program of a function takes first once its keys have resolved: a hash core for an HMAC and for the digests of vault
mode (R124, R168), a cipher core for other work under a key and for the check value of a new key (R158), none where a key is
only deleted or changed or an engine does the work. -/
def Request.coreNeed (r : Request) : CoreNeed :=
  if r.func = 0x0140 ∨ r.func = 0x0141 then (if 4 ≤ r.num 1 then .hash else .cipher)
  else if r.func = 0x0242 ∨ r.func = 0x0243 ∨ r.func = 0x0244 then .hash
  else if r.func = 0x0301 then (if r.num 2 = 0x48 then .none else .cipher)
  else if r.func < 0x0300 then .cipher
  else .none

/-- A core that a program needs can be claimed, and its clock runs. -/
def Dev.coreServes (d : Dev) (r : Request) : Bool :=
  match r.coreNeed with
  | .none => true
  | .cipher => !d.stopped 4 && d.payCore.isSome
  | .hash => !d.stopped 4 && d.freeHash.isSome

/-- A program whose core does not serve. Behind a stopped clock the core is claimed and never answers: the job ends with
ST_XING_TIMEOUT, at the crossing's timeout or at the wipe after the restart, and the request with it (R31, R92, R253). Where no
core can be claimed, the program waits, and no use of its keys is taken yet: d0 is the block before its keys resolved, d the block
after (R63, R231). -/
def Dev.coreLacks (d0 d : Dev) (c : Nat) (r : Request) : Dev :=
  let j := { microJob c r .none [] .ok 0 with finish := .whole [] }
  match r.coreNeed with
  | .none => d0
  | .cipher =>
    match d0.payCore with
    | none => d0
    | some n => ((d.setCore n ((d.core n).claim j 1)).occur 0x031 (some r.bay) 0).outstand c
  | .hash =>
    match d0.freeHash with
    | none => d0
    | some h => (d.setHash h { Core.idle with cur := j.lock 1, curJob := some j }).outstand c

/-! ## Keys -/

/-- Go on with a program if its keys resolve; a program whose keys wait for a reservation waits, and runs from its start
when that is durable (R190, R244). Its work then goes to a core (R68). -/
def Dev.withKeys (d : Dev) (c : Nat) (r : Request) (ws : List Want) (ivs : List Nat) (k : List Obj → Dev → Dev) : Dev :=
  match d.resolve c r.bay ws ivs with
  | (.refused st, d1) => d1.finish c r st []
  | (.waits, d1) => d1.setCtx c { d1.ctx c with state := .waiting }
  | (.keys l, d1) => if d.coreServes r then k l d1 else d.coreLacks d1 c r

/-- A check that fails with a status. -/
def failIf (b : Bool) (st : Status) : Option Status := if b then some st else none

/-! ## Where a micro-operation's output goes (R68, R69) -/

/-- Write an output where its micro-operation sends it: general registers of 8 bytes, the data buffer, lane registers of 32
bytes with their tag, or the PIN lane. What the PIN unit sends there is its output; what a core sends there is the PIN
field, or the encryption under a PIN verification key. -/
def Ctx.put (x : Ctx) (pinUnit : Bool) (dest : Dest) (out : Bytes) : Ctx :=
  match dest with
  | .none => x
  | .reg n =>
    let l := pieces 8 out
    { x with regs := (List.range l.length).foldl (fun t i =>
        if n + i < 32 then Tab.set t (n + i) 0 (BitVec.ofNat 64 (beNat (l.getD i []))) else t) x.regs }
  | .buf off =>
    { x with buf := (List.range out.length).foldl (fun t i =>
        if off + i < 65536 then Tab.set t (off + i) 0 (out.getD i 0) else t) x.buf }
  | .lane n u a s =>
    let l := pieces 32 out
    { x with lanes := (List.range l.length).foldl (fun t i =>
        if n + i < 64 then Tab.put t (n + i) ⟨l.getD i [], u, a, s, false⟩ else t) x.lanes }
  | .secret n =>
    let l := pieces 32 out
    { x with lanes := (List.range l.length).foldl (fun t i =>
        if n + i < 64 then Tab.put t (n + i) ⟨l.getD i [], .b2, .hmac, false, true⟩ else t) x.lanes }
  | .pinLane => if pinUnit then { x with pinOut := some out } else { x with pinLane := some out }
  | .pinRef => { x with pinRef := some out }

/-- Write an output to a context. -/
def Dev.applyDest (d : Dev) (c : Nat) (pinUnit : Bool) (dest : Dest) (out : Bytes) : Dev :=
  d.setCtx c ((d.ctx c).put pinUnit dest out)

/-! ## The PIN unit's step lanes (R572, R97, R106, R119, R120) -/

/-- The step lanes of the PIN unit (R572). -/
def pinLaneCount : Nat := 24

/-- The fixed length of the PIN unit step of a function, in key-island clocks (R96). -/
def pinStepClocks (func : Nat) : Nat :=
  if func = 0x0101 then 192
  else if func = 0x0150 ∨ func = 0x0151 then 96
  else if func = 0x0120 ∨ func = 0x0123 ∨ func = 0x0130 ∨ func = 0x0131 then 576
  else 288

/-- The lowest-numbered free step lane (R572). -/
def Dev.freeLane (d : Dev) : Option Nat :=
  (List.range pinLaneCount).find? (fun l => (Tab.look d.eng.pinLanes l).isNone)

/-- The oldest waiting PIN micro-operation takes the lowest-numbered free lane (R572). -/
def Dev.pinGrant (d : Dev) : Dev :=
  match d.eng.pinWait, d.freeLane with
  | j :: rest, some l => { d with eng := { d.eng with pinWait := rest, pinLanes := Tab.put d.eng.pinLanes l j } }
  | _, _ => d

/-- A PIN micro-operation reaches the PIN unit: it takes a free lane at once where none waits before it (R572). -/
def Dev.pinSend (d : Dev) (j : Job) : Dev :=
  let d1 : Dev := { d with eng := { d.eng with pinWait := d.eng.pinWait ++ [j] } }
  if d.eng.pinWait = [] then d1.pinGrant else d1

/-- The PIN unit step of a whole function: its output and its true status, which the result stage holds as the request's
deferred status (R106). -/
def Dev.pinStep (d : Dev) (c : Nat) (r : Request) (st : Status) (out : List Tlv) : Dev :=
  let j : Job := { supervisor := false, bay := r.bay, gen := r.gen, tag := c, ctx := c, req := some r, func := r.func,
                   dest := .none, out := [], status := st, clocks := pinStepClocks r.func, cost := 0, blocks := 0,
                   finish := .whole out, handle := 0, invalid := false, abort := false }
  (d.outstand c).pinSend j

/-- A step's true status counts against the bay's governor (R119): the PIN statuses of a PIN step, and the failure of CVV
verification while PN_BAY_GOV_CTL.CVV is 1. -/
def Dev.stepFails (d : Dev) (j : Job) : Bool :=
  if j.func = 0x0151 then j.status = .verifyFailed && d.eff R.PN_BAY_GOV_CTL_CVV 0 j.bay == 1
  else j.status = .pinFormat || j.status = .pinLength || j.status = .verifyFailed

/-- The first status other than ST_OK. -/
def Status.orElse (a b : Status) : Status := if a = .ok then b else a

/-- A PIN unit step ends at a clock count. At its fixed length it returns ST_OK and its true status becomes the deferred
status; the failure is counted whether or not the result is delivered (R106, R120). At any other count the result is
discarded and the request ends with ST_ENGINE_FAULT (R97). -/
def Dev.pinStepEnd (d : Dev) (lane clocks : Nat) : Dev :=
  match Tab.look d.eng.pinLanes lane with
  | none => d
  | some j =>
    let d1 : Dev := { d with eng := { d.eng with pinLanes := Tab.del d.eng.pinLanes lane } }
    let whole : Bool := match j.finish with | .whole _ => true | _ => false
    let d2 := if whole then d1.settle j.ctx else d1
    let x := d2.ctx j.ctx
    let holds := x.req.isSome && decide (x.req = j.req)
    if clocks ≠ j.clocks then
      let d3 := ((d2.bumpSat R.PN_TIME_FAULTS).raiseInt .pn 0 2).mark .pnTimeFault .key 0 j.bay j.func clocks j.clocks
      match j.req with
      | some r =>
        if whole then (if holds then d3.finish j.ctx r .engineFault [] else d3)
        else d3.jobToken j.ctx j.req .engineFault
      | none => d3
    else
      let d3 := (d2.bumpWrap R.PN_STEPS).occur 0x050 (some j.bay)
      let d4 : Dev := if d.stepFails j then
          { d3 with sched := { d3.sched with failures := d3.sched.failures ++ [j.bay] } }
        else d3
      match j.req, j.finish with
      | some r, .whole out => if holds then d4.finish j.ctx r (x.deferred.orElse j.status) out else d4
      | _, _ =>
        if holds then
          let y : Ctx := { x with deferred := x.deferred.orElse j.status }
          ((d4.setCtx j.ctx y).applyDest j.ctx true j.dest j.out).jobToken j.ctx j.req .ok
        else d4.jobToken j.ctx j.req .ok

end Sys2Proof.Machine
end

