-- ==== Sys2Proof/Machine/Dukpt.lean ====
section
/-! DEFINITION. DUKPT (R137 to R145): key serial numbers, their checks, the AES and TDES derivations, and the keys a
function may name by a DUKPT input. -/

namespace Sys2Proof.Machine

/-! ## Key serial numbers (R137 to R139) -/

/-- The counter of a KSN: 32 bits of the AES form, 21 bits of the TDES form (R137). -/
def ksnCounter (ksn : Bytes) : Nat :=
  if ksn.length = 12 then beNat (ksn.drop 8) else beNat ksn % 2 ^ 21

/-- The one-bits of a number of at most 32 bits. -/
def oneBits (x : Nat) : Nat := ((List.range 32).filter (fun i => x.testBit i)).length

/-- The TDES KSN with its counter bits cleared (R143). -/
def ksnBase (ksn : Bytes) : Bytes := beBytes 10 (beNat ksn / 2 ^ 21 * 2 ^ 21)

/-- Row 3 for a KSN (R137, R138, R139): a length that no form has, and a counter of 0. -/
def ksnFormFault (ksn : Bytes) : Option Status :=
  if ksn.length ≠ 10 ∧ ksn.length ≠ 12 then some .ksnFormat
  else if ksnCounter ksn = 0 then some .inputRange
  else none

/-- Row 8 for a KSN under the key named (R137 to R139): the form of the other algorithm, another identifier, a counter with
more one-bits than the form's limit. -/
def ksnKeyFault (ksn : Bytes) (o : Obj) : Option Status :=
  let aes := o.attrs.alg = .aes
  let b1 := o.attrs.usage = .b1
  let id := if aes then ksn.take 8 else ksnBase ksn
  let want := if b1 then o.attrs.initialKeyId else o.attrs.keySetId
  let shown := if b1 then id else ksn
  if ksn.length ≠ (if aes then 12 else 10) then some .ksnFormat
  else if want ≠ [] ∧ shown.take want.length ≠ want then some .bdkMismatch
  else if oneBits (ksnCounter ksn) > (if aes then 16 else 10) then some .keyExhausted
  else none

/-! ## AES DUKPT (R140, R141) -/

/-- The algorithm indicator of an AES key length in bytes (R140). -/
def aesIndicator (len : Nat) : Nat := if len = 16 then 2 else if len = 24 then 3 else 4

/-- One derivation of R140: the derivation-data blocks enciphered under the parent, cut to the length. -/
def aesDerive (parent : Bytes) (usage indicator len : Nat) (data : Bytes) : Bytes :=
  let block (i : Nat) : Bytes :=
    aesEncrypt parent ([0x01#8] ++ beBytes 1 i ++ beBytes 2 usage ++ beBytes 2 indicator ++ beBytes 2 (8 * len) ++ data)
  (block 1 ++ (if len > 16 then block 2 else [])).take len

/-- The intermediate key that the one-bits of the counter lead to, from the highest down (R141). -/
def aesIntermediate (ik : Bytes) (derivationId : Bytes) (counter : Nat) : Bytes :=
  ((List.range 32).reverse.foldl (fun (s : Bytes × Nat) bit =>
    if counter.testBit bit then
      let c := s.2 + 2 ^ bit
      (aesDerive s.1 0x8000 (aesIndicator ik.length) ik.length (derivationId ++ beBytes 4 c), c)
    else s) (ik, 0)).1

/-- The initial key of an AES BDK (R141). -/
def aesInitialKey (bdk initialKeyId : Bytes) : Bytes :=
  aesDerive bdk 0x8001 (aesIndicator bdk.length) bdk.length initialKeyId

/-- The AES working key of a usage indicator, with its algorithm indicator and length (R141). -/
def aesWorking (o : Obj) (ksn : Bytes) (usage indicator len : Nat) : Bytes :=
  let derivationId := (ksn.take 8).drop 4
  let ik := if o.attrs.usage = .b1 then o.key else aesInitialKey o.key (ksn.take 8)
  aesDerive (aesIntermediate ik derivationId (ksnCounter ksn)) usage indicator len (derivationId ++ ksn.drop 8)

/-! ## TDES DUKPT (R143) -/

/-- The mask of R143. -/
def dukptMask : Bytes := beBytes 16 0xC0C0C0C000000000C0C0C0C000000000

/-- The initial key of a TDES BDK (R143). -/
def tdesInitialKey (bdk ksn : Bytes) : Bytes :=
  let base := (ksnBase ksn).take 8
  tdesEncrypt bdk base ++ tdesEncrypt (xorB bdk dukptMask) base

/-- One non-reversible step of R143. -/
def nrkgp (k r : Bytes) : Bytes :=
  let half (k : Bytes) : Bytes := xorB (desBlock false (k.take 8) (xorB r (k.drop 8))) (k.drop 8)
  half (xorB k dukptMask) ++ half k

/-- The key that the one-bits of the counter lead to (R143). -/
def tdesCurrent (ik ksn : Bytes) : Bytes :=
  let reg0 := beNat ((ksnBase ksn).drop 2)
  ((List.range 21).reverse.foldl (fun (s : Bytes × Nat) bit =>
    if (ksnCounter ksn).testBit bit then
      let reg := s.2 + 2 ^ bit
      (nrkgp s.1 (beBytes 8 reg), reg)
    else s) (ik, reg0)).1

/-- The TDES working key of a variant; a data key takes one more step (R142, R143). -/
def tdesWorking (o : Obj) (ksn : Bytes) (variant : Nat) (data : Bool) : Bytes :=
  let ik := if o.attrs.usage = .b1 then o.key else tdesInitialKey o.key ksn
  let w := xorB (tdesCurrent ik ksn) (beBytes 8 variant ++ beBytes 8 variant)
  if data then tdesEncrypt w (w.take 8) ++ tdesEncrypt w (w.drop 8) else w

/-! ## Working keys of functions (R142) -/

/-- What a DUKPT working key is for. -/
inductive DukptUse where
  | pin | macGen | macVerify | data
deriving DecidableEq, Repr

/-- The AES usage indicator (R142). -/
def DukptUse.aes : DukptUse → Nat
  | .pin => 0x1000 | .macGen => 0x2000 | .macVerify => 0x2001 | .data => 0x3001

/-- The TDES variant (R142). -/
def DukptUse.tdes : DukptUse → Nat
  | .pin => 0xFF | .macGen => 0xFF00 | .macVerify => 0xFF000000 | .data => 0xFF0000

/-- The working key of a BDK or initial key and a KSN, with the algorithm and length of the key itself (R96, R141, R143). -/
def dukptWorking (o : Obj) (ksn : Bytes) (u : DukptUse) : Bytes :=
  if o.attrs.alg = .aes then aesWorking o ksn u.aes (aesIndicator o.key.length) o.key.length
  else tdesWorking o ksn u.tdes (u = .data)

/-- An AES key length. -/
def aesLen (n : Nat) : Bool := n == 16 || n == 24 || n == 32

/-- A key or initial key that DUKPT may start from, of an algorithm: B0 or B1, TDES with a double-length key only (R69,
R143). -/
def bdkFits (o : Obj) (alg : Alg) : Bool :=
  o.attrs.type = .symmetric && (o.attrs.usage = .b0 || o.attrs.usage = .b1) && o.attrs.alg = alg &&
    (if alg = .aes then aesLen o.key.length else o.key.length == 16)

/-- A symmetric key of a usage without a token profile. -/
def Obj.plain (o : Obj) (u : Usage) : Bool := o.attrs.type = .symmetric && o.attrs.usage = u && o.attrs.profile.isNone

/-- The form of key TLV n: a handle of 4 bytes, followed by a KSN where one may stand (R135, R137, R138). -/
def Request.keyForm (r : Request) (n : Nat) (dukpt : Bool) : Option Status :=
  let v := r.tlv (0x0081 + n)
  if v.length < 4 ∨ (v.length > 4 ∧ !dukpt) then some .inputRange
  else if v.length > 4 then ksnFormFault (v.drop 4)
  else none

/-- A key that may be a DUKPT input: with a KSN it is a BDK or initial key of the algorithm, and row 8 checks the KSN. -/
def Request.wantOr (r : Request) (n : Nat) (alg : Alg) (fits : Obj → Bool) : Want :=
  let ksn := r.ksn n
  if ksn = [] then { handle := r.handle n, fits := fits }
  else { handle := r.handle n, fits := fun o => bdkFits o alg, after := ksnKeyFault ksn }

/-- The key value a function works with: the key's own, or the DUKPT working key. -/
def Request.keyValue (r : Request) (n : Nat) (o : Obj) (u : DukptUse) : Bytes :=
  if r.ksn n = [] then o.key else dukptWorking o (r.ksn n) u

end Sys2Proof.Machine
end

