-- ==== Sys2Proof/Machine/KeyBlock.lean ====
section
/-! DEFINITION. Key blocks of ANSI X9.143 versions B and D (R154 to R160): header and optional blocks, their checks, the
authenticator and the encrypted key field, key check values. What the standard fixes and the spec names only is log entry
13. -/

namespace Sys2Proof.Machine

/-! ## Characters -/

/-- The value of a hexadecimal character. -/
def hexVal (c : Byte) : Option Nat :=
  let n := c.toNat
  if 0x30 ≤ n ∧ n ≤ 0x39 then some (n - 0x30)
  else if 0x41 ≤ n ∧ n ≤ 0x46 then some (n - 0x37)
  else if 0x61 ≤ n ∧ n ≤ 0x66 then some (n - 0x57)
  else none

/-- The bytes that hexadecimal characters spell, an even number of them. -/
def unhex : Bytes → Option Bytes
  | [] => some []
  | [_] => none
  | a :: b :: r =>
    match hexVal a, hexVal b, unhex r with
    | some x, some y, some l => some (BitVec.ofNat 8 (16 * x + y) :: l)
    | _, _, _ => none

/-- A hexadecimal character. -/
def hexChar (n : Nat) : Byte := BitVec.ofNat 8 (if n < 10 then 0x30 + n else 0x37 + n)

/-- Bytes as hexadecimal characters. -/
def hex (b : Bytes) : Bytes := b.flatMap (fun x => [hexChar (x.toNat / 16), hexChar (x.toNat % 16)])

/-- A number as n decimal characters. -/
def decChars (n x : Nat) : Bytes := digitsAscii (natDigits n x)

/-- The number that decimal characters spell. -/
def decVal (b : Bytes) : Option Nat := (asciiDigits b).map digitsNat

/-! ## Header (R155) -/

/-- A key block's header and optional blocks as they are read. -/
structure KbHeader where
  aes : Bool
  usage : Usage
  alg : Alg
  mode : ModeOfUse
  keyVersion : Nat
  exportable : Bool
  optional : List (Nat × Bytes)
  len : Nat
deriving DecidableEq, Repr, Inhabited

/-- The modes of use X9.143 permits for a usage (R155, log entry 13). -/
def modesOf (u : Usage) : List ModeOfUse :=
  match u with
  | .b0 | .b1 | .b2 | .e0 | .e1 | .e2 | .e3 | .e4 | .e5 | .e6 => [.x, .n]
  | .d0 | .k0 | .k1 | .p0 => [.b, .d, .e, .n]
  | .c0 | .m0 | .m1 | .m3 | .m6 | .m7 | .v1 | .v2 => [.c, .g, .v, .n]

/-- The algorithm a character names (R155). -/
def algOfChar (c : Nat) : Option Alg :=
  if c = 0x41 then some .aes else if c = 0x54 then some .tdes else if c = 0x48 then some .hmac else none

/-- The characters of an optional block's ID as one number. -/
def obId (a b : Nat) : Nat := a * 256 + b

/-- KS, IK, KP, HM, TS, PB (R156). -/
def obKS : Nat := 0x4B53
def obIK : Nat := 0x494B
def obKP : Nat := 0x4B50
def obHM : Nat := 0x484D
def obTS : Nat := 0x5453
def obPB : Nat := 0x5042

/-- Read n optional blocks; the blocks and their whole length. A block's length counts its ID and length characters; a
length of 00 is followed by the number of length bytes and the length (log entry 13). -/
def readOptional : Nat → Bytes → Option (List (Nat × Bytes) × Nat)
  | 0, _ => some ([], 0)
  | n + 1, b =>
    match unhex ((b.drop 2).take 2) with
    | some [l] =>
      let short := l.toNat
      let head := if short = 0 then 6 + 2 * ((unhex ((b.drop 4).take 2)).map beNat).getD 0 else 4
      let len := if short = 0 then ((unhex ((b.drop 6).take (head - 6))).map beNat).getD 0 else short
      if b.length < 4 ∨ len < head ∨ b.length < len then none
      else
        match readOptional n (b.drop len) with
        | some (r, m) => some ((beNat (b.take 2), (b.take len).drop head) :: r, len + m)
        | none => none
    | _ => none

/-- The header checks of R155, in the order of the characters. -/
def kbHeaderFault (b : Bytes) : Option Status :=
  let ch (i : Nat) : Nat := (b.getD i 0#8).toNat
  let len := (decVal ((b.drop 1).take 4)).getD 0
  let usage := Usage.ofChars (obId (ch 5) (ch 6))
  let mode := ModeOfUse.ofChar (ch 8)
  let kvn := (decVal ((b.drop 9).take 2)).isSome
  let component := ch 9 = 0x63 ∧ 0x30 ≤ ch 10 ∧ ch 10 ≤ 0x39
  let count := decVal ((b.drop 12).take 2)
  firstFault [
    failIf (b.length < 16) .kbHeader,
    failIf (ch 0 ≠ 0x42 && ch 0 ≠ 0x44) .kbUnsupported,
    failIf (len ≠ b.length || len < 48 || len > 9992) .kbHeader,
    failIf usage.isNone .kbUnsupported,
    failIf (algOfChar (ch 7)).isNone .kbUnsupported,
    failIf (match usage, mode with
      | some u, some m => !(modesOf u).contains m
      | _, _ => true) .kbHeader,
    failIf component .kbUnsupported,
    failIf (!kvn) .kbHeader,
    failIf (ch 11 = 0x53) .kbUnsupported,
    failIf (ch 11 ≠ 0x45 && ch 11 ≠ 0x4E) .kbHeader,
    failIf (match count with | some n => n > 8 | none => true) .kbHeader,
    failIf (ch 14 ≠ 0x30 || ch 15 ≠ 0x30) .kbHeader]

/-- Read the header of a block that passed its checks. -/
def readKbHeader (b : Bytes) : Option KbHeader :=
  let ch (i : Nat) : Nat := (b.getD i 0#8).toNat
  match Usage.ofChars (obId (ch 5) (ch 6)), algOfChar (ch 7), ModeOfUse.ofChar (ch 8),
      readOptional ((decVal ((b.drop 12).take 2)).getD 0) (b.drop 16) with
  | some u, some a, some m, some (o, n) => some ⟨ch 0 = 0x44, u, a, m, beNat ((b.drop 9).take 2), ch 11 = 0x45, o, 16 + n⟩
  | _, _, _, _ => none

/-- The value of an optional block. -/
def KbHeader.block (h : KbHeader) (id : Nat) : Option Bytes := (h.optional.find? (fun p => p.1 == id)).map (·.2)

/-- The optional-block checks of R156 and R160: unknown or repeated blocks, IK required for an AES initial key, KS agreeing
with it, HM required for an HMAC key, the length of KP. -/
def kbOptionalFault (h : KbHeader) : Option Status :=
  let ids := h.optional.map (·.1)
  let known := [obKS, obIK, obKP, obHM, obTS, obPB]
  let aesB1 := h.usage = .b1 && h.alg = .aes
  let ik := h.block obIK
  let ks := h.block obKS
  let hexOf (o : Option Bytes) : Option Bytes := o.bind unhex
  firstFault [
    failIf (ids.any (fun i => !known.contains i) || decide (ids ≠ ids.dedup)) .kbOptblock,
    failIf (aesB1 && ik.isNone) .kbOptblock,
    failIf (ik.isSome && (!aesB1 || ((hexOf ik).map (·.length)) ≠ some 8)) .kbOptblock,
    failIf (ks.isSome && (match hexOf ks with | some v => v.length > 16 | none => true)) .kbOptblock,
    failIf (aesB1 && ks.isSome && decide (hexOf ks ≠ (hexOf ik).map (·.take 4))) .kbOptblock,
    failIf ((h.block obKP).isSome && (h.alg = .hmac || (match (h.block obKP).map (·.length) with
      | some 6 => false
      | some 10 => h.alg ≠ .aes
      | _ => true) || ((h.block obKP).bind unhex).isNone)) .kbOptblock,
    failIf (h.alg = .hmac && (h.block obHM).isNone) .kbOptblock,
    failIf (h.alg ≠ .hmac && (h.block obHM).isSome) .kbOptblock,
    failIf (h.alg = .hmac && (match (h.block obHM).bind decVal with | some 21 => false | some 23 => false | _ => true))
      .kbUnsupported,
    failIf (match h.block obTS with | some v => v.length > 28 | none => false) .kbOptblock]

/-! ## Key check values (R158, R160) -/

/-- A key check value by method 0 or 1 (R160). -/
def keyCheck (alg : Alg) (key : Bytes) (method : Nat) : Bytes :=
  match alg with
  | .aes => if method = 0 then (aesEncrypt key (zeros 16)).take 3 else (cmac .aes key (zeros 16)).take 5
  | .tdes => (tdesEncrypt key (zeros 8)).take 3
  | _ => []

/-- The check value that import and generation return and the record stores (R158). -/
def storedCheck (alg : Alg) (key : Bytes) : Bytes := keyCheck alg key (if alg = .aes then 1 else 0)

/-! ## Protection (R154, log entry 13) -/

/-- The keys derived from a KBPK: usage indicator 0 for encryption, 1 for authentication, by CMAC in counter mode. -/
def kbDerive (aes : Bool) (kbpk : Bytes) (indicator : Nat) : Bytes :=
  let n := kbpk.length
  let alg := if aes then aesIndicator n else if n = 16 then 0 else 1
  let c : Cipher := if aes then .aes else .tdes
  ((List.range ((n + c.block - 1) / c.block)).flatMap (fun i =>
    cmac c kbpk (beBytes 1 (i + 1) ++ beBytes 2 indicator ++ [0#8] ++ beBytes 2 alg ++ beBytes 2 (8 * n)))).take n

/-- The authenticator over header and clear key field. -/
def kbMac (aes : Bool) (kbpk header field : Bytes) : Bytes :=
  cmac (if aes then .aes else .tdes) (kbDerive aes kbpk 1) (header ++ field)

/-- The key field enciphered in CBC with the authenticator as the IV, and back. -/
def kbEncrypt (aes : Bool) (kbpk mac field : Bytes) : Bytes :=
  cbcEnc (if aes then .aes else .tdes) (kbDerive aes kbpk 0) mac field

def kbDecrypt (aes : Bool) (kbpk mac ct : Bytes) : Bytes :=
  cbcDec (if aes then .aes else .tdes) (kbDerive aes kbpk 0) mac ct

/-- The strength of a key in bits, as R157 and R159 compare it (log entry 13). -/
def keyStrength (alg : Alg) (len : Nat) : Nat :=
  match alg with
  | .tdes => if len = 16 then 80 else 112
  | _ => min (8 * len) 256

/-- A key fits under a KBPK: no stronger than it, and no AES key under a TDES one (R157, R159). -/
def strengthOk (kAlg : Alg) (kLen : Nat) (alg : Alg) (len : Nat) : Bool :=
  keyStrength alg len ≤ keyStrength kAlg kLen && !(kAlg = .tdes && alg = .aes)

/-- A key length that agrees with an algorithm (R155). -/
def algLen (alg : Alg) (n : Nat) : Bool :=
  match alg with
  | .aes => aesLen n
  | .tdes => n == 16 || n == 24
  | _ => 16 ≤ n && n ≤ 64

/-- Open a block under a KBPK: the authenticator, then the length field (R157). -/
def kbOpen (b : Bytes) (h : KbHeader) (kbpk : Bytes) : Except Status Bytes :=
  let macLen := if h.aes then 16 else 8
  let rest := b.drop h.len
  match unhex (rest.take (rest.length - 2 * macLen)), unhex (lastN (2 * macLen) rest) with
  | some ct, some mac =>
    if ct = [] ∨ ct.length % macLen ≠ 0 ∨ rest.length < 2 * macLen then .error .kbHeader
    else
      let field := kbDecrypt h.aes kbpk mac ct
      if kbMac h.aes kbpk (b.take h.len) field ≠ mac then .error .keyIntegrity
      else
        let n := beNat (field.take 2)
        if n % 8 ≠ 0 ∨ !algLen h.alg (n / 8) ∨ field.length < 2 + n / 8 then .error .kbHeader
        else .ok ((field.drop 2).take (n / 8))
  | _, _ => .error .kbHeader

/-- An optional block: ID, length, data. -/
def optionalBlock (id : Nat) (data : Bytes) : Bytes := beBytes 2 id ++ hex (beBytes 1 (data.length + 4)) ++ data

/-- The optional blocks of an export, with PB where the header needs a block multiple (R156). pad fills PB. -/
def kbOptionals (aes : Bool) (blocks : List Bytes) (pad : Bytes) : List Bytes :=
  let n : Nat := if aes then 16 else 8
  let len : Nat := (blocks.map (·.length)).foldl (· + ·) 0
  if len % n = 0 then blocks
  else
    let short : Nat := n - len % n
    let fill := if short < 4 then short + n - 4 else short - 4
    blocks ++ [optionalBlock obPB ((hex (pad.take ((fill + 1) / 2))).take fill)]

/-- The length the key field is padded to, before the block multiple (R159). -/
def maxKeyLen (alg : Alg) : Nat :=
  match alg with
  | .aes => 32 | .tdes => 24 | _ => 64

/-- Build a block under a KBPK (R159): version D under AES, B under TDES; pad fills the key field and PB. -/
def kbBuild (kAlg : Alg) (kbpk : Bytes) (o : Obj) (exportable : Bool) (blocks : List Bytes) (pad : Bytes) : Bytes :=
  let aes := kAlg = .aes
  let n := if aes then 16 else 8
  let opts := kbOptionals aes blocks (pad.drop 80)
  let body := 2 + maxKeyLen o.attrs.alg
  let fieldLen := (body + n - 1) / n * n
  let field := beBytes 2 (8 * o.key.length) ++ o.key ++ pad.take (fieldLen - 2 - o.key.length)
  let optChars := opts.flatten
  let total := 16 + optChars.length + 2 * fieldLen + 2 * n
  let header := [if aes then 0x44#8 else 0x42#8] ++ decChars 4 total ++ beBytes 2 o.attrs.usage.chars ++
    beBytes 1 o.attrs.alg.char ++ beBytes 1 o.attrs.mode.char ++ beBytes 2 o.attrs.keyVersion ++
    [if exportable then 0x45#8 else 0x4E#8] ++ decChars 2 opts.length ++ decChars 2 0 ++ optChars
  let mac := kbMac aes kbpk header field
  header ++ hex (kbEncrypt aes kbpk mac field) ++ hex mac

end Sys2Proof.Machine
end

