-- ==== Sys2Proof/Machine/Store.lean ====
section
/-! DEFINITION. How a function puts a key or an entry in the Vault or the session slots, and what a durable write does
(R188, R192, R203, R278). -/

namespace Sys2Proof.Machine

/-- Start the Vault write that ends a whole function: the function completes with ST_OK only when it is durable (R203). -/
def Dev.writeAndWait (d : Dev) (c : Nat) (r : Request) (item : VaultItem) (out : List Tlv) : Dev :=
  match d.vaultWrite ⟨r.bay, item, c, some r, true, out⟩ with
  | (some st, d1) => d1.finish c r st []
  | (none, d1) => d1.outstand c

/-- Room in the bay's cache quota for a session key of so many entries (R192, R197). -/
def Dev.sessionRoom (d : Dev) (bay n : Nat) : Bool :=
  let free := ((d.keys.cache.filter (fun e => e.bay == bay && d.evictable [] e)).map (·.size)).foldl (· + ·) 0
  decide (d.cacheUsed bay + n ≤ d.eff R.KC_BAY_QUOTA 0 bay + free)

/-- Put a new session key in a slot and in the cache (R188, R192). -/
def Dev.addSession (d : Dev) (bay slot : Nat) (o : Obj) : Dev :=
  let seq := d.plinth.powerSeq
  let gen := d.get R.BY_GEN_GEN bay
  let d1 : Dev := { d with keys := { d.keys with
    sess := Tab.put d.keys.sess (sessIndex bay slot) ⟨o, seq, gen⟩, lastSlot := Tab.put d.keys.lastSlot bay slot } }
  d1.cacheIn bay [] (sessionHandle seq gen slot) o.entries

/-- Store a new key for a function and return its handle among the outputs: a session key at once, a stored key when its
record is durable. A full Vault quota gives ST_QUOTA_EXCEEDED, a full cache quota ST_BUSY (R158, R193, R278). -/
def Dev.createKey (d : Dev) (c : Nat) (r : Request) (o : Obj) (session : Bool) (out : Bytes → List Bytes) : Dev :=
  if session then
    match d.nextSlot r.bay with
    | none => d.finish c r .quotaExceeded []
    | some slot =>
      if d.sessionRoom r.bay o.entries then
        let h := sessionHandle d.plinth.powerSeq (d.get R.BY_GEN_GEN r.bay) slot
        (d.addSession r.bay slot o).finish c r .ok (outputs (out (beBytes 4 h)))
      else (d.refuseBusy r.bay).finish c r .busy []
  else
    match d.nextObject r.bay with
    | none => d.finish c r .quotaExceeded []
    | some n =>
      if d.quotaRoom r.bay o.quotaBytes then
        let d1 : Dev := { d with keys := { d.keys with lastObj := Tab.put d.keys.lastObj r.bay n } }
        d1.writeAndWait c r (.object n o) (outputs (out (beBytes 4 n)))
      else d.finish c r .quotaExceeded []

/-- A Vault write becomes durable: the new contents are in place, a deleted key leaves the cache, the pending slots of a
new entry are live, and the function that waits completes with ST_OK (R169, R203). Writes of one record become durable in
their order. -/
def Dev.writeDurable (d : Dev) (n : Nat) : Dev :=
  match (d.keys.writes[n]?).bind (fun w => d.keys.writes.find? (fun v => v.sameItem w)) with
  | none => d
  | some w =>
    let d1 := (({ d with keys := { d.keys with writes := d.keys.writes.erase w } }).vaultApply w).occur 0x0C0 none 1
    let d2 := match w.item with
      | .object h o => if o.deletedAt.isSome then d1.cacheOut w.bay h else d1
      | .entry _ e => { d1 with keys := { d1.keys with
          slots := d1.keys.slots.filter (fun s => !(s.bay == e.bay && s.pan == e.pan)) } }
    match w.req with
    | none => d2
    | some r =>
      if w.whole then
        let d3 := d2.settle w.ctx
        if (d3.ctx w.ctx).req = some r then d3.finish w.ctx r .ok w.out else d3
      else d2.jobToken w.ctx w.req .ok

/-- A new object written in the format of the fleet format floor (R218). -/
def Dev.newObj (d : Dev) (a : Attrs) (key : Bytes) : Obj where
  attrs := a
  key := key
  format := d.floor
  created := d.plinth.seconds
  deletedAt := none
  restorePending := false
  usesLeft := a.useLimit
  usesReserved := 0
  timeStamp := []
  intact := true

end Sys2Proof.Machine
end

