-- ==== Sys2Proof/Machine/DukptEmv.lean ====
section
/-! DEFINITION. DUKPT data, EMV cryptograms and key blocks (ch. 04, R135 to R160): the meaning of functions 0x0210 to
0x0212, 0x0220 to 0x0224 and 0x0230 to 0x0232. -/

namespace Sys2Proof.Machine

/-! ## DUKPT data (R144, R145) -/

/-- The length of a working key by its algorithm indicator (R140). -/
def indicatorLen (i : Nat) : Option Nat :=
  if i = 0 ∨ i = 2 then some 16 else if i = 1 ∨ i = 3 then some 24 else if i = 4 then some 32 else none

/-- A BDK or initial key for a data working key of an algorithm indicator: at most as long as the BDK; a TDES BDK gives
two-key TDES only (R140, R142, R143). -/
def dataBdkFits (i : Nat) (o : Obj) : Bool :=
  (bdkFits o .aes && (indicatorLen i).any (· ≤ o.key.length)) || (bdkFits o .tdes && i == 0)

/-- The working key of the data functions. -/
def dataWorking (o : Obj) (ksn : Bytes) (i : Nat) : Bytes :=
  if o.attrs.alg = .aes then aesWorking o ksn DukptUse.data.aes i ((indicatorLen i).getD 0)
  else tdesWorking o ksn DukptUse.data.tdes true

/-- Row 3 of the data functions (R137, R138, R140, R144). -/
def dukptDataFault (r : Request) : Option Status :=
  let aes := r.num 2 ≥ 2
  let n := (r.tlv 4).length
  firstFault [ksnFormFault (r.tlv 1), failIf (indicatorLen (r.num 2)).isNone .inputRange,
    failIf (aes && (r.tlv 3).length ≠ 16) .inputRange,
    failIf (n < 8 || n > 61440 || n % (if aes then 16 else 8) ≠ 0) .inputRange, r.keyForm 0 false]

/-- The clear data of a request under its working key (R144). -/
def dukptClear (r : Request) (o : Obj) : Bytes :=
  let key := dataWorking o (r.tlv 1) (r.num 2)
  if r.num 2 ≥ 2 then cbcDec .aes key (r.tlv 3) (r.tlv 4) else cbcDec .tdes key (zeros 8) (r.tlv 4)

/-- The BDK of a data function. -/
def wantBdk (r : Request) : Want :=
  { handle := r.handle 0, fits := dataBdkFits (r.num 2), after := ksnKeyFault (r.tlv 1) }

/-- 0x0210: decrypt under a DUKPT data key (R144). -/
def dukptDataDecryption (c : Nat) (d : Dev) : Dev :=
  d.runProgram c 0x0210 fun r d =>
    d.checked c r [dukptDataFault r] fun d =>
      d.withKeys c r [wantBdk r] [] fun ks d => d.finish c r .ok (outputs [dukptClear r (ks.getD 0 default)])

/-- A D0 key of AES-256 that enciphers data (R135, R144). -/
def d0Fits (o : Obj) : Bool :=
  o.plain .d0 && o.attrs.alg = .aes && o.key.length == 32 && (o.attrs.mode = .e || o.attrs.mode = .b)

/-- 0x0211: decrypt under a DUKPT data key and encipher under a D0 key with a hardware IV: IV, ciphertext and tag (R144). -/
def dukptDataTranslation (c : Nat) (d : Dev) : Dev :=
  d.runProgram c 0x0211 fun r d =>
    let i := nonceIndex r.bay (r.handle 1)
    d.checked c r [dukptDataFault r, r.keyForm 1 false] fun d =>
      d.withKeys c r [wantBdk r, { handle := r.handle 1, fits := d0Fits }] [i] fun ks d =>
        match d.takeIv r.bay i with
        | (.exhausted, d1) => d1.finish c r .keyExhausted []
        | (.entropy, d1) => d1.finish c r .entropyFail []
        | (.iv iv, d1) =>
          let e := gcmEnc (ks.getD 1 default).key iv [] (dukptClear r (ks.getD 0 default))
          d1.finish c r .ok (outputs [iv ++ e.1 ++ e.2])

/-- A key that protects key blocks, for wrapping or unwrapping (R157, R159). -/
def kbpkFits (usages : List Usage) (wrap : Bool) (o : Obj) : Bool :=
  o.attrs.type = .symmetric && usages.contains o.attrs.usage && algLen o.attrs.alg o.key.length && o.attrs.alg ≠ .hmac &&
    (o.attrs.mode = .b || o.attrs.mode = (if wrap then .e else .d))

/-- The random bytes that pad a block come from the bay's DRBG (R156, R159). -/
def Dev.withPad (d : Dev) (c : Nat) (r : Request) (k : Bytes → Dev → Dev) : Dev :=
  match d.drbgDraw r.bay 96 with
  | some (b, d1) => k b d1
  | none => d.finish c r .entropyFail []

/-- The export options: bit 0 RE_EXPORT, bit 1 asks for a KP block. -/
def exportFault (v : Nat) : Option Status := failIf (v > 3) .inputRange

/-- The refusals of an export (R159). -/
def exportRefusal (k o : Obj) : Option Status :=
  firstFault [failIf (!o.attrs.exportable) .kbExport,
    failIf (!strengthOk k.attrs.alg k.key.length o.attrs.alg o.key.length) .kbStrength]

/-- The optional blocks of a key on export (R156). -/
def exportBlocks (o : Obj) (kp : Bool) : List Bytes :=
  (if o.attrs.keySetId ≠ [] then [optionalBlock obKS (hex o.attrs.keySetId)] else []) ++
  (if o.attrs.usage = .b1 && o.attrs.alg = .aes then [optionalBlock obIK (hex o.attrs.initialKeyId)] else []) ++
  (if kp && o.attrs.alg ≠ .hmac then [optionalBlock obKP (hex (storedCheck o.attrs.alg o.key))] else []) ++
  (if o.attrs.alg = .hmac then [optionalBlock obHM (decChars 2 (if o.attrs.hmacSha512 then 23 else 21))] else [])

/-- 0x0212: derive an initial key and export it as a key block of usage B1 (R145). -/
def dukptInitialKeyExport (c : Nat) (d : Dev) : Dev :=
  d.runProgram c 0x0212 fun r d =>
    let id := r.tlv 1
    let opts := r.num 2
    let aes := id.length = 8
    let form (o : Obj) : Option Status :=
      let shown := o.attrs.keySetId
      if (o.attrs.alg = .aes) ≠ aes then some .ksnFormat
      else if shown ≠ [] ∧ id.take shown.length ≠ shown then some .bdkMismatch
      else none
    let b0 (o : Obj) : Bool := o.attrs.usage = .b0 && (bdkFits o .aes || bdkFits o .tdes)
    d.checked c r [failIf (id.length ≠ 8 && id.length ≠ 10) .ksnFormat, exportFault opts, r.keyForm 0 false,
        r.keyForm 1 false] fun d =>
      d.withKeys c r [{ handle := r.handle 0, fits := b0, after := form },
          { handle := r.handle 1, fits := kbpkFits [.k1] true }] [] fun ks d =>
        let b := ks.getD 0 default
        let k := ks.getD 1 default
        let key := if aes then aesInitialKey b.key id else tdesInitialKey b.key id
        let a : Attrs := { b.attrs with
          usage := .b1, mode := .x, keySetId := if aes then [] else ksnBase id,
          initialKeyId := if aes then id else ksnBase id }
        let ik : Obj := { b with attrs := a, key := key }
        d.checked c r [exportRefusal k ik] fun d =>
          d.withPad c r fun pad d =>
            let block := kbBuild k.attrs.alg k.key ik (opts.testBit 0 && b.attrs.exportable)
              (exportBlocks ik (opts.testBit 1)) pad
            d.finish c r .ok (outputs [block])

/-! ## EMV (R146 to R152) -/

/-- The cipher of a key's algorithm. -/
def Alg.cipher (a : Alg) : Cipher := if a = .aes then .aes else .tdes

/-- The card master key by option A (R146): PAN digits, PSN digits. -/
def cardMasterKey (alg : Alg) (imk : Bytes) (pan psn : List Nat) : Bytes :=
  let d := pan ++ psn
  if alg = .aes then
    let y := nibbleBytes (lastN 32 (List.replicate 32 0 ++ d))
    (aesEncrypt imk y ++ aesEncrypt imk (xorB y (List.replicate 16 0xFF#8))).take imk.length
  else
    let y := nibbleBytes (lastN 16 (List.replicate 16 0 ++ d))
    tdesEncrypt imk y ++ tdesEncrypt imk (xorB y (List.replicate 8 0xFF#8))

/-- The common session key (R147). -/
def emvSessionKey (alg : Alg) (mk atc : Bytes) : Bytes :=
  let n := alg.cipher.block
  let part (b : Byte) : Bytes := alg.cipher.enc mk (atc ++ [b] ++ zeros (n - 3))
  if alg = .aes then (part 0xF0#8 ++ part 0x0F#8).take mk.length else part 0xF0#8 ++ part 0x0F#8

/-- The cryptogram MAC (R148, R152): algorithm 3 with a padding method, or the leftmost 8 bytes of AES-CMAC. -/
def emvMac (alg : Alg) (key : Bytes) (padding : Nat) (m : Bytes) : Bytes :=
  if alg = .aes then (cmac .aes key m).take 8 else isoMac3 key padding m

/-- The EMV options: bit 0 SKD, bit 1 PAD1, bit 2 ARPC_KEY, bit 3 method 2 (R147 to R149). -/
structure EmvOptions where
  skd : Bool
  pad1 : Bool
  arpcMaster : Bool
  method2 : Bool
deriving DecidableEq, Repr

/-- Read the options. -/
def emvOptions (v : Nat) : EmvOptions := ⟨v.testBit 0, v.testBit 1, v.testBit 2, v.testBit 3⟩

/-- The ARPC (R149). -/
def arpc (alg : Alg) (key arqc arc prop : Bytes) (method2 : Bool) : Bytes :=
  if method2 then
    let m := arqc ++ arc ++ prop
    (if alg = .aes then cmac .aes key m else isoMac3 key 2 m).take 4
  else if alg = .aes then (aesEncrypt key (xorB (arqc ++ zeros 8) (arc ++ zeros 14))).take 8
  else tdesEncrypt key (xorB arqc (arc ++ zeros 6))

/-- An issuer master key (R146). -/
def emvFits (u : Usage) (o : Obj) : Bool :=
  o.plain u && ((o.attrs.alg = .aes && aesLen o.key.length) ||
    (o.attrs.alg = .tdes && (o.key.length == 16 || o.key.length == 24)))

/-- Rows 2 and 3 of the EMV functions: PAN, PSN, ATC (R146, R147). -/
def emvFault (r : Request) : Option Status :=
  firstFault [panFault' (r.digits 1), digits2 (r.digits 2), failIf ((r.tlv 3).length ≠ 2) .inputRange, r.keyForm 0 false]
where
  panFault' (p : Option (List Nat)) : Option Status := failIf (!panOk p) .panFormat
  digits2 (p : Option (List Nat)) : Option Status := failIf (p.map (·.length) ≠ some 2) .inputRange

/-- Row 3 of the cryptogram functions: transaction data, options, ARQC (R148); ARC or CSU and proprietary data (R149). -/
def cryptogramFault (r : Request) (arqcTag : Nat) (withArpc : Bool) : Option Status :=
  let n := (r.tlv 4).length
  let opts := r.num 5
  firstFault [failIf (n < 1 || n > 256) .inputRange, failIf (opts > 15) .inputRange,
    failIf ((r.tlv arqcTag).length ≠ 8) .inputRange,
    failIf (withArpc && ((r.tlv 6).length ≠ (if opts.testBit 3 then 4 else 2) || (r.tlv 7).length > 8)) .inputRange]

/-- The master and session keys of a request. -/
def emvKeys (r : Request) (o : Obj) (skd : Bool) : Bytes × Bytes :=
  let mk := cardMasterKey o.attrs.alg o.key ((r.digits 1).getD []) ((r.digits 2).getD [])
  (mk, if skd then emvSessionKey o.attrs.alg mk (r.tlv 3) else mk)

/-- Whether the ARQC of a request verifies (R148). -/
def arqcOk (r : Request) (o : Obj) (arqcTag : Nat) : Bool :=
  let e := emvOptions (r.num 5)
  emvMac o.attrs.alg (emvKeys r o e.skd).2 (if e.pad1 then 1 else 2) (r.tlv 4) == r.tlv arqcTag

/-- The ARPC of a request (R149). -/
def requestArpc (r : Request) (o : Obj) : Bytes :=
  let e := emvOptions (r.num 5)
  let k := emvKeys r o e.skd
  arpc o.attrs.alg (if e.arpcMaster then k.1 else k.2) (r.tlv 8) (r.tlv 6) (r.tlv 7) e.method2

/-- 0x0220: verify an ARQC (R148). -/
def arqcVerification (c : Nat) (d : Dev) : Dev :=
  d.runProgram c 0x0220 fun r d =>
    d.checked c r [emvFault r, cryptogramFault r 6 false] fun d =>
      d.withKeys c r [{ handle := r.handle 0, fits := emvFits .e0 }] [] fun ks d =>
        d.finish c r (if arqcOk r (ks.getD 0 default) 6 then .ok else .verifyFailed) []

/-- 0x0221: verify an ARQC and generate the ARPC, dropped where the ARQC fails (R150). -/
def arqcVerifyArpcGeneration (c : Nat) (d : Dev) : Dev :=
  d.runProgram c 0x0221 fun r d =>
    d.checked c r [emvFault r, cryptogramFault r 8 true] fun d =>
      d.withKeys c r [{ handle := r.handle 0, fits := emvFits .e0 }] [] fun ks d =>
        let o := ks.getD 0 default
        d.finish c r (if arqcOk r o 8 then .ok else .verifyFailed) (outputs [requestArpc r o])

/-- 0x0222: generate an ARPC (R149). -/
def arpcGeneration (c : Nat) (d : Dev) : Dev :=
  d.runProgram c 0x0222 fun r d =>
    d.checked c r [emvFault r, cryptogramFault r 8 true] fun d =>
      d.withKeys c r [{ handle := r.handle 0, fits := emvFits .e0 }] [] fun ks d =>
        d.finish c r .ok (outputs [requestArpc r (ks.getD 0 default)])

/-- 0x0223: the issuer script MAC under the session key of an E2 master key (R152). -/
def issuerScriptMac (c : Nat) (d : Dev) : Dev :=
  d.runProgram c 0x0223 fun r d =>
    let n := (r.tlv 4).length
    d.checked c r [emvFault r, failIf (n < 4 || n > 255) .inputRange] fun d =>
      d.withKeys c r [{ handle := r.handle 0, fits := emvFits .e2 }] [] fun ks d =>
        let o := ks.getD 0 default
        d.finish c r .ok (outputs [emvMac o.attrs.alg (emvKeys r o true).2 2 (r.tlv 4)])

/-- 0x0224: encipher script data under the session key of an E1 master key (R152). -/
def issuerScriptEncryption (c : Nat) (d : Dev) : Dev :=
  d.runProgram c 0x0224 fun r d =>
    let n := (r.tlv 4).length
    d.checked c r [emvFault r, failIf (n < 1 || n > 240) .inputRange] fun d =>
      d.withKeys c r [{ handle := r.handle 0, fits := emvFits .e1 }] [] fun ks d =>
        let o := ks.getD 0 default
        let cph := o.attrs.alg.cipher
        let ct := cbcEnc cph (emvKeys r o true).2 (zeros cph.block) (isoPad 2 cph.block (r.tlv 4))
        d.finish c r .ok (outputs [ct])

/-! ## Key blocks (R157 to R160) -/

/-- The attributes an imported key takes (R156, R189). -/
def importAttrs (h : KbHeader) : Attrs where
  type := .symmetric
  usage := h.usage
  alg := h.alg
  mode := h.mode
  exportable := h.exportable
  keyVersion := h.keyVersion
  useLimit := 0
  notAfter := 0
  externalIv := false
  profile := none
  keySetId := ((h.block obKS).bind unhex).getD []
  initialKeyId := if h.usage = .b1 then
      (((h.block obIK).bind unhex).orElse (fun _ => (h.block obKS).bind unhex)).getD []
    else []
  hmacSha512 := ((h.block obHM).bind decVal) == some 23
  dualControl := false

/-- The last import checks: strength, then the check value of a KP block (R157, R160). -/
def importFault (k : Obj) (h : KbHeader) (key : Bytes) : Option Status :=
  let kcv := match (h.block obKP).bind unhex with
    | some v => failIf (v ≠ keyCheck h.alg key (if v.length = 5 then 1 else 0)) .kcvMismatch
    | none => none
  firstFault [failIf (!strengthOk k.attrs.alg k.key.length h.alg key.length) .kbStrength, kcv]

/-- 0x0230: check and import a key block, and store the key (R157, R158). -/
def keyBlockImport (c : Nat) (d : Dev) : Dev :=
  d.runProgram c 0x0230 fun r d =>
    let b := r.tlv 1
    d.checked c r [kbHeaderFault b] fun d =>
      match readKbHeader b with
      | none => d.finish c r .kbOptblock []
      | some h =>
        let fits (o : Obj) : Bool :=
          kbpkFits [.k0, .k1] false o && o.attrs.alg = (if h.aes then .aes else .tdes)
        d.checked c r [kbOptionalFault h, r.keyForm 0 false] fun d =>
          d.withKeys c r [{ handle := r.handle 0, fits := fits }] [kekIndex r.bay] fun ks d =>
            let k := ks.getD 0 default
            match kbOpen b h k.key with
            | .error st => d.finish c r st []
            | .ok key =>
              d.checked c r [importFault k h key] fun d =>
                let o := { d.newObj (importAttrs h) key with timeStamp := (h.block obTS).getD [] }
                d.createKey c r o false (fun handle => [handle, storedCheck h.alg key])

/-- A customer key that can be exported or checked (R136, R159, R160). -/
def subjectFits (o : Obj) : Bool := o.attrs.type = .symmetric

/-- 0x0231: export a key as a key block (R159). -/
def keyBlockExport (c : Nat) (d : Dev) : Dev :=
  d.runProgram c 0x0231 fun r d =>
    let opts := r.num 1
    d.checked c r [exportFault opts, r.keyForm 0 false, r.keyForm 1 false] fun d =>
      d.withKeys c r [{ handle := r.handle 0, fits := kbpkFits [.k0, .k1] true },
          { handle := r.handle 1, fits := subjectFits }] [] fun ks d =>
        let k := ks.getD 0 default
        let o := ks.getD 1 default
        d.checked c r [exportRefusal k o, failIf (opts.testBit 1 && o.attrs.alg = .hmac) .kbOptblock] fun d =>
          d.withPad c r fun pad d =>
            let block := kbBuild k.attrs.alg k.key o (opts.testBit 0 && o.attrs.exportable)
              (exportBlocks o (opts.testBit 1)) pad
            d.finish c r .ok (outputs [block])

/-- 0x0232: a key check value (R160). -/
def keyCheckValue (c : Nat) (d : Dev) : Dev :=
  d.runProgram c 0x0232 fun r d =>
    let m := r.num 1
    let fits (o : Obj) : Bool := subjectFits o && (o.attrs.alg = .aes || (o.attrs.alg = .tdes && m == 0))
    d.checked c r [failIf (m > 1) .inputRange, r.keyForm 0 false] fun d =>
      d.withKeys c r [{ handle := r.handle 0, fits := fits }] [] fun ks d =>
        let o := ks.getD 0 default
        d.finish c r .ok (outputs [keyCheck o.attrs.alg o.key m])

/-! ## The meanings -/

/-- DUKPT_DATA_DECRYPTION (R144). -/
def execDukptDataDecryption (c : Fin 512) (s : State) : Host.Outcome State Fault Refusal :=
  s.after (dukptDataDecryption c)
/-- DUKPT_DATA_TRANSLATION (R144). -/
def execDukptDataTranslation (c : Fin 512) (s : State) : Host.Outcome State Fault Refusal :=
  s.after (dukptDataTranslation c)
/-- DUKPT_INITIAL_KEY_EXPORT (R145). -/
def execDukptInitialKeyExport (c : Fin 512) (s : State) : Host.Outcome State Fault Refusal :=
  s.after (dukptInitialKeyExport c)
/-- ARQC_VERIFICATION (R148). -/
def execArqcVerification (c : Fin 512) (s : State) : Host.Outcome State Fault Refusal := s.after (arqcVerification c)
/-- ARQC_VERIFY_ARPC_GENERATION (R150). -/
def execArqcVerifyArpcGeneration (c : Fin 512) (s : State) : Host.Outcome State Fault Refusal :=
  s.after (arqcVerifyArpcGeneration c)
/-- ARPC_GENERATION (R149). -/
def execArpcGeneration (c : Fin 512) (s : State) : Host.Outcome State Fault Refusal := s.after (arpcGeneration c)
/-- ISSUER_SCRIPT_MAC (R152). -/
def execIssuerScriptMac (c : Fin 512) (s : State) : Host.Outcome State Fault Refusal := s.after (issuerScriptMac c)
/-- ISSUER_SCRIPT_ENCRYPTION (R152). -/
def execIssuerScriptEncryption (c : Fin 512) (s : State) : Host.Outcome State Fault Refusal :=
  s.after (issuerScriptEncryption c)
/-- KEY_BLOCK_IMPORT (R157). -/
def execKeyBlockImport (c : Fin 512) (s : State) : Host.Outcome State Fault Refusal := s.after (keyBlockImport c)
/-- KEY_BLOCK_EXPORT (R159). -/
def execKeyBlockExport (c : Fin 512) (s : State) : Host.Outcome State Fault Refusal := s.after (keyBlockExport c)
/-- KEY_CHECK_VALUE (R160). -/
def execKeyCheckValue (c : Fin 512) (s : State) : Host.Outcome State Fault Refusal := s.after (keyCheckValue c)

end Sys2Proof.Machine
end

