-- ==== Sys2Proof/Machine/Engines.lean ====
section
/-! DEFINITION. The engines' shared operations: pools and claims of the cipher and hash cores (ch. 06), the stride grants of
bulk records and Voussoir jobs (R64, R314, R315, R571), the end of a job, its wipe and its abort. -/

namespace Sys2Proof.Machine

/-! ## Claims (R231, R259) -/

/-- Take a bank's job out of a core, its wipe verified; the other entry's job is in service (R231, R248). -/
def Core.release (x : Core) (next : Bool) : Core :=
  if next then { x with next := Lock.free, nextJob := none }
  else { x with cur := x.next, curJob := x.nextJob, next := Lock.free, nextJob := none }

/-- Claim a core for the oldest waiting payment micro-operation (R63, R231). -/
def Dev.ashlarClaim (d : Dev) : Dev :=
  match d.eng.ashWait, d.payCore with
  | j :: rest, some c =>
    let borrowed := !d.inPayPool c
    let d1 : Dev := { d with eng := { d.eng with ashWait := rest } }
    let d2 := (d1.setCore c ((d.core c).claim j 1)).occur 0x031 (some j.bay) 0
    if borrowed then d2.occur 0x032 (some j.bay) else d2
  | _, _ => d

/-- Grant free hash cores to the waiting hash jobs in the order of their arrival (R259); n bounds the grants. -/
def Dev.hashGrant (d : Dev) : Nat → Dev
  | 0 => d
  | n + 1 =>
    match d.eng.hashWait, d.freeHash with
    | j :: rest, some h =>
      let d1 : Dev := { d with eng := { d.eng with hashWait := rest } }
      let st := if j.supervisor then 2 else 1
      (d1.setHash h { Core.idle with cur := j.lock st, curJob := some j }).hashGrant n
    | _, _ => d

/-! ## Stride grants (R60, R64, R314, R315, R571) -/

/-- The share of an owner of a stride grant: the bay's share in effect, or what the bays leave for owner 256. -/
def Dev.grantShare (d : Dev) (f : Fld) (owner : Nat) : Nat :=
  if owner < 256 then d.get f owner
  else 1024 - (((List.range 256).map (fun b => d.get f b)).foldl (· + ·) 0)

/-- The owner that a grant goes to: the smallest pass among the owners with a share, the lowest on a tie; only where none
of those waits, the next owner with share 0 after the last of them that was granted (R314, R316). -/
def Dev.grantOwner (d : Dev) (f : Fld) (passes : Tab Nat) (last : Nat) (waiting : List Nat) : Option Nat :=
  let shared := waiting.filter (fun o => d.grantShare f o > 0)
  match argMax shared.reverse (fun o => 2 ^ 256 - Tab.get passes o 0) with
  | none => (((List.range 257).map (fun i => (last + 1 + i) % 257)).find? (fun o => waiting.contains o))
  | some best => (shared.find? (fun o => Tab.get passes o 0 = Tab.get passes best 0))

/-- The pass an owner that starts waiting takes (R571). -/
def startPass (passes : Tab Nat) (present owner : Nat) : Tab Nat :=
  Tab.set passes owner 0 (max (Tab.get passes owner 0) present)

/-- The pass after a grant of so much work, in units of 1/65,536 (log entry 12). -/
def Dev.stridePass (d : Dev) (f : Fld) (passes : Tab Nat) (owner work : Nat) : Tab Nat :=
  Tab.set passes owner 0 (Tab.get passes owner 0 + work * 65536 / d.grantShare f owner)

/-! ## Bulk records: completion (R239, R363, R364) -/

/-- A stream of a session has a record in reassembly, waiting, or in a core. -/
def Dev.streamBusy (d : Dev) (stream : Nat) : Bool :=
  let mine (r : BulkRec) : Bool := r.stream == stream && (match r.via with | .session _ _ => true | _ => false)
  let inJob (j : Option Job) : Bool := match j with
    | some j => (match j.finish with | .bulk r => mine r | _ => false)
    | none => false
  d.eng.bulkWait.any (fun e => e.2.any mine) || d.eng.cores.any (fun e => inJob e.2.curJob || inJob e.2.nextJob) ||
    (match Tab.look d.face.streams stream with | some s => !s.reasm.isEmpty | none => false)

/-- A stream that closes is gone once its records have ended (R363). -/
def Dev.sweepStream (d : Dev) (stream : Nat) : Dev :=
  match Tab.look d.face.streams stream with
  | some s =>
    if s.closing && !d.streamBusy stream then { d with face := { d.face with streams := Tab.del d.face.streams stream } }
    else d
  | none => d

/-- Count the header and payload bytes of a record that ends with ST_OK (R339, event 0x033). -/
def Dev.countBulk (d : Dev) (r : BulkRec) : Dev :=
  let n := r.aad.length + r.pay.length
  if d.on R.PC_CTL_FROZEN then d
  else
    let d1 := d.occur 0x033 (if r.bay < 256 then some r.bay else none) 0x1F n
    if r.bay < 256 then
      let sum := Tab.get d1.eng.bulkRem r.bay 0 + n
      ({ d1 with eng := { d1.eng with bulkRem := Tab.set d1.eng.bulkRem r.bay 0 (sum % 1024) } }).countBay r.bay 6 (sum / 1024)
    else d1

/-- The one completion of a bulk record (R239): on the network face its output in BULK_DATA frames and a BULK_COMPLETION,
on the host face its output in the buffer and a ring entry. -/
def Dev.bulkComplete (d : Dev) (r : BulkRec) (st : Status) (out : Bytes) : Dev :=
  let out := if st = .ok then out else []
  let iv := if r.iv = [] then zeros 12 else r.iv
  let d1 := if st = .ok then d.countBulk r else d
  match r.via with
  | .session id src =>
    let d2 := match Tab.look d1.face.sessions id with
      | none => d1.bumpSat R.NF_ORPHANED
      | some s =>
        let frames := (out.length + 8191) / 8192 + 1
        let d2 : Dev := { d1 with face := { d1.face with
          sessions := Tab.put d1.face.sessions id { s with sent := s.sent + frames } } }
        (d2.countTx src frames).send (.bulkFrames src id r.stream r.desc.reqId st iv out)
    d2.sweepStream r.stream
  | .ring owner ring epoch outAddr _ =>
    let live := epoch = (d1.hostRing owner ring).epoch ∧ !d1.on R.HQ_STATUS_HALTED owner ring
    let d2 := if live ∧ out ≠ [] then d1.send (.hostWrite outAddr out) else d1
    d2.ringComplete owner ring epoch r.desc.reqId st out.length iv

/-! ## The end of a job (R248 to R253, R291) -/

/-- A job's context still holds the job's request. -/
def Dev.jobHeld (d : Dev) (j : Job) : Bool := (d.ctx j.ctx).req.isSome && decide ((d.ctx j.ctx).req = j.req)

/-- A lane register named for a shared secret is cleared and left untagged where the job fails (R288). -/
def Dev.clearSecret (d : Dev) (j : Job) : Dev :=
  match j.dest with
  | .secret n => d.setCtx j.ctx { d.ctx j.ctx with lanes := Tab.del (d.ctx j.ctx).lanes n }
  | _ => d

/-- Deliver a job's end where it belongs: its output and a completion token to the context; the end of a whole function;
the storage of a new key; a bulk record's completion. -/
def Dev.jobDone (d : Dev) (j : Job) (st : Status) : Dev :=
  match j.finish with
  | .token =>
    let d1 := if d.jobHeld j then (if st = .ok then d.applyDest j.ctx false j.dest j.out else d.clearSecret j) else d
    d1.jobToken j.ctx j.req st
  | .whole out =>
    match j.req with
    | some r =>
      let held := d.jobHeld j
      let d1 := if st = .ok && held then d.applyDest j.ctx false j.dest j.out else d
      let d2 := d1.settle j.ctx
      if held then d2.finish j.ctx r st out else d2
    | none => d
  | .store _ _ o session out =>
    match j.req with
    | some r =>
      let held := d.jobHeld j
      let d1 := d.settle j.ctx
      if !held then d1
      else if st = .ok then
        d1.createKey j.ctx r o session (fun h => h :: out.map (·.val))
      else d1.finish j.ctx r st []
    | none => d
  | .bulk r => d.bulkComplete r st j.out
  | .handshake id =>
    if st = .ok then d
    else
      match Tab.look d.face.handshakes id with
      | some h => { d with face := { d.face with handshakes := Tab.put d.face.handshakes id { h with failed := st } } }
      | none => d
  | .supervisor => d

/-- The end of the CUR job of a cipher core: its bank is wiped and checked, its completion presented, its entry freed and
the NEXT job in service (R231, R248). -/
def Dev.coreJobEnd (d : Dev) (c : Nat) (j : Job) : Dev :=
  let d1 := ((d.setCore c ((d.core c).release false)).bumpWrap R.AS_BLOCKS c 0 j.blocks).bumpWrap R.AS_JOBS c
  let d2 := d1.occur 0x030 (if j.supervisor then none else some j.bay) (match j.finish with | .bulk _ => 1 | _ => 0)
  d2.jobDone j j.status

/-- A wipe check of a cipher core fails: the job ends with ST_WIPE_FAULT, one in the other bank with ST_ENGINE_FAULT, both
entries show wiping and the core takes no claim until module reset (R249). The record names the bank and the job's
lock state, bay and generation (R567). -/
def Dev.coreWipeFault (d : Dev) (c : Nat) (next : Bool) : Dev :=
  let x := d.core c
  let failed := if next then x.nextJob else x.curJob
  let other := if next then x.curJob else x.nextJob
  let lk := if next then x.next else x.cur
  let w (l : Lock) : Lock := { l with state := 3 }
  let d1 := d.setCore c ⟨w x.cur, w x.next, none, none, true⟩
  let d2 := ((d1.set R.AS_SERVICE_FAULTED 1 c).bumpSat R.AS_WIPE_FAULTS c).raiseInt .asp c 2
  let d3 := d2.mark .asWipeFault .ashlar c (if next then 1 else 0) lk.state lk.bay lk.gen
  let d4 := match failed with | some j => d3.jobDone { j with out := [] } .wipeFault | none => d3
  match other with | some j => d4.jobDone { j with out := [] } .engineFault | none => d4

/-- An aborted job of a cipher core ends with a status and no output, its bank wiped (R250). -/
def Dev.coreAborted (d : Dev) (c : Nat) (next : Bool) (j : Job) (st : Status) : Dev :=
  let d1 := ((d.setCore c ((d.core c).release next)).bumpSat R.AS_ABORTS c).blockEvent .asp c 3
  d1.jobDone { j with out := [] } st

/-- Why a job is to be aborted at its next boundary, as the status it ends with: its bay's generation has changed, a
SUSPEND or higher response is in effect, or its request has expired or ended (R250, R252). -/
def Dev.abortCause (d : Dev) (level : Nat) (j : Job) : Option Status :=
  if !j.supervisor ∧ j.bay < 256 ∧ d.get R.BY_GEN_GEN j.bay ≠ j.gen then
    some (match j.finish with | .bulk _ => .bayReset | _ => .aborted)
  else if level ≥ 2 then some (match j.finish with | .bulk _ => .suspended | _ => .aborted)
  else if j.abort then some .aborted
  else none

/-- The lock entries and blocks of a hash core's ended job (R259). -/
def Dev.hashJobEnd (d : Dev) (h : Nat) (j : Job) : Dev :=
  let d1 := ((d.setHash h Core.idle).bumpWrap R.HS_BLOCKS h 0 j.blocks).bumpWrap R.HS_JOBS h
  (d1.occur 0x051 (if j.supervisor then none else some j.bay) 0x1F j.blocks).jobDone j j.status

/-- A wipe check of a hash core fails (R249, R259). -/
def Dev.hashWipeFault (d : Dev) (h : Nat) (j : Job) : Dev :=
  let lk := (d.hash h).cur
  let d1 := d.setHash h { Core.idle with cur := { lk with state := 3 }, swept := true }
  let d2 := (((d1.set R.HS_SERVICE_FAULTED 1 h).bumpSat R.HS_WIPE_FAULTS h).raiseInt .hs h 2).mark .asWipeFault .ashlar h
    0 lk.state lk.bay lk.gen
  d2.jobDone { j with out := [] } .wipeFault

/-- An aborted hash job (R250, R259). -/
def Dev.hashAborted (d : Dev) (h : Nat) (j : Job) (st : Status) : Dev :=
  ((d.setHash h Core.idle).blockEvent .hs h 3).jobDone { j with out := [] } st

/-- A core whose clock stopped and whose crossing is back applies its pending aborts and wipes both banks; a job that had
no abort pending ends with ST_XING_TIMEOUT (R253). -/
def Dev.coreRealign (d : Dev) (level c : Nat) : Dev :=
  let one (d : Dev) (next : Bool) : Dev :=
    match if next then (d.core c).nextJob else (d.core c).curJob with
    | none =>
      let x := d.core c
      if (if next then x.next else x.cur).state = 0 ∨ x.swept then d else d.setCore c (x.release next)
    | some j =>
      match d.abortCause level j with
      | some st => d.coreAborted c next j st
      | none => (d.setCore c ((d.core c).release next)).jobDone { j with out := [] } .xingTimeout
  one (one d true) false

/-- The same for a hash core (R253, R259). -/
def Dev.hashRealign (d : Dev) (level h : Nat) : Dev :=
  match (d.hash h).curJob with
  | none => if (d.hash h).cur.state = 0 ∨ (d.hash h).swept then d else d.setHash h Core.idle
  | some j =>
    match d.abortCause level j with
    | some st => d.hashAborted h j st
    | none => (d.setHash h Core.idle).jobDone { j with out := [] } .xingTimeout

end Sys2Proof.Machine
end

