-- ==== Sys2Proof/Machine/PinMac.lean ====
section
/-! DEFINITION. PIN, MAC and card verification functions (ch. 03): the PIN unit's datapath, the public checks of R111, and
the meaning of each function, of a step lane's grant and of a step's end, and of the PN page's staged writes. -/

namespace Sys2Proof.Machine

/-! ## PIN fields and blocks (R98 to R104) -/

/-- The index of a PIN block format, if the module has it (R98, R109). -/
def formatIndex (f : Nat) : Option Nat :=
  if f = 0 then some 0 else if f = 1 then some 1 else if f = 3 then some 2 else if f = 4 then some 3 else none

/-- The algorithm of a format's key (R98). -/
def formatAlg (f : Nat) : Alg := if f = 4 then .aes else .tdes

/-- The PAN field of formats 0 and 3 (R101). -/
def panField03 (pan : List Nat) : List Nat :=
  let d := lastN 12 pan.dropLast
  List.replicate (16 - d.length) 0 ++ d

/-- The PAN field of format 4 (R102). -/
def panField4 (pan : List Nat) : List Nat :=
  let f := (pan.length - 12) :: pan
  f ++ List.replicate (32 - f.length) 0

/-- Decipher a PIN block to its plain PIN field, as nibbles (R101, R102). -/
def pinDecipher (f : Nat) (key block : Bytes) (pan : List Nat) : List Nat :=
  if f = 4 then nibbles (pinField4 key block (nibbleBytes (panField4 pan)))
  else
    let x := nibbles (tdesDecrypt key block)
    if f = 1 then x else xorNats x (panField03 pan)

/-- Encipher a plain PIN field to a PIN block (R101, R102). -/
def pinEncipher (f : Nat) (key : Bytes) (field : List Nat) (pan : List Nat) : Bytes :=
  if f = 4 then pinBlock4 key (nibbleBytes field) (nibbleBytes (panField4 pan))
  else tdesEncrypt key (nibbleBytes (if f = 1 then field else xorNats field (panField03 pan)))

/-- Build a PIN field, from the PIN and the fill nibbles drawn, one for each nibble from 2 on (R99, R108). -/
def pinField (f : Nat) (pin : List Nat) (drawn : List Nat) : List Nat :=
  let fill (i : Nat) : Nat :=
    if f = 0 then 0xF
    else if f = 1 then drawn.getD i 0 % 16
    else if f = 3 then 0xA + drawn.getD i 0 % 6
    else 0xA
  let head := [f, pin.length] ++ pin ++ ((List.range 14).map fill).drop pin.length
  if f = 4 then head ++ (List.range 16).map (fun i => drawn.getD (14 + i) 0 % 16) else head

/-- The checks of R104 on a PIN field, in their order: ST_PIN_FORMAT for items 1 to 4, ST_PIN_LENGTH for item 5. -/
def pinFieldStatus (f : Nat) (field : List Nat) (pinMin pinMax : Nat) : Status :=
  let n := field.getD 1 0
  let digits := (field.drop 2).take n
  let fill := ((field.take 16).drop 2).drop n
  let fillOk := if f = 0 then fill.all (· == 0xF) else if f = 3 then fill.all (· ≥ 0xA)
    else if f = 4 then fill.all (· == 0xA) else true
  if field.getD 0 0 ≠ f ∨ n < 4 ∨ n > 12 ∨ !digits.all (· < 10) ∨ !fillOk then .pinFormat
  else if n < pinMin ∨ n > pinMax then .pinLength
  else .ok

/-- The PIN a field holds. -/
def pinDigits (field : List Nat) : List Nat := (field.drop 2).take (field.getD 1 0)

/-- The PIN limits in effect when the request of a context was dispatched (R104, R132). -/
def Ctx.pinMin (x : Ctx) : Nat := x.policy.getD 3 4
def Ctx.pinMax (x : Ctx) : Nat := x.policy.getD 4 12
/-- MAC_MIN in effect at dispatch (R125, R132). -/
def Ctx.macMin (x : Ctx) : Nat := x.policy.getD 2 4
/-- A translation pair is permitted by the table in effect at dispatch, and a downgrade by DOWNGRADE (R109, R110). -/
def Ctx.permits (x : Ctx) (i o : Nat) : Bool :=
  (x.policy.getD 0 0x8DFD).testBit (4 * i + o) && !(i == 3 && o ≠ 3 && x.policy.getD 1 0 ≠ 1)

/-- Decode a deciphered field: its status, and the PIN to go on with, the substitute of R107 where the status is not
ST_OK. -/
def Dev.decodePin (d : Dev) (f : Nat) (field : List Nat) (x : Ctx) : Status × List Nat × Dev :=
  let st := pinFieldStatus f field x.pinMin x.pinMax
  if st = .ok then (.ok, pinDigits field, d)
  else
    match d.drbgDraw internalDrbg 96 with
    | some (b, d1) => (st, drawNibbles 12 10 b, d1)
    | none => (st, List.replicate 12 0, d)

/-! ## Offset, PVV, CVV (R113, R116, R128) -/

/-- The natural digits: the validation data enciphered under V1 and decimalized by the table (R113). -/
def naturalDigits (v1 validation dectab : Bytes) : List Nat :=
  (nibbles (tdesEncrypt v1 validation)).map (fun n => (dectab.getD n 0#8).toNat)

/-- The offset of a PIN against natural digits, for a check length (R113). -/
def pinOffset (natural pin : List Nat) (len : Nat) : List Nat :=
  (List.range len).map (fun i => (pin.getD i 0 + 10 - natural.getD i 0) % 10)

/-- Decimalize: the nibbles 0 to 9 from left to right, then the nibbles A to F, each minus 10 (R116). -/
def decimalize (t : Bytes) (n : Nat) : List Nat :=
  let ns := nibbles t
  (ns.filter (· < 10) ++ (ns.filter (· ≥ 10)).map (· - 10)).take n

/-- The PVV of a PIN (R116). -/
def pvv (v2 : Bytes) (pan : List Nat) (pvki : Nat) (pin : List Nat) : List Nat :=
  decimalize (tdesEncrypt v2 (nibbleBytes (lastN 11 pan.dropLast ++ [pvki] ++ pin.take 4))) 4

/-- The CVV (R128). -/
def cvv (c0 : Bytes) (pan expiry service : List Nat) (len : Nat) : List Nat :=
  let d := pan ++ expiry ++ service
  let data := nibbleBytes (d ++ List.replicate (32 - d.length) 0)
  let k1 := c0.take 8
  let x := xorB (desBlock false k1 (data.take 8)) (data.drop 8)
  decimalize (desBlock false k1 (desBlock true (c0.drop 8) (desBlock false k1 x))) len

/-! ## Public checks (R111 rows 2 to 4) -/

/-- Row 2: the PAN (R100). -/
def panFault (pan : Option (List Nat)) : Option Status := failIf (!panOk pan) .panFormat

/-- Row 3: a format code and the length of a PIN block in it (R98). -/
def formatFault (f : Nat) (block : Option Bytes) : Option Status :=
  match formatIndex f with
  | none => some .inputRange
  | some _ => match block with
    | some b => failIf (b.length ≠ (if f = 4 then 16 else 8)) .inputRange
    | none => none

/-- Row 3: check length and validation data (R113). -/
def checkFault (len : Nat) (validation : Bytes) : Option Status :=
  failIf (len < 4 || len > 12 || validation.length ≠ 8) .inputRange

/-- Row 3: so many decimal digits. -/
def digitsFault (d : Option (List Nat)) (n : Nat) : Option Status :=
  match d with
  | some l => failIf (l.length ≠ n) .inputRange
  | none => some .inputRange

/-- A P0 key for a format, deciphering or enciphering (R69, R98). -/
def p0Fits (f : Nat) (enc : Bool) (o : Obj) : Bool :=
  o.plain .p0 && o.attrs.alg = formatAlg f &&
    (if f = 4 then aesLen o.key.length else o.key.length == 16 || o.key.length == 24) &&
    (o.attrs.mode = .b || o.attrs.mode = (if enc then .e else .d))

/-- What a verification-value key must permit. -/
inductive VerifyUse where
  | gen | verify | both
deriving DecidableEq, Repr

/-- The modes of use of verification-value keys: C for both, G to generate, V to verify. -/
def VerifyUse.allows (u : VerifyUse) (m : ModeOfUse) : Bool :=
  m = .c || (u = .gen && m = .g) || (u = .verify && m = .v)

/-- A V1, V2 or C0 key (R113, R116, R128). -/
def verifyKeyFits (usage : Usage) (u : VerifyUse) (o : Obj) : Bool :=
  o.plain usage && o.attrs.alg = .tdes && (o.key.length == 16 || (usage = .v1 && o.key.length == 24)) &&
    u.allows o.attrs.mode

/-- A decimalization table (R117). -/
def dectabFits (o : Obj) : Bool := o.attrs.type = .dectab

/-- A PIN key for input, or a DUKPT input in its place. -/
def Request.wantPin (r : Request) (n f : Nat) : Want := r.wantOr n (formatAlg f) (p0Fits f false)

/-- A key named by handle alone. -/
def Request.want (r : Request) (n : Nat) (fits : Obj → Bool) : Want := { handle := r.handle n, fits := fits }

/-- The digits of a PAN that passed its check. -/
def Request.pan (r : Request) (tag : Nat) : List Nat := (r.digits tag).getD []

/-- Draw the random digits and the fill of an output field from the bay's DRBG (R99, R108): n nibbles of 64 bits. -/
def Dev.drawFill (d : Dev) (bay n : Nat) : Option (List Nat × Dev) :=
  (d.drbgDraw bay (8 * n)).map (fun p => ((List.range n).map (fun i => beNat ((p.1.drop (8 * i)).take 8)), p.2))

/-- The PIN unit step that builds an output field: it needs the bay's DRBG for a random fill (R99, R210). -/
def Dev.withFill (d : Dev) (c : Nat) (r : Request) (n : Nat) (k : List Nat → Dev → Dev) : Dev :=
  match d.drawFill r.bay n with
  | some (l, d1) => k l d1
  | none => d.finish c r .entropyFail []

/-! ## The PIN functions -/

/-- 0x0101: translate a PIN block between formats and keys (R109, R110). -/
def pinTranslation (c : Nat) (d : Dev) : Dev :=
  d.runProgram c 0x0101 fun r d =>
    let fi := r.num 1
    let fo := r.num 2
    let x := d.ctx c
    let pair := failIf (!x.permits ((formatIndex fi).getD 0) ((formatIndex fo).getD 0)) .translationDenied
    d.checked c r [panFault (r.digits 3), formatFault fi (some (r.tlv 4)), formatFault fo none, r.keyForm 0 true,
        r.keyForm 1 false, pair] fun d =>
      d.withKeys c r [r.wantPin 0 fi, r.want 1 (p0Fits fo true)] [] fun ks d =>
        let field := pinDecipher fi (r.keyValue 0 (ks.getD 0 default) .pin) (r.tlv 4) (r.pan 3)
        let p := d.decodePin fi field x
        p.2.2.withFill c r 30 fun fill d =>
          let block := pinEncipher fo (ks.getD 1 default).key (pinField fo p.2.1 fill) (r.pan 3)
          d.pinStep c r p.1 (outputs [block])

/-- Row 11 of the offset method: the PIN reaches the check length, and its offset is the one supplied (R113). -/
def offsetStatus (natural pin : List Nat) (len : Nat) (offset : Option (List Nat)) : Status :=
  if pin.length < len then .verifyFailed
  else match offset with
    | some o => if pinOffset natural pin len = o then .ok else .verifyFailed
    | none => .ok

/-- 0x0110: verify a PIN by the offset method (R113). -/
def pinVerifyOffset (c : Nat) (d : Dev) : Dev :=
  d.runProgram c 0x0110 fun r d =>
    let f := r.num 1
    let len := r.num 5
    d.checked c r [panFault (r.digits 2), formatFault f (some (r.tlv 3)), checkFault len (r.tlv 4),
        digitsFault (r.digits 6) len, r.keyForm 0 true, r.keyForm 1 false, r.keyForm 2 false] fun d =>
      d.withKeys c r [r.wantPin 0 f, r.want 1 (verifyKeyFits .v1 .verify), r.want 2 dectabFits] [] fun ks d =>
        let field := pinDecipher f (r.keyValue 0 (ks.getD 0 default) .pin) (r.tlv 3) (r.pan 2)
        let p := d.decodePin f field (d.ctx c)
        let natural := naturalDigits (ks.getD 1 default).key (r.tlv 4) (ks.getD 2 default).key
        p.2.2.pinStep c r (p.1.orElse (offsetStatus natural p.2.1 len (r.digits 6))) []

/-- 0x0111: verify a PIN by its PVV (R116). -/
def pinVerifyPvv (c : Nat) (d : Dev) : Dev :=
  d.runProgram c 0x0111 fun r d =>
    let f := r.num 1
    d.checked c r [panFault (r.digits 2), formatFault f (some (r.tlv 3)), failIf (r.num 4 > 6) .inputRange,
        digitsFault (r.digits 5) 4, r.keyForm 0 true, r.keyForm 1 false] fun d =>
      d.withKeys c r [r.wantPin 0 f, r.want 1 (verifyKeyFits .v2 .verify)] [] fun ks d =>
        let field := pinDecipher f (r.keyValue 0 (ks.getD 0 default) .pin) (r.tlv 3) (r.pan 2)
        let p := d.decodePin f field (d.ctx c)
        let value := pvv (ks.getD 1 default).key (r.pan 2) (r.num 4) p.2.1
        p.2.2.pinStep c r (p.1.orElse (if some value = r.digits 5 then .ok else .verifyFailed)) []

/-- 0x0120: generate a PIN and its offset (R114). -/
def pinOffsetGeneration (c : Nat) (d : Dev) : Dev :=
  d.runProgram c 0x0120 fun r d =>
    let n := r.num 1
    let len := r.num 2
    let f := r.num 4
    let x := d.ctx c
    let range := n < x.pinMin || n > x.pinMax || n < len || r.num 3 > 1
    d.checked c r [panFault (r.digits 5), formatFault f none, checkFault len (r.tlv 6), failIf range .inputRange,
        r.keyForm 0 false, r.keyForm 1 false, r.keyForm 2 true] fun d =>
      d.withKeys c r [r.want 0 (verifyKeyFits .v1 .gen), r.want 1 dectabFits, r.want 2 (p0Fits f true)] [] fun ks d =>
        let natural := naturalDigits (ks.getD 0 default).key (r.tlv 6) (ks.getD 1 default).key
        d.withFill c r 42 fun drawn d =>
          let pin := if r.num 3 = 1 then (drawn.take n).map (· % 10) else natural.take n
          let block := pinEncipher f (ks.getD 2 default).key (pinField f pin (drawn.drop 12)) (r.pan 5)
          d.pinStep c r .ok (outputs [block, digitsAscii (pinOffset natural pin len)])

/-- 0x0121: the offset of a chosen PIN (R113). -/
def offsetFromChosenPin (c : Nat) (d : Dev) : Dev :=
  d.runProgram c 0x0121 fun r d =>
    let f := r.num 1
    let len := r.num 5
    d.checked c r [panFault (r.digits 2), formatFault f (some (r.tlv 3)), checkFault len (r.tlv 4), r.keyForm 0 true,
        r.keyForm 1 false, r.keyForm 2 false] fun d =>
      d.withKeys c r [r.wantPin 0 f, r.want 1 (verifyKeyFits .v1 .gen), r.want 2 dectabFits] [] fun ks d =>
        let field := pinDecipher f (r.keyValue 0 (ks.getD 0 default) .pin) (r.tlv 3) (r.pan 2)
        let p := d.decodePin f field (d.ctx c)
        let natural := naturalDigits (ks.getD 1 default).key (r.tlv 4) (ks.getD 2 default).key
        p.2.2.pinStep c r (p.1.orElse (offsetStatus natural p.2.1 len none))
          (outputs [digitsAscii (pinOffset natural p.2.1 len)])

/-- 0x0122: the PVV of a chosen PIN (R116). -/
def pvvFromChosenPin (c : Nat) (d : Dev) : Dev :=
  d.runProgram c 0x0122 fun r d =>
    let f := r.num 1
    d.checked c r [panFault (r.digits 2), formatFault f (some (r.tlv 3)), failIf (r.num 4 > 6) .inputRange,
        r.keyForm 0 true, r.keyForm 1 false] fun d =>
      d.withKeys c r [r.wantPin 0 f, r.want 1 (verifyKeyFits .v2 .gen)] [] fun ks d =>
        let field := pinDecipher f (r.keyValue 0 (ks.getD 0 default) .pin) (r.tlv 3) (r.pan 2)
        let p := d.decodePin f field (d.ctx c)
        p.2.2.pinStep c r p.1 (outputs [digitsAscii (pvv (ks.getD 1 default).key (r.pan 2) (r.num 4) p.2.1)])

/-- 0x0123: a random PIN, enciphered, with its PVV (R116). -/
def randomPinPvv (c : Nat) (d : Dev) : Dev :=
  d.runProgram c 0x0123 fun r d =>
    let n := r.num 1
    let f := r.num 2
    let x := d.ctx c
    d.checked c r [panFault (r.digits 3), formatFault f none,
        failIf (n < x.pinMin || n > x.pinMax || r.num 4 > 6) .inputRange, r.keyForm 0 false, r.keyForm 1 true] fun d =>
      d.withKeys c r [r.want 0 (verifyKeyFits .v2 .gen), r.want 1 (p0Fits f true)] [] fun ks d =>
        d.withFill c r 42 fun drawn d =>
          let pin := (drawn.take n).map (· % 10)
          let block := pinEncipher f (ks.getD 1 default).key (pinField f pin (drawn.drop 12)) (r.pan 3)
          d.pinStep c r .ok (outputs [block, digitsAscii (pvv (ks.getD 0 default).key (r.pan 3) (r.num 4) pin)])

/-- 0x0130: change a PIN by the offset method: the old block's checks, then the new one's (R112, R115). -/
def pinChangeOffset (c : Nat) (d : Dev) : Dev :=
  d.runProgram c 0x0130 fun r d =>
    let f := r.num 1
    let len := r.num 6
    d.checked c r [panFault (r.digits 2), formatFault f (some (r.tlv 3)), formatFault f (some (r.tlv 4)),
        checkFault len (r.tlv 5), digitsFault (r.digits 7) len, r.keyForm 0 true, r.keyForm 1 true, r.keyForm 2 false,
        r.keyForm 3 false] fun d =>
      d.withKeys c r [r.wantPin 0 f, r.wantPin 1 f, r.want 2 (verifyKeyFits .v1 .both), r.want 3 dectabFits] []
        fun ks d =>
        let natural := naturalDigits (ks.getD 2 default).key (r.tlv 5) (ks.getD 3 default).key
        let p := d.decodePin f (pinDecipher f (r.keyValue 0 (ks.getD 0 default) .pin) (r.tlv 3) (r.pan 2)) (d.ctx c)
        let d1 := p.2.2
        let q := d1.decodePin f (pinDecipher f (r.keyValue 1 (ks.getD 1 default) .pin) (r.tlv 4) (r.pan 2)) (d1.ctx c)
        let st := ((p.1.orElse (offsetStatus natural p.2.1 len (r.digits 7))).orElse q.1).orElse
          (offsetStatus natural q.2.1 len none)
        q.2.2.pinStep c r st (outputs [digitsAscii (pinOffset natural q.2.1 len)])

/-- 0x0131: change a PIN by PVV (R115, R116). -/
def pinChangePvv (c : Nat) (d : Dev) : Dev :=
  d.runProgram c 0x0131 fun r d =>
    let f := r.num 1
    d.checked c r [panFault (r.digits 2), formatFault f (some (r.tlv 3)), formatFault f (some (r.tlv 4)),
        failIf (r.num 5 > 6) .inputRange, digitsFault (r.digits 6) 4, r.keyForm 0 true, r.keyForm 1 true,
        r.keyForm 2 false] fun d =>
      d.withKeys c r [r.wantPin 0 f, r.wantPin 1 f, r.want 2 (verifyKeyFits .v2 .both)] [] fun ks d =>
        let v2 := (ks.getD 2 default).key
        let p := d.decodePin f (pinDecipher f (r.keyValue 0 (ks.getD 0 default) .pin) (r.tlv 3) (r.pan 2)) (d.ctx c)
        let d1 := p.2.2
        let q := d1.decodePin f (pinDecipher f (r.keyValue 1 (ks.getD 1 default) .pin) (r.tlv 4) (r.pan 2)) (d1.ctx c)
        let old := if some (pvv v2 (r.pan 2) (r.num 5) p.2.1) = r.digits 6 then Status.ok else .verifyFailed
        q.2.2.pinStep c r ((p.1.orElse old).orElse q.1)
          (outputs [digitsAscii (pvv v2 (r.pan 2) (r.num 5) q.2.1)])

/-! ## MAC functions (R124 to R127) -/

/-- The shortest and longest tag of an algorithm: 1 ISO 9797-1 algorithm 1, 2 algorithm 3, 3 CMAC, 4 HMAC-SHA-256,
5 HMAC-SHA-512 (R124). -/
def macTagRange (alg : Nat) : Nat × Nat :=
  if alg = 1 ∨ alg = 2 then (4, 8) else if alg = 3 then (4, 16) else if alg = 4 then (16, 32)
  else if alg = 5 then (32, 64) else (1, 0)

/-- Row 3 of the MAC functions: algorithm, padding, tag length, message (R124, R125). -/
def macFault (alg : Nat) (padding : Nat) (tagLen : Nat) (message : Bytes) : Option Status :=
  let padOk := if alg = 1 ∨ alg = 2 then padding = 1 ∨ padding = 2 else padding = 0
  failIf (tagLen < (macTagRange alg).1 || tagLen > (macTagRange alg).2 || message.length > 61440 || !padOk ||
    (padding == 1 && message.isEmpty)) .inputRange

/-- A MAC key for an algorithm (R124, R126). -/
def macFits (alg : Nat) (gen : Bool) (o : Obj) : Bool :=
  let n := o.key.length
  let fits := if alg = 1 then (o.plain .m0 || o.plain .m1) && o.attrs.alg = .tdes && (n == 16 || n == 24)
    else if alg = 2 then o.plain .m3 && o.attrs.alg = .tdes && n == 16
    else if alg = 3 then
      o.plain .m6 && ((o.attrs.alg = .aes && aesLen n) || (o.attrs.alg = .tdes && n == 24))
    else o.plain .m7 && o.attrs.alg = .hmac && 16 ≤ n && n ≤ 64
  fits && (o.attrs.mode = .c || o.attrs.mode = (if gen then .g else .v))

/-- The full MAC (R124). -/
def macFull (alg : Nat) (keyAlg : Alg) (key : Bytes) (padding : Nat) (m : Bytes) : Bytes :=
  if alg = 1 then isoMac1 key padding m
  else if alg = 2 then isoMac3 key padding m
  else if alg = 3 then cmac (if keyAlg = .aes then .aes else .tdes) key m
  else if alg = 4 then hmac256 key m
  else hmac512 key m

/-- The key of a MAC function, or a DUKPT input whose working key is M6 of AES or M3 of TDES (R142). -/
def Request.wantMac (r : Request) (alg : Nat) (gen : Bool) : Want :=
  if r.ksn 0 ≠ [] ∧ alg ≠ 2 ∧ alg ≠ 3 then { handle := r.handle 0, fits := fun _ => false }
  else r.wantOr 0 (if alg = 2 then .tdes else .aes) (macFits alg gen)

/-- The tag length check that needs the key: a TDES CMAC has at most 8 bytes (R124, R125). -/
def macKeyFault (alg tagLen : Nat) (o : Obj) : Option Status :=
  failIf (alg == 3 && o.attrs.alg = .tdes && tagLen > 8) .inputRange

/-- 0x0140: compute a MAC tag over a message (R124 to R126). -/
def macGeneration (c : Nat) (d : Dev) : Dev :=
  d.runProgram c 0x0140 fun r d =>
    let alg := r.num 1
    let n := r.num 3
    d.checked c r [macFault alg (r.num 2) n (r.tlv 4), r.keyForm 0 true] fun d =>
      d.withKeys c r [r.wantMac alg true] [] fun ks d =>
        let o := ks.getD 0 default
        d.checked c r [macKeyFault alg n o] fun d =>
          d.finish c r .ok (outputs [(macFull alg o.attrs.alg (r.keyValue 0 o .macGen) (r.num 2) (r.tlv 4)).take n])

/-- 0x0141: verify a MAC tag; a tag shorter than the bay's minimum is refused (R125 to R127). -/
def macVerification (c : Nat) (d : Dev) : Dev :=
  d.runProgram c 0x0141 fun r d =>
    let alg := r.num 1
    let n := (r.tlv 3).length
    d.checked c r [macFault alg (r.num 2) n (r.tlv 4), failIf (n < (d.ctx c).macMin) .macLength, r.keyForm 0 true] fun d =>
      d.withKeys c r [r.wantMac alg false] [] fun ks d =>
        let o := ks.getD 0 default
        d.checked c r [macKeyFault alg n o] fun d =>
          let tag := (macFull alg o.attrs.alg (r.keyValue 0 o .macVerify) (r.num 2) (r.tlv 4)).take n
          d.finish c r (if tag = r.tlv 3 then .ok else .verifyFailed) []

/-! ## Card verification values (R128, R129) -/

/-- Row 3 of the CVV functions (R129). -/
def cvvFault (r : Request) (len : Nat) : Option Status :=
  firstFault [digitsFault (r.digits 2) 4, digitsFault (r.digits 3) 3, failIf (len < 3 || len > 5) .inputRange]

/-- The CVV of a request. -/
def Request.cvv (r : Request) (o : Obj) (len : Nat) : List Nat :=
  Sys2Proof.Machine.cvv o.key (r.pan 1) (r.pan 2) (r.pan 3) len

/-- 0x0150: compute a card verification value (R128). -/
def cvvGeneration (c : Nat) (d : Dev) : Dev :=
  d.runProgram c 0x0150 fun r d =>
    d.checked c r [panFault (r.digits 1), cvvFault r (r.num 4), r.keyForm 0 false] fun d =>
      d.withKeys c r [r.want 0 (verifyKeyFits .c0 .gen)] [] fun ks d =>
        d.pinStep c r .ok (outputs [digitsAscii (r.cvv (ks.getD 0 default) (r.num 4))])

/-- 0x0151: verify a card verification value (R128). -/
def cvvVerification (c : Nat) (d : Dev) : Dev :=
  d.runProgram c 0x0151 fun r d =>
    let len := (r.tlv 4).length
    d.checked c r [panFault (r.digits 1), cvvFault r len, digitsFault (r.digits 4) len, r.keyForm 0 false] fun d =>
      d.withKeys c r [r.want 0 (verifyKeyFits .c0 .verify)] [] fun ks d =>
        d.pinStep c r (if some (r.cvv (ks.getD 0 default) len) = r.digits 4 then .ok else .verifyFailed) []

/-! ## PN page writes (R132, R133) -/

/-- The bay that PN_BAY_INDEX selects (R131). -/
def Dev.pnBay (d : Dev) : Nat := d.get R.PN_BAY_INDEX

/-- A write of PN_BAY_LIMITS, checked as a whole and staged (R132). -/
def pnLimitsWrite (req : Requester) (v : Nat) (d : Dev) : Dev :=
  let mac := bits v 12 8
  let hi := bits v 7 4
  let lo := bits v 3 0
  if mac < 4 ∨ mac > 16 ∨ lo < 4 ∨ lo > 12 ∨ hi < 4 ∨ hi > 12 ∨ hi < lo then d.err .pn 0 req .inputRange
  else
    ((d.stage R.PN_BAY_LIMITS_MAC_MIN mac 0 d.pnBay).stage R.PN_BAY_LIMITS_PIN_MAX hi 0 d.pnBay).stage
      R.PN_BAY_LIMITS_PIN_MIN lo 0 d.pnBay

/-- A write of PN_BAY_GOV, refused as a whole where BURST is 0, and staged (R132). -/
def pnGovWrite (req : Requester) (v : Nat) (d : Dev) : Dev :=
  if bits v 31 16 = 0 then d.err .pn 0 req .inputRange
  else (d.stage R.PN_BAY_GOV_BURST (bits v 31 16) 0 d.pnBay).stage R.PN_BAY_GOV_RATE (bits v 15 0) 0 d.pnBay

/-- A write of PN_BAY_GOV_CTL, staged (R132). -/
def pnGovCtlWrite (v : Nat) (d : Dev) : Dev :=
  (d.stage R.PN_BAY_GOV_CTL_CVV (bits v 1 1) 0 d.pnBay).stage R.PN_BAY_GOV_CTL_EN (bits v 0 0) 0 d.pnBay

/-- A write of PN_BAY_XLATE, staged; setting DOWNGRADE needs a standing class 6 authorization for the bay, and spends it
(R133, R401, R405). -/
def pnXlateWrite (req : Requester) (v : Nat) (d : Dev) : Dev :=
  let bay := d.pnBay
  let put (d : Dev) : Dev := (d.stage R.PN_BAY_XLATE_DOWNGRADE (bits v 16 16) 0 bay).stage R.PN_BAY_XLATE_PERMIT
    (bits v 15 0) 0 bay
  if bits v 16 16 = 1 ∧ d.get R.PN_BAY_XLATE_DOWNGRADE 0 bay = 0 then
    if d.authStands 6 bay then (put d.authStart).authDone
    else (d.err .pn 0 req .policyDenied).blockEvent .pn 0 4
  else put d

/-! ## The meanings -/

/-- PIN_TRANSLATION (R109). -/
def execPinTranslation (c : Fin 512) (s : State) : Host.Outcome State Fault Refusal := s.after (pinTranslation c)
/-- PIN_VERIFY_OFFSET (R113). -/
def execPinVerifyOffset (c : Fin 512) (s : State) : Host.Outcome State Fault Refusal := s.after (pinVerifyOffset c)
/-- PIN_VERIFY_PVV (R116). -/
def execPinVerifyPvv (c : Fin 512) (s : State) : Host.Outcome State Fault Refusal := s.after (pinVerifyPvv c)
/-- PIN_OFFSET_GENERATION (R114). -/
def execPinOffsetGeneration (c : Fin 512) (s : State) : Host.Outcome State Fault Refusal :=
  s.after (pinOffsetGeneration c)
/-- OFFSET_FROM_CHOSEN_PIN (R113). -/
def execOffsetFromChosenPin (c : Fin 512) (s : State) : Host.Outcome State Fault Refusal :=
  s.after (offsetFromChosenPin c)
/-- PVV_FROM_CHOSEN_PIN (R116). -/
def execPvvFromChosenPin (c : Fin 512) (s : State) : Host.Outcome State Fault Refusal := s.after (pvvFromChosenPin c)
/-- RANDOM_PIN_PVV_GENERATION (R116). -/
def execRandomPinPvv (c : Fin 512) (s : State) : Host.Outcome State Fault Refusal := s.after (randomPinPvv c)
/-- PIN_CHANGE_OFFSET (R115). -/
def execPinChangeOffset (c : Fin 512) (s : State) : Host.Outcome State Fault Refusal := s.after (pinChangeOffset c)
/-- PIN_CHANGE_PVV (R116). -/
def execPinChangePvv (c : Fin 512) (s : State) : Host.Outcome State Fault Refusal := s.after (pinChangePvv c)
/-- MAC_GENERATION (R124). -/
def execMacGeneration (c : Fin 512) (s : State) : Host.Outcome State Fault Refusal := s.after (macGeneration c)
/-- MAC_VERIFICATION (R127). -/
def execMacVerification (c : Fin 512) (s : State) : Host.Outcome State Fault Refusal := s.after (macVerification c)
/-- CVV_GENERATION (R128). -/
def execCvvGeneration (c : Fin 512) (s : State) : Host.Outcome State Fault Refusal := s.after (cvvGeneration c)
/-- CVV_VERIFICATION (R128). -/
def execCvvVerification (c : Fin 512) (s : State) : Host.Outcome State Fault Refusal := s.after (cvvVerification c)
/-- PIN_LANE_GRANT (R572). -/
def execPinLaneGrant (s : State) : Host.Outcome State Fault Refusal := s.after (·.pinGrant)
/-- PIN_STEP_END: the step of a lane ends at a clock count (R97, R106). -/
def execPinStepEnd (lane : Fin 24) (clocks : Nat) (s : State) : Host.Outcome State Fault Refusal :=
  s.after (·.pinStepEnd lane clocks)
/-- GOVERNOR_REFILL: the refill of the present cycle, if it is due and not yet made (R119, R121). -/
def execGovernorRefill (s : State) : Host.Outcome State Fault Refusal := s.after (·.govRefill)

/-- PN_BAY_WRITE: a write of PN_BAY_LIMITS, PN_BAY_GOV or PN_BAY_GOV_CTL (R132). -/
def pnBayWrite (req : Requester) (reg : PnReg) (v : Nat) (d : Dev) : Dev :=
  match reg with
  | .limits => pnLimitsWrite req v d
  | .gov => pnGovWrite req v d
  | .govCtl => pnGovCtlWrite v d

/-- PN_BAY_WRITE (R132). -/
def execPnBayWrite (req : Requester) (reg : PnReg) (v : Word) (s : State) : Host.Outcome State Fault Refusal :=
  s.after (pnBayWrite req reg v.toNat)
/-- PN_BAY_XLATE_WRITE (R133). -/
def execPnBayXlateWrite (req : Requester) (v : Word) (s : State) : Host.Outcome State Fault Refusal :=
  s.after (pnXlateWrite req v.toNat)

end Sys2Proof.Machine
end

