-- ==== Sys2Proof/Machine/Ashlar.lean ====
section
/-! DEFINITION. Micro-operations and the Ashlar and hash cores (ch. 02, 06): the meaning of the micro-operations but PK, of
their claims, ends and aborts, and of the offline writes. The spec gives the micro-operations of R68 without an encoding;
their operand forms are log entry 14. -/

namespace Sys2Proof.Machine

/-! ## Operands (R65, R68) -/

/-- The bytes of a micro-operation's data source: 8 bytes of a general register, big-endian. -/
def Ctx.read (x : Ctx) (s : Src) : Bytes :=
  match s with
  | .none => []
  | .regs first n => (List.range n).flatMap (fun i => beBytes 8 ((Tab.get x.regs (first + i) 0).toNat))
  | .buf off len => (List.range len).map (fun i => Tab.get x.buf (off + i) 0)
  | .lane n len => ((List.range ((len + 31) / 32)).flatMap (fun i =>
      match Tab.look x.lanes (n + i) with | some l => l.val | none => [])).take len
  | .pinUnit => x.pinOut.getD []

/-- A source lies inside the context's registers, buffer or lanes (R65). -/
def Src.fits (s : Src) : Bool :=
  match s with
  | .none | .pinUnit => true
  | .regs first n => first + n ≤ 32
  | .buf off len => off + len ≤ 65536
  | .lane n len => n + (len + 31) / 32 ≤ 64

/-- A source is neither a lane register nor the PIN unit's output, which no data input may be unless an operation names it
(R66, R70). -/
def Src.plain (s : Src) : Bool :=
  match s with
  | .lane _ _ | .pinUnit => false
  | _ => true

/-- Run a micro-operation of a context that holds a running request; any other context issues none (R71, R74). -/
def Dev.micro (d : Dev) (c : Nat) (body : Request → Ctx → Dev → Dev) : Dev :=
  let x := d.ctx c
  match x.req with
  | some r => if x.state = .running then body r x d else d
  | none => d

/-- A micro-operation that ends at once with a status: its token is on its way (R68). -/
def Dev.microEnds (d : Dev) (c : Nat) (r : Request) (st : Status) : Dev := (d.outstand c).jobToken c (some r) st

/-! ## The key of a micro-operation (R67, R69, R139, R190) -/

/-- What a key source gives: a status, a wait for a reservation, or usage, algorithm, mode of use, value, and whether it is
a session key of a lane register. -/
inductive MicroKey where
  | refused (st : Status)
  | waits
  | key (usage : Usage) (alg : Alg) (mode : Option ModeOfUse) (val : Bytes) (session : Bool)
deriving DecidableEq, Repr

/-- Resolve a handle for a context, rows 5, 6 and 8 of R111, unless the context has resolved it already (R190); a context
holds at most 8 handles (R65). -/
def Dev.loadHandle (d : Dev) (c : Nat) (r : Request) (h : Nat) : Resolved × Dev :=
  let x := d.ctx c
  if x.handles.contains h then
    match d.lookup r.bay h with
    | .key o => (.keys [o], d)
    | .stale => (.refused .keyExpired, d)
    | .none => (.refused .keyHandle, d)
  else if x.handles.length ≥ 8 then (.refused .inputRange, d)
  else if d.cacheBusy r.bay [h] then (.refused .busy, d)
  else
    let p := d.resolve c r.bay [{ handle := h, fits := fun o => o.attrs.type ≠ .privateKey }]
    match p.1 with
    | .keys l => (.keys l, p.2.setCtx c { p.2.ctx c with handles := x.handles ++ [h] })
    | .refused st => (.refused st, p.2.setCtx c { p.2.ctx c with handles := x.handles })
    | .waits => p

/-- The key a micro-operation names (R67, R69, R272, R274). -/
def Dev.microKey (d : Dev) (c : Nat) (r : Request) (k : KeySrc) : MicroKey × Dev :=
  match k with
  | .handle h =>
    match d.loadHandle c r h with
    | (.refused st, d1) => (.refused st, d1)
    | (.waits, d1) => (.waits, d1)
    | (.keys l, d1) =>
      let o := l.getD 0 default
      if o.attrs.type = .symmetric ∧ o.attrs.profile.isNone then
        (.key o.attrs.usage o.attrs.alg (some o.attrs.mode) o.key false, d1)
      else (.refused .keyUsage, d1)
  | .lane n len =>
    let x := d.ctx c
    match Tab.look x.lanes n with
    | some l => if l.secret then (.refused .keyUsage, d) else (.key l.usage l.alg none (x.read (.lane n len)) l.session, d)
    | none => (.refused .keyUsage, d)

/-- The usages whose keys derive others (R69). -/
def Usage.derives (u : Usage) : Bool := [Usage.b0, .b1, .b2, .e0, .e1, .e2, .e3, .e4, .e5, .e6].contains u

/-- The EMV usages. -/
def Usage.emv (u : Usage) : Bool := [Usage.e0, .e1, .e2, .e3, .e4, .e5, .e6].contains u

/-- The MAC usages. -/
def Usage.macs (u : Usage) : Bool := [Usage.m0, .m1, .m3, .m6, .m7].contains u

/-- The mode of use of a stored key permits an operation; a lane register has none (R69, R155). -/
def modeAllows (m : Option ModeOfUse) (l : List ModeOfUse) : Bool :=
  match m with
  | none => true
  | some m => l.contains m

/-- Where R69 sends a CIPHER output: the destination the program named, if the key's usage and the operation permit it. -/
def cipherDest (u : Usage) (m : Option ModeOfUse) (session : Bool) (op : CipherOp) : Option Dest :=
  let general : Option Dest := match op.dest with | .reg n => some (.reg n) | .buf o => some (.buf o) | _ => none
  let register : Option Dest := match op.dest with | .reg n => some (.reg n) | _ => none
  match op.kind with
  | .derive du da =>
    match op.dest with
    | .lane n =>
      if u.derives && !session && modeAllows m [.x] && op.src.plain then
        some (.lane n (if u.emv then u else du) da u.emv)
      else none
    | _ => none
  | .unwrap =>
    match op.dest with
    | .lane n => if (u = .k0 ∨ u = .k1) ∧ modeAllows m [.d, .b] ∧ op.src.plain then some (.lane n u .aes false) else none
    | _ => none
  | .wrap =>
    match op.src with
    | .lane _ _ => if (u = .k0 ∨ u = .k1) ∧ modeAllows m [.e, .b] then general else none
    | _ => none
  | .decrypt =>
    if u = .p0 ∧ modeAllows m [.d, .b] ∧ op.src.plain then (if op.dest = .pinLane then some .pinLane else none)
    else if u = .d0 ∧ modeAllows m [.d, .b] ∧ op.src.plain then general
    else none
  | .encrypt =>
    if u = .p0 ∧ modeAllows m [.e, .b] ∧ op.src = .pinUnit then register
    else if (u = .v1 ∧ op.src.plain) ∨ (u = .v2 ∧ op.src = .pinUnit) then
      (if op.dest = .pinLane ∧ modeAllows m [.c, .g, .v] then some .pinRef else none)
    else if u = .d0 ∧ modeAllows m [.e, .b] ∧ op.src.plain then general
    else none
  | .mac _ => if (u.macs ∨ (u.emv ∧ session)) ∧ modeAllows m [.c, .g] ∧ op.src.plain then register else none
  | .macVerify t =>
    if (u.macs ∨ (u.emv ∧ session)) ∧ modeAllows m [.c, .v] ∧ op.src.plain ∧ t.plain ∧ op.dest = .none then some .none
    else none
  | .cvv _ => if u = .c0 ∧ modeAllows m [.c, .g, .v] ∧ op.src.plain ∧ op.dest = .pinLane then some .pinRef else none

/-- The MAC of a mode (R124, R226). -/
def modeMac (mode : CipherMode) (alg : Alg) (key m : Bytes) : Option Bytes :=
  match mode with
  | .cmac => some (cmac alg.cipher key m)
  | .iso1 p => if alg = .tdes then some (isoMac1 key p m) else none
  | .iso3 p => if alg = .tdes ∧ key.length = 16 then some (isoMac3 key p m) else none
  | .hmac256 => if alg = .hmac then some (hmac256 key m) else none
  | .hmac512 => if alg = .hmac then some (hmac512 key m) else none
  | _ => none

/-- The counter-mode key stream (R226). -/
def ctrStream (c : Cipher) (key : Bytes) (ctr n : Nat) : Bytes :=
  (List.range n).flatMap (fun i => c.enc key (beBytes c.block ((ctr + i) % 256 ^ c.block)))

/-- Encipher or decipher data in a mode, if the data has a length the mode takes (R226). -/
def modeCrypt (x : Ctx) (mode : CipherMode) (alg : Alg) (key data : Bytes) (enc : Bool) : Option Bytes :=
  let c := alg.cipher
  let whole := data.length % c.block = 0 ∧ data ≠ []
  match mode with
  | .ecb => if whole then some (if enc then ecbEnc c key data else ecbDec c key data) else none
  | .cbc iv =>
    if whole ∧ (x.read iv).length = c.block then
      some (if enc then cbcEnc c key (x.read iv) data else cbcDec c key (x.read iv) data)
    else none
  | .ctr iv =>
    if (x.read iv).length = c.block then
      some (xorB data (ctrStream c key (beNat (x.read iv)) ((data.length + c.block - 1) / c.block)))
    else none
  | _ => none

/-- The value of a PIN-block mode operation: a deciphered PIN field, or an enciphered block (R101 to R103). -/
def modePin (x : Ctx) (format : Nat) (pan : Src) (alg : Alg) (key data : Bytes) (enc : Bool) : Option Bytes :=
  match asciiDigits (x.read pan) with
  | some p =>
    if formatIndex format ≠ none ∧ panOk (some p) ∧ alg = formatAlg format ∧ data.length = (if format = 4 then 16 else 8) then
      some (if enc then pinEncipher format key (nibbles data) p else nibbleBytes (pinDecipher format key data p))
    else none
  | none => none

/-- What a CIPHER micro-operation computes: a status and an output (R69, R124, R127, R128, R226). -/
def cipherResult (x : Ctx) (op : CipherOp) (alg : Alg) (key : Bytes) : Status × Bytes :=
  let data := x.read op.src
  let out (o : Option Bytes) : Status × Bytes := match o with | some b => (.ok, b) | none => (.inputRange, [])
  match op.kind with
  | .derive _ _ => out (modeCrypt x op.mode alg key data true)
  | .unwrap => out (modeCrypt x op.mode alg key (data.drop 16) false)
  | .wrap => out (modeCrypt x op.mode alg key data true)
  | .decrypt =>
    match op.mode with
    | .pinBlock f pan => out (modePin x f pan alg key data false)
    | _ => out (modeCrypt x op.mode alg key data false)
  | .encrypt =>
    match op.mode with
    | .pinBlock f pan => out (modePin x f pan alg key data true)
    | _ => out (modeCrypt x op.mode alg key data true)
  | .mac n => out ((modeMac op.mode alg key data).bind (fun t => if n ≤ t.length then some (t.take n) else none))
  | .macVerify t =>
    let tag := x.read t
    match modeMac op.mode alg key data with
    | some m => if tag = m.take tag.length ∧ tag ≠ [] then (.ok, []) else (.verifyFailed, [])
    | none => (.inputRange, [])
  | .cvv n =>
    match asciiDigits data with
    | some l =>
      if 19 ≤ l.length ∧ l.length ≤ 26 ∧ 3 ≤ n ∧ n ≤ 5 ∧ alg = .tdes ∧ key.length = 16 then
        let pan := l.take (l.length - 7)
        (.ok, digitsAscii (cvv key pan ((l.drop (l.length - 7)).take 4) (lastN 3 l) n))
      else (.inputRange, [])
    | none => (.inputRange, [])

/-- The lane destination of an unwrapped key, tagged from the key block header that precedes it (R69). -/
def unwrapDest (x : Ctx) (op : CipherOp) (dest : Dest) : Option Dest :=
  match op.kind, dest with
  | .unwrap, .lane n _ _ _ =>
    let h := x.read op.src
    match Usage.ofChars (beNat ((h.drop 5).take 2)), algOfChar (beNat ((h.drop 7).take 1)) with
    | some u, some a => some (.lane n u a false)
    | _, _ => none
  | _, _ => some dest

/-- The cipher or hash blocks of a CIPHER micro-operation (R227, R257, R258). -/
def cipherBlocks (op : CipherOp) (alg : Alg) (n : Nat) : Nat :=
  match op.mode with
  | .hmac256 => (n + 9 + 63) / 64 + 3
  | .hmac512 => (n + 17 + 127) / 128 + 3
  | .pinBlock f _ => if f = 4 then 2 else 1
  | _ => (n + alg.cipher.block - 1) / alg.cipher.block

/-- The operands of a CIPHER micro-operation lie inside the context (R65). -/
def CipherOp.fits (op : CipherOp) : Bool :=
  op.src.fits && (match op.mode with | .cbc iv | .ctr iv => iv.fits && iv.plain | .pinBlock _ p => p.fits && p.plain | _ => true) &&
    (match op.kind with | .macVerify t => t.fits | _ => true)

/-- MICROOP_CIPHER: the key is resolved, the output steered, and the job waits for a core; an HMAC goes to the hash cores
(R67, R69, R258). -/
def cipherMicroop (lvl c : Nat) (op : CipherOp) (d : Dev) : Dev :=
  d.micro c fun r x d =>
    if !op.fits then d.microEnds c r .inputRange
    else
      match d.microKey c r op.key with
      | (.refused st, d1) => d1.microEnds c r st
      | (.waits, d1) => d1.setCtx c { d1.ctx c with state := .waiting }
      | (.key u a m val session, d1) =>
        match (cipherDest u m session op).bind (unwrapDest x op) with
        | none => d1.microEnds c r .keyUsage
        | some dest =>
          let res := cipherResult x op a val
          let h := match op.key with | .handle h => h | .lane _ _ => 0
          let j := { microJob c r dest res.2 res.1 (cipherBlocks op a (x.read op.src).length) with handle := h }
          let d2 := d1.outstand c
          match op.mode with
          | .hmac256 | .hmac512 =>
            let d3 : Dev := { d2 with eng := { d2.eng with hashWait := d2.eng.hashWait ++ [j] } }
            if lvl < 2 then d3.hashGrant 16 else d3
          | _ => { d2 with eng := { d2.eng with ashWait := d2.eng.ashWait ++ [j] } }

/-! ## HASH (R257, R259) -/

/-- The output of a hash function, if a SHAKE's length is in its range (R257). -/
def runHash (f : HashFn) (m : Bytes) : Option Bytes :=
  match f with
  | .sha224 => some (sha224 m) | .sha256 => some (sha256 m) | .sha384 => some (sha384 m) | .sha512 => some (sha512 m)
  | .sha3224 => some (sha3 28 m) | .sha3256 => some (sha3 32 m) | .sha3384 => some (sha3 48 m)
  | .sha3512 => some (sha3 64 m)
  | .shake128 n => if 1 ≤ n ∧ n ≤ 64 then some (shake128 n m) else none
  | .shake256 n => if 1 ≤ n ∧ n ≤ 64 then some (shake256 n m) else none

/-- The blocks of a message (R257). -/
def hashBlocks (f : HashFn) (m : Nat) : Nat :=
  match f with
  | .sha224 | .sha256 => (m + 9 + 63) / 64
  | .sha384 | .sha512 => (m + 17 + 127) / 128
  | .sha3224 => m / 144 + 1
  | .sha3256 | .shake256 _ => m / 136 + 1
  | .sha3384 => m / 104 + 1
  | .sha3512 => m / 72 + 1
  | .shake128 _ => m / 168 + 1

/-- MICROOP_HASH: a message of 0 to 65,536 bytes is hashed on a hash core, first come first served (R257, R259). -/
def hashMicroop (lvl c : Nat) (f : HashFn) (src : Src) (dest : MicroDest) (d : Dev) : Dev :=
  d.micro c fun r x d =>
    let to_ : Option Dest := match dest with | .reg n => some (.reg n) | .buf o => some (.buf o) | _ => none
    if !src.plain then d.microEnds c r .keyUsage
    else if !src.fits then d.microEnds c r .inputRange
    else
      match to_, runHash f (x.read src) with
      | none, _ => d.microEnds c r .keyUsage
      | _, none => d.microEnds c r .inputRange
      | some t, some out =>
        let j := microJob c r t out .ok (hashBlocks f (x.read src).length)
        let d1 := d.outstand c
        let d2 : Dev := { d1 with eng := { d1.eng with hashWait := d1.eng.hashWait ++ [j] } }
        if lvl < 2 then d2.hashGrant 16 else d2

/-! ## PIN (R68, R104 to R116, R128) -/

/-- The function whose fixed length a PIN step takes (R96). -/
def PinOp.func : PinOp → Nat
  | .translate _ _ => 0x0101
  | .verifyOffset _ _ _ _ => 0x0110
  | .offset _ _ _ => 0x0121
  | .pvvData _ _ _ => 0x0111
  | .verifyPvv _ => 0x0111
  | .pvv => 0x0122
  | .generate _ _ => 0x0123
  | .cvv _ => 0x0150
  | .verifyCvv _ => 0x0151

/-- The decimalization table of a PIN micro-operation. -/
def Dev.pinTable (d : Dev) (c : Nat) (r : Request) (h : Nat) : Resolved × Dev :=
  match d.loadHandle c r h with
  | (.keys l, d1) => if (l.getD 0 default).attrs.type = .dectab then (.keys l, d1) else (.refused .keyUsage, d1)
  | p => p

/-- Send a step of the PIN unit, whose step lanes are claimed in the order of arrival (R572). -/
def Dev.sendPin (d : Dev) (c : Nat) (r : Request) (op : PinOp) (st : Status) (dest : Dest) (out : Bytes) : Dev :=
  (d.outstand c).pinSend { microJob c r dest out st 0 with func := op.func, clocks := pinStepClocks op.func }

/-- The natural digits a V1 encryption left on the PIN lane (R113). -/
def naturalOf (x : Ctx) (table : Bytes) : List Nat :=
  (nibbles (x.pinRef.getD [])).map (fun n => (table.getD n 0#8).toNat)

/-- MICROOP_PIN: a step of the PIN unit on the value of the PIN lane; its true status is deferred (R106), its output is a
field for the P0 encryption, the data of a PVV encryption, or a result (R68, R70). -/
def pinMicroop (c : Nat) (op : PinOp) (dest : Nat) (d : Dev) : Dev :=
  d.micro c fun r x d =>
    let field (f : Nat) : List Nat := (nibbles (x.pinLane.getD [])).take (if f = 4 then 32 else 16)
    let decode (f : Nat) : Status × List Nat × Dev := d.decodePin f (field f) x
    let withTable (h : Nat) (k : Bytes → Dev → Dev) : Dev :=
      match d.pinTable c r h with
      | (.refused st, d1) => d1.microEnds c r st
      | (.waits, d1) => d1.setCtx c { d1.ctx c with state := .waiting }
      | (.keys l, d1) => k (l.getD 0 default).key d1
    match op with
    | .translate fi fo =>
      if formatIndex fi = none ∨ formatIndex fo = none then d.microEnds c r .inputRange
      else if !x.permits ((formatIndex fi).getD 0) ((formatIndex fo).getD 0) then d.microEnds c r .translationDenied
      else
        let p := decode fi
        match p.2.2.drawFill r.bay 30 with
        | none => p.2.2.microEnds c r .entropyFail
        | some (fill, d1) => d1.sendPin c r op p.1 .pinLane (nibbleBytes (pinField fo p.2.1 fill))
    | .verifyOffset f len h offset =>
      withTable h fun t d =>
        let p := d.decodePin f (field f) x
        p.2.2.sendPin c r op (p.1.orElse (offsetStatus (naturalOf x t) p.2.1 len (asciiDigits (x.read offset)))) .none []
    | .offset f len h =>
      withTable h fun t d =>
        let p := d.decodePin f (field f) x
        p.2.2.sendPin c r op (p.1.orElse (offsetStatus (naturalOf x t) p.2.1 len none)) (.reg dest)
          (digitsAscii (pinOffset (naturalOf x t) p.2.1 len))
    | .pvvData f pan pvki =>
      match asciiDigits (x.read pan) with
      | none => d.microEnds c r .panFormat
      | some l =>
        if !panOk (some l) then d.microEnds c r .panFormat
        else if pvki > 6 then d.microEnds c r .inputRange
        else
          let p := decode f
          p.2.2.sendPin c r op p.1 .pinLane (nibbleBytes (lastN 11 l.dropLast ++ [pvki] ++ p.2.1.take 4))
    | .verifyPvv v =>
      d.sendPin c r op (if asciiDigits (x.read v) = some (decimalize (x.pinRef.getD []) 4) then .ok else .verifyFailed)
        .none []
    | .pvv => d.sendPin c r op .ok (.reg dest) (digitsAscii (decimalize (x.pinRef.getD []) 4))
    | .generate n fo =>
      if n < x.pinMin ∨ n > x.pinMax ∨ formatIndex fo = none then d.microEnds c r .inputRange
      else
        match d.drawFill r.bay 42 with
        | none => d.microEnds c r .entropyFail
        | some (l, d1) =>
          d1.sendPin c r op .ok .pinLane (nibbleBytes (pinField fo ((l.take n).map (· % 10)) (l.drop 12)))
    | .cvv n => d.sendPin c r op .ok (.reg dest) ((x.pinRef.getD []).take n)
    | .verifyCvv v =>
      d.sendPin c r op (if x.read v = x.pinRef.getD [] ∧ x.pinRef.isSome then .ok else .verifyFailed) .none []

/-! ## KEY, RAND, VAULT (R68) -/

/-- A stored key misses the cache: its record is filled from HBM or the NAND (R198). -/
def Dev.startFill (d : Dev) (c : Nat) (r : Request) (h : Nat) : Dev :=
  let d1 := d.outstand c
  { d1 with keys := { d1.keys with fills := d1.keys.fills ++ [⟨c, some r, r.bay, h⟩] } }

/-- The status of row 5 for a handle, with the root first (R574). -/
def Dev.handleFault (d : Dev) (bay h : Nat) : Option Status :=
  if !d.rootPresent then some .rootAbsent
  else match d.lookup bay h with | .none => some .keyHandle | .stale => some .keyExpired | .key _ => none

/-- The key of so many bytes that a derivation makes of a shared secret (R274, log entry 14). -/
def derivedKey (secret : Bytes) (n : Nat) : Bytes := (List.range n).map (fun i => Config.derivedByte secret n i)

/-- MICROOP_KEY: load a key, derive one from a shared secret into the cache, or unwrap a record into the cache (R68, R198,
R274). -/
def keyMicroop (c : Nat) (op : KeyOp) (d : Dev) : Dev :=
  d.micro c fun r x d =>
    match op with
    | .load h | .unwrap h =>
      match d.handleFault r.bay h with
      | some st => d.microEnds c r st
      | none =>
        if d.cacheBusy r.bay [h] then (d.refuseBusy r.bay).microEnds c r .busy
        else if !d.cached r.bay h then d.startFill c r h
        else if op = .unwrap h then d.microEnds c r .ok
        else
          match d.loadHandle c r h with
          | (.refused st, d1) => d1.microEnds c r st
          | (.waits, d1) => d1.setCtx c { d1.ctx c with state := .waiting }
          | (.keys _, d1) => d1.microEnds c r .ok
    | .derive lane len attrs n =>
      match Tab.look x.lanes lane with
      | none => d.microEnds c r .keyUsage
      | some l =>
        if !l.secret then d.microEnds c r .keyUsage
        else if attrs.type ≠ .symmetric ∨ !algLen attrs.alg n ∨ x.handles.length ≥ 8 then d.microEnds c r .inputRange
        else
          match d.nextSlot r.bay with
          | none => d.microEnds c r .quotaExceeded
          | some slot =>
            let o := d.newObj attrs (derivedKey (x.read (.lane lane len)) n)
            if d.sessionRoom r.bay o.entries then
              let h := sessionHandle d.plinth.powerSeq (d.get R.BY_GEN_GEN r.bay) slot
              let d1 := d.addSession r.bay slot o
              (d1.setCtx c { d1.ctx c with handles := x.handles ++ [h] }).microEnds c r .ok
            else d.microEnds c r .busy

/-- KEY_CACHE_FILL: a fill ends with its record authenticated and unwrapped: row 6, then the cache; a load goes on to the
expiry and use check (R190, R191, R198). -/
def keyCacheFill (n : Nat) (fromNand : Bool) (d : Dev) : Dev :=
  match d.keys.fills[n]? with
  | none => d
  | some f =>
    let d1 : Dev := { d with keys := { d.keys with fills := d.keys.fills.eraseIdx n } }
    let d2 := (if fromNand then d1.occur 0x0C0 none 0 else d1).occur 0x060 (some f.bay) (if fromNand then 1 else 0)
    match d2.lookup f.bay f.handle with
    | .key o =>
      match d2.loadFault o with
      | some st => d2.jobToken f.ctx f.req st
      | none =>
        let d3 := (d2.cacheIn f.bay [f.handle] f.handle o.entries).useNode f.bay 1
        match f.req with
        | some r =>
          if (d3.ctx f.ctx).req = some r then
            match d3.loadHandle f.ctx r f.handle with
            | (.refused st, d4) => d4.jobToken f.ctx f.req st
            | (.waits, d4) => (d4.settle f.ctx).setCtx f.ctx { (d4.settle f.ctx).ctx f.ctx with state := .waiting }
            | (.keys _, d4) => d4.jobToken f.ctx f.req .ok
          else d3.jobToken f.ctx f.req .ok
        | none => d3
    | _ => d2.jobToken f.ctx f.req .keyHandle

/-- MICROOP_RAND: draw from the bay's DRBG (R68, R210). -/
def randMicroop (c : Nat) (op : RandOp) (d : Dev) : Dev :=
  d.micro c fun r _ d =>
    let go (dest : Dest) (n : Nat) : Dev :=
      match d.drbgDraw r.bay n with
      | none => d.microEnds c r .entropyFail
      | some (b, d1) => (d1.applyDest c false dest b).microEnds c r .ok
    match op with
    | .regs first n => if first + n ≤ 32 then go (.reg first) (8 * n) else d.microEnds c r .inputRange
    | .lane n len u a =>
      if n + (len + 31) / 32 ≤ 64 then go (.lane n u a false) len else d.microEnds c r .inputRange

/-- MICROOP_VAULT: read a record into the cache, or write the key of a lane register as a new record; the write's token
returns when it is durable (R68, R203). -/
def vaultMicroop (c : Nat) (op : VaultOp) (d : Dev) : Dev :=
  d.micro c fun r x d =>
    match op with
    | .read h =>
      match d.handleFault r.bay h with
      | some st => d.microEnds c r st
      | none =>
        if d.cacheBusy r.bay [h] then (d.refuseBusy r.bay).microEnds c r .busy else d.startFill c r h
    | .write n len attrs dest =>
      match Tab.look x.lanes n, d.nextObject r.bay with
      | some l, some num =>
        let key := x.read (.lane n len)
        let o := d.newObj attrs key
        if l.secret ∨ l.usage ≠ attrs.usage ∨ l.alg ≠ attrs.alg ∨ attrs.type ≠ .symmetric then d.microEnds c r .keyUsage
        else if !algLen attrs.alg len ∨ key.length ≠ len ∨ !(modesOf attrs.usage).contains attrs.mode then
          d.microEnds c r .inputRange
        else if !d.rootPresent then d.microEnds c r .rootAbsent
        else if !d.quotaRoom r.bay o.quotaBytes then d.microEnds c r .quotaExceeded
        else if !(d.nonce (kekIndex r.bay)).ready then
          let d1 := d.waitReservation c r.bay [] [kekIndex r.bay]
          d1.setCtx c { d1.ctx c with state := .waiting }
        else
          let d1 : Dev := { d with keys := { d.keys with lastObj := Tab.put d.keys.lastObj r.bay num } }
          match d1.vaultWrite ⟨r.bay, .object num o, c, some r, false, []⟩ with
          | (some st, d2) => d2.microEnds c r st
          | (none, d2) => (d2.applyDest c false (.reg dest) (beBytes 8 num)).outstand c
      | none, _ => d.microEnds c r .keyUsage
      | _, none => d.microEnds c r .quotaExceeded

/-! ## Completion tokens (R68, R92) -/

/-- The statuses that end a function program (R92). -/
def endsProgram (st : Status) : Bool := st = .xingTimeout || st = .engineFault || st = .aborted

/-- MICROOP_COMPLETION: the oldest completion token of a context returns; the program goes on, or ends with the token's
status (R92). -/
def microopCompletion (c : Nat) (d : Dev) : Dev :=
  match d.eng.tokens.find? (fun t => t.ctx == c) with
  | none => d
  | some t =>
    let d1 := ({ d with eng := { d.eng with tokens := d.eng.tokens.erase t } }).settle c
    let x := d1.ctx c
    match x.req with
    | none => d1
    | some r =>
      let d2 := d1.setCtx c { x with last := t.status }
      if endsProgram t.status ∧ t.req = some r then d2.finish c r t.status [] else d2

/-! ## Job ends, aborts and service (R231, R234, R248 to R251, R259) -/

/-- A bulk record's job has been run; any other job's result is computed when it is issued. -/
def Job.ran (j : Job) : Bool :=
  match j.finish with
  | .bulk _ => j.blocks ≠ 0
  | _ => true

/-- ASHLAR_JOB_END: the CUR job of a core ends; the wipe of its bank is checked (R231, R248, R249). While the clock domain
is stopped no job ends (R253). -/
def ashlarJobEnd (c : Nat) (wiped : Bool) (d : Dev) : Dev :=
  match (d.core c).curJob with
  | none => d
  | some j =>
    if d.stopped 4 || !j.ran then d
    else if wiped then d.coreJobEnd c j
    else d.coreWipeFault c false

/-- HASH_JOB_END: the job of a hash core ends, its bank wiped and checked; the core takes the next job (R259). -/
def hashJobEndEvent (lvl h : Nat) (wiped : Bool) (d : Dev) : Dev :=
  match (d.hash h).curJob with
  | none => d
  | some j =>
    if d.stopped 4 then d
    else
      let d1 := if wiped then d.hashJobEnd h j else d.hashWipeFault h j
      if lvl < 2 then d1.hashGrant 16 else d1

/-- JOB_ABORT: the abort of a job takes effect at its next block boundary; the job ends with a wipe (R250, R259). A job
without a cause for an abort is not touched. -/
def jobAbort (lvl : Nat) (sel : CoreSel) (wiped : Bool) (d : Dev) : Dev :=
  let cipher (c : Nat) (next : Bool) : Dev :=
    match if next then (d.core c).nextJob else (d.core c).curJob with
    | none => d
    | some j =>
      match d.abortCause lvl j with
      | none => d
      | some st => if wiped then d.coreAborted c next j st else d.coreWipeFault c next
  if d.stopped 4 then d
  else
    match sel with
    | .cur c => cipher c false
    | .next c => cipher c true
    | .hash h =>
      match (d.hash h).curJob with
      | none => d
      | some j =>
        match d.abortCause lvl j with
        | none => d
        | some st =>
          let d1 := if wiped then d.hashAborted h j st else d.hashWipeFault h j
          if lvl < 2 then d1.hashGrant 16 else d1

/-! ## The meanings -/

/-- ASHLAR_CLAIM (R63, R231): no new claim is made while a SUSPEND or higher response is in effect (R420). -/
def execAshlarClaim (s : State) : Host.Outcome State Fault Refusal :=
  s.afterWith fun p d => if d.workLevel p.level < 2 then d.ashlarClaim else d
/-- MICROOP_CIPHER (R69). -/
def execMicroopCipher (c : Fin 512) (op : CipherOp) (s : State) : Host.Outcome State Fault Refusal :=
  s.afterWith fun p d => cipherMicroop (d.workLevel p.level) c op d
/-- MICROOP_HASH (R68, R257). -/
def execMicroopHash (c : Fin 512) (f : HashFn) (src : Src) (dest : MicroDest) (s : State) :
    Host.Outcome State Fault Refusal := s.afterWith fun p d => hashMicroop (d.workLevel p.level) c f src dest d
/-- MICROOP_PIN (R68, R572). -/
def execMicroopPin (c : Fin 512) (op : PinOp) (dest : Fin 32) (s : State) : Host.Outcome State Fault Refusal :=
  s.after (pinMicroop c op dest)
/-- MICROOP_KEY (R68). -/
def execMicroopKey (c : Fin 512) (op : KeyOp) (s : State) : Host.Outcome State Fault Refusal := s.after (keyMicroop c op)
/-- MICROOP_RAND (R68). -/
def execMicroopRand (c : Fin 512) (op : RandOp) (s : State) : Host.Outcome State Fault Refusal :=
  s.after (randMicroop c op)
/-- MICROOP_VAULT (R68). -/
def execMicroopVault (c : Fin 512) (op : VaultOp) (s : State) : Host.Outcome State Fault Refusal :=
  s.after (vaultMicroop c op)
/-- MICROOP_COMPLETION (R92). -/
def execMicroopCompletion (c : Fin 512) (s : State) : Host.Outcome State Fault Refusal := s.after (microopCompletion c)
/-- KEY_CACHE_FILL (R198): the n-th fill in progress ends, from HBM or from the NAND. -/
def execKeyCacheFill (n : Nat) (fromNand : Bool) (s : State) : Host.Outcome State Fault Refusal :=
  s.after (keyCacheFill n fromNand)
/-- ASHLAR_JOB_END (R248, R249). -/
def execAshlarJobEnd (c : Fin 128) (wiped : Bool) (s : State) : Host.Outcome State Fault Refusal :=
  s.after (ashlarJobEnd c wiped)
/-- JOB_ABORT (R250). -/
def execJobAbort (sel : CoreSel) (wiped : Bool) (s : State) : Host.Outcome State Fault Refusal :=
  s.afterWith fun p d => jobAbort (d.workLevel p.level) sel wiped d
/-- AS_OFFLINE_WRITE (R234): OFFLINE takes the written value; claims made before stand. -/
def execAsOfflineWrite (c : Fin 128) (v : Word) (s : State) : Host.Outcome State Fault Refusal :=
  s.after (·.set R.AS_SERVICE_OFFLINE v.toNat c)
/-- HS_OFFLINE_WRITE (R259): as R234 does for a cipher core; a core back in service takes a waiting job. -/
def execHsOfflineWrite (h : Fin 16) (v : Word) (s : State) : Host.Outcome State Fault Refusal :=
  s.afterWith fun p d =>
    let d1 := d.set R.HS_SERVICE_OFFLINE v.toNat h
    if d.workLevel p.level < 2 then d1.hashGrant 16 else d1
/-- HASH_JOB_END (R259). -/
def execHashJobEnd (h : Fin 16) (wiped : Bool) (s : State) : Host.Outcome State Fault Refusal :=
  s.afterWith fun p d => hashJobEndEvent (d.workLevel p.level) h wiped d

end Sys2Proof.Machine
end

