-- ==== Sys2Proof/Machine/Bulk.lean ====
section
/-! DEFINITION. Bulk records (ch. 06, R64, R235 to R247, R315, R571): the checks before a grant, the grant of bulk-pool cores
by the stride procedure, and the meaning of the four operations. -/

namespace Sys2Proof.Machine

/-! ## Checks (R236) -/

/-- A record encrypts: OP 0x01 or 0x03. -/
def BulkDesc.encrypts (x : BulkDesc) : Bool := x.op == 1 || x.op == 3

/-- A record takes its IV from the key's nonce counter (R240, R247). -/
def BulkDesc.hardwareIv (x : BulkDesc) : Bool := x.encrypts && x.ivMode == 0

/-- Check 1: the form of a descriptor (R235, R236). -/
def BulkDesc.formOk (x : BulkDesc) : Bool :=
  1 ≤ x.op && x.op ≤ 4 && x.ivMode ≤ 1 && x.reservedZero && x.aadLen ≤ 65536 && x.payLen ≤ 1048576 &&
    (if x.op ≤ 2 then 1 ≤ x.payLen else x.payLen == 0 && 1 ≤ x.aadLen)

/-- Check 4: the key's usage, algorithm, length and mode of use permit the operation. -/
def bulkFits (x : BulkDesc) (o : Obj) : Bool :=
  o.plain .d0 && o.attrs.alg = .aes && aesLen o.key.length &&
    (o.attrs.mode = .b || o.attrs.mode = (if x.encrypts then .e else .d))

/-- The key of a record, with check 6: a supplied IV needs the External IV attribute. -/
def bulkWant (x : BulkDesc) : Want where
  handle := x.handle
  fits := bulkFits x
  after := fun o => failIf (x.encrypts && x.ivMode == 1 && !o.attrs.externalIv) .policyDenied

/-- What the checks of R236 come to. -/
inductive BulkVerdict where
  | ends (st : Status)
  | waits
  | passes (key : Bytes)
deriving DecidableEq, Repr

/-- The checks of R236 in their order, with the root after check 1 (R574); a record that finds no reserved use waits for
the reservation (R190). -/
def Dev.bulkCheck (d : Dev) (r : BulkRec) : BulkVerdict × Dev :=
  let x := r.desc
  let w := bulkWant x
  if !x.formOk then (.ends .inputRange, d)
  else if !d.rootPresent then (.ends .rootAbsent, d)
  else if d.cacheBusy r.bay [x.handle] then (.ends .busy, d.refuseBusy r.bay)
  else
    match d.keyRows r.bay [w], d.lookup r.bay x.handle with
    | some st, _ => (.ends st, d)
    | none, .key o =>
      let i := nonceIndex r.bay x.handle
      if d.reservationsNeeded r.bay [w] ≠ [] then
        (.waits, { d with keys := { d.keys with useWrites := d.keys.useWrites.filter (· ≠ i) ++ [i] } })
      else
        let d1 := (d.cacheIn r.bay [x.handle] x.handle o.entries).useNode r.bay 1
        match d1.useRow r.bay [] [w] with
        | (some st, d2) => (.ends st, d2)
        | (none, d2) => (if x.hardwareIv && (d2.nonce i).exhausted then .ends .keyExhausted else .passes o.key, d2)
    | none, _ => (.ends .keyHandle, d)

/-- The waiting records of an owner (R64). -/
def Dev.bulkQueue (d : Dev) (owner : Nat) : List BulkRec := Tab.get d.eng.bulkWait owner []

/-- Write the waiting records of an owner. -/
def Dev.setBulkQueue (d : Dev) (owner : Nat) (l : List BulkRec) : Dev :=
  { d with eng := { d.eng with bulkWait := Tab.set d.eng.bulkWait owner [] l } }

/-- Check an owner's records that are not checked yet, oldest first, until one waits; n bounds the checks. -/
def Dev.bulkCheckOwner (d : Dev) (owner : Nat) : Nat → Dev
  | 0 => d
  | n + 1 =>
    match (d.bulkQueue owner).find? (fun r => !r.checked) with
    | none => d
    | some r =>
      match d.bulkCheck r with
      | (.waits, d1) => d1
      | (.ends st, d1) =>
        ((d1.setBulkQueue owner ((d1.bulkQueue owner).erase r)).bulkComplete r st []).bulkCheckOwner owner n
      | (.passes key, d1) =>
        (d1.setBulkQueue owner ((d1.bulkQueue owner).map (fun y =>
          if y = r then { r with checked := true, key := key } else y))).bulkCheckOwner owner n

/-- A record arrives from a face: it is checked, and waits for a bulk-pool core; an owner that had none waiting starts from
the present pass (R236, R571). -/
def Dev.bulkArrive (d : Dev) (r : BulkRec) : Dev :=
  let q := d.bulkQueue r.bay
  let d1 : Dev := if q = [] then
      { d with eng := { d.eng with bulkPasses := startPass d.eng.bulkPasses d.eng.bulkPresent r.bay } }
    else d
  (d1.setBulkQueue r.bay (q ++ [r])).bulkCheckOwner r.bay (q.length + 1)

/-! ## Grants (R64, R239, R243, R244, R315) -/

/-- The head record of an owner, if it can be granted now: checked, no reset of its bay under way, its nonce reserved. -/
def Dev.bulkReady (d : Dev) (owner : Nat) : Bool :=
  match d.bulkQueue owner with
  | [] => false
  | r :: _ => r.checked && !(owner < 256 && d.on R.STATUS_RESETTING owner) &&
      (!r.desc.hardwareIv || (d.nonce (nonceIndex owner r.desc.handle)).ready)

/-- The nonce counters that head records wait for, whose reservation is not under way (R244). -/
def Dev.bulkNonces (d : Dev) : List Nat :=
  d.eng.bulkWait.filterMap (fun e => match e.2 with
    | [] => none
    | r :: _ =>
      let i := nonceIndex e.1 r.desc.handle
      if r.checked && r.desc.hardwareIv && !(d.nonce i).ready && !(d.nonce i).reserving then some i else none)

/-- The job of a bulk record (R230, R232). -/
def bulkJob (r : BulkRec) : Job where
  supervisor := r.bay == 256
  bay := if r.bay = 256 then 0 else r.bay
  gen := r.gen
  tag := r.stream
  ctx := 0
  req := none
  func := 0
  dest := .none
  out := []
  status := .ok
  clocks := 0
  cost := 0
  blocks := 0
  finish := .bulk r
  handle := r.desc.handle
  invalid := false
  abort := false

/-- The IV of a record at its grant: the next counter value, or the descriptor's IV (R239, R240, R247). -/
def Dev.bulkIv (d : Dev) (r : BulkRec) : IvResult × Dev :=
  if r.desc.hardwareIv then d.takeIv r.bay (nonceIndex r.bay r.desc.handle) else (.iv r.desc.iv, d)

/-- Grant one core, if a record can take one; none otherwise. -/
def Dev.bulkGrantOne (d : Dev) : Option Dev :=
  let owners := (d.eng.bulkWait.map (·.1)).filter (fun o => d.bulkReady o)
  match d.bulkCore, d.grantOwner R.BY_BULK_SHARE_EFFECTIVE d.eng.bulkPasses d.eng.bulkLast owners with
  | some c, some o =>
    match d.bulkQueue o with
    | [] => none
    | r :: rest =>
      let d1 := d.setBulkQueue o rest
      match d1.bulkIv r with
      | (.exhausted, d2) => some (d2.bulkComplete r .keyExhausted [])
      | (.entropy, d2) => some (d2.bulkComplete r .entropyFail [])
      | (.iv v, d2) =>
        let present := Tab.get d2.eng.bulkPasses o 0
        let passes := d2.stridePass R.BY_BULK_SHARE_EFFECTIVE d2.eng.bulkPasses o (r.desc.aadLen + r.desc.payLen)
        let e : Eng := if d2.grantShare R.BY_BULK_SHARE_EFFECTIVE o > 0 then
            { d2.eng with bulkPresent := present, bulkPasses := passes }
          else { d2.eng with bulkLast := o }
        let d3 : Dev := { d2 with eng := e }
        let x := (d3.core c).claim (bulkJob { r with iv := v }) 2
        some ((d3.setCore c x).occur 0x031 (if o < 256 then some o else none) 1)
  | _, _ => none

/-- Grant cores while there are records and cores; n bounds the grants. -/
def Dev.bulkGrant (d : Dev) : Nat → Dev
  | 0 => d
  | n + 1 => match d.bulkGrantOne with | some d1 => d1.bulkGrant n | none => d

/-- Step 6 of R59: check what waits, reserve the nonces that are missing, and grant the free bulk-pool cores (R64, R244);
no grant while a SUSPEND or higher response is in effect (R420). -/
def Dev.bulkStep (d : Dev) (lvl : Nat) : Dev :=
  let d1 := d.eng.bulkWait.foldl (fun a e => a.bulkCheckOwner e.1 e.2.length) d
  let d2 := d1.bulkNonces.foldl (fun a i => a.reserveNonce i) d1
  if lvl < 2 then d2.bulkGrant 256 else d2

/-! ## The four operations (R237, R238) -/

/-- What a core computes for a record: status and output (R237, R238). -/
def bulkResult (r : BulkRec) : Status × Bytes :=
  let x := r.desc
  if x.op = 1 then
    let p := gcmEnc r.key r.iv r.aad r.pay
    (.ok, p.1 ++ p.2)
  else if x.op = 3 then (.ok, (gcmEnc r.key r.iv r.aad []).2)
  else
    match gcmDec r.key r.iv r.aad (if x.op = 2 then r.pay else []) r.tag with
    | some p => (.ok, p)
    | none => (.verifyFailed, [])

/-- The core runs the record of an operation that its CUR entry names: the header data first, then the payload; nothing is
output before a tag has verified (R127, R237, R238). The job ends at its ASHLAR_JOB_END. -/
def bulkRun (op c : Nat) (d : Dev) : Dev :=
  let x := d.core c
  match x.curJob with
  | none => d
  | some j =>
    match j.finish with
    | .bulk r =>
      if r.desc.op = op ∧ j.blocks = 0 ∧ !d.stopped 4 then
        let p := bulkResult r
        d.setCore c { x with curJob := some { j with status := p.1, out := p.2, blocks := 1 + (r.pay.length + 15) / 16 } }
      else d
    | _ => d

/-! ## The meanings -/

/-- BULK_ENCRYPT (R237). -/
def execBulkEncrypt (c : Fin 128) (s : State) : Host.Outcome State Fault Refusal := s.after (bulkRun 1 c)
/-- BULK_DECRYPT (R238). -/
def execBulkDecrypt (c : Fin 128) (s : State) : Host.Outcome State Fault Refusal := s.after (bulkRun 2 c)
/-- GMAC_GENERATE (R237). -/
def execGmacGenerate (c : Fin 128) (s : State) : Host.Outcome State Fault Refusal := s.after (bulkRun 3 c)
/-- GMAC_VERIFY (R238). -/
def execGmacVerify (c : Fin 128) (s : State) : Host.Outcome State Fault Refusal := s.after (bulkRun 4 c)

end Sys2Proof.Machine
end

