-- ==== Sys2Proof/Machine/KeyMgmt.lean ====
section
/-! DEFINITION. Key management (ch. 05, R193, R194): the meaning of functions 0x0301 to 0x0303. -/

namespace Sys2Proof.Machine

/-! ## Attributes of a new key (R189, R193) -/

/-- The attributes a request for a new symmetric key names, in the order of R189: usage, algorithm, length, mode of use,
exportability, key version number, use limit, Not after, Expire at reset, token profile, key set identifier. -/
structure NewKey where
  attrs : Attrs
  len : Nat
  session : Bool
deriving DecidableEq, Repr, Inhabited

/-- A token profile of 5 bytes (R161, R205). -/
def profileOf (b : Bytes) : Option TokenProfile :=
  let f (i : Nat) : Nat := (b.getD i 0#8).toNat
  if b.length = 5 ∧ f 0 ≤ 8 ∧ f 1 ≤ 4 ∧ f 2 ≤ 2 ∧ f 3 ≤ 2 ∧ f 4 ≤ 1 then some ⟨f 0, f 1, f 2, f 3, f 4 == 1⟩ else none

/-- Read the attributes of a new key, if every value is in its range (R155, R161, R189); dual is whether a quorum stands. -/
def newKey (r : Request) (dual : Bool) : Option NewKey :=
  let exportChar := if (r.tlv? 5).isSome then r.num 5 else 0x4E
  let version := if (r.tlv? 6).isSome then r.tlv 6 else [0x30#8, 0x30#8]
  let profile := (r.tlv? 10).map profileOf
  match Usage.ofChars (r.num 1), algOfChar (r.num 2), ModeOfUse.ofChar (r.num 4) with
  | some u, some a, some m =>
    let bad := !algLen a (r.num 3) || !(modesOf u).contains m || (exportChar ≠ 0x45 && exportChar ≠ 0x4E) ||
      version.length ≠ 2 || r.num 7 ≥ 2 ^ 32 || r.num 8 ≥ 2 ^ 32 || r.num 9 > 1 || profile = some none ||
      (profile.isSome && !(u = .d0 && a = .aes)) || (r.tlv 11).length > 16
    if bad then none
    else
      some ⟨⟨.symmetric, u, a, m, exportChar == 0x45, beNat version, r.num 7, r.num 8, false, profile.join, r.tlv 11, [],
        false, dual⟩, r.num 3, r.num 9 == 1⟩
  | _, _, _ => none

/-- 0x0301: draw a new symmetric key, store it, and return its handle and check value (R193). A token profile needs a
standing class 10 authorization for the bay, and spends it (R161, R401, R405). -/
def keyGeneration (c : Nat) (d : Dev) : Dev :=
  d.runProgram c 0x0301 fun r d =>
    let dual := (r.tlv? 10).isSome
    match newKey r dual with
    | none => d.finish c r .inputRange []
    | some k =>
      d.checked c r [failIf (dual && !d.authStands 10 r.bay) .policyDenied, failIf (!d.rootPresent) .rootAbsent] fun d =>
        d.withKeys c r [] (if k.session then [] else [kekIndex r.bay]) fun _ d =>
          let d := if dual then d.authStart else d
          let done (d : Dev) : Dev := if dual then d.authDone else d
          match d.drbgDraw r.bay k.len with
          | none => done (d.finish c r .entropyFail [])
          | some (key, d1) =>
            let o := d1.newObj k.attrs key
            done (d1.createKey c r o k.session (fun handle => [handle, storedCheck k.attrs.alg key]))

/-- The handle that 0x0302 and 0x0303 name in their first parameter, once the root is present (R193, R574). -/
def Dev.withObject (d : Dev) (c : Nat) (r : Request) (k : Nat → Obj → Dev → Dev) : Dev :=
  let h := r.num 1
  if !d.rootPresent then d.finish c r .rootAbsent []
  else
    match d.lookup r.bay h with
    | .none => d.finish c r .keyHandle []
    | .stale => d.finish c r .keyExpired []
    | .key o => k h (if bitOf h 31 then o else d.newestObj r.bay h o) d

/-- 0x0302: mark a record deleted; it is gone when the write is durable. A session key is gone at once (R192, R193). -/
def keyDeletion (c : Nat) (d : Dev) : Dev :=
  d.runProgram c 0x0302 fun r d =>
    d.withObject c r fun h o d =>
      if bitOf h 31 then
        let d1 : Dev := { d with keys := { d.keys with sess := Tab.del d.keys.sess (sessIndex r.bay (h % 65536)) } }
        (d1.cacheOut r.bay h).finish c r .ok []
      else
        d.withKeys c r [] [kekIndex r.bay] fun _ d =>
          d.writeAndWait c r (.object h { o with deletedAt := some d.plinth.seconds, format := d.floor }) []

/-- What an attribute change comes to (R194). -/
inductive Change where
  | same | to_ (a : Attrs) | refused
deriving DecidableEq, Repr

/-- The change a request asks for: a code byte and a value; 1 exportability, 2 Not after, 3 External IV (R194). -/
def attrChange (a : Attrs) (v : Bytes) : Change :=
  let x := beNat (v.drop 1)
  match (v.getD 0 0#8).toNat with
  | 1 =>
    if v.length ≠ 2 then .refused
    else if x = (if a.exportable then 0x45 else 0x4E) then .same
    else if x = 0x4E then .to_ { a with exportable := false } else .refused
  | 2 =>
    if v.length ≠ 5 then .refused
    else if x = a.notAfter then .same
    else if x ≠ 0 ∧ (a.notAfter = 0 ∨ x < a.notAfter) then .to_ { a with notAfter := x } else .refused
  | 3 =>
    if v.length ≠ 2 then .refused
    else if x = b2n a.externalIv then .same
    else if x = 0 then .to_ { a with externalIv := false } else .refused
  | _ => .refused

/-- 0x0303: one of the permitted attribute changes; one that changes nothing completes with ST_OK (R194). -/
def attributeChange (c : Nat) (d : Dev) : Dev :=
  d.runProgram c 0x0303 fun r d =>
    d.withObject c r fun h o d =>
      match attrChange o.attrs (r.tlv 2) with
      | .refused => d.finish c r .attrImmutable []
      | .same => d.finish c r .ok []
      | .to_ a =>
        if bitOf h 31 then (d.setObj r.bay h { o with attrs := a }).finish c r .ok []
        else
          d.withKeys c r [] [kekIndex r.bay] fun _ d =>
            d.writeAndWait c r (.object h { o with attrs := a, format := d.floor }) []

/-! ## The meanings -/

/-- KEY_GENERATION (R193). -/
def execKeyGeneration (c : Fin 512) (s : State) : Host.Outcome State Fault Refusal := s.after (keyGeneration c)
/-- KEY_DELETION (R193). -/
def execKeyDeletion (c : Fin 512) (s : State) : Host.Outcome State Fault Refusal := s.after (keyDeletion c)
/-- ATTRIBUTE_CHANGE (R194). -/
def execAttributeChange (c : Fin 512) (s : State) : Host.Outcome State Fault Refusal := s.after (attributeChange c)

end Sys2Proof.Machine
end

