-- ==== Sys2Proof/Machine/Lattice.lean ====
section
/-! DEFINITION. ML-KEM (FIPS 203) and pure hedged ML-DSA (FIPS 204), which R276 names (log entry 5). Polynomials are lists
of 256 coefficients. -/

namespace Sys2Proof.Machine

/-! ## Polynomials and the number-theoretic transform -/

/-- A polynomial of 256 coefficients. -/
abbrev Poly := List Nat

/-- The sum and the difference modulo q, and a multiple. -/
def polyAdd (q : Nat) (a b : Poly) : Poly := List.zipWith (fun x y => (x + y) % q) a b
def polySub (q : Nat) (a b : Poly) : Poly := List.zipWith (fun x y => modSub x y q) a b

/-- The zero polynomial. -/
def polyZero : Poly := List.replicate 256 0

/-- The n bits of a number in the reverse order. -/
def bitRev (n x : Nat) : Nat := (List.range n).foldl (fun a i => 2 * a + x / 2 ^ i % 2) 0

/-- One butterfly layer of the transform over blocks of 2·len coefficients; zs gives the factor of each block. -/
def nttLayer (q len : Nat) : List Nat → Poly → Poly
  | z :: zs, l =>
    let a := l.take len
    let b := ((l.drop len).take len).map (fun x => x * z % q)
    if l.length ≤ 2 * len then polyAdd q a b ++ polySub q a b
    else polyAdd q a b ++ polySub q a b ++ nttLayer q len zs (l.drop (2 * len))
  | [], l => l

/-- One layer of the inverse transform. -/
def inttLayer (q len : Nat) : List Nat → Poly → Poly
  | z :: zs, l =>
    let a := l.take len
    let b := (l.drop len).take len
    let s := polyAdd q a b
    let t := (polySub q b a).map (fun x => x * z % q)
    if l.length ≤ 2 * len then s ++ t else s ++ t ++ inttLayer q len zs (l.drop (2 * len))
  | [], l => l

/-- The powers of zeta that the 2^m blocks of a layer take. -/
def layerZetas (q zeta revBits m : Nat) : List Nat :=
  (List.range (2 ^ m)).map (fun i => modPow zeta q 16 (bitRev revBits (2 ^ m + i)))

/-- The transform with so many layers. -/
def ntt (q zeta layers : Nat) (p : Poly) : Poly :=
  (List.range layers).foldl (fun l m => nttLayer q (128 / 2 ^ m) (layerZetas q zeta layers m) l) p

/-- The inverse transform; scale is the inverse of the number of blocks. -/
def intt (q zeta layers scale : Nat) (p : Poly) : Poly :=
  let l := (List.range layers).foldl (fun l i =>
    let m := layers - 1 - i
    inttLayer q (128 / 2 ^ m) (layerZetas q zeta layers m).reverse l) p
  l.map (fun x => x * scale % q)

/-- The bits of bytes, the lowest of each byte first. -/
def bitsOfBytes (b : Bytes) : List Nat := b.flatMap (fun x => (List.range 8).map (fun i => x.toNat / 2 ^ i % 2))

/-- Read numbers of d bits, n of them, from bytes, the lowest bit first. -/
def unpackBits (d n : Nat) (b : Bytes) : List Nat :=
  let x := leNat b
  (List.range n).map (fun i => x / 2 ^ (d * i) % 2 ^ d)

/-- Pack numbers of d bits into bytes, the lowest bit first. -/
def packBits (d : Nat) (l : List Nat) : Bytes := leBytes (d * l.length / 8) (l.foldr (fun x a => a * 2 ^ d + x) 0)

/-! ## ML-KEM (FIPS 203) -/

/-- A parameter set: k, eta1, du, dv. -/
structure KemSet where
  k : Nat
  eta1 : Nat
  du : Nat
  dv : Nat
deriving DecidableEq, Repr, Inhabited

/-- ML-KEM-512, -768 and -1024 by their key type codes (R271). -/
def kemSet (code : Nat) : Option KemSet :=
  if code = 0x20 then some ⟨2, 3, 10, 4⟩ else if code = 0x21 then some ⟨3, 2, 10, 4⟩
  else if code = 0x22 then some ⟨4, 2, 11, 5⟩ else none

/-- The modulus. -/
def kemQ : Nat := 3329

/-- The transforms of ML-KEM: seven layers, zeta 17, scale 128⁻¹. -/
def kemNtt (p : Poly) : Poly := ntt kemQ 17 7 p
def kemIntt (p : Poly) : Poly := intt kemQ 17 7 3303 p

/-- The products of two pairs in the quotient rings. -/
def kemBase : List Nat → List Nat → List Nat → List Nat
  | a0 :: a1 :: a, b0 :: b1 :: b, g :: gs =>
    (a0 * b0 + a1 * b1 % kemQ * g) % kemQ :: (a0 * b1 + a1 * b0) % kemQ :: kemBase a b gs
  | _, _, _ => []

/-- The product in the transform domain. -/
def kemMul (a b : Poly) : Poly :=
  kemBase a b ((List.range 128).map (fun i => modPow 17 kemQ 16 (2 * bitRev 7 i + 1)))

/-- Rejection sampling of a transformed polynomial from a stream of three-byte groups. -/
def kemReject : List Nat → List Nat
  | a :: b :: c :: r =>
    let d1 := a + 256 * (b % 16)
    let d2 := b / 16 + 16 * c
    (if d1 < kemQ then [d1] else []) ++ (if d2 < kemQ then [d2] else []) ++ kemReject r
  | _ => []

/-- SampleNTT: 256 coefficients from SHAKE128. -/
def kemSample (seed : Bytes) : Poly := (kemReject ((shake128 1344 seed).map (·.toNat))).take 256

/-- SamplePolyCBD from the PRF. -/
def kemCbd (eta : Nat) (seed : Bytes) (n : Nat) : Poly :=
  let bs := bitsOfBytes (shake256 (64 * eta) (seed ++ [BitVec.ofNat 8 n]))
  (List.range 256).map (fun i =>
    let s (j : Nat) : Nat := ((bs.drop (2 * i * eta + j)).take eta).foldl (· + ·) 0
    modSub (s 0) (s eta) kemQ)

/-- The entry of the matrix in row i and column j. -/
def kemA (rho : Bytes) (i j : Nat) : Poly := kemSample (rho ++ [BitVec.ofNat 8 j, BitVec.ofNat 8 i])

/-- The inner product of two vectors in the transform domain. -/
def kemDot (a b : List Poly) : Poly := (List.zipWith kemMul a b).foldl (polyAdd kemQ) polyZero

/-- Compression and decompression to d bits. -/
def kemCompress (d x : Nat) : Nat := ((2 ^ d * x * 2 + kemQ) / (2 * kemQ)) % 2 ^ d
def kemDecompress (d y : Nat) : Nat := (2 * y * kemQ + 2 ^ d) / 2 ^ (d + 1)

/-- The key pair of seeds d and z: encapsulation key, decapsulation key. -/
def kemKeyGen (s : KemSet) (dz : Bytes) : Bytes × Bytes :=
  let g := sha3 64 (dz.take 32 ++ [BitVec.ofNat 8 s.k])
  let rho := g.take 32
  let sigma := g.drop 32
  let sv := (List.range s.k).map (fun i => kemNtt (kemCbd s.eta1 sigma i))
  let ev := (List.range s.k).map (fun i => kemNtt (kemCbd s.eta1 sigma (s.k + i)))
  let tv := (List.range s.k).map (fun i =>
    polyAdd kemQ (kemDot ((List.range s.k).map (fun j => kemA rho i j)) sv) (ev.getD i []))
  let ek := tv.flatMap (packBits 12) ++ rho
  (ek, sv.flatMap (packBits 12) ++ ek ++ sha3 32 ek ++ (dz.drop 32).take 32)

/-- Encrypt a message of 32 bytes with the randomness r. -/
def kemEncrypt (s : KemSet) (ek m r : Bytes) : Bytes :=
  let tv := (List.range s.k).map (fun i => unpackBits 12 256 ((ek.drop (384 * i)).take 384))
  let rho := ek.drop (384 * s.k)
  let yv := (List.range s.k).map (fun i => kemNtt (kemCbd s.eta1 r i))
  let uv := (List.range s.k).map (fun i =>
    polyAdd kemQ (kemIntt (kemDot ((List.range s.k).map (fun j => kemA rho j i)) yv)) (kemCbd 2 r (s.k + i)))
  let mu := (bitsOfBytes m).map (kemDecompress 1)
  let v := polyAdd kemQ (polyAdd kemQ (kemIntt (kemDot tv yv)) (kemCbd 2 r (2 * s.k))) mu
  uv.flatMap (fun u => packBits s.du (u.map (kemCompress s.du))) ++ packBits s.dv (v.map (kemCompress s.dv))

/-- Decrypt a ciphertext. -/
def kemDecrypt (s : KemSet) (dk c : Bytes) : Bytes :=
  let uv := (List.range s.k).map (fun i =>
    (unpackBits s.du 256 ((c.drop (32 * s.du * i)).take (32 * s.du))).map (kemDecompress s.du))
  let v := (unpackBits s.dv 256 (c.drop (32 * s.du * s.k))).map (kemDecompress s.dv)
  let sv := (List.range s.k).map (fun i => unpackBits 12 256 ((dk.drop (384 * i)).take 384))
  let w := polySub kemQ v (kemIntt (kemDot sv (uv.map kemNtt)))
  packBits 1 (w.map (kemCompress 1))

/-- The lengths of an encapsulation key, a decapsulation key and a ciphertext. -/
def KemSet.ekLen (s : KemSet) : Nat := 384 * s.k + 32
def KemSet.dkLen (s : KemSet) : Nat := 768 * s.k + 96
def KemSet.ctLen (s : KemSet) : Nat := 32 * (s.du * s.k + s.dv)

/-- The modulus check of an encapsulation key (R289). -/
def kemKeyOk (s : KemSet) (ek : Bytes) : Bool :=
  (unpackBits 12 (256 * s.k) (ek.take (384 * s.k))).all (· < kemQ)

/-- Encapsulation with the message m: ciphertext and shared secret. -/
def kemEncaps (s : KemSet) (ek m : Bytes) : Bytes × Bytes :=
  let g := sha3 64 (m ++ sha3 32 ek)
  (kemEncrypt s ek m (g.drop 32), g.take 32)

/-- The hash check of a decapsulation key (R289). -/
def kemDkOk (s : KemSet) (dk : Bytes) : Bool :=
  let ek := (dk.drop (384 * s.k)).take s.ekLen
  sha3 32 ek == (dk.drop (768 * s.k + 32)).take 32

/-- Decapsulation: the shared secret, or the implicit-rejection secret (R289). -/
def kemDecaps (s : KemSet) (dk c : Bytes) : Bytes :=
  let ek := (dk.drop (384 * s.k)).take s.ekLen
  let h := (dk.drop (768 * s.k + 32)).take 32
  let z := dk.drop (768 * s.k + 64)
  let m := kemDecrypt s dk c
  let g := sha3 64 (m ++ h)
  if kemEncrypt s ek m (g.drop 32) = c then g.take 32 else shake256 32 (z ++ c)

/-! ## ML-DSA (FIPS 204) -/

/-- A parameter set. -/
structure DsaSet where
  k : Nat
  l : Nat
  eta : Nat
  tau : Nat
  lambda : Nat
  gamma1 : Nat
  gamma2 : Nat
  omega : Nat
deriving DecidableEq, Repr, Inhabited

/-- The modulus. -/
def dsaQ : Nat := 8380417

/-- ML-DSA-44, -65 and -87 by their key type codes (R271). -/
def dsaSet (code : Nat) : Option DsaSet :=
  if code = 0x30 then some ⟨4, 4, 2, 39, 128, 2 ^ 17, (dsaQ - 1) / 88, 80⟩
  else if code = 0x31 then some ⟨6, 5, 4, 49, 192, 2 ^ 19, (dsaQ - 1) / 32, 55⟩
  else if code = 0x32 then some ⟨8, 7, 2, 60, 256, 2 ^ 19, (dsaQ - 1) / 32, 75⟩ else none

/-- The transforms of ML-DSA: eight layers, zeta 1753, scale 256⁻¹. -/
def dsaNtt (p : Poly) : Poly := ntt dsaQ 1753 8 p
def dsaIntt (p : Poly) : Poly := intt dsaQ 1753 8 8347681 p

/-- The product in the transform domain, and the inner product. -/
def dsaMul (a b : Poly) : Poly := List.zipWith (fun x y => x * y % dsaQ) a b
def dsaDot (a b : List Poly) : Poly := (List.zipWith dsaMul a b).foldl (polyAdd dsaQ) polyZero

/-- The bits a number takes that holds values up to x. -/
def dsaBits (x : Nat) : Nat := bitLen x

/-- BitPack of coefficients w in −a to b, held modulo q: b − w. -/
def dsaPack (a b : Nat) (w : Poly) : Bytes := packBits (dsaBits (a + b)) (w.map (fun x => modSub b x dsaQ))

/-- BitUnpack. -/
def dsaUnpack (a b : Nat) (v : Bytes) : Poly := (unpackBits (dsaBits (a + b)) 256 v).map (fun x => modSub b x dsaQ)

/-- RejNTTPoly: coefficients from three-byte groups of 23 bits. -/
def dsaReject : List Nat → List Nat
  | a :: b :: c :: r =>
    let x := a + 256 * b + 65536 * (c % 128)
    (if x < dsaQ then [x] else []) ++ dsaReject r
  | _ => []

/-- The entry of the matrix in row r and column s. -/
def dsaA (rho : Bytes) (r s : Nat) : Poly :=
  (dsaReject ((shake128 1344 (rho ++ [BitVec.ofNat 8 s, BitVec.ofNat 8 r])).map (·.toNat))).take 256

/-- RejBoundedPoly: coefficients in −eta to eta from half-bytes. -/
def dsaBounded (eta : Nat) (seed : Bytes) (n : Nat) : Poly :=
  let half (z : Nat) : List Nat :=
    if eta = 2 then (if z < 15 then [modSub 2 (z % 5) dsaQ] else []) else if z < 9 then [modSub 4 z dsaQ] else []
  ((shake256 1088 (seed ++ leBytes 2 n)).flatMap (fun x => half (x.toNat % 16) ++ half (x.toNat / 16))).take 256

/-- SampleInBall: positions of the challenge's nonzero coefficients from the stream, one after another. -/
def dsaBall : List Nat → Nat → List Nat → Poly → Poly
  | [], _, _, c => c
  | signs, i, stream, c =>
    match signs with
    | [] => c
    | s :: rest =>
      match stream.dropWhile (· > i) with
      | [] => c
      | j :: more =>
        let c1 := (c.set i (c.getD j 0)).set j (if s = 1 then dsaQ - 1 else 1)
        dsaBall rest (i + 1) more c1

/-- The challenge polynomial of a commitment hash. -/
def dsaChallenge (s : DsaSet) (ct : Bytes) : Poly :=
  let stream := shake256 1088 ct
  let signs := (bitsOfBytes (stream.take 8)).take s.tau
  dsaBall signs (256 - s.tau) ((stream.drop 8).map (·.toNat)) polyZero

/-- Power2Round with d = 13: high part, low part modulo q. -/
def dsaPower2 (x : Nat) : Nat × Nat :=
  let r0 := x % 2 ^ 13
  if r0 ≤ 2 ^ 12 then ((x - r0) / 2 ^ 13, r0) else ((x + 2 ^ 13 - r0) / 2 ^ 13, modSub r0 (2 ^ 13) dsaQ)

/-- Decompose: high part, and low part modulo q. -/
def dsaDecompose (g2 x : Nat) : Nat × Nat :=
  let r := x % (2 * g2)
  let low : Int := if r ≤ g2 then (r : Int) else (r : Int) - 2 * g2
  if (x : Int) - low = (dsaQ : Int) - 1 then (0, ((low - 1) % dsaQ).toNat)
  else ((((x : Int) - low) / (2 * g2)).toNat, (low % dsaQ).toNat)

/-- The absolute value of a coefficient held modulo q. -/
def dsaAbs (x : Nat) : Nat := if x ≤ (dsaQ - 1) / 2 then x else dsaQ - x

/-- The greatest absolute coefficient of a vector. -/
def dsaNorm (v : List Poly) : Nat := v.flatten.foldl (fun a x => max a (dsaAbs x)) 0

/-- UseHint. -/
def dsaUseHint (g2 h x : Nat) : Nat :=
  let m := (dsaQ - 1) / (2 * g2)
  let p := dsaDecompose g2 x
  if h = 1 then (if p.2 ≠ 0 ∧ p.2 ≤ (dsaQ - 1) / 2 then (p.1 + 1) % m else (p.1 + m - 1) % m) else p.1

/-- The encoding of the high parts. -/
def dsaW1 (s : DsaSet) (w : List Poly) : Bytes :=
  w.flatMap (packBits (dsaBits ((dsaQ - 1) / (2 * s.gamma2) - 1)))

/-- The lengths of the keys and of a signature. -/
def DsaSet.pkLen (s : DsaSet) : Nat := 32 + 320 * s.k
def DsaSet.etaBits (s : DsaSet) : Nat := dsaBits (2 * s.eta)
def DsaSet.skLen (s : DsaSet) : Nat := 128 + 32 * ((s.k + s.l) * s.etaBits + 13 * s.k)
def DsaSet.zBits (s : DsaSet) : Nat := dsaBits (2 * s.gamma1 - 1)
def DsaSet.sigLen (s : DsaSet) : Nat := s.lambda / 4 + 32 * s.l * s.zBits + s.omega + s.k
def DsaSet.beta (s : DsaSet) : Nat := s.tau * s.eta

/-- The key pair of a seed: public key, private key. -/
def dsaKeyGen (s : DsaSet) (xi : Bytes) : Bytes × Bytes :=
  let h := shake256 128 (xi ++ [BitVec.ofNat 8 s.k, BitVec.ofNat 8 s.l])
  let rho := h.take 32
  let rho1 := (h.drop 32).take 64
  let kk := h.drop 96
  let s1 := (List.range s.l).map (dsaBounded s.eta rho1)
  let s2 := (List.range s.k).map (fun i => dsaBounded s.eta rho1 (s.l + i))
  let s1n := s1.map dsaNtt
  let t := (List.range s.k).map (fun i =>
    polyAdd dsaQ (dsaIntt (dsaDot ((List.range s.l).map (dsaA rho i)) s1n)) (s2.getD i []))
  let pk := rho ++ t.flatMap (fun p => packBits 10 (p.map (fun x => (dsaPower2 x).1)))
  let sk := rho ++ kk ++ shake256 64 pk ++ s1.flatMap (dsaPack s.eta s.eta) ++ s2.flatMap (dsaPack s.eta s.eta) ++
    t.flatMap (fun p => dsaPack (2 ^ 12 - 1) (2 ^ 12) (p.map (fun x => (dsaPower2 x).2)))
  (pk, sk)

/-- The message representative. -/
def dsaMu (tr ctx m : Bytes) : Bytes :=
  shake256 64 (tr ++ [0x00#8, BitVec.ofNat 8 ctx.length] ++ ctx ++ m)

/-- The hint of a signature: positions of each polynomial, then the running counts. -/
def dsaHintPack (s : DsaSet) (h : List (List Nat)) : Bytes :=
  let pos := h.flatMap (fun p => ((List.range 256).filter (fun i => p.getD i 0 = 1)))
  let counts := (List.range s.k).map (fun i => ((h.take (i + 1)).flatten.filter (· = 1)).length)
  ofNats (pos ++ List.replicate (s.omega - pos.length) 0 ++ counts)

/-- The state a signing loop works with: the matrix, the secret vectors and the low parts, all transformed, and ρ''. -/
structure DsaSigner where
  a : List (List Poly)
  s1 : List Poly
  s2 : List Poly
  t0 : List Poly
  mu : Bytes
  rho2 : Bytes
deriving DecidableEq, Repr, Inhabited

/-- One pass of the signing loop: the signature, or none where it is rejected. -/
def dsaTry (s : DsaSet) (g : DsaSigner) (kappa : Nat) : Option Bytes :=
  let y := (List.range s.l).map (fun r =>
    dsaUnpack (s.gamma1 - 1) s.gamma1 (shake256 (32 * s.zBits) (g.rho2 ++ leBytes 2 (kappa + r))))
  let yn := y.map dsaNtt
  let w := g.a.map (fun row => dsaIntt (dsaDot row yn))
  let w1 := w.map (·.map (fun x => (dsaDecompose s.gamma2 x).1))
  let ct := shake256 (s.lambda / 4) (g.mu ++ dsaW1 s w1)
  let c := dsaNtt (dsaChallenge s ct)
  let cs1 := g.s1.map (fun p => dsaIntt (dsaMul c p))
  let cs2 := g.s2.map (fun p => dsaIntt (dsaMul c p))
  let z := List.zipWith (polyAdd dsaQ) y cs1
  let r := List.zipWith (polySub dsaQ) w cs2
  let r0 := r.map (·.map (fun x => (dsaDecompose s.gamma2 x).2))
  if dsaNorm z ≥ s.gamma1 - s.beta ∨ dsaNorm r0 ≥ s.gamma2 - s.beta then none
  else
    let ct0 := g.t0.map (fun p => dsaIntt (dsaMul c p))
    let r1 := List.zipWith (polyAdd dsaQ) r ct0
    let h := List.zipWith (fun p q => List.zipWith (fun x x1 =>
      if (dsaDecompose s.gamma2 x).1 = (dsaDecompose s.gamma2 x1).1 then 0 else 1) p q) r r1
    if dsaNorm ct0 ≥ s.gamma2 ∨ (h.flatten.filter (· = 1)).length > s.omega then none
    else some (ct ++ z.flatMap (dsaPack (s.gamma1 - 1) s.gamma1) ++ dsaHintPack s h)

/-- The signing loop: the signature and the number of passes; n bounds the passes. -/
def dsaLoop (s : DsaSet) (g : DsaSigner) : Nat → Nat → Bytes × Nat
  | 0, i => ([], i)
  | n + 1, i =>
    match dsaTry s g (i * s.l) with
    | some sig => (sig, i + 1)
    | none => dsaLoop s g n (i + 1)

/-- A hedged signature of a message with a context string, and the passes of the loop (R281). -/
def dsaSign (s : DsaSet) (sk ctx m rnd : Bytes) : Bytes × Nat :=
  let piece (off len : Nat) : Bytes := (sk.drop off).take len
  let e := 32 * s.etaBits
  let polys (off n : Nat) : List Poly := (List.range n).map (fun i => dsaUnpack s.eta s.eta (piece (off + e * i) e))
  let t0 := (List.range s.k).map (fun i =>
    dsaUnpack (2 ^ 12 - 1) (2 ^ 12) (piece (128 + e * (s.l + s.k) + 416 * i) 416))
  let mu := dsaMu (piece 64 64) ctx m
  let g : DsaSigner := ⟨(List.range s.k).map (fun r => (List.range s.l).map (dsaA (piece 0 32) r)),
    (polys 128 s.l).map dsaNtt, (polys (128 + e * s.l) s.k).map dsaNtt, t0.map dsaNtt, mu,
    shake256 64 (piece 32 32 ++ rnd ++ mu)⟩
  dsaLoop s g 1000 0

/-- Read the hint of a signature, if it is well formed: positions rising in each polynomial, the rest zero. -/
def dsaHintUnpack (s : DsaSet) (b : Bytes) : Option (List (List Nat)) :=
  let pos := (b.take s.omega).map (·.toNat)
  let counts := 0 :: (b.drop s.omega).map (·.toNat)
  let part (i : Nat) : List Nat := (pos.take (counts.getD (i + 1) 0)).drop (counts.getD i 0)
  let rising (l : List Nat) : Bool := (l.zip (l.drop 1)).all (fun p => p.1 < p.2)
  let last := counts.getD s.k 0
  if (List.range s.k).all (fun i => counts.getD i 0 ≤ counts.getD (i + 1) 0 && counts.getD (i + 1) 0 ≤ s.omega &&
      rising (part i)) && (pos.drop last).all (· == 0) then
    some ((List.range s.k).map (fun i => (List.range 256).map (fun j => if (part i).contains j then 1 else 0)))
  else none

/-- A signature verifies. -/
def dsaVerify (s : DsaSet) (pk ctx m sig : Bytes) : Bool :=
  let rho := pk.take 32
  let t1 := (List.range s.k).map (fun i => unpackBits 10 256 ((pk.drop (32 + 320 * i)).take 320))
  let ct := sig.take (s.lambda / 4)
  let zl := 32 * s.zBits
  let z := (List.range s.l).map (fun i => dsaUnpack (s.gamma1 - 1) s.gamma1 ((sig.drop (s.lambda / 4 + zl * i)).take zl))
  match dsaHintUnpack s (sig.drop (s.lambda / 4 + zl * s.l)) with
  | none => false
  | some h =>
    let mu := dsaMu (shake256 64 pk) ctx m
    let c := dsaNtt (dsaChallenge s ct)
    let zn := z.map dsaNtt
    let w := (List.range s.k).map (fun i =>
      dsaIntt (polySub dsaQ (dsaDot ((List.range s.l).map (dsaA rho i)) zn)
        (dsaMul c (dsaNtt ((t1.getD i []).map (fun x => x * 2 ^ 13 % dsaQ))))))
    let w1 := List.zipWith (fun hp p => List.zipWith (dsaUseHint s.gamma2) hp p) h w
    decide (dsaNorm z < s.gamma1 - s.beta) && shake256 (s.lambda / 4) (mu ++ dsaW1 s w1) == ct

end Sys2Proof.Machine
end

