-- ==== Sys2Proof/Machine/PublicKey.lean ====
section
/-! DEFINITION. Public-key operations (ch. 07): the parse of the public encodings (R287), the invalid inputs (R289), the
results (R275 to R279) and the clock counts (R280 to R282). -/

namespace Sys2Proof.Machine

/-- What a public-key operation comes to: its status, whether it was refused at the parse or ran on a substitute operand,
the clocks it takes, the outputs, the shared secret, and the private key of a key generation. -/
structure PkResult where
  status : Status
  parse : Bool
  invalid : Bool
  clocks : Nat
  out : List Bytes
  secret : Bytes
  newKey : Bytes
deriving DecidableEq, Repr, Inhabited

/-- A parse fault: the completion comes 300 clocks after the claim (R286). -/
def pkParse (st : Status) : PkResult := ⟨st, true, false, 300, [], [], []⟩

/-- A status without output. -/
def pkStatus (st : Status) (clocks : Nat) : PkResult := ⟨st, false, false, clocks, [], [], []⟩

/-- An input found invalid: the job runs its full count on a substitute (R288). -/
def pkInvalid (st : Status) (clocks : Nat) : PkResult := ⟨st, false, true, clocks, [], [], []⟩

/-- A valid result. -/
def pkOut (out : List Bytes) (clocks : Nat) : PkResult := ⟨.ok, false, false, clocks, out, [], []⟩

/-! ## Clock counts (R280 to R282) -/

/-- The entry of a three-row count for a code from a base on. -/
def pick3 (code base a b c : Nat) : Nat := if code = base then a else if code = base + 1 then b else c

/-- The further blocks of a message beyond what a count includes. -/
def furtherBlocks (len free block : Nat) : Nat := (len - free + block - 1) / block

/-- RSA counts by the modulus length in bytes, that of the next listed size up. -/
def rsaClocks (k a b c : Nat) : Nat := if k ≤ 256 then a else if k ≤ 384 then b else c

/-- The count of key pair generation; RSA takes no counted time (R290), and its grant is charged the typical time of
R282 (log entry 15). -/
def keyGenClocks (kind : Nat) : Nat :=
  if kind < 4 then pick3 kind 1 11500 21000 57000
  else if kind = 4 then 10000
  else if kind < 0x20 then pick3 kind 0x10 67500000 240000000 450000000
  else if kind < 0x30 then pick3 kind 0x20 8000 12000 17500
  else pick3 kind 0x30 25000 40000 62000

/-! ## Parse checks (R287) -/

/-- A digest for a hash ID. -/
def digestFault (id : Nat) (digest : Bytes) : Option Status :=
  if id < 1 ∨ id > 3 then some .pkUnsupported else if digest.length ≠ hashLen id then some .pkEncoding else none

/-- A padding code: 1 PKCS#1 v1.5, 2 PSS (log entry 15). -/
def paddingFault (p : Nat) : Option Status := if p = 1 ∨ p = 2 then none else some .pkUnsupported

/-- An RSA modulus and public exponent. -/
def rsaFault (n : Bytes) (e : Nat) : Option Status :=
  if beNat n % 2 = 0 ∨ n.length < 256 ∨ n.length > 512 ∨ n.head? = some 0x00#8 ∨ e % 2 = 0 ∨ e < 3 ∨ e ≥ 2 ^ 32 then
    some .rsaModulus
  else none

/-- A parse fault that is about a length comes before one about a parameter, and that before an RSA modulus (R287,
R289). -/
def pkFault (l : List (Option Status)) : Option Status :=
  let f := l.filterMap id
  if f.contains .pkEncoding then some .pkEncoding
  else if f.contains .pkUnsupported then some .pkUnsupported
  else f.head?

/-! ## The operations -/

/-- The input with a number from 0. -/
def inp (ins : List Bytes) (i : Nat) : Bytes := ins.getD i []

/-- 0x0501 (R275, R277): hash ID, digest. -/
def pkEcdsaSign (kind : Nat) (key : Bytes) (ins : List Bytes) (rnd : Bytes) : PkResult :=
  let t := pick3 kind 1 12630 22500 60000
  let id := beNat (inp ins 0)
  match curveOf kind, digestFault id (inp ins 1) with
  | none, _ => pkParse .pkUnsupported
  | _, some st => pkParse st
  | some c, none =>
    let dk := beNat key
    if dk = 0 ∨ dk ≥ c.n then pkInvalid .inputRange t
    else pkOut [c.sign dk (beNat (rnd.take (c.len + 8)) % (c.n - 1) + 1) (inp ins 1)] t

/-- 0x0502 (R275, R289): curve, hash ID, digest, point, r ‖ s. -/
def pkEcdsaVerify (ins : List Bytes) : PkResult :=
  let code := beNat (inp ins 0)
  let id := beNat (inp ins 1)
  let t := pick3 code 1 25260 45000 120000
  match curveOf code with
  | none => pkParse .pkUnsupported
  | some c =>
    match pkFault [digestFault id (inp ins 2), failIf (!c.pointForm (inp ins 3)) .pkEncoding,
        failIf ((inp ins 4).length ≠ 2 * c.len) .pkEncoding] with
    | some st => pkParse st
    | none =>
      let r := beNat ((inp ins 4).take c.len)
      let s := beNat ((inp ins 4).drop c.len)
      match c.decode (inp ins 3) with
      | none => pkInvalid .pointInvalid t
      | some q =>
        if r = 0 ∨ s = 0 ∨ r ≥ c.n ∨ s ≥ c.n then pkInvalid .verifyFailed t
        else pkStatus (if c.verify q (inp ins 2) r s then .ok else .verifyFailed) t

/-- 0x0503 (R274, R289): the peer's point. -/
def pkEcdh (kind : Nat) (key : Bytes) (ins : List Bytes) : PkResult :=
  let t := pick3 kind 1 20000 36000 96000
  match curveOf kind with
  | none => pkParse .pkUnsupported
  | some c =>
    if !c.pointForm (inp ins 0) then pkParse .pkEncoding
    else
      let dk := beNat key
      if dk = 0 ∨ dk ≥ c.n then pkInvalid .inputRange t
      else
        match c.decode (inp ins 0) with
        | none => pkInvalid .pointInvalid t
        | some q => { pkOut [] t with secret := c.shared dk q }

/-- 0x0504 (R275): message. -/
def pkEdSign (key : Bytes) (ins : List Bytes) : PkResult :=
  let m := inp ins 0
  if m.length > 61440 then pkParse .pkEncoding
  else pkOut [edSign key m] (10500 + 162 * furtherBlocks m.length 47 128)

/-- 0x0505 (R275, R289): message, public key, signature. -/
def pkEdVerify (ins : List Bytes) : PkResult :=
  let m := inp ins 0
  let sig := inp ins 2
  let t := 24000 + 81 * furtherBlocks m.length 47 128
  if m.length > 61440 ∨ (inp ins 1).length ≠ 32 ∨ sig.length ≠ 64 then pkParse .pkEncoding
  else
    match edDecode (sig.take 32), edDecode (inp ins 1) with
    | some r, some a =>
      let s := leNat (sig.drop 32)
      if s ≥ edL then pkInvalid .verifyFailed t
      else pkStatus (if edVerify (inp ins 1) m (sig.take 32) a r s then .ok else .verifyFailed) t
    | _, _ => pkInvalid .pointInvalid t

/-- 0x0506 (R275, R279): padding, hash ID, digest. A signature that the public exponent does not confirm ends with
ST_ENGINE_FAULT. -/
def pkRsaSign (key : Bytes) (ins : List Bytes) (rnd : Bytes) : PkResult :=
  let n := rsaModulus key
  let k := 2 * (key.length / 5)
  let t := rsaClocks k 63150 190500 436364
  let id := beNat (inp ins 1)
  match pkFault [paddingFault (beNat (inp ins 0)), digestFault id (inp ins 2)] with
  | some st => pkParse st
  | none =>
    let em := if beNat (inp ins 0) = 1 then pkcs1Encode id k (inp ins 2)
      else pssEncode id (bitLen n) (inp ins 2) (rnd.take (hashLen id))
    let s := rsaPrivate key (beNat em)
    if modPow s n 17 65537 = beNat em then pkOut [beBytes k s] t else pkStatus .engineFault t

/-- 0x0507 (R275, R289): modulus, exponent, padding, hash ID, digest, signature. -/
def pkRsaVerify (ins : List Bytes) : PkResult :=
  let n := beNat (inp ins 0)
  let e := beNat (inp ins 1)
  let k := (inp ins 0).length
  let id := beNat (inp ins 3)
  let t := rsaClocks k 2000 4200 7000
  match pkFault [failIf ((inp ins 5).length ≠ k) .pkEncoding, paddingFault (beNat (inp ins 2)),
      digestFault id (inp ins 4), rsaFault (inp ins 0) e] with
  | some st => pkParse st
  | none =>
    let s := beNat (inp ins 5)
    if s = 0 ∨ s ≥ n then pkInvalid .verifyFailed t
    else
      let m := modPow s n 32 e
      let ok := if beNat (inp ins 2) = 1 then beBytes k m == pkcs1Encode id k (inp ins 4)
        else decide (m < 256 ^ ((bitLen n + 6) / 8)) && pssOk id (bitLen n) (inp ins 4) (beBytes ((bitLen n + 6) / 8) m)
      pkStatus (if ok then .ok else .verifyFailed) t

/-- 0x0508 (R275, R289): modulus, exponent, input. -/
def pkRsaPublic (ins : List Bytes) : PkResult :=
  let n := beNat (inp ins 0)
  let k := (inp ins 0).length
  let t := rsaClocks k 2000 4200 7000
  match pkFault [failIf ((inp ins 2).length ≠ k) .pkEncoding, rsaFault (inp ins 0) (beNat (inp ins 1))] with
  | some st => pkParse st
  | none =>
    let x := beNat (inp ins 2)
    if x = 0 ∨ x ≥ n then pkInvalid .inputRange t else pkOut [beBytes k (modPow x n 32 (beNat (inp ins 1)))] t

/-- 0x0509 (R275, R289): parameter set, encapsulation key. -/
def pkKemEncaps (ins : List Bytes) (rnd : Bytes) : PkResult :=
  let code := beNat (inp ins 0)
  let t := pick3 code 0x20 10000 15000 21000
  match kemSet code with
  | none => pkParse .pkUnsupported
  | some s =>
    if (inp ins 1).length ≠ s.ekLen then pkParse .pkEncoding
    else if !kemKeyOk s (inp ins 1) then pkInvalid .inputRange t
    else
      let r := kemEncaps s (inp ins 1) (rnd.take 32)
      { pkOut [r.1] t with secret := r.2 }

/-- 0x050A (R275, R289): ciphertext. -/
def pkKemDecaps (kind : Nat) (key : Bytes) (ins : List Bytes) : PkResult :=
  let t := pick3 kind 0x20 13000 20000 28500
  match kemSet kind with
  | none => pkParse .pkUnsupported
  | some s =>
    if (inp ins 0).length ≠ s.ctLen then pkParse .pkEncoding
    else if !kemDkOk s key then pkInvalid .inputRange t
    else { pkOut [] t with secret := kemDecaps s key (inp ins 0) }

/-- 0x050B (R275, R281): message, context; each pass of the signing loop adds its count. -/
def pkDsaSign (kind : Nat) (key : Bytes) (ins : List Bytes) (rnd : Bytes) : PkResult :=
  let m := inp ins 0
  let ctx := inp ins 1
  match dsaSet kind with
  | none => pkParse .pkUnsupported
  | some s =>
    if m.length > 61440 ∨ ctx.length > 255 then pkParse .pkEncoding
    else
      let r := dsaSign s key ctx m (rnd.take 32)
      pkOut [r.1] (pick3 kind 0x30 11000 16000 24000 + r.2 * pick3 kind 0x30 11300 15686 21500 +
        25 * furtherBlocks (m.length + ctx.length) 64 136)

/-- 0x050C (R275, R289): parameter set, public key, message, context, signature. -/
def pkDsaVerify (ins : List Bytes) : PkResult :=
  let code := beNat (inp ins 0)
  let m := inp ins 2
  let ctx := inp ins 3
  match dsaSet code with
  | none => pkParse .pkUnsupported
  | some s =>
    let t := pick3 code 0x30 25000 36000 55000 + 25 * furtherBlocks (m.length + ctx.length) 64 136
    if (inp ins 1).length ≠ s.pkLen ∨ m.length > 61440 ∨ ctx.length > 255 ∨ (inp ins 4).length ≠ s.sigLen then
      pkParse .pkEncoding
    else pkStatus (if dsaVerify s (inp ins 1) ctx m (inp ins 4) then .ok else .verifyFailed) t

/-- The RSA key field of two primes with e = 65,537 (R271): p, q, dp, dq, qinv. -/
def rsaField (bits : Nat) (p q : Nat) : Bytes :=
  let h := bits / 16
  let egcd (a m : Nat) : Nat := (Int.emod (Nat.gcdA a m) m).toNat
  beBytes h p ++ beBytes h q ++ beBytes h (egcd 65537 (p - 1)) ++ beBytes h (egcd 65537 (q - 1)) ++ beBytes h (egcd q p)

/-- 0x050D (R275 to R278): the key type; the private key goes to the key island, the public key to the output. -/
def pkKeyGen (kind : Nat) (rnd : Bytes) : PkResult :=
  let t := keyGenClocks kind
  let give (pub priv : Bytes) : PkResult := { pkOut [pub] t with newKey := priv }
  match curveOf kind, kemSet kind, dsaSet kind with
  | some c, _, _ =>
    let dk := beNat (rnd.take (c.len + 8)) % (c.n - 1) + 1
    give (c.encode (c.times dk c.base)) (beBytes c.len dk)
  | _, some s, _ => let p := kemKeyGen s (rnd.take 64); give p.1 p.2
  | _, _, some s => let p := dsaKeyGen s (rnd.take 32); give p.1 p.2
  | none, none, none =>
    if kind = 4 then give (edPublic (rnd.take 32)) (rnd.take 32)
    else if 0x10 ≤ kind ∧ kind ≤ 0x12 then
      let bits := pick3 kind 0x10 2048 3072 4096
      let pq := Config.rsaPrimes bits rnd
      give (beBytes (bits / 8) (pq.1 * pq.2)) (rsaField bits pq.1 pq.2)
    else pkParse .pkUnsupported

/-- A public-key operation by its function code, with the random bytes drawn for it (R275). -/
def pkRun (func kind : Nat) (key : Bytes) (ins : List Bytes) (rnd : Bytes) : PkResult :=
  if func = 0x0501 then pkEcdsaSign kind key ins rnd
  else if func = 0x0502 then pkEcdsaVerify ins
  else if func = 0x0503 then pkEcdh kind key ins
  else if func = 0x0504 then pkEdSign key ins
  else if func = 0x0505 then pkEdVerify ins
  else if func = 0x0506 then pkRsaSign key ins rnd
  else if func = 0x0507 then pkRsaVerify ins
  else if func = 0x0508 then pkRsaPublic ins
  else if func = 0x0509 then pkKemEncaps ins rnd
  else if func = 0x050A then pkKemDecaps kind key ins
  else if func = 0x050B then pkDsaSign kind key ins rnd
  else if func = 0x050C then pkDsaVerify ins
  else pkKeyGen kind rnd

/-- The random bytes an operation draws over the private-key port (R277). -/
def pkDraws (func : Nat) : Nat :=
  if func = 0x0501 then 74 else if func = 0x0506 then 64 else if func = 0x0509 ∨ func = 0x050B then 32
  else if func = 0x050D then 1024 else 0

/-- The key types and the mode of use an operation needs, where it takes a private key (R271, R275). -/
def pkKeyKinds (func : Nat) : Option (List Nat × ModeOfUse) :=
  if func = 0x0501 then some ([1, 2, 3], .g)
  else if func = 0x0503 then some ([1, 2, 3], .x)
  else if func = 0x0504 then some ([4], .g)
  else if func = 0x0506 then some ([0x10, 0x11, 0x12], .g)
  else if func = 0x050A then some ([0x20, 0x21, 0x22], .x)
  else if func = 0x050B then some ([0x30, 0x31, 0x32], .g)
  else none

/-- The private key of an operation (R271, R272). -/
def pkFits (func : Nat) (o : Obj) : Bool :=
  o.attrs.type = .privateKey && (match pkKeyKinds func, o.attrs.alg with
    | some p, .pk k => p.1.contains k && o.attrs.mode = p.2
    | _, _ => false)

/-- The key type of a private key. -/
def Obj.pkKind (o : Obj) : Nat := match o.attrs.alg with | .pk k => k | _ => 0

/-- The clocks of a job are counted; those of an RSA key generation are not (R290). -/
def JobEnd.counted (f : JobEnd) : Bool :=
  match f with
  | .store _ _ o _ _ => !(0x10 ≤ o.pkKind && o.pkKind ≤ 0x12)
  | _ => true

/-- The Voussoir job of an operation (R283). -/
def pkJob (c : Nat) (r : Request) (func : Nat) (dest : Dest) (out : Bytes) (p : PkResult) (handle : Nat) (fin : JobEnd) :
    Job where
  supervisor := false
  bay := r.bay
  gen := r.gen
  tag := c
  ctx := c
  req := some r
  func := func
  dest := dest
  out := out
  status := p.status
  clocks := if fin.counted then p.clocks else 0
  cost := p.clocks
  blocks := 0
  finish := fin
  handle := handle
  invalid := p.invalid
  abort := false

/-- The owner a Voussoir job is granted for: its bay, or 256 for a supervisor job (R314). -/
def Job.owner (j : Job) : Nat := if j.supervisor then 256 else j.bay

/-- A job waits for an engine; an owner that had none waiting starts from the present pass (R314, R571). -/
def Dev.vsSend (d : Dev) (j : Job) : Dev :=
  let waits := d.eng.vsWait.any (fun k => k.owner == j.owner)
  let passes := if waits then d.eng.vsPasses else startPass d.eng.vsPasses d.eng.vsPresent j.owner
  { d with eng := { d.eng with vsWait := d.eng.vsWait ++ [j], vsPasses := passes } }

end Sys2Proof.Machine
end

