-- ==== Sys2Proof/Machine/Voussoir.lean ====
section
/-! DEFINITION. The Voussoir engines (ch. 07): the meaning of the public-key functions and of the PK micro-operation, of
claims, ends and aborts of jobs, of microcode loads, and of the boot routines. -/

namespace Sys2Proof.Machine

/-! ## The functions 0x0501 to 0x050C (R275, R286) -/

/-- Random bytes for an operation; none are drawn where it needs none (R277). -/
def Dev.pkRandom (d : Dev) (bay func : Nat) : Option (Bytes × Dev) :=
  if pkDraws func = 0 then some ([], d) else d.drbgDraw bay (pkDraws func)

/-- A function program that issues one PK micro-operation: its key is checked at the key island, its job waits for an
engine (R275, R286). -/
def pkFunction (func c : Nat) (d : Dev) : Dev :=
  d.runProgram c func fun r d =>
    let keyed := (pkKeyKinds func).isSome
    let form := if keyed then failIf ((r.tlv 0x0081).length ≠ 4) .inputRange else none
    d.checked c r [form] fun d =>
      d.withKeys c r (if keyed then [{ handle := r.handle 0, fits := pkFits func }] else []) [] fun ks d =>
        let o := ks.getD 0 default
        let ins := (List.range (match formOf func with | some f => f.params.length | none => 0)).map (fun i => r.tlv (i + 1))
        match d.pkRandom r.bay func with
        | none => d.finish c r .entropyFail []
        | some (rnd, d1) =>
          let p := pkRun func o.pkKind o.key ins rnd
          (d1.outstand c).vsSend (pkJob c r func (.secret 0) p.secret p (if keyed then r.handle 0 else 0)
            (.whole (outputs p.out)))

/-- The attributes of a new private key (R189, R271, R278): tags 2 to 12 are the eleven attributes of R193. -/
def newPkAttrs (r : Request) : Option (Attrs × Bool) :=
  let kind := r.num 1
  let given (tag : Nat) (v : Nat) : Bool := (r.tlv? tag).isNone || r.num tag == v
  match ModeOfUse.ofChar (r.num 5) with
  | some m =>
    let bad := !(m = .g || m = .x) || !given 2 Usage.d0.chars || !given 6 0x4E || r.num 8 ≥ 2 ^ 32 || r.num 9 ≥ 2 ^ 32 ||
      r.num 10 > 1 || (r.tlv? 11).isSome || (r.tlv 12).length > 16
    if bad then none
    else
      let v := if (r.tlv? 7).isSome then r.num 7 else 0x3030
      some (⟨.privateKey, .d0, .pk kind, m, false, v, r.num 8, r.num 9, false, none, r.tlv 12, [], false, false⟩,
        r.num 10 == 1)
  | none => none

/-- 0x050D: draw a key pair, store the private key, return its handle and the public key (R275, R278). -/
def keyPairGeneration (c : Nat) (d : Dev) : Dev :=
  d.runProgram c 0x050D fun r d =>
    match newPkAttrs r with
    | none => d.finish c r .inputRange []
    | some (a, session) =>
      d.checked c r [failIf (!d.rootPresent) .rootAbsent] fun d =>
        d.withKeys c r [] (if session then [] else [kekIndex r.bay]) fun _ d =>
          match d.drbgDraw r.bay (pkDraws 0x050D) with
          | none => d.finish c r .entropyFail []
          | some (rnd, d1) =>
            let p := pkKeyGen (r.num 1) rnd
            let o := d1.newObj a p.newKey
            (d1.outstand c).vsSend (pkJob c r 0x050D .none [] p 0
              (.store r.bay 0 o session (p.out.map (fun b => ⟨0x8002, b⟩))))

/-- MICROOP_PK: the key island checks the key, and the job waits for an engine (R272, R284, R286). -/
def pkMicroop (c : Nat) (op : PkOp) (d : Dev) : Dev :=
  d.micro c fun r x d =>
    let secret := op.func = 0x0503 ∨ op.func = 0x0509 ∨ op.func = 0x050A
    let to_ : Option Dest := match op.dest with
      | .buf o => some (.buf o)
      | .lane n => if secret then some (.secret n) else none
      | .none => some .none
      | _ => none
    let run (o : Obj) (d : Dev) (dest : Dest) : Dev :=
      match d.pkRandom r.bay op.func with
      | none => d.microEnds c r .entropyFail
      | some (rnd, d1) =>
        let p := pkRun op.func o.pkKind o.key (op.inputs.map x.read) rnd
        let out := match dest with | .secret _ => p.secret | _ => p.out.flatten
        (d1.outstand c).vsSend (pkJob c r op.func dest out p op.key .token)
    match to_ with
    | none => d.microEnds c r .keyUsage
    | some dest =>
      if op.func < 0x0501 ∨ op.func > 0x050C ∨ !op.inputs.all (fun s => s.fits && s.plain) then d.microEnds c r .inputRange
      else if (pkKeyKinds op.func).isNone then run default d dest
      else if d.cacheBusy r.bay [op.key] then (d.refuseBusy r.bay).microEnds c r .busy
      else
        match d.resolve c r.bay [{ handle := op.key, fits := pkFits op.func }] with
        | (.refused st, d1) => (d1.setCtx c { d1.ctx c with handles := x.handles }).microEnds c r st
        | (.waits, d1) => d1.setCtx c { d1.ctx c with state := .waiting }
        | (.keys l, d1) =>
          run (l.getD 0 default) (d1.setCtx c { d1.ctx c with handles := (x.handles ++ [op.key]).take 8 }) dest

/-! ## Claims (R283, R298, R300, R314) -/

/-- An engine; it has one lock entry (R283). -/
def Dev.engine (d : Dev) (e : Nat) : Core := Tab.get d.eng.engines e Core.idle

/-- Write an engine. -/
def Dev.setEngine (d : Dev) (e : Nat) (x : Core) : Dev :=
  { d with eng := { d.eng with engines := Tab.set d.eng.engines e Core.idle x } }

/-- The claim unit may claim an engine: free, neither offline nor faulted nor stale, its microcode valid, its crossing up. -/
def Dev.engineFree (d : Dev) (e : Nat) : Bool :=
  (d.engine e).isIdle && !d.on R.VS_SERVICE_OFFLINE e && !d.on R.VS_SERVICE_FAULTED e && d.on R.VS_UCODE_STATUS_VALID e &&
    !d.on R.VS_UCODE_STATUS_STALE e && !d.blocked .vs e

/-- The owners whose jobs may be granted: those of a bay that is not resetting, and supervisor jobs (R326). -/
def Dev.vsOwners (d : Dev) : List Nat :=
  ((d.eng.vsWait.map Job.owner).dedup).filter (fun o => !(o < 256 && d.on R.STATUS_RESETTING o))

/-- Grant the lowest-numbered free engine to the oldest waiting job of the owner whose turn it is (R283, R314, R571). -/
def Dev.vsClaim (d : Dev) : Dev :=
  match (List.range 16).find? (fun e => d.engineFree e),
      d.grantOwner R.BY_VS_SHARE_EFFECTIVE d.eng.vsPasses d.eng.vsLast d.vsOwners with
  | some e, some o =>
    match d.eng.vsWait.find? (fun j => j.owner == o) with
    | none => d
    | some j =>
      let present := Tab.get d.eng.vsPasses o 0
      let passes := d.stridePass R.BY_VS_SHARE_EFFECTIVE d.eng.vsPasses o j.cost
      let g : Eng := if d.grantShare R.BY_VS_SHARE_EFFECTIVE o > 0 then
          { d.eng with vsPresent := present, vsPasses := passes }
        else { d.eng with vsLast := o }
      let d1 : Dev := { d with eng := { g with vsWait := d.eng.vsWait.erase j } }
      (d1.setEngine e { Core.idle with cur := j.lock (if j.supervisor then 2 else 1), curJob := some j }).occur 0x041
        (if o < 256 then some o else none)
  | _, _ => d

/-! ## Ends (R287 to R295, R300) -/

/-- A statuses of a parse fault (R287). -/
def parseStatus (st : Status) : Bool := st = .pkEncoding || st = .pkUnsupported || st = .rsaModulus

/-- A microcode store error found in a job (R300): none, corrected, or uncorrectable. -/
def Dev.engineEcc (d : Dev) (e : Nat) (ecc : EccEvent) : Dev :=
  match ecc with
  | .none => d
  | .corrected => d.bumpSat R.VS_ECC_CORRECTED e
  | .uncorrectable => (d.set R.VS_UCODE_STATUS_VALID 0 e).refreshFormats.raiseInt .vs e 7

/-- VOUSSOIR_JOB_END: the job of an engine ends at a clock count, its wipe checked. A count other than the fixed one ends
it with ST_ENGINE_FAULT (R290), an uncorrectable store error too (R300); a failed wipe check with ST_WIPE_FAULT (R292). -/
def voussoirJobEnd (e clocks : Nat) (wiped : Bool) (ecc : EccEvent) (d : Dev) : Dev :=
  match (d.engine e).curJob with
  | none => d
  | some j =>
    if d.stopped 5 then d
    else
      let lk := (d.engine e).cur
      let d0 := (((d.engineEcc e ecc).bumpWrap R.VS_JOBS e).bumpWrap R.VS_BUSY_CLOCKS e 0 clocks).occur 0x040
        (if j.supervisor then none else some j.bay)
      let d1 := if j.supervisor then d0 else d0.countBay j.bay 7
      if !wiped then
        let d2 := d1.setEngine e { Core.idle with cur := { lk with state := 3 }, swept := true }
        let d3 := ((d2.set R.VS_SERVICE_FAULTED 1 e).bumpSat R.VS_WIPE_FAULTS e).raiseInt .vs e 2
        (d3.mark .vsWipeFault .voussoir e lk.state lk.bay lk.gen).jobDone { j with out := [] } .wipeFault
      else
        let d2 := d1.setEngine e Core.idle
        if ecc = .uncorrectable then d2.jobDone { j with out := [] } .engineFault
        else if j.finish.counted ∧ clocks ≠ j.clocks then
          let d3 := ((d2.bumpSat R.VS_TIME_FAULTS e).raiseInt .vs e 6).mark .vsTimeFault .voussoir e j.func j.clocks clocks
          d3.jobDone { j with out := [] } .engineFault
        else
          let d3 := if parseStatus j.status then d2.bumpSat R.VS_PARSE_FAULTS e
            else if j.invalid then d2.bumpSat R.VS_INVALID e
            else if j.status = .engineFault then d2.mark .vsResultCheck .voussoir e j.func j.bay
            else d2
          d3.jobDone j j.status

/-- An aborted job of an engine: it presents ST_ABORTED after its wipe (R293). -/
def Dev.engineAborted (d : Dev) (e : Nat) (j : Job) : Dev :=
  let d1 := (((d.setEngine e Core.idle).bumpSat R.VS_ABORTS e).bumpWrap R.VS_JOBS e).raiseInt .vs e 3
  (if j.supervisor then d1 else d1.countBay j.bay 7).jobDone { j with out := [] } .aborted

/-- VOUSSOIR_ABORT: an abort reaches an engine whose job has a cause for it (R293). -/
def voussoirAbort (lvl e : Nat) (wiped : Bool) (d : Dev) : Dev :=
  match (d.engine e).curJob with
  | none => d
  | some j =>
    if d.stopped 5 ∨ d.abortCause lvl j = none then d
    else if wiped then d.engineAborted e j
    else
      let lk := (d.engine e).cur
      let d2 := d.setEngine e { Core.idle with cur := { lk with state := 3 }, swept := true }
      let d3 := ((d2.set R.VS_SERVICE_FAULTED 1 e).bumpSat R.VS_WIPE_FAULTS e).raiseInt .vs e 2
      (d3.mark .vsWipeFault .voussoir e lk.state lk.bay lk.gen).jobDone { j with out := [] } .wipeFault

/-- An engine whose clock stopped and whose crossing is back (R295). -/
def Dev.engineRealign (d : Dev) (lvl e : Nat) : Dev :=
  match (d.engine e).curJob with
  | none => if (d.engine e).cur.state = 0 ∨ (d.engine e).swept then d else d.setEngine e Core.idle
  | some j =>
    if (d.abortCause lvl j).isSome then d.engineAborted e j
    else (d.setEngine e Core.idle).jobDone { j with out := [] } .xingTimeout

/-! ## Microcode (R296 to R299) -/

/-- The releases that the two Keystones run (R298). -/
def Dev.runsRelease (d : Dev) (rel : Nat) : Bool := d.get R.KS_FW_RELEASE 0 == rel || d.get R.KS_FW_RELEASE 1 == rel

/-- A loaded image is stale while neither Keystone runs its release (R298). -/
def Dev.refreshStale (d : Dev) : Dev :=
  (List.range 16).foldl (fun a e =>
    a.set R.VS_UCODE_STATUS_STALE
      (b2n (a.on R.VS_UCODE_STATUS_VALID e && !a.runsRelease (a.get R.VS_UCODE_VERSION_RELEASE e))) e) d

/-- Clear an engine's microcode store (R297). -/
def Dev.clearUcode (d : Dev) (e : Nat) : Dev :=
  (((((d.set R.VS_UCODE_STATUS_VALID 0 e).set R.VS_UCODE_STATUS_STALE 0 e).set R.VS_UCODE_VERSION_RELEASE 0 e).set
    R.VS_UCODE_VERSION_VERSION 0 e).set R.VS_UCODE_FMAX 0 e).refreshFormats

/-- VS_UCODE_LOAD: a write of 1 to LOAD by a supervisor starts a load in an engine that is offline and free; otherwise it
is refused with ST_POLICY_DENIED (R297, R302). -/
def vsUcodeLoad (req : Requester) (e : Nat) (v : Nat) (d : Dev) : Dev :=
  if v % 2 = 0 ∨ d.on R.VS_UCODE_CTL e then d
  else if req.origin ≠ .supervisor ∨ !d.on R.VS_SERVICE_OFFLINE e ∨ !(d.engine e).isIdle then d.err .vs e req .policyDenied
  else ((d.clearUcode e).set R.VS_UCODE_CTL 1 e).set R.VS_UCODE_STATUS_LOADING 1 e

/-- VS_UCODE_LOAD_DONE: a load ends with VALID, or fails with ST_UCODE_AUTH or ST_UCODE_BINDING (R297). -/
def vsUcodeLoadDone (e : Nat) (u : Ucode) (d : Dev) : Dev :=
  if !d.on R.VS_UCODE_STATUS_LOADING e then d
  else
    let d1 := (d.set R.VS_UCODE_CTL 0 e).set R.VS_UCODE_STATUS_LOADING 0 e
    let st := if !u.authentic then Status.ucodeAuth else if !d.runsRelease u.release then .ucodeBinding else .ok
    let d2 := d1.set R.VS_UCODE_STATUS_STATUS st.code e
    if st = .ok then
      (((((d2.set R.VS_UCODE_STATUS_VALID 1 e).set R.VS_UCODE_VERSION_RELEASE u.release e).set
        R.VS_UCODE_VERSION_VERSION u.version e).set R.VS_UCODE_FMAX u.formatMax e).refreshFormats).raiseInt .vs e 4
    else ((d2.clearUcode e).raiseInt .vs e 5).mark .vsUcodeFail .voussoir e st.code u.version

/-! ## Boot routines (R265) -/

/-- The boot routines run only while engine 0 is offline with its lock entry free (R265). -/
def Dev.bootFree (d : Dev) : Bool := d.on R.VS_SERVICE_OFFLINE 0 && (d.engine 0).isIdle

/-- The identity public key: X ‖ Y of the P-521 point of the identity node reduced modulo (n − 1), plus 1 (R183, R265,
R271). -/
def identityPublic (root : Bytes) : Bytes :=
  let dk := beNat (nodeValue root 0x100 0x10 640) % (p521.n - 1) + 1
  (p521.encode (p521.times dk p521.base)).drop 1

/-- IDENTITY_KEY_DERIVATION: from the root, while it is present in the key island (R177, R265). -/
def identityKeyDerivation (d : Dev) : Dev :=
  match d.keys.root with
  | some root => if d.bootFree then { d with eng := { d.eng with boot := identityPublic root } } else d
  | none => d

/-- BOOT_SIGNATURE_VERIFY: ECDSA P-521 with SHA-512 over a message; the ROM is told 1 where it verifies, else 0 (R265). -/
def bootSignatureVerify (point message sig : Bytes) (d : Dev) : Dev :=
  if d.bootFree then
    let p := pkEcdsaVerify [[0x03#8], [0x03#8], sha512 message, [0x04#8] ++ point, sig]
    { d with eng := { d.eng with boot := [if p.status = .ok then 0x01#8 else 0x00#8] } }
  else d

/-- BOOT_SHA512 of a stream (R265). -/
def bootSha512 (message : Bytes) (d : Dev) : Dev :=
  if d.bootFree then { d with eng := { d.eng with boot := sha512 message } } else d

/-! ## The meanings -/

/-- ECDSA_SIGNATURE (R275). -/
def execEcdsaSignature (c : Fin 512) (s : State) : Host.Outcome State Fault Refusal := s.after (pkFunction 0x0501 c)
/-- ECDSA_VERIFICATION (R275). -/
def execEcdsaVerification (c : Fin 512) (s : State) : Host.Outcome State Fault Refusal := s.after (pkFunction 0x0502 c)
/-- ECDH (R274). -/
def execEcdh (c : Fin 512) (s : State) : Host.Outcome State Fault Refusal := s.after (pkFunction 0x0503 c)
/-- ED25519_SIGNATURE (R275). -/
def execEd25519Signature (c : Fin 512) (s : State) : Host.Outcome State Fault Refusal := s.after (pkFunction 0x0504 c)
/-- ED25519_VERIFICATION (R275). -/
def execEd25519Verification (c : Fin 512) (s : State) : Host.Outcome State Fault Refusal := s.after (pkFunction 0x0505 c)
/-- RSA_SIGNATURE (R275). -/
def execRsaSignature (c : Fin 512) (s : State) : Host.Outcome State Fault Refusal := s.after (pkFunction 0x0506 c)
/-- RSA_VERIFICATION (R275). -/
def execRsaVerification (c : Fin 512) (s : State) : Host.Outcome State Fault Refusal := s.after (pkFunction 0x0507 c)
/-- RSA_PUBLIC_OPERATION (R275). -/
def execRsaPublicOperation (c : Fin 512) (s : State) : Host.Outcome State Fault Refusal := s.after (pkFunction 0x0508 c)
/-- ML_KEM_ENCAPSULATION (R275). -/
def execMlKemEncapsulation (c : Fin 512) (s : State) : Host.Outcome State Fault Refusal := s.after (pkFunction 0x0509 c)
/-- ML_KEM_DECAPSULATION (R275). -/
def execMlKemDecapsulation (c : Fin 512) (s : State) : Host.Outcome State Fault Refusal := s.after (pkFunction 0x050A c)
/-- ML_DSA_SIGNATURE (R281). -/
def execMlDsaSignature (c : Fin 512) (s : State) : Host.Outcome State Fault Refusal := s.after (pkFunction 0x050B c)
/-- ML_DSA_VERIFICATION (R275). -/
def execMlDsaVerification (c : Fin 512) (s : State) : Host.Outcome State Fault Refusal := s.after (pkFunction 0x050C c)
/-- KEY_PAIR_GENERATION (R278). -/
def execKeyPairGeneration (c : Fin 512) (s : State) : Host.Outcome State Fault Refusal := s.after (keyPairGeneration c)
/-- MICROOP_PK (R286). -/
def execMicroopPk (c : Fin 512) (op : PkOp) (s : State) : Host.Outcome State Fault Refusal := s.after (pkMicroop c op)
/-- VOUSSOIR_CLAIM (R314): none while a SUSPEND or higher response is in effect (R420). -/
def execVoussoirClaim (s : State) : Host.Outcome State Fault Refusal :=
  s.afterWith fun p d => if d.workLevel p.level < 2 then d.vsClaim else d
/-- VOUSSOIR_JOB_END (R290 to R292). -/
def execVoussoirJobEnd (e : Fin 16) (clocks : Nat) (wiped : Bool) (ecc : EccEvent) (s : State) :
    Host.Outcome State Fault Refusal := s.after (voussoirJobEnd e clocks wiped ecc)
/-- VOUSSOIR_ABORT (R293). -/
def execVoussoirAbort (e : Fin 16) (wiped : Bool) (s : State) : Host.Outcome State Fault Refusal :=
  s.afterWith fun p d => voussoirAbort (d.workLevel p.level) e wiped d
/-- VS_OFFLINE_WRITE (R283, R295). -/
def execVsOfflineWrite (e : Fin 16) (v : Word) (s : State) : Host.Outcome State Fault Refusal :=
  s.after (·.set R.VS_SERVICE_OFFLINE v.toNat e)
/-- VS_UCODE_LOAD (R297). -/
def execVsUcodeLoad (req : Requester) (e : Fin 16) (v : Word) (s : State) : Host.Outcome State Fault Refusal :=
  s.after (vsUcodeLoad req e v.toNat)
/-- VS_UCODE_LOAD_DONE (R297, R298). -/
def execVsUcodeLoadDone (e : Fin 16) (u : Ucode) (s : State) : Host.Outcome State Fault Refusal :=
  s.after (vsUcodeLoadDone e u)
/-- IDENTITY_KEY_DERIVATION (R265). -/
def execIdentityKeyDerivation (s : State) : Host.Outcome State Fault Refusal := s.after identityKeyDerivation
/-- BOOT_SIGNATURE_VERIFY (R265). -/
def execBootSignatureVerify (point message sig : Bytes) (s : State) : Host.Outcome State Fault Refusal :=
  s.after (bootSignatureVerify point message sig)
/-- BOOT_SHA512 (R265). -/
def execBootSha512 (message : Bytes) (s : State) : Host.Outcome State Fault Refusal := s.after (bootSha512 message)

end Sys2Proof.Machine
end

