-- ==== Sys2Proof/Machine/Bays.lean ====
section
/-! DEFINITION. Bays (ch. 08): process identifiers, per-bay resources, bay resets and their quiet, and the tail of the
event ring. -/

namespace Sys2Proof.Machine

/-! ## Binding process identifiers (R304, R305) -/

/-- The target number of the manager in the binding table. -/
def managerTarget : Nat := 256

/-- The target a process identifier is bound to (R51, R304). -/
def Dev.bound (d : Dev) (pid : Nat) : Option Nat := Tab.look d.sched.bindings pid

/-- Show the end of a binding command: in the BY page of the bay, or in the NF common page for the manager (R305, R340). -/
def Dev.bindEnd (d : Dev) (target : Nat) (st : Status) : Dev :=
  if target < 256 then
    ((d.set R.BY_BIND_STATUS_STATUS st.code target).set R.BY_BIND_STATUS_BUSY 0 target).raiseInt .by target 4
  else (d.set R.NF_MGR_BIND_STATUS_STATUS st.code).set R.NF_MGR_BIND_STATUS_BUSY 0

/-- BIND: the table of R305. -/
def bind (target pid : Nat) (d : Dev) : Dev :=
  match d.bound pid with
  | some t => d.bindEnd target (if t = target then .ok else .pidBound)
  | none =>
    if d.sched.bindings.length ≥ 4096 then d.bindEnd target .bindFull
    else ({ d with sched := { d.sched with bindings := Tab.put d.sched.bindings pid target } }).bindEnd target .ok

/-- UNBIND: the table of R305. -/
def unbind (target pid : Nat) (d : Dev) : Dev :=
  match d.bound pid with
  | none => d.bindEnd target .pidUnbound
  | some t =>
    if t = target then ({ d with sched := { d.sched with bindings := Tab.del d.sched.bindings pid } }).bindEnd target .ok
    else d.bindEnd target .pidBound

/-- BIND_QUERY: BOUND shows whether the identifier is bound to the target (R305). -/
def bindQuery (target pid : Nat) (d : Dev) : Dev :=
  let b := b2n (d.bound pid == some target)
  let d1 := if target < 256 then d.set R.BY_BIND_STATUS_BOUND b target else d.set R.NF_MGR_BIND_STATUS_BOUND b
  d1.bindEnd target .ok

/-! ## Per-bay resources (R308, R311, R312) -/

/-- The share register of a kind: 0 course, 1 Voussoir, 2 bulk (R308). -/
def shareField (kind : Fin 3) : Fld :=
  if kind = 0 then R.BY_SHARE_SHARE else if kind = 1 then R.BY_VS_SHARE_SHARE else R.BY_BULK_SHARE_SHARE

/-- Stage a per-bay value that lies in its range and keeps the sum of all bays within a limit; otherwise the old value
stays and ERR_INFO records ST_INPUT_RANGE (R308). -/
def Dev.stageBay (d : Dev) (req : Requester) (f : Fld) (bay v lowest highest limit : Nat) : Dev :=
  let sum := ((List.range 256).map (fun b => if b = bay then v else d.get f b)).foldl (· + ·) 0
  if v < lowest ∨ v > highest ∨ sum > limit then d.err .by bay req .inputRange else d.stage f v bay

/-- BY_SHARE_WRITE (R308). -/
def byShareWrite (req : Requester) (bay : Nat) (kind : Fin 3) (v : Nat) (d : Dev) : Dev :=
  d.stageBay req (shareField kind) bay (v % 2 ^ 11) 0 1024 1024

/-- BY_QUEUE_WRITE (R308, R311). -/
def byQueueWrite (req : Requester) (bay v : Nat) (d : Dev) : Dev :=
  d.stageBay req R.BY_QUEUE bay (v % 2 ^ 17) 64 65536 1048576

/-- BY_CTX_WRITE (R308, R312): no sum limit. -/
def byCtxWrite (req : Requester) (bay v : Nat) (d : Dev) : Dev :=
  d.stageBay req R.BY_CTX_MAX bay (v % 2 ^ 10) 1 512 (256 * 1024)

/-! ## Bay reset (R320 to R330) -/

/-- A reset write reaches the course scheduler: it acts in step 4 of the next cycle (R320, R321). -/
def Dev.requestReset (d : Dev) (bay : Nat) : Dev :=
  let d1 := (d.set (R.CTRL_SOFT_RESET .by) 1 bay).set R.BW_RESET 1 bay
  { d1 with sched := { d1.sched with resetDue := d1.sched.resetDue.filter (· ≠ bay) ++ [bay] } }

/-- BAY_RESET: a write of 1 to CTRL.SOFT_RESET of a BY page (R320). -/
def bayReset (bay v : Nat) (d : Dev) : Dev := if bitOf v 2 then d.requestReset bay else d

/-- BAY_SELF_RESET: a write of 1 to BW_RESET, dropped unless SELF_RESET_EN is 1 (R320). -/
def baySelfReset (req : Requester) (bay v : Nat) (d : Dev) : Dev :=
  if !bitOf v 0 then d
  else if d.on R.CTRL_SELF_RESET_EN bay then d.requestReset bay
  else d.err .bw bay req .policyDenied

/-- Complete every request of a bay, queued or in a context, with ST_BAY_RESET, and retire its entry (R321). -/
def Dev.endBayRequests (d : Dev) (bay : Nat) (st : Status) : Dev :=
  let queued := d.queue bay
  let d1 := queued.foldl (fun a r => a.endRequest r false st []) (d.setQueue bay [])
  let held := d1.sched.ctxs.filterMap (fun e => match e.2.req with
    | some r => if r.bay = bay then some (e.1, r) else none
    | none => none)
  held.foldl (fun a e => a.endCtx e.1 e.2 (a.ctx e.1).owned st []) d1

/-- Waiting PIN micro-operations and bulk records of a bay are removed without a claim (R322); those of cores and engines
went with their requests. -/
def Dev.dropWaiting (d : Dev) (bay : Nat) (st : Status) : Dev :=
  let gone := d.eng.pinWait.filter (fun j => j.bay == bay)
  let d1 : Dev := { d with eng := { d.eng with pinWait := d.eng.pinWait.filter (fun j => j.bay != bay) } }
  let d2 := gone.foldl (fun a j => a.settle j.ctx) d1
  let recs := d2.bulkQueue bay
  recs.foldl (fun a r => a.bulkComplete r st []) (d2.setBulkQueue bay [])

/-- The key island's part of a bay reset (R200, R212, R322): cache entries and session slots invalidated, the bay's DRBG
reinstantiated, pending index slots released. -/
def Dev.resetKeyIsland (d : Dev) (bay : Nat) : Dev :=
  let d1 := d.setDrbg bay (if d.on R.RN_STATUS_FAIL then { Drbg.fresh with erased := true } else Drbg.fresh)
  { d1 with keys := { d1.keys with
      cache := d1.keys.cache.filter (fun e => e.bay != bay),
      sess := d1.keys.sess.filter (fun e => e.1 / 65536 != bay),
      lastSlot := Tab.del d1.keys.lastSlot bay,
      slots := d1.keys.slots.filter (fun s => s.bay != bay) } }

/-- The reset action (R321): the generation rises, the bay's requests complete with ST_BAY_RESET, what waits is removed,
the key island invalidates, and RESETTING is set. Jobs that run carry the old generation and are aborted at their next
boundary (R250, R293). -/
def Dev.resetAction (d : Dev) (bay : Nat) : Dev :=
  let old := d.get R.BY_GEN_GEN bay
  let d0 : Dev := { d with sched := { d.sched with resetDue := d.sched.resetDue.filter (· ≠ bay) } }
  let d1 := (d0.bumpWrap R.BY_GEN_GEN bay).bumpWrap R.BY_GEN_RESETS bay
  let d2 := ((d1.endBayRequests bay .bayReset).dropWaiting bay .bayReset).resetKeyIsland bay
  let w : ResetWait := ⟨d2.sched.time, true⟩
  let d3 : Dev := { d2 with sched := { d2.sched with resets := Tab.put d2.sched.resets bay w } }
  let gen := d3.get R.BY_GEN_GEN bay
  ((d3.set R.STATUS_RESETTING 1 bay).ringEvent bay .bayReset old gen).mark .bayReset .corbel bay old gen

/-- BAY_RESET_ACTION: the reset of a bay that is due acts (R321). -/
def bayResetAction (bay : Nat) (d : Dev) : Dev := if d.sched.resetDue.contains bay then d.resetAction bay else d

/-- Step 4 of R59: every reset that is due. -/
def Dev.resetStep (d : Dev) : Dev := d.sched.resetDue.foldl (fun a b => a.resetAction b) d

/-- A job is of a bay's class and of a generation that is over (R321). -/
def Dev.staleJob (d : Dev) (bay : Nat) (j : Option Job) : Bool :=
  match j with
  | some j => !j.supervisor && j.bay == bay && j.gen != d.get R.BY_GEN_GEN bay
  | none => false

/-- The kinds of unit that have not acknowledged a reset: bit 0 Corbel, 1 Ashlar, 2 hash, 3 Voussoir, 4 PIN unit, 5 key
cache, 6 DRBG, 7 Vault index (R324, R567). Contexts, the DRBG and the index acknowledge within the action. -/
def Dev.unacked (d : Dev) (bay : Nat) : Nat :=
  let cores (t : Tab Core) : Bool := t.any (fun e => d.staleJob bay e.2.curJob || d.staleJob bay e.2.nextJob)
  let flush : Bool := match Tab.look d.sched.resets bay with | some w => w.flushing | none => false
  2 * b2n (cores d.eng.cores) + 4 * b2n (cores d.eng.hashes) + 8 * b2n (cores d.eng.engines) +
    16 * b2n (d.eng.pinLanes.any (fun e => d.staleJob bay (some e.2))) + 32 * b2n flush

/-- Declare a bay quiet (R324): RESETTING clears, QUIET is set, and BY_RESET_TIME takes the time in microseconds. -/
def Dev.declareQuiet (d : Dev) (bay : Nat) (w : ResetWait) (forced : Bool) : Dev :=
  let us := min 255 ((d.sched.time - w.since + 63) / 64)
  let d0 : Dev := { d with sched := { d.sched with resets := Tab.del d.sched.resets bay } }
  let again := b2n (d.sched.resetDue.contains bay)
  let d1 := ((d0.set R.STATUS_RESETTING 0 bay).set (R.CTRL_SOFT_RESET .by) again bay).set R.BW_RESET again bay
  let d2 := (d1.set R.STATUS_QUIET_FORCED (b2n forced) bay).set R.BY_RESET_TIME us bay
  let d3 := (d2.raiseInt .by bay 2).raiseInt .bw bay 3
  let gen := d3.get R.BY_GEN_GEN bay
  if forced then
    let m := d.unacked bay
    (d3.ringEvent bay .bayQuietForced gen m).mark .bayQuietForced .corbel bay gen m
  else (d3.ringEvent bay .bayQuiet gen us).mark .bayQuiet .corbel bay gen us

/-- BAY_QUIET: every unit has acknowledged (R324). -/
def bayQuiet (bay : Nat) (d : Dev) : Dev :=
  match Tab.look d.sched.resets bay with
  | some w => if d.unacked bay = 0 then d.declareQuiet bay w false else d
  | none => d

/-- BAY_QUIET_FORCED: 200 µs, 12,800 cycles, after the reset action with a unit that has not acknowledged (R325). -/
def bayQuietForced (bay : Nat) (d : Dev) : Dev :=
  match Tab.look d.sched.resets bay with
  | some w =>
    if d.unacked bay ≠ 0 ∧ d.sched.time ≥ w.since + 12800 then d.declareQuiet bay w true else d
  | none => d

/-! ## The event ring's tail (R338) -/

/-- BW_EV_TAIL_WRITE: the tail moves forward within the unread entries; any other write is dropped (R338). -/
def bwEvTailWrite (req : Requester) (bay v : Nat) (d : Dev) : Dev :=
  let t := d.get R.BW_EV_TAIL bay
  if (v + 2 ^ 32 - t) % 2 ^ 32 ≤ d.unread bay then d.set R.BW_EV_TAIL v bay else d.err .bw bay req .inputRange

/-! ## The meanings -/

/-- The number of a binding target: a bay, or the manager. -/
def targetNum (t : Option (Fin 256)) : Nat := match t with | some b => b | none => managerTarget

/-- BIND (R305). -/
def execBind (target : Option (Fin 256)) (pid : BitVec 20) (s : State) : Host.Outcome State Fault Refusal :=
  s.after (bind (targetNum target) pid.toNat)
/-- UNBIND (R305). -/
def execUnbind (target : Option (Fin 256)) (pid : BitVec 20) (s : State) : Host.Outcome State Fault Refusal :=
  s.after (unbind (targetNum target) pid.toNat)
/-- BIND_QUERY (R305). -/
def execBindQuery (target : Option (Fin 256)) (pid : BitVec 20) (s : State) : Host.Outcome State Fault Refusal :=
  s.after (bindQuery (targetNum target) pid.toNat)
/-- BY_SHARE_WRITE (R308). -/
def execByShareWrite (req : Requester) (bay : Fin 256) (kind : Fin 3) (v : Word) (s : State) :
    Host.Outcome State Fault Refusal := s.after (byShareWrite req bay kind v.toNat)
/-- BY_QUEUE_WRITE (R311). -/
def execByQueueWrite (req : Requester) (bay : Fin 256) (v : Word) (s : State) : Host.Outcome State Fault Refusal :=
  s.after (byQueueWrite req bay v.toNat)
/-- BY_CTX_WRITE (R312). -/
def execByCtxWrite (req : Requester) (bay : Fin 256) (v : Word) (s : State) : Host.Outcome State Fault Refusal :=
  s.after (byCtxWrite req bay v.toNat)
/-- BAY_RESET (R320). -/
def execBayReset (bay : Fin 256) (v : Word) (s : State) : Host.Outcome State Fault Refusal :=
  s.after (bayReset bay v.toNat)
/-- BAY_SELF_RESET (R320). -/
def execBaySelfReset (req : Requester) (bay : Fin 256) (v : Word) (s : State) : Host.Outcome State Fault Refusal :=
  s.after (baySelfReset req bay v.toNat)
/-- BAY_RESET_ACTION (R321). -/
def execBayResetAction (bay : Fin 256) (s : State) : Host.Outcome State Fault Refusal := s.after (bayResetAction bay)
/-- BAY_QUIET (R324). -/
def execBayQuiet (bay : Fin 256) (s : State) : Host.Outcome State Fault Refusal := s.after (bayQuiet bay)
/-- BAY_QUIET_FORCED (R325). -/
def execBayQuietForced (bay : Fin 256) (s : State) : Host.Outcome State Fault Refusal := s.after (bayQuietForced bay)
/-- BW_EV_TAIL_WRITE (R338). -/
def execBwEvTailWrite (req : Requester) (bay : Fin 256) (v : Word) (s : State) : Host.Outcome State Fault Refusal :=
  s.after (bwEvTailWrite req bay v.toNat)

end Sys2Proof.Machine
end

