-- ==== Sys2Proof/Machine/Cycle.lean ====
section
/-! DEFINITION. The scheduler cycle (ch. 02) and the registers of the SC page that stage or gate dispatch. -/

namespace Sys2Proof.Machine

/-! ## Program images and pins (R83 to R90) -/

/-- A bay's pin, shown or in effect, names a version (R86, R88). -/
def Dev.pins (d : Dev) (bay version : Nat) : Bool :=
  (d.get R.SC_PIN_DATA_PINNED 0 bay == 1 && d.get R.SC_PIN_DATA_VERSION 0 bay == version) ||
  (d.eff R.SC_PIN_DATA_PINNED 0 bay == 1 && d.eff R.SC_PIN_DATA_VERSION 0 bay == version)

/-- The version in a group's program store (R83). -/
def Dev.groupVersion (d : Dev) (g : Nat) : Option Nat := (Tab.look d.sched.progs g).map (·.version)

/-- A group is the last enabled one that holds a version some bay pins (R88). -/
def Dev.lastPinned (d : Dev) (g : Nat) : Bool :=
  match d.groupVersion g with
  | none => false
  | some v =>
    d.on R.SC_GROUP_DISPATCH_EN 0 g && (List.range 256).any (fun b => d.pins b v) &&
      !(List.range 16).any (fun h => h != g && d.on R.SC_GROUP_DISPATCH_EN 0 h && d.groupVersion h == some v)

/-- No context of a group holds a request, as SC_GROUP.DRAINED shows (R89, R93). -/
def Dev.groupEmpty (d : Dev) (g : Nat) : Bool :=
  !d.sched.ctxs.any (fun e => ctxGroup e.1 == g && e.2.req.isSome)

/-- SC_GROUP_DISPATCH_WRITE (R83, R88, R89): a group without a resident image keeps 0; clearing the last enabled group
that holds a pinned version is refused; a set group receives dispatches from the next course boundary on. -/
def groupDispatchWrite (req : Requester) (g v : Nat) (d : Dev) : Dev :=
  if bitOf v 16 then
    if d.on R.SC_GROUP_DISPATCH_EN 0 g ∨ (d.groupVersion g).isNone then d
    else
      let d1 := d.set R.SC_GROUP_DISPATCH_EN 1 0 g
      { d1 with sched := { d1.sched with groupNext := d1.sched.groupNext ++ [g] } }
  else if !d.on R.SC_GROUP_DISPATCH_EN 0 g then d
  else if d.lastPinned g then d.err .sc 0 req .policyDenied
  else
    let d1 := d.set R.SC_GROUP_DISPATCH_EN 0 0 g
    let d2 : Dev := { d1 with sched := { d1.sched with groupNext := d1.sched.groupNext.filter (· ≠ g) } }
    if d2.groupEmpty g then d2.blockEvent .sc 0 2 else d2

/-- PROGRAM_IMAGE_LOAD (R83): the image is copied into the store of a drained group; one that passes the integrity check
is resident, one that fails is not run and is recorded. -/
def programImageLoad (g : Nat) (i : Image) (intact : Bool) (d : Dev) : Dev :=
  if d.on R.SC_GROUP_DISPATCH_EN 0 g || !d.groupEmpty g then d
  else if intact then
    let d1 : Dev := { d with sched := { d.sched with progs := Tab.put d.sched.progs g i } }
    (d1.set R.SC_GROUP_VERSION i.version 0 g).refreshFormats
  else
    let d1 : Dev := { d with sched := { d.sched with progs := Tab.del d.sched.progs g } }
    ((d1.set R.SC_GROUP_VERSION 0 0 g).refreshFormats).mark .progIntegrity .corbel 0 g i.version

/-! ## Staged registers of the SC page (R93) -/

/-- SC_CORE_SPLIT_WRITE: a value above 128 is refused (R93). -/
def coreSplitWrite (req : Requester) (v : Nat) (d : Dev) : Dev :=
  if low 8 v > 128 then d.err .sc 0 req .inputRange
  else (d.stage R.SC_CORE_SPLIT_PAY_BORROW (bits v 16 16)).stage R.SC_CORE_SPLIT_PAY_CORES (low 8 v)

/-- SC_MODE_WRITE (R61, R93). -/
def modeWrite (v : Nat) (d : Dev) : Dev := d.stage R.SC_MODE (low 1 v)

/-- SC_PIN_DATA_WRITE: the pin of the bay that SC_PIN_INDEX names (R86, R93). -/
def pinDataWrite (v : Nat) (d : Dev) : Dev :=
  let b := d.get R.SC_PIN_INDEX
  (d.stage R.SC_PIN_DATA_PINNED (bits v 16 16) 0 b).stage R.SC_PIN_DATA_VERSION (low 16 v) 0 b

/-! ## The scheduler cycle (R59, R121, R420, R423) -/

/-- At E2 and above cryptographic work is halted: every request, queued or in a context, ends with ST_SUSPENDED, and so do
the bulk records that wait (R420, R423). -/
def Dev.suspendAll (d : Dev) : Dev :=
  let d1 := (d.sched.queues.map (·.1)).foldl (fun a b =>
    (a.queue b).foldl (fun a r => a.endRequest r false .suspended []) (a.setQueue b [])) d
  let held := d1.sched.ctxs.filterMap (fun e => e.2.req.map (fun r => (e.1, r)))
  let d2 := held.foldl (fun a e => a.endCtx e.1 e.2 (a.ctx e.1).owned .suspended []) d1
  (List.range 257).foldl (fun a b => a.dropWaiting b .suspended) d2

/-- The contexts that hold a request in this cycle, for the level counters of event 0x020 (R542). -/
def Dev.holdCtxs (d : Dev) : Dev :=
  d.sched.ctxs.foldl (fun a e => match e.2.req with
    | some r => a.holds 0x020 (some r.bay) (ctxGroup e.1)
    | none => a) d

/-- Step 5 of R59: the two slots of the cycle. -/
def Dev.fillSlots (d : Dev) : Dev :=
  let n := 2 * (d.sched.time % 512)
  (d.fillSlot n).fillSlot (n + 1)

/-- SCHEDULER_CYCLE: the governors' refill, then the six steps of R59 in order; E2 and above end every request and stop
dispatch and grants. -/
def schedulerCycle (level : Nat) (d : Dev) : Dev :=
  let d1 := d.govRefill.govApply.retireAll
  let d2 := if level ≥ 2 then d1.suspendAll else d1
  let d3 := d2.expireAll.courseStep.resetStep
  let d4 := if level ≥ 2 then d3 else d3.fillSlots.bulkStep level
  let d5 := (d4.occur 0x001).holdCtxs
  { d5 with sched := { d5.sched with time := d5.sched.time + 1 } }

/-! ## The meanings -/

/-- SCHEDULER_CYCLE (R59). -/
def execSchedulerCycle (s : State) : Host.Outcome State Fault Refusal := s.afterWith (fun p d => schedulerCycle (d.workLevel p.level) d)
/-- REQUEST_EXPIRE (R74). -/
def execRequestExpire (s : State) : Host.Outcome State Fault Refusal := s.after Dev.expireAll
/-- COURSE_BOUNDARY (R60): the boundary of the cycle the scheduler stands at, where it is the first of a course. -/
def execCourseBoundary (s : State) : Host.Outcome State Fault Refusal := s.after Dev.courseStep
/-- SC_GROUP_DISPATCH_WRITE (R88, R89). -/
def execScGroupDispatchWrite (req : Requester) (g : Fin 16) (v : Word) (s : State) : Host.Outcome State Fault Refusal :=
  s.after (groupDispatchWrite req g v.toNat)
/-- PROGRAM_IMAGE_LOAD (R83). -/
def execProgramImageLoad (g : Fin 16) (i : Image) (intact : Bool) (s : State) : Host.Outcome State Fault Refusal :=
  s.after (programImageLoad g i intact)
/-- SC_CORE_SPLIT_WRITE (R93). -/
def execScCoreSplitWrite (req : Requester) (v : Word) (s : State) : Host.Outcome State Fault Refusal :=
  s.after (coreSplitWrite req v.toNat)
/-- SC_MODE_WRITE (R93). -/
def execScModeWrite (v : Word) (s : State) : Host.Outcome State Fault Refusal := s.after (modeWrite v.toNat)
/-- SC_PIN_DATA_WRITE (R86). -/
def execScPinDataWrite (v : Word) (s : State) : Host.Outcome State Fault Refusal := s.after (pinDataWrite v.toNat)

end Sys2Proof.Machine
end

