-- ==== Sys2Proof/Machine/KeyStore.lean ====
section
/-! DEFINITION. The key island, the Vault and the noise source (ch. 05): repointing, reservations, Vault writes, retention,
noise sources and reseeds, the root's regeneration, the commands of KT_CMD, quotas, backup keys and bundles. -/

namespace Sys2Proof.Machine

/-! ## The key cache (R196, R199, R200) -/

/-- A sweep starts: a new mask comes from the internal DRBG. The model holds entries unmasked (log entry 16). -/
def Dev.startSweep (d : Dev) : Dev :=
  let d1 := match d.drbgDraw internalDrbg 320 with
    | some (_, d1) => d1
    | none => d
  d1.set R.KC_REPOINT_SWEEPING 1

/-- REPOINT_SWEEP: a sweep falls due; one that is due while another runs waits (R199). -/
def repointSweep (d : Dev) : Dev :=
  if d.on R.KC_REPOINT_SWEEPING then { d with keys := { d.keys with sweepDue := true } } else d.startSweep

/-- REPOINT_SWEEP_END: the sweep is counted; a late sweep starts, and SWEEP_LATE is set (R199). -/
def repointSweepEnd (d : Dev) : Dev :=
  if !d.on R.KC_REPOINT_SWEEPING then d
  else
    let d1 := (d.set R.KC_REPOINT_SWEEPING 0).bumpWrap R.KC_SWEEPS
    if d.keys.sweepDue then
      ({ d1 with keys := { d1.keys with sweepDue := false } }).startSweep.blockEvent .kc 0 2
    else d1

/-- KEY_CACHE_FLUSH_DONE: the overwrite of a reset bay's entries, or of every entry after ZEROIZE_CACHE, ends (R200). -/
def keyCacheFlushDone (bay : Option (Fin 256)) (d : Dev) : Dev :=
  match bay with
  | some b =>
    match Tab.look d.sched.resets b with
    | some w =>
      if w.flushing then
        ({ d with sched := { d.sched with resets := Tab.put d.sched.resets b { w with flushing := false } } }).blockEvent
          .kc 0 3
      else d
    | none => d
  | none =>
    if d.keys.flushing then ({ d with keys := { d.keys with flushing := false } }).blockEvent .kc 0 3 else d

/-- KC_BAY_QUOTA_WRITE: refused where the sum of the quotas would pass 258,048; otherwise staged (R196, R223). -/
def kcBayQuotaWrite (req : Requester) (bay v : Nat) (d : Dev) : Dev :=
  let sum := ((List.range 256).map (fun b => if b = bay then v % 2 ^ 19 else d.get R.KC_BAY_QUOTA 0 b)).foldl (· + ·) 0
  if sum > 258048 then d.err .kc 0 req .inputRange else d.stage R.KC_BAY_QUOTA (v % 2 ^ 19) 0 bay

/-- VT_BAY_QUOTA_WRITE: refused where the sum of the quotas would pass the objects area; otherwise staged (R223). -/
def vtBayQuotaWrite (req : Requester) (bay v : Nat) (d : Dev) : Dev :=
  let sum := ((List.range 256).map (fun b => if b = bay then v % 2 ^ 21 else d.get R.VT_BAY_QUOTA 0 b)).foldl (· + ·) 0
  if sum > d.get R.VT_AREA then d.err .vt 0 req .inputRange else d.stage R.VT_BAY_QUOTA (v % 2 ^ 21) 0 bay

/-! ## Reservations (R190, R244) -/

/-- The contexts that wait for a reservation. -/
def Dev.waitersOf (d : Dev) (index : Nat) (nonce : Bool) : List Nat :=
  (d.keys.waits.filter (fun w => w.index == index && w.nonce == nonce)).map (·.ctx)

/-- A reservation is durable: a context that waits for no other reservation runs its program again from its start. -/
def Dev.releaseWaits (d : Dev) (index : Nat) (nonce : Bool) : Dev :=
  let hit := d.waitersOf index nonce
  let d1 : Dev := { d with keys := { d.keys with
    waits := d.keys.waits.filter (fun w => !(w.index == index && w.nonce == nonce)) } }
  hit.foldl (fun a c =>
    if a.keys.waits.any (fun w => w.ctx == c) || (a.ctx c).req.isNone then a
    else a.setCtx c { a.ctx c with state := .running }) d1

/-- The bay of a key index. -/
def indexBay (i : Nat) : Nat := i / 2 ^ 34

/-- USE_RESERVATION_DURABLE: the reservation of 65,536 uses, or of the remainder, covers the uses that wait for it (R190). -/
def useReservationDurable (n : Nat) (d : Dev) : Dev :=
  match d.keys.useWrites[n]? with
  | none => d
  | some i =>
    let k := objIndex (indexBay i) (i % 2 ^ 34)
    let objs := match Tab.look d.keys.objs k with
      | some o => Tab.put d.keys.objs k { o with usesReserved := min 65536 o.usesLeft }
      | none => d.keys.objs
    let d1 : Dev := { d with keys := { d.keys with
      useWrites := d.keys.useWrites.filter (· ≠ i), objs := objs } }
    let d2 := d1.releaseWaits i false
    d2.bulkCheckOwner (indexBay i) ((d2.bulkQueue (indexBay i)).length + 1)

/-- The bulk record at the head of its owner's queue that waits for a nonce counter. -/
def Dev.bulkNonceHead (d : Dev) (i : Nat) : Option BulkRec :=
  match d.bulkQueue (indexBay i) with
  | r :: _ =>
    if r.checked && r.desc.hardwareIv && nonceIndex (indexBay i) r.desc.handle == i && !(d.nonce i).ready then some r
    else none
  | [] => none

/-- A nonce reservation cannot be made durable: the requests and the record that wait for it end with ST_NONCE_RESERVE
(R244). -/
def Dev.failNonce (d : Dev) (i : Nat) : Dev :=
  let hit := d.waitersOf i true
  let d1 : Dev := { d with keys := { d.keys with waits := d.keys.waits.filter (fun w => !hit.contains w.ctx) } }
  let d2 := hit.foldl (fun a c => match (a.ctx c).req with
    | some r => a.finish c r .nonceReserve []
    | none => a) d1
  match d2.bulkNonceHead i with
  | some r => (d2.setBulkQueue (indexBay i) ((d2.bulkQueue (indexBay i)).erase r)).bulkComplete r .nonceReserve []
  | none => d2

/-- NONCE_RESERVATION_DURABLE: the n-th counter, in index order, whose reservation is being written: the next 2^24 values
are reserved, or the reservation fails (R244). -/
def nonceReservationDurable (n : Nat) (ok : Bool) (d : Dev) : Dev :=
  match (d.keys.nonces.filter (fun e => e.2.reserving))[n]? with
  | none => d
  | some (i, x) =>
    if ok then
      (d.setNonce i { x with reservedTo := min (2 ^ 64) (x.reservedTo + 2 ^ 24), reserving := false }).releaseWaits i true
    else (d.setNonce i { x with reserving := false }).failNonce i

/-! ## The Vault (R203, R207, R521) -/

/-- A bay's objects are being exported (R207, R214). -/
def Dev.exporting (d : Dev) (bay : Nat) : Bool :=
  match d.keys.bundle with
  | some b => b.op == 1 && b.src == bay
  | none => false

/-- A record deleted or an entry retired at a second of the Plinth count is due to be purged (R207). -/
def Dev.purgeDue (d : Dev) (bay t : Nat) : Bool :=
  decide (d.eff R.VT_BAY_RETAIN 0 bay ≤ (d.plinth.seconds - t) / 86400) && !d.exporting bay

/-- RETENTION_PURGE_CHECK: what is due leaves the logical map, its quota and its key's nonce counter with it (R207). -/
def retentionPurgeCheck (d : Dev) : Dev :=
  let gone (e : Nat × Obj) : Bool := match e.2.deletedAt with
    | some t => d.purgeDue (e.1 / 2 ^ 24) t
    | none => false
  let goneEntry (e : TokenEntry) : Bool := match e.state with
    | .retired t => d.purgeDue e.bay t
    | _ => false
  let lost := (d.keys.objs.filter gone).map (fun e => nonceIndex (e.1 / 2 ^ 24) (e.1 % 2 ^ 24))
  { d with keys := { d.keys with
      objs := d.keys.objs.filter (fun e => !gone e), entries := d.keys.entries.filter (fun e => !goneEntry e.2),
      nonces := d.keys.nonces.filter (fun e => !lost.contains e.1) } }

/-- NAND_REFRESH: blocks are rewritten and no logical block changes; the scan's progress, the days since the last full scan
and the wear are as measured, and WEAR_WARN is set when the wear reaches 80 percent (R223, R521). -/
def nandRefresh (blocks progress days wear : Nat) (d : Dev) : Dev :=
  let d1 := (d.bumpSat R.PL_NAND_REFRESHED 0 0 blocks).set R.PL_NAND (progress % 256 * 65536 + days % 65536)
  let d2 := d1.set R.VT_WEAR wear
  if d.get R.VT_WEAR < 80 ∧ d2.get R.VT_WEAR ≥ 80 then d2.blockEvent .vt 0 3 else d2

/-! ## The noise source (R209 to R211) -/

/-- FAIL follows the number of healthy sources; NOISE_FAIL is set when it rises (R210, R223). -/
def Dev.noiseFail (d : Dev) : Dev :=
  let n := ((List.range 8).filter (fun i => bitOf (d.get R.RN_STATUS_HEALTHY) i)).length
  let d1 := d.set R.RN_STATUS_FAIL (b2n (decide (n < 4)))
  if n < 4 ∧ !d.on R.RN_STATUS_FAIL then d1.blockEvent .rn 0 3 else d1

/-- A source fails a health test: it is excluded, and the failure recorded (R209). -/
def Dev.sourceFails (d : Dev) (source test : Nat) : Dev :=
  let d1 := if test = 0 then d.bumpSat R.RN_RCT_FAILS else if test = 1 then d.bumpSat R.RN_APT_FAILS else d
  let healthy := d.get R.RN_STATUS_HEALTHY
  let d2 := d1.set R.RN_STATUS_HEALTHY (if bitOf healthy source then healthy - 2 ^ source else healthy)
  (d2.raiseInt .rn 0 2).mark .rnSourceFail .key source source test

/-- RN_SOURCE_FAIL: a source in use fails its repetition count test (0) or its adaptive proportion test (1) (R209). -/
def rnSourceFail (source test : Nat) (d : Dev) : Dev :=
  if bitOf (d.get R.RN_STATUS_HEALTHY) source then (d.sourceFails source test).noiseFail else d

/-- RN_STARTUP_TEST_DONE: the sources named passed their start-up tests, the others are excluded (R209). -/
def rnStartupTestDone (passed : Nat) (d : Dev) : Dev :=
  if d.on R.RN_STATUS_STARTED then d
  else
    let d1 := (d.set R.RN_STATUS_STARTED 1).set R.RN_STATUS_HEALTHY passed
    (((List.range 8).filter (fun i => !bitOf passed i)).foldl (fun a i => a.sourceFails i 2) d1).noiseFail

/-- DRBG_RESEED: an instance's reseed falls due; it waits while the noise source has failed (R210, R211). -/
def drbgReseed (i : Nat) (d : Dev) : Dev :=
  if d.on R.RN_STATUS_FAIL then d.setDrbg i { d.drbg i with due := true } else d.reseed i

/-! ## The root (R176, R177, R180) -/

/-- The helper copies in the order they are tried: the valid copies, the higher enrolment count first (R176). -/
def Dev.helperOrder (d : Dev) : List Nat :=
  let (a, b) := d.keys.helpers
  let order := if b.valid && decide (b.count > a.count) then [1, 0] else [0, 1]
  order.filter (fun i => if i = 0 then a.valid else b.valid)

/-- The reference key of R177: the certificate's key, or the identity record in PROVISIONED. -/
def Dev.referenceKey (p : Perm) (d : Dev) : Option Bytes :=
  match d.keys.certificate with
  | some (_, key) => some key
  | none => if p.lcState = 2 then d.keys.identity else none

/-- The root has failed: no tree node exists (R177). -/
def Dev.rootFail (d : Dev) (cause errors : Nat) : Dev :=
  let d1 : Dev := { d with keys := { d.keys with root := none, nodes := [] } }
  ((d1.set R.KT_STATUS_ROOT 3).raiseInt .kt 0 2).mark .rootFail .key 0 cause errors

/-- The errors corrected are recorded; above the threshold both helper copies are written anew (R180). -/
def Dev.reenrol (d : Dev) (e : Nat) : Dev :=
  let d1 := d.set R.KT_STATUS_CORRECTED e
  if e * 100 > d.get R.KT_REENROL * 512 then
    let n := max d.keys.helpers.1.count d.keys.helpers.2.count + 1
    let d2 : Dev := { d1 with keys := { d1.keys with helpers := (⟨n, true⟩, ⟨n, true⟩) } }
    ((d2.set R.KT_STATUS_REENROLLED 1).bumpWrap R.PL_PUF_REENROLS).mark .pufReenrolled .key 0 e n
  else d1

/-- ROOT_REGENERATION_DONE: errs gives, for each helper copy, the errors corrected where its code decodes. The root is
present when its identity key equals the reference key, and has failed otherwise (R176, R177, R180). -/
def rootRegenerationDone (errs : Option Nat × Option Nat) (p : Perm) (d0 : Dev) : Dev :=
  if d0.get R.KT_STATUS_ROOT ≠ 1 then d0
  else
    let d : Dev := { d0 with keys := { d0.keys with resuming := false } }
    match d.helperOrder.findSome? (fun i => if i = 0 then errs.1 else errs.2) with
    | none => d.rootFail 1 0
    | some e =>
      let d1 := d.set R.PL_PUF_MAX_CORRECTED (max (d.get R.PL_PUF_MAX_CORRECTED) e)
      let d2 := d1.reenrol e
      match d.referenceKey p, d.plinth.share with
      | none, _ => d2.rootFail 3 e
      | some _, none => d2.rootFail 2 e
      | some key, some share =>
        let root := quarryRoot share
        if identityPublic root = key then
          ({ d2 with keys := { d2.keys with root := some root } }).set R.KT_STATUS_ROOT 2
        else d2.rootFail 2 e

/-! ## KT_CMD (R187, R219, R224) -/

/-- A command of KT_CMD ends with a status (R223, R224). -/
def Dev.ktEnd (d : Dev) (st : Status) : Dev :=
  ((d.set R.KT_CMD_STATUS_STATUS st.code).set R.KT_CMD_STATUS_BUSY 0).blockEvent .kt 0 3

/-- A command without its standing authorization is dropped: ERR_INFO records ST_POLICY_DENIED, and POLICY_REFUSED of the
KT page is set (R224). -/
def Dev.policyRefused (d : Dev) (b : Blk) (req : Requester) : Dev :=
  (d.err b 0 req .policyDenied).blockEvent .kt 0 4

/-- The FORMAT_MAX of the Keystones' images and of the resident program images all reach a format (R219). -/
def Dev.formatReached (d : Dev) (f : Nat) : Bool :=
  ((List.range 2).all (fun u => !d.ksRuns u || f ≤ (d.unit u).formatMax)) && d.sched.progs.all (fun e => f ≤ e.2.formatMax)

/-- KT_RAISE_FLOOR: operation 0x01, under class 4; the floor record is durable, and the floor takes effect at the next
course boundary (R219). -/
def ktRaiseFloor (req : Requester) (d : Dev) : Dev :=
  let f := d.get R.KT_CMD_ARG % 65536
  let present := (d.keys.floorNext).getD (d.get R.KT_FLEET_FLOOR_FLOOR)
  if !d.authStands 4 then d.policyRefused .kt req
  else if f ≤ present ∨ !d.formatReached f then d.ktEnd .floorUnsupported
  else
    let d1 := d.authStart
    let d2 : Dev := { d1 with
      keys := { d1.keys with floorNext := some f, floorRecord := d1.keys.floorRecord ++ [(f, d1.plinth.seconds)] }
      power := { d1.power with floorCopy := f } }
    (d2.ktEnd .ok).authDone

/-- Wrap n records or entries anew under a key: one value of its nonce counter each, reserved before it is used (R204,
R240, R244). -/
def Dev.wrapMany (d : Dev) (bay index : Nat) : Nat → Dev
  | 0 => d
  | n + 1 =>
    let x := d.nonce index
    let d1 := if x.ready then d else d.setNonce index { x with reservedTo := min (2 ^ 64) (x.reservedTo + 2 ^ 24) }
    (d1.takeIv bay index).2.wrapMany bay index n

/-- Operations 0x02 and 0x03 on a key, once authorized: the checks of R224, then the change (R194, R224). -/
def Dev.setExternalIv (d : Dev) (bay : Nat) (on needAuth : Bool) : Dev :=
  let h := d.get R.KT_CMD_ARG
  if !d.rootPresent then d.ktEnd .rootAbsent
  else
    match d.lookup bay h with
    | .key o =>
      if !(o.attrs.type = .symmetric && o.attrs.usage = .d0 && o.attrs.alg = .aes) then d.ktEnd .keyUsage
      else if o.attrs.externalIv = on then d.ktEnd .ok
      else
        let d1 := if needAuth then d.authStart else d
        let d2 := if bitOf h 31 then d1 else (d1.useNode bay 1).wrapMany bay (kekIndex bay) 1
        let o1 : Obj := { o with attrs := { o.attrs with externalIv := on }, format := d.floor }
        let d3 := (d2.setObj bay h o1).ktEnd .ok
        if needAuth then d3.authDone else d3
    | _ => d.ktEnd .keyHandle

/-- KT_SET_EXTERNAL_IV: operation 0x02, under class 5 for the bay (R224). -/
def ktSetExternalIv (req : Requester) (bay : Nat) (d : Dev) : Dev :=
  if d.authStands 5 bay then d.setExternalIv bay true true else d.policyRefused .kt req

/-- KT_CLEAR_EXTERNAL_IV: operation 0x03 (R224). -/
def ktClearExternalIv (bay : Nat) (d : Dev) : Dev := d.setExternalIv bay false false

/-- n bytes of HBM from an address. -/
def Dev.hbmBytes (d : Dev) (a n : Nat) : Bytes := (List.range n).map (fun i => Tab.get d.hbm (a + i) 0)

/-- KT_INSTALL_CERTIFICATE: operation 0x04. key is the P-521 key that the bytes at KT_CERT_ADDR state where they are a DER
X.509 v3 certificate, signed whether its signature verifies (R187). -/
def ktInstallCertificate (req : Requester) (key : Option Bytes) (signed : Bool) (p : Perm) (d : Dev) : Dev :=
  let n := d.get R.KT_CMD_ARG
  let d0 : Dev := { d with keys := { d.keys with certWait := false } }
  if n = 0 ∨ n > 2048 then (d0.err .kt 0 req .inputRange).ktEnd .inputRange
  else if p.lcState ≠ 2 then d0.ktEnd .lcState
  else if d.keys.certificate.isSome ∨ key.isNone ∨ key ≠ d.keys.identity ∨ !signed then d0.ktEnd .certRefused
  else
    let der := d.hbmBytes (d.get R.KT_CERT_ADDR_LO + 2 ^ 32 * d.get R.KT_CERT_ADDR_HI) n
    let d1 : Dev := { d0 with keys := { d0.keys with certificate := some (der, key.getD []) } }
    (d1.mark .certInstalled .key 0 n).ktEnd .ok

/-! ## Backup and restore (R213 to R216) -/

/-- BACKUP_KEY_CREATION: a backup key for N shares with threshold M is drawn from the internal DRBG under class 2, with its
identifier and the coefficients of the sharing; its shares are written by CARD_WRITE_SHARE (R213). -/
def backupKeyCreation (req : Requester) (m n : Nat) (d : Dev) : Dev :=
  if !d.authStands 2 then d.policyRefused .vt req
  else if m < 2 ∨ n < m ∨ n > 16 then d.err .vt 0 req .inputRange
  else
    let d0 := d.authStart
    match d0.drbgDraw internalDrbg (8 + 32 * m) with
    | none => d0.authDone
    | some (b, d1) =>
      let k : BackupKey := { id := b.take 8, m := m, n := n, key := (b.drop 8).take 32, coeffs := b.drop 40, written := [] }
      { d1 with cards := { d1.cards with backup := some k } }

/-- The M shares of one backup key have been read in the ceremony (R215). -/
def Dev.sharesRead (d : Dev) : Bool := d.cards.shareM ≥ 2 && d.cards.shares.length ≥ d.cards.shareM

/-- The bundle operation ends (R223): its status, state 3, OP reads 0, BUNDLE_DONE, and the authorization is spent. -/
def Dev.bundleEnd (d : Dev) (st : Status) : Dev :=
  let d1 : Dev := { d with keys := { d.keys with bundle := none } }
  let d2 := ((d1.set R.VT_BUNDLE_STATUS_STATUS st.code).set R.VT_BUNDLE_STATUS_STATE 3).set R.VT_BUNDLE_CTL_OP 0
  (d2.blockEvent .vt 0 2).authDone

/-- Start a bundle operation: its class and M shares must stand, no other operation may run, and the state must admit it
(R215, R224, R441). -/
def Dev.bundleStart (p : Perm) (req : Requester) (op cls src dst : Nat) (states : List Nat) (d : Dev) : Dev :=
  if d.keys.bundle.isSome then d
  else if !d.authStands cls || !d.sharesRead then (d.policyRefused .vt req).set R.VT_BUNDLE_CTL_OP 0
  else if !states.contains p.lcState then (d.err .vt 0 req .lcState).set R.VT_BUNDLE_CTL_OP 0
  else
    let b : BundleOp := ⟨op, src, dst, cls, false, d.cards.shareId⟩
    let d1 : Dev := { d.authStart with keys := { d.keys with bundle := some b } }
    (((d1.set R.VT_BUNDLE_CTL_OP op).set R.VT_BUNDLE_CTL_SRC_BAY src).set R.VT_BUNDLE_CTL_DST_BAY dst).set
      R.VT_BUNDLE_STATUS_STATE 1

/-- BUNDLE_EXPORT: operation 1 (R214, R215), admitted in OPERATIONAL and DECOMMISSIONED (R441). -/
def bundleExport (req : Requester) (src : Nat) (p : Perm) (d : Dev) : Dev :=
  d.bundleStart p req 1 2 src (d.get R.VT_BUNDLE_CTL_DST_BAY) [4, 5]

/-- The objects and token entries that an export of a bay carries: those that are live (R214). -/
def Dev.bundleOf (d : Dev) (bay : Nat) (bundleId backupId : Bytes) : Bundle where
  format := d.floor
  bundleId := bundleId
  backupId := backupId
  bay := bay
  objects := d.keys.objs.filterMap (fun e =>
    if e.1 / 2 ^ 24 = bay ∧ e.2.deletedAt.isNone ∧ !e.2.restorePending then some ⟨e.1 % 2 ^ 24, e.2⟩ else none)
  entries := (d.keys.entries.filter (fun e => e.2.bay == bay && e.2.state == .live)).map (·.2)

/-- The destination of a restore holds an object (R216). -/
def Dev.holdsObject (d : Dev) (bay : Nat) : Bool := d.keys.objs.any (fun e => e.1 / 2 ^ 24 == bay)

/-- The quota a bundle takes (R207). -/
def Bundle.quotaBytes (b : Bundle) : Nat :=
  (b.objects.map (fun i => i.obj.quotaBytes)).foldl (· + ·) 0 + 128 * b.entries.length

/-- The checks of a restore in their order (R216). -/
def Dev.restoreFault (d : Dev) (dst : Nat) (b : Bundle) (manifest chunks : Bool) (backupId : Bytes) : Option Status :=
  firstFault [failIf (b.format > d.get R.KT_FLEET_FLOOR_FORMAT_MAX) .formatUnknown, failIf (!manifest) .bundleAuth,
    failIf (!chunks || b.backupId ≠ backupId) .bundleAuth, failIf (d.holdsObject dst) .restoreConflict,
    failIf (!d.quotaRoom dst b.quotaBytes) .quotaExceeded]

/-- Write a bundle's records and entries into the destination bay with the restore-pending flag set, rewrapped under the
destination's keys; nonce counters, salts and use reservations do not travel (R214, R216). -/
def Dev.restoreWrite (d : Dev) (dst : Nat) (b : Bundle) : Dev :=
  let d1 := ((d.useNode dst 1).wrapMany dst (kekIndex dst) b.objects.length).useNode dst 2
  let d2 := d1.wrapMany dst (vaultKeyIndex dst) b.entries.length
  let objs := b.objects.foldl (fun t i => Tab.put t (objIndex dst i.handle)
    { i.obj with format := d.floor, restorePending := true, usesReserved := 0, deletedAt := none }) d2.keys.objs
  let n := d2.keys.lastEntry
  let entries := ((List.range b.entries.length).zip b.entries).foldl (fun t e => Tab.put t (n + 1 + e.1)
    { e.2 with bay := dst, format := d.floor, state := .restoring }) d2.keys.entries
  { d2 with keys := { d2.keys with objs := objs, entries := entries, lastEntry := n + b.entries.length } }

/-- BUNDLE_RESTORE: operation 2, and the bundle that arrives on the manager's stream; manifest and chunks say whether they
authenticate (R215, R216). It is admitted in SEALED and OPERATIONAL (R441). -/
def bundleRestore (req : Requester) (src dst : Nat) (b : Bundle) (manifest chunks : Bool) (p : Perm) (d : Dev) : Dev :=
  let d1 := d.bundleStart p req 2 3 src dst [3, 4]
  match d1.keys.bundle with
  | some op =>
    if op.op = 2 ∧ !op.committing then
      match d1.restoreFault op.dst b manifest chunks op.backupId with
      | some st => d1.bundleEnd st
      | none =>
        let d2 := d1.restoreWrite op.dst b
        ({ d2 with keys := { d2.keys with bundle := some { op with committing := true } } }).set R.VT_BUNDLE_STATUS_STATE 2
    else d1
  | none => d1

/-- Purge what a restore wrote and did not commit (R216). -/
def Dev.purgeRestore (d : Dev) : Dev :=
  { d with keys := { d.keys with
      objs := d.keys.objs.filter (fun e => !e.2.restorePending),
      entries := d.keys.entries.filter (fun e => e.2.state != .restoring) } }

/-- BUNDLE_ABORT: operation 3 ends the operation in progress; what a restore wrote is purged (R215, R216). -/
def bundleAbort (d : Dev) : Dev :=
  match d.keys.bundle with
  | some _ => d.purgeRestore.bundleEnd .aborted
  | none => d.set R.VT_BUNDLE_CTL_OP 0

/-- Clear every restore-pending flag at once (R216). -/
def Dev.commitRestore (d : Dev) : Dev :=
  let objs := d.keys.objs.map (fun e => (e.1, { e.2 with restorePending := false }))
  let entries := d.keys.entries.map (fun e => (e.1, if e.2.state = .restoring then { e.2 with state := .live } else e.2))
  { d with keys := { d.keys with objs := objs, entries := entries } }

/-- BUNDLE_DONE: an export's bundle is sent and the operation ends; a restore's records are committed (R214, R216). -/
def bundleDone (d : Dev) : Dev :=
  match d.keys.bundle with
  | some b =>
    if b.op = 1 then
      match d.drbgDraw internalDrbg 8 with
      | none => d.bundleEnd .entropyFail
      | some (id, d1) =>
        let cert := match d1.keys.certificate with | some c => c.1 | none => []
        (d1.send (.bundle (d1.bundleOf b.src id b.backupId) cert)).bundleEnd .ok
    else if b.committing then d.commitRestore.bundleEnd .ok
    else d
  | none => d

/-! ## The meanings -/

/-- REPOINT_SWEEP (R199). -/
def execRepointSweep (s : State) : Host.Outcome State Fault Refusal := s.after repointSweep
/-- REPOINT_SWEEP_END (R199). -/
def execRepointSweepEnd (s : State) : Host.Outcome State Fault Refusal := s.after repointSweepEnd
/-- KEY_CACHE_FLUSH_DONE (R200). -/
def execKeyCacheFlushDone (bay : Option (Fin 256)) (s : State) : Host.Outcome State Fault Refusal :=
  s.after (keyCacheFlushDone bay)
/-- USE_RESERVATION_DURABLE (R190). -/
def execUseReservationDurable (n : Nat) (s : State) : Host.Outcome State Fault Refusal := s.after (useReservationDurable n)
/-- NONCE_RESERVATION_DURABLE (R244). -/
def execNonceReservationDurable (n : Nat) (ok : Bool) (s : State) : Host.Outcome State Fault Refusal :=
  s.after (nonceReservationDurable n ok)
/-- VAULT_WRITE_DURABLE (R203). -/
def execVaultWriteDurable (n : Nat) (s : State) : Host.Outcome State Fault Refusal := s.after (·.writeDurable n)
/-- RETENTION_PURGE_CHECK (R207). -/
def execRetentionPurgeCheck (s : State) : Host.Outcome State Fault Refusal := s.after retentionPurgeCheck
/-- NAND_REFRESH (R521). -/
def execNandRefresh (blocks : Nat) (progress : Fin 101) (days : BitVec 16) (wear : Byte) (s : State) :
    Host.Outcome State Fault Refusal := s.after (nandRefresh blocks progress days.toNat wear.toNat)
/-- RN_SOURCE_FAIL (R209). -/
def execRnSourceFail (source : Fin 8) (test : Fin 2) (s : State) : Host.Outcome State Fault Refusal :=
  s.after (rnSourceFail source test)
/-- RN_STARTUP_TEST_DONE (R209). -/
def execRnStartupTestDone (passed : Byte) (s : State) : Host.Outcome State Fault Refusal :=
  s.after (rnStartupTestDone passed.toNat)
/-- DRBG_RESEED (R211). -/
def execDrbgReseed (i : Fin 257) (s : State) : Host.Outcome State Fault Refusal := s.after (drbgReseed i)
/-- ROOT_REGENERATION_DONE (R177). -/
def execRootRegenerationDone (errs : Option Nat × Option Nat) (s : State) : Host.Outcome State Fault Refusal :=
  s.afterWith (rootRegenerationDone errs)
/-- KT_RAISE_FLOOR (R219). -/
def execKtRaiseFloor (req : Requester) (s : State) : Host.Outcome State Fault Refusal := s.after (ktRaiseFloor req)
/-- KT_SET_EXTERNAL_IV (R224). -/
def execKtSetExternalIv (req : Requester) (bay : Fin 256) (s : State) : Host.Outcome State Fault Refusal :=
  s.after (ktSetExternalIv req bay)
/-- KT_CLEAR_EXTERNAL_IV (R224). -/
def execKtClearExternalIv (bay : Fin 256) (s : State) : Host.Outcome State Fault Refusal := s.after (ktClearExternalIv bay)
/-- KT_INSTALL_CERTIFICATE (R187). -/
def execKtInstallCertificate (req : Requester) (key : Option Bytes) (signed : Bool) (s : State) :
    Host.Outcome State Fault Refusal := s.afterWith (ktInstallCertificate req key signed)
/-- KC_BAY_QUOTA_WRITE (R196). -/
def execKcBayQuotaWrite (req : Requester) (bay : Fin 256) (v : Word) (s : State) : Host.Outcome State Fault Refusal :=
  s.after (kcBayQuotaWrite req bay v.toNat)
/-- VT_BAY_QUOTA_WRITE (R223). -/
def execVtBayQuotaWrite (req : Requester) (bay : Fin 256) (v : Word) (s : State) : Host.Outcome State Fault Refusal :=
  s.after (vtBayQuotaWrite req bay v.toNat)
/-- BACKUP_KEY_CREATION (R213). -/
def execBackupKeyCreation (req : Requester) (m n : Nat) (s : State) : Host.Outcome State Fault Refusal :=
  s.after (backupKeyCreation req m n)
/-- BUNDLE_EXPORT (R214). -/
def execBundleExport (req : Requester) (src : Fin 256) (s : State) : Host.Outcome State Fault Refusal :=
  s.afterWith (bundleExport req src)
/-- BUNDLE_RESTORE (R216). -/
def execBundleRestore (req : Requester) (src dst : Fin 256) (b : Bundle) (manifest chunks : Bool) (s : State) :
    Host.Outcome State Fault Refusal := s.afterWith (bundleRestore req src dst b manifest chunks)
/-- BUNDLE_ABORT (R215). -/
def execBundleAbort (s : State) : Host.Outcome State Fault Refusal := s.after bundleAbort
/-- BUNDLE_DONE (R216). -/
def execBundleDone (s : State) : Host.Outcome State Fault Refusal := s.after bundleDone

end Sys2Proof.Machine
end

