-- ==== Sys2Proof/Machine/Cards.lean ====
section
/-! DEFINITION. Custodian cards and dual control (ch. 10): activation, T=1, card commands, removal, and ceremonies. -/

namespace Sys2Proof.Machine

/-! ## Interfaces -/

/-- An interface (R379). -/
def Dev.card (d : Dev) (i : Nat) : CardIf := Tab.get d.cards.ifs i CardIf.idle

/-- Write an interface. -/
def Dev.setCard (d : Dev) (i : Nat) (x : CardIf) : Dev :=
  { d with cards := { d.cards with ifs := Tab.set d.cards.ifs i CardIf.idle x } }

/-- CD_STATE.STATE of an interface (R409). -/
def Dev.cardState (d : Dev) (i : Nat) : Nat := d.get R.CD_STATE_STATE i

/-- The interface is activating, active or stopped. -/
def Dev.cardPowered (d : Dev) (i : Nat) : Bool := 2 ≤ d.cardState i && d.cardState i ≤ 4

/-- A session ends: nothing of it is left, and SESSION is raised (R394, R410). -/
def Dev.endCardSession (d : Dev) (i : Nat) : Dev :=
  match (d.card i).session with
  | none => d
  | some _ =>
    let d1 := d.setCard i { d.card i with session := none }
    (((d1.set R.CD_STATE_SESSION 0 i).set R.CD_CARD_ID_LO 0 i).set R.CD_CARD_ID_HI 0 i).raiseInt .cd i 5

/-- Clear the PIN block buffer (R392). -/
def Dev.clearPinBlock (d : Dev) (i : Nat) : Dev :=
  (List.range 32).foldl (fun a k => a.set R.CD_PINBLK 0 i k) d

/-- The record of a ceremony step: operation, status, card and slot (R407). -/
def Dev.cerStep (d : Dev) (i op slot : Nat) (st : Status) : Dev :=
  if d.get R.CD_CER_STATUS_STATE = 0 ∨ op < 2 ∨ op > 5 then d
  else
    let id := match (d.card i).session with | some s => s.cardId | none => 0
    d.mark .cerStep .card 0 op st.code id slot

/-- A write in doubt marks its slot indeterminate in the ceremony record (R398, R407). -/
def Dev.markInDoubt (d : Dev) (id : Nat) (x : CardExchange) : Dev :=
  let d1 : Dev := { d with cards := { d.cards with
    inDoubt := ⟨id, x.slot, x.version, x.data⟩ :: d.cards.inDoubt.filter (fun q => !(q.cardId == id && q.slot == x.slot)) } }
  (d1.raiseInt .cd 0 10).mark .cerSlotIndet .card 0 id (id / 2 ^ 32) x.slot x.version

/-- A command of an interface ends with a status (R409, R410). A backup share whose write does not end well ends the
ceremony (R399, R402). -/
def Dev.cardEnd (d : Dev) (i op slot : Nat) (st : Status) : Dev :=
  let d1 := (d.setCard i { d.card i with exchange := none }).cerStep i op slot st
  let d2 := if op = 3 then d1.clearPinBlock i else d1
  let d3 := ((d2.set R.CD_CMD_STATUS_BUSY 0 i).set R.CD_CMD_STATUS_STATUS st.code i).raiseInt .cd i 4
  if op = 4 ∧ st ≠ .ok ∧ d3.get R.CD_CER_STATUS_CLASS = 2 then d3.authDone else d3

/-- End the exchange in progress with a status: a write in doubt is recorded, and ends with the status of R398. -/
def Dev.breakExchange (d : Dev) (i : Nat) (st : Status) : Dev :=
  match (d.card i).exchange with
  | none => d
  | some x =>
    let id := match (d.card i).session with | some s => s.cardId | none => 0
    if x.sent then
      let st1 := if st = .cardRemoved then Status.cardRemovedInWrite
        else if st = .cardTimeout ∨ st = .cardVcc ∨ st = .suspended ∨ st = .controlSwitched then st
          else .cardProtocol
      (d.markInDoubt id x).cardEnd i x.op x.slot st1
    else d.cardEnd i x.op x.slot st

/-- Deactivate the contacts in the ISO order; STATE shows what follows (R384, R397). -/
def Dev.deactivate (d : Dev) (i state : Nat) : Dev :=
  let d1 := d.endCardSession i
  let x := d1.card i
  let d2 := d1.setCard i { x with retryClass := false, retryPps := false, pps := none, ns := 0, vccBad := 0, exchange := none }
  ((d2.set R.CD_STATE_STATE state i).set R.CD_STATE_CLASS_USED 0 i).send (.contacts i false)

/-- The state of an interface whose contacts are down: present inactive, or absent. -/
def Dev.restState (d : Dev) (i : Nat) : Nat := b2n (d.card i).detect

/-- Activation has failed: the interface deactivates, ST_CARD_ATR is recorded, and STATE reads 6 (R381, R386). -/
def Dev.activationFails (d : Dev) (i : Nat) : Dev := (d.deactivate i 6).err .cd i Requester.manager .cardAtr

/-! ## Activation (R381 to R386) -/

/-- Power the contacts with a class, 1 C or 2 B (R380, R381). -/
def Dev.activate (d : Dev) (i cls : Nat) (noPps : Bool) : Dev :=
  let d1 := (d.setEff R.CD_CLK_DIV (d.get R.CD_CLK_DIV i) i).set R.CD_STATE_STATE 2 i
  let x := d1.card i
  let d2 := d1.setCard i { x with retryClass := false, retryPps := false, noPps := noPps, pps := none, lowCurrent := true }
  ((d2.set R.CD_STATE_CLASS_USED cls i).set R.CD_PARAM_PPS_DONE 0 i).send (.contacts i true)

/-- The contacts may be powered: main power is present and firmware is verified (R384). -/
def Dev.contactsAllowed (d : Dev) : Bool := d.power.stage == .running

/-- CARD_ACTIVATE (R381). -/
def cardActivate (i : Nat) (d : Dev) : Dev :=
  if !d.contactsAllowed || d.cardPowered i then d
  else if !(d.card i).detect then d.err .cd i Requester.manager .cardAbsent
  else d.activate i (if d.get R.CD_CTL_CLASS i = 2 then 2 else 1) false

/-- CARD_DEACTIVATE: an exchange in progress has lost its session (R397). -/
def cardDeactivate (i : Nat) (d : Dev) : Dev :=
  if d.cardPowered i then let d1 := d.breakExchange i .cardSession; d1.deactivate i (d1.restState i) else d

/-- Fi and Di of a TA1 value the module supports, with F/D at least 16 (R385). -/
def fiDi (ta1 : Nat) : Option (Nat × Nat) :=
  let f := match ta1 / 16 with
    | 0 => 372 | 1 => 372 | 2 => 558 | 3 => 744 | 4 => 1116 | 5 => 1488 | 6 => 1860 | 9 => 512 | _ => 0
  let n := match ta1 % 16 with
    | 1 => 1 | 2 => 2 | 3 => 4 | 4 => 8 | 5 => 16 | 6 => 32 | _ => 0
  if f = 0 ∨ n = 0 ∨ f < 16 * n then none else some (f, n)

/-- The ETU of one pair is at least that of another: F/D, compared without division. -/
def etuGe (a b : Nat × Nat) : Bool := a.1 * b.2 ≥ b.1 * a.2

/-- PPS1: of the supported pairs no faster than the card's or CD_CLK.MAX_FD, the one with the lowest ETU, the card's own
first (R386). -/
def ppsChoice (card limit : Nat) : Nat :=
  match fiDi card with
  | none => 0x11
  | some c =>
    let ok (v : Nat) : Bool := match fiDi v with
      | some p => etuGe p c && (match fiDi limit with | some l => etuGe p l | none => v == 0x11)
      | none => false
    let best := (card :: List.range 256).foldl (fun (b : Option Nat) v =>
      if ok v then
        match b with
        | none => some v
        | some u => match fiDi v, fiDi u with
          | some p, some q => if etuGe p q then some u else some v
          | _, _ => b
      else b) none
    best.getD 0x11

/-- The rules of R385. -/
def Atr.usable (a : Atr) : Bool :=
  (a.ts == 0x3B || a.ts == 0x3F) && a.intact && (fiDi a.ta1).isSome && a.t1 && a.ta2 != some false &&
    16 ≤ a.ifsc && a.ifsc ≤ 254 && a.bwi ≤ 9 && a.cwi ≤ 15

/-- The classes an ATR states include the class in use, 1 C or 2 B (R385). -/
def Atr.classOk (a : Atr) (cls : Nat) : Bool :=
  match a.clock with
  | none => true
  | some p => p.2 / (if cls = 1 then 4 else 2) % 2 == 1

/-- The interface is active (R387, R410). -/
def Dev.cardActive (d : Dev) (i : Nat) : Dev := (d.set R.CD_STATE_STATE 3 i).raiseInt .cd i 3

/-- Wait 10 ms with the contacts down, and then try again. -/
def Dev.retryLater (d : Dev) (i : Nat) (cls pps : Bool) : Dev :=
  let d1 := d.send (.contacts i false)
  d1.setCard i { d1.card i with retryClass := cls, retryPps := pps, pps := none }

/-- The activation waits for a character of the card: no retry is pending. -/
def Dev.awaitsAtr (d : Dev) (i : Nat) : Bool :=
  let x := d.card i
  d.cardState i == 2 && !x.retryClass && !x.retryPps && x.pps.isNone

/-- CARD_ATR: an ATR that breaks R385 is refused; one whose classes exclude class C makes the interface try class B; then
the parameters are taken, and a PPS is sent in negotiable mode where TA1 is not 0x11 (R381, R385, R386). -/
def cardAtr (i : Nat) (a : Atr) (d : Dev) : Dev :=
  if !d.awaitsAtr i then d
  else if !a.usable then d.activationFails i
  else if !a.classOk (d.get R.CD_STATE_CLASS_USED i) then
    if d.get R.CD_STATE_CLASS_USED i = 1 ∧ d.get R.CD_CTL_CLASS i = 0 then d.retryLater i true false else d.activationFails i
  else
    let x := match a.clock with | some p => p.1 | none => 0
    let d1 := ((d.set R.CD_PARAM_IFSC a.ifsc i).set R.CD_PARAM_BWI a.bwi i).set R.CD_PARAM_CWI a.cwi i
    let d2 := (d1.set R.CD_PARAM_CLOCK_STOP x i).set R.CD_PARAM_CRC (b2n a.crc) i
    if a.ta2.isSome then (d2.set R.CD_PARAM_TA1 a.ta1 i).cardActive i
    else if a.ta1 = 0x11 ∨ (d2.card i).noPps then (d2.set R.CD_PARAM_TA1 0x11 i).cardActive i
    else
      let p := ppsChoice a.ta1 (d2.get R.CD_CLK_MAX_FD i)
      (d2.setCard i { d2.card i with pps := some p }).send (.card i [0xFF#8, 0x11#8, BitVec.ofNat 8 p])

/-- ATR_TIMEOUT: no ATR begins in time: class B is tried where the class is free, or activation fails; a current that
stayed below 0.2 mA is an open contact (R381, R383). -/
def atrTimeout (i : Nat) (d : Dev) : Dev :=
  if !d.awaitsAtr i then d
  else if d.get R.CD_STATE_CLASS_USED i = 1 ∧ d.get R.CD_CTL_CLASS i = 0 then d.retryLater i true false
  else
    let d1 := if (d.card i).lowCurrent then
        (d.raiseInt .cd i 6).mark .cdVccOpen .card i (d.get R.CD_VCC_MV i) (d.get R.CD_VCC_CURRENT i)
      else d
    d1.activationFails i

/-- ATR_COMPLETION_TIMEOUT: an ATR that has begun is not complete in time (R385). -/
def atrCompletionTimeout (i : Nat) (d : Dev) : Dev := if d.awaitsAtr i then d.activationFails i else d

/-- CLASS_RETRY: activation with class B (R381). -/
def classRetry (i : Nat) (d : Dev) : Dev := if (d.card i).retryClass then d.activate i 2 (d.card i).noPps else d

/-- A PPS has failed: the interface deactivates and activates again after 10 ms without PPS; a second failure ends
activation (R386). -/
def Dev.ppsFails (d : Dev) (i : Nat) : Dev :=
  if (d.card i).noPps then d.activationFails i else d.retryLater i false true

/-- PPS_ECHO_TIMEOUT (R386). -/
def ppsEchoTimeout (i : Nat) (d : Dev) : Dev := if (d.card i).pps.isSome then d.ppsFails i else d

/-- PPS_RETRY: activation without PPS, with the class that gave the ATR (R386). -/
def ppsRetry (i : Nat) (d : Dev) : Dev :=
  if (d.card i).retryPps then d.activate i (d.get R.CD_STATE_CLASS_USED i) true else d

/-! ## Card commands (R391 to R396, R409) -/

/-- A card is in the ceremony: its roster entry carries the class (R403). -/
def classIn (classes cls : Nat) : Bool := classes / 2 ^ (cls - 1) % 2 == 1

/-- A VERIFY that succeeds counts its card in a ceremony that gathers (R403). -/
def Dev.countCard (d : Dev) (i : Nat) (s : CardSession) : Status × Dev :=
  let cls := d.get R.CD_CER_STATUS_CLASS
  if d.get R.CD_CER_STATUS_STATE = 0 ∨ d.get R.CD_CER_STATUS_STATE = 3 ∨ !classIn s.classes cls then (.ok, d)
  else if d.cards.counted.contains s.cardId then (.cardDuplicate, d)
  else if d.get R.CD_CER_STATUS_STATE ≠ 1 then (.ok, d)
  else
    let n := d.get R.CD_CER_STATUS_COUNT + 1
    let d1 := ({ d with cards := { d.cards with counted := s.cardId :: d.cards.counted } }).set R.CD_CER_STATUS_COUNT n
    let d2 := d1.mark .cerCard .card 0 i s.cardId (s.cardId / 2 ^ 32) n
    if n ≥ d2.get R.CD_CER_STATUS_M then
      (.ok, ((d2.set R.CD_CER_STATUS_STATE 2).raiseInt .cd 0 8).mark .cerStanding .card 0 cls (d2.get R.CD_CER_STATUS_BAY) n)
    else (.ok, d2)

/-- In PROVISIONED a card whose VERIFY succeeds is staged for the first roster with the classes of LC_ROSTER_MASK (R400,
R460). -/
def Dev.stageCard (d : Dev) (lc : Nat) (s : CardSession) : Dev :=
  if lc ≠ 2 then d
  else
    let e : RosterEntry := ⟨s.cardId, s.keyHash, d.get R.LC_ROSTER_MASK⟩
    let rest := d.cards.staged.filter (fun x => x.cardId ≠ s.cardId)
    if rest.length ≥ 16 then d else { d with cards := { d.cards with staged := rest ++ [e] } }

/-- A share that a slot holds: backup key identifier, index, M, N, a reserved byte, and the share (R393). -/
def SlotImage.share (x : SlotImage) : Option (Bytes × Nat × Nat × Bytes) :=
  if x.kind = 1 ∧ x.data.length = 44 then
    some (x.data.take 8, (x.data.getD 8 0#8).toNat, (x.data.getD 9 0#8).toNat, x.data.drop 12)
  else none

/-- A share read in an open ceremony of class 2 or 3 goes to the internal reserve (R215, R394). -/
def Dev.takeShare (d : Dev) (x : SlotImage) : Dev :=
  let cls := d.get R.CD_CER_STATUS_CLASS
  match x.share with
  | none => d
  | some (id, index, m, v) =>
    if d.get R.CD_CER_STATUS_STATE = 0 ∨ (cls ≠ 2 ∧ cls ≠ 3) then d
    else if d.cards.shares = [] then
      { d with cards := { d.cards with shares := [(index, v)], shareId := id, shareM := m } }
    else if d.cards.shareId = id ∧ !d.cards.shares.any (fun e => e.1 = index) then
      { d with cards := { d.cards with shares := d.cards.shares ++ [(index, v)] } }
    else d

/-- The read of a slot whose last write ended in doubt: where its CRC passes, the record notes its version counter and, in
bit 8 of the slot parameter, whether the data matches (R399). -/
def Dev.resolveDoubt (d : Dev) (id slot : Nat) (x : SlotImage) : Dev :=
  match d.cards.inDoubt.find? (fun q => q.cardId == id && q.slot == slot) with
  | none => d
  | some q =>
    let d1 : Dev := { d with cards := { d.cards with inDoubt := d.cards.inDoubt.filter (· ≠ q) } }
    if x.crcOk then
      d1.mark .cerSlotIndet .card 0 id (id / 2 ^ 32) (slot + 256 * b2n (x.data == q.data)) x.version
    else d1

/-- The share of the backup key with an index, as a slot's data (R213, R393). -/
def BackupKey.slotData (k : BackupKey) (index : Nat) : Bytes :=
  k.id ++ [BitVec.ofNat 8 index, BitVec.ofNat 8 k.m, BitVec.ofNat 8 k.n, 0#8] ++ shamirShare k.m k.key k.coeffs index

/-- Start an exchange: BUSY is set, and the command goes to the card (R391, R409). -/
def Dev.cardStart (d : Dev) (i : Nat) (x : CardExchange) (apdu : Bytes) : Dev :=
  ((d.setCard i { d.card i with exchange := some x }).set R.CD_CMD_STATUS_BUSY 1 i).send (.card i apdu)

/-- A new exchange of an operation. -/
def newExchange (op slot : Nat) (data : Bytes) : CardExchange := ⟨op, slot, data, 0, false, 0, 0, false, 0⟩

/-- The checks of a CD_CMD write, and the start of its exchange (R409): only a supervisor's write acts; one that comes
while BUSY is 1 is dropped with ST_CER_STATE; a slot above 15 is refused. -/
def Dev.cardCommand (d : Dev) (req : Requester) (i op v : Nat) (go : Dev → Dev) : Dev :=
  let stop (st : Status) : Dev := ((d.set R.CD_CMD_STATUS_STATUS st.code i).raiseInt .cd i 4)
  if req.origin ≠ .supervisor then d.err .cd i req .policyDenied
  else if d.on R.CD_CMD_STATUS_BUSY i then d.err .cd i req .cerState
  else if bits v 15 8 > 15 then d.err .cd i req .inputRange
  else if !d.on R.CD_STATE_PRESENT i then stop .cardAbsent
  else if d.cardState i ≠ 3 ∧ !(d.cardState i = 4 ∧ op = 6) then stop .cardSession
  else if op ≠ 1 ∧ (d.card i).session.isNone then stop .cardSession
  else go d

/-- CARD_OPEN_SESSION: SELECT, GET DATA and OPEN SESSION (R391, R394). -/
def cardOpenSession (req : Requester) (i v : Nat) (d : Dev) : Dev :=
  d.cardCommand req i 1 v (fun d => d.endCardSession i |>.cardStart i (newExchange 1 0 []) [0xA4#8])

/-- CARD_READ_SLOT (R393). -/
def cardReadSlot (req : Requester) (i v : Nat) (d : Dev) : Dev :=
  d.cardCommand req i 2 v (fun d =>
    d.cardStart i (newExchange 2 (bits v 15 8) []) [0xB0#8, BitVec.ofNat 8 (bits v 15 8)])

/-- The PIN block buffer, its first byte first in word 0 (R392). -/
def Dev.pinBlockBytes (d : Dev) (i n : Nat) : Bytes :=
  ((List.range 32).flatMap (fun k => (beBytes 4 (d.get R.CD_PINBLK i k)).reverse)).take n

/-- CARD_VERIFY: the buffer is forwarded unread (R392). -/
def cardVerify (req : Requester) (i v : Nat) (d : Dev) : Dev :=
  d.cardCommand req i 3 v (fun d =>
    let n := bits v 31 16
    if n < 16 ∨ n > 128 then d.err .cd i req .inputRange
    else d.cardStart i (newExchange 3 0 []) (0x20#8 :: d.pinBlockBytes i n))

/-- CARD_WRITE_SHARE: the backup key of the ceremony gives the share that ARG names; the slot's flags are read first, in
the same session (R213, R396). -/
def cardWriteShare (req : Requester) (i v : Nat) (d : Dev) : Dev :=
  d.cardCommand req i 4 v (fun d =>
    match d.cards.backup with
    | none => d.err .cd i req .policyDenied
    | some k =>
      let n := bits v 31 16
      if d.get R.CD_CER_STATUS_STATE ≠ 3 then d.err .cd i req .policyDenied
      else if n < 1 ∨ n > k.n then d.err .cd i req .inputRange
      else d.cardStart i (newExchange 4 (bits v 15 8) (k.slotData n)) [0xB0#8, BitVec.ofNat 8 (bits v 15 8)])

/-- CARD_PROTECT_SLOT (R395). -/
def cardProtectSlot (req : Requester) (i v : Nat) (d : Dev) : Dev :=
  d.cardCommand req i 5 v (fun d =>
    d.cardStart i (newExchange 5 (bits v 15 8) []) [0xDA#8, BitVec.ofNat 8 (bits v 15 8)])

/-- CARD_WAKE: the clock runs again, and the session is validated by its counter (R390, R394). -/
def cardWake (req : Requester) (i v : Nat) (d : Dev) : Dev :=
  d.cardCommand req i 6 v (fun d =>
    match (d.card i).session with
    | none => d
    | some s =>
      let s1 := { s with counter := s.counter + 1 }
      let d1 := (d.setCard i { d.card i with session := some s1 }).set R.CD_STATE_STATE 3 i
      d1.cardStart i (newExchange 6 0 []) (0x12#8 :: beBytes 4 s1.counter))

/-- CARD_CLOSE (R391). -/
def cardClose (req : Requester) (i v : Nat) (d : Dev) : Dev :=
  d.cardCommand req i 7 v (fun d => d.cardStart i (newExchange 7 0 []) [0x14#8])

/-- The status of a card's status word (R391), and the tries left that it states. -/
def swStatus (sw : Nat) : Status × Option Nat :=
  if 0x63C0 ≤ sw ∧ sw ≤ 0x63CF then (.pinRejected, some (sw % 16))
  else if sw = 0x6983 then (.pinRejected, some 0)
  else if sw = 0x6985 then (.slotProtected, none)
  else if sw = 0x6A83 then (.inputRange, none)
  else (.cardProtocol, none)

/-- A session opens: its signature must verify and its card key stand in the roster; in PROVISIONED the roster is empty and
any card is accepted for staging (R394, R460). -/
def Dev.sessionOpens (d : Dev) (lc i cardId keyHash : Nat) (signed : Bool) : Status × Dev :=
  let entry := d.cards.roster.find? (fun e => e.keyHash == keyHash && e.cardId == cardId)
  if !signed || (entry.isNone && lc ≠ 2) then (.cardAuth, d)
  else
    let s : CardSession := ⟨cardId, keyHash, match entry with | some e => e.classes | none => 0, false, [], 0⟩
    let d1 := (d.setCard i { d.card i with session := some s }).set R.CD_STATE_SESSION 1 i
    (.ok, ((d1.set R.CD_CARD_ID_LO (cardId % 2 ^ 32) i).set R.CD_CARD_ID_HI (cardId / 2 ^ 32) i).raiseInt .cd i 5)

/-- What a slot read shows: UNDEFINED where the CRC fails (R393, R409). -/
def Dev.slotRead (d : Dev) (i slot : Nat) (s : CardSession) (x : SlotImage) : Status × Dev :=
  let d0 := d.resolveDoubt s.cardId slot x
  if x.crcOk then
    let d1 := d0.setCard i { d0.card i with session := some { s with flags := Tab.put s.flags slot x.flags } }
    (.ok, ((d1.set R.CD_CMD_STATUS_FLAGS (x.flags % 4) i).set R.CD_SLOT_VERSION x.version i).takeShare x)
  else (.slotUndefined, d0.set R.CD_CMD_STATUS_FLAGS 64 i)

/-- The effect of a card's response on the operation in progress (R391 to R399): the status it ends with, or none where
WRITE SLOT follows the read of the slot's flags. -/
def Dev.cardAnswer (d : Dev) (lc i : Nat) (x : CardExchange) (a : CardAnswer) : Option Status × Dev :=
  match a, (d.card i).session with
  | .refused sw, s =>
    let p := swStatus sw
    let d1 := match p.2 with | some n => d.set R.CD_CMD_STATUS_TRIES n i | none => d
    if x.op = 6 ∧ s.isSome then (some .cardSession, d1.endCardSession i) else (some p.1, d1)
  | .session cardId keyHash signed, _ =>
    if x.op = 1 then let r := d.sessionOpens lc i cardId keyHash signed; (some r.1, r.2) else (some .cardProtocol, d)
  | .slot y, some s =>
    if x.op = 2 then let r := d.slotRead i x.slot s y; (some r.1, r.2)
    else if x.op = 4 ∧ !x.sent then
      if !y.crcOk then (some .slotUndefined, d.set R.CD_CMD_STATUS_FLAGS 64 i)
      else if y.flags % 4 ≠ 0 then (some .slotProtected, d)
      else
        let x1 := { x with sent := true, version := y.version, tries := 0, wtx := 0 }
        (none, (d.setCard i { d.card i with exchange := some x1 }).send (.card i [0xD0#8, BitVec.ofNat 8 x.slot]))
    else (some .cardProtocol, d)
  | .written n, some _ =>
    if x.op = 4 ∧ x.sent then
      let index := (x.data.getD 8 0#8).toNat
      let d1 : Dev := { d with cards := { d.cards with
        backup := d.cards.backup.map (fun k => { k with written := index :: k.written.filter (· ≠ index) }) } }
      (some .ok, d1.set R.CD_SLOT_VERSION n i)
    else (some .cardProtocol, d)
  | .wake ok, some _ =>
    if x.op ≠ 6 then (some .cardProtocol, d) else if ok then (some .ok, d) else (some .cardSession, d.endCardSession i)
  | .ok, some s =>
    if x.op = 3 then
      let s1 := { s with verified := true }
      let d1 := (d.setCard i { d.card i with session := some s1 }).stageCard lc s1
      let r := d1.countCard i s1
      (some r.1, r.2)
    else if x.op = 5 then
      (some .ok, d.setCard i { d.card i with session := some { s with
        flags := Tab.put s.flags x.slot (Tab.get s.flags x.slot 0 ||| 2) } })
    else if x.op = 7 then (some .ok, d.endCardSession i)
    else (some .cardProtocol, d)
  | _, none => (some .cardSession, d)

/-- The last share of the backup key is written: the operation of class 2 ends (R213, R402). -/
def Dev.backupDone (d : Dev) : Dev :=
  match d.cards.backup with
  | some k => if k.written.length ≥ k.n then d.authDone else d
  | none => d

/-- An exchange that ends while the detect input shows absence gives ST_CARD_REMOVED, and the interface deactivates (R397,
OBSERVE). -/
def Dev.absentEnd (d : Dev) (i : Nat) (x : CardExchange) : Dev :=
  let d1 := d.cardEnd i x.op x.slot .cardRemoved
  d1.deactivate i (d1.restState i)

/-! ## T=1 (R387 to R389) -/

/-- A block has failed (R388): up to RETRY further attempts, then up to 3 RESYNCH requests, then the interface deactivates
and the exchange ends with ST_CARD_PROTOCOL, or ST_CARD_TIMEOUT after a waiting-time overrun. -/
def Dev.blockFails (d : Dev) (i : Nat) (x : CardExchange) (overrun : Bool) : Dev :=
  let x1 := { x with timeout := overrun, wtx := 0 }
  if x.tries < d.get R.CD_T1_RETRY i ∧ x.resynchs = 0 then
    (d.setCard i { d.card i with exchange := some { x1 with tries := x.tries + 1 } }).send (.card i [0x82#8])
  else if x.resynchs < 3 then
    (d.setCard i { d.card i with exchange := some { x1 with resynchs := x.resynchs + 1 } }).send (.card i [0xC0#8])
  else
    let absent := !(d.card i).detect
    let st := if absent then Status.cardRemoved else if overrun then .cardTimeout else .cardProtocol
    let d1 := (d.raiseInt .cd i 7).breakExchange i st
    d1.deactivate i (d1.restState i)

/-- The block got through: failures are counted anew. -/
def Dev.blockDone (d : Dev) (i : Nat) (x : CardExchange) : Dev :=
  d.setCard i { d.card i with ns := 1 - (d.card i).ns, exchange := some { x with tries := 0, resynchs := 0, wtx := 0 } }

/-- CARD_T1_BLOCK (R386, R388, R389, R391). -/
def cardT1Block (lc i : Nat) (b : T1Block) (d : Dev) : Dev :=
  match b, (d.card i).pps, (d.card i).exchange with
  | .ppsEcho exact, some p, _ =>
    if exact then
      (((d.setCard i { d.card i with pps := none }).set R.CD_PARAM_TA1 p i).set R.CD_PARAM_PPS_DONE 1 i).cardActive i
    else d.ppsFails i
  | _, some _, _ => d.ppsFails i
  | _, none, none => d
  | .ppsEcho _, none, some x => d.blockFails i x false
  | .bad, none, some x => d.blockFails i x false
  | .again, none, some x => d.blockFails i x false
  | .ack, none, some x => d.blockDone i x
  | .chained, none, some x => (d.blockDone i x).send (.card i [0x80#8])
  | .wtx m, none, some x =>
    if m < 1 ∨ m > 255 then d.blockFails i x false
    else
      (d.setCard i { d.card i with exchange := some { x with tries := 0, wtx := m } }).send
        (.card i [0xE3#8, BitVec.ofNat 8 m])
  | .resynched, none, some x =>
    if x.resynchs = 0 then d.blockFails i x false
    else d.setCard i { d.card i with ns := 0, exchange := some { x with tries := 0, resynchs := 0 } }
  | .response a, none, some x =>
    let r := (d.blockDone i x).cardAnswer lc i x a
    match r.1 with
    | none => r.2
    | some st => if (d.card i).detect then (r.2.cardEnd i x.op x.slot st).backupDone else r.2.absentEnd i x

/-- CARD_WAIT_TIMEOUT: a BWT or CWT overrun (R388). -/
def cardWaitTimeout (i : Nat) (d : Dev) : Dev :=
  match (d.card i).exchange with
  | some x => d.blockFails i x true
  | none => d

/-- WTX_LIMIT: the command's total limit is reached (R389). -/
def wtxLimit (i : Nat) (d : Dev) : Dev :=
  if (d.card i).exchange.isSome then
    let d1 := d.breakExchange i (if (d.card i).detect then .cardTimeout else .cardRemoved)
    d1.deactivate i (d1.restState i)
  else d

/-- CARD_CLOCK_STOP: after the idle time of an active card whose ATR permits it (R390). -/
def cardClockStop (i : Nat) (d : Dev) : Dev :=
  if d.cardState i = 3 ∧ (d.card i).exchange.isNone ∧ d.get R.CD_PARAM_CLOCK_STOP i ≠ 0 then d.set R.CD_STATE_STATE 4 i
  else d

/-! ## VCC, removal and insertion (R383, R397) -/

/-- VCC lies within the tolerance of a class, in mV (R380). -/
def vccOk (cls mv : Nat) : Bool := if cls = 1 then 1710 ≤ mv && mv ≤ 1890 else 2850 ≤ mv && mv ≤ 3150

/-- The overload trip of a class in 0.01 mA (R380). -/
def tripOf (cls : Nat) : Nat := if cls = 1 then 3500 else 6000

/-- CARD_VCC_SAMPLE: the measurement of every 100 µs; an overload deactivates, and so does VCC out of tolerance for more
than 1 ms while active, that is for more than 10 samples in a row (R383). -/
def cardVccSample (i mv current : Nat) (d : Dev) : Dev :=
  let d1 := (d.set R.CD_VCC_MV mv i).set R.CD_VCC_CURRENT current i
  let cls := d.get R.CD_STATE_CLASS_USED i
  if !d1.cardPowered i || (d1.card i).retryClass || (d1.card i).retryPps then d1
  else
    let x := d1.card i
    let bad := if d1.cardState i ≥ 3 ∧ !vccOk cls mv then x.vccBad + 1 else 0
    let d2 := d1.setCard i { x with lowCurrent := x.lowCurrent && current < 20, vccBad := bad }
    let fault (e : Event) : Dev :=
      let d3 := ((d2.breakExchange i .cardVcc).raiseInt .cd i 6).mark e .card i mv current
      d3.deactivate i (d3.restState i)
    if current > tripOf cls then fault .cdVccOver else if bad > 10 then fault .cdVccRange else d2

/-- CARD_REMOVED: a removal edge (R397). In DEACTIVATE mode the interface deactivates at once; in OBSERVE mode it waits for
the end of the exchange in progress. -/
def cardRemoved (i : Nat) (d : Dev) : Dev :=
  if !(d.card i).detect then d
  else
    let st := d.cardState i
    let mode := d.get R.CD_CTL_REMOVE_MODE i
    let d1 := (d.setCard i { d.card i with detect := false }).set R.CD_STATE_PRESENT 0 i
    let d2 := (d1.mark .cdRemoved .card i st mode).raiseInt .cd i 2
    if !d2.cardPowered i then d2.set R.CD_STATE_STATE 0 i
    else if mode = 0 ∧ (d2.card i).exchange.isSome then d2
    else (d2.breakExchange i .cardRemoved).deactivate i 0

/-- CARD_INSERTED: a card is present after the debounce (R397). -/
def cardInserted (i : Nat) (d : Dev) : Dev :=
  if (d.card i).detect then d
  else
    let d1 := (d.setCard i { d.card i with detect := true }).set R.CD_STATE_PRESENT 1 i
    (if d1.cardPowered i then d1 else d1.set R.CD_STATE_STATE 1 i).raiseInt .cd i 2

/-! ## Ceremonies (R400 to R407) -/

/-- The threshold M of a class, 0 where it has none (R400, R409). -/
def Dev.threshold (d : Dev) (cls : Nat) : Nat := Tab.get d.cards.thresholds cls 0

/-- CEREMONY_OPEN (R402): refused while the state is not IDLE, for a class without a threshold, and at E2 and above
(R406). -/
def ceremonyOpen (lvl : Nat) (req : Requester) (v : Nat) (d : Dev) : Dev :=
  let cls := bits v 15 8
  let bay := if bayScoped cls then bits v 23 16 else 0
  if d.get R.CD_CER_STATUS_STATE ≠ 0 then d.err .cd 0 req .cerState
  else if cls < 1 ∨ cls > 10 ∨ d.threshold cls = 0 then d.err .cd 0 req .inputRange
  else if lvl ≥ 2 then d.err .cd 0 req .suspended
  else
    let m := d.threshold cls
    let d1 := ((d.set R.CD_CER_STATUS_STATE 1).set R.CD_CER_STATUS_CLASS cls).set R.CD_CER_STATUS_BAY bay
    ((d1.set R.CD_CER_STATUS_COUNT 0).set R.CD_CER_STATUS_M m).mark .cerOpen .card 0 cls bay m

/-- CEREMONY_CLOSE (R402): it ends a ceremony that gathers or stands. -/
def ceremonyClose (req : Requester) (d : Dev) : Dev :=
  if d.get R.CD_CER_STATUS_STATE = 1 ∨ d.get R.CD_CER_STATUS_STATE = 2 then d.cerEnd 1 else d.err .cd 0 req .cerState

/-- CEREMONY_TIMEOUT (R404). -/
def ceremonyTimeout (d : Dev) : Dev := if d.get R.CD_CER_STATUS_STATE = 1 then d.cerEnd 2 else d

/-- AUTHORIZATION_LAPSE (R404). -/
def authorizationLapse (d : Dev) : Dev := if d.get R.CD_CER_STATUS_STATE = 2 then d.cerEnd 3 else d

/-- A SUSPEND or higher response ends any ceremony; a step in flight ends with ST_SUSPENDED (R406). -/
def Dev.cerTamper (d : Dev) : Dev :=
  if d.get R.CD_CER_STATUS_STATE = 0 then d
  else ((List.range 2).foldl (fun a i => a.breakExchange i .suspended) d).cerEnd 4

/-! ## The meanings -/

/-- CARD_ACTIVATE (R381). -/
def execCardActivate (i : Fin 2) (s : State) : Host.Outcome State Fault Refusal := s.after (cardActivate i)
/-- CARD_DEACTIVATE (R397). -/
def execCardDeactivate (i : Fin 2) (s : State) : Host.Outcome State Fault Refusal := s.after (cardDeactivate i)
/-- CARD_ATR (R385). -/
def execCardAtr (i : Fin 2) (a : Atr) (s : State) : Host.Outcome State Fault Refusal := s.after (cardAtr i a)
/-- ATR_TIMEOUT (R381). -/
def execAtrTimeout (i : Fin 2) (s : State) : Host.Outcome State Fault Refusal := s.after (atrTimeout i)
/-- CLASS_RETRY (R381). -/
def execClassRetry (i : Fin 2) (s : State) : Host.Outcome State Fault Refusal := s.after (classRetry i)
/-- PPS_RETRY (R386). -/
def execPpsRetry (i : Fin 2) (s : State) : Host.Outcome State Fault Refusal := s.after (ppsRetry i)
/-- CARD_T1_BLOCK (R388). -/
def execCardT1Block (i : Fin 2) (b : T1Block) (s : State) : Host.Outcome State Fault Refusal :=
  s.afterWith (fun p d => cardT1Block p.lcState i b d)
/-- CARD_WAIT_TIMEOUT (R388). -/
def execCardWaitTimeout (i : Fin 2) (s : State) : Host.Outcome State Fault Refusal := s.after (cardWaitTimeout i)
/-- WTX_LIMIT (R389). -/
def execWtxLimit (i : Fin 2) (s : State) : Host.Outcome State Fault Refusal := s.after (wtxLimit i)
/-- CARD_CLOCK_STOP (R390). -/
def execCardClockStop (i : Fin 2) (s : State) : Host.Outcome State Fault Refusal := s.after (cardClockStop i)
/-- CARD_VCC_SAMPLE (R383). -/
def execCardVccSample (i : Fin 2) (mv current : BitVec 16) (s : State) : Host.Outcome State Fault Refusal :=
  s.after (cardVccSample i mv.toNat current.toNat)
/-- CARD_REMOVED (R397). -/
def execCardRemoved (i : Fin 2) (s : State) : Host.Outcome State Fault Refusal := s.after (cardRemoved i)
/-- CARD_INSERTED (R397). -/
def execCardInserted (i : Fin 2) (s : State) : Host.Outcome State Fault Refusal := s.after (cardInserted i)
/-- CARD_OPEN_SESSION (R394). -/
def execCardOpenSession (req : Requester) (i : Fin 2) (v : Word) (s : State) : Host.Outcome State Fault Refusal :=
  s.after (cardOpenSession req i v.toNat)
/-- CARD_READ_SLOT (R393). -/
def execCardReadSlot (req : Requester) (i : Fin 2) (v : Word) (s : State) : Host.Outcome State Fault Refusal :=
  s.after (cardReadSlot req i v.toNat)
/-- CARD_VERIFY (R392). -/
def execCardVerify (req : Requester) (i : Fin 2) (v : Word) (s : State) : Host.Outcome State Fault Refusal :=
  s.after (cardVerify req i v.toNat)
/-- CARD_WRITE_SHARE (R396). -/
def execCardWriteShare (req : Requester) (i : Fin 2) (v : Word) (s : State) : Host.Outcome State Fault Refusal :=
  s.after (cardWriteShare req i v.toNat)
/-- CARD_PROTECT_SLOT (R395). -/
def execCardProtectSlot (req : Requester) (i : Fin 2) (v : Word) (s : State) : Host.Outcome State Fault Refusal :=
  s.after (cardProtectSlot req i v.toNat)
/-- CARD_WAKE (R390). -/
def execCardWake (req : Requester) (i : Fin 2) (v : Word) (s : State) : Host.Outcome State Fault Refusal :=
  s.after (cardWake req i v.toNat)
/-- CARD_CLOSE (R391). -/
def execCardClose (req : Requester) (i : Fin 2) (v : Word) (s : State) : Host.Outcome State Fault Refusal :=
  s.after (cardClose req i v.toNat)
/-- CEREMONY_OPEN (R402). -/
def execCeremonyOpen (req : Requester) (v : Word) (s : State) : Host.Outcome State Fault Refusal :=
  s.afterWith (fun p d => ceremonyOpen p.level req v.toNat d)
/-- CEREMONY_CLOSE (R402). -/
def execCeremonyClose (req : Requester) (s : State) : Host.Outcome State Fault Refusal := s.after (ceremonyClose req)
/-- CEREMONY_TIMEOUT (R404). -/
def execCeremonyTimeout (s : State) : Host.Outcome State Fault Refusal := s.after ceremonyTimeout
/-- AUTHORIZATION_LAPSE (R404). -/
def execAuthorizationLapse (s : State) : Host.Outcome State Fault Refusal := s.after authorizationLapse
/-- PPS_ECHO_TIMEOUT (R386). -/
def execPpsEchoTimeout (i : Fin 2) (s : State) : Host.Outcome State Fault Refusal := s.after (ppsEchoTimeout i)
/-- ATR_COMPLETION_TIMEOUT (R385). -/
def execAtrCompletionTimeout (i : Fin 2) (s : State) : Host.Outcome State Fault Refusal :=
  s.after (atrCompletionTimeout i)

end Sys2Proof.Machine
end

