-- ==== Sys2Proof/Machine/Cornerstone.lean ====
section
/-! DEFINITION. The Cornerstone log (ch. 11, R433 to R440) and the Plinth's seconds. -/

namespace Sys2Proof.Machine

/-! ## Records (R433 to R436) -/

/-- An input supplies the management-side domains: main or auxiliary power is present (R412, R504). -/
def Dev.mgmtOn (d : Dev) : Bool := d.power.main || d.power.aux

/-- The 64 bytes of a record's body (R433). -/
def CsBody.bytes (b : CsBody) : Bytes :=
  leBytes 4 b.number ++ leBytes 4 b.seconds ++ leBytes 2 b.tick ++ zeros 2 ++ leBytes 4 b.powerSeq ++ leBytes 1 b.kind ++
    leBytes 1 b.source ++ leBytes 1 b.level ++ leBytes 1 b.flags ++ leBytes 4 b.p0 ++ leBytes 4 b.p1 ++ leBytes 4 b.p2 ++
    leBytes 16 b.mask ++ zeros 16

/-- The records the Cornerstone area holds when it is full (R436). -/
def csAreaSize : Nat := 8388608

/-- CS_STATUS.FULL (R436). -/
def Dev.csFull (d : Dev) : Bool := decide (d.cs.durable.length ≥ csAreaSize)

/-- The flags of a record: on the backup node, on auxiliary power only, before seal (R433). -/
def Dev.csFlags (d : Dev) (p : Perm) : Nat :=
  b2n (!d.mgmtOn) + 2 * b2n (d.power.aux && !d.power.main) + 4 * b2n (decide (p.lcState < 3))

/-- Fold a record into a summary: its source where it is a firing, the kind, the count and the highest level (R435). -/
def CsBody.fold (b : CsBody) (kind source level : Nat) : CsBody :=
  { b with
    mask := if kind = 1 then b.mask ||| 2 ^ source else b.mask
    p0 := min max32 (b.p0 + 1)
    p1 := b.p1 ||| 2 ^ kind
    level := if kind = 1 ∨ kind = 2 then max b.level level else b.level }

/-- Make a Cornerstone record: the Plinth numbers it and buffers it; with 255 entries in use the last one becomes a summary,
which takes in every further record until it is flushed (R434, R435). -/
def Dev.csAdd (d : Dev) (p : Perm) (kind source level : Nat) (p0 p1 p2 : Nat := 0) : Dev :=
  let body : CsBody := ⟨d.cs.next, d.plinth.seconds, d.plinth.tick, d.plinth.powerSeq, kind, source, level, d.csFlags p,
    p0 % 2 ^ 32, p1 % 2 ^ 32, p2 % 2 ^ 32, 0⟩
  let add (b : CsBody) : Dev :=
    { d with cs := { d.cs with buffer := d.cs.buffer ++ [b], next := (d.cs.next + 1) % 2 ^ 32 } }
  match d.cs.buffer.getLast? with
  | some l =>
    if l.kind = 5 then { d with cs := { d.cs with buffer := d.cs.buffer.dropLast ++ [l.fold kind source level] } }
    else if d.cs.buffer.length ≥ 255 then
      let d1 := add (CsBody.fold { body with kind := 5, source := 0xFF, level := 0, p0 := 0, p1 := 0, p2 := 0 }
        kind source level)
      if d.mgmtOn then d1.blockEvent .cs 0 4 else d1
    else add body
  | none => add body

/-- CORNERSTONE_FLUSH: on main power, the oldest buffered record is linked, written to the Vault and freed (R433, R434); a
full area takes no record (R436). -/
def cornerstoneFlush (d : Dev) : Dev :=
  match d.cs.buffer with
  | [] => d
  | b :: rest =>
    if !d.power.main || d.csFull then d
    else
      let link := sha512 (d.cs.head ++ b.bytes)
      let d1 : Dev := { d with cs := { d.cs with buffer := rest, durable := d.cs.durable ++ [(b, link)], head := link } }
      let d2 := if d1.csFull then d1.blockEvent .cs 0 3 else d1
      if rest = [] then d2.blockEvent .cs 0 2 else d2

/-! ## Reading a record (R440) -/

/-- CS_READ: a write of CS_READ_INDEX starts a read; a number at or beyond CS_NEXT ends it with ST_INPUT_RANGE. -/
def csRead (v : Nat) (d : Dev) : Dev :=
  let d1 := ((d.set R.CS_READ_INDEX v).set R.CS_READ_STATUS_VALID 0).set R.CS_READ_STATUS_LINKED 0
  let d2 : Dev := { d1 with cs := { d1.cs with data := [] } }
  if v ≥ d.cs.next then
    (({ d2 with cs := { d2.cs with reading := none } }).set R.CS_READ_STATUS_BUSY 0).set R.CS_READ_STATUS_STATUS
      Status.inputRange.code
  else (({ d2 with cs := { d2.cs with reading := some v } }).set R.CS_READ_STATUS_BUSY 1).set R.CS_READ_STATUS_STATUS 0

/-- CS_READ_DONE: the record is ready, from the Vault with its link or from the Plinth buffer without one; a lost record
gives ST_RECORD_LOST. -/
def csReadDone (d : Dev) : Dev :=
  match d.cs.reading with
  | none => d
  | some n =>
    let d1 := ({ d with cs := { d.cs with reading := none } }).set R.CS_READ_STATUS_BUSY 0
    match d.cs.durable.find? (fun r => r.1.number == n) with
    | some r =>
      (({ d1 with cs := { d1.cs with data := r.1.bytes ++ r.2 } }).set R.CS_READ_STATUS_VALID 1).set
        R.CS_READ_STATUS_LINKED 1
    | none =>
      match d.cs.buffer.find? (fun b => b.number == n) with
      | some b => ({ d1 with cs := { d1.cs with data := b.bytes ++ zeros 64 } }).set R.CS_READ_STATUS_VALID 1
      | none => d1.set R.CS_READ_STATUS_STATUS Status.recordLost.code

/-- PLINTH_SECOND: from SEALED on the seconds count rises by 1 (R573). -/
def plinthSecond (d : Dev) : Dev :=
  if d.plinth.running then
    { d with plinth := { d.plinth with seconds := (d.plinth.seconds + 1) % 2 ^ 32, tick := 0 } }
  else { d with plinth := { d.plinth with tick := 0 } }

/-! ## The meanings -/

/-- CORNERSTONE_FLUSH (R434). -/
def execCornerstoneFlush (s : State) : Host.Outcome State Fault Refusal := s.after cornerstoneFlush
/-- CS_READ (R440). -/
def execCsRead (v : Word) (s : State) : Host.Outcome State Fault Refusal := s.after (csRead v.toNat)
/-- CS_READ_DONE (R440). -/
def execCsReadDone (s : State) : Host.Outcome State Fault Refusal := s.after csReadDone
/-- PLINTH_SECOND (R573). -/
def execPlinthSecond (s : State) : Host.Outcome State Fault Refusal := s.after plinthSecond

end Sys2Proof.Machine
end

