-- ==== Sys2Proof/Machine/Admit.lean ====
section
/-! DEFINITION. Admission (ch. 02, R51 to R57; ch. 09, R351, R361, R366 to R368): what a face does with a request of a
session and with a descriptor of a ring. -/

namespace Sys2Proof.Machine

/-! ## The checks before admission (R51, R52, R72, R326, R339, R420, R441, R442) -/

/-- The functions a life-cycle state admits at the faces (R441). -/
def lcAdmits (lc func : Nat) : Bool :=
  lc == 4 || (lc == 3 && [0x0230, 0x0231, 0x0232, 0x0301, 0x0302, 0x0303].contains func)

/-- A bay admits requests: it is enabled and not quiescing (R339). -/
def Dev.bayOpen (d : Dev) (bay : Nat) : Bool := d.on (R.CTRL_ENABLE .by) bay && !d.on (R.CTRL_QUIESCE .by) bay

/-- Why a face refuses a request of a bay, the room of its queue apart: the form first, then the life-cycle state, the bay
and the tamper level. -/
def Dev.admitFault (d : Dev) (lc lvl bay func deadline : Nat) (tlvs : Option (List Tlv)) : Option Status :=
  if (formOf func).isNone then some .functionUnknown
  else
    match tlvs with
    | none => some .tlvMalformed
    | some l =>
      match formFault func l with
      | some st => some st
      | none =>
        if deadline > 1000000 then some .deadlineRange
        else if !lcAdmits lc func then some .lcState
        else if !d.bayOpen bay then some .bayDisabled
        else if lvl ≥ 2 then some .suspended
        else none

/-- The entries of a bay's queue in use: an entry is held until it is retired, so a request in a context holds one (R57). -/
def Dev.entriesUsed (d : Dev) (bay : Nat) : List Nat :=
  (d.queue bay).map (·.entry) ++ d.sched.ctxs.filterMap (fun e => match e.2.req with
    | some r => if r.bay = bay then some r.entry else none
    | none => none)

/-- A bay's queue has room under the depth in effect (R55, R311). -/
def Dev.queueRoom (d : Dev) (bay : Nat) : Bool := decide ((d.entriesUsed bay).length < d.eff R.BY_QUEUE bay)

/-- The lowest entry that no live request holds. -/
def Dev.freeEntry (d : Dev) (bay : Nat) : Nat :=
  let used := d.entriesUsed bay
  ((List.range (used.length + 1)).find? (fun e => !used.contains e)).getD 0

/-- Refuse a request of a bay at a face: it is counted, and answered (R54, R339). -/
def Dev.refuse (d : Dev) (via : Via) (bay reqId : Nat) (host : Bool) (st : Status) : Dev :=
  ((d.countBay bay 5).occur 0x011 (some bay) (b2n host)).deliver via reqId st []

/-- Admit a request: it is stamped with the time and the bay's generation number, and joins its bay's queue (R51, R53,
R57, R72). -/
def Dev.enqueue (d : Dev) (via : Via) (bay reqId func deadline : Nat) (tlvs : List Tlv) (host : Bool) : Dev :=
  let us := if deadline = 0 then d.get R.BY_DEADLINE bay else deadline
  let e := d.freeEntry bay
  let r : Request := ⟨via, reqId, bay, d.get R.BY_GEN_GEN bay, func, tlvs, d.sched.time + 64 * us, e, d.entryGen bay e⟩
  ((d.setQueue bay (d.queue bay ++ [r])).countBay bay 4).occur 0x010 (some bay) (b2n host)

/-- A request whose identifier names a bay: refused, or admitted (R52 to R56). -/
def Dev.admitRequest (d : Dev) (lc lvl : Nat) (via : Via) (bay reqId func deadline : Nat) (tlvs : Option (List Tlv))
    (host : Bool) : Dev :=
  match d.admitFault lc lvl bay func deadline tlvs, tlvs with
  | some st, _ => d.refuse via bay reqId host st
  | none, some l =>
    if d.queueRoom bay then d.enqueue via bay reqId func deadline l host
    else (d.raiseInt .by bay 3).refuse via bay reqId host .queueFull
  | none, none => d.refuse via bay reqId host .tlvMalformed

/-! ## Requests of sessions (R351, R361) -/

/-- A whole REQUEST of a session: the identifiers first, then admission (R361). The manager has no bay to queue a function
request in. -/
def Dev.sessionRequest (d : Dev) (lc lvl : Nat) (h : FrameHdr) (s : Session) (pid : Nat) (f : ReqFrag) (tlvs : Bytes) :
    Dev :=
  let via : Via := .session h.session h.src
  if pid ≠ s.pid then d.deliver via f.reqId .pidMismatch []
  else if d.bound s.pid ≠ some s.target then d.deliver via f.reqId .pidUnbound []
  else if s.target ≥ 256 then d.deliver via f.reqId .policyDenied []
  else if tlvs.length ≠ f.tlvLen ∨ f.tlvLen > 61440 then d.refuse via s.target f.reqId false .frameLength
  else d.admitRequest lc lvl via s.target f.reqId f.func f.deadline (parseTlvs (tlvs.length + 1) tlvs) false

/-- Refuse a REQUEST whose fragments break R351. -/
def Dev.refuseFragments (d : Dev) (h : FrameHdr) (s : Session) (reqId : Nat) (st : Status) : Dev :=
  if s.target < 256 then d.refuse (.session h.session h.src) s.target reqId false st
  else d.deliver (.session h.session h.src) reqId st []

/-- The partial requests of a session. -/
def Dev.partials (d : Dev) (session : Nat) : List Partial := Tab.get d.face.partials session []

/-- Write the partial requests of a session. -/
def Dev.setPartials (d : Dev) (session : Nat) (l : List Partial) : Dev :=
  { d with face := { d.face with partials := Tab.set d.face.partials session [] l } }

/-- A fragment is well formed on its own (R351). -/
def ReqFrag.ok (f : ReqFrag) : Bool :=
  1 ≤ f.fragCount && f.fragCount ≤ 8 && f.frag < f.fragCount && f.data.length ≤ 8944 && f.tlvLen ≤ 61440

/-- A fragment agrees with the fragments received so far, and is not repeated (R351). -/
def Partial.takes (p : Partial) (f : ReqFrag) : Bool :=
  p.func == f.func && p.fragCount == f.fragCount && p.deadline == f.deadline && p.tlvLen == f.tlvLen &&
    (Tab.look p.frags f.frag).isNone

/-- The data of a request's fragments, in fragment order. -/
def Partial.data (p : Partial) : Bytes := p.frags.flatMap (·.2)

/-- REQUEST_FRAGMENT of an accepted frame (R351): a request of one fragment is whole; a fragment of several is kept until
all are there; one that breaks the rules ends its request with ST_FRAME_LENGTH. -/
def requestFragment (lc lvl : Nat) (h : FrameHdr) (f : ReqFrag) (d : Dev) : Dev :=
  match Tab.look d.face.sessions h.session with
  | none => d
  | some s =>
    let l := d.partials h.session
    let rest := l.filter (fun p => p.reqId ≠ f.reqId)
    match l.find? (fun p => p.reqId == f.reqId) with
    | some p =>
      if p.ended then d
      else if f.ok && p.takes f then
        let pid := if h.pid ≠ s.pid then h.pid else p.pid
        let p1 := { p with frags := Tab.put p.frags f.frag f.data, pid := pid }
        if p1.frags.length = p.fragCount then (d.setPartials h.session rest).sessionRequest lc lvl h s pid f p1.data
        else d.setPartials h.session (rest ++ [p1])
      else
        (d.setPartials h.session (rest ++ [{ p with frags := [], ended := true }])).refuseFragments h s f.reqId .frameLength
    | none =>
      if !f.ok then d.refuseFragments h s f.reqId .frameLength
      else if f.fragCount = 1 then d.sessionRequest lc lvl h s h.pid f f.data
      else if (l.filter (fun p => !p.ended)).length ≥ 64 then d.bumpSat R.NF_PORT_DROP (h.src.port / 2)
      else
        d.setPartials h.session (l ++ [⟨f.reqId, f.func, f.fragCount, f.deadline, f.tlvLen, h.pid, [(f.frag, f.data)], false⟩])

/-- REQUEST_REASSEMBLY_TIMEOUT: 10 ms after the first fragment the request is refused with ST_REASSEMBLY, unless it has
had its response (R351). -/
def reassemblyTimeout (h : FrameHdr) (reqId : Nat) (d : Dev) : Dev :=
  match Tab.look d.face.sessions h.session, (d.partials h.session).find? (fun p => p.reqId == reqId) with
  | some s, some p =>
    let d1 := d.setPartials h.session ((d.partials h.session).filter (fun q => q.reqId ≠ reqId))
    if p.ended then d1 else d1.refuseFragments h s reqId .reassembly
  | _, _ => d

/-! ## Descriptors of ring pairs (R235, R366 to R371) -/

/-- The completion entries of a ring that the host has not consumed (R366, R368). -/
def Dev.ringOccupied (d : Dev) (owner ring : Nat) : Nat :=
  let size := 2 ^ d.get R.HQ_CFG_LOG2_SIZE owner ring
  (d.get R.HQ_STATUS_CPL_TAIL owner ring + size - (d.hostRing owner ring).cplHead) % size

/-- The face may fetch a descriptor of a ring: the link is up, the ring runs and is not halted, its head differs from its
tail, the completion ring has an entry for every descriptor in flight, and the queue of a function ring has room (R368,
R377). -/
def Dev.mayFetch (d : Dev) (owner ring : Nat) : Bool :=
  let h := d.hostRing owner ring
  let size := 2 ^ d.get R.HQ_CFG_LOG2_SIZE owner ring
  d.on R.HF_LINK_UP && d.on R.HQ_CFG_EN owner ring && !d.on R.HQ_STATUS_HALTED owner ring &&
    decide (d.get R.HQ_HEAD owner ring ≠ h.tail) &&
    decide (d.ringOccupied owner ring + h.inflight + 1 < size) &&
    (d.get R.HQ_CFG_KIND owner ring == 1 || owner == 256 || d.queueRoom owner)

/-- Some IDE stream is secure (R370, R371). -/
def Dev.secureStream (d : Dev) : Bool := (List.range 4).any (fun s => d.get R.HF_IDE_STATUS 0 s == 2)

/-- Halt a ring (R367, R371). -/
def Dev.haltRing (d : Dev) (owner ring : Nat) : Dev := (d.set R.HQ_STATUS_HALTED 1 owner ring).raiseHalted owner

/-- Record ST_RING_PASID in the ring's page: page 0x1 of the bay's window, or the HF page (R367, R376). -/
def Dev.ringPasidError (d : Dev) (owner : Nat) : Dev :=
  if owner < 256 then d.err .hq owner (Requester.ofBay owner) .ringPasid
  else d.err .hf 0 ⟨.supervisor, 0, .host⟩ .ringPasid

/-- Take a descriptor from a ring: the head moves on, and its completion is outstanding (R366, R377). -/
def Dev.fetched (d : Dev) (owner ring : Nat) : Dev :=
  let size := 2 ^ d.get R.HQ_CFG_LOG2_SIZE owner ring
  let h := d.hostRing owner ring
  ((d.set R.HQ_HEAD ((d.get R.HQ_HEAD owner ring + 1) % size) owner ring).setHostRing owner ring
    { h with inflight := h.inflight + 1 }).occur 0x080 (if owner < 256 then some owner else none)

/-- A bulk record of a ring or a stream, as its face hands it to the checks of R236. -/
def bulkRecord (via : Via) (stream number bay gen : Nat) (x : BulkDesc) (aad pay tag : Bytes) : BulkRec :=
  ⟨via, stream, number, bay, gen, x, aad, pay, tag, [], [], false⟩

/-- A bulk record reaches its checks: the life-cycle state, the bay and the tamper level as for a request, then R236. -/
def Dev.bulkOffer (d : Dev) (lc lvl : Nat) (r : BulkRec) : Dev :=
  if lc ≠ 4 then d.bulkComplete r .lcState []
  else if r.bay < 256 ∧ !d.bayOpen r.bay then d.bulkComplete r .bayDisabled []
  else if lvl ≥ 2 then d.bulkComplete r .suspended []
  else d.bulkArrive r

/-- DESCRIPTOR_FETCH: under the ring's conditions the PASID is looked up first (R367): the ring halts, or the descriptor
is fetched and refused, admitted, or handed on as a bulk record. -/
def descriptorFetch (lc lvl owner ring : Nat) (x : HostDesc) (d : Dev) : Dev :=
  let isBulk := match x with | .bulk .. => true | .func .. => false
  if !d.mayFetch owner ring || isBulk != d.on R.HQ_CFG_KIND owner ring then d
  else if d.on R.HF_IDE_CTL && !d.secureStream then d.haltRing owner ring
  else
    let target := d.bound (d.get R.HQ_PASID owner ring)
    if target.isSome ∧ target ≠ some owner then (d.haltRing owner ring).ringPasidError owner
    else
      let d1 := d.fetched owner ring
      let epoch := (d.hostRing owner ring).epoch
      match x with
      | .func reqId func deadline tlvLen outAddr outLen reservedZero tlvs =>
        let via : Via := .ring owner ring epoch outAddr outLen
        if target.isNone then d1.deliver via reqId .pidUnbound []
        else if owner ≥ 256 then d1.deliver via reqId .policyDenied []
        else if !reservedZero ∨ tlvLen > 61440 ∨ tlvLen ≠ tlvs.length then d1.refuse via owner reqId true .frameLength
        else d1.admitRequest lc lvl via owner reqId func deadline (parseTlvs (tlvs.length + 1) tlvs) true
      | .bulk y aad pay tag =>
        let via : Via := .ring owner ring epoch y.outAddr 0
        let gen := if owner < 256 then d.get R.BY_GEN_GEN owner else 0
        let r := bulkRecord via ring 0 owner gen y aad pay tag
        if target.isNone then d1.bulkComplete r .pidUnbound []
        else d1.bulkOffer lc lvl r

/-! ## The meanings -/

/-- REQUEST_FRAGMENT (R351). -/
def execRequestFragment (h : FrameHdr) (f : ReqFrag) (s : State) : Host.Outcome State Fault Refusal :=
  s.afterWith (fun p d => requestFragment p.lcState (d.workLevel p.level) h f d)
/-- REQUEST_REASSEMBLY_TIMEOUT (R351). -/
def execRequestReassemblyTimeout (h : FrameHdr) (reqId : Nat) (s : State) : Host.Outcome State Fault Refusal :=
  s.after (reassemblyTimeout h reqId)
/-- DESCRIPTOR_FETCH (R367). -/
def execDescriptorFetch (owner : Fin 257) (ring : Fin 4) (x : HostDesc) (s : State) : Host.Outcome State Fault Refusal :=
  s.afterWith (fun p d => descriptorFetch p.lcState (d.workLevel p.level) owner ring x d)

end Sys2Proof.Machine
end

