-- ==== Sys2Proof/Machine/Network.lean ====
section
/-! DEFINITION. The network face (ch. 09): ports and their links, the filter of received frames, the session handshake and
the life of a session, bulk streams and event frames. -/

namespace Sys2Proof.Machine

/-! ## Ports (R344 to R346, R374) -/

/-- The mode NF_LANE_MODE gives a group in a value written (R344). -/
def laneMode (v g : Nat) : Nat := v / 4 ^ g % 4

/-- The ports of a group in a mode, bit 0 port A and bit 1 port B (R344). -/
def modePorts (g mode : Nat) : Nat :=
  if mode = 1 then 3 else if mode = 2 then 1 else if mode = 3 ∧ g % 2 = 0 then 1 else 0

/-- A change of a group's mode: its links go down and negotiation starts (R345). -/
def Dev.setLaneMode (d : Dev) (g mode : Nat) : Dev :=
  if d.get R.NF_LANE_MODE 0 g = mode then d
  else
    let up := d.get R.NF_PORT_STATUS_LINK_UP g
    let d1 := (d.set R.NF_LANE_MODE mode 0 g).set R.NF_PORT_STATUS_MODE mode g
    let d2 := (d1.set R.NF_PORT_STATUS_LINK_UP 0 g).set R.NF_PORT_STATUS_FEC_LOCK 0 g
    let d3 := d2.set R.NF_PORT_STATUS_TRAINING (modePorts g mode) g
    if up = 0 then d3 else d3.raiseInt .nfp g 2

/-- LANE_MODE_WRITE: a mode of 3 that not both groups of a pair hold is refused with ST_INPUT_RANGE (R344). -/
def laneModeWrite (req : Requester) (v : Nat) (d : Dev) : Dev :=
  if (List.range 4).any (fun p => (laneMode v (2 * p) == 3) != (laneMode v (2 * p + 1) == 3)) then d.err .nfc 0 req .inputRange
  else (List.range 8).foldl (fun a g => a.setLaneMode g (laneMode v g)) d

/-- The first lane of a port within its group: in mode 1 port B has the upper two (R344). -/
def portLane (port : Nat) : Nat := 4 * (port / 2) + 2 * (port % 2)

/-- LINK_TRAINING_DONE: a port that trains is up; the losses of its lanes, the cable estimate and the partner's base page
are held until the next training (R346). -/
def linkTrainingDone (port : Nat) (losses : List Byte) (cable partner : Nat) (d : Dev) : Dev :=
  let g := port / 2
  let bit := 2 ^ (port % 2)
  if d.get R.NF_PORT_STATUS_TRAINING g / bit % 2 = 0 then d
  else
    let d1 := (List.range losses.length).foldl (fun a i =>
      let lane := portLane port + i
      a.set R.NF_PORT_LOSS (losses.getD i 0#8).toNat (lane / 4 % 8) (lane % 4)) d
    let d2 := if port % 2 = 0 then
        ((d1.set R.NF_PORT_CABLE_LEN_A cable g).set R.NF_PORT_PARTNER_A_LO (partner % 2 ^ 32) g).set R.NF_PORT_PARTNER_A_HI
          (partner / 2 ^ 32 % 2 ^ 16) g
      else
        ((d1.set R.NF_PORT_CABLE_LEN_B cable g).set R.NF_PORT_PARTNER_B_LO (partner % 2 ^ 32) g).set R.NF_PORT_PARTNER_B_HI
          (partner / 2 ^ 32 % 2 ^ 16) g
    let d3 := d2.set R.NF_PORT_STATUS_TRAINING (d2.get R.NF_PORT_STATUS_TRAINING g - bit) g
    let d4 := (d3.set R.NF_PORT_STATUS_LINK_UP (d3.get R.NF_PORT_STATUS_LINK_UP g ||| bit) g).set R.NF_PORT_STATUS_FEC_LOCK
      (d3.get R.NF_PORT_STATUS_FEC_LOCK g ||| bit) g
    (d4.raiseInt .nfp g 2).raiseInt .nfp g 3

/-- LINK_DOWN: a link that was up goes down, and negotiation starts again (R345, R374). -/
def linkDown (port : Nat) (d : Dev) : Dev :=
  let g := port / 2
  let bit := 2 ^ (port % 2)
  if d.get R.NF_PORT_STATUS_LINK_UP g / bit % 2 = 0 then d
  else
    let d1 := d.set R.NF_PORT_STATUS_LINK_UP (d.get R.NF_PORT_STATUS_LINK_UP g - bit) g
    let d2 := if d1.get R.NF_PORT_STATUS_FEC_LOCK g / bit % 2 = 1 then
        d1.set R.NF_PORT_STATUS_FEC_LOCK (d1.get R.NF_PORT_STATUS_FEC_LOCK g - bit) g
      else d1
    (d2.set R.NF_PORT_STATUS_TRAINING (d2.get R.NF_PORT_STATUS_TRAINING g ||| bit) g).raiseInt .nfp g 2

/-! ## The filter of received frames (R345, R347 to R350, R360, R361) -/

/-- A frame dropped under R347 or R349, counted on its port (R374); an authenticated or formed frame that is dropped is a
counted event too (R547). -/
def Dev.dropFrame (d : Dev) (port : Nat) (f : Fld) : Dev := (d.bumpSat f (port / 2)).occur 0x071 none (port / 2)

/-- The IPv6 address of a port, word 0 the most significant (R375). -/
def Dev.portIpv6 (d : Dev) (port : Nat) : Nat :=
  ((d.get R.NF_ADDR_IPV6_0 0 port * 2 ^ 32 + d.get R.NF_ADDR_IPV6_1 0 port) * 2 ^ 32 + d.get R.NF_ADDR_IPV6_2 0 port) *
    2 ^ 32 + d.get R.NF_ADDR_IPV6_3 0 port

/-- An address is a port's own, enabled, IPv4 or IPv6 (R347, R375). -/
def Dev.ownAddress (d : Dev) (port : Nat) (v6 : Bool) (ip : Nat) : Bool :=
  if v6 then d.get R.NF_ADDR_CTL 0 port / 2 % 2 == 1 && ip == d.portIpv6 port
  else d.get R.NF_ADDR_CTL 0 port % 2 == 1 && ip == d.get R.NF_ADDR_IPV4 0 port

/-- The frame's tags suit the port: none, unless the port requires its VLAN, or one that is the port's (R347, R374). -/
def Dev.vlanOk (d : Dev) (port : Nat) (tags : List Nat) : Bool :=
  let g := port / 2
  let vid := if port % 2 = 0 then d.get R.NF_PORT_VLAN_VID_A g else d.get R.NF_PORT_VLAN_VID_B g
  let need := if port % 2 = 0 then d.on R.NF_PORT_VLAN_EN_A g else d.on R.NF_PORT_VLAN_EN_B g
  match tags with
  | [] => !need
  | [t] => t == vid
  | _ => false

/-- A UDP datagram is accepted: the port's address, the Slofavar UDP port, no fragment, its checksum (R347). -/
def Dev.udpOk (d : Dev) (port : Nat) (x : Datagram) : Bool :=
  d.ownAddress port x.v6 x.dstIp && x.dstPort == d.get R.NF_UDP && !x.fragment &&
    (match x.checksum with | .good => true | .zero => !x.v6 | .bad => false)

/-- The types a client may send (R349). -/
def clientTypes : List Nat := [0x01, 0x03, 0x10, 0x11, 0x13, 0x14, 0x20, 0x22, 0x23, 0x30]

/-- The form of a Slofavar header (R349). -/
def Datagram.formOk (x : Datagram) : Bool :=
  24 ≤ x.len && x.len ≤ 9000 && x.version == 1 && x.length == x.len && clientTypes.contains x.type

/-- The replay window takes a sequence number (R360). -/
def Session.windowTakes (s : Session) (seq : Nat) : Bool :=
  seq > s.high || (seq + 1023 ≥ s.high && !s.seen.contains seq)

/-- The window after an accepted number: H is the highest, and only its last 1,024 values are kept (R360). -/
def Session.accept (s : Session) (seq : Nat) (src : Client) : Session :=
  let h := max s.high seq
  { s with high := h, seen := (seq :: s.seen).filter (fun x => x + 1023 ≥ h), src := src }

/-- A protected frame of a session: it must authenticate, and then pass the window (R360, R361). FINISH_C is checked by
its handshake (R357). -/
def Dev.sessionFrame (d : Dev) (src : Client) (x : Datagram) : Dev :=
  match Tab.look d.face.sessions x.session with
  | none => d.dropFrame src.port R.NF_PORT_AUTH_FAIL
  | some s =>
    if !x.auth then d.dropFrame src.port R.NF_PORT_AUTH_FAIL
    else if s.windowTakes x.seq then
      ({ d with face := { d.face with sessions := Tab.put d.face.sessions x.session (s.accept x.seq src) } }).occur 0x070
        none (src.port / 2)
    else d.dropFrame src.port R.NF_PORT_REPLAY

/-- ETHERNET_FRAME: the frame is counted and filtered; an address resolution is answered, PAUSE is ignored, a datagram
goes on to the session checks (R345, R347, R349, R360). The codewords corrected and not correctable while it was received
are counted (R374). -/
def ethernetFrame (x : EtherFrame) (corrected uncorrectable : Nat) (d : Dev) : Dev :=
  let port := x.src.port
  if port ≥ 16 ∨ d.get R.NF_PORT_STATUS_LINK_UP (port / 2) / 2 ^ (port % 2) % 2 = 0 then d
  else
    let g := port / 2
    let d1 := (d.bumpSat R.NF_PORT_RX g).bumpSat R.NF_PORT_FEC_CORR g 0 corrected
    let d2 := if uncorrectable = 0 then d1 else (d1.bumpSat R.NF_PORT_FEC_UNCORR g 0 uncorrectable).raiseInt .nfp g 4
    let answer (ip : Nat) : Dev :=
      (d2.countTx x.src).send (.neighbourAnswer x.src ip (Config.portMac port).toNat)
    if !d2.vlanOk port x.vlans then d2.dropFrame port R.NF_PORT_DROP
    else
      match x.body with
      | .pause => d2
      | .other => d2.dropFrame port R.NF_PORT_DROP
      | .arp ip => if d2.ownAddress port false ip then answer ip else d2.dropFrame port R.NF_PORT_DROP
      | .neighbour ip => if d2.ownAddress port true ip then answer ip else d2.dropFrame port R.NF_PORT_DROP
      | .udp u =>
        if !d2.udpOk port u || !u.formOk then d2.dropFrame port R.NF_PORT_DROP
        else if u.type = 0x01 ∨ u.type = 0x03 then d2
        else d2.sessionFrame x.src u

/-! ## The handshake (R354 to R359) -/

/-- The header of a Slofavar frame (R349). -/
def frameHeader (type length session pid flags : Nat) : Bytes :=
  beBytes 1 1 ++ beBytes 1 type ++ beBytes 2 length ++ beBytes 4 session ++ beBytes 8 0 ++ beBytes 3 (pid % 2 ^ 20) ++
    beBytes 1 flags ++ beBytes 4 0

/-- The HELLO_C frame of a client, as its transcript holds it (R349, R354). -/
def Hello.frame (x : Hello) : Bytes :=
  frameHeader 0x01 1337 0 x.pid (b2n x.events + 2 * b2n x.idePsk) ++ x.nonce ++ x.point ++ x.kemKey

/-- A supervisor job of a handshake (R358). -/
def handshakeJob (session clocks : Nat) : Job where
  supervisor := true
  bay := 0
  gen := 0
  tag := session
  ctx := 0
  req := none
  func := 0
  dest := .none
  out := []
  status := .ok
  clocks := clocks
  cost := clocks
  blocks := 0
  finish := .handshake session
  handle := 0
  invalid := false
  abort := false

/-- Send an ALERT (R354). -/
def Dev.alert (d : Dev) (src : Client) (session : Nat) (st : Status) : Dev :=
  (d.countTx src).send (.alert src session st)

/-- The first session ID from a drawn value on that is not 0 and not in use (R354). -/
def Dev.freeSessionId (d : Dev) (v : Nat) : Nat :=
  let used (i : Nat) : Bool := i = 0 || (Tab.look d.face.sessions i).isSome || (Tab.look d.face.handshakes i).isSome
  let n := d.face.sessions.length + d.face.handshakes.length + 2
  (((List.range n).map (fun i => (v + i) % 2 ^ 32)).find? (fun i => !used i)).getD v

/-- HELLO_C: a handshake starts with its two supervisor jobs before HELLO_S, unless 4,096 are in progress (R354, R358). A
frame whose parts have not the lengths of R354 is dropped. -/
def helloC (lvl : Nat) (x : Hello) (d : Dev) : Dev :=
  if x.nonce.length ≠ 32 ∨ x.point.length ≠ 97 ∨ x.kemKey.length ≠ 1184 then d.dropFrame x.src.port R.NF_PORT_DROP
  else if lvl ≥ 2 then d.alert x.src 0 .suspended
  else if d.face.handshakes.length ≥ 4096 then (d.bumpSat R.NF_HS_DROPPED).blockEvent .nfc 0 4
  else
    match d.drbgDraw internalDrbg 4 with
    | none => d.alert x.src 0 .entropyFail
    | some (v, d1) =>
      let id := d1.freeSessionId (beNat v)
      let h : Handshake := ⟨.jobs, x.src, x.pid, x.events, x.idePsk, x.nonce, [], x.point, x.kemKey, x.frame, [], .ok⟩
      let d2 : Dev := { d1 with face := { d1.face with handshakes := Tab.put d1.face.handshakes id h } }
      (d2.vsSend (handshakeJob id 72000)).vsSend (handshakeJob id 60000)

/-- Erase a handshake (R354). -/
def Dev.endHandshake (d : Dev) (id : Nat) : Dev :=
  { d with face := { d.face with handshakes := Tab.del d.face.handshakes id } }

/-- End a handshake with ALERT and a status (R354, R357). -/
def Dev.failHandshake (d : Dev) (id : Nat) (src : Client) (st : Status) : Dev := (d.endHandshake id).alert src id st

/-- A job of a handshake waits for an engine or runs in one. -/
def Dev.handshakeBusy (d : Dev) (id : Nat) : Bool :=
  let mine (j : Job) : Bool := decide (j.finish = .handshake id)
  d.eng.vsWait.any mine || d.eng.engines.any (fun e => match e.2.curJob with | some j => mine j | none => false)

/-- The session keys of R355: 576 bits, or 832 with the SPDM pre-shared key. -/
def sessionOkm (zEc zKem nonceC nonceM helloC helloS : Bytes) (psk : Bool) : Bytes :=
  let salt := (sha512 (nonceC ++ nonceM)).take 32
  let prk := cmac .aes salt (zEc ++ zKem)
  let label : Bytes := [0x53, 0x4C, 0x4F, 0x46, 0x41, 0x56, 0x41, 0x52, 0x20, 0x53, 0x45, 0x53, 0x53, 0x49, 0x4F, 0x4E]
  kdf prk label (sha512 (helloC ++ helloS)) (if psk then 832 else 576)

/-- The module's part of a handshake once its jobs have ended: the ephemeral key, the two secrets, the identity signature
and HELLO_S (R186, R354, R355). -/
def Dev.sendHelloS (d : Dev) (id : Nat) (h : Handshake) (root rnd : Bytes) : Dev :=
  let key := beBytes 48 (beNat (rnd.take 56) % (p384.n - 1) + 1)
  let nonceM := (rnd.drop 56).take 32
  let ec := pkEcdh 2 key [h.pointC]
  let kem := pkKemEncaps [[0x21#8], h.kemKeyC] ((rnd.drop 88).take 32)
  if ec.status ≠ .ok then d.failHandshake id h.src ec.status
  else if kem.status ≠ .ok then d.failHandshake id h.src kem.status
  else
    let point := p384.encode (p384.times (beNat key) p384.base)
    let cipher := kem.out.getD 0 []
    let cert := match d.keys.certificate with | some c => c.1 | none => []
    let part := frameHeader 0x02 (24 + 32 + 97 + 1088 + cert.length + 132) id h.pid 0 ++ nonceM ++ point ++ cipher ++ cert
    let dk := beNat (nodeValue root 0x100 0x10 640) % (p521.n - 1) + 1
    let k := beNat ((rnd.drop 120).take 74) % (p521.n - 1) + 1
    let sig := p521.sign dk k (sha512 (h.helloC ++ part))
    let psk := h.idePsk && d.bound h.pid == some managerTarget
    let okm := sessionOkm ec.secret kem.secret h.nonceC nonceM h.helloC (part ++ sig) psk
    let h1 := { h with stage := .helloSent, nonceM := nonceM, okm := okm }
    let d1 : Dev := { d with face := { d.face with handshakes := Tab.put d.face.handshakes id h1 } }
    (d1.countTx h.src).send (.helloS h.src id nonceM point cipher cert sig)

/-- HELLO_S: the jobs of a handshake have ended (R354, R358); a job that failed, a tamper response, an absent root or a
failed noise source ends the handshake with ALERT. -/
def helloS (lvl id : Nat) (d : Dev) : Dev :=
  match Tab.look d.face.handshakes id with
  | none => d
  | some h =>
    if h.stage ≠ .jobs ∨ d.handshakeBusy id then d
    else if lvl ≥ 2 then d.failHandshake id h.src .suspended
    else if h.failed ≠ .ok then d.failHandshake id h.src h.failed
    else
      match d.keys.root, d.drbgDraw internalDrbg 194 with
      | none, _ => d.failHandshake id h.src .rootAbsent
      | some _, none => d.failHandshake id h.src .entropyFail
      | some root, some (rnd, d1) => d1.sendHelloS id h root rnd

/-- A word of an anchor (R375). -/
def Dev.anchorWord (d : Dev) (anchor word : Nat) : Nat := d.get R.NF_ANCHOR_DATA 0 (64 * anchor + word)

/-- The valid anchor with a key identifier (R357 check 4). -/
def Dev.anchorOf (d : Dev) (keyId : Bytes) : Option Nat :=
  (List.range 16).find? (fun a =>
    let w0 := d.anchorWord a 0
    w0 % 2 == 1 && (bits w0 9 8 == 1 || bits w0 9 8 == 2) &&
      ([3, 4, 5, 6, 7].flatMap (fun i => beBytes 4 (d.anchorWord a i))) == keyId)

/-- Checks 2 to 8 of FINISH_C (R357). -/
def Dev.finishFault (d : Dev) (h : Handshake) (c : ClientCert) : Option Status :=
  let utc := d.get R.NF_UTC
  if !c.form then some .certInvalid
  else if utc ≠ 0 ∧ (utc < c.notBefore ∨ utc > c.notAfter) then some .certInvalid
  else
    match d.anchorOf c.authorityKey with
    | none => some .anchorUnknown
    | some a =>
      if !c.certSigned || !c.transcriptSigned then some .sessionAuth
      else if h.pid < d.anchorWord a 1 ∨ h.pid > d.anchorWord a 2 then some .pidNotPermitted
      else if (d.bound h.pid).isNone then some .pidUnbound
      else if d.face.sessions.length ≥ 65536 then some .sessionLimit
      else none

/-- Open the session of a handshake and send FINISH_S (R354, R360). The pre-shared key of a manager session with IDE_PSK
set is the host face's from now on (R370). -/
def Dev.openSession (d : Dev) (id : Nat) (src : Client) (h : Handshake) (target : Nat) : Dev :=
  let s : Session := ⟨h.pid, target, h.events, h.idePsk, 1, [1], src, 1, [], false, h.okm.take 72⟩
  let psk := if h.idePsk && target == managerTarget && h.okm.length > 72 then some (id, h.okm.drop 72) else d.face.psk
  let d1 : Dev := { d with face := { d.face with
    sessions := Tab.put d.face.sessions id s, handshakes := Tab.del d.face.handshakes id, psk := psk } }
  ((d1.countTx src).send (.finishS src id target (d.get R.NF_SESSION_IDLE))).blockEvent .nfc 0 2

/-- FINISH_C: one that does not authenticate is dropped and the handshake kept; otherwise the first check that fails ends
the handshake with ALERT, or the session opens (R357). The two verifications run as part of the step. -/
def finishC (lvl : Nat) (src : Client) (id : Nat) (auth : Bool) (c : ClientCert) (d : Dev) : Dev :=
  match Tab.look d.face.handshakes id with
  | none => d.dropFrame src.port R.NF_PORT_AUTH_FAIL
  | some h =>
    if !auth ∨ h.stage ≠ .helloSent then d.dropFrame src.port R.NF_PORT_AUTH_FAIL
    else
      let d0 := d.occur 0x070 none (src.port / 2)
      if lvl ≥ 2 then d0.failHandshake id src .suspended
      else
        match d0.finishFault h c, d0.bound h.pid with
        | some st, _ => d0.failHandshake id src st
        | none, some t => d0.openSession id src h t
        | none, none => d0.failHandshake id src .pidUnbound

/-- HANDSHAKE_TIMEOUT: 1 s after HELLO_S a handshake is erased (R359). -/
def handshakeTimeout (id : Nat) (d : Dev) : Dev :=
  match Tab.look d.face.handshakes id with
  | some h => if h.stage = .helloSent then d.endHandshake id else d
  | none => d

/-! ## Bulk streams (R363, R364) -/

/-- STREAM_OPEN: at most 64 streams in a session and 16,384 in the module; the lowest free number from 0x8000 on is
answered (R363). -/
def streamOpen (h : FrameHdr) (reqId : Nat) (d : Dev) : Dev :=
  match Tab.look d.face.sessions h.session with
  | none => d
  | some s =>
    let via : Via := .session h.session h.src
    if Tab.count d.face.streams (fun _ x => x.session == h.session) ≥ 64 ∨ d.face.streams.length ≥ 16384 then
      d.deliver via reqId .sessionLimit []
    else
      match ((List.range 16385).map (· + 0x8000)).find? (fun n => (Tab.look d.face.streams n).isNone) with
      | none => d.deliver via reqId .sessionLimit []
      | some n =>
        let d1 : Dev := { d with face := { d.face with
          streams := Tab.put d.face.streams n ⟨h.session, s.target, false, []⟩ } }
        d1.deliver via reqId .ok [⟨0x8001, beBytes 2 n⟩]

/-- STREAM_CLOSE: the stream is gone once its records end (R363). -/
def streamClose (h : FrameHdr) (n : Nat) (d : Dev) : Dev :=
  match Tab.look d.face.streams n with
  | some x =>
    if x.session = h.session then
      ({ d with face := { d.face with streams := Tab.put d.face.streams n { x with closing := true } } }).sweepStream n
    else d
  | none => d

/-- The length of a record: header data, payload, and the tag for OP 0x02 and 0x04 (R364). -/
def BulkDesc.recordLen (x : BulkDesc) : Nat := x.aadLen + x.payLen + (if x.op = 2 ∨ x.op = 4 then 16 else 0)

/-- A descriptor that says nothing, for a record that ends before its descriptor has come. -/
def BulkDesc.none : BulkDesc := ⟨0, 0, 0, 0, 0, 0, [], 0, true⟩

/-- The record of a stream that its pieces form, or that ends without them. -/
def Dev.streamRecord (d : Dev) (via : Via) (n owner number : Nat) (x : BulkDesc) (b : Bytes) : BulkRec :=
  let gen := if owner < 256 then d.get R.BY_GEN_GEN owner else 0
  bulkRecord via n number owner gen x (b.take x.aadLen) ((b.drop x.aadLen).take x.payLen) (b.drop (x.aadLen + x.payLen))

/-- A record of a stream is waiting for a core or in one. -/
def Dev.recordBusy (d : Dev) (n number : Nat) : Bool :=
  let mine (r : BulkRec) : Bool := r.stream == n && r.number == number && (match r.via with | .session _ _ => true | _ => false)
  let inJob (j : Option Job) : Bool := match j with
    | some j => (match j.finish with | .bulk r => mine r | _ => false)
    | none => false
  d.eng.bulkWait.any (fun e => e.2.any mine) || d.eng.cores.any (fun e => inJob e.2.curJob || inJob e.2.nextJob)

/-- Pieces overlap. -/
def piecesOverlap (t : Tab Bytes) (off len : Nat) : Bool := t.any (fun e => off < e.1 + e.2.length && e.1 < off + len)

/-- A record in reassembly breaks R364: a piece past its length, or a last piece that does not end at it. -/
def Reasm.broken (r : Reasm) : Bool :=
  match r.desc with
  | none => false
  | some x => r.pieces.any (fun e => e.1 + e.2.length > x.recordLen) ||
      (match r.last with | some l => l ≠ x.recordLen | none => false)

/-- A record's pieces are all there. -/
def Reasm.whole (r : Reasm) : Bool :=
  match r.desc, r.last with
  | some x, some l => l == x.recordLen && (r.pieces.map (fun e => e.2.length)).foldl (· + ·) 0 == x.recordLen
  | _, _ => false

/-- Write the records in reassembly of a stream. -/
def Dev.setReasm (d : Dev) (n : Nat) (x : Stream) (l : List Reasm) : Dev :=
  { d with face := { d.face with streams := Tab.put d.face.streams n { x with reasm := l } } }

/-- BULK_DATA: a fragment joins its record; a record whose fragments break R364 ends with ST_REASSEMBLY, and one that is
whole goes to the checks of R236. -/
def bulkData (lc lvl : Nat) (h : FrameHdr) (p : BulkPiece) (d : Dev) : Dev :=
  let via : Via := .session h.session h.src
  let fail (d : Dev) (owner : Nat) (x : Option BulkDesc) (st : Status) : Dev :=
    d.bulkComplete (d.streamRecord via p.stream owner p.number (x.getD BulkDesc.none) []) st []
  match Tab.look d.face.sessions h.session with
  | none => d
  | some s =>
    if p.data.length > 8192 then d.dropFrame h.src.port R.NF_PORT_DROP
    else
      match Tab.look d.face.streams p.stream with
      | none => fail d s.target p.desc .bulkStream
      | some x =>
        let old := x.reasm.find? (fun r => r.number == p.number)
        if x.session ≠ h.session then fail d s.target p.desc .bulkStream
        else if old.isNone && d.recordBusy p.stream p.number then d
        else if old.isNone && x.closing then fail d x.owner p.desc .bulkStream
        else if old.isNone && x.reasm.length ≥ 4 then fail d x.owner p.desc .reassembly
        else
          let r0 : Reasm := old.getD ⟨p.number, none, [], none⟩
          let overlap := piecesOverlap r0.pieces p.offset p.data.length
          let r1 : Reasm := { r0 with
            desc := p.desc.orElse (fun _ => r0.desc)
            pieces := if p.data = [] then r0.pieces else Tab.put r0.pieces p.offset p.data
            last := if p.last then some (p.offset + p.data.length) else r0.last }
          let rest := x.reasm.filter (fun r => r.number ≠ p.number)
          if overlap || r1.broken then fail (d.setReasm p.stream x rest) x.owner r1.desc .reassembly
          else if r1.whole then
            let b := r1.pieces.flatMap (·.2)
            let d1 := d.setReasm p.stream x rest
            d1.bulkOffer lc lvl (d1.streamRecord via p.stream x.owner p.number (r1.desc.getD BulkDesc.none) b)
          else d.setReasm p.stream x (rest ++ [r1])

/-- BULK_REASSEMBLY_TIMEOUT: a record not complete 100 ms after its first fragment ends with ST_REASSEMBLY (R364). -/
def bulkReassemblyTimeout (n number : Nat) (d : Dev) : Dev :=
  match Tab.look d.face.streams n with
  | none => d
  | some x =>
    match x.reasm.find? (fun r => r.number == number), Tab.look d.face.sessions x.session with
    | some r, some s =>
      let d1 := d.setReasm n x (x.reasm.filter (fun q => q.number ≠ number))
      let y := d1.streamRecord (.session x.session s.src) n x.owner number (r.desc.getD BulkDesc.none) []
      d1.bulkComplete y .reassembly []
    | _, _ => d

/-! ## Events and time (R531, R532, R375) -/

/-- The kind of an item: 1 ring entry, 2 main record, 3 Plinth record (R532). -/
def EvItem.kind : EvItem → Nat
  | .ring _ => 1
  | .main _ => 2
  | .plinth _ => 3

/-- EVENT_FRAME: the items at the head of a session's queue that are of one kind, at most 64 ring entries or 32 Mark
records, go to the source of its last authenticated frame (R348, R532). -/
def eventFrame (id : Nat) (d : Dev) : Dev :=
  match Tab.look d.face.sessions id with
  | none => d
  | some s =>
    match s.unsent with
    | [] => d
    | i :: _ =>
      let n := if i.kind = 1 then 64 else 32
      let items := (s.unsent.takeWhile (fun j => j.kind == i.kind)).take n
      if s.sent + 1 ≥ 2 ^ 64 then d.endSession id
      else
        let s1 := { s with unsent := s.unsent.drop items.length, dropped := false, sent := s.sent + 1 }
        let d1 : Dev := { d with face := { d.face with sessions := Tab.put d.face.sessions id s1 } }
        ((d1.countTx s.src).bumpSat R.IC_FRAMES).send (.eventFrame s.src id s1.sent s.dropped items)

/-- UTC_TICK: a second has passed (R375): NF_UTC advances unless it is 0; the seconds left of an open debug session fall
and a MATCHED Keystone's seconds rise with it (R459, R501). -/
def utcTick (d : Dev) : Dev :=
  let d1 := if d.get R.NF_UTC = 0 then d else d.bumpWrap R.NF_UTC
  let d2 := if d1.on R.DBG_STATUS_SESSION then d1.set R.DBG_REMAIN (d1.get R.DBG_REMAIN - 1) else d1
  (List.range 2).foldl (fun a u => if a.get R.KS_STATUS_STATE u = 3 then a.bumpSat R.KS_MATCHED_S u else a) d2

/-! ## The meanings -/

/-- LANE_MODE_WRITE (R344). -/
def execLaneModeWrite (req : Requester) (v : Word) (s : State) : Host.Outcome State Fault Refusal :=
  s.after (laneModeWrite req v.toNat)
/-- LINK_TRAINING_DONE (R346). -/
def execLinkTrainingDone (port : Fin 16) (losses : List Byte) (cable : Fin 32) (partner : BitVec 48) (s : State) :
    Host.Outcome State Fault Refusal := s.after (linkTrainingDone port losses cable partner.toNat)
/-- LINK_DOWN (R345). -/
def execLinkDown (port : Fin 16) (s : State) : Host.Outcome State Fault Refusal := s.after (linkDown port)
/-- ETHERNET_FRAME (R347). -/
def execEthernetFrame (x : EtherFrame) (corrected uncorrectable : Nat) (s : State) : Host.Outcome State Fault Refusal :=
  s.after (ethernetFrame x corrected uncorrectable)
/-- HELLO_C (R354). -/
def execHelloC (x : Hello) (s : State) : Host.Outcome State Fault Refusal := s.afterWith (fun p d => helloC (d.workLevel p.level) x d)
/-- HELLO_S (R354). -/
def execHelloS (session : Word) (s : State) : Host.Outcome State Fault Refusal :=
  s.afterWith (fun p d => helloS (d.workLevel p.level) session.toNat d)
/-- FINISH_C (R357). -/
def execFinishC (src : Client) (session : Word) (auth : Bool) (c : ClientCert) (s : State) :
    Host.Outcome State Fault Refusal := s.afterWith (fun p d => finishC (d.workLevel p.level) src session.toNat auth c d)
/-- HANDSHAKE_TIMEOUT (R359). -/
def execHandshakeTimeout (session : Word) (s : State) : Host.Outcome State Fault Refusal :=
  s.after (handshakeTimeout session.toNat)
/-- SESSION_IDLE_TIMEOUT (R362). -/
def execSessionIdleTimeout (session : Word) (s : State) : Host.Outcome State Fault Refusal :=
  s.after (·.endSession session.toNat)
/-- SESSION_CLOSE (R362). -/
def execSessionClose (h : FrameHdr) (s : State) : Host.Outcome State Fault Refusal := s.after (·.endSession h.session)
/-- SESSION_KILL (R362). -/
def execSessionKill (session : Word) (s : State) : Host.Outcome State Fault Refusal := s.after (·.endSession session.toNat)
/-- STREAM_OPEN (R363). -/
def execStreamOpen (h : FrameHdr) (reqId : Nat) (s : State) : Host.Outcome State Fault Refusal :=
  s.after (streamOpen h reqId)
/-- STREAM_CLOSE (R363). -/
def execStreamClose (h : FrameHdr) (stream : Nat) (s : State) : Host.Outcome State Fault Refusal :=
  s.after (streamClose h stream)
/-- BULK_DATA (R364). -/
def execBulkData (h : FrameHdr) (p : BulkPiece) (s : State) : Host.Outcome State Fault Refusal :=
  s.afterWith (fun q d => bulkData q.lcState (d.workLevel q.level) h p d)
/-- BULK_REASSEMBLY_TIMEOUT (R364). -/
def execBulkReassemblyTimeout (stream number : Nat) (s : State) : Host.Outcome State Fault Refusal :=
  s.after (bulkReassemblyTimeout stream number)
/-- EVENT_FRAME (R531). -/
def execEventFrame (session : Word) (s : State) : Host.Outcome State Fault Refusal := s.after (eventFrame session.toNat)
/-- UTC_TICK (R375). -/
def execUtcTick (s : State) : Host.Outcome State Fault Refusal := s.after utcTick

end Sys2Proof.Machine
end

