-- ==== Sys2Proof/Machine/HostFace.lean ====
section
/-! DEFINITION. The host face (ch. 09, R365 to R371, R376 to R378; ch. 16, R527 to R530): doorbells, rings, PERST#, the link,
IDE, and the interrupt controller's map. -/

namespace Sys2Proof.Machine

/-! ## Rings (R366 to R368, R377) -/

/-- Record an error of a ring pair: in its page of the bay's window, or in the HF page (R376, R377). -/
def Dev.ringErr (d : Dev) (b : Blk) (owner : Nat) (st : Status) : Dev :=
  if owner < 256 then d.err b owner (Requester.ofBay owner) st else d.err .hf 0 Requester.manager st

/-- The size of a ring pair (R366). -/
def Dev.ringSize (d : Dev) (owner ring : Nat) : Nat := 2 ^ d.get R.HQ_CFG_LOG2_SIZE owner ring

/-- A doorbell write is dropped where its PASID prefix is not the ring's (R367), and refused where its index is 2^k or more
(R368). -/
def Dev.doorbell (d : Dev) (owner ring : Nat) (pasid : Option Nat) (v : Nat) (act : Dev → Dev) : Dev :=
  if pasid.isSome && pasid ≠ some (d.get R.HQ_PASID owner ring) then d
  else if low 16 v ≥ d.ringSize owner ring then d.ringErr .hqd owner .inputRange
  else act d

/-- HQ_DOORBELL: the request tail. A ring with a descriptor to fetch whose PASID is bound to another target halts (R367,
R368). -/
def hqDoorbell (owner ring : Nat) (pasid : Option Nat) (v : Nat) (d : Dev) : Dev :=
  d.doorbell owner ring pasid v (fun d =>
    let d1 := d.setHostRing owner ring { d.hostRing owner ring with tail := low 16 v }
    let target := d1.bound (d1.get R.HQ_PASID owner ring)
    if d1.mayFetch owner ring ∧ target.isSome ∧ target ≠ some owner then (d1.haltRing owner ring).ringPasidError owner
    else d1)

/-- HQ_CPL_DOORBELL: the completion head the host has consumed (R368). -/
def hqCplDoorbell (owner ring : Nat) (pasid : Option Nat) (v : Nat) (d : Dev) : Dev :=
  d.doorbell owner ring pasid v (fun d =>
    d.setHostRing owner ring { d.hostRing owner ring with cplHead := low 16 v })

/-- RUNNING: EN is 1, or completions are outstanding (R377). -/
def Dev.showRunning (d : Dev) (owner ring : Nat) : Dev :=
  d.set R.HQ_STATUS_RUNNING (b2n (d.on R.HQ_CFG_EN owner ring || (d.hostRing owner ring).inflight ≠ 0)) owner ring

/-- HQ_CFG_WRITE: any write while EN and RUNNING are 0, and while EN is 1 one that clears EN, which changes EN alone; a size
outside 6 to 16 is refused (R366, R377). -/
def hqCfgWrite (owner ring v : Nat) (d : Dev) : Dev :=
  let en := d.on R.HQ_CFG_EN owner ring
  if en && !bitOf v 31 then (d.set R.HQ_CFG_EN 0 owner ring).showRunning owner ring
  else if en || d.on R.HQ_STATUS_RUNNING owner ring then d.ringErr .hq owner .policyDenied
  else if bits v 20 16 < 6 ∨ bits v 20 16 > 16 then d.ringErr .hq owner .inputRange
  else
    let d1 := (d.set R.HQ_CFG_EN (bits v 31 31) owner ring).set R.HQ_CFG_KIND (bits v 30 30) owner ring
    let d2 := (d1.set R.HQ_CFG_LOG2_SIZE (bits v 20 16) owner ring).set R.HQ_CFG_MOD_COUNT (bits v 15 8) owner ring
    (d2.set R.HQ_CFG_MOD_US (bits v 7 0) owner ring).showRunning owner ring

/-- INTERRUPT_MODERATION_TIMEOUT: the completion interrupt of entries that MOD_COUNT has not signalled (R377). -/
def moderationTimeout (owner ring : Nat) (d : Dev) : Dev :=
  let h := d.hostRing owner ring
  if h.unsignalled = 0 then d else (d.setHostRing owner ring { h with unsignalled := 0 }).raiseCompletion owner ring

/-! ## PERST#, the link and configuration (R369, R507, R530) -/

/-- The page index and the register offset of a field key. -/
def keyOffset (key : Nat) : Nat := key / 0x1000 / 32 % 0x1000

/-- A field of a ring pair or of its doorbells, the manager's among them (R376 to R378). -/
def ringKey (key : Nat) : Bool :=
  keyPage key ≥ 0x2000 && (keyPage key % 16 == 1 || keyPage key % 16 == 2) && keyOffset key ≥ 0x040

/-- The link is down (R376). -/
def Dev.linkLost (d : Dev) : Dev :=
  let d1 := ((d.set R.HF_LINK_UP 0).set R.HF_LINK_SPEED 0).set R.HF_LINK_WIDTH 0
  if d.on R.HF_LINK_UP then d1.raiseInt .hf 0 2 else d1

/-- Erase the keys of the IDE streams, which are insecure again (R369, R371). -/
def Dev.eraseIde (d : Dev) : Dev :=
  let was := (List.range 4).any (fun s => d.get R.HF_IDE_STATUS 0 s ≠ 0)
  let d1 := (List.range 4).foldl (fun a s => a.set R.HF_IDE_STATUS 0 0 s) d
  let d2 : Dev := { d1 with face := { d1.face with ideKeys := [], spdm := false } }
  if was then d2.raiseInt .hf 0 8 else d2

/-- The rings return to their reset values; what they have in flight is orphaned (R369). -/
def Dev.resetRings (d : Dev) : Dev :=
  { d with
    regs := { d.regs with vals := d.regs.vals.filter (fun e => !ringKey e.1) }
    face := { d.face with rings := Tab.mapVal d.face.rings (fun _ h => ⟨0, 0, 0, 0, h.epoch + 1⟩) } }

/-- PERST: its assertion resets the link, the rings and the IDE state, and the endpoint's MSI-X state with them (R369). -/
def perst (asserted : Bool) (d : Dev) : Dev :=
  if asserted == d.face.perst then d
  else if asserted then
    let d1 : Dev := { d with face := { d.face with perst := true } }
    let d2 := d1.linkLost.resetRings.eraseIde
    ({ d2 with log := { d2.log with msixEnable := false, funcMask := false, vecUnmasked := [] } }).raiseInt .hf 0 3
  else ({ d with face := { d.face with perst := false } }).raiseInt .hf 0 3

/-- The face answers configuration requests other than with Request Retry Status: firmware is verified, or the module is
held or at rest in SCRAP (R369, R507). -/
def Dev.configReady (d : Dev) : Bool :=
  match d.power.stage with
  | .running | .rest | .held => true
  | _ => false

/-- PCIE_CONFIG_REQUEST: it is answered; one that writes the MSI-X control word sets enable and function mask (R527,
R530). -/
def pcieConfigRequest (control : Option (Bool × Bool)) (d : Dev) : Dev :=
  if d.face.perst || !d.power.main then d
  else if !d.configReady then d.send (.config true)
  else
    match control with
    | none => d.send (.config false)
    | some c => (({ d with log := { d.log with msixEnable := c.1, funcMask := c.2 } }).flushAll).send (.config false)

/-- PCIE_LINK_UP: the link trains to a generation and a width; held markings send their messages (R365, R530). -/
def pcieLinkUp (speed width : Nat) (d : Dev) : Dev :=
  if d.face.perst || !d.power.main || d.on R.HF_LINK_UP then d
  else
    let d1 := ((d.set R.HF_LINK_UP 1).set R.HF_LINK_SPEED speed).set R.HF_LINK_WIDTH width
    (d1.raiseInt .hf 0 2).flushAll

/-! ## IDE (R370, R371) -/

/-- SPDM_PSK_EXCHANGE: the secure session opens by the pre-shared key whose hint is its session ID (R370). -/
def spdmPskExchange (hint : Nat) (verified : Bool) (d : Dev) : Dev :=
  if !d.on R.HF_LINK_UP then d
  else
    match d.face.psk with
    | some p =>
      if p.1 = hint ∧ verified then ({ d with face := { d.face with spdm := true } }).send (.doe true [])
      else d.send (.doe false [])
    | none => d.send (.doe false [])

/-- IDE_KEY_PROG: an IDE_KM message in the SPDM session programs a stream's keys, makes it secure or stops it (R370). -/
def ideKeyProg (stream : Nat) (m : IdeMsg) (d : Dev) : Dev :=
  if !d.face.spdm then d.send (.doe false [])
  else
    let keys (t : Tab Bytes) (st : Nat) : Dev :=
      ((({ d with face := { d.face with ideKeys := t } }).set R.HF_IDE_STATUS st 0 stream).raiseInt .hf 0 8).send (.doe true [])
    match m with
    | .keyProg k => keys (Tab.put d.face.ideKeys stream k) 1
    | .keySetGo => if d.get R.HF_IDE_STATUS 0 stream = 1 then keys d.face.ideKeys 2 else d.send (.doe false [])
    | .keySetStop => keys (Tab.del d.face.ideKeys stream) 0

/-! ## The interrupt map (R527 to R529, R548) -/

/-- MSIX_VECTOR_UNMASK: a write of a vector's mask bit; a pending vector that is unmasked sends its message (R528). -/
def msixVectorUnmask (vec : Nat) (masked : Bool) (d : Dev) : Dev :=
  let rest := d.log.vecUnmasked.filter (· ≠ vec)
  if masked then { d with log := { d.log with vecUnmasked := rest } }
  else ({ d with log := { d.log with vecUnmasked := vec :: rest } }).flushVec vec

/-- IC_MAP_WRITE: the vector and the enable of the IRQ that IC_INDEX names. A marking that is held stays held while the IRQ
is disabled; when it is enabled again it sends its message if the IRQ is still asserted (R529). -/
def icMapWrite (v : Nat) (d : Dev) : Dev :=
  let i := d.get R.IC_INDEX
  let was := d.on R.IC_MAP_ENABLE 0 i
  let d1 := (d.set R.IC_MAP_ENABLE (bits v 31 31) 0 i).set R.IC_MAP_VECTOR (bits v 8 0) 0 i
  if !was && bitOf v 31 then
    if d1.irqAsserted i then d1.flushVec (bits v 8 0)
    else { d1 with log := { d1.log with irqHeld := d1.log.irqHeld.filter (· ≠ i) } }
  else d1

/-! ## The meanings -/

/-- HQ_DOORBELL (R368). -/
def execHqDoorbell (owner : Fin 257) (ring : Fin 4) (pasid : Option (BitVec 20)) (v : Word) (s : State) :
    Host.Outcome State Fault Refusal := s.after (hqDoorbell owner ring (pasid.map (·.toNat)) v.toNat)
/-- HQ_CPL_DOORBELL (R368). -/
def execHqCplDoorbell (owner : Fin 257) (ring : Fin 4) (pasid : Option (BitVec 20)) (v : Word) (s : State) :
    Host.Outcome State Fault Refusal := s.after (hqCplDoorbell owner ring (pasid.map (·.toNat)) v.toNat)
/-- HQ_CFG_WRITE (R377). -/
def execHqCfgWrite (owner : Fin 257) (ring : Fin 4) (v : Word) (s : State) : Host.Outcome State Fault Refusal :=
  s.after (hqCfgWrite owner ring v.toNat)
/-- PERST (R369). -/
def execPerst (asserted : Bool) (s : State) : Host.Outcome State Fault Refusal := s.after (perst asserted)
/-- PCIE_CONFIG_REQUEST (R369). -/
def execPcieConfigRequest (control : Option (Bool × Bool)) (s : State) : Host.Outcome State Fault Refusal :=
  s.after (pcieConfigRequest control)
/-- PCIE_LINK_UP (R530). -/
def execPcieLinkUp (speed : Fin 6) (width : Fin 17) (s : State) : Host.Outcome State Fault Refusal :=
  s.after (pcieLinkUp speed width)
/-- SPDM_PSK_EXCHANGE (R370). -/
def execSpdmPskExchange (hint : Word) (verified : Bool) (s : State) : Host.Outcome State Fault Refusal :=
  s.after (spdmPskExchange hint.toNat verified)
/-- IDE_KEY_PROG (R370). -/
def execIdeKeyProg (stream : Fin 4) (m : IdeMsg) (s : State) : Host.Outcome State Fault Refusal :=
  s.after (ideKeyProg stream m)
/-- MSIX_VECTOR_UNMASK (R528). -/
def execMsixVectorUnmask (vec : Fin 512) (masked : Bool) (s : State) : Host.Outcome State Fault Refusal :=
  s.after (msixVectorUnmask vec masked)
/-- IC_MAP_WRITE (R529). -/
def execIcMapWrite (v : Word) (s : State) : Host.Outcome State Fault Refusal := s.after (icMapWrite v.toNat)
/-- INTERRUPT_MODERATION_TIMEOUT (R377). -/
def execInterruptModerationTimeout (owner : Fin 257) (ring : Fin 4) (s : State) : Host.Outcome State Fault Refusal :=
  s.after (moderationTimeout owner ring)
/-- PCIE_LINK_DOWN (R530). -/
def execPcieLinkDown (s : State) : Host.Outcome State Fault Refusal := s.after Dev.linkLost

end Sys2Proof.Machine
end

