-- ==== Sys2Proof/Machine/Tamper.lean ====
section
/-! DEFINITION. Tamper monitors and responses (ch. 11): sources, filters, firings, the effective response E, its effects,
resumption, fusing, and the loss of the Plinth's SRAM. -/

namespace Sys2Proof.Machine

/-! ## The sources (R411 to R413, R416, R438) -/

/-- The lowest response that can be set for a source (R411). -/
def lowestResponse (s : Nat) : Nat :=
  if s ≤ 5 then 4
  else if s ≤ 9 then 0
  else if s ≤ 15 then (if s % 2 = 0 then 3 else 1)
  else if s = 16 ∨ s = 18 then 1
  else if s = 17 ∨ s = 19 then 0
  else if s ≤ 28 then 2
  else if s = 29 then 1
  else if s = 30 ∨ s = 31 then 0
  else if s = 32 ∨ s = 33 then 4
  else if s ≤ 37 then 1
  else if s = 38 then 4
  else if s = 39 then 1
  else if s = 40 then 4
  else 2

/-- The sources the Plinth watches with both inputs absent: the Cell column of R411. -/
def cellSource (s : Nat) : Bool := s ≤ 5 || s == 10 || s == 11 || s == 32 || s == 33 || s == 37 || s == 38

/-- The sources that a fuse can switch off (R418). -/
def fusable (s : Nat) : Bool := (6 ≤ s && s ≤ 9) || (34 ≤ s && s ≤ 36)

/-- The die rails are in regulation: stage A and more are powered (R413, R506, R510). -/
def Dev.railsOn (d : Dev) : Bool :=
  match d.power.stage with
  | .running | .rest | .held => d.power.main
  | _ => false

/-- A source is watched under the present supply (R412, R413, R419); source 38 is armed on the backup node only (R411). -/
def Dev.watched (d : Dev) (p : Perm) (s : Nat) : Bool :=
  if p.fuses.contains s then false
  else if d.power.main then s ≠ 38 && (!(20 ≤ s && s ≤ 27) || d.railsOn)
  else if d.power.aux then s ≠ 38 && !(20 ≤ s && s ≤ 27) && s ≠ 31
  else cellSource s

/-- The filter and response of a source as TM_SRC_CFG holds them: N, W_UNIT, W, RESPONSE (R438). -/
def Dev.sourceCfg (d : Dev) (s : Nat) : Nat × Nat × Nat × Nat :=
  (d.get R.TM_SRC_CFG_N 0 s, d.get R.TM_SRC_CFG_W_UNIT 0 s, d.get R.TM_SRC_CFG_W 0 s, d.get R.TM_SRC_CFG_RESPONSE 0 s)

/-- Set the filter and response of a source. -/
def Dev.setSource (d : Dev) (s n u w r : Nat) : Dev :=
  (((d.set R.TM_SRC_CFG_N n 0 s).set R.TM_SRC_CFG_W_UNIT u 0 s).set R.TM_SRC_CFG_W w 0 s).set R.TM_SRC_CFG_RESPONSE r 0 s

/-- The word TM_SRC_CFG shows for a filter and response (R438). -/
def cfgWord (c : Nat × Nat × Nat × Nat) : Nat := c.1 * 2 ^ 24 + c.2.1 * 2 ^ 22 + c.2.2.1 * 2 ^ 8 + c.2.2.2

/-- The unit of a window in microseconds: 0 µs, 1 ms, 2 s (R438). -/
def unitUs (u : Nat) : Nat := if u = 0 then 1 else if u = 1 then 1000 else 1000000

/-- The filter and response in effect: while the Plinth response program's digest does not hold, the hard-wired program
gives sources 0 to 5, 32, 33 and 38 level 4 at any event, and every other cell-watched source level 1 (R432). -/
def Dev.sourceEff (d : Dev) (s : Nat) : Nat × Nat × Nat × Nat :=
  let c := d.sourceCfg s
  if d.plinth.programOk then c
  else if s ≤ 5 || s == 32 || s == 33 || s == 38 then (1, 0, 1, 4)
  else if cellSource s then (c.1, c.2.1, c.2.2.1, 1)
  else c

/-- Two stamps lie within a window: 50 MHz clocks of the front-end, or on the cell 32.768 kHz ticks, of which one is the
least window (R414, R415). -/
def Dev.inWindow (d : Dev) (old new us : Nat) : Bool :=
  if d.mgmtOn then decide (new - old ≤ us * 50)
  else decide ((new - old) * 1000000 ≤ us * 32768) || decide (new - old ≤ 1)

/-! ## Responses (R420 to R423, R427) -/

/-- Close the debug session: reason 0 length ran out, 1 DBG_CTL.END, 2 tamper response, 3 intent mark, 4 reset or power
loss (R456, R567). -/
def Dev.dbgClose (d : Dev) (p : Perm) (reason : Nat) : Dev :=
  match d.life.session with
  | none => d
  | some scope =>
    let d1 : Dev := { d with life := { d.life with session := none } }
    let d2 := ((d1.set R.DBG_STATUS_SESSION 0).set R.DBG_STATUS_SCOPE 0).set R.DBG_REMAIN 0
    ((d2.csAdd p 0x0C 0xFF p.level).mark .dbgClose .debug 0 scope reason).raiseInt .dbg 0 3

/-- Erase every DRBG instance (R212). -/
def Dev.eraseDrbgs (d : Dev) : Dev :=
  (List.range 257).foldl (fun a i => a.setDrbg i { Drbg.fresh with erased := true }) d

/-- Erase the key cache, with the session keys that live nowhere else, the lane store, the tree nodes and the HBM scratch
key; the overwrite is under way (R192, R200). -/
def Dev.eraseCaches (d : Dev) : Dev :=
  { d with
    keys := { d.keys with cache := [], sess := [], nodes := [], fills := [], flushing := true, scratchKey := false }
    sched := { d.sched with ctxs := Tab.mapVal d.sched.ctxs (fun _ x => { x with lanes := [], pinLane := none }) } }

/-- End every session (R362). -/
def Dev.endSessions (d : Dev) : Dev := (d.face.sessions.map (·.1)).foldl (fun a i => a.endSession i) d

/-- ZEROIZE_CACHE: caches, DRBG instances, the root value, sessions, IDE keys and the PSK are erased (R420 level 3). -/
def Dev.zeroizeCache (d : Dev) : Dev :=
  let d1 := d.eraseCaches.eraseDrbgs
  let d2 : Dev := { d1 with keys := { d1.keys with root := none, resuming := false } }
  let d3 := (d2.set R.KT_STATUS_ROOT 0).endSessions.eraseIde
  { d3 with face := { d3.face with psk := none } }

/-- The added effects of one level (R420). ALARM_OUT follows E; the requests of SUSPEND end at the next scheduler cycle
(R423); ZEROIZE_ROOT sends the demand to the erase unit, and the front-end holds it while that crossing is stalled
(R35, R426). Without main power levels 2 and 3 act on nothing
(R427). -/
def Dev.levelEffect (d : Dev) (p : Perm) (k : Nat) : Dev :=
  if k = 2 ∧ d.power.main then d.cerTamper.dbgClose p 2
  else if k = 3 ∧ d.power.main then d.zeroizeCache
  else if k = 4 then { d with wires := { d.wires with demand := d.mgmtOn && d.demandStalled } }
  else d

/-- Raise E to a level above it: every added effect starts (R421, R422). -/
def Dev.raiseLevel (d : Dev) (p : Perm) (new : Nat) : Perm × Dev :=
  if new ≤ p.level then (p, d)
  else
    let p1 : Perm := { p with level := new }
    let d1 := d.csAdd p1 0x02 0xFF new
    let d2 := if d.mgmtOn then d1.blockEvent .tm 0 2 else d1
    (p1, ((List.range (new - p.level)).map (fun i => p.level + 1 + i)).foldl (fun a k => a.levelEffect p1 k) d2)

/-- Set the TM_FIRED bit of a source; its IRQ is marked where it becomes asserted (R420, R438, R528). -/
def Dev.setFired (d : Dev) (s : Nat) : Dev :=
  let d1 := if s < 32 then d.set R.TM_FIRED_LO (d.get R.TM_FIRED_LO ||| 2 ^ s)
    else d.set R.TM_FIRED_HI (d.get R.TM_FIRED_HI ||| 2 ^ (s - 32))
  Dev.markRisen d d1 [356 + s]

/-- A firing while main power is absent: P takes its level; on auxiliary power ALERT takes effect at once and level 4
erases; on the cell level 4 erases and the rest waits for the next main power-up (R427). -/
def Dev.fireCell (d : Dev) (p : Perm) (s lvl : Nat) : Perm × Dev :=
  let fired := if lvl = 0 then d.plinth.pendingFired else d.plinth.pendingFired.filter (· ≠ s) ++ [s]
  let d1 : Dev := { d with plinth := { d.plinth with pending := max d.plinth.pending lvl, pendingFired := fired } }
  let d2 := if lvl ≥ 1 ∧ d.power.aux then d1.setFired s else d1
  if lvl ≥ 4 then d2.raiseLevel p 4
  else if lvl ≥ 1 ∧ d.power.aux then d2.raiseLevel p 1
  else (p, d2)

/-- A source fires: it is recorded, its IRQ is raised from level 1 on, and E rises to its level where that is higher (R420,
R421). n is the number of events in the window. -/
def Dev.fire (d : Dev) (p : Perm) (s n reading : Nat) : Perm × Dev :=
  let lvl := (d.sourceEff s).2.2.2
  let d0 : Dev := { d with plinth := { d.plinth with stamps := Tab.del d.plinth.stamps s } }
  let d1 := (d0.bumpSat R.TM_SRC_FIRINGS 0 s).csAdd p 0x01 s lvl n reading
  let r := if d.power.main then (if lvl ≥ 1 then d1.setFired s else d1).raiseLevel p lvl else d1.fireCell p s lvl
  (r.1, r.2.mark .tamperFire (if d.mgmtOn then .tamper else .plinth) s lvl n reading r.1.level)

/-- An event of a watched source is stamped and counted; N events within W fire it (R414). -/
def Dev.countEvent (d : Dev) (p : Perm) (s stamp reading : Nat) : Perm × Dev :=
  let c := d.sourceEff s
  let l := Tab.get d.plinth.stamps s [] ++ [stamp]
  let l1 := l.drop (l.length - c.1)
  let d1 := ({ d with plinth := { d.plinth with stamps := Tab.put d.plinth.stamps s l1 } }).bumpSat R.TM_SRC_EVENTS 0 s
  if l1.length ≥ c.1 ∧ d.inWindow (l1.headD stamp) stamp (c.2.2.1 * unitUs c.2.1) then d1.fire p s c.1 reading
  else (p, d1)

/-- The reading that a source's event brings: the Hall sensors' field and the backup node (R438). -/
def Dev.showReading (d : Dev) (s reading : Nat) : Dev :=
  if s = 34 then d.set R.TM_MAG_X (min 1023 reading)
  else if s = 35 then d.set R.TM_MAG_Y (min 1023 reading)
  else if s = 36 then d.set R.TM_MAG_Z (min 1023 reading)
  else if s = 37 ∨ s = 38 then d.set R.TM_BACKUP_MV (min 65535 reading)
  else d

/-- A sensor's event: a level condition gives one when it is entered and keeps its source asserted (R414, R415). -/
def Dev.sensorEvent (d : Dev) (p : Perm) (s stamp reading : Nat) (level : Bool) : Perm × Dev :=
  if level && d.plinth.asserted.contains s then (p, d)
  else
    let d1 : Dev := if level then { d with plinth := { d.plinth with asserted := d.plinth.asserted ++ [s] } } else d
    if d.watched p s then d1.countEvent p s stamp reading else (p, d1)

/-- TAMPER_EVENT (R414, R415). The event of source 17, a dip of VIN_MAIN that returned, ends the dip (R411, R505). -/
def tamperEvent (s stamp reading : Nat) (level : Bool) (p : Perm) (d : Dev) : Perm × Dev :=
  let d1 := d.showReading s reading
  let d2 : Dev := if s = 17 then { d1 with power := { d1.power with dip := false } } else d1
  d2.sensorEvent p s stamp reading level

/-- A level condition ends: its source is no longer asserted (R415). -/
def Dev.endCondition (d : Dev) (s : Nat) : Dev :=
  { d with plinth := { d.plinth with asserted := d.plinth.asserted.filter (· ≠ s) } }

/-- TAMPER_CONDITION_END (R415). -/
def tamperConditionEnd (s reading : Nat) (d : Dev) : Dev := (d.showReading s reading).endCondition s

/-- Several events in source order (R423). -/
def Dev.sensorEvents (r : Perm × Dev) (stamp : Nat) (l : List (Nat × Nat × Bool)) : Perm × Dev :=
  l.foldl (fun a e => a.2.sensorEvent a.1 e.1 stamp e.2.1 e.2.2) r

/-! ## Sampled sensors (R411, R415, R426, R522) -/

/-- A temperature in quarters of a degree as the 10-bit two's complement number of TM_TEMP (R438). -/
def tempBits (t : Int) : Nat := (t % 1024).toNat

/-- The high threshold of a temperature sensor in degrees (R411). -/
def tempHigh (i : Nat) : Int := if i = 2 then 95 else 115

/-- The sources of a temperature sensor whose condition holds: low, high (R411). -/
def tempSources (i : Nat) (t : Int) : List Nat :=
  (if t < -180 then [10 + 2 * i] else []) ++ (if t > 4 * tempHigh i then [11 + 2 * i] else [])

/-- TEMPERATURE_SAMPLE: the three sensors, or on the cell sensor 0 alone, against their thresholds; TEMP_WARN and TEMP_CRIT
are set while their conditions hold (R415, R522). -/
def temperatureSample (t0 t1 t2 : Int) (stamp : Nat) (p : Perm) (d : Dev) : Perm × Dev :=
  let sensors := if d.mgmtOn then [(0, t0), (1, t1), (2, t2)] else [(0, t0)]
  let d1 := ((d.set R.TM_TEMP_S0 (tempBits t0)).set R.TM_TEMP_S1 (tempBits t1)).set R.TM_TEMP_S2 (tempBits t2)
  let above := sensors.flatMap (fun e => (tempSources e.1 e.2).map (fun s => (s, tempBits e.2, true)))
  let ends := (sensors.flatMap (fun e => [10 + 2 * e.1, 11 + 2 * e.1])).filter (fun s => !above.any (fun o => o.1 == s))
  let d2 := ends.foldl (fun a s => a.endCondition s) (if d.mgmtOn then d1 else d)
  let r := Dev.sensorEvents (p, d2) stamp above
  let plate : Int := d.get R.PW_TEMP_WARN_PLATE_C
  let die : Int := d.get R.PW_TEMP_WARN_DIE_C
  let d3 := if d.mgmtOn && t2 > 4 * plate then r.2.raiseInt .pw 0 7 else r.2
  (r.1, if d.mgmtOn && (t0 > 4 * die || t1 > 4 * die) then d3.raiseInt .pw 0 8 else d3)

/-- MESH_PATTERN_CHANGE: the front-end drives a new pattern on each mesh; a return that differs is an event (R411,
R426). -/
def meshPatternChange (differs stamp : Nat) (p : Perm) (d : Dev) : Perm × Dev :=
  if d.mgmtOn then
    Dev.sensorEvents (p, d) stamp (((List.range 4).filter (fun i => bitOf differs i)).map (fun i => (i, 0, false)))
  else (p, d)

/-! ## The share erase (R425, R426, R430) -/

/-- The sealing share is overwritten and verified: the root cannot be regenerated again, and every function that needs a
key ends with ST_ROOT_ABSENT (R425, R426). -/
def Dev.shareGone (d : Dev) : Dev :=
  let d1 : Dev := { d with
    plinth := { d.plinth with share := none }
    keys := { d.keys with root := none, nodes := [], resuming := false }
    wires := { d.wires with demand := false } }
  d1.set R.KT_STATUS_ROOT 0

/-- SHARE_ERASE_DONE: the erase that E4 demanded ends (R426, R433 kind 0x03). -/
def shareEraseDone (p : Perm) (d : Dev) : Perm × Dev :=
  if p.level = 4 ∧ !p.shareErased ∧ !d.wires.demand then
    let p1 : Perm := { p with shareErased := true }
    (p1, d.shareGone.csAdd p1 0x03 0xFF 4)
  else (p, d)

/-! ## Resumption (R424) -/

/-- The sealing share is intact: not erased, and held where the life cycle has drawn one (R178, R424). -/
def Dev.shareIntact (d : Dev) (p : Perm) : Bool := !p.shareErased && (d.plinth.share.isSome || decide (p.lcState < 2))

/-- A source whose response is 1 or more is asserted (R424). -/
def Dev.alertHeld (d : Dev) (p : Perm) : Bool :=
  d.plinth.asserted.any (fun s => d.watched p s && decide ((d.sourceEff s).2.2.2 ≥ 1))

/-- A refused write of the TM page: ERR_INFO records ST_POLICY_DENIED, and POLICY_REFUSED is set (R416, R424, R439). -/
def Dev.tmRefuse (d : Dev) (req : Requester) : Dev := (d.err .tm 0 req .policyDenied).blockEvent .tm 0 5

/-- TM_RESUME: E returns to 0 where R424 permits it; after level 3 the root is regenerated before work resumes. -/
def tmResume (req : Requester) (v : Nat) (p : Perm) (d : Dev) : Perm × Dev :=
  if !bitOf v 0 then (p, d)
  else if 1 ≤ p.level ∧ p.level ≤ 3 ∧ d.shareIntact p ∧ !d.alertHeld p then
    let p1 : Perm := { p with level := 0 }
    let d1 := ((d.csAdd p1 0x07 0xFF 0).blockEvent .tm 0 2).blockEvent .tm 0 3
    if p.level = 3 ∧ d.plinth.share.isSome then
      (p1, ({ d1 with keys := { d1.keys with resuming := true } }).set R.KT_STATUS_ROOT 1)
    else (p1, d1)
  else (p, d.tmRefuse req)

/-! ## Configuration and fuses (R416 to R419) -/

/-- TM_SRC_CFG_WRITE: the source that TM_SRC_INDEX names; a value out of its range is refused, and from SEALED on one that
loosens the source; after LOCK no write takes effect (R416, R438). -/
def tmSrcCfgWrite (req : Requester) (v : Nat) (p : Perm) (d : Dev) : Dev :=
  let s := d.get R.TM_SRC_INDEX
  let old := d.sourceCfg s
  let new := (bits v 31 24, bits v 23 22, bits v 21 8, bits v 2 0)
  let (n, u, w, r) := new
  if d.on (R.LOCK .tm) then d
  else if n = 0 ∨ u = 3 ∨ w = 0 ∨ w > 10000 ∨ r > 4 ∨ r < lowestResponse s then d.err .tm 0 req .inputRange
  else if (p.lcState = 3 ∨ p.lcState = 4) ∧ (r < old.2.2.2 ∨ n > old.1 ∨ w * unitUs u < old.2.2.1 * unitUs old.2.1) then
    d.tmRefuse req
  else (d.setSource s n u w r).csAdd p 0x06 s p.level (cfgWord old) (cfgWord new)

/-- A fuse command ends with a status (R438, R439). -/
def Dev.fuseEnd (d : Dev) (st : Status) : Dev :=
  ((d.set R.TM_FUSE_STATUS_STATUS st.code).set R.TM_FUSE_STATUS_BUSY 0).blockEvent .tm 0 4

/-- TM_FUSE_CMD: a write with another CONFIRM is dropped; otherwise state, source and the standing fuse token are checked,
and the bit is programmed (R418, R454). -/
def tmFuseCmd (v : Nat) (p : Perm) (d : Dev) : Dev :=
  let s := bits v 5 0
  if bits v 15 8 ≠ 0x5A then d
  else if p.lcState > 1 then d.fuseEnd .lcState
  else if !fusable s then d.fuseEnd .inputRange
  else if d.life.standing ≠ some (3, s) then d.fuseEnd .authToken
  else
    (({ d with life := { d.life with standing := none, fusing := some s } }).set R.LC_TOKEN_STATUS_STANDING 0).set
      R.TM_FUSE_STATUS_BUSY 1

/-- FUSE_DONE: the bit is programmed and read back, and recorded; the source's front-end is unpowered (R418, R419). -/
def fuseDone (p : Perm) (d : Dev) : Perm × Dev :=
  match d.life.fusing with
  | none => (p, d)
  | some s =>
    let p1 : Perm := { p with fuses := p.fuses.filter (· ≠ s) ++ [s] }
    let d1 : Dev := { d with
      life := { d.life with fusing := none }
      plinth := { d.plinth with
        asserted := d.plinth.asserted.filter (· ≠ s), stamps := Tab.del d.plinth.stamps s } }
    (p1, (d1.csAdd p1 0x08 s p.level).fuseEnd .ok)

/-! ## The loss of the Plinth's SRAM (R417, R437, R573) -/

/-- What the lost SRAM reads as for the source settings: free values within the ranges of TM_SRC_CFG (R417, R438). -/
def Dev.freeSources (d : Dev) : Dev :=
  (List.range 42).foldl (fun a s =>
    let r := a.draw 5
    let b (i : Nat) : Nat := (r.1.getD i 0).toNat
    let lowest := lowestResponse s
    r.2.setSource s (1 + b 0 % 255) (b 1 % 3) (1 + (b 2 * 256 + b 3) % 10000) (lowest + b 4 % (5 - lowest))) d

/-- PLINTH_POWER_RESTORED: the records that were only in the buffer are lost, and so is the sealing share; the record of
kind 0x0A takes the number 257 above the last durable one. The power sequence number goes on from the last durable record,
and a power-up in progress is counted above it. The seconds count and the source settings are free values. The next main
Mark sequence number is the last durable one plus 8,192, and the numbers skipped are recorded at the next start (R537). -/
def plinthPowerRestored (p : Perm) (d : Dev) : Dev :=
  let last := d.cs.durable.getLast?
  let first := match last with | some r => (r.1.number + 1) % 2 ^ 32 | none => 0
  let seq := match last with | some r => r.1.powerSeq | none => 0
  let r := d.freeSources.draw 4
  let lost := match d.log.markMain.getLast? with | some m => m.seq + 1 | none => d.log.markBase
  let markNext := lost + 8191
  let d1 : Dev := { r.2 with
    log := { r.2.log with
      markBuf := [], markNext := markNext, markLost := r.2.log.markLost ++ [(lost, markNext)]
      markGap := some (lost, markNext) }
    plinth := { r.2.plinth with
      share := none, stamps := [], powerSeq := (seq + b2n d.power.main) % 2 ^ 32
      seconds := if d.plinth.running then beNat r.1 else 0 }
    cs := { r.2.cs with buffer := [], next := (first + 256) % 2 ^ 32, skipped := r.2.cs.skipped ++ [(first, 256)] } }
  d1.csAdd p 0x0A 0xFF p.level first 256

/-! ## The meanings -/

/-- TAMPER_EVENT (R414). -/
def execTamperEvent (source : Fin 42) (stamp : Nat) (reading : Word) (level : Bool) (s : State) :
    Host.Outcome State Fault Refusal := s.afterPerm (tamperEvent source stamp reading.toNat level)
/-- TAMPER_CONDITION_END (R415). -/
def execTamperConditionEnd (source : Fin 42) (reading : Word) (s : State) : Host.Outcome State Fault Refusal :=
  s.after (tamperConditionEnd source reading.toNat)
/-- TEMPERATURE_SAMPLE (R415). -/
def execTemperatureSample (t0 t1 t2 : Int) (stamp : Nat) (s : State) : Host.Outcome State Fault Refusal :=
  s.afterPerm (temperatureSample t0 t1 t2 stamp)
/-- MESH_PATTERN_CHANGE (R426). -/
def execMeshPatternChange (differs : BitVec 4) (stamp : Nat) (s : State) : Host.Outcome State Fault Refusal :=
  s.afterPerm (meshPatternChange differs.toNat stamp)
/-- SHARE_ERASE_DONE (R426). -/
def execShareEraseDone (s : State) : Host.Outcome State Fault Refusal := s.afterPerm shareEraseDone
/-- TM_RESUME (R424). -/
def execTmResume (req : Requester) (v : Word) (s : State) : Host.Outcome State Fault Refusal :=
  s.afterPerm (tmResume req v.toNat)
/-- TM_SRC_CFG_WRITE (R416). -/
def execTmSrcCfgWrite (req : Requester) (v : Word) (s : State) : Host.Outcome State Fault Refusal :=
  s.afterWith (tmSrcCfgWrite req v.toNat)
/-- TM_FUSE_CMD (R418). -/
def execTmFuseCmd (v : Word) (s : State) : Host.Outcome State Fault Refusal := s.afterWith (tmFuseCmd v.toNat)
/-- FUSE_DONE (R418). -/
def execFuseDone (s : State) : Host.Outcome State Fault Refusal := s.afterPerm fuseDone
/-- PLINTH_POWER_RESTORED (R437). -/
def execPlinthPowerRestored (s : State) : Host.Outcome State Fault Refusal := s.afterWith plinthPowerRestored

end Sys2Proof.Machine
end

