-- ==== Sys2Proof/Machine/Reset.lean ====
section
/-! DEFINITION. What a module reset and a power loss leave: everything volatile returns to its reset value; the Vault, OTP,
NOR, the Plinth's battery-backed SRAM and the supplies stay (ch. 5, 11, 15, 16). -/

namespace Sys2Proof.Machine

/-! ## What stays -/

/-- The register fields that come from the Plinth, NOR or the Mark area, by their keys: the source settings (R417), the
preferred slot (R509), PW_LOSSES (R522), the Mark area's state (R549) and the trends since seal (R524). -/
def persistKey (key : Nat) : Bool :=
  [R.TM_SRC_CFG_N, R.TM_SRC_CFG_W_UNIT, R.TM_SRC_CFG_W, R.TM_SRC_CFG_RESPONSE, R.PW_BOOT_PREFERRED, R.PW_LOSSES,
    R.EV_STATUS_FULL, R.EV_STATUS_NEAR_FULL, R.EV_LOST, R.PL_SLACK_MIN_SLACK, R.PL_PUF_REENROLS,
    R.PL_PUF_MAX_CORRECTED].any (fun f => f.key 0 0 / 0x1000 == key / 0x1000)

/-- The pages of the management-side domains, which VIN_AUX supplies (R11, R504): all below the key island's but those of
the Keystones. -/
def mgmtKey (key : Nat) : Bool := keyPage key < 0x050 && !(keyPage key == 1 || keyPage key == 2)

/-- The register file of which a test selects what stays; MOUNTED never does (R536). -/
def RegFile.keep (r : RegFile) (p : Nat → Bool) : RegFile :=
  ⟨r.vals.filter (fun e => p e.1 && e.1 ≠ R.EV_STATUS_MOUNTED.key 0 0), [], []⟩

/-- A stored object after a restart: uses that were reserved and not consumed are gone (R190). -/
def Obj.restart (o : Obj) : Obj := { o with usesLeft := o.usesLeft - o.usesReserved, usesReserved := 0 }

/-- A nonce counter after a restart: it goes on above the last durable reservation (R245). -/
def Nonce.restart (x : Nonce) : Nonce :=
  if x.exhausted then x else { x with next := x.reservedTo, reserving := false, exhausted := decide (x.reservedTo = 2 ^ 64) }

/-- The key island and the Vault after a restart: what the Vault, NOR and OTP hold stays. -/
def Keys.restart (k : Keys) : Keys :=
  { Keys.reset with
    objs := Tab.mapVal k.objs (fun _ o => o.restart), lastObj := k.lastObj
    nonces := Tab.mapVal k.nonces (fun _ x => x.restart), entries := k.entries, lastEntry := k.lastEntry
    helpers := k.helpers, identity := k.identity, certificate := k.certificate, floorRecord := k.floorRecord }

/-- Cards and ceremonies after a restart: the roster stays, and the card-detect inputs are as they are (R400). -/
def Cards.restart (c : Cards) : Cards :=
  { Cards.reset with
    roster := c.roster, thresholds := c.thresholds, staged := c.staged
    ifs := (Tab.mapVal c.ifs (fun _ x => { CardIf.idle with detect := x.detect })).filter (fun e => e.2 ≠ CardIf.idle) }

/-- The reporting channels after a restart: both Mark areas stay, and the next main sequence number with them (R536,
R537). -/
def Rec.restart (r : Rec) : Rec :=
  { Rec.reset with
    markBuf := r.markBuf, markMain := r.markMain, markNext := r.markNext, markBase := r.markBase, markLost := r.markLost
    markGap := r.markGap, plinthMarks := r.plinthMarks, plinthNext := r.plinthNext }

/-- The Mark records still in the buffer are lost; their sequence numbers stay unused (R537). -/
def Dev.loseMarks (d : Dev) : Dev :=
  match d.log.markBuf with
  | [] => d
  | m :: _ =>
    let first := match d.log.markGap with | some g => g.1 | none => m.seq
    { d with log := { d.log with
      markBuf := [], markLost := d.log.markLost ++ [(m.seq, d.log.markNext)], markGap := some (first, d.log.markNext) } }

/-- Vault writes whose NAND operations complete before power goes (R203, R505). -/
def Dev.completeWrites (d : Dev) (n : Nat) : Dev := (d.keys.writes.take n).foldl (fun a w => a.vaultApply w) d

/-- Everything volatile at its reset value; keep selects the register fields that stay. -/
def Dev.restart (d : Dev) (keep : Nat → Bool) : Dev :=
  { Dev.reset with
    regs := d.regs.keep keep
    log := d.log.restart
    face := { Face.reset with perst := d.face.perst }
    wires := { Wires.reset with demand := d.wires.demand, stoppedClocks := d.wires.stoppedClocks }
    keys := d.keys.restart
    cards := d.cards.restart
    plinth := d.plinth
    cs := { d.cs with reading := none, data := [] }
    power := d.power
    free := d.free
    outbox := d.outbox }

/-- A module reset: Vault and OTP writes already passed on complete, every register returns to its reset value, and the
Footing ROM starts anew (R41, R444, R511). -/
def Dev.moduleReset (d : Dev) (p : Perm) : Dev :=
  let d1 := (d.dbgClose p 4).completeWrites d.keys.writes.length
  let d2 := d1.restart persistKey
  { d2 with power := { d2.power with stage := .window, dip := false, rootRetry := false, measuring := false } }

end Sys2Proof.Machine
end

