-- ==== Sys2Proof/Machine/LifeCycle.lean ====
section
/-! DEFINITION. The life cycle and debug authorization (ch. 12): transitions with their steps, tokens, the TAP and the debug
session. -/

namespace Sys2Proof.Machine

/-! ## Transitions (R443 to R448) -/

/-- The present state and a target form a row of R443. A held module, or a failed or absent root, opens the way to ANALYSIS
from SEALED on. -/
def Dev.lcRow (d : Dev) (state target : Nat) : Bool :=
  let root := d.get R.KT_STATUS_ROOT
  match target with
  | 1 => state == 0
  | 2 => state == 1
  | 3 => state == 2
  | 4 => state == 3
  | 5 => state == 4
  | 6 => state == 5 || ((state == 3 || state == 4) && (root == 0 || root == 3)) || (d.on R.LC_STATUS_HELD && state < 6)
  | 7 => state < 7
  | _ => false

/-- A Brynhal token stands for a transition to a target (R454). -/
def Dev.tokenFor (d : Dev) (target : Nat) : Bool := d.life.standing == some (1, target)

/-- The authorization of a row is missing: the status that says so (R443). -/
def Dev.lcAuthFault (d : Dev) (state target : Nat) : Option Status :=
  match target with
  | 4 => if d.authStands 9 then none else some .policyDenied
  | 5 => if d.authStands 1 then none else some .policyDenied
  | 7 =>
    if !d.tokenFor 7 then some .authToken
    else if state = 4 ∧ d.rootPresent ∧ !d.authStands 1 then some .policyDenied
    else none
  | t => if d.tokenFor t then none else some .authToken

/-- The thresholds that LC_ROSTER_M gives: class and M (R460). -/
def Dev.stagedThresholds (d : Dev) : Tab Nat :=
  (List.range 10).map (fun i =>
    (i + 1, if i < 6 then bits (d.get R.LC_ROSTER_M_LO) (5 * i + 4) (5 * i)
      else bits (d.get R.LC_ROSTER_M_HI) (5 * (i - 6) + 4) (5 * (i - 6))))

/-- A roster is valid for classes 1 to 10: at most 16 cards, and for each class a threshold of 2 to 16 that its cards can
reach (R400). -/
def rosterValid (roster : List RosterEntry) (m : Tab Nat) : Bool :=
  roster.length ≤ 16 && (List.range 10).all (fun i =>
    let t := Tab.get m (i + 1) 0
    2 ≤ t && t ≤ 16 && t ≤ (roster.filter (fun e => bitOf e.classes i)).length)

/-- The pre-checks of a row fail (R443). -/
def Dev.lcPrecheckFails (d : Dev) (target : Nat) : Bool :=
  match target with
  | 3 => !(d.keys.certificate.isSome && d.rootPresent && rosterValid d.cards.staged d.stagedThresholds)
  | 4 => !rosterValid d.cards.roster d.cards.thresholds
  | _ => false

/-- The steps of a transition, by progress bit (R443). -/
def lcSteps (state target : Nat) : List Nat :=
  match target with
  | 1 => [0]
  | 2 => [0, 1, 2, 3, 4, 5]
  | 3 => [0, 1, 2, 3]
  | 4 => [0]
  | 5 => [0, 1, 2]
  | 6 => [0, 1, 2, 3, 4, 5]
  | 7 => if state < 6 then [0, 1, 2, 3, 4, 5, 6, 7] else [6, 7]
  | _ => []

/-- The first step of a transition whose progress bit is clear (R449). -/
def Perm.nextStep (p : Perm) (target : Nat) : Option Nat :=
  (lcSteps p.lcState target).find? (fun k => !bitOf (p.otpWord target) (4 + k))

/-- Program bits of a life-cycle word of OTP (R449): bits are only ever set. -/
def Perm.program (p : Perm) (w v : Nat) : Perm := { p with otp := Tab.set p.otp w 0 (p.otpWord w ||| v) }

/-- Show the target and the step in progress (R460). -/
def Dev.lcShow (d : Dev) (p : Perm) (target : Nat) : Dev :=
  ((d.set R.LC_STATUS_TARGET target).set R.LC_STATUS_STEP ((p.nextStep target).getD 0)).set R.LC_STATUS_BUSY 1

/-- A request or a step records its status (R443, R460). -/
def Dev.lcStatus (d : Dev) (st : Status) : Dev := d.set R.LC_STATUS_STATUS st.code

/-- A write of LC_CTRL with the target of a standing transition token is the one write that token stands for (R454). -/
def Dev.spendToken (d : Dev) (target : Nat) : Dev :=
  if d.tokenFor target then
    ({ d with life := { d.life with standing := none } }).set R.LC_TOKEN_STATUS_STANDING 0
  else d

/-- Why a request for a transition is refused (R443, R447, R451). -/
def Dev.lcFault (d : Dev) (p : Perm) (target : Nat) : Option Status :=
  let analysis := target = 6 ∨ target = 7
  if d.on R.LC_STATUS_HELD ∧ ¬ analysis then some .lcHeld
  else if d.life.transition.isSome ∧ ¬ (analysis ∧ d.tokenFor target) then some .lcPending
  else if !d.lcRow p.lcState target then some .lcTarget
  else
    match d.lcAuthFault p.lcState target with
    | some st => some st
    | none => if d.lcPrecheckFails target then some .lcPrecheck else none

/-- LC_TRANSITION_REQUEST: a write of LC_CTRL. With GO, the request is checked, and on acceptance the intent mark of the
target is programmed, which ends a debug session (R443, R444, R456). -/
def lcTransitionRequest (v : Nat) (p : Perm) (d : Dev) : Perm × Dev :=
  let target := bits v 10 8
  let d0 := d.set R.LC_CTRL_TARGET target
  if !bitOf v 0 then (p, d0)
  else
    match d0.lcFault p target with
    | some st => (p, (d0.spendToken target).lcStatus st)
    | none =>
      let p1 := p.program target 0xF
      let covered := target = 4 ∨ target = 5 ∨ (target = 7 ∧ p.lcState = 4 ∧ d.rootPresent)
      let d1 := d0.spendToken target
      let d2 := ((if covered then d1.authStart else d1).dbgClose p 3).lcStatus .ok
      (p1, (({ d2 with life := { d2.life with transition := some ⟨target, 0⟩ } }).lcShow p1 target))

/-! ## The steps (R443, R448) -/

/-- The Vault's user areas hold nothing: logical maps of the checkpoint and objects areas cleared (R201, R443). -/
def Dev.clearVault (d : Dev) : Dev :=
  { d with
    keys := { d.keys with
      objs := [], nonces := [], entries := [], writes := [], slots := [], useWrites := [], waits := [], floorRecord := []
      lastObj := [], lastEntry := 0, bundle := none }
    cards := { d.cards with roster := [], thresholds := [] } }

/-- Steps 0 to 5 of ANALYSIS and SCRAP: share, helper copies, caches and scratch key, logical maps, block erase (R443). -/
def analysisStep (k : Nat) (p : Perm) (d : Dev) : Perm × Dev :=
  match k with
  | 0 => ({ p with shareErased := true }, d.shareGone)
  | 1 => (p, { d with keys := { d.keys with helpers := (⟨0, false⟩, d.keys.helpers.2) } })
  | 2 => (p, { d with keys := { d.keys with helpers := (d.keys.helpers.1, ⟨0, false⟩) } })
  | 3 => (p, d.eraseCaches)
  | 4 => (p, d.clearVault)
  | _ => (p, d)

/-- The steps of the move to PROVISIONED: NAND erased, HBM zeroed, evidence key programmed, sealing share drawn, helper
copies enrolled, identity public key placed in the NOR record (R443, R445). -/
def provisionStep (k : Nat) (p : Perm) (d : Dev) : Option Status × Perm × Dev :=
  match k with
  | 0 => (none, p, d.clearVault)
  | 1 => (none, p, { d with hbm := [] })
  | 3 =>
    match d.drbgDraw internalDrbg 32 with
    | none => (some .entropyFail, p, d)
    | some (b, d1) => (none, { p with shareErased := false }, { d1 with plinth := { d1.plinth with share := some b } })
  | 4 => (none, p, { d with keys := { d.keys with helpers := (⟨1, true⟩, ⟨1, true⟩) } })
  | 5 => (none, p, { d with keys := { d.keys with identity := d.plinth.share.map (fun s => identityPublic (quarryRoot s)) } })
  | _ => (none, p, d)

/-- The steps of the move to SEALED: the seconds count starts, the checkpoint area is formatted, the floor record written
with FLOOR = FORMAT_MAX, the roster written (R443). -/
def sealStep (k : Nat) (d : Dev) : Dev :=
  match k with
  | 0 => { d with plinth := { d.plinth with running := true, seconds := 0 } }
  | 1 => { d with keys := { d.keys with nonces := [], floorRecord := [] } }
  | 2 =>
    let f := d.get R.KT_FLEET_FLOOR_FORMAT_MAX
    ({ d with
      keys := { d.keys with floorRecord := [(f, d.plinth.seconds)] }
      power := { d.power with floorCopy := f } }).set R.KT_FLEET_FLOOR_FLOOR f
  | _ => { d with cards := { d.cards with roster := d.cards.staged, thresholds := d.stagedThresholds, staged := [] } }

/-- The steps of the move to DECOMMISSIONED: sessions ended and identifiers unbound, every bay reset, caches, session keys
and DRBG instances erased (R443). -/
def decommissionStep (k : Nat) (d : Dev) : Dev :=
  match k with
  | 0 =>
    let d1 := d.endSessions
    { d1 with sched := { d1.sched with bindings := [] } }
  | 1 => (List.range 256).foldl (fun a b => a.resetAction b) d
  | _ =>
    let d1 := d.eraseCaches.eraseDrbgs
    { d1 with keys := { d1.keys with scratchKey := d.keys.scratchKey } }

/-- A step needs the root: it uses the checkpoint area, which the Vault key encrypts (R202, R448). -/
def stepNeedsRoot (target k : Nat) : Bool := (target == 3 && 1 ≤ k) || target == 4

/-- Run a step of a transition from its beginning: the status it ends with where it does not complete (R443, R445, R448). ok
is the finding of a step that checks. -/
def Dev.lcStep (d : Dev) (p : Perm) (target k : Nat) (ok : Bool) : Option Status × Perm × Dev :=
  if stepNeedsRoot target k ∧ (d.get R.KT_STATUS_ROOT = 0 ∨ d.get R.KT_STATUS_ROOT = 3) then (some .rootAbsent, p, d)
  else
    match target with
    | 1 => (if ok then none else some .lcPrecheck, p, d)
    | 2 => provisionStep k p d
    | 3 => (none, p, sealStep k d)
    | 4 => (if ok then none else some .lcPrecheck, p, d)
    | 5 => (none, p, decommissionStep k d)
    | _ => (none, analysisStep k p d)

/-- Every state group from the present state up to the target is programmed, the transition is recorded, and the module is
reset (R444). -/
def Dev.lcFinish (d : Dev) (p : Perm) (target : Nat) : Perm × Dev :=
  let p1 := p.program 0 (2 ^ (4 * target) - 1)
  let d1 := (d.authDone.csAdd p1 0x0B 0xFF p1.level).mark .lcDone .management 0 p.lcState target
  (p1, (d1.raiseInt .lc 0 2).moduleReset p1)

/-- LC_STEP_DONE: the step in progress ends; its progress bit is programmed, and after the last step the groups are. A step
that cannot complete leaves the transition pending (R444, R448). -/
def lcStepDone (ok : Bool) (p : Perm) (d : Dev) : Perm × Dev :=
  match d.life.transition with
  | none => (p, d)
  | some t =>
    match p.nextStep t.target with
    | none => d.lcFinish p t.target
    | some k =>
      match d.lcStep p t.target k ok with
      | (some st, p1, d1) => (p1, d1.lcStatus st)
      | (none, p1, d1) =>
        let p2 := p1.program t.target (2 ^ (4 + k))
        if (p2.nextStep t.target).isNone then (d1.lcStatus .ok).lcFinish p2 t.target
        else (p2, (d1.lcStatus .ok).lcShow p2 t.target)

/-! ## Challenges and tokens (R452 to R454) -/

/-- Put an end to the live challenge (R453). -/
def Dev.dropChallenge (d : Dev) : Dev := ({ d with life := { d.life with challenge := none } }).set R.LC_CHAL_CTL_LIVE 0

/-- LC_CHALLENGE_NEW: a write of 1 to NEW draws a challenge from the internal DRBG (R453); a draw that the noise source does
not permit is refused (R210). -/
def lcChallengeNew (req : Requester) (v : Nat) (d : Dev) : Dev :=
  if !bitOf v 0 then d
  else
    match d.drbgDraw internalDrbg 32 with
    | none => d.err .lc 0 req .entropyFail
    | some (b, d1) => ({ d1 with life := { d1.life with challenge := some b } }).set R.LC_CHAL_CTL_LIVE 1

/-- TOKEN_SUBMIT: a write of 1 to SUBMIT ends the live challenge and starts the check (R454). -/
def tokenSubmit (v : Nat) (d : Dev) : Dev :=
  if !bitOf v 0 ∨ d.on R.LC_TOKEN_STATUS_BUSY then d
  else
    let c : TokenCheck := ⟨d.life.challenge.isSome, d.life.challenge.getD []⟩
    let d1 := d.dropChallenge
    ({ d1 with life := { d1.life with checking := some c } }).set R.LC_TOKEN_STATUS_BUSY 1

/-- The 188 bytes of the token as the token words hold them, the lowest byte of a word first (R7, R452). -/
def Dev.tokenBytes (d : Dev) : Bytes := (List.range 47).flatMap (fun w => leBytes 4 (Tab.get d.life.token w 0))

/-- A field of the token, big-endian (R452). -/
def field (b : Bytes) (first n : Nat) : Nat := beNat ((b.drop first).take n)

/-- The debug mask that a state permits (R457). -/
def debugMask (state : Nat) : Nat :=
  match state with
  | 0 => 0x7F
  | 1 => 0xFF
  | 4 => 0x05
  | 6 => 0xFF
  | 7 => 0x40
  | _ => 0x1F

/-- What an accepted token opens or leaves standing. -/
inductive TokenUse where
  | stands (purpose what : Nat)
  | debug (scope seconds : Nat)
deriving DecidableEq, Repr

/-- Check a token in the order of R454. signed says whether its signature verifies under the life-cycle key. -/
def Dev.tokenCheck (d : Dev) (p : Perm) (c : TokenCheck) (signed : Bool) : Status ⊕ TokenUse :=
  let b := d.tokenBytes
  let purpose := field b 2 1
  let what := field b 3 1
  let scope := field b 44 4
  let seconds := field b 48 4
  if !c.live then .inl .challengeAbsent
  else if field b 0 2 ≠ 0x0010 ∨ field b 4 8 ≠ Config.moduleUid.toNat ∨ (b.drop 12).take 32 ≠ c.challenge ∨
      field b 52 4 ≠ 0 ∨ !signed then .inl .authToken
  else if purpose = 1 then
    if 1 ≤ what ∧ what ≤ 7 then .inr (.stands 1 what) else .inl .authToken
  else if purpose = 2 then
    if scope ||| debugMask p.lcState ≠ debugMask p.lcState ∨ seconds = 0 ∨ seconds > 86400 then .inl .authToken
    else if d.life.transition.isSome then .inl .lcPending
    else if p.lcState = 4 ∧ !d.authStands 7 then .inl .policyDenied
    else .inr (.debug scope seconds)
  else if purpose = 3 then
    if p.lcState ≤ 1 ∧ fusable what then .inr (.stands 3 what) else .inl .authToken
  else .inl .authToken

/-- A token check ends (R460). -/
def Dev.tokenEnd (d : Dev) (st : Status) : Dev :=
  let d1 : Dev := { d with life := { d.life with checking := none } }
  ((d1.set R.LC_TOKEN_STATUS_BUSY 0).set R.LC_TOKEN_STATUS_STATUS st.code).raiseInt .lc 0 4

/-- Open a debug session (R456). -/
def Dev.dbgOpen (d : Dev) (p : Perm) (scope seconds : Nat) : Dev :=
  let d0 := if p.lcState = 4 then (d.authStart).authDone else d
  let d1 : Dev := { d0 with life := { d0.life with session := some scope } }
  let d2 := ((d1.set R.DBG_STATUS_SESSION 1).set R.DBG_STATUS_SCOPE scope).set R.DBG_REMAIN seconds
  (((d2.bumpWrap R.DBG_SESSIONS).csAdd p 0x0C 0xFF p.level).mark .dbgOpen .debug 0 scope seconds).raiseInt .dbg 0 2

/-- TOKEN_CHECK_DONE: the check ends; a transition or fuse token stands, a debug token opens a session (R454, R456). -/
def tokenCheckDone (signed : Bool) (p : Perm) (d : Dev) : Dev :=
  match d.life.checking with
  | none => d
  | some c =>
    match d.tokenCheck p c signed with
    | .inl st => d.tokenEnd st
    | .inr (.stands purpose what) =>
      (({ d with life := { d.life with standing := some (purpose, what) } }).set R.LC_TOKEN_STATUS_STANDING 1).tokenEnd .ok
    | .inr (.debug scope seconds) => (d.dbgOpen p scope seconds).tokenEnd .ok

/-- TOKEN_STANDING_EXPIRY: a standing token lapses (R454). -/
def tokenStandingExpiry (d : Dev) : Dev :=
  ({ d with life := { d.life with standing := none } }).set R.LC_TOKEN_STATUS_STANDING 0

/-! ## The debug session and the TAP (R455 to R458) -/

/-- The scope in effect: that of the open session, or the mask of BLANK and SCRAP, which need no token (R457). -/
def Dev.debugScope (d : Dev) (p : Perm) : Nat :=
  if p.lcState = 0 ∨ p.lcState = 7 then debugMask p.lcState
  else match d.life.session with
    | some s => s &&& debugMask p.lcState
    | none => 0

/-- DBG_END: a write of 1 to DBG_CTL.END (R456). -/
def dbgEnd (v : Nat) (p : Perm) (d : Dev) : Dev := if bitOf v 0 then d.dbgClose p 1 else d

/-- A refusal of the debug port: it is counted, and counts toward tamper source 39 (R455, R458, R471). -/
def Dev.debugRefused (d : Dev) (p : Perm) (stamp : Nat) : Perm × Dev :=
  (d.bumpSat R.DBG_REFUSED).sensorEvent p 39 stamp 0 false

/-- A TAP instruction is permitted in the present state: boundary scan under bit 6 of the scope, DBG_AUTH in every state but
SCRAP, DBG_ACCESS where the state's mask has any bit that the debug master uses. Whether a session and its scope let an access
through is for the gate (R455, R457, R458, R468, log entry 51). -/
def Dev.tapPermits (d : Dev) (p : Perm) (i : TapIns) : Bool :=
  match i with
  | .idcode | .bypass => true
  | .samplePreload | .extest | .intest => bitOf (d.debugScope p) 6
  | .dbgAuth => p.lcState ≠ 7
  | .dbgAccess => debugMask p.lcState &&& 0xBF ≠ 0

/-- Shift in a TAP instruction: one that the state does not permit selects BYPASS and is counted (R455). -/
def tapSelect (i : TapIns) (stamp : Nat) (p : Perm) (d : Dev) : Perm × Dev :=
  if d.tapPermits p i then (p, { d with life := { d.life with tap := i } })
  else ({ d with life := { d.life with tap := .bypass } }).debugRefused p stamp

/-! ## The meanings -/

/-- LC_TRANSITION_REQUEST (R443). -/
def execLcTransitionRequest (v : Word) (s : State) : Host.Outcome State Fault Refusal :=
  s.afterPerm (lcTransitionRequest v.toNat)
/-- LC_STEP_DONE (R444). -/
def execLcStepDone (ok : Bool) (s : State) : Host.Outcome State Fault Refusal := s.afterPerm (lcStepDone ok)
/-- LC_CHALLENGE_NEW (R453). -/
def execLcChallengeNew (req : Requester) (v : Word) (s : State) : Host.Outcome State Fault Refusal :=
  s.after (lcChallengeNew req v.toNat)
/-- CHALLENGE_EXPIRY (R453). -/
def execChallengeExpiry (s : State) : Host.Outcome State Fault Refusal := s.after Dev.dropChallenge
/-- TOKEN_SUBMIT (R454). -/
def execTokenSubmit (v : Word) (s : State) : Host.Outcome State Fault Refusal := s.after (tokenSubmit v.toNat)
/-- TOKEN_CHECK_DONE (R454). -/
def execTokenCheckDone (signed : Bool) (s : State) : Host.Outcome State Fault Refusal :=
  s.afterWith (tokenCheckDone signed)
/-- TOKEN_STANDING_EXPIRY (R454). -/
def execTokenStandingExpiry (s : State) : Host.Outcome State Fault Refusal := s.after tokenStandingExpiry
/-- TAP_IDCODE (R455). -/
def execTapIdcode (stamp : Nat) (s : State) : Host.Outcome State Fault Refusal := s.afterPerm (tapSelect .idcode stamp)
/-- TAP_BYPASS (R455). -/
def execTapBypass (stamp : Nat) (s : State) : Host.Outcome State Fault Refusal := s.afterPerm (tapSelect .bypass stamp)
/-- TAP_SAMPLE_PRELOAD (R455). -/
def execTapSamplePreload (stamp : Nat) (s : State) : Host.Outcome State Fault Refusal :=
  s.afterPerm (tapSelect .samplePreload stamp)
/-- TAP_EXTEST (R455). -/
def execTapExtest (stamp : Nat) (s : State) : Host.Outcome State Fault Refusal := s.afterPerm (tapSelect .extest stamp)
/-- TAP_INTEST (R455). -/
def execTapIntest (stamp : Nat) (s : State) : Host.Outcome State Fault Refusal := s.afterPerm (tapSelect .intest stamp)
/-- DBG_END (R456). -/
def execDbgEnd (v : Word) (s : State) : Host.Outcome State Fault Refusal := s.afterWith (dbgEnd v.toNat)
/-- DEBUG_SESSION_EXPIRY (R456). -/
def execDebugSessionExpiry (s : State) : Host.Outcome State Fault Refusal := s.afterWith (fun p d => d.dbgClose p 0)

end Sys2Proof.Machine
end

