-- ==== Sys2Proof/Machine/Gates.lean ====
section
/-! DEFINITION. Lintel gates (ch. 13): where they stand, the regions, the decision on an access, refusals with their notices,
and commits. -/

namespace Sys2Proof.Machine

/-! ## Placement (R461) -/

/-- The gate of a page of the manager window; none for an unassigned page, which no gate guards (R44, R461). -/
def gateOfPage (pg : Nat) : Option Nat :=
  if pg ≤ 0x002 ∨ (0x010 ≤ pg ∧ pg ≤ 0x012) then some 0
  else if pg = 0x020 ∨ pg = 0x021 then some 1
  else if pg = 0x030 ∨ pg = 0x031 then some 2
  else if 0x040 ≤ pg ∧ pg ≤ 0x042 then some 3
  else if 0x050 ≤ pg ∧ pg ≤ 0x053 then some 4
  else if pg = 0x060 then some 5
  else if pg = 0x320 then some 6
  else if 0x100 ≤ pg ∧ pg ≤ 0x13F then some (7 + (pg - 0x100) / 16)
  else if 0x200 ≤ pg ∧ pg ≤ 0x27F then some (11 + (pg - 0x200) / 32)
  else if 0x280 ≤ pg ∧ pg ≤ 0x28F then some (11 + (pg - 0x280) / 4)
  else if 0x300 ≤ pg ∧ pg ≤ 0x30F then some 15
  else if 0x400 ≤ pg ∧ pg ≤ 0x408 then some 16
  else if pg = 0x410 then some 17
  else if pg = 0x420 ∨ pg = 0x421 then some 18
  else if 0x500 ≤ pg ∧ pg ≤ 0x527 then some 19
  else if 0x600 ≤ pg ∧ pg ≤ 0x6FF then some (20 + (pg - 0x600) / 64)
  else none

/-- The gate in front of a module address; the gates of the bay windows guard their unassigned pages too (R45, R461). -/
def gateOf (addr : Nat) : Option Nat :=
  if 0x02000000 ≤ addr ∧ addr < 0x03000000 then some (24 + bits addr 23 16 / 64)
  else if addr < 0x02000000 then gateOfPage (addr / 0x1000)
  else none

/-- The gate in front of the target of an access. -/
def Access.gate (a : Access) : Option Nat :=
  match a.port with
  | some t => t.gate
  | none => gateOf a.addr

/-- The island code that LG_INFO.ISLAND shows (R461, R477). -/
def gateIsland (g : Nat) : Nat :=
  [0, 0, 14, 0, 6, 3, 6, 3, 3, 3, 3, 4, 4, 4, 4, 5, 10, 11, 12, 7, 3, 3, 3, 3, 3, 3, 3, 3, 8, 8, 8, 8, 1, 2, 9, 0, 0, 3,
    6, 13].getD g 0

/-! ## Regions (R463 to R465) -/

/-- A region descriptor (R463, R464, R477): permissions are X, W, R from bit 2 down. -/
structure Region where
  en : Bool
  base : Nat
  log2 : Nat
  subDis : Nat
  bayMask : Nat
  bayValue : Nat
  selfEn : Bool
  selfShift : Nat
  dbg : Nat
  bay : Nat
  sup : Nat
deriving DecidableEq, Repr

/-- The fields of a region in the staged and in the active bank, in the order of the registers (R477). -/
def regionFields : List (Fld × Fld) :=
  [(R.LG_RGN_BASE_LO, R.LG_ACT_BASE_LO_BASE), (R.LG_RGN_BASE_HI, R.LG_ACT_BASE_HI_BASE),
    (R.LG_RGN_CFG_EN, R.LG_ACT_CFG_EN), (R.LG_RGN_CFG_LOG2_SIZE, R.LG_ACT_CFG_LOG2_SIZE),
    (R.LG_RGN_CFG_SUB_DIS, R.LG_ACT_CFG_SUB_DIS), (R.LG_RGN_PERM_BAY_MASK, R.LG_ACT_PERM_BAY_MASK),
    (R.LG_RGN_PERM_BAY_VALUE, R.LG_ACT_PERM_BAY_VALUE), (R.LG_RGN_PERM_SELF_EN, R.LG_ACT_PERM_SELF_EN),
    (R.LG_RGN_PERM_SELF_SHIFT, R.LG_ACT_PERM_SELF_SHIFT), (R.LG_RGN_PERM_DBG_XWR, R.LG_ACT_PERM_DBG_XWR),
    (R.LG_RGN_PERM_BAY_XWR, R.LG_ACT_PERM_BAY_XWR), (R.LG_RGN_PERM_SUP_XWR, R.LG_ACT_PERM_SUP_XWR)]

/-- Region r of a gate as the staged or the active bank holds it (R472, R474). -/
def Dev.region (d : Dev) (g : Nat) (active : Bool) (r : Nat) : Region :=
  let v (i : Nat) : Nat := match regionFields[i]? with
    | some e => d.get (if active then e.2 else e.1) g r
    | none => 0
  ⟨v 2 == 1, v 1 * 2 ^ 32 + v 0 * 2 ^ 12, v 3, v 4, v 5, v 6, v 7 == 1, v 8, v 9, v 10, v 11⟩

/-- A byte address lies in an enabled sub-region of a region that matches the requester: the number of the sub-region (R463,
R465). -/
def Region.sub (x : Region) (req : Requester) (a : Nat) : Option Nat :=
  let inside := x.en && decide (x.base ≤ a) && decide (a < x.base + 2 ^ x.log2)
  let j := (a - x.base) / 2 ^ (x.log2 - 3)
  let bays := match req.origin with
    | .bay | .program =>
      req.bay &&& x.bayMask == x.bayValue &&& x.bayMask && (!x.selfEn || a / 2 ^ x.selfShift % 256 == req.bay)
    | _ => true
  if inside && !bitOf x.subDis j && bays then some j else none

/-- The region that decides for a byte address: the highest-numbered that matches, with its sub-region (R465). -/
def Dev.deciding (d : Dev) (g : Nat) (req : Requester) (a : Nat) : Option (Nat × Nat) :=
  ((List.range 16).reverse).findSome? (fun r => ((d.region g true r).sub req a).map (fun j => (r, j)))

/-! ## The decision (R462, R464, R466 to R468) -/

/-- The permission bit that an operation needs: R 0, W 1, X 2 (R462). -/
def AccessOp.bit : AccessOp → Nat
  | .read => 0 | .write => 1 | .posted => 1 | .fetch => 2

/-- The permissions of the default map (R467). -/
def defaultMap (g : Nat) : Nat :=
  if g = 38 then 0 else if g = 36 then 1 else if (28 ≤ g ∧ g ≤ 31) ∨ g = 35 then 7 else 3

/-- The bits of an origin's class that a gate heeds (R464). -/
def heeded (g : Nat) (o : Origin) (xwr : Nat) : Nat :=
  match o with
  | .supervisor => if g = 38 then 0 else if g = 36 then xwr &&& 1 else xwr
  | .debug => if g = 36 then xwr &&& 1 else xwr
  | _ => if g ≥ 36 then 0 else xwr

/-- A region's permissions for an origin (R464). -/
def Region.permits (x : Region) (o : Origin) : Nat :=
  match o with
  | .supervisor => x.sup
  | .debug => x.dbg
  | _ => x.bay

/-- The scope bits that a debug access needs (R468). -/
def debugNeeds (g : Nat) (op : AccessOp) : Nat :=
  let reads := op = .read
  let need :=
    if op = .fetch then 0x10
    else if (28 ≤ g ∧ g ≤ 35) ∨ g = 37 then (if reads then 0x04 else 0x08)
    else if reads then 0x01 else 0x02
  if g = 38 ∨ g = 39 then need ||| 0x80 else need

/-- A debug access is within the scope in effect (R468). -/
def Dev.debugReach (d : Dev) (p : Perm) (g : Nat) (op : AccessOp) : Bool :=
  d.debugScope p &&& debugNeeds g op == debugNeeds g op

/-- The decision on an access: the cause of a refusal, 0 for none, and the deciding region (R466, R477). -/
def Dev.gateDecide (d : Dev) (p : Perm) (g : Nat) (a : Access) : Nat × Nat :=
  let o := a.req.origin
  if o = .debug ∧ !d.debugReach p g a.op then (6, 0)
  else
    match d.deciding g a.req a.addr, d.deciding g a.req (a.addr + a.size - 1) with
    | none, none =>
      if o = .supervisor then (if bitOf (heeded g o (defaultMap g)) a.op.bit then 0 else 1, 0) else (3, 0)
    | some f, some l =>
      if f ≠ l then (2, f.1)
      else (if bitOf (heeded g o ((d.region g true f.1).permits o)) a.op.bit then 0 else 1, f.1)
    | f, _ => (2, match f with | some x => x.1 | none => 0)

/-! ## Answers (R38, R353, R458, R469, R489) -/

/-- Send the answer to an access where it is due: to its requester, as a PCIe completion, a MGMT_RESPONSE or on the debug
port. A posted access has none. -/
def Dev.respond (d : Dev) (a : Access) (st : Status) (data : Nat) : Dev :=
  match a.reply with
  | .none | .half _ _ => d
  | .requester => d.send (.answer a.req a.addr ⟨st, data⟩)
  | .tlp tag =>
    d.send (.tlp tag data (if st = .ok then .ok else if st = .policyDenied then .unsupported else .abort))
  | .mgmt session reqId =>
    match Tab.look d.face.sessions session with
    | none => d.bumpSat R.NF_ORPHANED
    | some s => ((d.nextFrame session s).countTx s.src).send (.mgmtResponse s.src session (s.sent + 1) reqId st data)
  | .tap => d.send (.tap (data + (if st = .ok then 0 else 2 ^ (8 * a.size))) (8 * a.size + 1))

/-- The one status of a split access: that of the first half that did not end with ST_OK (R38). -/
def Split.status (lo hi : Answer) : Status := if lo.status = .ok then hi.status else lo.status

/-- Take the answer of one half of a split access; with both, the whole access is answered (R38). -/
def Dev.joinHalf (d : Dev) (id : Nat) (upper : Bool) (x : Answer) : Dev :=
  match Tab.look d.wires.splits id with
  | none => d
  | some s =>
    let s1 := if upper then { s with upper := some x } else { s with lower := some x }
    match s1.lower, s1.upper with
    | some lo, some hi =>
      ({ d with wires := { d.wires with splits := Tab.del d.wires.splits id } }).respond s.whole (Split.status lo hi)
        (lo.data + hi.data * 2 ^ 32)
    | _, _ => { d with wires := { d.wires with splits := Tab.put d.wires.splits id s1 } }

/-- The answer to an access, whole or one half of a split one (R38). -/
def Dev.answerTo (d : Dev) (a : Access) (st : Status) (data : Nat) : Dev :=
  match a.reply with
  | .half id upper => d.joinHalf id upper ⟨st, data⟩
  | _ => d.respond a st data

/-- Answer an access that brings no data back: what a read shows is a free value (log entry 20). -/
def Dev.answerLost (d : Dev) (a : Access) (st : Status) : Dev :=
  match a.op with
  | .read | .fetch => let r := d.draw a.size; r.2.answerTo a st (leNat r.1)
  | _ => d.answerTo a st 0

/-- All ones in every data word of an access (R469). -/
def Access.ones (a : Access) : Nat := 2 ^ (8 * a.size) - 1

/-! ## Refusals (R469 to R471, R475) -/

/-- The fields of LG_FAULT_INFO below VALID for an access (R477). -/
def faultInfo (a : Access) (kind region : Nat) : Nat :=
  kind * 2 ^ 28 + a.req.origin.code * 2 ^ 26 + a.op.code * 2 ^ 22 + region * 2 ^ 18 + b2n (a.op == .posted) * 2 ^ 17 +
    a.req.bay * 2 ^ 8 + a.src % 256

/-- Capture a fault while VALID is 0 (R477). -/
def Dev.captureFault (d : Dev) (g : Nat) (a : Access) (kind region : Nat) : Dev :=
  if d.on R.LG_FAULT_INFO_VALID g then d
  else
    let d1 := (d.set R.LG_FAULT_ADDR_LO (low 32 a.addr) g).set R.LG_FAULT_ADDR_HI (bits a.addr 47 32) g
    let d2 := ((d1.set R.LG_FAULT_INFO_VALID 1 g).set R.LG_FAULT_INFO_KIND kind g).set R.LG_FAULT_INFO_ORIGIN
      a.req.origin.code g
    let d3 := ((d2.set R.LG_FAULT_INFO_OP a.op.code g).set R.LG_FAULT_INFO_REGION region g).set R.LG_FAULT_INFO_POSTED
      (b2n (a.op == .posted)) g
    (d3.set R.LG_FAULT_INFO_BAY a.req.bay g).set R.LG_FAULT_INFO_SRC a.src g

/-- The notice of a refusal: counted, captured, recorded, and placed in the bay's ring where a bay's access was refused
(R470). -/
def Dev.gateNotice (d : Dev) (g : Nat) (a : Access) (kind region : Nat) : Dev :=
  let posted := a.op = .posted
  let ev : Event := if posted then .gateImprecise else .gateFault
  let d1 := (d.captureFault g a kind region).bumpSat (if posted then R.LG_IMPRECISE else R.LG_FAULTS) g
  let d2 := (d1.occur 0x090 none (g / 4)).raiseInt .lg g (if posted then 3 else 2)
  let d3 := d2.mark ev .mortar g (low 32 a.addr) (bits a.addr 47 32) (faultInfo a kind region)
  match a.req.origin with
  | .bay | .program => d3.ringEvent a.req.bay ev (low 32 a.addr) (bits a.addr 47 32 + kind * 2 ^ 16)
  | _ => d3

/-- Refuse an access: the notice, the answer, and for a debug access one event of source 39 (R469, R471). -/
def Dev.gateRefuse (d : Dev) (p : Perm) (g : Nat) (a : Access) (kind region stamp : Nat) : Perm × Dev :=
  let d1 := (d.gateNotice g a kind region).answerTo a .policyDenied a.ones
  if a.req.origin = .debug then d1.debugRefused p stamp else (p, d1)

/-- Fault an access at a drain timeout: a posted write is dropped with its notice, and any other is answered with ST_ABORTED
(R475, R477). -/
def Dev.gateFault (d : Dev) (g : Nat) (a : Access) : Dev := (d.gateNotice g a 5 0).answerLost a .aborted

/-! ## Commits (R472, R473) -/

/-- A region that a commit refuses: enabled, with a size out of range or a base not aligned to it (R472). -/
def Region.bad (x : Region) : Bool := x.en && (x.log2 < 12 || x.log2 > 48 || x.base % 2 ^ x.log2 ≠ 0)

/-- The drain of a gate, if a commit is pending. -/
def Dev.drain (d : Dev) (g : Nat) : Option GateDrain := Tab.look d.gates g

/-- LG_COMMIT: a write of 1 to GO checks the staged bank and opens a drain with the accesses in flight (R472, R473). -/
def lgCommit (req : Requester) (g v inflight : Nat) (d : Dev) : Dev :=
  if !bitOf v 0 ∨ d.on (R.LOCK .lg) g then d
  else if (d.drain g).isSome then d.err .lg g req .policyDenied
  else if (List.range 16).any (fun r => (d.region g false r).bad) then d.err .lg g req .inputRange
  else
    let d1 : Dev := { d with gates := Tab.put d.gates g ⟨[], false⟩ }
    d1.set R.LG_DRAIN_INFLIGHT inflight g

/-- GATE_DRAIN_TIMEOUT: the drain has not ended within 4,000 Mortar clocks, and every held access is faulted (R475). -/
def gateDrainTimeout (g : Nat) (d : Dev) : Dev :=
  match d.drain g with
  | none => d
  | some x =>
    if x.late then d
    else
      let d1 : Dev := { d with gates := Tab.put d.gates g ⟨[], true⟩ }
      let d2 := (d1.bumpSat R.LG_DRAIN_TIMEOUTS g).raiseInt .lg g 4
      let d3 := d2.mark .gateDrainTimeout .mortar g (min 64 x.held.length) (d.get R.LG_DRAIN_INFLIGHT g)
      x.held.foldl (fun a h => a.gateFault g h) d3

/-- Copy the staged bank to the active bank (R474). -/
def Dev.activateBank (d : Dev) (g : Nat) : Dev :=
  (List.range 16).foldl (fun a r => regionFields.foldl (fun b e => b.set e.2 (b.get e.1 g r) g r) a) d

/-- The end of a drain, but for the held accesses: new rules, EPOCH, LAST, COMMITTED (R474, R475). -/
def Dev.drainDone (d : Dev) (g clocks : Nat) (late : Bool) : Dev :=
  let d1 : Dev := { d with gates := Tab.del d.gates g }
  let d2 := ((d1.activateBank g).set R.LG_DRAIN_INFLIGHT 0 g).set R.LG_DRAIN_TIME clocks g
  ((d2.set R.LG_COMMIT_LAST (if late then 2 else 1) g).bumpWrap (R.EPOCH .lg) g).raiseInt .lg g 5

/-! ## The meanings -/

/-- LG_COMMIT (R472). -/
def execLgCommit (req : Requester) (g : Fin 40) (v : Word) (inflight : BitVec 16) (s : State) :
    Host.Outcome State Fault Refusal := s.after (lgCommit req g v.toNat inflight.toNat)
/-- GATE_DRAIN_TIMEOUT (R475). -/
def execGateDrainTimeout (g : Fin 40) (s : State) : Host.Outcome State Fault Refusal := s.after (gateDrainTimeout g)

end Sys2Proof.Machine
end

