-- ==== Sys2Proof/Machine/Pair.lean ====
section
/-! DEFINITION. The Keystone pair (ch. 14): inputs and digests, heartbeats, failure, switch, restart, planned handover and
revert. -/

namespace Sys2Proof.Machine

/-! ## Units, claims and the role (R481, R482, R484) -/

/-- Change the plain data of a unit. -/
def Dev.setUnit (d : Dev) (u : Nat) (x : KUnit) : Dev :=
  { d with pair := if u = 0 then { d.pair with a := x } else { d.pair with b := x } }

/-- The state of a unit (R484). -/
def Dev.ksState (d : Dev) (u : Nat) : Nat := d.get R.KS_STATUS_STATE u

/-- The unit that holds the role (R484). -/
def Dev.controller (d : Dev) : Option Nat := (List.range 2).find? (fun u => d.ksState u == 4)

/-- A unit's claim in a state: the role bit and the unit bit (R481). -/
def claimOf (u state : Nat) : Nat := (if state = 4 then 0x80 else 0) + (if u = 0 then 1 else 0)

/-- The claim that the output stages obey: that of the unit with the role, 0 while no unit has it (R482, R502). -/
def Dev.showRole (d : Dev) : Dev :=
  match d.controller with
  | some u => (d.set R.KS_PAIR_STATUS_CONTROLLER (claimOf u 4)).set R.KS_PAIR_STATUS_LOST 0
  | none => d.set R.KS_PAIR_STATUS_CONTROLLER 0

/-- Put a unit into a state (R484, R502, R503). -/
def Dev.setKs (d : Dev) (u st : Nat) : Dev :=
  let d1 := ((d.set R.KS_STATUS_STATE st u).set R.KS_STATUS_CLAIM (claimOf u st) u).set R.KS_MATCHED_S 0 u
  let d2 := if st < 2 then (d1.set R.KS_FW_RELEASE 0 u).set R.KS_FW_PAIR_MIN 0 u else d1
  let d3 := if st < 2 ∨ st = 4 then d2.set R.KS_LAG 0 u else d2
  if d.ksState u = st then d3.showRole else d3.showRole.raiseInt .ks u 2

/-- The images the module runs have changed (R218, R298). -/
def Dev.imagesChanged (d : Dev) : Dev := d.refreshFormats.refreshStale

/-! ## Management operations at a switch (R489) -/

/-- The answer to an access goes to a PCIe completion, of a whole access or of a split one (R38, R489). -/
def Dev.forTlp (d : Dev) (a : Access) : Bool :=
  let tlp (r : Reply) : Bool := match r with | .tlp _ => true | _ => false
  match a.reply with
  | .half id upper => !upper && (match Tab.look d.wires.splits id with | some s => tlp s.whole.reply | none => false)
  | r => tlp r

/-- Manager accesses that a gate or a crossing holds end with ST_CONTROL_SWITCHED; a BAR0 read so ended is recorded in MODULE
ERR_INFO. -/
def Dev.endHeld (d : Dev) : Dev :=
  let mine (a : Access) : Bool := a.req.origin == .supervisor
  let ended := d.gates.flatMap (fun e => e.2.held.filter mine) ++
    d.wires.xings.flatMap (fun x => x.waiting.filter mine)
  let kept := Tab.mapVal d.gates (fun _ x => { x with held := x.held.filter (fun a => !mine a) })
  let d1 := d.wires.xings.foldl (fun b x => b.setXing { x with waiting := x.waiting.filter (fun a => !mine a) })
    { d with gates := kept }
  ended.foldl (fun b a =>
    let b1 := if d.forTlp a then b.err .module 0 a.req .controlSwitched else b
    b1.answerLost a .controlSwitched) d1

/-- A bundle operation ends: what a restore wrote is purged unless it is committing (R216, R489). -/
def Dev.endBundle (d : Dev) : Dev :=
  match d.keys.bundle with
  | none => d
  | some b =>
    if b.op = 1 then d.bundleEnd .controlSwitched
    else if b.committing then d.commitRestore.bundleEnd .controlSwitched
    else d.purgeRestore.bundleEnd .controlSwitched

/-- A microcode load ends (R489). -/
def Dev.endLoad (d : Dev) (e : Nat) : Dev :=
  if d.on R.VS_UCODE_STATUS_LOADING e then
    ((d.set R.VS_UCODE_CTL 0 e).set R.VS_UCODE_STATUS_LOADING 0 e).set R.VS_UCODE_STATUS_STATUS
      Status.controlSwitched.code e
  else d

/-- Every management operation in progress ends with ST_CONTROL_SWITCHED (R489). -/
def Dev.endMgmtOps (d : Dev) : Dev :=
  let d1 := d.endHeld.endBundle
  let d2 := if d1.keys.certWait then
      ({ d1 with keys := { d1.keys with certWait := false } }).ktEnd .controlSwitched
    else d1
  let d3 := (List.range 2).foldl (fun a i => a.breakExchange i .controlSwitched) d2
  (List.range 16).foldl (fun a e => a.endLoad e) d3

/-! ## Failure and switch (R486, R488, R491) -/

/-- The heartbeat windows of one hour (R485, R492, R499). -/
def hourWindows : Nat := 36000000

/-- Entries of a history within the past hour. -/
def Dev.pastHour (d : Dev) (l : List Nat) : List Nat := l.filter (fun t => t + hourWindows > d.pair.windows)

/-- The role moves from one unit to another: kind 0 failure, 1 planned handover, 2 revert (R488, R496, R567). -/
def Dev.moveRole (d : Dev) (old new after kind : Nat) : Dev :=
  let d1 := (d.setKs old after).setKs new 4
  let d2 : Dev := { d1 with pair := { d1.pair with digests := [] } }
  let d3 := d2.set R.KS_INPUT_LO (low 32 (d2.pair.nextInput - 1)) new
  let d4 := (d3.set R.KS_INPUT_HI (bits (d2.pair.nextInput - 1) 63 32) new 1).endMgmtOps
  let d5 := d4.bumpWrap (if kind = 0 then R.KS_SWITCHES_FAILURE else R.KS_SWITCHES_PLANNED)
  (d5.mark .ksSwitch .management new (claimOf old 4) (claimOf new 4) kind).raiseInt .ks 0 7

/-- No planned handover and no revert waits any more. -/
def Dev.dropHandover (d : Dev) : Dev :=
  ({ d with pair := { d.pair with revert := false } }).set R.KS_PAIR_CTL_SWITCH 0

/-- A unit ends in FAILED with a cause; an automatic restart that ends so before MATCHED is counted (R484, R492). -/
def Dev.unitFails (d : Dev) (u cause : Nat) : Dev :=
  let x := d.unit u
  let auto := x.autoRun && decide (d.ksState u < 3)
  let d1 := d.setUnit u { x with
    autoRun := false, failTimes := if auto then x.failTimes ++ [d.pair.windows] else x.failTimes }
  (((d1.set R.KS_STATUS_CAUSE cause u).set R.KS_CTRL_RESTART 0 u).set R.KS_LAG 0 u).setKs u 5

/-- A unit is declared failed (R486): a controller's role goes to the other unit where that is MATCHED; where no unit is
left that controls or is MATCHED, the pair is lost and source 41 fires (R488, R491). -/
def Dev.ksFail (d : Dev) (p : Perm) (u cause stamp : Nat) : Perm × Dev :=
  let st := d.ksState u
  if st = 0 ∨ st = 5 then (p, d)
  else
    let other := 1 - u
    let d1 := (d.unitFails u cause).dropHandover
    let d2 : Dev := { d1 with pair := { d1.pair with digests := [] } }
    if st = 4 ∧ d2.ksState other = 3 then (p, (d2.moveRole u other 5 0).imagesChanged)
    else if st = 4 then (d2.set R.KS_PAIR_STATUS_LOST 1).imagesChanged.sensorEvent p 41 stamp 0 false
    else (p, d2.imagesChanged)

/-! ## Inputs and digests (R478 to R480) -/

/-- Compare the standby's digest for its oldest outstanding input (R479). -/
def Dev.compareDigest (stamp : Nat) (r : Perm × Dev) (dig : Nat) : Perm × Dev :=
  let p := r.1
  let d := r.2
  match d.controller, d.pair.digests with
  | some c, (n, want) :: rest =>
    let u := 1 - c
    let d1 : Dev := { d with pair := { d.pair with digests := rest } }
    let d2 := ((d1.set R.KS_INPUT_LO (low 32 n) u).set R.KS_INPUT_HI (bits n 63 32) u 1).set R.KS_LAG rest.length u
    if dig = want then (p, d2)
    else
      let d3 := (d2.bumpSat R.KS_DIVERGE u).mark .ksDiverge .management u (low 32 n) (bits n 63 32)
      (d3.raiseInt .ks u 6).ksFail p u 3 stamp
  | _, _ => r

/-- KEYSTONE_INPUT: the next input is delivered to both units. The controller's digest is held until the standby's arrives;
those of the standby that arrive now are for its oldest outstanding inputs. A standby more than 4,096 inputs behind fails
(R478 to R480). -/
def keystoneInput (dig : Nat) (standby : List Nat) (stamp : Nat) (p : Perm) (d : Dev) : Perm × Dev :=
  let n := d.pair.nextInput
  let d0 : Dev := { d with pair := { d.pair with nextInput := n + 1 } }
  match d.controller with
  | none => (p, d0)
  | some c =>
    let u := 1 - c
    let d1 := (d0.set R.KS_INPUT_LO (low 32 n) c).set R.KS_INPUT_HI (bits n 63 32) c 1
    if d1.ksState u ≠ 3 then (p, d1)
    else
      let held := d1.pair.digests ++ [(n, dig)]
      let d2 := ({ d1 with pair := { d1.pair with digests := held } }).set R.KS_LAG held.length u
      let r := standby.foldl (Dev.compareDigest stamp) (p, d2)
      if r.2.pair.digests.length > 4096 then r.2.ksFail r.1 u 4 stamp else r

/-! ## Heartbeats (R485 to R487) -/

/-- The units that send heartbeats: those that run an image and have not failed (R484, R485). -/
def Dev.beats (d : Dev) (u : Nat) : Bool := 2 ≤ d.ksState u && d.ksState u ≤ 4

/-- Close a window for a unit: each path's count of consecutive misses, and a path-fault episode (R485, R487). -/
def Dev.closeWindow (d : Dev) (u : Nat) (mortar wire : Bool) : Dev :=
  if !d.beats u then d
  else
    let m := if mortar then 0 else min 15 (d.get R.KS_STATUS_MISS_MORTAR u + 1)
    let w := if wire then 0 else min 15 (d.get R.KS_STATUS_MISS_WIRE u + 1)
    let d1 := (d.set R.KS_STATUS_MISS_MORTAR m u).set R.KS_STATUS_MISS_WIRE w u
    let x := d1.unit u
    if m = 0 ∧ w = 0 then d1.setUnit u { x with episode := false }
    else if !x.episode ∧ ((m ≥ 4 ∧ w < 4) ∨ (w ≥ 4 ∧ m < 4)) then
      let d2 := (d1.setUnit u { x with episode := true }).bumpSat R.KS_PATH_FAULTS u
      (d2.mark .ksPathFault .management u (if m ≥ 4 then 0 else 1) (if m ≥ 4 then m else w)).raiseInt .ks u 5
    else d1

/-- Both path counts of a unit are 4 or more (R486). -/
def Dev.silent (d : Dev) (u : Nat) : Bool :=
  d.beats u && decide (d.get R.KS_STATUS_MISS_MORTAR u ≥ 4) && decide (d.get R.KS_STATUS_MISS_WIRE u ≥ 4)

/-- HEARTBEAT_WINDOW: the arbiter closes a window with the heartbeats that arrived in it. Units declared failed at one close
fail together, the standby first (R485, R486, R491). -/
def heartbeatWindow (aMortar aWire bMortar bWire : Bool) (stamp : Nat) (p : Perm) (d : Dev) : Perm × Dev :=
  let d0 : Dev := { d with pair := { d.pair with windows := d.pair.windows + 1 } }
  let d1 := (d0.closeWindow 0 aMortar aWire).closeWindow 1 bMortar bWire
  let failing := (List.range 2).filter (fun u => d1.silent u)
  let order := failing.filter (fun u => d1.ksState u ≠ 4) ++ failing.filter (fun u => d1.ksState u = 4)
  order.foldl (fun r u => r.2.ksFail r.1 u 1 stamp) (p, d1)

/-- KEYSTONE_FAULT_LINE: cause SELF (R486). -/
def keystoneFaultLine (u stamp : Nat) (p : Perm) (d : Dev) : Perm × Dev := d.ksFail p u 2 stamp

/-! ## Restart and resynchronisation (R492 to R494) -/

/-- Restart a unit from a slot: it is powered, reset, and its SRAM zeroed (R492, R493, R514). -/
def Dev.restartUnit (d : Dev) (u slot : Nat) (auto : Bool) : Dev :=
  let d1 := d.setUnit u { d.unit u with episode := false, slot := slot, autoRun := auto, noAuto := false, formatMax := 0 }
  let d2 := ((d1.set R.KS_STATUS_MISS_MORTAR 0 u).set R.KS_STATUS_MISS_WIRE 0 u).set R.PW_DOM_STATUS_STATE 2 0 u
  ((d2.bumpWrap R.KS_RESTARTS_TOTAL u).setKs u 1).imagesChanged

/-- KEYSTONE_AUTO_RESTART: a failed unit restarts from the slot it last ran, unless three automatic restarts failed within
the past hour or its pairing was refused (R492, R494). A unit whose domain was switched off after its failure is powered
again (R514). -/
def keystoneAutoRestart (u : Nat) (d : Dev) : Dev :=
  let x := d.unit u
  let failed := d.ksState u = 5 ∨ (d.ksState u = 0 ∧ d.get R.KS_STATUS_CAUSE u ≠ 0)
  if ¬failed ∨ x.noAuto ∨ (d.pastHour x.failTimes).length ≥ 3 then d else d.restartUnit u x.slot true

/-- KS_RESTART: a write of KS_CTRL. RESTART is refused for the unit that controls (R492). -/
def ksRestart (req : Requester) (u v : Nat) (d : Dev) : Dev :=
  let d1 := d.set R.KS_CTRL_SLOT (bits v 1 1) u
  if !bitOf v 0 then d1
  else if d1.ksState u = 4 then d1.err .ks u req .policyDenied
  else (d1.restartUnit u (bits v 1 1) false).set R.KS_CTRL_RESTART 1 u

/-- Two releases may run as a pair (R494). -/
def Dev.pairs (d : Dev) (c : Nat) (img : FwImage) : Bool :=
  d.get R.KS_FW_RELEASE c ≥ img.pairMin && img.release ≥ d.get R.KS_FW_PAIR_MIN c

/-- KEYSTONE_IMAGE_LOADED: the image of a restarted unit is verified, and its pairing with the controller checked. A unit
that completes its start while none controls takes the role (R484, R491, R493, R494). -/
def keystoneImageLoaded (u : Nat) (img : FwImage) (d : Dev) : Dev :=
  if d.ksState u ≠ 1 then d
  else
    let d0 := d.set R.KS_CTRL_RESTART 0 u
    let run (x : Dev) (st : Nat) : Dev :=
      let y := (x.setUnit u { x.unit u with formatMax := img.formatMax }).setKs u st
      ((y.set R.KS_FW_RELEASE img.release u).set R.KS_FW_PAIR_MIN img.pairMin u).imagesChanged
    if !img.signed then d0.unitFails u 6
    else
      match d0.controller with
      | none => run d0 4
      | some c =>
        if d0.pairs c img then run d0 2
        else
          let d1 := d0.unitFails u 5
          let d2 := d1.setUnit u { d1.unit u with noAuto := true }
          let d3 := (d2.set R.KS_FW_RELEASE img.release u).set R.KS_FW_PAIR_MIN img.pairMin u
          (d3.mark .ksPairRefused .management u img.release (d.get R.KS_FW_RELEASE c)).raiseInt .ks u 4

/-- KEYSTONE_RESYNC_DONE: lag 0 and 1,024 consecutive digests equal (R493). -/
def keystoneResyncDone (u : Nat) (d : Dev) : Dev :=
  if d.ksState u ≠ 2 ∨ d.controller.isNone then d
  else
    let n := d.pair.nextInput - 1
    let d1 : Dev := { d with pair := { d.pair with digests := [] } }
    let d2 := (d1.setUnit u { d1.unit u with autoRun := false }).setKs u 3
    let d3 := (d2.set R.KS_INPUT_LO (low 32 n) u).set R.KS_INPUT_HI (bits n 63 32) u 1
    (d3.mark .ksMatched .management u (d.get R.KS_FW_RELEASE u) (low 32 n)).raiseInt .ks u 3

/-! ## Planned handover and revert (R496 to R500) -/

/-- KS_PAIR_SWITCH: a write of 1 to SWITCH; refused while the standby is not MATCHED (R497). -/
def ksPairSwitch (req : Requester) (d : Dev) : Dev :=
  match d.controller with
  | some c => if d.ksState (1 - c) = 3 then d.set R.KS_PAIR_CTL_SWITCH 1 else d.err .ks 0 req .policyDenied
  | none => d.err .ks 0 req .policyDenied

/-- PLANNED_HANDOVER: at its input boundary the role moves between two matched units in one step (R496, R498). -/
def plannedHandover (d : Dev) : Dev :=
  match d.controller with
  | none => d
  | some c =>
    let u := 1 - c
    let revert := d.pair.revert && u == 0
    if d.ksState u ≠ 3 ∨ !(revert || d.on R.KS_PAIR_CTL_SWITCH) then d
    else
      let d1 := (d.moveRole c u 3 (if revert then 2 else 1)).dropHandover
      if revert then
        let l := d1.pastHour d1.pair.reverts ++ [d1.pair.windows]
        ({ d1 with pair := { d1.pair with reverts := l } }).mark .ksRevert .management 0 l.length
      else d1

/-- REVERT_DUE: A has been MATCHED for 60 s while B controls. The revert waits for its boundary, or is held after three in
the past 3,600 s (R498, R499). -/
def revertDue (d : Dev) : Dev :=
  if !d.on R.KS_PAIR_CTL_AUTO_REVERT ∨ d.ksState 0 ≠ 3 ∨ d.ksState 1 ≠ 4 ∨ d.on R.KS_PAIR_STATUS_HOLD then d
  else
    let n := (d.pastHour d.pair.reverts).length
    if n ≥ 3 then ((d.set R.KS_PAIR_STATUS_HOLD 1).mark .ksRevertHeld .management 0 n).raiseInt .ks 0 8
    else { d with pair := { d.pair with revert := true } }

/-- KS_REVERT_ARM: the hold and the revert history are cleared (R499). -/
def ksRevertArm (d : Dev) : Dev :=
  ({ d with pair := { d.pair with reverts := [] } }).set R.KS_PAIR_STATUS_HOLD 0

/-! ## The meanings -/

/-- KEYSTONE_INPUT (R478). -/
def execKeystoneInput (digest : DWord) (standby : List DWord) (stamp : Nat) (s : State) :
    Host.Outcome State Fault Refusal := s.afterPerm (keystoneInput digest.toNat (standby.map (·.toNat)) stamp)
/-- HEARTBEAT_WINDOW (R485). -/
def execHeartbeatWindow (aMortar aWire bMortar bWire : Bool) (stamp : Nat) (s : State) :
    Host.Outcome State Fault Refusal := s.afterPerm (heartbeatWindow aMortar aWire bMortar bWire stamp)
/-- KEYSTONE_FAULT_LINE (R486). -/
def execKeystoneFaultLine (u : Fin 2) (stamp : Nat) (s : State) : Host.Outcome State Fault Refusal :=
  s.afterPerm (keystoneFaultLine u stamp)
/-- KEYSTONE_AUTO_RESTART (R492). -/
def execKeystoneAutoRestart (u : Fin 2) (s : State) : Host.Outcome State Fault Refusal := s.after (keystoneAutoRestart u)
/-- KS_RESTART (R492). -/
def execKsRestart (req : Requester) (u : Fin 2) (v : Word) (s : State) : Host.Outcome State Fault Refusal :=
  s.after (ksRestart req u v.toNat)
/-- KEYSTONE_IMAGE_LOADED (R493). -/
def execKeystoneImageLoaded (u : Fin 2) (img : FwImage) (s : State) : Host.Outcome State Fault Refusal :=
  s.after (keystoneImageLoaded u img)
/-- KEYSTONE_RESYNC_DONE (R493). -/
def execKeystoneResyncDone (u : Fin 2) (s : State) : Host.Outcome State Fault Refusal := s.after (keystoneResyncDone u)
/-- KS_PAIR_SWITCH (R497). -/
def execKsPairSwitch (req : Requester) (s : State) : Host.Outcome State Fault Refusal := s.after (ksPairSwitch req)
/-- PLANNED_HANDOVER (R496). -/
def execPlannedHandover (s : State) : Host.Outcome State Fault Refusal := s.after plannedHandover
/-- REVERT_DUE (R498). -/
def execRevertDue (s : State) : Host.Outcome State Fault Refusal := s.after revertDue
/-- KS_REVERT_ARM (R499). -/
def execKsRevertArm (s : State) : Host.Outcome State Fault Refusal := s.after ksRevertArm

end Sys2Proof.Machine
end

