-- ==== Sys2Proof/Machine/Start.lean ====
section
/-! DEFINITION. Supplies and the start sequence (ch. 15, 17): power-up, the start attempts with their retries, dips, losses
and the auxiliary input. -/

namespace Sys2Proof.Machine

/-! ## Domains and clocks (R14, R18, R506, R510) -/

/-- The management-side domains, the Plinth, the tamper front-end, the Mortar quadrants and PCIe, which a failed attempt
leaves on (R510). -/
def baseDomains : List Nat := [49, 50, 51, 52, 68, 71, 72, 74, 75, 76, 77, 78]

/-- The domains of stage A (R506 step 4). -/
def stageA : List Nat := [26, 42, 49, 50, 51, 52, 57, 58, 59, 68, 73, 79]

/-- The domains that step 11 leaves on: all but the Quarry PUF, which is on during regeneration only (R174, R514). -/
def allDomains : List Nat := (List.range 80).filter (· ≠ 48)

/-- Bring domains into regulation (R515). -/
def Dev.powerDomains (d : Dev) (l : List Nat) : Dev := l.foldl (fun a i => a.set R.PW_DOM_STATUS_STATE 2 0 i) d

/-- The listed frequency of a clock domain in kHz, 0 where the table lists none that the module generates (R14). -/
def domainKhz (n : Nat) : Nat :=
  [0, 1000000, 1000000, 1600000, 1900000, 1500000, 1200000, 2000000, 1200000, 4800000, 800000, 1328125, 0, 1000000, 100000,
    33, 50000, 0, 25000].getD n 0

/-- A clock domain runs: CK shows its frequency, and LOCKED for the domains that have no PLL of the module (R15, R523). -/
def Dev.startClock (d : Dev) (n : Nat) : Dev :=
  let d1 := (d.set R.CK_DOM_STATUS_RUNNING 1 0 n).set R.CK_DOM_STATUS_LOCKED 1 0 n
  (d1.set R.CK_DOM_FREQ (domainKhz n) 0 n).set R.CK_DOM_TARGET (domainKhz n) 0 n

/-! ## Plans (R517 to R519) -/

/-- The frequency of an island in MHz: Ashlar's by its plan, between its floor and its initial point, and every other at its
listed frequency (R14, R16, R519). -/
def islandMhz (island mhz : Nat) : Nat :=
  if island = 4 then max 1800 (min 1900 mhz)
  else [25, 1000, 1000, 1600, 0, 1500, 1200, 2000, 1200, 800, 1328, 1000, 100, 0, 50, 0].getD island 0

/-- Take in the measurement and the plan of one island (R517, R519, R524). Voltages stay between 0.62 V and 0.72 V. -/
def Dev.planIsland (since : Bool) (d : Dev) (x : PlanItem) : Dev :=
  let i := x.island
  let mv := max 620 (min 720 x.mv)
  let low0 := d.get R.PL_SLACK_MIN_SLACK 0 i
  let low1 := if since then (if low0 = 0 then x.slack else min low0 x.slack) else low0
  let d1 := ((d.set R.PL_SLACK_SLACK x.slack 0 i).set R.PL_SLACK_MIN_SLACK low1 0 i).set R.PL_PLAN_MV mv 0 i
  let d2 := ((d1.set R.PL_PLAN_MHZ (islandMhz i x.mhz) 0 i).set R.PL_MARGIN x.margin 0 i).set R.PL_LAST
    d.plinth.seconds 0 i
  let d3 := if i = 4 then
      (d2.set R.CK_DOM_FREQ (islandMhz 4 x.mhz * 1000) 0 4).set R.CK_DOM_TARGET (islandMhz 4 x.mhz * 1000) 0 4
    else d2
  let d4 := if x.slack < 10 * d.get R.PL_CTL_GUARD_PCT then
      (d3.raiseInt .pl 0 5).mark .plumbFloor .management i i x.slack mv
    else d3
  if x.margin < 15 then d4.raiseInt .pl 0 4 else d4

/-- The islands whose voltage or frequency two states show differently, as a mask (R518). -/
def Dev.planChanges (d before : Dev) : Nat :=
  ((List.range 16).filter (fun i => d.get R.PL_PLAN_MV 0 i ≠ before.get R.PL_PLAN_MV 0 i ||
    d.get R.PL_PLAN_MHZ 0 i ≠ before.get R.PL_PLAN_MHZ 0 i)).foldl (fun m i => m + 2 ^ i) 0

/-- A measurement with its plan: a plan that changes anything is recorded (R517, R518). -/
def Dev.plan (d : Dev) (since : Bool) (l : List PlanItem) : Dev :=
  let d1 := ((l.filter (fun x => x.island < 16)).foldl (Dev.planIsland since) d).raiseInt .pl 0 2
  let mask := d1.planChanges d
  let d2 := if d1.get R.PL_PLAN_MHZ 0 4 ≠ d.get R.PL_PLAN_MHZ 0 4 then d1.raiseInt .pw 0 21 else d1
  if mask = 0 then d2 else (d2.mark .plumbPlan .management 0 mask (d2.get R.PL_PLAN_MHZ 0 4)).raiseInt .pl 0 3

/-! ## Main power-up (R429, R506, R573) -/

/-- MAIN_POWER_UP: registers start from their reset values, the sequence number rises, and the Plinth applies max(E, P):
TM_FIRED shows the sources that fired, and each applied response is recorded. -/
def mainPowerUp (p : Perm) (d : Dev) : Perm × Dev :=
  if d.power.main then (p, d)
  else
    let level := max p.level d.plinth.pending
    let p1 : Perm := { p with level := level, appliedP := d.plinth.pending }
    let d1 := d.restart persistKey
    let d2 : Dev := { d1 with
      power := { d1.power with
        main := true, dip := false, stage := .window, attempts := 0, lastSlot := none, rootRetry := false
        restNoted := false, measuring := false }
      plinth := { d1.plinth with
        powerSeq := (d.plinth.powerSeq + 1) % 2 ^ 32, pending := 0, pendingFired := []
        asserted := d.plinth.asserted.filter (· ≠ 38) } }
    let d3 := d.plinth.pendingFired.foldl (fun a s => a.setFired s) d2
    let d4 := (List.range (min level 3)).foldl (fun a k => a.csAdd p1 0x04 0xFF (k + 1)) d3
    (p1, [15, 16, 18].foldl (fun a n => a.startClock n) (d4.powerDomains [71, 72, 74, 75, 76, 77, 78]))

/-! ## The life-cycle area at a start (R450, R451) -/

/-- What the Footing ROM finds in the life-cycle area (R450). -/
inductive LcFinding where
  | normal
  | resume (target : Nat)
  | held
deriving DecidableEq, Repr

/-- The highest target whose intent mark is set, 0 for none (R449, R450). -/
def Perm.intent (p : Perm) : Nat :=
  (((List.range 8).filter (fun t => t ≠ 0 && p.otpWord t % 16 ≠ 0)).getLast?).getD 0

/-- Read the life-cycle area (R450). -/
def Perm.lcFinding (p : Perm) : LcFinding :=
  let s := p.lcState
  let t := p.intent
  if (List.range 8).any (fun w => p.otpWord w ≥ 2 ^ 28) then .held
  else if p.otpWord 0 / 2 ^ (4 * max s t) ≠ 0 then .held
  else if t > s then .resume t
  else .normal

/-- A resumed transition: its intent mark is completed, and its remaining steps are run (R450). -/
def Dev.lcResume (d : Dev) (p : Perm) (t : Nat) : Perm × Dev :=
  let p1 := p.program t 0xF
  let d1 : Dev := { d with life := { d.life with transition := some ⟨t, 0⟩ } }
  let d2 := ((d1.set R.LC_STATUS_RESUMED 1).lcShow p1 t).mark .lcResumed .management 0 t (p.otpWord t)
  (p1, d2.raiseInt .lc 0 3)

/-! ## One attempt (R506 to R513) -/

/-- An attempt has reached a step (R522). -/
def Dev.atStep (d : Dev) (k : Nat) : Dev := d.set R.PW_BOOT_STEP k

/-- Every attempt is recorded (R511). -/
def Dev.markAttempt (d : Dev) (slot step cause : Nat) : Dev :=
  d.mark .startAttempt .management 0 d.power.attempts slot step cause

/-- What stays in the management-side domains while they are powered, beside their registers: the counters, the marked interrupts,
challenge and tokens (R504). -/
def Dev.onAux (d old : Dev) : Dev :=
  { d with
    log := { d.log with
      acc := old.log.acc, counters := old.log.counters, shadow := old.log.shadow, levelLast := old.log.levelLast
      irqHeld := old.log.irqHeld }
    life := { old.life with session := none, transition := none } }

/-- An attempt fails at a step: it is recorded, everything but the base domains is powered off, and the wait begins (R510,
R511). -/
def Dev.attemptFails (d : Dev) (slot step cause : Nat) : Dev :=
  let d1 := ((d.set R.PW_BOOT_CAUSE cause).atStep step).set R.EV_STATUS_MOUNTED 0
  let d2 := d1.markAttempt slot step cause
  let d3 := (d2.restart (fun k => persistKey k || mgmtKey k)).onAux d2
  let d4 := (List.range 80).foldl (fun a i => if baseDomains.contains i then a else a.set R.PW_DOM_STATUS_STATE 0 0 i) d3
  { d4 with power := { d4.power with stage := .waiting } }

/-- The stored floor: the floor record where it can be read, else the copy of the NOR start tables (R509). -/
def Dev.storedFloor (d : Dev) (reads : Bool) : Nat :=
  match d.keys.floorRecord.getLast? with
  | some r => if reads && d.rootPresent then r.1 else d.power.floorCopy
  | none => d.power.floorCopy

/-- A start in this state regenerates the root (R506 step 7). -/
def regenerates (p : Perm) : Bool := !p.shareErased && (2 ≤ p.lcState && p.lcState ≤ 5)

/-- Step 7: the root is regenerated where the state and the share permit it; a failure does not fail the attempt (R512). -/
def Dev.stepRoot (d : Dev) (p : Perm) (f : StartFindings) : Dev :=
  if regenerates p then
    let d1 := rootRegenerationDone f.errs p (d.set R.KT_STATUS_ROOT 1)
    { d1 with power := { d1.power with rootRetry := !d1.rootPresent } }
  else d

/-- Mount the Mark area; a gap that a power loss left is recorded first, in the Plinth area (R536, R537). -/
def Dev.mountMark (d : Dev) : Dev :=
  let d1 := match d.log.markGap with
    | some (a, b) =>
      ({ d with log := { d.log with markGap := none } }).mark .markLostPower .management 0 (low 32 a) (bits a 47 32)
        (low 32 b) (bits b 47 32)
    | none => d
  d1.set R.EV_STATUS_MOUNTED 1

/-- Step 8: the Vault is mounted, its user areas where the root is present; unfinished restores are purged (R216, R506). -/
def Dev.stepMount (d : Dev) (f : StartFindings) : Dev :=
  let d1 := d.mountMark
  let d2 := d1.set R.KT_FLEET_FLOOR_FLOOR (d1.storedFloor f.floorReads)
  if d2.rootPresent then d2.purgeRestore else d2

/-- Step 9: why an image is not valid (R509, R510). -/
def Dev.imageCause (d : Dev) (f : StartFindings) : Option Nat :=
  if !f.image.signed then some 2
  else if f.image.formatMax < d.storedFloor f.floorReads ∨ f.image.release < f.lowest then some 3
  else none

/-- The Plinth program is reloaded from a verified image where its digest did not hold (R432). -/
def Dev.reloadProgram (d : Dev) (f : StartFindings) : Dev :=
  if d.plinth.programOk then d
  else
    let d1 : Dev := { d with plinth := { d.plinth with programOk := f.reload } }
    d1.mark .plinthProgram .plinth 0 (if f.reload then 0 else 1)

/-- A Keystone that completes its start with an image, in a state (R484). -/
def Dev.unitStarts (d : Dev) (u slot st : Nat) (img : FwImage) : Dev :=
  let d1 := (d.setUnit u { d.unit u with slot := slot, formatMax := img.formatMax }).setKs u st
  (d1.set R.KS_FW_RELEASE img.release u).set R.KS_FW_PAIR_MIN img.pairMin u

/-- Step 12: the role goes to A where A starts, else to B; the other enters RESYNC when it starts, and is STARTING until
then (R484). -/
def Dev.stepKeystones (d : Dev) (slot : Nat) (f : StartFindings) : Dev :=
  let (a, b) := f.starts
  let first := if a then 0 else 1
  let d1 := d.unitStarts first slot 4 f.image
  let d2 := if a && b then d1.unitStarts 1 slot 2 f.image
    else (d1.setUnit (1 - first) { d1.unit (1 - first) with slot := slot }).setKs (1 - first) 1
  d2.refreshFormats

/-- Step 13: microcode in every engine, the program images in their groups with dispatch enabled (R83, R297, R506). -/
def Dev.stepImages (d : Dev) (f : StartFindings) : Dev :=
  let d1 := (List.range 16).foldl (fun a e => vsUcodeLoadDone e f.ucode (a.set R.VS_UCODE_STATUS_LOADING 1 e)) d
  f.progs.foldl (fun a e =>
    if e.1 < 16 then groupDispatchWrite Requester.manager e.1 0x10000 (programImageLoad e.1 e.2 true a) else a) d1

/-- The end of a start that succeeds (R506, R511, R513). -/
def Dev.startDone (d : Dev) (slot : Nat) : Dev :=
  let d1 := { d with power := { d.power with stage := .running } }
  let d2 := (d1.atStep 13).markAttempt slot 13 0
  let d3 := (d2.mark .startDone .management 0 d.power.attempts slot).raiseInt .pw 0 2
  if slot = d3.get R.PW_BOOT_PREFERRED then d3 else (d3.set R.PW_BOOT_FALLBACK 1).raiseInt .pw 0 10

/-- Steps 9 to 13, with the slot's image (R506). -/
def Dev.attemptImage (d : Dev) (p : Perm) (slot : Nat) (f : StartFindings) : Dev :=
  match d.imageCause f with
  | some c => d.attemptFails slot 9 c
  | none =>
    let d1 := (d.set R.PW_BOOT_SLOT slot).reloadProgram f
    let d2 := d1.plan (decide (p.lcState ≥ 3)) f.plan
    if f.faultB.isSome then d2.attemptFails slot 11 5
    else
      let d3 := ([1, 2, 3, 4, 5, 6, 7, 8, 9, 10, 11, 13, 14].foldl (fun a n => a.startClock n) (d2.powerDomains allDomains))
      let d4 := d3.set R.CK_DOM_FREQ (d2.get R.CK_DOM_FREQ 0 4) 0 4
      let d5 := d4.set R.CK_DOM_TARGET (d2.get R.CK_DOM_TARGET 0 4) 0 4
      if !(f.starts.1 || f.starts.2) then d5.attemptFails slot 12 6
      else ((d5.stepKeystones slot f).stepImages f).startDone slot

/-- Steps 5 to 8: start tables, noise source, root, Vault (R506). The HBM scratch key is drawn (R200). -/
def Dev.attemptVault (d : Dev) (p : Perm) (slot : Nat) (f : StartFindings) : Dev :=
  if !f.tables then d.attemptFails slot 5 1
  else
    let d1 := rnStartupTestDone f.noise d
    let d2 := ({ d1 with keys := { d1.keys with scratchKey := true } }).stepRoot p f
    if !f.mounts then d2.attemptFails slot 8 4 else (d2.stepMount f).attemptImage p slot f

/-- Step 4 in SCRAP: the module rests with the Mark area mounted, and the rest is recorded once (R508). -/
def Dev.scrapRest (d : Dev) : Dev :=
  let d1 := d.atStep 4
  let d2 := if d1.power.restNoted then d1 else d1.mark .scrapRest .management
  let d3 := d2.mountMark
  { d3 with power := { d3.power with stage := .rest, restNoted := true } }

/-- A held module: HELD is shown, steps 4 to 6 are run, and tamper source 40 fires (R450, R451). -/
def Dev.holdModule (d : Dev) (p : Perm) (slot : Nat) (f : StartFindings) (stamp : Nat) : Perm × Dev :=
  let d1 := (d.set R.LC_STATUS_HELD 1).raiseInt .lc 0 5
  let d2 := rnStartupTestDone f.noise (((d1.powerDomains stageA).atStep 6).markAttempt slot 6 0)
  ({ d2 with power := { d2.power with stage := .held } }).sensorEvent p 40 stamp 0 true

/-- A start attempt from step 3 (R506). -/
def Dev.attempt (d : Dev) (p : Perm) (f : StartFindings) (stamp : Nat) : Perm × Dev :=
  let d0 : Dev := { d with plinth := { d.plinth with programOk := f.program } }
  match p.lcFinding with
  | .resume t => d0.lcResume p t
  | .held =>
    let n := d0.power.attempts + 1
    let d1 : Dev := { d0 with power := { d0.power with attempts := n } }
    (d1.set R.PW_BOOT_ATTEMPT n).holdModule p (d1.get R.PW_BOOT_PREFERRED) f stamp
  | .normal =>
    if p.lcState = 7 then (p, (d0.powerDomains stageA).scrapRest)
    else
      let n := d0.power.attempts + 1
      let slot := match d0.power.lastSlot with | some s => 1 - s | none => d0.get R.PW_BOOT_PREFERRED
      let d1 : Dev := { d0 with power := { d0.power with attempts := n, lastSlot := some slot } }
      let d2 := ((d1.set R.PW_BOOT_ATTEMPT n).raiseInt .pw 0 9).powerDomains stageA
      if f.faultA.isSome then (p, d2.attemptFails slot 4 5) else (p, d2.attemptVault p slot f)

/-- START_ATTEMPT: the supply window has held for 10 ms (R506); none while a resumed transition runs (R450). -/
def startAttempt (f : StartFindings) (stamp : Nat) (p : Perm) (d : Dev) : Perm × Dev :=
  if d.power.main ∧ d.power.stage = .window ∧ d.life.transition.isNone then d.attempt p f stamp else (p, d)

/-- START_RETRY: the wait after a failed attempt is over (R511). -/
def startRetry (f : StartFindings) (stamp : Nat) (p : Perm) (d : Dev) : Perm × Dev :=
  if d.power.main ∧ d.power.stage = .waiting then d.attempt p f stamp else (p, d)

/-- ROOT_RETRY: steps 7 and 8 alone, as an attempt, while the Keystones run (R512). -/
def rootRetry (f : StartFindings) (p : Perm) (d : Dev) : Dev :=
  if d.power.stage ≠ .running ∨ !d.power.rootRetry then d
  else
    let n := d.power.attempts + 1
    let slot := d.get R.PW_BOOT_SLOT
    let d1 := ({ d with power := { d.power with attempts := n } }).set R.PW_BOOT_ATTEMPT n
    let d2 := (d1.raiseInt .pw 0 9).stepRoot p f
    if d2.rootPresent then
      (d2.purgeRestore.set R.KT_FLEET_FLOOR_FLOOR (d2.storedFloor f.floorReads)).markAttempt slot 8 0
    else d2.markAttempt slot 7 0

/-! ## Dips, losses and the auxiliary input (R505, R555, R556) -/

/-- VIN_MAIN_DIP: the loss timer starts (R505). -/
def vinMainDip (d : Dev) : Dev :=
  if d.power.main then { d with power := { d.power with dip := true } } else d

/-- With both inputs absent only the Plinth lives: the management-side domains lose their registers, filters start anew, and
source 38, armed from here on, fires for a node that is already low (R11, R412, R427). -/
def Dev.onCell (d : Dev) (p : Perm) (stamp : Nat) : Perm × Dev :=
  let low38 := d.plinth.asserted.contains 38
  let d1 := d.restart persistKey
  let d2 : Dev := { d1 with
    plinth := { d1.plinth with
      stamps := [], asserted := d1.plinth.asserted.filter (fun s => cellSource s && s ≠ 38) }
    wires := { d1.wires with demand := false } }
  if low38 then d2.sensorEvent p 38 stamp (d.get R.TM_BACKUP_MV) true else (p, d2)

/-- POWER_LOSS: a dip that has lasted 1 ms powers the module down. n Vault writes complete, records in the buffer are lost,
everything volatile is gone but what auxiliary power keeps, and the Plinth records the change (R505). -/
def powerLoss (n stamp : Nat) (p : Perm) (d : Dev) : Perm × Dev :=
  if !d.power.main ∨ !d.power.dip then (p, d)
  else
    let d0 := (d.set R.EV_STATUS_MOUNTED 0).dbgClose p 4
    let d1 := (d0.completeWrites n).loseMarks
    let d2 := d1.restart (fun k => persistKey k || (d.power.aux && mgmtKey k))
    let d3 := if p.lcState ≥ 3 then d2.bumpSat R.PW_LOSSES else d2
    let d4 : Dev := { d3 with
      power := { d3.power with
        main := false, dip := false, stage := .off, rootRetry := false, measuring := false }
      plinth := { d3.plinth with asserted := d3.plinth.asserted.filter (fun s => !(20 ≤ s && s ≤ 27)) } }
    let d5 := (if d.power.aux then d4.onAux d1 else d4).csAdd p 0x09 0xFF p.level
    if d.power.aux then (p, d5) else d5.onCell p stamp

/-- VIN_AUX_CHANGE: the management-side domains move between the inputs; a fall while main power is present sets AUX_LOST
(R504, R555). -/
def vinAuxChange (up : Bool) (stamp : Nat) (p : Perm) (d : Dev) : Perm × Dev :=
  if d.power.aux = up then (p, d)
  else
    let d1 := ({ d with power := { d.power with aux := up } }).csAdd p 0x09 0xFF p.level
    if up then (p, d1)
    else if d.power.main then (p, d1.raiseInt .pw 0 6)
    else d1.onCell p stamp

/-- PW_BOOT_PREFERRED_WRITE: the preferred slot is stored in the NOR start tables (R509, R522). -/
def pwBootPreferredWrite (v : Nat) (d : Dev) : Dev := d.set R.PW_BOOT_PREFERRED (low 1 v)

/-! ## The meanings -/

/-- MAIN_POWER_UP (R506). -/
def execMainPowerUp (s : State) : Host.Outcome State Fault Refusal := s.afterPerm mainPowerUp
/-- START_ATTEMPT (R506). -/
def execStartAttempt (f : StartFindings) (stamp : Nat) (s : State) : Host.Outcome State Fault Refusal :=
  s.afterPerm (startAttempt f stamp)
/-- START_RETRY (R511). -/
def execStartRetry (f : StartFindings) (stamp : Nat) (s : State) : Host.Outcome State Fault Refusal :=
  s.afterPerm (startRetry f stamp)
/-- ROOT_RETRY (R512). -/
def execRootRetry (f : StartFindings) (s : State) : Host.Outcome State Fault Refusal := s.afterWith (rootRetry f)
/-- VIN_MAIN_DIP (R505). -/
def execVinMainDip (s : State) : Host.Outcome State Fault Refusal := s.after vinMainDip
/-- POWER_LOSS (R505). -/
def execPowerLoss (writes stamp : Nat) (s : State) : Host.Outcome State Fault Refusal := s.afterPerm (powerLoss writes stamp)
/-- VIN_AUX_CHANGE (R555). -/
def execVinAuxChange (up : Bool) (stamp : Nat) (s : State) : Host.Outcome State Fault Refusal :=
  s.afterPerm (vinAuxChange up stamp)
/-- PW_BOOT_PREFERRED_WRITE (R509). -/
def execPwBootPreferredWrite (v : Word) (s : State) : Host.Outcome State Fault Refusal :=
  s.after (pwBootPreferredWrite v.toNat)

end Sys2Proof.Machine
end

