-- ==== Sys2Proof/Machine/Supply.lean ====
section
/-! DEFINITION. Power domains, plumb measurements and the measurement of the supplies (ch. 15). -/

namespace Sys2Proof.Machine

/-! ## What a domain that loses its power or its regulation holds (R34, R253, R254, R516) -/

/-- The job in a bank of a cipher core ends with ST_XING_TIMEOUT, its lock entry held until the core wipes. -/
def Dev.loseBank (d : Dev) (c : Nat) (next : Bool) : Dev :=
  let x := d.core c
  match if next then x.nextJob else x.curJob with
  | none => d
  | some j =>
    (d.setCore c (if next then { x with nextJob := none } else { x with curJob := none })).jobDone { j with out := [] }
      .xingTimeout

/-- The jobs in a cipher core end with ST_XING_TIMEOUT, their lock entries held until the core wipes (R230, R516). -/
def Dev.loseCore (d : Dev) (c : Nat) : Dev := (d.loseBank c false).loseBank c true

/-- The same for a hash core. -/
def Dev.loseHash (d : Dev) (h : Nat) : Dev :=
  match (d.hash h).curJob with
  | some j => (d.setHash h { d.hash h with curJob := none }).jobDone { j with out := [] } .xingTimeout
  | none => d

/-- The same for a Voussoir engine. -/
def Dev.loseEngine (d : Dev) (e : Nat) : Dev :=
  match (d.engine e).curJob with
  | some j => (d.setEngine e { d.engine e with curJob := none }).jobDone { j with out := [] } .xingTimeout
  | none => d

/-- Work in the units of a domain ends with ST_XING_TIMEOUT (R516). -/
def Dev.loseDomain (d : Dev) (i : Nat) : Dev :=
  if 18 ≤ i ∧ i ≤ 25 then
    let d1 := (List.range 16).foldl (fun a k => a.loseCore (16 * (i - 18) + k)) d
    (d1.loseHash (2 * (i - 18))).loseHash (2 * (i - 18) + 1)
  else if 26 ≤ i ∧ i ≤ 41 then d.loseEngine (i - 26)
  else d

/-- A domain that is powered again wipes its state before it accepts work (R254, R295, R515). -/
def Dev.wipeDomain (d : Dev) (lvl i : Nat) : Dev :=
  if 18 ≤ i ∧ i ≤ 25 then
    let d1 := (List.range 16).foldl (fun a k => a.coreRealign lvl (16 * (i - 18) + k)) d
    (d1.hashRealign lvl (2 * (i - 18))).hashRealign lvl (2 * (i - 18) + 1)
  else if 26 ≤ i ∧ i ≤ 41 then d.engineRealign lvl (i - 26)
  else d

/-- Fence every crossing into a domain: the accesses that wait at them end with ST_XING_TIMEOUT (R34). -/
def Dev.fence (d : Dev) (i : Nat) : Dev :=
  let d1 := d.set R.PW_DOM_STATUS_FENCED 1 0 i
  (d1.wires.xings.filter (fun s => (xingDomains s.xing).contains i && d1.fenced s.xing)).foldl (fun a s =>
    s.waiting.foldl (fun b w => (b.xingMark s.xing .xingFenced).answerLost w .xingTimeout)
      (a.setXing { s with waiting := [] })) d1

/-! ## Switching domains (R514, R515) -/

/-- A domain may be switched off (R514, R254, R295). -/
def Dev.mayOff (d : Dev) (i : Nat) : Bool :=
  if i < 2 then d.ksState i == 5
  else if i < 18 then !d.on R.SC_GROUP_DISPATCH_EN 0 (i - 2) && d.groupEmpty (i - 2)
  else if i < 26 then
    (List.range 16).all (fun k =>
      let c := 16 * (i - 18) + k
      d.on R.AS_SERVICE_OFFLINE c && (d.core c).cur.state == 0 && (d.core c).next.state == 0)
  else if i < 42 then d.on R.VS_SERVICE_OFFLINE (i - 26) && (d.engine (i - 26)).cur.state == 0
  else if 60 ≤ i ∧ i < 68 then d.get R.NF_LANE_MODE 0 (i - 60) == 0
  else if i = 69 ∨ i = 70 then d.get R.CD_STATE_STATE (i - 69) ≤ 1
  else false

/-- What a domain loses with its power: a Keystone is off, a Corbel group loses its program store, an engine its microcode
(R83, R295, R484). -/
def Dev.domainLost (d : Dev) (i : Nat) : Dev :=
  if i < 2 then (d.setKs i 0).imagesChanged
  else if i < 18 then
    let d1 : Dev := { d with sched := { d.sched with progs := Tab.del d.sched.progs (i - 2) } }
    (d1.set R.SC_GROUP_VERSION 0 0 (i - 2)).imagesChanged
  else if 18 ≤ i ∧ i < 26 then d.loseDomain i
  else if 26 ≤ i ∧ i < 42 then (d.clearUcode (i - 26)).imagesChanged
  else d

/-- PW_DOM_CTL switch-off: the condition, the fence, and the power removed (R515). -/
def powerDomainOff (req : Requester) (d : Dev) : Dev :=
  let i := d.get R.PW_DOM_INDEX
  if i ≠ 48 ∧ i < 80 ∧ d.get R.PW_DOM_STATUS_STATE 0 i = 0 then d
  else if !d.mayOff i then d.err .pw 0 req .policyDenied
  else
    let d1 := ((d.fence i).set R.PW_DOM_STATUS_STATE 0 0 i).set R.PW_DOM_STATUS_MV 0 0 i
    (d1.domainLost i).raiseInt .pw 0 2

/-- The island of a power domain (R18). -/
def domainIsland (i : Nat) : Nat :=
  if i < 2 then i + 1 else if i < 18 then 3 else if i < 26 then 4 else if i < 42 then 5 else if i < 49 then 6
  else if i < 53 then 7 else if i < 57 then 8 else if i < 60 then 9 else if i < 68 then 10 else if i = 68 then 11
  else if i < 71 then 12 else if i = 71 then 13 else if i = 72 then 14 else if i = 73 then 15 else 0

/-- PW_DOM_CTL switch-on: the domain comes into regulation, wipes its state, and is measured before its first work (R515,
R517). The Quarry PUF is on during regeneration only (R514). -/
def powerDomainOn (req : Requester) (p : Perm) (d : Dev) : Dev :=
  let i := d.get R.PW_DOM_INDEX
  let st := d.get R.PW_DOM_STATUS_STATE 0 i
  if i = 48 ∨ i ≥ 80 then d.err .pw 0 req .policyDenied
  else if st ≠ 0 ∧ st ≠ 4 then d
  else
    let d1 := (d.set R.PW_DOM_STATUS_FENCED 0 0 i).set R.PW_DOM_STATUS_STATE 2 0 i
    let d2 := d1.wipeDomain p.level i
    ({ d2 with power := { d2.power with measuring := true } }).raiseInt .pw 0 2

/-- DOMAIN_FAULT: a domain that is on leaves regulation (R516). -/
def domainFault (i mv : Nat) (d : Dev) : Dev :=
  if d.get R.PW_DOM_STATUS_STATE 0 i ≠ 2 then d
  else
    let d1 := (d.set R.PW_DOM_STATUS_STATE 4 0 i).set R.PW_DOM_STATUS_MV mv 0 i
    (((d1.mark .pwDomainFault .management i i mv).raiseInt .pw 0 3).fence i).loseDomain i

/-! ## Plumb measurements (R517, R518) -/

/-- A measurement starts (R517). -/
def Dev.measure (d : Dev) : Dev :=
  if d.power.stage = .running then { d with power := { d.power with measuring := true } } else d

/-- PLUMB_MEASURE: PL_CTL.MEASURE starts a measurement, and reads 1 until the plan ends (R517, R524). -/
def plumbMeasure (d : Dev) : Dev :=
  if d.power.stage = .running then (d.set R.PL_CTL_MEASURE 1).measure else d

/-- PLUMB_PLAN: the measurement ends and the controlling Keystone re-plans each island (R517 to R519). -/
def plumbPlan (l : List PlanItem) (p : Perm) (d : Dev) : Dev :=
  if d.power.stage = .running ∧ d.power.measuring ∧ d.controller.isSome then
    let d1 := ({ d with power := { d.power with measuring := false } }).plan (decide (p.lcState ≥ 3)) l
    d1.set R.PL_CTL_MEASURE 0
  else d

/-! ## Measurement of the supplies (R504, R522, R556) -/

/-- Raise a bit of PW INT_RAW while its condition holds. -/
def Dev.pwWhile (d : Dev) (c : Bool) (bit : Nat) : Dev := if c then d.raiseInt .pw 0 bit else d

/-- SUPPLY_MEASUREMENT: the inputs in mV, the current in 10 mA, the power and the ballast's dissipation in 0.1 W. VIN_MAIN back above 11.4 V ends a dip
(R504, R505). -/
def supplyMeasurement (main aux iin power ballast : Nat) (d : Dev) : Dev :=
  if !d.power.main ∧ !d.power.aux then d
  else
    let d1 := (d.set R.PW_SUPPLY_MAIN_MV main).set R.PW_SUPPLY_AUX_MV aux
    let d2 := ((d1.set R.PW_INPUT_IIN iin).set R.PW_INPUT_POWER power).set R.PW_BALLAST ballast
    let d3 := if main > 11400 then { d2 with power := { d2.power with dip := false } } else d2
    let d4 := d3.pwWhile ((10800 ≤ main && main < 11400) || main > 12600) 4
    (d4.pwWhile ((2970 ≤ aux && aux < 3140) || aux > 3470) 5).pwWhile (decide (power > 3400)) 11

/-! ## The meanings -/

/-- POWER_DOMAIN_ON (R515). -/
def execPowerDomainOn (req : Requester) (s : State) : Host.Outcome State Fault Refusal := s.afterWith (powerDomainOn req)
/-- POWER_DOMAIN_OFF (R515). -/
def execPowerDomainOff (req : Requester) (s : State) : Host.Outcome State Fault Refusal := s.after (powerDomainOff req)
/-- DOMAIN_FAULT (R516). -/
def execDomainFault (i : Fin 80) (mv : Nat) (s : State) : Host.Outcome State Fault Refusal := s.after (domainFault i mv)
/-- PLUMB_MEASURE (R517). -/
def execPlumbMeasure (s : State) : Host.Outcome State Fault Refusal := s.after plumbMeasure
/-- PLUMB_MEASURE_PERIOD (R517). -/
def execPlumbMeasurePeriod (s : State) : Host.Outcome State Fault Refusal := s.after Dev.measure
/-- PLUMB_PLAN (R518). -/
def execPlumbPlan (l : List PlanItem) (s : State) : Host.Outcome State Fault Refusal := s.afterWith (plumbPlan l)
/-- SUPPLY_MEASUREMENT (R504). -/
def execSupplyMeasurement (main aux iin power ballast : Nat) (s : State) : Host.Outcome State Fault Refusal :=
  s.after (supplyMeasurement main aux iin power ballast)

end Sys2Proof.Machine
end

