-- ==== Sys2Proof/Machine/Recorder.lean ====
section
/-! DEFINITION. The Mark recorder's own steps and the performance counters (ch. 16): durability, clearing and reading of
records, accumulators, freeze and snapshot. -/

namespace Sys2Proof.Machine

/-! ## Records (R533, R537 to R541) -/

/-- The 32 bytes of a record, with its CRC-32 (R533). -/
def Mark.bytes (m : Mark) : Bytes :=
  let body := leBytes 6 m.seq ++ leBytes 2 m.event.code ++ leBytes 2 m.rep ++
    leBytes 2 (m.island.code * 0x1000 + m.unit % 0x1000) ++ leBytes 4 m.p0 ++ leBytes 4 m.p1 ++ leBytes 4 m.p2 ++
    leBytes 4 m.p3
  body ++ leBytes 4 (crc32 body)

/-- MARK_DURABLE: the oldest record of the buffer becomes durable in the main area (R537). Room in the area and the buffer
ends an episode of diverted records (R538). -/
def markDurable (d : Dev) : Dev :=
  match d.log.markBuf with
  | [] => d
  | m :: r =>
    if d.on R.EV_STATUS_MOUNTED then
      { d with log := { d.log with
        markBuf := r, markMain := d.log.markMain ++ [m], lostEpisode := d.log.lostEpisode && d.on R.EV_STATUS_FULL } }
    else d

/-- The number EV_ARCHIVED holds (R539, R549). -/
def Dev.archived (d : Dev) : Nat := d.get R.EV_ARCHIVED_LO + 2 ^ 32 * (d.get R.EV_ARCHIVED_HI % 2 ^ 16)

/-- EV_CLEAR: a write of 1 clears a full, archived main area under a standing class 8 authorization (R539, R405). -/
def evClear (req : Requester) (v : Nat) (d : Dev) : Dev :=
  if !bitOf v 0 then d
  else if d.on R.EV_STATUS_FULL ∧ d.archived + 1 = d.log.markNext ∧ d.authStands 8 then
    let old := d.log.markBase
    let new := d.log.markNext
    let d1 : Dev := { d.authStart with log := { d.log with
      markBuf := [], markMain := [], markBase := new, lostEpisode := false } }
    let d2 := ((d1.set R.EV_STATUS_FULL 0).set R.EV_STATUS_NEAR_FULL 0).set R.EV_LOST 0
    (d2.mark .markCleared .management 0 (low 32 old) (bits old 47 32) (low 32 new) (bits new 47 32)).authDone
  else d.err .ev 0 req .policyDenied

/-- EV_READ: a write of EV_READ_SEQ_HI starts the read of a record (R541, R549). -/
def evRead (v : Nat) (d : Dev) : Dev :=
  let d1 := ((d.set R.EV_READ_SEQ_HI v).set R.EV_READ_STATUS_BUSY 1).set R.EV_READ_STATUS_VALID 0
  let seq := d.get R.EV_READ_SEQ_LO + 2 ^ 32 * low 16 v
  { d1.set R.EV_READ_STATUS_STATUS 0 with log := { d1.log with markRead := some (bitOf v 16, seq) } }

/-- A record of an area, or why there is none (R541). -/
def Dev.recordAt (d : Dev) (plinth : Bool) (seq : Nat) : Status × Option Mark :=
  if plinth then
    match Tab.look d.log.plinthMarks (plinthSlot seq) with
    | some m => if m.seq = seq ∧ seq < d.log.plinthNext then (.ok, some m) else (.inputRange, none)
    | none => (.inputRange, none)
  else if seq < d.log.markBase ∨ seq ≥ d.log.markNext then (.inputRange, none)
  else
    match (d.log.markMain ++ d.log.markBuf).find? (fun m => m.seq == seq) with
    | some m => (.ok, some m)
    | none => (.recordLost, none)

/-- EV_READ_DONE: the read ends with the record, or with a status (R541). -/
def evReadDone (d : Dev) : Dev :=
  match d.log.markRead with
  | none => d
  | some (plinth, seq) =>
    let r := d.recordAt plinth seq
    let d1 : Dev := { d with log := { d.log with markRead := none } }
    let d2 := (d1.set R.EV_READ_STATUS_BUSY 0).set R.EV_READ_STATUS_STATUS r.1.code
    match r.2 with
    | none => d2
    | some m =>
      let w := m.bytes
      (List.range 8).foldl (fun a k => a.set R.EV_READ_DATA (leNat ((w.drop (4 * k)).take 4)) 0 k)
        (d2.set R.EV_READ_STATUS_VALID 1)

/-! ## Counters (R542 to R544) -/

/-- The events whose occurrences belong to no bay (R542). -/
def bayless : List Nat := [0x001, 0x008, 0x021, 0x070, 0x071, 0x090, 0x0A0, 0x0B0, 0x0C0]

/-- A counter counts an occurrence, but for its mode (R542). -/
def Dev.selects (d : Dev) (k : Nat) (o : Occ) : Bool :=
  let q := d.get R.PC_SEL_QUAL 0 k
  d.on R.PC_SEL_EN 0 k && d.get R.PC_SEL_EVENT 0 k == o.code &&
    (!d.on R.PC_SEL_BAY_EN 0 k || bayless.contains o.code || o.bay == some (d.get R.PC_SEL_BAY 0 k)) &&
    (q == 0x1F || q == o.qual)

/-- What a counter adds for an occurrence (R542): in edge counting the weight; in level counting 1 for each clock of the
level clock, which for the scheduler's own events is its cycle, and for an event of a faster clock is the occurrence's
own clock (log entry 19). -/
def Dev.weightFor (d : Dev) (k : Nat) (o : Occ) : Nat :=
  if d.on R.PC_SEL_LEVEL 0 k then
    if o.code ≤ 0x020 ∧ Tab.get d.log.levelLast k 0 = o.cycle + 1 then 0 else 1
  else if o.level then 0
  else o.weight

/-- Raise a global counter; past 2^48 − 1 it wraps and is recorded (R543). -/
def Dev.raiseCounter (d : Dev) (k n : Nat) : Dev :=
  let v := Tab.get d.log.counters k 0 + n
  let d1 : Dev := { d with log := { d.log with counters := Tab.set d.log.counters k 0 (v % 2 ^ 48) } }
  if v < 2 ^ 48 then d1
  else
    let d2 := if k < 32 then d1.set R.PC_OVF_LO (d1.get R.PC_OVF_LO ||| 2 ^ k)
      else d1.set R.PC_OVF_HI (d1.get R.PC_OVF_HI ||| 2 ^ (k - 32))
    (d2.raiseInt .pc 0 2).mark .pcOverflow .management 0 k

/-- Count one occurrence in every counter that selects it (R542). -/
def Dev.countOcc (d : Dev) (o : Occ) : Dev :=
  (List.range 64).foldl (fun a k =>
    if a.selects k o then
      let n := a.weightFor k o
      let a1 : Dev := if a.on R.PC_SEL_LEVEL 0 k then
          { a with log := { a.log with levelLast := Tab.put a.log.levelLast k (o.cycle + 1) } }
        else a
      if n = 0 then a1 else a1.raiseCounter k n
    else a) d

/-- PC_ACCUMULATOR_FLUSH: the accumulators pass what they hold to the PC page (R543). -/
def pcFlush (d : Dev) : Dev :=
  let d1 : Dev := { d with log := { d.log with acc := [] } }
  d.log.acc.foldl (fun a o => a.countOcc o) d1

/-- PC_FREEZE: a write of PC_CTL.FREEZE; a 0 lets the counters run (R544, R550). -/
def pcFreeze (v : Bool) (d : Dev) : Dev :=
  let d1 := d.set R.PC_CTL_FREEZE (b2n v)
  if v then d1 else d1.set R.PC_CTL_FROZEN 0

/-- PC_FROZEN: the accumulators are flushed and the freeze takes hold (R544). -/
def pcFrozen (d : Dev) : Dev :=
  if d.on R.PC_CTL_FREEZE then (pcFlush d).set R.PC_CTL_FROZEN 1 else d

/-- PC_SNAPSHOT: a write of 1 starts a snapshot (R544). -/
def pcSnapshot (d : Dev) : Dev := d.set R.PC_CTL_SNAPSHOT 1

/-- The place of a bay's fixed counter in the shadow bank, above the 64 global counters. -/
def bayShadow (bay k : Nat) : Nat := 64 + 8 * bay + k

/-- PC_SNAPSHOT_DONE: the accumulators are flushed and every counter is copied, with the SC_TIME (R544). -/
def pcSnapshotDone (d : Dev) : Dev :=
  if d.on R.PC_CTL_SNAPSHOT then
    let d1 := pcFlush d
    let bays := (List.range 2048).filterMap (fun i =>
      let v := d1.get R.BY_CNT (i / 8) (i % 8)
      if v = 0 then none else some (bayShadow (i / 8) (i % 8), v))
    let d2 : Dev := { d1 with log := { d1.log with shadow := d1.log.counters ++ bays } }
    let d3 := ((d2.set R.PC_CTL_SNAPSHOT 0).bumpWrap R.PC_SNAP_SEQ).set R.PC_SNAP_TIME_LO (low 32 d2.sched.time)
    (d3.set R.PC_SNAP_TIME_HI (bits d2.sched.time 63 32)).blockEvent .pc 0 3
  else d

/-! ## The meanings -/

/-- MARK_DURABLE (R537). -/
def execMarkDurable (s : State) : Host.Outcome State Fault Refusal := s.after markDurable
/-- EV_CLEAR (R539). -/
def execEvClear (req : Requester) (v : Word) (s : State) : Host.Outcome State Fault Refusal := s.after (evClear req v.toNat)
/-- EV_READ (R541). -/
def execEvRead (v : Word) (s : State) : Host.Outcome State Fault Refusal := s.after (evRead v.toNat)
/-- EV_READ_DONE (R541). -/
def execEvReadDone (s : State) : Host.Outcome State Fault Refusal := s.after evReadDone
/-- PC_FREEZE (R544). -/
def execPcFreeze (v : Bool) (s : State) : Host.Outcome State Fault Refusal := s.after (pcFreeze v)
/-- PC_FROZEN (R544). -/
def execPcFrozen (s : State) : Host.Outcome State Fault Refusal := s.after pcFrozen
/-- PC_SNAPSHOT (R544). -/
def execPcSnapshot (s : State) : Host.Outcome State Fault Refusal := s.after pcSnapshot
/-- PC_SNAPSHOT_DONE (R544). -/
def execPcSnapshotDone (s : State) : Host.Outcome State Fault Refusal := s.after pcSnapshotDone
/-- PC_ACCUMULATOR_FLUSH (R543). -/
def execPcAccumulatorFlush (s : State) : Host.Outcome State Fault Refusal := s.after pcFlush

end Sys2Proof.Machine
end

