-- ==== Sys2Proof/Machine/Views.lean ====
section
/-! DEFINITION. What a register shows (R7, R39): the fields that show a list, a count or a state held elsewhere, the index
registers, and the value of a register word. -/

namespace Sys2Proof.Machine

/-! ## The fields of a page -/

/-- The block-specific fields of a page kind, by the tables of the chapters. -/
def Blk.own (b : Blk) : List Fld :=
  match b with
  | .module => R.moduleFields | .ks => R.ksFields | .pw => R.pwFields | .ck => R.ckFields | .pl => R.plFields
  | .lc => R.lcFields | .dbg => R.dbgFields | .tm => R.tmFields | .cs => R.csFields | .ev => R.evFields
  | .pc => R.pcFields | .ic => R.icFields | .kt => R.ktFields | .kc => R.kcFields | .vt => R.vtFields
  | .rn => R.rnFields | .sc => R.scFields | .cb => R.cbFields | .asp => R.aspFields | .hs => R.hsFields
  | .vs => R.vsFields | .pn => R.pnFields | .nfp => R.nfpFields | .nfc => R.nfcFields | .hf => R.hfFields
  | .cd => R.cdFields | .lg => R.lgFields | .by => R.byFields | .bw => R.bwFields | .hq => R.hqFields
  | .hqd => R.hqdFields | .hqv => R.hqvFields

/-- A register exists in an instance of its page: the pair's registers only in Keystone A's page (R502), the ceremony's only
in interface 0's (R409), the node of the salts only in core 0's (R261), and the manager's ring block in the HF page has no
header of its own (R376). -/
def Fld.stands (f : Fld) (inst : Nat) : Bool :=
  match f.blk with
  | .ks => inst = 0 || f.off < 0x070
  | .asp => inst = 0 || f.off ≠ 0x06C
  | .cd => inst = 0 || f.off < 0x070 || 0x100 ≤ f.off
  | .hq | .hqd => inst < 256 || 0x040 ≤ f.off
  | _ => true

/-- The fields of a page instance. -/
def Blk.fields (b : Blk) (inst : Nat) : List Fld := (R.headerFields b ++ b.own).filter (fun f => f.stands inst)

/-! ## Index registers (R9) -/

/-- The instance that a page's index register selects for a field: the source, bay, domain, counter, IRQ or port. -/
def Dev.index (d : Dev) (f : Fld) : Nat :=
  match f.blk with
  | .pw => d.get R.PW_DOM_INDEX
  | .ck => d.get R.CK_DOM_INDEX
  | .pl => d.get R.PL_INDEX
  | .tm => d.get R.TM_SRC_INDEX
  | .pc => d.get R.PC_INDEX
  | .ic => d.get R.IC_INDEX
  | .kc => d.get R.KC_BAY_INDEX
  | .vt => d.get R.VT_BAY_INDEX
  | .pn => d.get R.PN_BAY_INDEX
  | .sc => d.get R.SC_PIN_INDEX
  | .nfc =>
    if f.off = 0x080 then 64 * d.get R.NF_ANCHOR_INDEX_ANCHOR + d.get R.NF_ANCHOR_INDEX_WORD else d.get R.NF_ADDR_INDEX
  | _ => 0

/-- The repetitions of a field that stand in the register at an offset. -/
def Dev.repsOf (d : Dev) (f : Fld) (off : Nat) : List Nat :=
  match f.rep with
  | .one => if f.off = off then [0] else []
  | .words n stride =>
    if f.off ≤ off ∧ (off - f.off) % stride = 0 ∧ (off - f.off) / stride < n then [(off - f.off) / stride] else []
  | .packed n => if f.off = off then List.range n else []
  | .indexed _ => if f.off = off then [d.index f] else []

/-! ## Status of a block (R39) -/

/-- The power domains that a page's block runs in (R18); none where the block has no domain of its own. -/
def pageDomains (b : Blk) (inst : Nat) : List Nat :=
  match b with
  | .asp => [18 + inst / 16]
  | .hs => [18 + inst / 2]
  | .cb => [2 + inst / 4]
  | .vs => [26 + inst]
  | .kt | .kc | .vt | .rn => [42]
  | .pn => [46, 47]
  | .nfp => [60 + inst]
  | .hf | .hq | .hqd | .hqv => [68]
  | .cd => [69 + inst]
  | .tm => [72]
  | .dbg => [73]
  | .ks => [inst]
  | _ => []

/-- The contexts of a sequencer that hold something. -/
def Dev.seqBusy (d : Dev) (s : Nat) : Bool := d.sched.ctxs.any (fun e => e.1 / 8 == s && e.2.state != .free)

/-- Work is in flight in a block: STATUS.BUSY (R39). -/
def Dev.busy (d : Dev) (b : Blk) (i : Nat) : Bool :=
  match b with
  | .by | .bw => !(d.queue i).isEmpty || d.ctxHeld i > 0
  | .sc => d.sched.queues.any (fun e => !e.2.isEmpty)
  | .cb => d.seqBusy i
  | .asp => !(d.core i).isIdle
  | .hs => (d.hash i).cur.state != 0
  | .vs => (d.engine i).cur.state != 0 || d.on R.VS_UCODE_STATUS_LOADING i
  | .pn => !d.eng.pinWait.isEmpty || !d.eng.pinLanes.isEmpty
  | .kt => d.on R.KT_CMD_STATUS_BUSY || d.get R.KT_STATUS_ROOT == 1
  | .kc => !d.keys.fills.isEmpty || d.on R.KC_REPOINT_SWEEPING || d.keys.flushing
  | .vt => !d.keys.writes.isEmpty || d.keys.bundle.isSome
  | .nfc => !d.face.handshakes.isEmpty || !d.face.partials.isEmpty
  | .hf => (List.range 4).any (fun r => d.on R.HQ_STATUS_RUNNING 256 r)
  | .hq => (List.range 4).any (fun r => d.on R.HQ_STATUS_RUNNING i r)
  | .cd => (d.card i).exchange.isSome
  | .lg => (d.drain i).isSome
  | .tm => d.on R.TM_FUSE_STATUS_BUSY
  | .cs => d.cs.reading.isSome || !d.cs.buffer.isEmpty
  | .ev => d.log.markRead.isSome || !d.log.markBuf.isEmpty
  | .pc => d.on R.PC_CTL_SNAPSHOT
  | .lc => d.on R.LC_STATUS_BUSY || d.on R.LC_TOKEN_STATUS_BUSY
  | .dbg => d.life.session.isSome
  | .pl => d.power.measuring
  | .ks => d.ksState i == 1
  | _ => false

/-- The block has reported a fault: STATUS.FAULT (R39). -/
def Dev.faulted (d : Dev) (b : Blk) (i : Nat) : Bool :=
  match b with
  | .asp => d.on R.AS_SERVICE_FAULTED i
  | .hs => d.on R.HS_SERVICE_FAULTED i
  | .vs => d.on R.VS_SERVICE_FAULTED i
  | .kt => d.get R.KT_STATUS_ROOT == 3
  | .rn => d.on R.RN_STATUS_FAIL
  | .cd => d.cardState i == 6
  | .pw => (List.range 80).any (fun n => d.get R.PW_DOM_STATUS_STATE 0 n == 4)
  | .cb => d.sched.ctxs.any (fun e => e.1 / 8 == i && e.2.state == .faulted)
  | _ => false

/-- A block is powered, clocked and enabled: STATUS.READY (R39). The MODULE page shows the end of the start (R506). -/
def Dev.ready (d : Dev) (b : Blk) (i : Nat) : Bool :=
  if b = .module then d.power.stage == .running
  else
    let en := match b with | .bw | .hq | .hqd | .hqv => R.CTRL_ENABLE .by | _ => R.CTRL_ENABLE b
    (pageDomains b i).all (fun n => d.get R.PW_DOM_STATUS_STATE 0 n == 2) && !d.stopped (pageClock b) && d.on en i

/-- The views of the common header (R39); the BW page mirrors CTRL of the BY page (R341). -/
def Dev.headerViews (d : Dev) (b : Blk) (i : Nat) : List (Fld × Nat) :=
  let mirror := if b = .bw then
      [(R.CTRL_ENABLE b, d.get (R.CTRL_ENABLE .by) i), (R.CTRL_QUIESCE b, d.get (R.CTRL_QUIESCE .by) i),
        (R.CTRL_SOFT_RESET b, d.get (R.CTRL_SOFT_RESET .by) i)]
    else []
  let q := if b = .bw then d.on (R.CTRL_QUIESCE .by) i else d.on (R.CTRL_QUIESCE b) i
  mirror ++ [(R.ID_INSTANCE b, i), (R.ID_PAGE b, b.page i), (R.STATUS_READY b, b2n (d.ready b i)),
    (R.STATUS_BUSY b, b2n (d.busy b i)), (R.STATUS_QUIESCED b, b2n (q && !d.busy b i)),
    (R.STATUS_FAULT b, b2n (d.faulted b i)), (R.STATUS_FENCED b, b2n (d.pageFenced b i)),
    (R.STATUS_XING_STALLED b, b2n (d.pageStalled b i)), (R.INT_PENDING b, d.pendingBits b i)]

/-! ## Views of the pages' own registers -/

/-- Bits of a set of numbers, from a first number on. -/
def setBits (l : List Nat) (first n : Nat) : Nat :=
  ((List.range n).filter (fun i => l.contains (first + i))).foldl (fun a i => a + 2 ^ i) 0

/-- Word w of a byte string, its first byte the lowest (R440, R460). -/
def wordOf (b : Bytes) (w : Nat) : Nat := leNat ((b.drop (4 * w)).take 4)

/-- The views of the pages that the management-side domains hold: KS (R502), PW (R522), LC and DBG (R460), EV (R549), PC
(R550) and IC (R548). -/
def Dev.mgmtViews (d : Dev) (p : Perm) (b : Blk) (i k : Nat) : List (Fld × Nat) :=
  match b with
  | .ks => [(R.KS_RESTARTS_AUTO_HOUR, (d.pastHour (d.unit i).failTimes).length),
      (R.KS_PAIR_STATUS_REVERTS, (d.pastHour d.pair.reverts).length)]
  | .pw =>
    let on (w : Nat) : Nat := setBits ((List.range 80).filter (fun n => d.get R.PW_DOM_STATUS_STATE 0 n == 2)) (32 * w) 32
    [(R.PW_DOM_STATUS_MV, if d.get R.PW_DOM_STATUS_STATE 0 k = 2 then d.get R.PL_PLAN_MV 0 (domainIsland k)
        else d.get R.PW_DOM_STATUS_MV 0 k),
      (R.PW_ON_0, on 0), (R.PW_ON_1, on 1), (R.PW_ON_2, on 2)]
  | .lc => [(R.LC_STATE_RAW, p.otpWord 0), (R.LC_STATUS_CODE, p.lcState),
      (R.LC_OTP_DATA, p.otpWord (d.get R.LC_OTP_INDEX)), (R.LC_UID_LO, Config.moduleUid.toNat),
      (R.LC_UID_HI, Config.moduleUid.toNat / 2 ^ 32),
      (R.LC_CHAL_DATA, match d.life.challenge with | some c => wordOf c (d.get R.LC_CHAL_INDEX) | none => 0)]
  | .dbg => [(R.DBG_STATUS_PERMITTED, debugMask p.lcState)]
  | .ev => [(R.EV_HEAD_LO, d.log.markNext), (R.EV_BASE_LO, d.log.markBase), (R.EV_P_HEAD_LO, d.log.plinthNext),
      (R.EV_STATUS_BUFFERED, d.log.markBuf.length)]
  | .pc =>
    let c := Tab.get d.log.counters k 0
    let s := Tab.get d.log.shadow k 0
    [(R.PC_CNT_LO, c), (R.PC_CNT_HI, c / 2 ^ 32), (R.PC_SHD_LO, s), (R.PC_SHD_HI, s / 2 ^ 32),
      (R.PC_BAY_SHD, Tab.get d.log.shadow (bayShadow (d.get R.PC_BAY_INDEX) k) 0)]
  | .ic => [(R.IC_MAP_PENDING, b2n (d.log.irqHeld.contains k)), (R.IC_MAP_ASSERTED, b2n (d.irqAsserted k)),
      (R.IC_ASSERTED, setBits ((List.range 500).filter (fun n => n / 32 == k && d.irqAsserted n)) (32 * k) 32)]
  | _ => []

/-- The views of the tamper front-end's page (R438) and of the Cornerstone page (R440). -/
def Dev.tamperViews (d : Dev) (p : Perm) (b : Blk) (k : Nat) : List (Fld × Nat) :=
  match b with
  | .tm => [(R.TM_STATE_ROOT_ERASED, b2n p.shareErased), (R.TM_STATE_SUSPENDED, b2n (2 ≤ p.level)),
      (R.TM_STATE_ALARM, b2n (1 ≤ p.level && d.mgmtOn)), (R.TM_STATE_APPLIED_P, p.appliedP), (R.TM_STATE_LEVEL, p.level),
      (R.TM_SRC_STATUS_FUSED, b2n (p.fuses.contains k)), (R.TM_SRC_STATUS_ASSERTED, b2n (d.plinth.asserted.contains k)),
      (R.TM_SRC_STATUS_CELL, b2n (cellSource k)), (R.TM_SRC_STATUS_LOWEST, lowestResponse k),
      (R.TM_FUSES_LO, setBits p.fuses 0 32), (R.TM_FUSES_HI, setBits p.fuses 32 10),
      (R.TM_BACKUP_ON_EXT, (Config.freeByte d.free).toNat), (R.TM_BACKUP_EXT_PRESENT, (Config.freeByte (d.free + 1)).toNat)]
  | .cs => [(R.CS_STATUS_FULL, b2n d.csFull),
      (R.CS_STATUS_FLUSHING, b2n (!d.cs.buffer.isEmpty && d.power.main && !d.csFull)),
      (R.CS_STATUS_SUMMARY, b2n (d.cs.buffer.any (fun r => r.kind == 5))), (R.CS_STATUS_BUFFERED, d.cs.buffer.length),
      (R.CS_COUNT, d.cs.durable.length), (R.CS_NEXT, d.cs.next), (R.CS_SECONDS, d.plinth.seconds),
      (R.CS_POWER_SEQ, d.plinth.powerSeq), (R.CS_HEAD, wordOf d.cs.head (d.get R.CS_HEAD_INDEX)),
      (R.CS_READ_DATA, wordOf d.cs.data (d.get R.CS_READ_WORD))]
  | _ => []

/-- The views of the key island's pages (R224): entries in use, tree nodes held and quota used. -/
def Dev.keyViews (d : Dev) (b : Blk) (k : Nat) : List (Fld × Nat) :=
  match b with
  | .kt => [(R.KT_NODES, d.keys.nodes.length)]
  | .kc => [(R.KC_INTERNAL_USED, d.keys.nodes.length + b2n d.cards.backup.isSome + d.cards.shares.length),
      (R.KC_BAY_USED, d.cacheUsed k)]
  | .vt => [(R.VT_BAY_USED, (d.quotaUsed k + 1023) / 1024)]
  | _ => []

/-- The views of the scheduler's page (R93) and of a sequencer's (R95). The sequencer's cycle counts are free values. -/
def Dev.corbelViews (d : Dev) (b : Blk) (i k : Nat) : List (Fld × Nat) :=
  match b with
  | .sc => [(R.SC_TIME_LO, d.sched.time), (R.SC_SHARE_SUM, ((d.sharesInEffect R.BY_SHARE_EFFECTIVE).map (·.2)).foldl (· + ·) 0),
      (R.SC_QUEUED, (d.sched.queues.map (fun e => e.2.length)).foldl (· + ·) 0),
      (R.SC_INFLIGHT, Tab.count d.sched.ctxs (fun _ x => x.req.isSome)),
      (R.SC_GROUP_FREE_CTX, 32 - Tab.count d.sched.ctxs (fun c x => c / 32 == k && x.state != .free)),
      (R.SC_GROUP_DRAINED, b2n (d.groupEmpty k))]
  | .cb =>
    let r := (d.ctx (8 * i + d.get R.CB_CTX_SEL i)).req
    let v (g : Request → Nat) : Nat := match r with | some r => g r | none => 0
    let fr (n : Nat) : Nat := leNat ((List.range 4).map (fun j => Config.freeByte (d.free + n + j)))
    [(R.CB_INFO_VERSION, d.get R.SC_GROUP_VERSION 0 (i / 4)), (R.CB_INFO_GROUP, i / 4),
      (R.CB_CTX_STATE, (d.ctx (8 * i + k)).state.code), (R.CB_CTX_JOB_ENTRY_GEN, v (·.entryGen)),
      (R.CB_CTX_JOB_FUNCTION, v (·.func)), (R.CB_CTX_JOB_BAY, v (·.bay)), (R.CB_CTX_GEN, v (·.gen)),
      (R.CB_CTX_DEADLINE, v (·.deadline)), (R.CB_ISSUE_CYCLES, fr 0), (R.CB_WAIT_CYCLES, fr 0)]
  | _ => []

/-- The views of the pages of a cipher core (R261), a hash core (R262) and a Voussoir engine (R302). The phase that a
running engine shows is a free value from parse to output. -/
def Dev.engineViews (d : Dev) (b : Blk) (i : Nat) : List (Fld × Nat) :=
  match b with
  | .asp =>
    let x := d.core i
    [(R.AS_INFO_POOL, b2n (d.inPayPool i)), (R.AS_INFO_CORE, i), (R.AS_INFO_GROUP, i / 16),
      (R.AS_LOCK_CUR_STATE, x.cur.state), (R.AS_LOCK_CUR_BAY, x.cur.bay), (R.AS_LOCK_CUR_TAG, x.cur.tag),
      (R.AS_LOCK_CUR_GEN, x.cur.gen), (R.AS_LOCK_NEXT_STATE, x.next.state), (R.AS_LOCK_NEXT_BAY, x.next.bay),
      (R.AS_LOCK_NEXT_TAG, x.next.tag), (R.AS_LOCK_NEXT_GEN, x.next.gen),
      (R.AS_SERVICE_IS_OFFLINE, b2n (d.on R.AS_SERVICE_OFFLINE i && x.isIdle))]
  | .hs =>
    let x := (d.hash i).cur
    [(R.HS_INFO_CORE, i), (R.HS_INFO_GROUP, i / 2), (R.HS_LOCK_STATE, x.state), (R.HS_LOCK_BAY, x.bay),
      (R.HS_LOCK_TAG, x.tag), (R.HS_LOCK_GEN, x.gen),
      (R.HS_SERVICE_IS_OFFLINE, b2n (d.on R.HS_SERVICE_OFFLINE i && x.state == 0))]
  | .vs =>
    let x := (d.engine i).cur
    let phase := if x.state = 0 then 0 else if x.state = 3 then 5 else 1 + (Config.freeByte d.free).toNat % 4
    [(R.VS_INFO_ENGINE, i), (R.VS_LOCK_STATE, x.state), (R.VS_LOCK_BAY, x.bay), (R.VS_LOCK_TAG, x.tag),
      (R.VS_LOCK_GEN, x.gen), (R.VS_JOB_PHASE, phase),
      (R.VS_JOB_FUNCTION, match (d.engine i).curJob with | some j => j.func | none => 0),
      (R.VS_SERVICE_IS_OFFLINE, b2n (d.on R.VS_SERVICE_OFFLINE i && x.state == 0))]
  | _ => []

/-- The thresholds as the roster's entry 16 shows them: five bits for each class from a first class on (R409). -/
def Dev.thresholdWord (d : Dev) (first n : Nat) : Nat :=
  (List.range n).foldl (fun a j => a + d.threshold (first + j) % 32 * 2 ^ (5 * j)) 0

/-- A word of the roster (R409). -/
def Dev.rosterWord (d : Dev) (entry word : Nat) : Nat :=
  if entry = 16 then (if word = 0 then d.thresholdWord 1 6 else if word = 1 then d.thresholdWord 7 4 else 0)
  else
    match d.cards.roster[entry]? with
    | none => 0
    | some r =>
      if word = 0 then 2 ^ 31 + r.classes
      else if word ≤ 2 then r.cardId / 2 ^ (32 * (word - 1))
      else r.keyHash / 2 ^ (32 * (word - 3))

/-- The views of the faces' and the card's pages (R375, R378, R409), of a gate's page (R477), and of a bay's (R339, R341). -/
def Dev.faceViews (d : Dev) (b : Blk) (i k : Nat) : List (Fld × Nat) :=
  match b with
  | .nfc => [(R.NF_ADDR_MAC_LO, (Config.portMac k).toNat), (R.NF_ADDR_MAC_HI, (Config.portMac k).toNat / 2 ^ 32),
      (R.NF_SESSIONS_HANDSHAKES, d.face.handshakes.length), (R.NF_SESSIONS_LIVE, d.face.sessions.length)]
  | .hqv => [(R.HQ_VECTOR, d.get R.IC_MAP_VECTOR 0 i)]
  | .cd => [(R.CD_ROSTER_DATA, d.rosterWord (d.get R.CD_ROSTER_INDEX / 16) (d.get R.CD_ROSTER_INDEX % 16))]
  | .lg => [(R.LG_INFO_ISLAND, gateIsland i), (R.LG_INFO_GATE, i), (R.LG_COMMIT_PENDING, b2n (d.drain i).isSome),
      (R.LG_COMMIT_GO, b2n (d.drain i).isSome),
      (R.LG_DRAIN_HELD, match d.drain i with | some x => x.held.length | none => 0)]
  | .by => [(R.BY_QUEUE_USED, (d.queue i).length), (R.BY_CTX_HELD, d.ctxHeld i),
      (R.BY_BIND_COUNT_FREE, 4096 - d.sched.bindings.length),
      (R.BY_BIND_COUNT_BOUND, Tab.count d.sched.bindings (fun _ t => t == i))]
  | .bw => [(R.BW_STATUS_LENDING, d.eff R.SC_MODE), (R.BW_STATUS_CNT_VISIBLE, d.get R.CTRL_CNT_VISIBLE i),
      (R.BW_STATUS_RESETTING, d.get R.STATUS_RESETTING i), (R.BW_STATUS_ENABLED, d.get (R.CTRL_ENABLE .by) i),
      (R.BW_STATUS_GEN, d.get R.BY_GEN_GEN i), (R.BW_SHARE_VS, d.get R.BY_VS_SHARE_EFFECTIVE i),
      (R.BW_SHARE_COURSE, d.get R.BY_SHARE_EFFECTIVE i), (R.BW_QUEUE_DEPTH, d.eff R.BY_QUEUE i),
      (R.BW_QUEUE_USED, (d.queue i).length), (R.BW_GOV_LEVEL, d.get R.PN_BAY_GOV_LEVEL 0 i),
      (R.BW_CNT, if d.on R.CTRL_CNT_VISIBLE i then d.get R.BY_CNT i k else 0)]
  | _ => []

/-! ## The value of a register -/

/-- Every view of a page, at repetition k of its registers. -/
def Dev.views (d : Dev) (p : Perm) (b : Blk) (i k : Nat) : List (Fld × Nat) :=
  d.headerViews b i ++ d.mgmtViews p b i k ++ d.tamperViews p b k ++ d.keyViews b k ++ d.corbelViews b i k ++
    d.engineViews b i ++ d.faceViews b i k

/-- What a field shows: its view, cut to its width, or the value it holds; a write-only field shows 0 (R7). -/
def Dev.shown (d : Dev) (p : Perm) (f : Fld) (i k : Nat) : Nat :=
  if f.kind = .wo then 0
  else
    match (d.views p f.blk i k).find? (fun e => e.1 == f) with
    | some e => e.2 % f.bound
    | none => d.get f i k

/-- The value of the register at an offset of a page: its fields at their bits, reserved bits 0 (R7, R8). -/
def Dev.word (d : Dev) (p : Perm) (b : Blk) (i off : Nat) : Nat :=
  (b.fields i).foldl (fun a f =>
    (d.repsOf f off).foldl (fun c k => c + d.shown p f i k * 2 ^ f.bit k) a) 0

end Sys2Proof.Machine
end

