-- ==== Sys2Proof/Machine/Access.lean ====
section
/-! DEFINITION. Accesses to registers (R7 to R9, R37 to R45): where an address leads, a read with what it clears and latches,
a write by field types, the registers whose write acts, and CTRL.SOFT_RESET (R41). -/

namespace Sys2Proof.Machine

/-! ## Addresses (R43 to R46) -/

/-- Where a module address leads: a register page with an offset, an event ring page, or nowhere. -/
inductive Target where
  | reg (b : Blk) (inst off : Nat)
  | ring (bay off : Nat)
  | unmapped
deriving DecidableEq, Repr

/-- The page of the manager window that a page index names (R43). -/
def managerPage (pg : Nat) : Option (Blk × Nat) :=
  (Blk.managerKinds.find? (fun b => b.basePage ≤ pg && pg < b.basePage + b.pages)).map (fun b => (b, pg - b.basePage))

/-- Where an address leads. The manager's ring pairs stand in the HF page (R376). -/
def targetOf (addr : Nat) : Target :=
  let off := addr % 0x1000
  if 0x03000000 ≤ addr then .unmapped
  else if 0x02000000 ≤ addr then
    let bay := addr / 0x10000 % 256
    match addr / 0x1000 % 16 with
    | 0 => .reg .bw bay off
    | 1 => .reg .hq bay off
    | 2 => .reg .hqd bay off
    | 3 => .reg .hqv bay off
    | n => if n < 8 then .ring bay ((n - 4) * 0x1000 + off) else .unmapped
  else
    match managerPage (addr / 0x1000) with
    | none => .unmapped
    | some (.hf, i) =>
      if 0x100 ≤ off ∧ off < 0x180 then .reg .hq 256 (off - 0x0C0)
      else if 0x180 ≤ off ∧ off < 0x1A0 then .reg .hqd 256 (off - 0x140)
      else .reg .hf i off
    | some (b, i) => .reg b i off

/-! ## Reads (R7, R9, R44, R335) -/

/-- A word of a bay's event ring: entry s stands at ((s − 1) mod 1,024) × 16; a place that holds no entry reads 0 (R336). -/
def Dev.ringWord (d : Dev) (bay off : Nat) : Nat :=
  match (Tab.get d.log.rings bay []).find? (fun e => (e.seq + 2 ^ 32 - 1) % 1024 == off / 16) with
  | none => 0
  | some e =>
    match off / 4 % 4 with
    | 0 => e.seq
    | 1 => e.event.code + e.rep * 2 ^ 16
    | 2 => e.p0
    | _ => e.p1

/-- A read of a LO register latches its HI register (R93, R502, R549). -/
def Dev.latch (d : Dev) (b : Blk) (i off : Nat) : Dev :=
  match b with
  | .sc => if off = 0x04C then d.set R.SC_TIME_HI (d.sched.time / 2 ^ 32) else d
  | .ks => if off = 0x04C then d.set R.KS_INPUT_HI (d.get R.KS_INPUT_HI i 1) i else d
  | .ev =>
    if off = 0x040 then d.set R.EV_HEAD_HI (d.log.markNext / 2 ^ 32 % 2 ^ 16)
    else if off = 0x048 then d.set R.EV_BASE_HI (d.log.markBase / 2 ^ 32 % 2 ^ 16)
    else if off = 0x05C then d.set R.EV_P_HEAD_HI (d.log.plinthNext / 2 ^ 32 % 2 ^ 16)
    else d
  | _ => d

/-- The free bytes that a read of a register takes: a sequencer's cycle counts, the phase of an engine, the source of the
backup node (log entry 6). -/
def freeReads (b : Blk) (off : Nat) : Nat :=
  match b with
  | .cb => if off = 0x05C ∨ off = 0x060 then 4 else 0
  | .vs => if off = 0x04C then 1 else 0
  | .tm => if off = 0x080 then 2 else 0
  | _ => 0

/-- Clear the RC fields of a register in the instance that is read (R7, R9). -/
def Dev.clearRc (d : Dev) (b : Blk) (i off : Nat) : Dev :=
  ((b.fields i).filter (fun f => f.kind = .rc)).foldl (fun a f =>
    (d.repsOf f off).foldl (fun c k => c.set f 0 i k) a) d

/-- Read a register: its value, and the block after the read. -/
def Dev.readReg (d : Dev) (p : Perm) (b : Blk) (i off : Nat) : Nat × Dev :=
  let d1 := (d.clearRc b i off).latch b i off
  (d.word p b i off, { d1 with free := d1.free + freeReads b off })

/-- Read the word an address leads to; an unassigned page reads 0 (R44). -/
def Dev.readAt (d : Dev) (p : Perm) (addr : Nat) : Nat × Dev :=
  match targetOf addr with
  | .reg b i off => d.readReg p b i off
  | .ring bay off => (d.ringWord bay off, d)
  | .unmapped => (0, d)

/-! ## Writes by field types (R7, R41) -/

/-- The values that the register tables give a field, where they do not fill it; a write with another value is refused as a
whole with ST_INPUT_RANGE (log entry 21). -/
def fieldRanges : List (Fld × Nat × Nat) :=
  [(R.PL_CTL_GUARD_PCT, 5, 15), (R.PL_CTL_PERIOD_H, 1, 168), (R.PW_DOM_INDEX, 0, 79), (R.CK_DOM_INDEX, 1, 18),
    (R.LC_TOKEN_INDEX, 0, 46), (R.TM_SRC_INDEX, 0, 41), (R.IC_INDEX, 0, 499), (R.KT_REENROL, 30, 90),
    (R.KC_REPOINT_PERIOD_MS, 1, 100), (R.VT_BAY_RETAIN, 0, 3650), (R.RN_RESEED, 1, 1000),
    (R.NF_SESSION_IDLE, 1, 86400), (R.NF_ANCHOR_INDEX_WORD, 0, 40), (R.CD_CTL_DEBOUNCE_MS, 1, 255),
    (R.CD_CTL_CLASS, 0, 2), (R.CD_CLK_DIV, 20, 100), (R.CD_T1_WTX_MAX_S, 1, 60), (R.CD_T1_RETRY, 1, 3),
    (R.CD_PWR, 10, 10000), (R.CD_CER_TIME_TIMEOUT_S, 60, 3600), (R.CD_CER_TIME_HOLD_S, 10, 3600),
    (R.BY_DEADLINE, 1, 1000000), (R.LG_RGN_PERM_SELF_SHIFT, 0, 40)]

/-- A field that a write changes: RW, and RWL while the page's LOCK is 0 (R7). -/
def Dev.writable (d : Dev) (f : Fld) (i : Nat) : Bool :=
  f.kind = .rw || (f.kind = .rwl && !d.on (R.LOCK f.blk) i)

/-- The value that a written word gives a field at repetition k. -/
def Fld.of (f : Fld) (v k : Nat) : Nat := v / 2 ^ f.bit k % f.bound

/-- A written word puts a field that it changes outside its range. -/
def Dev.outOfRange (d : Dev) (b : Blk) (i off v : Nat) : Bool :=
  fieldRanges.any (fun e =>
    e.1.blk = b && e.1.stands i && d.writable e.1 i &&
      (d.repsOf e.1 off).any (fun k => e.1.of v k < e.2.1 || e.1.of v k > e.2.2))

/-- Write one field by its type (R7). A staged field takes effect at the next course boundary (R42). -/
def Dev.writeField (d : Dev) (f : Fld) (i k v : Nat) : Dev :=
  let x := f.of v k
  match f.kind with
  | .rw | .rwl => if d.writable f i then (if f.staged then d.stage f x i k else d.set f x i k) else d
  | .w1c => d.set f (d.get f i k - (d.get f i k &&& x)) i k
  | .w1s => d.set f (d.get f i k ||| x) i k
  | .ro | .wo | .rc => d

/-- Write every field of a register that a test selects. -/
def Dev.writeFields (d : Dev) (b : Blk) (i off v : Nat) (sel : Fld → Bool) : Dev :=
  ((b.fields i).filter sel).foldl (fun a f =>
    (d.repsOf f off).foldl (fun c k => c.writeField f i k v) a) d

/-- A register without an action of its own: refused as a whole where a field is out of its range, else every field by its
type. -/
def Dev.plainWrite (d : Dev) (req : Requester) (b : Blk) (i off v : Nat) : Dev :=
  if d.outOfRange b i off v then d.err b i req .inputRange else d.writeFields b i off v (fun _ => true)

/-! ## Interrupt registers and LOCK (R40, R41, R528) -/

/-- INT_ENABLE: enabling a bit whose INT_RAW bit is set makes it pending at once (R40). -/
def Dev.writeEnable (d : Dev) (b : Blk) (i v : Nat) : Dev :=
  Dev.markRisen d (d.set (R.INT_ENABLE b) v i) (irqsOf b i)

/-- INT_PENDING: a 1 clears the bit in INT_PENDING and INT_RAW, whatever its enable (R40); where the IRQ stays asserted the
vector is marked again (R528). -/
def Dev.writePending (d : Dev) (b : Blk) (i v : Nat) : Dev :=
  let raw := d.get (R.INT_RAW b) i
  let d1 := d.set (R.INT_RAW b) (raw - (raw &&& low 32 v)) i
  (irqsOf b i).foldl (fun a n =>
    if d.irqAsserted n && a.irqAsserted n && d.pendingBits b i &&& low 32 v ≠ 0 then a.markIrq n else a) d1

/-- LOCK: a 1 freezes every RWL field of the page (R41). -/
def Dev.writeLock (d : Dev) (b : Blk) (i v : Nat) : Dev := if bitOf v 0 then d.set (R.LOCK b) 1 i else d

/-! ## SOFT_RESET (R41) -/

/-- The fields that show what other parts of the block hold, or that come from OTP, the Plinth, NOR, the floor record or an
area: they show it again after a soft reset (log entry 22). -/
def liveFields (b : Blk) : List Fld :=
  match b with
  | .ks => [R.KS_STATUS_CLAIM, R.KS_STATUS_STATE, R.KS_STATUS_MISS_MORTAR, R.KS_STATUS_MISS_WIRE, R.KS_STATUS_CAUSE,
      R.KS_FW_RELEASE, R.KS_FW_PAIR_MIN, R.KS_MATCHED_S, R.KS_INPUT_LO, R.KS_INPUT_HI, R.KS_LAG, R.KS_CTRL_RESTART,
      R.KS_PAIR_STATUS_LOST, R.KS_PAIR_STATUS_HOLD, R.KS_PAIR_STATUS_CONTROLLER]
  | .pw => [R.PW_BOOT_ATTEMPT, R.PW_BOOT_CAUSE, R.PW_BOOT_STEP, R.PW_BOOT_FALLBACK, R.PW_BOOT_SLOT, R.PW_BOOT_PREFERRED,
      R.PW_SUPPLY_MAIN_MV, R.PW_SUPPLY_AUX_MV, R.PW_INPUT_IIN, R.PW_INPUT_POWER, R.PW_DOM_STATUS_MV,
      R.PW_DOM_STATUS_FENCED, R.PW_DOM_STATUS_STATE, R.PW_LOSSES, R.PW_BALLAST]
  | .ck => [R.CK_DOM_FREQ, R.CK_DOM_TARGET, R.CK_DOM_STATUS_STOPS, R.CK_DOM_STATUS_LOCKED, R.CK_DOM_STATUS_RUNNING]
  | .pl => [R.PL_CTL_MEASURE, R.PL_SLACK_SLACK, R.PL_SLACK_MIN_SLACK, R.PL_PLAN_MV, R.PL_PLAN_MHZ, R.PL_MARGIN, R.PL_LAST,
      R.PL_PUF_REENROLS, R.PL_PUF_MAX_CORRECTED, R.PL_NAND]
  | .lc => [R.LC_STATUS_BUSY, R.LC_STATUS_HELD, R.LC_STATUS_RESUMED, R.LC_STATUS_TARGET, R.LC_STATUS_STEP]
  | .dbg => [R.DBG_STATUS_SESSION, R.DBG_STATUS_SCOPE, R.DBG_REMAIN]
  | .tm => [R.TM_SRC_CFG_N, R.TM_SRC_CFG_W_UNIT, R.TM_SRC_CFG_W, R.TM_SRC_CFG_RESPONSE, R.TM_FUSE_STATUS_BUSY,
      R.TM_BACKUP_MV, R.TM_TEMP_S0, R.TM_TEMP_S1, R.TM_TEMP_S2, R.TM_MAG_X, R.TM_MAG_Y, R.TM_MAG_Z]
  | .ev => [R.EV_STATUS_FULL, R.EV_STATUS_NEAR_FULL, R.EV_STATUS_MOUNTED, R.EV_LOST]
  | .kt => [R.KT_STATUS_CORRECTED, R.KT_STATUS_REENROLLED, R.KT_STATUS_ROOT, R.KT_FLEET_FLOOR_FORMAT_MAX,
      R.KT_FLEET_FLOOR_FLOOR]
  | .vt => [R.VT_AREA, R.VT_WEAR]
  | .rn => [R.RN_STATUS_FAIL, R.RN_STATUS_STARTED, R.RN_STATUS_HEALTHY]
  | .sc => [R.SC_GROUP_VERSION]
  | .asp => [R.AS_SERVICE_FAULTED]
  | .hs => [R.HS_SERVICE_FAULTED]
  | .vs => [R.VS_SERVICE_FAULTED, R.VS_UCODE_STATUS_VALID, R.VS_UCODE_STATUS_STALE, R.VS_UCODE_VERSION_RELEASE,
      R.VS_UCODE_VERSION_VERSION, R.VS_UCODE_FMAX]
  | .nfp => [R.NF_PORT_STATUS_MODE, R.NF_PORT_STATUS_FEC_LOCK, R.NF_PORT_STATUS_TRAINING, R.NF_PORT_STATUS_LINK_UP,
      R.NF_PORT_LOSS, R.NF_PORT_CABLE_LEN_A, R.NF_PORT_CABLE_LEN_B, R.NF_PORT_PARTNER_A_LO, R.NF_PORT_PARTNER_A_HI,
      R.NF_PORT_PARTNER_B_LO, R.NF_PORT_PARTNER_B_HI]
  | .hf => [R.HF_LINK_UP, R.HF_LINK_SPEED, R.HF_LINK_WIDTH, R.HF_IDE_STATUS]
  | .cd => [R.CD_STATE_SESSION, R.CD_STATE_CLASS_USED, R.CD_STATE_PRESENT, R.CD_STATE_STATE, R.CD_PARAM_TA1,
      R.CD_PARAM_IFSC, R.CD_PARAM_BWI, R.CD_PARAM_CWI, R.CD_PARAM_CLOCK_STOP, R.CD_PARAM_CRC, R.CD_PARAM_PPS_DONE,
      R.CD_VCC_MV, R.CD_VCC_CURRENT, R.CD_CARD_ID_LO, R.CD_CARD_ID_HI, R.CD_CER_STATUS_STATE, R.CD_CER_STATUS_CLASS,
      R.CD_CER_STATUS_BAY, R.CD_CER_STATUS_COUNT, R.CD_CER_STATUS_M]
  | _ => []

/-- The fields of a page that a soft reset leaves: LOCK, EPOCH, RWL fields while LOCK is set, and the live fields (R41). -/
def Dev.softKept (d : Dev) (b : Blk) (i : Nat) : List Fld :=
  [R.LOCK b, R.EPOCH b] ++ (if d.on (R.LOCK b) i then b.own.filter (fun f => f.kind = .rwl) else []) ++ liveFields b

/-- Every field of a page at its reset value, but for those that stay. -/
def Dev.resetPage (d : Dev) (b : Blk) (i : Nat) : Dev :=
  let kept := (d.softKept b i).map (fun f => f.key i 0 / 0x1000)
  let keep (key : Nat) : Bool := keyPage key ≠ b.page i || kept.contains (key / 0x1000)
  { d with regs :=
      ⟨d.regs.vals.filter (fun e => keep e.1), d.regs.eff.filter (fun e => keep e.1), d.regs.staged.filter keep⟩ }

/-- The requests that a group's contexts or the bay queues hold end with ST_ABORTED. -/
def Dev.abortRequests (d : Dev) (sel : Nat → Bool) : Dev :=
  d.sched.ctxs.foldl (fun a e =>
    match sel e.1, e.2.req with
    | true, some r => a.endCtx e.1 r e.2.owned .aborted []
    | _, _ => a) d

/-- Work in flight in a block ends as an abort does there; Vault writes that are passed on complete first (R41). -/
def Dev.abortBlock (d : Dev) (b : Blk) (i : Nat) : Dev :=
  match b with
  | .asp =>
    let one (a : Dev) (next : Bool) (j : Option Job) : Dev :=
      match j with | some y => a.coreAborted i next y .aborted | none => a
    one (one d true (d.core i).nextJob) false (d.core i).curJob
  | .hs => match (d.hash i).curJob with | some j => d.hashAborted i j .aborted | none => d
  | .vs => match (d.engine i).curJob with | some j => d.engineAborted i j | none => d
  | .pn =>
    let gone := d.eng.pinWait ++ d.eng.pinLanes.map (·.2)
    gone.foldl (fun a j => a.jobToken j.ctx j.req .aborted) { d with eng := { d.eng with pinWait := [], pinLanes := [] } }
  | .cb => d.abortRequests (fun c => c / 8 == i)
  | .sc =>
    let all := d.sched.queues.flatMap (·.2)
    all.foldl (fun a r => a.endRequest r false .aborted []) { d with sched := { d.sched with queues := [] } }
  | .kt => { d with keys := { d.keys with certWait := false } }
  | .kc =>
    let gone := d.keys.fills
    gone.foldl (fun a f => a.jobToken f.ctx f.req .aborted) { d with keys := { d.keys with fills := [], sweepDue := false } }
  | .vt => bundleAbort ((List.range d.keys.writes.length).foldl (fun a _ => a.writeDurable 0) d)
  | .nfc =>
    let d1 : Dev := { d with face := { d.face with handshakes := [], partials := [] } }
    (List.range 8).foldl (fun a g => a.setLaneMode g 0) d1
  | .hf | .hq =>
    let o := if b = .hf then 256 else i
    let d1 := (List.range 4).foldl (fun a r => a.setHostRing o r ⟨0, 0, 0, 0, (d.hostRing o r).epoch + 1⟩) d
    if b = .hf then d1.resetPage .hq 256 else d1
  | .cd => d.breakExchange i .aborted
  | .lg =>
    match d.drain i with
    | some x => x.held.foldl (fun a h => a.answerLost h .aborted) { d with gates := Tab.del d.gates i }
    | none => d
  | .ev => { d with log := { d.log with markRead := none } }
  | .pc => { d with log := { d.log with counters := [], shadow := [], levelLast := [] } }
  | .ic => { d with log := { d.log with irqHeld := [] } }
  | .cs => { d with cs := { d.cs with reading := none, data := [] } }
  | .lc => { d with life := { d.life with challenge := none, token := [], checking := none, standing := none } }
  | _ => d

/-- CTRL.SOFT_RESET of a page whose chapter gives it no meaning of its own (R41): the block's work is aborted and its fields
return to their reset values; it is READY again within the step (log entry 22). -/
def Dev.softReset (d : Dev) (b : Blk) (i : Nat) : Dev := ((d.abortBlock b i).resetPage b i).flushAll

/-- CTRL: ENABLE and QUIESCE, then SOFT_RESET. In a BY page SOFT_RESET is the bay reset (R320); in a BW page CTRL is read-only
(R341). -/
def Dev.writeCtrl (d : Dev) (b : Blk) (i v : Nat) : Dev :=
  if b = .bw then d
  else
    let d1 := d.writeFields b i 0x008 v (fun f => f.kind = .rw)
    if b = .by then bayReset i v d1 else if bitOf v 2 then d1.softReset b i else d1

/-! ## Registers whose write acts -/

/-- A write that acts on bits of its own, after the register's plain fields have been written. -/
def Dev.plainThen (d : Dev) (req : Requester) (b : Blk) (i off v : Nat) (act : Dev → Dev) : Dev :=
  if d.outOfRange b i off v then d.err b i req .inputRange
  else act (d.writeFields b i off v (fun f => f.kind = .rw || f.kind = .rwl))

/-- KT_CMD (R187, R219, R222, R224): the certificate command waits for its certificate to be checked. -/
def ktCommand (req : Requester) (v : Nat) (d : Dev) : Dev :=
  let bay := bits v 15 8
  match low 8 v with
  | 1 => ktRaiseFloor req d
  | 2 => ktSetExternalIv req bay d
  | 3 => ktClearExternalIv bay d
  | 4 => ({ d with keys := { d.keys with certWait := true } }).set R.KT_CMD_STATUS_BUSY 1
  | _ => d.err .kt 0 req .inputRange

/-- VT_BUNDLE_CTL: source and destination, then the operation; a restore runs until its bundle has come (R214 to R216). -/
def vtBundleCtl (req : Requester) (v : Nat) (p : Perm) (d : Dev) : Dev :=
  let d1 := (d.set R.VT_BUNDLE_CTL_DST_BAY (bits v 23 16)).set R.VT_BUNDLE_CTL_SRC_BAY (bits v 15 8)
  match low 2 v with
  | 1 => bundleExport req (bits v 15 8) p d1
  | 2 => d1.bundleStart p req 2 3 (bits v 15 8) (bits v 23 16) [3, 4]
  | 3 => bundleAbort d1
  | _ => d1

/-- CD_CMD: the commands of a card interface, from supervisor accesses only (R409). -/
def cdCommand (req : Requester) (i v : Nat) (d : Dev) : Dev :=
  if req.origin ≠ .supervisor then d
  else
    match low 8 v with
    | 1 => cardOpenSession req i v d
    | 2 => cardReadSlot req i v d
    | 3 => cardVerify req i v d
    | 4 => cardWriteShare req i v d
    | 5 => cardProtectSlot req i v d
    | 6 => cardWake req i v d
    | 7 => cardClose req i v d
    | _ => d.err .cd i req .inputRange

/-- CD_CER_CTL: open or close a ceremony (R402, R409). -/
def cdCeremony (req : Requester) (v : Nat) (p : Perm) (d : Dev) : Dev :=
  match low 8 v with
  | 1 => ceremonyOpen p.level req v d
  | 2 => ceremonyClose req d
  | _ => d.err .cd 0 req .inputRange

/-- BY_BIND_CMD and NF_MGR_BIND_CMD (R305, R375). -/
def bindCommand (target pid v : Nat) (d : Dev) : Dev :=
  match low 2 v with
  | 1 => bind target pid d
  | 2 => unbind target pid d
  | 3 => bindQuery target pid d
  | _ => d

/-- The accesses in flight that a gate has passed: those that wait at a crossing. -/
def Dev.inflightAt (d : Dev) (g : Nat) : Nat :=
  ((d.wires.xings.flatMap (·.waiting)).filter (fun a => a.gate == some g)).length

/-- A write of a counter value takes place only while FROZEN is 1 (R544). -/
def pcCounterWrite (upper : Bool) (v : Nat) (d : Dev) : Dev :=
  let k := d.get R.PC_INDEX
  let old := Tab.get d.log.counters k 0
  let new := if upper then old % 2 ^ 32 + low 16 v * 2 ^ 32 else old / 2 ^ 32 * 2 ^ 32 + low 32 v
  if d.on R.PC_CTL_FROZEN then { d with log := { d.log with counters := Tab.set d.log.counters k 0 new } } else d

/-- A ring's base addresses and PASID accept writes only while it is neither enabled nor running (R377). -/
def Dev.ringWrite (d : Dev) (req : Requester) (owner off v : Nat) : Dev :=
  let r := (off - 0x040) / 0x20
  if off % 0x20 = 0x10 then hqCfgWrite owner r v d
  else if d.on R.HQ_CFG_EN owner r || d.on R.HQ_STATUS_RUNNING owner r then d
  else d.plainWrite req .hq owner off v

/-- The writes of the management-side pages that act: KS (R492, R497, R499), PW (R509, R515), PL (R517), LC (R443, R453,
R454), DBG (R456), CS (R440), EV (R539, R541), PC (R544), IC (R529); none where the register has no action. -/
def mgmtWrite (req : Requester) (b : Blk) (i off v : Nat) (p : Perm) (d : Dev) : Option (Perm × Dev) :=
  let own (x : Dev) : Option (Perm × Dev) := some (p, x)
  match b, off with
  | .ks, 0x058 => own (ksRestart req i v d)
  | .ks, 0x070 =>
    if i ≠ 0 then own d
    else
      let d1 := d.set R.KS_PAIR_CTL_AUTO_REVERT (low 1 v)
      let d2 := if bitOf v 1 then ksPairSwitch req d1 else d1
      own (if bitOf v 2 then ksRevertArm d2 else d2)
  | .pw, 0x040 => own (pwBootPreferredWrite v d)
  | .pw, 0x054 => own (if low 2 v = 1 then powerDomainOn req p d else if low 2 v = 2 then powerDomainOff req d else d)
  | .pl, 0x040 => own (d.plainThen req .pl 0 off v (fun a => if bitOf v 0 then plumbMeasure a else a))
  | .lc, 0x048 => some (lcTransitionRequest v p d)
  | .lc, 0x05C => own (lcChallengeNew req v d)
  | .lc, 0x06C => own { d with life := { d.life with token := Tab.set d.life.token (d.get R.LC_TOKEN_INDEX) 0 (low 32 v) } }
  | .lc, 0x070 => own (tokenSubmit v d)
  | .dbg, 0x044 => own (dbgEnd v p d)
  | .cs, 0x05C => own (csRead v d)
  | .ev, 0x074 => own (evClear req v d)
  | .ev, 0x07C => own (evRead v d)
  | .pc, 0x040 =>
    let d1 := pcFreeze (bitOf v 1) d
    own (if bitOf v 2 then pcSnapshot d1 else d1)
  | .pc, 0x058 => own (pcCounterWrite false v d)
  | .pc, 0x05C => own (pcCounterWrite true v d)
  | .ic, 0x044 => own (icMapWrite v d)
  | _, _ => none

/-- The writes of the other pages that act: TM (R416, R418, R424), KT, KC and VT (R224), SC (R93), AS, HS and VS (R234, R259,
R297), PN (R132), NF (R344, R362, R375), CD (R409), LG (R472), BY (R308, R305), BW (R320, R338), HQ and its doorbells (R368,
R377). -/
def blockWrite (req : Requester) (pasid : Option Nat) (b : Blk) (i off v : Nat) (p : Perm) (d : Dev) : Option (Perm × Dev) :=
  let own (x : Dev) : Option (Perm × Dev) := some (p, x)
  match b, off with
  | .tm, 0x044 => some (tmResume req v p d)
  | .tm, 0x050 => own (tmSrcCfgWrite req v p d)
  | .tm, 0x068 | .tm, 0x06C =>
    own (Dev.markRisen d (d.plainWrite req .tm 0 off v) ((List.range 42).map (· + 356)))
  | .tm, 0x078 => own (tmFuseCmd v p d)
  | .kt, 0x054 => own (ktCommand req v d)
  | .kc, 0x054 => own (kcBayQuotaWrite req (d.get R.KC_BAY_INDEX) v d)
  | .vt, 0x048 => own (vtBayQuotaWrite req (d.get R.VT_BAY_INDEX) v d)
  | .vt, 0x054 => own (vtBundleCtl req v p d)
  | .sc, 0x040 => own (modeWrite v d)
  | .sc, 0x044 => own (coreSplitWrite req v d)
  | .sc, 0x064 => own (pinDataWrite v d)
  | .asp, 0x054 => own (d.set R.AS_SERVICE_OFFLINE (low 1 v) i)
  | .hs, 0x04C =>
    let d1 := d.set R.HS_SERVICE_OFFLINE (low 1 v) i
    own (if d.workLevel p.level < 2 then d1.hashGrant 16 else d1)
  | .vs, 0x050 => own (d.set R.VS_SERVICE_OFFLINE (low 1 v) i)
  | .vs, 0x054 | .vs, 0x058 => own (if req.origin = .supervisor then d.plainWrite req .vs i off v else d)
  | .vs, 0x05C => own (if req.origin = .supervisor then vsUcodeLoad req i v d else d)
  | .pn, 0x048 => own (pnXlateWrite req v d)
  | .pn, 0x04C => own (pnBayWrite req .limits v d)
  | .pn, 0x050 => own (pnBayWrite req .gov v d)
  | .pn, 0x054 => own (pnBayWrite req .govCtl v d)
  | .nfc, 0x040 => own (laneModeWrite req v d)
  | .nfc, 0x078 => own (d.endSession v)
  | .nfc, 0x090 => own (bindCommand managerTarget (d.get R.NF_MGR_BIND_PID) v d)
  | .cd, 0x040 => own (d.plainThen req .cd i off v (fun a =>
      let a1 := if bitOf v 1 then cardActivate i a else a
      if bitOf v 2 then cardDeactivate i a1 else a1))
  | .cd, 0x064 => own (cdCommand req i v d)
  | .cd, 0x070 => own (if i = 0 then cdCeremony req v p d else d)
  | .lg, 0x044 => own (lgCommit req i v (d.inflightAt i) d)
  | .by, 0x040 => own (byShareWrite req i 0 v d)
  | .by, 0x054 => own (byShareWrite req i 1 v d)
  | .by, 0x058 => own (byShareWrite req i 2 v d)
  | .by, 0x044 => own (byQueueWrite req i v d)
  | .by, 0x04C => own (byCtxWrite req i v d)
  | .by, 0x068 => own (bindCommand i (d.get R.BY_BIND_PID i) v d)
  | .bw, 0x044 => own (baySelfReset req i v d)
  | .bw, 0x064 => own (bwEvTailWrite req i v d)
  | .hqv, 0x044 => own ((d.set R.HQ_VEC_MASK (low 1 v) i).flushVec (d.get R.IC_MAP_VECTOR 0 i))
  | _, _ =>
    if b = .sc ∧ 0x080 ≤ off ∧ off < 0x0C0 then own (groupDispatchWrite req ((off - 0x080) / 4) v d)
    else if b = .lg ∧ 0x100 ≤ off ∧ off < 0x200 ∧ (d.drain i).isSome then own (d.err .lg i req .policyDenied)
    else if b = .cd ∧ 0x100 ≤ off ∧ off < 0x180 then own (d.set R.CD_PINBLK v i ((off - 0x100) / 4))
    else if b = .hq ∧ 0x040 ≤ off ∧ off < 0x0C0 then own (d.ringWrite req i off v)
    else if b = .hqd ∧ 0x040 ≤ off ∧ off < 0x050 then own (hqDoorbell i ((off - 0x040) / 4) pasid v d)
    else if b = .hqd ∧ 0x050 ≤ off ∧ off < 0x060 then own (hqCplDoorbell i ((off - 0x050) / 4) pasid v d)
    else none

/-- Write a register: the common header's own registers, then a register whose write acts, else the fields by their types. -/
def Dev.writeReg (d : Dev) (p : Perm) (req : Requester) (pasid : Option Nat) (b : Blk) (i off v : Nat) : Perm × Dev :=
  if (b = .hq ∨ b = .hqd) ∧ i = 256 ∧ off < 0x040 then (p, d)
  else if off = 0x008 then (p, d.writeCtrl b i v)
  else if off = 0x014 then (p, d.writeEnable b i v)
  else if off = 0x018 then (p, d.writePending b i v)
  else if off = 0x01C then (p, d.writeLock b i v)
  else
    match mgmtWrite req b i off v p d with
    | some r => r
    | none =>
      match blockWrite req pasid b i off v p d with
      | some r => r
      | none => (p, d.plainWrite req b i off v)

/-- The parameters of EV_REG_PARTIAL and EV_REG_UNMAPPED: the requester's ORIGIN and BAY (R567). -/
def Requester.param (r : Requester) : Nat := r.origin.code * 2 ^ 8 + r.bay

/-- Write the word an address leads to: an unassigned page drops it with EV_REG_UNMAPPED (R44), an event ring page with
ST_POLICY_DENIED in the BW page's ERR_INFO (R335). -/
def Dev.writeAt (d : Dev) (p : Perm) (req : Requester) (pasid : Option Nat) (addr v : Nat) : Perm × Dev :=
  match targetOf addr with
  | .reg b i off => d.writeReg p req pasid b i off v
  | .ring bay _ => (p, d.err .bw bay req .policyDenied)
  | .unmapped => (p, d.mark .regUnmapped .management 0 (low 32 addr) (bits addr 47 32) 4 req.param)

/-- An access of another size or alignment (R38): a read gives 0; a write is dropped and recorded. -/
def Dev.partialWrite (d : Dev) (req : Requester) (addr size : Nat) : Dev :=
  match targetOf (addr - addr % 4) with
  | .reg b _ _ => d.mark .regPartial b.island 0 (low 32 addr) (bits addr 47 32) size req.param
  | .ring _ _ => d.mark .regPartial Island.corbel 0 (low 32 addr) (bits addr 47 32) size req.param
  | .unmapped => d.mark .regUnmapped .management 0 (low 32 addr) (bits addr 47 32) size req.param

/-! ## The meanings -/

/-- REGISTER_WRITE: a write of 4 bytes at an aligned address, of 8 bytes at an address that is a multiple of 8, or of another
size or alignment that has reached the page (R7, R38, R44). -/
def registerWrite (req : Requester) (addr size v : Nat) (p : Perm) (d : Dev) : Perm × Dev :=
  if size = 4 ∧ addr % 4 = 0 then d.writeAt p req none addr (low 32 v)
  else if size = 8 ∧ addr % 8 = 0 then
    let r := d.writeAt p req none addr (low 32 v)
    r.2.writeAt r.1 req none (addr + 4) (bits v 63 32)
  else (p, d.partialWrite req addr size)

/-- RC_READ: a read of a word; RC fields give their values and are cleared, and every other field shows its value (R7, R9). -/
def rcRead (req : Requester) (addr : Nat) (p : Perm) (d : Dev) : Dev :=
  let r := d.readAt p (addr - addr % 4)
  r.2.send (.answer req addr ⟨.ok, r.1⟩)

/-- A write of one register of the common header, by the page index. -/
def headerWrite (pg off v : Nat) (req : Requester) (p : Perm) (d : Dev) : Perm × Dev :=
  match targetOf (pg * 0x1000 + off) with
  | .reg b i o => d.writeReg p req none b i o v
  | _ => (p, d)

/-- REGISTER_WRITE (R7). -/
def execRegisterWrite (req : Requester) (addr : BitVec 48) (size : Nat) (v : DWord) (s : State) :
    Host.Outcome State Fault Refusal := s.afterPerm (registerWrite req addr.toNat size v.toNat)
/-- RC_READ (R9). -/
def execRcRead (req : Requester) (addr : BitVec 48) (s : State) : Host.Outcome State Fault Refusal :=
  s.afterWith (rcRead req addr.toNat)
/-- INT_PENDING_WRITE (R40). -/
def execIntPendingWrite (req : Requester) (pg : BitVec 16) (v : Word) (s : State) : Host.Outcome State Fault Refusal :=
  s.afterPerm (headerWrite pg.toNat 0x018 v.toNat req)
/-- LOCK_WRITE (R41). -/
def execLockWrite (req : Requester) (pg : BitVec 16) (v : Word) (s : State) : Host.Outcome State Fault Refusal :=
  s.afterPerm (headerWrite pg.toNat 0x01C v.toNat req)
/-- SOFT_RESET (R41). -/
def execSoftReset (req : Requester) (pg : BitVec 16) (v : Word) (s : State) : Host.Outcome State Fault Refusal :=
  s.afterPerm (headerWrite pg.toNat 0x008 v.toNat req)

end Sys2Proof.Machine
end

