-- ==== Sys2Proof/Machine/Anatomy.lean ====
section
/-! DEFINITION. Accesses from the faces, the Mortar, the debug port and the SMBus to the module's addresses, on their way
through gates and crossings (ch. 01, R47, R353, R455, R474, R559); and crossings and clocks that fail and return (R29 to R35).
-/

namespace Sys2Proof.Machine

/-! ## What an access does at its target (R21, R38, R232, R285) -/

/-- The canonical form of HBM: addresses rising, no byte listed that reads as an unlisted one does (log entry 25). -/
abbrev Memory.wf (m : Tab Byte) : Bool := Tab.wf m (fun _ => 0)

/-- Write bytes to HBM from an address on. -/
def Memory.write (m : Tab Byte) (addr : Nat) (b : Bytes) : Tab Byte :=
  b.zipIdx.foldl (fun t e => Tab.set t (addr + e.2) 0 e.1) m

/-- The HBM bytes of an access: read with their answer, or written (R461). -/
def Dev.hbmAccess (d : Dev) (g : Nat) (a : Access) : Dev :=
  let d1 := d.occur 0x0B0 none (g - 28) ((a.size + 63) / 64)
  match a.op with
  | .read | .fetch => d1.answerTo a .ok (leNat (d1.hbmBytes a.addr a.size))
  | _ =>
    ({ d1 with hbm := Memory.write d1.hbm a.addr a.data }).answerTo a .ok 0

/-- A lock entry takes the flits of a message: its origin class, bay, generation number and tag agree (R232, R285). -/
def Lock.takes (l : Lock) (h : Header) : Bool :=
  l.state != 0 && l.supervisor == (h.origin == .supervisor) && h.origin != .debug && l.bay == h.bay && l.gen == h.gen &&
    l.tag == h.tag

/-- The units take only flits that match one of their lock entries (R232, R259, R285). -/
def Dev.flitTaken (d : Dev) (u : FlitUnit) (h : Header) : Bool :=
  match u with
  | .none => true
  | .core (.cur c) | .core (.next c) => (d.core c).cur.takes h || (d.core c).next.takes h
  | .core (.hash k) => (d.hash k).cur.takes h
  | .engine e => (d.engine e).cur.takes h

/-- A flit that no lock entry takes is dropped: AS_LOCK_MISMATCH or VS_LOCK_MISMATCH (R232, R262, R285, R303). -/
def Dev.lockMismatch (d : Dev) (u : FlitUnit) (h : Header) : Dev :=
  let o := h.origin.code
  match u with
  | .none => d
  | .core (.cur c) | .core (.next c) =>
    ((d.bumpSat R.AS_LOCK_MISMATCH c).raiseInt .asp c 4).mark .asLockMismatch .ashlar c o h.bay h.gen h.tag
  | .core (.hash k) => d.mark .asLockMismatch .ashlar k o h.bay h.gen h.tag
  | .engine e => (d.raiseInt .vs e 8).mark .vsLockMismatch .voussoir e o h.bay h.gen h.tag

/-- A message or an access reaches a port that serves no register page: the HBM, a unit with lock entries, or a port whose
answer is a message of its own. -/
def Dev.portAccess (d : Dev) (t : PortTarget) (a : Access) : Dev :=
  match t.gate with
  | some g =>
    if 28 ≤ g ∧ g ≤ 31 then d.hbmAccess g a else d.send (.mortar t.hdr a.data)
  | none => if d.flitTaken t.unit t.hdr then d.send (.mortar t.hdr a.data) else d.lockMismatch t.unit t.hdr

/-- A register access takes place: a word is read or written; a read of another size or alignment gives 0 in every byte, and
such a write is dropped (R38). -/
def Dev.registerAccess (d : Dev) (p : Perm) (a : Access) : Perm × Dev :=
  let whole := a.size = 4 ∧ a.addr % 4 = 0
  match a.op with
  | .read | .fetch =>
    if whole then
      let r := d.readAt p a.addr
      (p, r.2.answerTo a .ok r.1)
    else (p, d.answerTo a .ok 0)
  | _ =>
    if whole then
      let r := d.writeAt p a.req a.pasid a.addr (leNat a.data)
      (r.1, r.2.answerTo a .ok 0)
    else (p, (d.partialWrite a.req a.addr a.size).answerTo a .ok 0)

/-- An access takes place at its target. -/
def Dev.perform (d : Dev) (p : Perm) (a : Access) : Perm × Dev :=
  match a.port with
  | some t => (p, d.portAccess t a)
  | none => d.registerAccess p a

/-! ## Through crossings and gates (R31 to R35, R466, R473) -/

/-- The crossing that an access passes, if its target lies behind one. -/
def Access.xing (a : Access) : Option Xing :=
  match a.port with
  | some t => t.xing
  | none =>
    match targetOf a.addr with
    | .reg b i _ => pageXing b i a.dst
    | .ring bay _ => pageXing .bw bay a.dst
    | .unmapped => none

/-- Pass an access on to its target. A stalled or fenced crossing ends it; before a stopped clock, behind an access that
waits, and in the Plinth's mailbox it waits (R31, R33 to R35). -/
def Dev.passOn (d : Dev) (p : Perm) (a : Access) : Perm × Dev :=
  match a.xing with
  | none => d.perform p a
  | some x =>
    let s := d.xing x
    if d.fenced x || s.stalled then (p, (d.xingRefuse x).answerLost a .xingTimeout)
    else if d.stopped x.rx || x.rx == 15 || !s.waiting.isEmpty then (p, d.setXing { s with waiting := s.waiting ++ [a] })
    else d.perform p a

/-- An access reaches the gate in front of its target: a drain holds or faults it, and otherwise the rules decide (R466,
R469, R473, R475). stamp is the arrival time of the event of source 39 that a refused debug access makes (R471). -/
def Dev.submit (d : Dev) (p : Perm) (a : Access) (stamp : Nat) : Perm × Dev :=
  match a.gate with
  | none => d.passOn p a
  | some g =>
    match d.drain g with
    | some x =>
      if x.late then (p, d.gateFault g a)
      else (p, { d with gates := Tab.put d.gates g { x with held := x.held ++ [a] } })
    | none =>
      let c := d.gateDecide p g a
      if c.1 = 0 then d.passOn p a else d.gateRefuse p g a c.1 c.2 stamp

/-- Split an access of 8 bytes at an aligned address into two, the lower address first, with one response (R38). A posted
write has none. -/
def Dev.submitSplit (d : Dev) (p : Perm) (a : Access) (stamp : Nat) : Perm × Dev :=
  if a.port.isNone ∧ a.size = 8 ∧ a.addr % 8 = 0 then
    let id := d.wires.splits.foldl (fun m e => max m (e.1 + 1)) 0
    let d1 : Dev :=
      if a.reply = .none then d
      else { d with wires := { d.wires with splits := Tab.put d.wires.splits id ⟨a, none, none⟩ } }
    let part (upper : Bool) : Access :=
      { a with
        addr := if upper then a.addr + 4 else a.addr
        size := 4
        data := if upper then (a.data.drop 4).take 4 else a.data.take 4
        reply := if a.reply = .none then .none else .half id upper }
    let r := d1.submit p (part false) stamp
    r.2.submit r.1 (part true) stamp
  else d.submit p a stamp

/-- Carry out accesses one after another. -/
def Dev.inTurn (d : Dev) (p : Perm) (l : List Access) (f : Dev → Perm → Access → Perm × Dev) : Perm × Dev :=
  l.foldl (fun r a => f r.2 r.1 a) (p, d)

/-- DRAIN_END: INFLIGHT reaches 0, the staged bank becomes active, and the held accesses are checked under the new rules in
the order of their arrival (R474, R475). It cannot come while an access that the gate has passed waits at a crossing. -/
def drainEnd (g clocks stamp : Nat) (p : Perm) (d : Dev) : Perm × Dev :=
  match d.drain g with
  | none => (p, d)
  | some x =>
    if d.inflightAt g ≠ 0 then (p, d)
    else (d.drainDone g clocks x.late).inTurn p x.held (fun b q a => b.submit q a stamp)

/-! ## Messages of the Mortar (R21 to R23, R30, R462) -/

/-- The access operation of a CLASS 0 request that gates check (R462). -/
def Header.access (h : Header) : Option AccessOp :=
  if h.cls ≠ 0 then none
  else match h.op with
    | 0 => some .read | 1 => some .write | 2 => some .posted | 6 => some .fetch | _ => none

/-- The flits of a message are counted in every quadrant that forwards it; a message without payload is one flit (R542). -/
def Dev.countFlits (d : Dev) (quads : List (Fin 4)) (n : Nat) : Dev :=
  quads.foldl (fun a (q : Fin 4) => a.occur 0x0A0 none q.val (max 1 n)) d

/-- MORTAR_MESSAGE: a message on its way from its source port to its destination port: an access through its gate, a pulse of
an event crossing, or a message for a port or a unit. -/
def mortarMessage (h : Header) (payload : Bytes) (size : Nat) (isl : Island) (gate : Option Nat) (x : Option Xing)
    (unit : FlitUnit) (quads : List (Fin 4)) (stamp : Nat) (p : Perm) (d : Dev) : Perm × Dev :=
  let d1 := d.countFlits quads h.len
  let req : Requester := ⟨h.origin, h.bay, isl⟩
  match h.access with
  | some op =>
    let port := if gate.isSome then some ⟨gate, h, x, .none⟩ else none
    let reply : Reply := if op = .posted then .none else .requester
    d1.submitSplit p ⟨op, h.addr, size, payload, req, h.src, h.dst, reply, none, port⟩ stamp
  | none =>
    let a : Access :=
      ⟨.posted, h.addr, payload.length, payload, req, h.src, h.dst, .none, none, some ⟨none, h, x, unit⟩⟩
    match x with
    | some y => if h.cls = 2 ∧ h.op = 5 then (p, d1.xingPulse y) else d1.passOn p a
    | none => d1.passOn p a

/-! ## Crossings that fail and return (R29, R31 to R35, R253, R295) -/

/-- The units behind a crossing that has realigned apply their pending aborts and wipe (R253, R295). -/
def Dev.realignUnits (d : Dev) (p : Perm) (x : Xing) : Dev :=
  (xingDomains x).foldl (fun a i => a.wipeDomain (d.workLevel p.level) i) d

/-- The job that a unit was claimed for last ends with ST_XING_TIMEOUT, its lock entry held until the unit wipes (R253,
R295). -/
def Dev.loseLast (d : Dev) (u : FlitUnit) : Dev :=
  match u with
  | .none => d
  | .core (.cur c) => d.loseBank c false
  | .core (.next c) => d.loseBank c true
  | .core (.hash h) => d.loseHash h
  | .engine e => d.loseEngine e

/-- The page that owns the crossing of a unit (R33). -/
def FlitUnit.page : FlitUnit → Option (Blk × Nat)
  | .none => Option.none
  | .core (.cur c) | .core (.next c) => portPage .asp c
  | .core (.hash h) => portPage .hs h
  | .engine e => portPage .vs e

/-- The transaction that times out at a crossing: the job message of a unit behind it, or the oldest access that the far side
has not acknowledged. In a crossing into the Plinth the access in the mailbox has been acknowledged (R35). -/
def Dev.endTransaction (d : Dev) (x : Xing) (u : FlitUnit) : Dev :=
  if u.page.isSome then (if u.page = x.owner then d.loseLast u else d)
  else
    let s := d.xing x
    let k := if x.rx = 15 then 1 else 0
    match s.waiting[k]? with
    | none => d
    | some a => (d.setXing { s with waiting := s.waiting.eraseIdx k }).answerLost a .xingTimeout

/-- XING_UNSTABLE: no two successive samples agree; the value is discarded, and the crossing does not stall (R29). A crossing
into the Plinth takes no samples (R35). -/
def xingUnstable (x : Xing) (u : FlitUnit) (d : Dev) : Dev :=
  if d.fenced x ∨ (d.xing x).stalled ∨ x.rx = 15 then d
  else ((d.xingMark x .xingUnstable).xingInt x).endTransaction x u

/-- XING_TIMEOUT: the acknowledge has not returned in time (R31, R33, R35). The accesses behind the one that timed out meet a
stalled crossing. -/
def xingTimeout (x : Xing) (u : FlitUnit) (d : Dev) : Dev :=
  if d.fenced x ∨ (d.xing x).stalled then d.xingRefuse x
  else
    let d1 := (d.xingStall x).endTransaction x u
    let s := d1.xing x
    let k := if x.rx = 15 then 1 else 0
    (s.waiting.drop k).foldl (fun a w => (a.xingRefuse x).answerLost w .xingTimeout)
      (d1.setXing { s with waiting := s.waiting.take k })

/-- XING_RESUMED: the far side's toggles change, and the stalled crossing realigns (R33). One into the Plinth realigns at a
take-up instead (R35). -/
def xingResumed (x : Xing) (p : Perm) (d : Dev) : Dev :=
  if !(d.xing x).stalled ∨ d.stopped x.rx ∨ x.rx = 15 then d else (d.xingResume x).realignUnits p x

/-- PLINTH_TICK: the count of ticks rises, every full mailbox is taken up, and every stalled crossing into the Plinth
realigns (R35). -/
def plinthTick (p : Perm) (d : Dev) : Perm × Dev :=
  let d1 : Dev := { d with plinth := { d.plinth with tick := (d.plinth.tick + 1) % 2 ^ 15 } }
  (d.wires.xings.filter (fun s => s.xing.rx == 15)).foldl (fun r s =>
    let b := if s.stalled then r.2.xingResume s.xing else r.2
    match (b.xing s.xing).waiting with
    | [] => (r.1, b)
    | a :: rest => (b.setXing { b.xing s.xing with waiting := rest }).perform r.1 a) (p, d1)

/-- TAMPER_DEMAND_RESEND: the front-end sends a held demand again; it is delivered once the crossing has realigned (R35). -/
def demandResend (d : Dev) : Dev :=
  if !d.wires.demand then d
  else if d.demandStalled then d.xingRefuse demandXing
  else { d with wires := { d.wires with demand := false } }

/-- CLOCK_STOP: a clock domain stops (R253, R295, R523). -/
def clockStop (n : Nat) (d : Dev) : Dev :=
  if d.stopped n then d
  else
    let d1 : Dev := { d with wires := { d.wires with stoppedClocks := n :: d.wires.stoppedClocks } }
    (d1.set R.CK_DOM_STATUS_RUNNING 0 0 n).bumpWrap R.CK_DOM_STATUS_STOPS 0 n

/-- The units of a clock domain whose crossings did not stall realign with its restart (R253, R295). -/
def Dev.restartUnits (d : Dev) (lvl n : Nat) : Dev :=
  if n = 4 then
    (List.range 8).foldl (fun a g => if a.pageStalled .asp (16 * g) then a else a.wipeDomain lvl (18 + g)) d
  else if n = 5 then
    (List.range 16).foldl (fun a e => if a.pageStalled .vs e then a else a.wipeDomain lvl (26 + e)) d
  else d

/-- CLOCK_RESTART: a stopped clock runs again. What waits at a crossing that has not stalled is acknowledged, in order;
pending pulses are sent; the units behind it wipe (R30, R33, R253, R295). -/
def clockRestart (n : Nat) (p : Perm) (d : Dev) : Perm × Dev :=
  if !d.stopped n then (p, d)
  else
    let d1 : Dev := { d with wires := { d.wires with stoppedClocks := d.wires.stoppedClocks.filter (· ≠ n) } }
    let d2 := (d1.set R.CK_DOM_STATUS_RUNNING 1 0 n).restartUnits (d.workLevel p.level) n
    (d2.wires.xings.filter (fun s => s.xing.rx == n && !s.stalled && n ≠ 15)).foldl (fun r s =>
      (r.2.setXing { s with waiting := [], pulses := 0 }).inTurn r.1 s.waiting (fun b q a => b.perform q a)) (p, d2)

/-! ## Accesses of the faces (R47, R49, R353, R371, R491, R508) -/

/-- The island of a Keystone. -/
def keystoneIsland (u : Nat) : Island := if u = 0 then .keystoneA else .keystoneB

/-- The pages that the faces reach without a Keystone while no unit has the role (R491), and that management reads reach in
every state (R442). -/
def plainPage (addr : Nat) (withKs : Bool) : Bool :=
  match targetOf addr with
  | .reg .lc _ _ | .reg .dbg _ _ | .reg .tm _ _ | .reg .cs _ _ | .reg .ev _ _ => true
  | .reg .ks _ _ => withKs
  | _ => false

/-- A register of the LC page that a challenge or a token uses: LC_CHAL_CTL to LC_TOKEN_STATUS (R460). -/
def tokenRegister (off : Nat) : Bool := decide (0x05C ≤ off) && decide (off ≤ 0x074)

/-- A manager access of a running module: the controlling Keystone carries it out as a supervisor access; without one, the
faces pass on accesses to some pages and end every other with ST_CONTROL_SWITCHED (R47, R491). -/
def Dev.managerAccess (d : Dev) (p : Perm) (a : Access) (face : Island) : Perm × Dev :=
  let as (i : Island) : Access := { a with req := ⟨.supervisor, 0, i⟩ }
  match d.controller with
  | some u => d.submitSplit p (as (keystoneIsland u)) 0
  | none =>
    if plainPage a.addr true then d.submitSplit p (as face) 0
    else
      let d1 := match a.reply with | .tlp _ => d.err .module 0 ⟨.supervisor, 0, face⟩ .controlSwitched | _ => d
      (p, d1.answerLost (as face) .controlSwitched)

/-- A manager access of a module that is held, or rests in SCRAP: the Footing ROM serves reads of some pages, and a held
module takes challenges, tokens and the move to ANALYSIS or SCRAP (R451, R508). Any other is refused with ST_LC_STATE
(R442). -/
def Dev.romAccess (d : Dev) (p : Perm) (a : Access) : Perm × Dev :=
  let b : Access := { a with req := ⟨.supervisor, 0, .management⟩ }
  let reads := a.op == .read && plainPage a.addr false
  let writes := a.op == .posted && d.power.stage == .held && (match targetOf a.addr with
    | .reg .lc _ off => off == 0x048 || tokenRegister off
    | _ => false)
  if reads || writes then d.submitSplit p b 0 else (p, d.answerLost b .lcState)

/-- A TLP is refused because it comes outside a secure stream (R371). -/
def Dev.unsecured (d : Dev) (stream : Option (Fin 4)) : Bool :=
  d.on R.HF_IDE_CTL && (match stream with | some s => d.get R.HF_IDE_STATUS 0 s != 2 | none => true)

/-- The access that a TLP to BAR0 asks for. -/
def tlpAccess (addr : Nat) (write : Bool) (size v : Nat) (pasid : Option Nat) (tag src dst : Nat) : Access where
  op := if write then .posted else .read
  addr := addr
  size := size
  data := if write then leBytes size v else []
  req := ⟨.supervisor, 0, .host⟩
  src := src
  dst := dst
  reply := if write then .none else .tlp tag
  pasid := pasid
  port := none

/-- BAR0_ACCESS: a TLP to BAR0, as the host face stamps it (R46, R47, R371). -/
def bar0Access (a : Access) (stream : Option (Fin 4)) (p : Perm) (d : Dev) : Perm × Dev :=
  if d.face.perst ∨ !d.on R.HF_LINK_UP then (p, d)
  else if d.unsecured stream then
    let d1 := (d.bumpSat R.HF_UNSECURED).raiseInt .hf 0 9
    (p, match a.reply with | .tlp tag => d1.send (.tlp tag 0 .unsupported) | _ => d1)
  else
    match d.power.stage with
    | .running =>
      if 0x02000000 ≤ a.addr ∧ a.addr < 0x03000000 then
        d.submitSplit p { a with req := ⟨.bay, bits a.addr 23 16, .host⟩ } 0
      else d.managerAccess p a .host
    | .held | .rest =>
      if a.addr < 0x02000000 then d.romAccess p a else (p, d.answerLost a .lcState)
    | _ => (p, d)

/-- MGMT_REQUEST: a management frame of a session reads or writes a module address (R49, R353). The frame's process identifier
is checked as a request's is (R361). -/
def mgmtRequest (h : FrameHdr) (reqId op addr v src dst : Nat) (p : Perm) (d : Dev) : Perm × Dev :=
  match Tab.look d.face.sessions h.session with
  | none => (p, d)
  | some s =>
    let a : Access := ⟨if op = 0 then .read else .write, addr, 4, if op = 0 then [] else leBytes 4 v,
      ⟨.bay, s.target, .network⟩, src, dst, .mgmt h.session reqId, none, none⟩
    let reach := if s.target = managerTarget then decide (addr < 0x03000000)
      else decide (0x02000000 ≤ addr) && decide (addr < 0x03000000) && bits addr 23 16 == s.target
    if h.pid ≠ s.pid then (p, d.answerTo a .pidMismatch 0)
    else if d.bound s.pid ≠ some s.target then (p, d.answerTo a .pidUnbound 0)
    else if 1 < op then (p, d.answerTo a .inputRange 0)
    else if !reach then (p, d.answerTo a .policyDenied 0)
    else if s.target = managerTarget then d.managerAccess p a .network
    else d.submitSplit p a 0

/-! ## The debug port (R455, R458) -/

/-- TAP_DBG_AUTH: a read or a write of a challenge or token register of the LC page (R455). -/
def tapDbgAuth (off : Nat) (write : Bool) (v stamp : Nat) (p : Perm) (d : Dev) : Perm × Dev :=
  let t := tapSelect .dbgAuth stamp p d
  if !d.tapPermits p .dbgAuth ∨ !tokenRegister off then t
  else if write then t.2.writeReg t.1 ⟨.debug, 0, .debug⟩ none .lc 0 off v
  else
    let r := t.2.readReg t.1 .lc 0 off
    (t.1, r.2.send (.tap r.1 32))

/-- TAP_DBG_ACCESS: an access of the debug master (R455, R458). gate and crossing are those of a target that no register page
serves. -/
def tapDbgAccess (op : AccessOp) (addr size v : Nat) (gate : Option Nat) (x : Option Xing) (src dst stamp : Nat) (p : Perm)
    (d : Dev) : Perm × Dev :=
  let t := tapSelect .dbgAccess stamp p d
  if !d.tapPermits p .dbgAccess then t
  else
    let data := match op with | .write | .posted => leBytes size v | _ => []
    let port : Option PortTarget := if gate.isSome then
        some ⟨gate, ⟨dst, src, 0, .debug, 0, 0, 0, op.code, (size + 63) / 64, addr⟩, x, .none⟩
      else none
    t.2.submitSplit t.1 ⟨op, addr, size, data, ⟨.debug, 0, .debug⟩, src, dst, if op = .posted then .none else .tap, none,
      port⟩ stamp

/-! ## The management SMBus (R559) -/

/-- A register that the SMBus reads: any of the PW, CK and PL pages, TM_STATE, TM_BACKUP, TM_TEMP, LC_STATE_RAW and LC_STATUS
(R559). -/
def smbusReads (addr : Nat) : Bool :=
  addr % 4 = 0 && (match targetOf addr with
    | .reg .pw _ _ | .reg .ck _ _ | .reg .pl _ _ => true
    | .reg .tm _ off => off = R.TM_STATE_LEVEL.off || off = R.TM_BACKUP_MV.off || off = R.TM_TEMP_S0.off
    | .reg .lc _ off => off = 0x040 || off = 0x044
    | _ => false)

/-- SMBUS_BLOCK_READ: command 0x01 with a module address gives four bytes, 0 for any other address; no other command exists
(R559). -/
def smbusBlockRead (cmd addr : Nat) (p : Perm) (d : Dev) : Dev :=
  if (!d.power.main ∧ !d.power.aux) ∨ cmd ≠ 1 then d
  else if smbusReads addr then
    let r := d.readAt p addr
    r.2.send (.smbus (leBytes 4 r.1))
  else d.send (.smbus (leBytes 4 0))

/-- SMB_ALERT_N is low: ALARM_OUT is, or PW INT_RAW.TEMP_WARN or TEMP_CRIT is set (R559). -/
def Dev.smbAlert (d : Dev) (p : Perm) : Bool :=
  d.mgmtOn && (decide (1 ≤ p.level) || d.get (R.INT_RAW .pw) &&& 0x180 ≠ 0)

/-- SMBUS_ALERT_RESPONSE: while SMB_ALERT_N is low the target answers with its address, 0x4C in the seven upper bits (R559, log
entry 23). -/
def smbusAlertResponse (p : Perm) (d : Dev) : Dev := if d.smbAlert p then d.send (.smbus [0x98#8]) else d

/-! ## The meanings -/

/-- BAR0_ACCESS (R47). -/
def execBar0Access (addr : BitVec 26) (write : Bool) (size : Nat) (v : DWord) (stream : Option (Fin 4))
    (pasid : Option (BitVec 20)) (tag src dst : Nat) (s : State) : Host.Outcome State Fault Refusal :=
  s.afterPerm (bar0Access (tlpAccess addr.toNat write size v.toNat (pasid.map BitVec.toNat) tag src dst) stream)
/-- MGMT_REQUEST (R353). -/
def execMgmtRequest (h : FrameHdr) (reqId : Word) (op : Byte) (addr : BitVec 48) (v : Word) (src dst : Nat) (s : State) :
    Host.Outcome State Fault Refusal :=
  s.afterPerm (mgmtRequest h reqId.toNat op.toNat addr.toNat v.toNat src dst)
/-- MORTAR_MESSAGE (R21). -/
def execMortarMessage (h : Header) (payload : Bytes) (size : Nat) (isl : Island) (gate : Option (Fin 40)) (x : Option Xing)
    (unit : FlitUnit) (quads : List (Fin 4)) (stamp : Nat) (s : State) : Host.Outcome State Fault Refusal :=
  s.afterPerm (mortarMessage h payload size isl (gate.map Fin.val) x unit quads stamp)
/-- XING_UNSTABLE (R29). -/
def execXingUnstable (x : Xing) (unit : FlitUnit) (s : State) : Host.Outcome State Fault Refusal :=
  s.after (xingUnstable x unit)
/-- XING_TIMEOUT (R31). -/
def execXingTimeout (x : Xing) (unit : FlitUnit) (s : State) : Host.Outcome State Fault Refusal :=
  s.after (xingTimeout x unit)
/-- XING_RESUMED (R33). -/
def execXingResumed (x : Xing) (s : State) : Host.Outcome State Fault Refusal := s.afterWith (xingResumed x)
/-- PLINTH_TICK (R35). -/
def execPlinthTick (s : State) : Host.Outcome State Fault Refusal := s.afterPerm plinthTick
/-- TAMPER_DEMAND_RESEND (R35). -/
def execTamperDemandResend (s : State) : Host.Outcome State Fault Refusal := s.after demandResend
/-- CLOCK_STOP (R253). -/
def execClockStop (n : Fin 19) (s : State) : Host.Outcome State Fault Refusal := s.after (clockStop n)
/-- CLOCK_RESTART (R33). -/
def execClockRestart (n : Fin 19) (s : State) : Host.Outcome State Fault Refusal := s.afterPerm (clockRestart n)
/-- TAP_DBG_AUTH (R455). -/
def execTapDbgAuth (off : BitVec 12) (write : Bool) (v : Word) (stamp : Nat) (s : State) :
    Host.Outcome State Fault Refusal := s.afterPerm (tapDbgAuth off.toNat write v.toNat stamp)
/-- TAP_DBG_ACCESS (R455). -/
def execTapDbgAccess (op : AccessOp) (addr : BitVec 48) (size : Nat) (v : DWord) (gate : Option (Fin 40)) (x : Option Xing)
    (src dst stamp : Nat) (s : State) : Host.Outcome State Fault Refusal :=
  s.afterPerm (tapDbgAccess op addr.toNat size v.toNat (gate.map Fin.val) x src dst stamp)
/-- DRAIN_END (R474). -/
def execDrainEnd (g : Fin 40) (clocks stamp : Nat) (s : State) : Host.Outcome State Fault Refusal :=
  s.afterPerm (drainEnd g clocks stamp)
/-- SMBUS_BLOCK_READ (R559). -/
def execSmbusBlockRead (cmd : Byte) (addr : Word) (s : State) : Host.Outcome State Fault Refusal :=
  s.afterWith (smbusBlockRead cmd.toNat addr.toNat)
/-- SMBUS_ALERT_RESPONSE (R559). -/
def execSmbusAlertResponse (s : State) : Host.Outcome State Fault Refusal := s.afterWith smbusAlertResponse

end Sys2Proof.Machine
end

