-- ==== Sys2Proof/Machine/Tokens.lean ====
section
/-! DEFINITION. Tokenization (ch. 04, R161 to R172): FF1 and vault mode, the index of live entries and pending slots, and
the meaning of functions 0x0240 to 0x0244 and of a waiting request's claim. -/

namespace Sys2Proof.Machine

/-! ## Profiles (R161 to R163) -/

/-- The parts of a PAN or token under a profile: head, middle, tail; the check position is left out (R161). -/
def splitDigits (p : TokenProfile) (d : List Nat) : List Nat × List Nat × List Nat :=
  let body := if p.check = 0 then d else d.dropLast
  let n := body.length - p.keepHead - p.keepTail
  (body.take p.keepHead, (body.drop p.keepHead).take n, body.drop (p.keepHead + n))

/-- The number of middle digits, which must be 6 to 19 (R162). -/
def middleCount (p : TokenProfile) (len : Nat) : Nat := len - p.keepHead - p.keepTail - (if p.check = 0 then 0 else 1)

/-- The check digit a token ends with (R161). -/
def tokenCheck (p : TokenProfile) (body : List Nat) : Nat :=
  if p.check = 2 then (luhnDigit body + 1) % 10 else luhnDigit body

/-- A token: kept digits, new middle digits, check digit. -/
def joinToken (p : TokenProfile) (head middle tail : List Nat) : List Nat :=
  let body := head ++ middle ++ tail
  if p.check = 0 then body else body ++ [tokenCheck p body]

/-- A PAN recovered: its check digit is recomputed (R163). -/
def joinPan (p : TokenProfile) (head middle tail : List Nat) : List Nat :=
  let body := head ++ middle ++ tail
  if p.check = 0 then body else body ++ [luhnDigit body]

/-- Domain and Luhn of a PAN to tokenize (R162, R163). -/
def panProfileFault (p : TokenProfile) (pan : List Nat) : Option Status :=
  firstFault [failIf (middleCount p pan.length < 6 || middleCount p pan.length > 19) .tokenDomain,
    failIf (p.check ≠ 0 && !luhnOk pan) .luhn]

/-- Domain and check digit of a token (R162, R163). -/
def tokenProfileFault (p : TokenProfile) (t : List Nat) : Option Status :=
  firstFault [failIf (middleCount p t.length < 6 || middleCount p t.length > 19) .tokenDomain,
    failIf (p.check ≠ 0 && t.getLast? ≠ some (tokenCheck p t.dropLast)) .luhn]

/-- The FF1 tweak (R161): empty, the kept digits, or the request's. -/
def ff1Tweak (p : TokenProfile) (head tail : List Nat) (given : Bytes) : Bytes :=
  if p.tweak = 1 then ofNats (head ++ tail) else if p.tweak = 2 then given else []

/-- A tokenization key of FF1 or of vault mode, with the modes that permit the function (R161, R164). -/
def tokenFits (vault : Bool) (modes : List ModeOfUse) (o : Obj) : Bool :=
  o.attrs.type = .symmetric && o.attrs.usage = .d0 && o.attrs.alg = .aes && modes.contains o.attrs.mode &&
    (match o.attrs.profile with | some p => p.vault == vault | none => false)

/-- The profile of a key that passed row 7. -/
def Obj.profile (o : Obj) : TokenProfile := o.attrs.profile.getD default

/-! ## FF1 (R164) -/

/-- 0x0240: tokenize a PAN with FF1 (R164). -/
def ff1Tokenization (c : Nat) (d : Dev) : Dev :=
  d.runProgram c 0x0240 fun r d =>
    let pan := (r.digits 1).getD []
    d.checked c r [failIf (!panOk (r.digits 1)) .panFormat, failIf ((r.tlv 2).length > 16) .inputRange,
        r.keyForm 0 false] fun d =>
      d.withKeys c r [{ handle := r.handle 0, fits := tokenFits false [.e, .b] }] [] fun ks d =>
        let o := ks.getD 0 default
        let p := o.profile
        d.checked c r [panProfileFault p pan] fun d =>
          let s := splitDigits p pan
          let m := ff1Enc o.key (ff1Tweak p s.1 s.2.2 (r.tlv 2)) s.2.1
          d.finish c r .ok (outputs [digitsAscii (joinToken p s.1 m s.2.2)])

/-- 0x0241: recover a PAN from an FF1 token (R163, R164). -/
def ff1Detokenization (c : Nat) (d : Dev) : Dev :=
  d.runProgram c 0x0241 fun r d =>
    let t := (r.digits 1).getD []
    d.checked c r [failIf (!panOk (r.digits 1)) .panFormat, failIf ((r.tlv 2).length > 16) .inputRange,
        r.keyForm 0 false] fun d =>
      d.withKeys c r [{ handle := r.handle 0, fits := tokenFits false [.d, .b] }] [] fun ks d =>
        let o := ks.getD 0 default
        let p := o.profile
        d.checked c r [tokenProfileFault p t] fun d =>
          let s := splitDigits p t
          let m := ff1Dec o.key (ff1Tweak p s.1 s.2.2 (r.tlv 2)) s.2.1
          d.finish c r .ok (outputs [digitsAscii (joinPan p s.1 m s.2.2)])

/-! ## Vault mode (R166 to R172) -/

/-- The live entry of a PAN in a bay (R166, R169). -/
def Dev.livePan (d : Dev) (bay : Nat) (pan : List Nat) : Option TokenEntry :=
  (d.keys.entries.find? (fun e => e.2.bay == bay && e.2.pan == pan && e.2.state == .live)).map (·.2)

/-- The live entry of a token in a bay, with its number (R171). -/
def Dev.liveToken (d : Dev) (bay : Nat) (t : List Nat) : Option (Nat × TokenEntry) :=
  d.keys.entries.find? (fun e => e.2.bay == bay && e.2.token == t && e.2.state == .live)

/-- A token is already in the index, live or pending (R166). -/
def Dev.tokenTaken (d : Dev) (bay : Nat) (t : List Nat) : Bool :=
  (d.liveToken bay t).isSome || d.keys.slots.any (fun s => s.bay == bay && s.token == t)

/-- Draw a token (R166): up to n draws of 64 bits for each middle digit from the bay's DRBG; a draw equal to the PAN or
already in the index is rejected. -/
def Dev.drawToken (d : Dev) (bay : Nat) (p : TokenProfile) (pan : List Nat) : Nat → Except Status (List Nat) × Dev
  | 0 => (.error .tokenSpace, d)
  | n + 1 =>
    let s := splitDigits p pan
    match d.drbgDraw bay (8 * s.2.1.length) with
    | none => (.error .entropyFail, d)
    | some (b, d1) =>
      let t := joinToken p s.1 (drawNibbles s.2.1.length 10 b) s.2.2
      if t = pan ∨ d1.tokenTaken bay t then d1.drawToken bay p pan n else (.ok t, d1)

/-- Release a pending slot (R169). -/
def Dev.releaseSlot (d : Dev) (bay : Nat) (pan : List Nat) : Dev :=
  { d with keys := { d.keys with slots := d.keys.slots.filter (fun s => !(s.bay == bay && s.pan == pan)) } }

/-- Vault tokenization from the index claim on (R169): a live entry's token; a wait on another request's pending slot; or
a pending slot of its own, a draw, and the entry's write under the bay's quota (R172). -/
def Dev.claimAndTokenize (d : Dev) (c : Nat) (r : Request) (o : Obj) : Dev :=
  let pan := (r.digits 1).getD []
  match d.livePan r.bay pan with
  | some e => d.finish c r .ok (outputs [digitsAscii e.token])
  | none =>
    if d.keys.slots.any (fun s => s.bay == r.bay && s.pan == pan) then
      let d1 : Dev := { d with keys := { d.keys with slotWait := d.keys.slotWait ++ [c] } }
      d1.setCtx c { d1.ctx c with state := .waiting }
    else
      match d.drawToken r.bay o.profile pan 8 with
      | (.error st, d1) => d1.finish c r st []
      | (.ok t, d1) =>
        if !d1.quotaRoom r.bay 128 then d1.finish c r .quotaExceeded []
        else
          let ref := r.tlv 2
          let e : TokenEntry := { bay := r.bay, pan := pan, token := t, reference := ref ++ zeros (16 - ref.length),
                                  created := d1.plinth.seconds, format := d1.floor, state := .live }
          let n := d1.keys.lastEntry + 1
          match d1.vaultWrite ⟨r.bay, .entry n e, c, some r, true, outputs [digitsAscii t]⟩ with
          | (some st, d2) => d2.finish c r st []
          | (none, d2) =>
            let d3 : Dev := { d2 with keys := { d2.keys with
              lastEntry := n, slots := d2.keys.slots ++ [⟨r.bay, pan, t, c, r.gen⟩] } }
            d3.outstand c

/-- 0x0242: the live token of a PAN, or a new one (R169). -/
def vaultTokenization (c : Nat) (d : Dev) : Dev :=
  d.runProgram c 0x0242 fun r d =>
    d.checked c r [failIf (!panOk (r.digits 1)) .panFormat, failIf ((r.tlv 2).length > 16) .inputRange,
        r.keyForm 0 false] fun d =>
      d.withKeys c r [{ handle := r.handle 0, fits := tokenFits true [.e, .d, .b] }] [vaultKeyIndex r.bay] fun ks d =>
        let o := ks.getD 0 default
        d.checked c r [panProfileFault o.profile ((r.digits 1).getD [])] fun d => d.claimAndTokenize c r o

/-- The checks of a function on a token in the vault (R162, R163, R171), then the live entry. -/
def vaultTokenFunction (c func : Nat) (d : Dev) (modes : List ModeOfUse) (ivs : Nat → List Nat)
    (k : Request → Nat → TokenEntry → Dev → Dev) : Dev :=
  d.runProgram c func fun r d =>
    let t := (r.digits 1).getD []
    d.checked c r [failIf (!panOk (r.digits 1)) .panFormat, r.keyForm 0 false] fun d =>
      d.withKeys c r [{ handle := r.handle 0, fits := tokenFits true modes }] (ivs r.bay) fun ks d =>
        d.checked c r [tokenProfileFault (ks.getD 0 default).profile t] fun d =>
          match d.liveToken r.bay t with
          | some (n, e) => if e.format > d.get R.KT_FLEET_FLOOR_FORMAT_MAX then d.finish c r .formatUnknown [] else k r n e d
          | none => d.finish c r .tokenNotFound []

/-- 0x0243: the PAN and reference of a live token (R171). -/
def vaultDetokenization (c : Nat) (d : Dev) : Dev :=
  vaultTokenFunction c 0x0243 d [.e, .d, .b] (fun _ => []) fun r _ e d =>
    d.finish c r .ok (outputs [digitsAscii e.pan, e.reference])

/-- 0x0244: retire a token entry: later index accesses find none at once; the function ends when the write is durable
(R171, R203). -/
def vaultTokenRetirement (c : Nat) (d : Dev) : Dev :=
  vaultTokenFunction c 0x0244 d [.e, .d, .b] (fun b => [vaultKeyIndex b]) fun r n e d =>
    let e1 : TokenEntry := { e with state := .retired d.plinth.seconds, format := d.floor }
    let d1 : Dev := { d with keys := { d.keys with entries := Tab.put d.keys.entries n e1 } }
    d1.writeAndWait c r (.entry n e1) []

/-- A request that waits on a pending slot claims it when its owner has released it, and draws its own token (R170). -/
def indexSlotClaim (c : Nat) (d : Dev) : Dev :=
  match (d.ctx c).req with
  | none => d
  | some r =>
    let pan := (r.digits 1).getD []
    if d.keys.slotWait.contains c ∧ !d.keys.slots.any (fun s => s.bay == r.bay && s.pan == pan) then
      let d1 : Dev := { d with keys := { d.keys with slotWait := d.keys.slotWait.filter (· ≠ c) } }
      match d1.lookup r.bay (r.handle 0) with
      | .key o => d1.claimAndTokenize c r o
      | _ => d1.finish c r .keyHandle []
    else d

/-! ## The meanings -/

/-- FF1_TOKENIZATION (R164). -/
def execFf1Tokenization (c : Fin 512) (s : State) : Host.Outcome State Fault Refusal := s.after (ff1Tokenization c)
/-- FF1_DETOKENIZATION (R164). -/
def execFf1Detokenization (c : Fin 512) (s : State) : Host.Outcome State Fault Refusal := s.after (ff1Detokenization c)
/-- VAULT_TOKENIZATION (R169). -/
def execVaultTokenization (c : Fin 512) (s : State) : Host.Outcome State Fault Refusal := s.after (vaultTokenization c)
/-- VAULT_DETOKENIZATION (R171). -/
def execVaultDetokenization (c : Fin 512) (s : State) : Host.Outcome State Fault Refusal :=
  s.after (vaultDetokenization c)
/-- VAULT_TOKEN_RETIREMENT (R171). -/
def execVaultTokenRetirement (c : Fin 512) (s : State) : Host.Outcome State Fault Refusal :=
  s.after (vaultTokenRetirement c)
/-- INDEX_SLOT_CLAIM (R170). -/
def execIndexSlotClaim (c : Fin 512) (s : State) : Host.Outcome State Fault Refusal := s.after (indexSlotClaim c)

end Sys2Proof.Machine
end

