-- ==== Sys2Proof/Machine/Dispatch.lean ====
section
/-! DEFINITION. Dispatch: one arm for each command, one direct call of its meaning. -/

namespace Sys2Proof.Machine

/-- The effect of a command on everything but the queue of waiting commands. -/
def exec (i : Instr) (s : State) : Host.Outcome State Fault Refusal :=
  match i with
  | .registerWrite req addr size v => Sys2Proof.Machine.execRegisterWrite req addr size v s
  | .rcRead req addr => Sys2Proof.Machine.execRcRead req addr s
  | .intPendingWrite req pg v => Sys2Proof.Machine.execIntPendingWrite req pg v s
  | .lockWrite req pg v => Sys2Proof.Machine.execLockWrite req pg v s
  | .softReset req pg v => Sys2Proof.Machine.execSoftReset req pg v s
  | .bar0Access addr write size v stream pasid tag src dst => Sys2Proof.Machine.execBar0Access addr write size v stream pasid tag src dst s
  | .mgmtRequest h reqId op addr v src dst => Sys2Proof.Machine.execMgmtRequest h reqId op addr v src dst s
  | .mortarMessage h payload size isl gate x unit quads stamp => Sys2Proof.Machine.execMortarMessage h payload size isl gate x unit quads stamp s
  | .xingUnstable x unit => Sys2Proof.Machine.execXingUnstable x unit s
  | .xingTimeout x unit => Sys2Proof.Machine.execXingTimeout x unit s
  | .xingResumed x => Sys2Proof.Machine.execXingResumed x s
  | .plinthTick => Sys2Proof.Machine.execPlinthTick s
  | .tamperDemandResend => Sys2Proof.Machine.execTamperDemandResend s
  | .clockStop n => Sys2Proof.Machine.execClockStop n s
  | .clockRestart n => Sys2Proof.Machine.execClockRestart n s
  | .requestFragment h f => Sys2Proof.Machine.execRequestFragment h f s
  | .requestReassemblyTimeout h reqId => Sys2Proof.Machine.execRequestReassemblyTimeout h reqId s
  | .descriptorFetch owner ring x => Sys2Proof.Machine.execDescriptorFetch owner ring x s
  | .schedulerCycle => Sys2Proof.Machine.execSchedulerCycle s
  | .requestExpire => Sys2Proof.Machine.execRequestExpire s
  | .courseBoundary => Sys2Proof.Machine.execCourseBoundary s
  | .ashlarClaim => Sys2Proof.Machine.execAshlarClaim s
  | .microopCipher c op => Sys2Proof.Machine.execMicroopCipher c op s
  | .microopHash c f src dest => Sys2Proof.Machine.execMicroopHash c f src dest s
  | .microopPk c op => Sys2Proof.Machine.execMicroopPk c op s
  | .microopPin c op dest => Sys2Proof.Machine.execMicroopPin c op dest s
  | .microopKey c op => Sys2Proof.Machine.execMicroopKey c op s
  | .microopRand c op => Sys2Proof.Machine.execMicroopRand c op s
  | .microopVault c op => Sys2Proof.Machine.execMicroopVault c op s
  | .microopCompletion c => Sys2Proof.Machine.execMicroopCompletion c s
  | .keyCacheFill n fromNand => Sys2Proof.Machine.execKeyCacheFill n fromNand s
  | .scGroupDispatchWrite req g v => Sys2Proof.Machine.execScGroupDispatchWrite req g v s
  | .programImageLoad g img intact => Sys2Proof.Machine.execProgramImageLoad g img intact s
  | .scCoreSplitWrite req v => Sys2Proof.Machine.execScCoreSplitWrite req v s
  | .scModeWrite v => Sys2Proof.Machine.execScModeWrite v s
  | .scPinDataWrite v => Sys2Proof.Machine.execScPinDataWrite v s
  | .pinTranslation c => Sys2Proof.Machine.execPinTranslation c s
  | .pinVerifyOffset c => Sys2Proof.Machine.execPinVerifyOffset c s
  | .pinVerifyPvv c => Sys2Proof.Machine.execPinVerifyPvv c s
  | .pinOffsetGeneration c => Sys2Proof.Machine.execPinOffsetGeneration c s
  | .offsetFromChosenPin c => Sys2Proof.Machine.execOffsetFromChosenPin c s
  | .pvvFromChosenPin c => Sys2Proof.Machine.execPvvFromChosenPin c s
  | .randomPinPvvGeneration c => Sys2Proof.Machine.execRandomPinPvv c s
  | .pinChangeOffset c => Sys2Proof.Machine.execPinChangeOffset c s
  | .pinChangePvv c => Sys2Proof.Machine.execPinChangePvv c s
  | .macGeneration c => Sys2Proof.Machine.execMacGeneration c s
  | .macVerification c => Sys2Proof.Machine.execMacVerification c s
  | .cvvGeneration c => Sys2Proof.Machine.execCvvGeneration c s
  | .cvvVerification c => Sys2Proof.Machine.execCvvVerification c s
  | .pinLaneGrant => Sys2Proof.Machine.execPinLaneGrant s
  | .pinStepEnd lane clocks => Sys2Proof.Machine.execPinStepEnd lane clocks s
  | .governorRefill => Sys2Proof.Machine.execGovernorRefill s
  | .pnBayWrite req reg v => Sys2Proof.Machine.execPnBayWrite req reg v s
  | .pnBayXlateWrite req v => Sys2Proof.Machine.execPnBayXlateWrite req v s
  | .dukptDataDecryption c => Sys2Proof.Machine.execDukptDataDecryption c s
  | .dukptDataTranslation c => Sys2Proof.Machine.execDukptDataTranslation c s
  | .dukptInitialKeyExport c => Sys2Proof.Machine.execDukptInitialKeyExport c s
  | .arqcVerification c => Sys2Proof.Machine.execArqcVerification c s
  | .arqcVerifyArpcGeneration c => Sys2Proof.Machine.execArqcVerifyArpcGeneration c s
  | .arpcGeneration c => Sys2Proof.Machine.execArpcGeneration c s
  | .issuerScriptMac c => Sys2Proof.Machine.execIssuerScriptMac c s
  | .issuerScriptEncryption c => Sys2Proof.Machine.execIssuerScriptEncryption c s
  | .keyBlockImport c => Sys2Proof.Machine.execKeyBlockImport c s
  | .keyBlockExport c => Sys2Proof.Machine.execKeyBlockExport c s
  | .keyCheckValue c => Sys2Proof.Machine.execKeyCheckValue c s
  | .ff1Tokenization c => Sys2Proof.Machine.execFf1Tokenization c s
  | .ff1Detokenization c => Sys2Proof.Machine.execFf1Detokenization c s
  | .vaultTokenization c => Sys2Proof.Machine.execVaultTokenization c s
  | .vaultDetokenization c => Sys2Proof.Machine.execVaultDetokenization c s
  | .vaultTokenRetirement c => Sys2Proof.Machine.execVaultTokenRetirement c s
  | .indexSlotClaim c => Sys2Proof.Machine.execIndexSlotClaim c s
  | .keyGeneration c => Sys2Proof.Machine.execKeyGeneration c s
  | .keyDeletion c => Sys2Proof.Machine.execKeyDeletion c s
  | .attributeChange c => Sys2Proof.Machine.execAttributeChange c s
  | .ecdsaSignature c => Sys2Proof.Machine.execEcdsaSignature c s
  | .ecdsaVerification c => Sys2Proof.Machine.execEcdsaVerification c s
  | .ecdh c => Sys2Proof.Machine.execEcdh c s
  | .ed25519Signature c => Sys2Proof.Machine.execEd25519Signature c s
  | .ed25519Verification c => Sys2Proof.Machine.execEd25519Verification c s
  | .rsaSignature c => Sys2Proof.Machine.execRsaSignature c s
  | .rsaVerification c => Sys2Proof.Machine.execRsaVerification c s
  | .rsaPublicOperation c => Sys2Proof.Machine.execRsaPublicOperation c s
  | .mlKemEncapsulation c => Sys2Proof.Machine.execMlKemEncapsulation c s
  | .mlKemDecapsulation c => Sys2Proof.Machine.execMlKemDecapsulation c s
  | .mlDsaSignature c => Sys2Proof.Machine.execMlDsaSignature c s
  | .mlDsaVerification c => Sys2Proof.Machine.execMlDsaVerification c s
  | .keyPairGeneration c => Sys2Proof.Machine.execKeyPairGeneration c s
  | .repointSweep => Sys2Proof.Machine.execRepointSweep s
  | .repointSweepEnd => Sys2Proof.Machine.execRepointSweepEnd s
  | .keyCacheFlushDone bay => Sys2Proof.Machine.execKeyCacheFlushDone bay s
  | .useReservationDurable n => Sys2Proof.Machine.execUseReservationDurable n s
  | .nonceReservationDurable n ok => Sys2Proof.Machine.execNonceReservationDurable n ok s
  | .vaultWriteDurable n => Sys2Proof.Machine.execVaultWriteDurable n s
  | .retentionPurgeCheck => Sys2Proof.Machine.execRetentionPurgeCheck s
  | .nandRefresh blocks progress days wear => Sys2Proof.Machine.execNandRefresh blocks progress days wear s
  | .rnSourceFail source test => Sys2Proof.Machine.execRnSourceFail source test s
  | .rnStartupTestDone passed => Sys2Proof.Machine.execRnStartupTestDone passed s
  | .drbgReseed gen => Sys2Proof.Machine.execDrbgReseed gen s
  | .rootRegenerationDone errs => Sys2Proof.Machine.execRootRegenerationDone errs s
  | .ktRaiseFloor req => Sys2Proof.Machine.execKtRaiseFloor req s
  | .ktSetExternalIv req bay => Sys2Proof.Machine.execKtSetExternalIv req bay s
  | .ktClearExternalIv bay => Sys2Proof.Machine.execKtClearExternalIv bay s
  | .ktInstallCertificate req key signed => Sys2Proof.Machine.execKtInstallCertificate req key signed s
  | .kcBayQuotaWrite req bay v => Sys2Proof.Machine.execKcBayQuotaWrite req bay v s
  | .vtBayQuotaWrite req bay v => Sys2Proof.Machine.execVtBayQuotaWrite req bay v s
  | .backupKeyCreation req m n => Sys2Proof.Machine.execBackupKeyCreation req m n s
  | .bundleExport req src => Sys2Proof.Machine.execBundleExport req src s
  | .bundleRestore req src dst b manifest chunks => Sys2Proof.Machine.execBundleRestore req src dst b manifest chunks s
  | .bundleAbort => Sys2Proof.Machine.execBundleAbort s
  | .bundleDone => Sys2Proof.Machine.execBundleDone s
  | .bulkEncrypt c => Sys2Proof.Machine.execBulkEncrypt c s
  | .bulkDecrypt c => Sys2Proof.Machine.execBulkDecrypt c s
  | .gmacGenerate c => Sys2Proof.Machine.execGmacGenerate c s
  | .gmacVerify c => Sys2Proof.Machine.execGmacVerify c s
  | .ashlarJobEnd c wiped => Sys2Proof.Machine.execAshlarJobEnd c wiped s
  | .jobAbort sel wiped => Sys2Proof.Machine.execJobAbort sel wiped s
  | .asOfflineWrite c v => Sys2Proof.Machine.execAsOfflineWrite c v s
  | .hsOfflineWrite h v => Sys2Proof.Machine.execHsOfflineWrite h v s
  | .hashJobEnd h wiped => Sys2Proof.Machine.execHashJobEnd h wiped s
  | .voussoirClaim => Sys2Proof.Machine.execVoussoirClaim s
  | .voussoirJobEnd e clocks wiped ecc => Sys2Proof.Machine.execVoussoirJobEnd e clocks wiped ecc s
  | .voussoirAbort e wiped => Sys2Proof.Machine.execVoussoirAbort e wiped s
  | .vsOfflineWrite e v => Sys2Proof.Machine.execVsOfflineWrite e v s
  | .vsUcodeLoad req e v => Sys2Proof.Machine.execVsUcodeLoad req e v s
  | .vsUcodeLoadDone e u => Sys2Proof.Machine.execVsUcodeLoadDone e u s
  | .identityKeyDerivation => Sys2Proof.Machine.execIdentityKeyDerivation s
  | .bootSignatureVerify point message sig => Sys2Proof.Machine.execBootSignatureVerify point message sig s
  | .bootSha512 message => Sys2Proof.Machine.execBootSha512 message s
  | .bind target pid => Sys2Proof.Machine.execBind target pid s
  | .unbind target pid => Sys2Proof.Machine.execUnbind target pid s
  | .bindQuery target pid => Sys2Proof.Machine.execBindQuery target pid s
  | .byShareWrite req bay kind v => Sys2Proof.Machine.execByShareWrite req bay kind v s
  | .byQueueWrite req bay v => Sys2Proof.Machine.execByQueueWrite req bay v s
  | .byCtxWrite req bay v => Sys2Proof.Machine.execByCtxWrite req bay v s
  | .bayReset bay v => Sys2Proof.Machine.execBayReset bay v s
  | .baySelfReset req bay v => Sys2Proof.Machine.execBaySelfReset req bay v s
  | .bayResetAction bay => Sys2Proof.Machine.execBayResetAction bay s
  | .bayQuiet bay => Sys2Proof.Machine.execBayQuiet bay s
  | .bayQuietForced bay => Sys2Proof.Machine.execBayQuietForced bay s
  | .bwEvTailWrite req bay v => Sys2Proof.Machine.execBwEvTailWrite req bay v s
  | .laneModeWrite req v => Sys2Proof.Machine.execLaneModeWrite req v s
  | .linkTrainingDone port losses cable partner => Sys2Proof.Machine.execLinkTrainingDone port losses cable partner s
  | .linkDown port => Sys2Proof.Machine.execLinkDown port s
  | .ethernetFrame x corrected uncorrectable => Sys2Proof.Machine.execEthernetFrame x corrected uncorrectable s
  | .helloC x => Sys2Proof.Machine.execHelloC x s
  | .helloS session => Sys2Proof.Machine.execHelloS session s
  | .finishC src session auth c => Sys2Proof.Machine.execFinishC src session auth c s
  | .handshakeTimeout session => Sys2Proof.Machine.execHandshakeTimeout session s
  | .sessionIdleTimeout session => Sys2Proof.Machine.execSessionIdleTimeout session s
  | .sessionClose h => Sys2Proof.Machine.execSessionClose h s
  | .sessionKill session => Sys2Proof.Machine.execSessionKill session s
  | .streamOpen h reqId => Sys2Proof.Machine.execStreamOpen h reqId s
  | .streamClose h stream => Sys2Proof.Machine.execStreamClose h stream s
  | .bulkData h p => Sys2Proof.Machine.execBulkData h p s
  | .bulkReassemblyTimeout stream number => Sys2Proof.Machine.execBulkReassemblyTimeout stream number s
  | .eventFrame session => Sys2Proof.Machine.execEventFrame session s
  | .utcTick => Sys2Proof.Machine.execUtcTick s
  | .hqDoorbell owner ring pasid v => Sys2Proof.Machine.execHqDoorbell owner ring pasid v s
  | .hqCplDoorbell owner ring pasid v => Sys2Proof.Machine.execHqCplDoorbell owner ring pasid v s
  | .hqCfgWrite owner ring v => Sys2Proof.Machine.execHqCfgWrite owner ring v s
  | .perst asserted => Sys2Proof.Machine.execPerst asserted s
  | .pcieConfigRequest control => Sys2Proof.Machine.execPcieConfigRequest control s
  | .pcieLinkUp speed width => Sys2Proof.Machine.execPcieLinkUp speed width s
  | .spdmPskExchange hint verified => Sys2Proof.Machine.execSpdmPskExchange hint verified s
  | .ideKeyProg stream m => Sys2Proof.Machine.execIdeKeyProg stream m s
  | .msixVectorUnmask vec masked => Sys2Proof.Machine.execMsixVectorUnmask vec masked s
  | .icMapWrite v => Sys2Proof.Machine.execIcMapWrite v s
  | .cardActivate cd => Sys2Proof.Machine.execCardActivate cd s
  | .cardDeactivate cd => Sys2Proof.Machine.execCardDeactivate cd s
  | .cardAtr cd a => Sys2Proof.Machine.execCardAtr cd a s
  | .atrTimeout cd => Sys2Proof.Machine.execAtrTimeout cd s
  | .classRetry cd => Sys2Proof.Machine.execClassRetry cd s
  | .ppsRetry cd => Sys2Proof.Machine.execPpsRetry cd s
  | .cardT1Block cd b => Sys2Proof.Machine.execCardT1Block cd b s
  | .cardWaitTimeout cd => Sys2Proof.Machine.execCardWaitTimeout cd s
  | .wtxLimit cd => Sys2Proof.Machine.execWtxLimit cd s
  | .cardClockStop cd => Sys2Proof.Machine.execCardClockStop cd s
  | .cardVccSample cd mv current => Sys2Proof.Machine.execCardVccSample cd mv current s
  | .cardRemoved cd => Sys2Proof.Machine.execCardRemoved cd s
  | .cardInserted cd => Sys2Proof.Machine.execCardInserted cd s
  | .cardOpenSession req cd v => Sys2Proof.Machine.execCardOpenSession req cd v s
  | .cardReadSlot req cd v => Sys2Proof.Machine.execCardReadSlot req cd v s
  | .cardVerify req cd v => Sys2Proof.Machine.execCardVerify req cd v s
  | .cardWriteShare req cd v => Sys2Proof.Machine.execCardWriteShare req cd v s
  | .cardProtectSlot req cd v => Sys2Proof.Machine.execCardProtectSlot req cd v s
  | .cardWake req cd v => Sys2Proof.Machine.execCardWake req cd v s
  | .cardClose req cd v => Sys2Proof.Machine.execCardClose req cd v s
  | .ceremonyOpen req v => Sys2Proof.Machine.execCeremonyOpen req v s
  | .ceremonyClose req => Sys2Proof.Machine.execCeremonyClose req s
  | .ceremonyTimeout => Sys2Proof.Machine.execCeremonyTimeout s
  | .authorizationLapse => Sys2Proof.Machine.execAuthorizationLapse s
  | .tamperEvent source stamp reading level => Sys2Proof.Machine.execTamperEvent source stamp reading level s
  | .temperatureSample t0 t1 t2 stamp => Sys2Proof.Machine.execTemperatureSample t0 t1 t2 stamp s
  | .meshPatternChange differs stamp => Sys2Proof.Machine.execMeshPatternChange differs stamp s
  | .shareEraseDone => Sys2Proof.Machine.execShareEraseDone s
  | .tmResume req v => Sys2Proof.Machine.execTmResume req v s
  | .tmSrcCfgWrite req v => Sys2Proof.Machine.execTmSrcCfgWrite req v s
  | .tmFuseCmd v => Sys2Proof.Machine.execTmFuseCmd v s
  | .fuseDone => Sys2Proof.Machine.execFuseDone s
  | .cornerstoneFlush => Sys2Proof.Machine.execCornerstoneFlush s
  | .plinthPowerRestored => Sys2Proof.Machine.execPlinthPowerRestored s
  | .csRead v => Sys2Proof.Machine.execCsRead v s
  | .csReadDone => Sys2Proof.Machine.execCsReadDone s
  | .plinthSecond => Sys2Proof.Machine.execPlinthSecond s
  | .lcTransitionRequest v => Sys2Proof.Machine.execLcTransitionRequest v s
  | .lcStepDone ok => Sys2Proof.Machine.execLcStepDone ok s
  | .lcChallengeNew req v => Sys2Proof.Machine.execLcChallengeNew req v s
  | .challengeExpiry => Sys2Proof.Machine.execChallengeExpiry s
  | .tokenSubmit v => Sys2Proof.Machine.execTokenSubmit v s
  | .tokenCheckDone signed => Sys2Proof.Machine.execTokenCheckDone signed s
  | .tokenStandingExpiry => Sys2Proof.Machine.execTokenStandingExpiry s
  | .tapIdcode stamp => Sys2Proof.Machine.execTapIdcode stamp s
  | .tapBypass stamp => Sys2Proof.Machine.execTapBypass stamp s
  | .tapSamplePreload stamp => Sys2Proof.Machine.execTapSamplePreload stamp s
  | .tapExtest stamp => Sys2Proof.Machine.execTapExtest stamp s
  | .tapIntest stamp => Sys2Proof.Machine.execTapIntest stamp s
  | .tapDbgAuth off write v stamp => Sys2Proof.Machine.execTapDbgAuth off write v stamp s
  | .tapDbgAccess op addr size v gate x src dst stamp => Sys2Proof.Machine.execTapDbgAccess op addr size v gate x src dst stamp s
  | .dbgEnd v => Sys2Proof.Machine.execDbgEnd v s
  | .debugSessionExpiry => Sys2Proof.Machine.execDebugSessionExpiry s
  | .lgCommit req g v inflight => Sys2Proof.Machine.execLgCommit req g v inflight s
  | .drainEnd g clocks stamp => Sys2Proof.Machine.execDrainEnd g clocks stamp s
  | .gateDrainTimeout g => Sys2Proof.Machine.execGateDrainTimeout g s
  | .keystoneInput digest standby stamp => Sys2Proof.Machine.execKeystoneInput digest standby stamp s
  | .heartbeatWindow aMortar aWire bMortar bWire stamp => Sys2Proof.Machine.execHeartbeatWindow aMortar aWire bMortar bWire stamp s
  | .keystoneFaultLine u stamp => Sys2Proof.Machine.execKeystoneFaultLine u stamp s
  | .keystoneAutoRestart u => Sys2Proof.Machine.execKeystoneAutoRestart u s
  | .ksRestart req u v => Sys2Proof.Machine.execKsRestart req u v s
  | .keystoneImageLoaded u img => Sys2Proof.Machine.execKeystoneImageLoaded u img s
  | .keystoneResyncDone u => Sys2Proof.Machine.execKeystoneResyncDone u s
  | .ksPairSwitch req => Sys2Proof.Machine.execKsPairSwitch req s
  | .plannedHandover => Sys2Proof.Machine.execPlannedHandover s
  | .revertDue => Sys2Proof.Machine.execRevertDue s
  | .ksRevertArm => Sys2Proof.Machine.execKsRevertArm s
  | .mainPowerUp => Sys2Proof.Machine.execMainPowerUp s
  | .startAttempt f stamp => Sys2Proof.Machine.execStartAttempt f stamp s
  | .startRetry f stamp => Sys2Proof.Machine.execStartRetry f stamp s
  | .rootRetry f => Sys2Proof.Machine.execRootRetry f s
  | .vinMainDip => Sys2Proof.Machine.execVinMainDip s
  | .powerLoss writes stamp => Sys2Proof.Machine.execPowerLoss writes stamp s
  | .vinAuxChange up stamp => Sys2Proof.Machine.execVinAuxChange up stamp s
  | .powerDomainOn req => Sys2Proof.Machine.execPowerDomainOn req s
  | .powerDomainOff req => Sys2Proof.Machine.execPowerDomainOff req s
  | .domainFault dom mv => Sys2Proof.Machine.execDomainFault dom mv s
  | .pwBootPreferredWrite v => Sys2Proof.Machine.execPwBootPreferredWrite v s
  | .plumbMeasure => Sys2Proof.Machine.execPlumbMeasure s
  | .plumbMeasurePeriod => Sys2Proof.Machine.execPlumbMeasurePeriod s
  | .plumbPlan plan => Sys2Proof.Machine.execPlumbPlan plan s
  | .markDurable => Sys2Proof.Machine.execMarkDurable s
  | .evClear req v => Sys2Proof.Machine.execEvClear req v s
  | .evRead v => Sys2Proof.Machine.execEvRead v s
  | .evReadDone => Sys2Proof.Machine.execEvReadDone s
  | .pcFreeze on => Sys2Proof.Machine.execPcFreeze on s
  | .pcFrozen => Sys2Proof.Machine.execPcFrozen s
  | .pcSnapshot => Sys2Proof.Machine.execPcSnapshot s
  | .pcSnapshotDone => Sys2Proof.Machine.execPcSnapshotDone s
  | .pcAccumulatorFlush => Sys2Proof.Machine.execPcAccumulatorFlush s
  | .smbusBlockRead cmd addr => Sys2Proof.Machine.execSmbusBlockRead cmd addr s
  | .smbusAlertResponse => Sys2Proof.Machine.execSmbusAlertResponse s
  | .interruptModerationTimeout owner ring => Sys2Proof.Machine.execInterruptModerationTimeout owner ring s
  | .pcieLinkDown => Sys2Proof.Machine.execPcieLinkDown s
  | .tamperConditionEnd source reading => Sys2Proof.Machine.execTamperConditionEnd source reading s
  | .supplyMeasurement main aux iin power ballast => Sys2Proof.Machine.execSupplyMeasurement main aux iin power ballast s
  | .ppsEchoTimeout cd => Sys2Proof.Machine.execPpsEchoTimeout cd s
  | .atrCompletionTimeout cd => Sys2Proof.Machine.execAtrCompletionTimeout cd s

end Sys2Proof.Machine
end

