-- ==== Sys2Proof/Safety.lean ====
section
/-! DEFINITION. What a safe run is, and the words that claims use for what a command leaves unchanged. -/

namespace Sys2Proof

/-- The block runs n commands from a state without a fault or a refusal. -/
def SafeRun (n : Nat) (s : Machine.State) : Prop := ∃ t, Host.Core.run core n s = .next t

namespace Machine

/-! ## What stays -/

/-- The groups of state that hold the block's work stay: everything but the registers, the reporting channels, the faces and
what the block has sent. -/
structure Dev.SameWork (d e : Dev) : Prop where
  sched : e.sched = d.sched
  wires : e.wires = d.wires
  eng : e.eng = d.eng
  keys : e.keys = d.keys
  cards : e.cards = d.cards
  plinth : e.plinth = d.plinth
  cs : e.cs = d.cs
  life : e.life = d.life
  gates : e.gates = d.gates
  pair : e.pair = d.pair
  power : e.power = d.power
  hbm : e.hbm = d.hbm
  free : e.free = d.free

/-- The number is the place of a field of the EV or the IC page, which records and messages change (R548, R549). -/
def markKey (key : Nat) : Prop := key / 0x20000000 = 0x040 ∨ key / 0x20000000 = 0x042

/-- The number is the place of INT_RAW or ERR_INFO of some page (R39). -/
def reportKey (key : Nat) : Prop := key / 0x20000 % 0x1000 = 0x010 ∨ key / 0x20000 % 0x1000 = 0x024

/-- The place of a field within its register page. -/
def Fld.place (f : Fld) : Nat := f.off * 32 + f.lo

/-- Every register field outside a set keeps its value, and so does every value in effect and every staged mark. The set
names fields by their places. -/
structure Dev.SameRegs (d e : Dev) (own : Nat → Prop) : Prop where
  vals : ∀ key, ¬ own key → Tab.look e.regs.vals key = Tab.look d.regs.vals key
  eff : e.regs.eff = d.regs.eff
  staged : e.regs.staged = d.regs.staged

/-- The faces stay, but for what their events sessions have queued. -/
structure Dev.SameFace (d e : Dev) : Prop where
  handshakes : e.face.handshakes = d.face.handshakes
  partials : e.face.partials = d.face.partials
  streams : e.face.streams = d.face.streams
  rings : e.face.rings = d.face.rings
  ideKeys : e.face.ideKeys = d.face.ideKeys
  psk : e.face.psk = d.face.psk
  spdm : e.face.spdm = d.face.spdm
  perst : e.face.perst = d.face.perst
  sessions : e.face.sessions.map (fun x => (x.1, { x.2 with unsent := [], dropped := false })) =
    d.face.sessions.map (fun x => (x.1, { x.2 with unsent := [], dropped := false }))

/-- Between two states the block has done no more than report: interrupts, errors, records, counted events, messages (ch.
16). The work and the faces stay, and so does every register field but those of the EV and IC pages and those of a set. -/
structure Dev.Reported (own : Nat → Prop) (d e : Dev) : Prop where
  work : d.SameWork e
  regs : d.SameRegs e (fun key => markKey key ∨ own key)
  face : d.SameFace e
  rings : e.log.rings = d.log.rings
  counters : e.log.counters = d.log.counters
  shadow : e.log.shadow = d.log.shadow

/-- Nothing stops or delays a transaction at a crossing (R29 to R35). -/
structure Dev.Clear (d : Dev) (x : Xing) : Prop where
  fenced : d.fenced x = false
  stalled : (d.xing x).stalled = false
  clocked : d.stopped x.rx = false
  first : (d.xing x).waiting = []
  sampled : x.rx ≠ 15

/-- Nothing stops an access: the gate in front of its target has no commit pending and permits it, and the crossing it
passes is clear (R466, R473). -/
structure Dev.Open (d : Dev) (p : Perm) (a : Access) : Prop where
  gate : ∀ g, a.gate = some g → d.drain g = none ∧ (d.gateDecide p g a).1 = 0
  way : ∀ x, a.xing = some x → d.Clear x

/-- A register access is served: the word at its address is read, or written, and the answer goes to where it is due (R38).
-/
def Dev.Served (d : Dev) (p : Perm) (a : Access) (q : Perm) (e : Dev) : Prop :=
  match a.op with
  | .read | .fetch => q = p ∧ e = (d.readAt p a.addr).2.answerTo a .ok (d.readAt p a.addr).1
  | _ => q = (d.writeAt p a.req a.pasid a.addr (leNat a.data)).1 ∧
      e = (d.writeAt p a.req a.pasid a.addr (leNat a.data)).2.answerTo a .ok 0

/-- A context runs a request (R71). -/
def Dev.Runs (d : Dev) (c : Nat) (r : Request) : Prop := (d.ctx c).req = some r ∧ (d.ctx c).state = .running

/-- A context runs a request of a function that passes the function's public checks, whose keys the cache can hold, whose keys
resolve, and whose work finds a core that can be claimed and whose clock runs (R63, R111, R253, R574): the keys in their order. -/
def Dev.Ready (d : Dev) (c func : Nat) (r : Request) (checks : List (Option Status)) (ws : List Want) (ivs : List Nat)
    (ks : List Obj) : Prop :=
  d.Runs c r ∧ r.func = func ∧ d.cacheBusy r.bay r.handles = false ∧ firstFault checks = none ∧
    (d.resolve c r.bay ws ivs).1 = .keys ks ∧ d.coreServes r = true

/-- What serving a request of a context leaves: the request, every other context, the queues, and all but the scheduler's
contexts and completions, the key island, the engines, what reports hold, and the counts of cache misses, of reseeds and of
the bay's event ring. -/
structure Dev.Serves (d e : Dev) (c : Nat) : Prop where
  req : (e.ctx c).req = (d.ctx c).req
  others : ∀ k, k ≠ c → e.ctx k = d.ctx k
  sched : { d.sched with ctxs := e.sched.ctxs, presented := e.sched.presented } = e.sched
  work : ({ d with sched := e.sched, eng := e.eng, keys := e.keys, free := e.free }).SameWork e
  regs : d.SameRegs e (fun key => markKey key ∨ reportKey key ∨ key = R.RN_RESEEDS.key 0 0 ∨
    ∃ b, key = R.KC_BAY_MISSES.key 0 b ∨ key = R.BW_EV_HEAD.key b 0 ∨ key = R.BW_EV_OVERFLOW.key b 0 ∨
      key = R.BW_EV_REPEAT_GEN.key b 0)

/-- The function of a context's request ends at once: its completion is presented, with its output where the status is ST_OK
(R73, R77). -/
def Dev.Ends (d e : Dev) (c : Nat) (r : Request) (st : Status) (out : List Tlv) : Prop :=
  e.sched.presented = d.sched.presented ++ [⟨r, c, (d.ctx c).owned, st, if st = .ok then out else []⟩] ∧
    e.eng = d.eng ∧ (e.ctx c).state = .waiting ∧ d.Serves e c

/-- A step lane of the PIN unit is free, and nothing waits for one (R572). -/
def Dev.LaneFree (d : Dev) : Prop := d.eng.pinWait = [] ∧ ∃ l < 24, Tab.look d.eng.pinLanes l = none

/-- The function of a context's request goes on in the lowest free step lane of the PIN unit, at its fixed length, with its
true status and its output (R96, R106, R572). -/
def Dev.Steps (d e : Dev) (c : Nat) (r : Request) (st : Status) (out : List Tlv) : Prop :=
  (∃ (l : Nat) (j : Job), Tab.look d.eng.pinLanes l = none ∧ (∀ k < l, Tab.look d.eng.pinLanes k ≠ none) ∧
      e.eng = { d.eng with pinLanes := Tab.put d.eng.pinLanes l j } ∧ j.req = some r ∧ j.ctx = c ∧ j.status = st ∧
      j.finish = .whole out ∧ j.clocks = pinStepClocks r.func) ∧
    e.sched.presented = d.sched.presented ∧ (e.ctx c).outstanding = (d.ctx c).outstanding + 1 ∧
    (e.ctx c).state = .waiting ∧ d.Serves e c

/-- The function of a context's request waits for a Vault write, which is on its way; when it is durable the function
completes with its output (R203). -/
def Dev.Writes (d e : Dev) (c : Nat) (r : Request) (item : VaultItem) (out : List Tlv) : Prop :=
  e.keys.writes = d.keys.writes ++ [⟨r.bay, item, c, some r, true, out⟩] ∧ e.eng = d.eng ∧
    e.sched.presented = d.sched.presented ∧ (e.ctx c).outstanding = (d.ctx c).outstanding + 1 ∧
    (e.ctx c).state = .waiting ∧ d.Serves e c

/-- The next value of a nonce counter can be assigned: the counter has values, and its salt is drawn or can be (R210, R240).
-/
def Dev.NonceFree (d : Dev) (i : Nat) : Prop := (d.nonce i).exhausted = false ∧ d.on R.RN_STATUS_FAIL = false

/-- How a binding command's end shows: in the BY page of the bay, with its interrupt bit, or in the NF common page for the
manager (R305, R339, R340). -/
def Dev.BindShown (e : Dev) (target : Option (Fin 256)) (st : Status) : Prop :=
  match target with
  | some b => e.get R.BY_BIND_STATUS_STATUS b = st.code ∧ e.on R.BY_BIND_STATUS_BUSY b = false ∧
      (e.get (R.INT_RAW .by) b).testBit 4 = true
  | none => e.get R.NF_MGR_BIND_STATUS_STATUS = st.code ∧ e.on R.NF_MGR_BIND_STATUS_BUSY = false

/-- A binding command leaves everything but the binding table, its status register and what reports hold. -/
def Dev.OnlyBinds (d e : Dev) (target : Option (Fin 256)) : Prop :=
  let own (f g h : Fld) (i : Nat) : Nat → Prop := fun key => reportKey key ∨ key = f.key i 0 ∨ key = g.key i 0 ∨ key = h.key i 0
  ({ d with sched := { d.sched with bindings := e.sched.bindings } }).Reported (match target with
    | some b => own R.BY_BIND_STATUS_STATUS R.BY_BIND_STATUS_BUSY R.BY_BIND_STATUS_BOUND b
    | none => own R.NF_MGR_BIND_STATUS_STATUS R.NF_MGR_BIND_STATUS_BUSY R.NF_MGR_BIND_STATUS_BOUND 0) e

/-- A command completes: it answers a next state, the queue stays, and a property holds of the rest. -/
def Completes (c : Instr) (s : State) (P : Perm → Dev → Prop) : Prop :=
  ∃ t, exec c s = .next t ∧ t.pending = s.pending ∧ P t.perm t.dev

/-! ## The permanent state -/

/-- OTP bits and tamper fuses are only ever programmed, and the response level has not fallen (R418, R421, R449). -/
structure Perm.Ahead (p q : Perm) : Prop where
  otp : ∀ w n, (p.otpWord w).testBit n = true → (q.otpWord w).testBit n = true
  fuses : ∀ s ∈ p.fuses, s ∈ q.fuses
  level : p.level ≤ q.level

/-- OTP bits and tamper fuses are only ever programmed, and a response of ZEROIZE_ROOT stays (R418, R424, R449). -/
structure Perm.Keeps (p q : Perm) : Prop where
  otp : ∀ w n, (p.otpWord w).testBit n = true → (q.otpWord w).testBit n = true
  fuses : ∀ s ∈ p.fuses, s ∈ q.fuses
  top : 4 ≤ p.level → 4 ≤ q.level

end Machine

end Sys2Proof
end

