-- ==== Sys2Proof/Certificates/Slice0/Obligations.lean ====
section
/-! DEFINITION. The statements for the provers. Each says which rules of the spec it formalises; a clause that is the model's own
choice names the log entry. -/

open Sys2Proof Sys2Proof.Machine

/-- A step runs the command at the front of the queue on the block with the queue's rest; on an empty queue the block idles
(log entry 1). -/
def Obligations.StepRunsTheFrontCommand : Prop :=
  (∀ (c : Instr) (s : State), step { s with pending := c :: s.pending } = exec c s) ∧
    (∀ s : State, s.pending = [] → step s = .next s)

/-- The spec answers every command with an effect or with a status; so no command ends in a fault or a refusal, and none
touches the queue. -/
def Obligations.EveryCommandCompletes : Prop :=
  ∀ (c : Instr) (s : State), Completes c s (fun _ _ => True)

/-- R421: nothing but TM_RESUME lowers E, and R424 accepts it for E of 1, 2 or 3 only. OTP bits are only ever programmed. The
commands that carry a register access are those through which a write of TM_RESUME can come. -/
def Obligations.StepKeepsWhatIsProgrammed : Prop :=
  ∀ (s t : State), step s = .next t → s.perm.Keeps t.perm ∧
    ∀ (c : Instr) (rest : List Instr), s.pending = c :: rest →
      (match c with
        | .tmResume _ _ | .registerWrite _ _ _ _ | .intPendingWrite _ _ _ | .lockWrite _ _ _ | .softReset _ _ _
        | .bar0Access _ _ _ _ _ _ _ _ _ | .mgmtRequest _ _ _ _ _ _ _ | .mortarMessage _ _ _ _ _ _ _ _ _
        | .plinthTick | .clockRestart _ | .drainEnd _ _ _ | .tapDbgAuth _ _ _ _ | .tapDbgAccess _ _ _ _ _ _ _ _ _ => False
        | _ => True) →
      s.perm.Ahead t.perm

/-- R7: a write sets an RW field, and an RWL field until LOCK is set; R38: a write of another size is dropped, and recorded.
Registers whose write acts have statements of their own. -/
def Obligations.RegisterWritesSetFieldsOrAreDropped : Prop :=
  (∀ (s : State) (req : Requester) (addr : BitVec 48) (v : DWord) (b : Blk) (i off : Nat) (f : Fld),
    addr.toNat % 4 = 0 → targetOf addr.toNat = .reg b i off → 0x040 ≤ off →
    mgmtWrite req b i off (low 32 v.toNat) s.perm s.dev = none →
    blockWrite req none b i off (low 32 v.toNat) s.perm s.dev = none →
    s.dev.outOfRange b i off (low 32 v.toNat) = false →
    f ∈ b.fields i → f.off = off → f.rep = .one → f.staged = false → s.dev.writable f i = true →
    Completes (.registerWrite req addr 4 v) s (fun p d =>
      p = s.perm ∧ d.get f i = f.of (low 32 v.toNat) 0 ∧ s.dev.SameWork d ∧ d.face = s.dev.face ∧ d.log = s.dev.log ∧
        ∀ key, key / 0x20000000 ≠ b.page i → Tab.look d.regs.vals key = Tab.look s.dev.regs.vals key)) ∧
  (∀ (s : State) (req : Requester) (addr : BitVec 48) (size : Nat) (v : DWord),
    ¬ (size = 4 ∧ addr.toNat % 4 = 0) → ¬ (size = 8 ∧ addr.toNat % 8 = 0) →
    Completes (.registerWrite req addr size v) s (fun p d =>
      p = s.perm ∧ Dev.Reported (fun _ => False) s.dev d ∧
        (targetOf (addr.toNat - addr.toNat % 4) ≠ .unmapped → ∃ isl : Island,
          d = s.dev.mark .regPartial isl 0 (low 32 addr.toNat) (bits addr.toNat 47 32) size req.param) ∧
        (targetOf (addr.toNat - addr.toNat % 4) = .unmapped →
          d = s.dev.mark .regUnmapped .management 0 (low 32 addr.toNat) (bits addr.toNat 47 32) size req.param)))

/-- R7, R9: a read gives the value, then clears the RC fields; only the instance that is selected. -/
def Obligations.ReadAnswersAndClears : Prop :=
  ∀ (s : State) (req : Requester) (addr : BitVec 48) (b : Blk) (i off : Nat),
    targetOf (addr.toNat - addr.toNat % 4) = .reg b i off →
    Completes (.rcRead req addr) s (fun p d =>
      p = s.perm ∧ d.outbox = s.dev.outbox ++ [.answer req addr.toNat ⟨.ok, s.dev.word s.perm b i off⟩] ∧
        (∀ f ∈ b.fields i, f.kind = .rc → ∀ k ∈ s.dev.repsOf f off, k < 0x1000 → d.get f i k = 0) ∧
        (∀ f ∈ b.fields i, f.kind ≠ .rc → b ≠ .sc → b ≠ .ks → b ≠ .ev → ∀ k < 0x1000, d.get f i k = s.dev.get f i k) ∧
        (∀ f ∈ b.fields i, f.kind = .rc → ∀ k < 0x1000, k ∉ s.dev.repsOf f off → b ≠ .sc → b ≠ .ks → b ≠ .ev →
          d.get f i k = s.dev.get f i k))

/-- R40, R41. Which fields show a source is the model's reading (log entry 22). -/
def Obligations.PendingBitsClearAndPagesReset : Prop :=
  (∀ (s : State) (req : Requester) (pg : BitVec 16) (v : Word) (b : Blk) (i : Nat),
    targetOf (pg.toNat * 0x1000 + 0x018) = .reg b i 0x018 →
    Completes (.intPendingWrite req pg v) s (fun p d =>
      p = s.perm ∧ (∀ n, (d.get (R.INT_RAW b) i).testBit n = ((s.dev.get (R.INT_RAW b) i).testBit n && !v.toNat.testBit n)) ∧
        (∀ n, v.toNat.testBit n = true → (d.pendingBits b i).testBit n = false) ∧
        Dev.Reported (fun key => key = (R.INT_RAW b).key i 0) s.dev d)) ∧
  (∀ (s : State) (req : Requester) (pg : BitVec 16) (v : Word) (b : Blk) (i : Nat),
    targetOf (pg.toNat * 0x1000 + 0x008) = .reg b i 0x008 → b ∈ [Blk.pw, .ck, .pl, .rn, .module] → v.toNat.testBit 2 = true →
    Completes (.softReset req pg v) s (fun p d => p = s.perm ∧ s.dev.SameWork d ∧
      (∀ f ∈ b.fields i, (∀ g ∈ s.dev.softKept b i, g.place ≠ f.place) → ∀ k < 0x1000, d.get f i k = f.resetAt k) ∧
      (∀ key, key / 0x20000000 ≠ b.page i → ¬ markKey key → Tab.look d.regs.vals key = Tab.look s.dev.regs.vals key)))

/-- R41, R7. SOFT_RESET of pages whose work needs no abort. -/
def Obligations.LockStaysSet : Prop :=
  (∀ (s : State) (req : Requester) (pg : BitVec 16) (v : Word) (b : Blk) (i : Nat),
    targetOf (pg.toNat * 0x1000 + 0x01C) = .reg b i 0x01C →
    Completes (.lockWrite req pg v) s (fun p d => p = s.perm ∧
      d.get (R.LOCK b) i = (if v.toNat.testBit 0 then 1 else s.dev.get (R.LOCK b) i) ∧
      { s.dev with regs := d.regs } = d ∧
      ∀ key, key ≠ (R.LOCK b).key i 0 → Tab.look d.regs.vals key = Tab.look s.dev.regs.vals key)) ∧
  (∀ (s : State) (req : Requester) (pg : BitVec 16) (v : Word) (b : Blk) (i : Nat),
    targetOf (pg.toNat * 0x1000 + 0x008) = .reg b i 0x008 → b ∈ [Blk.pw, .ck, .pl, .rn, .module] →
    s.dev.get (R.LOCK b) i = 1 →
    Completes (.softReset req pg v) s (fun p d => p = s.perm ∧ d.get (R.LOCK b) i = 1)) ∧
  (∀ (s : State) (req : Requester) (addr : BitVec 48) (v : DWord) (b : Blk) (i off : Nat) (f : Fld),
    addr.toNat % 4 = 0 → targetOf addr.toNat = .reg b i off → 0x040 ≤ off →
    mgmtWrite req b i off (low 32 v.toNat) s.perm s.dev = none →
    blockWrite req none b i off (low 32 v.toNat) s.perm s.dev = none →
    s.dev.outOfRange b i off (low 32 v.toNat) = false → s.dev.get (R.LOCK b) i = 1 →
    f ∈ b.fields i → f.kind = .rwl →
    Completes (.registerWrite req addr 4 v) s (fun _ d => ∀ k < 0x1000, d.get f i k = s.dev.get f i k))

/-- R44: the manager window ends at 0x01FF_FFFF, and its unassigned pages are those of no block. -/
def Obligations.UnassignedPagesReadZero : Prop :=
  (∀ (s : State) (req : Requester) (addr : BitVec 48), addr.toNat < 0x02000000 → managerPage (addr.toNat / 0x1000) = none →
    Completes (.rcRead req addr) s (fun p d => p = s.perm ∧ d = s.dev.send (.answer req addr.toNat ⟨.ok, 0⟩))) ∧
  (∀ (s : State) (req : Requester) (addr : BitVec 48) (size : Nat) (v : DWord), addr.toNat < 0x02000000 →
    managerPage (addr.toNat / 0x1000) = none →
    Completes (.registerWrite req addr size v) s (fun p d => p = s.perm ∧ Dev.Reported (fun _ => False) s.dev d)) ∧
  (∀ (s : State) (req : Requester) (addr : BitVec 48) (v : DWord), addr.toNat < 0x02000000 → addr.toNat % 4 = 0 →
    managerPage (addr.toNat / 0x1000) = none →
    Completes (.registerWrite req addr 4 v) s (fun p d => p = s.perm ∧
      d = s.dev.mark .regUnmapped .management 0 (low 32 addr.toNat) (bits addr.toNat 47 32) 4 req.param))

/-- R21, R47, R353, R455. Which Mortar ports an access passes is an operand. -/
def Obligations.AccessesAreServed : Prop :=
  (∀ (s : State) (h : Header) (op : AccessOp) (payload : Bytes) (isl : Island) (x : Option Xing) (u : FlitUnit)
      (quads : List (Fin 4)) (stamp : Nat), h.access = some op → h.addr % 4 = 0 →
    let a : Access := ⟨op, h.addr, 4, payload, ⟨h.origin, h.bay, isl⟩, h.src, h.dst,
      if op = .posted then .none else .requester, none, none⟩
    (s.dev.countFlits quads h.len).Open s.perm a →
    Completes (.mortarMessage h payload 4 isl none x u quads stamp) s
      ((s.dev.countFlits quads h.len).Served s.perm a)) ∧
  (∀ (s : State) (addr : BitVec 26) (write : Bool) (v : DWord) (stream : Option (Fin 4)) (pasid : Option (BitVec 20))
      (tag src dst : Nat) (req : Requester), s.dev.face.perst = false → s.dev.on R.HF_LINK_UP = true →
    s.dev.unsecured stream = false → s.dev.power.stage = .running → addr.toNat % 4 = 0 →
    (0x02000000 ≤ addr.toNat ∧ addr.toNat < 0x03000000 ∧ req = ⟨.bay, bits addr.toNat 23 16, .host⟩ ∨
      ¬ (0x02000000 ≤ addr.toNat ∧ addr.toNat < 0x03000000) ∧
        ∃ k, s.dev.controller = some k ∧ req = ⟨.supervisor, 0, keystoneIsland k⟩) →
    let a : Access := { tlpAccess addr.toNat write 4 v.toNat (pasid.map BitVec.toNat) tag src dst with req := req }
    s.dev.Open s.perm a →
    Completes (.bar0Access addr write 4 v stream pasid tag src dst) s (s.dev.Served s.perm a)) ∧
  (∀ (s : State) (h : FrameHdr) (reqId : Word) (op : Byte) (addr : BitVec 48) (v : Word) (src dst : Nat) (c : Session)
      (req : Requester), Tab.look s.dev.face.sessions h.session = some c → h.pid = c.pid →
    s.dev.bound c.pid = some c.target → op.toNat ≤ 1 → addr.toNat % 4 = 0 →
    (c.target ≠ 256 ∧ 0x02000000 ≤ addr.toNat ∧ addr.toNat < 0x03000000 ∧ bits addr.toNat 23 16 = c.target ∧
        req = ⟨.bay, c.target, .network⟩ ∨
      c.target = 256 ∧ addr.toNat < 0x03000000 ∧ ∃ k, s.dev.controller = some k ∧ req = ⟨.supervisor, 0, keystoneIsland k⟩) →
    let a : Access := ⟨if op.toNat = 0 then .read else .write, addr.toNat, 4, if op.toNat = 0 then [] else leBytes 4 v.toNat,
      req, src, dst, .mgmt h.session reqId.toNat, none, none⟩
    s.dev.Open s.perm a →
    Completes (.mgmtRequest h reqId op addr v src dst) s (s.dev.Served s.perm a)) ∧
  (∀ (s : State) (op : AccessOp) (addr : BitVec 48) (v : DWord) (x : Option Xing) (src dst stamp : Nat),
    s.dev.tapPermits s.perm .dbgAccess = true → addr.toNat % 4 = 0 →
    let d : Dev := { s.dev with life := { s.dev.life with tap := .dbgAccess } }
    let a : Access := ⟨op, addr.toNat, 4, if op = .write ∨ op = .posted then leBytes 4 v.toNat else [], ⟨.debug, 0, .debug⟩,
      src, dst, if op = .posted then .none else .tap, none, none⟩
    d.Open s.perm a →
    Completes (.tapDbgAccess op addr 4 v none x src dst stamp) s (d.Served s.perm a))

/-- R21, R461: HBM is the one memory the Mortar addresses in bytes. -/
def Obligations.MessagesAreCarried : Prop :=
  (∀ (s : State) (h : Header) (payload : Bytes) (size : Nat) (isl : Island) (gate : Option (Fin 40)) (quads : List (Fin 4))
      (stamp : Nat), h.access = none →
    Completes (.mortarMessage h payload size isl gate none .none quads stamp) s (fun p d =>
      p = s.perm ∧ d = (s.dev.countFlits quads h.len).send (.mortar h payload))) ∧
  (∀ (s : State) (h : Header) (op : AccessOp) (payload : Bytes) (size : Nat) (isl : Island) (g : Fin 40) (x : Option Xing)
      (u : FlitUnit) (quads : List (Fin 4)) (stamp : Nat), h.access = some op → 28 ≤ g.val → g.val ≤ 31 →
    let a : Access := ⟨op, h.addr, size, payload, ⟨h.origin, h.bay, isl⟩, h.src, h.dst,
      if op = .posted then .none else .requester, none, some ⟨some g.val, h, x, .none⟩⟩
    (s.dev.countFlits quads h.len).Open s.perm a →
    Completes (.mortarMessage h payload size isl (some g) x u quads stamp) s (fun p d =>
      p = s.perm ∧ ({ s.dev with hbm := d.hbm }).SameWork d ∧ d.regs = s.dev.regs ∧ d.face = s.dev.face ∧
        (∀ n, Tab.get d.hbm n 0 =
          if (op = .write ∨ op = .posted) ∧ h.addr ≤ n ∧ n < h.addr + payload.length then payload.getD (n - h.addr) 0
          else Tab.get s.dev.hbm n 0) ∧
        (op = .read → d.outbox = s.dev.outbox ++
          [.answer ⟨h.origin, h.bay, isl⟩ h.addr ⟨.ok, leNat (s.dev.hbmBytes h.addr size)⟩]))) ∧
  (∀ (s : State) (h : Header) (payload : Bytes) (size : Nat) (isl : Island) (gate : Option (Fin 40)) (x : Xing) (u : FlitUnit)
      (quads : List (Fin 4)) (stamp : Nat), h.cls = 2 → h.op = 5 → s.dev.fenced x = false → (s.dev.xing x).stalled = false →
    s.dev.stopped x.rx = false →
    Completes (.mortarMessage h payload size isl gate (some x) u quads stamp) s (fun p d =>
      p = s.perm ∧ d = s.dev.countFlits quads h.len))

/-- R29 to R35. An access that has not been acknowledged ends with ST_XING_TIMEOUT. -/
def Obligations.CrossingsStallAndRefuse : Prop :=
  (∀ (s : State) (x : Xing), s.dev.fenced x = false → (s.dev.xing x).stalled = false → x.rx ≠ 15 →
    Completes (.xingUnstable x .none) s (fun p d => p = s.perm ∧
      d.xing x = { s.dev.xing x with waiting := (s.dev.xing x).waiting.tail } ∧
      ({ s.dev with wires := d.wires, free := d.free }).SameWork d)) ∧
  (∀ (s : State) (x : Xing), s.dev.fenced x = false → (s.dev.xing x).stalled = false →
    Completes (.xingTimeout x .none) s (fun p d => p = s.perm ∧
      (d.xing x).stalled = true ∧ (d.xing x).pulses = (s.dev.xing x).pulses ∧
      (d.xing x).waiting = (s.dev.xing x).waiting.take (if x.rx = 15 then 1 else 0) ∧
      (x.rx < 19 → (d.get (R.INT_RAW .ck)).testBit (x.rx + 1) = true) ∧
      ({ s.dev with wires := d.wires, free := d.free }).SameWork d)) ∧
  (∀ (s : State) (x : Xing) (u : FlitUnit), s.dev.fenced x = false → (s.dev.xing x).stalled = true →
    Completes (.xingTimeout x u) s (fun p d => p = s.perm ∧
      d.xing x = { s.dev.xing x with refusals := min 0xFFFFFFFF ((s.dev.xing x).refusals + 1) } ∧
      Dev.Reported reportKey { s.dev with wires := d.wires } d)) ∧
  (∀ (s : State) (x : Xing) (u : FlitUnit), s.dev.fenced x = true →
    Completes (.xingTimeout x u) s (fun p d => p = s.perm ∧ d = s.dev.xingMark x .xingFenced)) ∧
  (∀ (s : State) (x : Xing), (s.dev.xing x).stalled = true → s.dev.stopped x.rx = false → x.rx ≠ 15 → xingDomains x = [] →
    Completes (.xingResumed x) s (fun p d => p = s.perm ∧
      d.xing x = { s.dev.xing x with stalled := false, refusals := 0, pulses := 0 } ∧
      Dev.Reported reportKey { s.dev with wires := d.wires } d)) ∧
  (∀ (s : State) (x : Xing), (s.dev.xing x).stalled = true → s.dev.stopped x.rx = false → x.rx ≠ 15 →
    Completes (.xingResumed x) s (fun p d => p = s.perm ∧
      d = (xingDomains x).foldl (fun a n => a.wipeDomain (s.dev.workLevel s.perm.level) n) (s.dev.xingResume x))) ∧
  (∀ s : State, s.dev.wires.demand = true → s.dev.demandStalled = false →
    Completes .tamperDemandResend s (fun p d => p = s.perm ∧ d = { s.dev with wires := { s.dev.wires with demand := false } })) ∧
  (∀ s : State, s.dev.wires.demand = true → s.dev.demandStalled = true →
    Completes .tamperDemandResend s (fun p d => p = s.perm ∧ d.wires.demand = true ∧ d.demandStalled = true ∧
      Dev.Reported reportKey { s.dev with wires := d.wires } d))

/-- R253, R523, R35. -/
def Obligations.ClocksStopAndRestart : Prop :=
  (∀ (s : State) (n : Fin 19), s.dev.stopped n = false →
    Completes (.clockStop n) s (fun p d => p = s.perm ∧ (∀ m, d.stopped m = (m == n.val || s.dev.stopped m)) ∧
      d.get R.CK_DOM_STATUS_RUNNING 0 n = 0 ∧
      d.get R.CK_DOM_STATUS_STOPS 0 n = (s.dev.get R.CK_DOM_STATUS_STOPS 0 n + 1) % R.CK_DOM_STATUS_STOPS.bound ∧
      { s.dev with wires := d.wires, regs := d.regs } = d ∧ d.wires.xings = s.dev.wires.xings ∧
      ∀ key, key ≠ R.CK_DOM_STATUS_RUNNING.key 0 n → key ≠ R.CK_DOM_STATUS_STOPS.key 0 n →
        Tab.look d.regs.vals key = Tab.look s.dev.regs.vals key)) ∧
  (∀ (s : State) (n : Fin 19), s.dev.stopped n = true → Completes (.clockStop n) s (fun p d => p = s.perm ∧ d = s.dev)) ∧
  (∀ (s : State) (n : Fin 19), s.dev.stopped n = true →
    (n.val = 4 → (∀ c, s.dev.core c = Core.idle) ∧ ∀ h, s.dev.hash h = Core.idle) →
    (n.val = 5 → ∀ e, s.dev.engine e = Core.idle) →
    (∀ y ∈ s.dev.wires.xings, y.xing.rx = n → y.stalled = true) →
    Completes (.clockRestart n) s (fun p d => p = s.perm ∧ (∀ m, d.stopped m = (m != n.val && s.dev.stopped m)) ∧
      d.get R.CK_DOM_STATUS_RUNNING 0 n = 1 ∧
      { s.dev with wires := d.wires, regs := d.regs } = d ∧ d.wires.xings = s.dev.wires.xings ∧
      ∀ key, key ≠ R.CK_DOM_STATUS_RUNNING.key 0 n → Tab.look d.regs.vals key = Tab.look s.dev.regs.vals key)) ∧
  (∀ s : State, (∀ y ∈ s.dev.wires.xings, y.xing.rx ≠ 15) →
    Completes .plinthTick s (fun p d => p = s.perm ∧
      d = { s.dev with plinth := { s.dev.plinth with tick := (s.dev.plinth.tick + 1) % 2 ^ 15 } })) ∧
  (∀ (s : State) (x : Xing) (a : Access) (rest : List Access) (n : Nat), x.rx = 15 →
    s.dev.wires.xings.filter (fun y => y.xing.rx == 15) = [⟨x, false, n, a :: rest, 0⟩] →
    Completes .plinthTick s (fun p d =>
      let d1 : Dev := { s.dev with plinth := { s.dev.plinth with tick := (s.dev.plinth.tick + 1) % 2 ^ 15 } }
      (p, d) = (d1.setXing ⟨x, false, n, rest, 0⟩).perform s.perm a))

/-- R472 to R475. The clocks a drain takes are an operand. -/
def Obligations.GatesCommitWhole : Prop :=
  (∀ (s : State) (req : Requester) (g : Fin 40) (v : Word) (n : BitVec 16), v.toNat.testBit 0 = true →
    s.dev.on (R.LOCK .lg) g = false → s.dev.drain g = none → (∀ r < 16, (s.dev.region g false r).bad = false) →
    Completes (.lgCommit req g v n) s (fun p d => p = s.perm ∧ d.drain g = some ⟨[], false⟩ ∧
      (∀ k, k ≠ g.val → d.drain k = s.dev.drain k) ∧ { s.dev with gates := d.gates, regs := d.regs } = d ∧
      ∀ key, key ≠ R.LG_DRAIN_INFLIGHT.key g 0 → Tab.look d.regs.vals key = Tab.look s.dev.regs.vals key)) ∧
  (∀ (s : State) (req : Requester) (g : Fin 40) (v : Word) (n : BitVec 16), v.toNat.testBit 0 = true →
    s.dev.on (R.LOCK .lg) g = false → (s.dev.drain g).isSome = true →
    Completes (.lgCommit req g v n) s (fun p d => p = s.perm ∧ d = s.dev.err .lg g req .policyDenied)) ∧
  (∀ (s : State) (req : Requester) (g : Fin 40) (v : Word) (n : BitVec 16) (r : Nat), v.toNat.testBit 0 = true →
    s.dev.on (R.LOCK .lg) g = false → s.dev.drain g = none → r < 16 → (s.dev.region g false r).bad = true →
    Completes (.lgCommit req g v n) s (fun p d => p = s.perm ∧ d = s.dev.err .lg g req .inputRange)) ∧
  (∀ (s : State) (g : Fin 40) (clocks stamp : Nat) (late : Bool), s.dev.drain g = some ⟨[], late⟩ →
    s.dev.inflightAt g = 0 →
    Completes (.drainEnd g clocks stamp) s (fun p d => p = s.perm ∧ d.drain g = none ∧
      (∀ r < 16, ∀ e ∈ regionFields, d.get e.2 g r = s.dev.get e.1 g r % e.2.bound) ∧
      d.get R.LG_DRAIN_INFLIGHT g = 0 ∧ d.get R.LG_DRAIN_TIME g = clocks % R.LG_DRAIN_TIME.bound ∧
      d.get R.LG_COMMIT_LAST g = (if late then 2 else 1) ∧
      d.get (R.EPOCH .lg) g = (s.dev.get (R.EPOCH .lg) g + 1) % (R.EPOCH .lg).bound ∧
      Dev.Reported (fun key => key / 0x20000000 = Blk.lg.page g) { s.dev with gates := d.gates } d)) ∧
  (∀ (s : State) (g : Fin 40) (held : List Access), s.dev.drain g = some ⟨held, false⟩ →
    Completes (.gateDrainTimeout g) s (fun p d => p = s.perm ∧ d.drain g = some ⟨[], true⟩ ∧
      d.get R.LG_DRAIN_TIMEOUTS g = min (R.LG_DRAIN_TIMEOUTS.bound - 1) (s.dev.get R.LG_DRAIN_TIMEOUTS g + 1) ∧
      ({ s.dev with gates := d.gates, wires := d.wires, free := d.free }).SameWork d))

/-- R469, R470, R473. -/
def Obligations.GateRefusalsChangeNoTarget : Prop :=
  (∀ (s : State) (h : Header) (op : AccessOp) (payload : Bytes) (size : Nat) (isl : Island) (x : Option Xing) (u : FlitUnit)
      (quads : List (Fin 4)) (stamp g : Nat), h.access = some op → h.origin ≠ .debug → (size ≠ 8 ∨ h.addr % 8 ≠ 0) →
    let a : Access := ⟨op, h.addr, size, payload, ⟨h.origin, h.bay, isl⟩, h.src, h.dst,
      if op = .posted then .none else .requester, none, none⟩
    let d0 := s.dev.countFlits quads h.len
    gateOf h.addr = some g → d0.drain g = none → (d0.gateDecide s.perm g a).1 ≠ 0 →
    Completes (.mortarMessage h payload size isl none x u quads stamp) s (fun p d => p = s.perm ∧
      (op ≠ .posted → ∃ sent data, d.outbox = sent ++ [.answer ⟨h.origin, h.bay, isl⟩ h.addr ⟨.policyDenied, data⟩] ∧
        (op ≠ .write → data = 2 ^ (8 * size) - 1)) ∧
      s.dev.SameWork d ∧ s.dev.SameFace d ∧
      s.dev.SameRegs d (fun key => markKey key ∨ key / 0x20000000 = Blk.lg.page g ∨ key / 0x20000000 = Blk.bw.page h.bay ∨
        key / 0x20000000 = Blk.by.page h.bay))) ∧
  (∀ (s : State) (h : Header) (op : AccessOp) (payload : Bytes) (size : Nat) (isl : Island) (x : Option Xing) (u : FlitUnit)
      (quads : List (Fin 4)) (stamp g : Nat) (held : List Access), h.access = some op → (size ≠ 8 ∨ h.addr % 8 ≠ 0) →
    let a : Access := ⟨op, h.addr, size, payload, ⟨h.origin, h.bay, isl⟩, h.src, h.dst,
      if op = .posted then .none else .requester, none, none⟩
    let d0 := s.dev.countFlits quads h.len
    gateOf h.addr = some g → d0.drain g = some ⟨held, false⟩ →
    Completes (.mortarMessage h payload size isl none x u quads stamp) s (fun p d => p = s.perm ∧
      d = { d0 with gates := Tab.put d0.gates g ⟨held ++ [a], false⟩ }))

/-- R51 to R57, R72, R351, R366, R367. Which check refuses is the model's order of R51 and R52. -/
def Obligations.RequestsAreAdmittedFromSessionsAndRings : Prop :=
  ((∀ (s : State) (h : FrameHdr) (f : ReqFrag) (c : Session) (l : List Tlv),
    Tab.look s.dev.face.sessions h.session = some c → h.pid = c.pid → s.dev.bound c.pid = some c.target → c.target < 256 →
    (s.dev.partials h.session).find? (fun q => q.reqId == f.reqId) = none → f.ok = true → f.fragCount = 1 →
    f.data.length = f.tlvLen → parseTlvs (f.data.length + 1) f.data = some l →
    s.dev.admitFault s.perm.lcState (s.dev.workLevel s.perm.level) c.target f.func f.deadline (some l) = none →
    s.dev.queueRoom c.target = true →
    Completes (.requestFragment h f) s (fun p d => p = s.perm ∧
      (∃ r : Request, d.queue c.target = s.dev.queue c.target ++ [r] ∧ r.via = .session h.session h.src ∧
        r.reqId = f.reqId ∧ r.bay = c.target ∧ r.func = f.func ∧ r.tlvs = l ∧ r.gen = s.dev.get R.BY_GEN_GEN c.target ∧
        r.deadline = s.dev.sched.time + 64 * (if f.deadline = 0 then s.dev.get R.BY_DEADLINE c.target else f.deadline) ∧
        r.entryGen = s.dev.entryGen c.target r.entry ∧ r.entry ∉ s.dev.entriesUsed c.target) ∧
      (∀ b, b ≠ c.target → d.queue b = s.dev.queue b) ∧
      { s.dev with
        sched := { s.dev.sched with queues := d.sched.queues }
        log := { s.dev.log with acc := d.log.acc }
        regs := d.regs } = d ∧
      ∀ key, key ≠ R.BY_CNT.key c.target 4 → Tab.look d.regs.vals key = Tab.look s.dev.regs.vals key)) ∧
  (∀ (s : State) (h : FrameHdr) (f : ReqFrag) (c : Session) (st : Status),
    Tab.look s.dev.face.sessions h.session = some c → h.pid = c.pid → s.dev.bound c.pid = some c.target → c.target < 256 →
    c.sent + 1 < 2 ^ 64 → (s.dev.partials h.session).find? (fun q => q.reqId == f.reqId) = none → f.ok = true →
    f.fragCount = 1 → f.data.length = f.tlvLen →
    (s.dev.admitFault s.perm.lcState (s.dev.workLevel s.perm.level) c.target f.func f.deadline
        (parseTlvs (f.data.length + 1) f.data) = some st ∨
      s.dev.admitFault s.perm.lcState (s.dev.workLevel s.perm.level) c.target f.func f.deadline
        (parseTlvs (f.data.length + 1) f.data) = none ∧ s.dev.queueRoom c.target = false ∧ st = .queueFull) → st ≠ .ok →
    Completes (.requestFragment h f) s (fun p d => p = s.perm ∧ d.sched = s.dev.sched ∧
      .response h.src h.session (c.sent + 1) f.reqId st [] ∈ d.outbox ∧ s.dev.SameWork d)) ∧
  (∀ (s : State) (h : FrameHdr) (f : ReqFrag) (c : Session), Tab.look s.dev.face.sessions h.session = some c →
    (s.dev.partials h.session).find? (fun q => q.reqId == f.reqId) = none → f.ok = true → 1 < f.fragCount →
    ((s.dev.partials h.session).filter (fun q => !q.ended)).length < 64 →
    Completes (.requestFragment h f) s (fun p d => p = s.perm ∧ { s.dev with face := d.face } = d ∧
      d.partials h.session = s.dev.partials h.session ++
        [⟨f.reqId, f.func, f.fragCount, f.deadline, f.tlvLen, h.pid, [(f.frag, f.data)], false⟩])) ∧
  (∀ (s : State) (h : FrameHdr) (reqId : Nat) (c : Session) (q : Partial),
    Tab.look s.dev.face.sessions h.session = some c → (s.dev.partials h.session).find? (fun x => x.reqId == reqId) = some q →
    q.ended = false → c.target < 256 → c.sent + 1 < 2 ^ 64 →
    Completes (.requestReassemblyTimeout h reqId) s (fun p d => p = s.perm ∧ s.dev.SameWork d ∧
      d.partials h.session = (s.dev.partials h.session).filter (fun x => x.reqId ≠ reqId) ∧
      .response h.src h.session (c.sent + 1) reqId .reassembly [] ∈ d.outbox))) ∧
  ((∀ (s : State) (o : Fin 256) (ring : Fin 4) (reqId func deadline tlvLen outAddr outLen : Nat) (tlvs : Bytes) (l : List Tlv),
    let x : HostDesc := .func reqId func deadline tlvLen outAddr outLen true tlvs
    s.dev.mayFetch o ring = true → s.dev.on R.HQ_CFG_KIND o ring = false →
    (s.dev.on R.HF_IDE_CTL = false ∨ s.dev.secureStream = true) → s.dev.bound (s.dev.get R.HQ_PASID o ring) = some o.val →
    tlvLen = tlvs.length → tlvLen ≤ 61440 → parseTlvs (tlvs.length + 1) tlvs = some l →
    s.dev.admitFault s.perm.lcState (s.dev.workLevel s.perm.level) o func deadline (some l) = none →
    s.dev.queueRoom o = true →
    Completes (.descriptorFetch ⟨o.val, by omega⟩ ring x) s (fun p d => p = s.perm ∧
      (∃ r : Request, d.queue o = s.dev.queue o ++ [r] ∧ r.via = .ring o ring (s.dev.hostRing o ring).epoch outAddr outLen ∧
        r.reqId = reqId ∧ r.bay = o.val ∧ r.func = func ∧ r.tlvs = l ∧ r.gen = s.dev.get R.BY_GEN_GEN o ∧
        r.deadline = s.dev.sched.time + 64 * (if deadline = 0 then s.dev.get R.BY_DEADLINE o else deadline)) ∧
      (∀ b, b ≠ o.val → d.queue b = s.dev.queue b) ∧
      d.get R.HQ_HEAD o ring =
        (s.dev.get R.HQ_HEAD o ring + 1) % 2 ^ s.dev.get R.HQ_CFG_LOG2_SIZE o ring % R.HQ_HEAD.bound ∧
      d.hostRing o ring = { s.dev.hostRing o ring with inflight := (s.dev.hostRing o ring).inflight + 1 } ∧
      ({ s.dev with sched := { s.dev.sched with queues := d.sched.queues } }).SameWork d)) ∧
  (∀ (s : State) (o : Fin 257) (ring : Fin 4) (x : HostDesc) (t : Nat), s.dev.mayFetch o ring = true →
    (match x with | .bulk .. => true | .func .. => false) = s.dev.on R.HQ_CFG_KIND o ring →
    (s.dev.on R.HF_IDE_CTL = false ∨ s.dev.secureStream = true) → s.dev.bound (s.dev.get R.HQ_PASID o ring) = some t →
    t ≠ o.val →
    Completes (.descriptorFetch o ring x) s (fun p d => p = s.perm ∧ d.on R.HQ_STATUS_HALTED o ring = true ∧
      d.get R.HQ_HEAD o ring = s.dev.get R.HQ_HEAD o ring ∧ s.dev.SameWork d ∧ s.dev.SameFace d)) ∧
  (∀ (s : State) (o : Fin 257) (ring : Fin 4) (x : HostDesc), s.dev.mayFetch o ring = false →
    Completes (.descriptorFetch o ring x) s (fun p d => p = s.perm ∧ d = s.dev)))

/-- R59, R74. The states of the cycle clauses have no other work, so that each step shows. -/
def Obligations.CyclesRunAndRequestsExpire : Prop :=
  ((∀ s : State, s.dev.sched.time % 512 ≠ 0 → s.dev.sched.presented = [] → s.dev.sched.failures = [] →
    s.dev.sched.queues = [] → s.dev.sched.ctxs = [] → s.dev.sched.resetDue = [] → s.dev.eng.bulkWait = [] →
    s.dev.workLevel s.perm.level < 2 →
    Completes .schedulerCycle s (fun p d => p = s.perm ∧
      { s.dev with
        sched := { s.dev.sched with time := s.dev.sched.time + 1 }
        log := { s.dev.log with acc := d.log.acc }
        regs := d.regs } = d ∧
      ∀ key, (∀ b, key ≠ R.BY_CNT.key b 2) → Tab.look d.regs.vals key = Tab.look s.dev.regs.vals key)) ∧
  (∀ (s : State) (b : Nat) (r : Request) (c : Nat), s.dev.sched.time % 512 ≠ 0 → s.dev.sched.presented = [] →
    s.dev.sched.failures = [] → s.dev.sched.queues = [(b, [r])] → s.dev.sched.ctxs = [] → s.dev.sched.resetDue = [] →
    s.dev.eng.bulkWait = [] → s.dev.workLevel s.perm.level < 2 → b < 256 →
    s.dev.sched.owners.getD (2 * (s.dev.sched.time % 512)) 256 = b → s.dev.sched.time < r.deadline →
    s.dev.on (R.CTRL_ENABLE .by) b = true → s.dev.on R.STATUS_RESETTING b = false → s.dev.pinAbsent b = false →
    (guardedFunc r.func && s.dev.govShut b) = false → 0 < s.dev.eff R.BY_CTX_MAX b →
    s.dev.pickCtx (s.dev.runGroups b r.func) = some c → s.dev.floorLocked (ctxGroup c) r.func = false →
    Completes .schedulerCycle s (fun p d => p = s.perm ∧ d.queue b = [] ∧ (d.ctx c).req = some r ∧
      (d.ctx c).state = .running ∧ (d.ctx c).owned = true ∧ d.sched.time = s.dev.sched.time + 1)) ∧
  (∀ (s : State) (x : Completion) (y : Ctx) (c : Session) (id : Nat) (src : Client), s.dev.sched.time % 512 ≠ 0 →
    s.dev.sched.presented = [x] → s.dev.sched.failures = [] → s.dev.sched.queues = [] → s.dev.sched.ctxs = [(x.ctx, y)] →
    s.dev.sched.resetDue = [] → s.dev.eng.bulkWait = [] → s.dev.workLevel s.perm.level < 2 → y.req = some x.req →
    s.dev.entryGen x.req.bay x.req.entry = x.req.entryGen → s.dev.get R.BY_GEN_GEN x.req.bay = x.req.gen →
    x.req.via = .session id src → Tab.look s.dev.face.sessions id = some c → c.sent + 100000 < 2 ^ 64 →
    (encodeTlvs x.out).length ≤ 61440 →
    Completes .schedulerCycle s (fun p d => p = s.perm ∧
      .response src id (c.sent + 1) x.req.reqId x.status (if x.status = .ok then x.out else []) ∈ d.outbox ∧
      d.entryGen x.req.bay x.req.entry = (x.req.entryGen + 1) % 256 ∧ (d.ctx x.ctx).req = none ∧
      d.sched.presented = []))) ∧
  ((∀ s : State, (∀ e ∈ s.dev.sched.queues, ∀ r ∈ e.2, s.dev.sched.time < r.deadline) →
    (∀ e ∈ s.dev.sched.ctxs, ∀ r, e.2.req = some r → s.dev.sched.time < r.deadline) →
    Completes .requestExpire s (fun p d => p = s.perm ∧ d = s.dev)) ∧
  (∀ (s : State) (r : Request) (c : Session) (id : Nat) (src : Client),
    (s.dev.sched.queues.flatMap (·.2)).filter (fun q => q.deadline ≤ s.dev.sched.time) = [r] →
    (∀ e ∈ s.dev.sched.ctxs, ∀ q, e.2.req = some q → s.dev.sched.time < q.deadline) →
    r.via = .session id src → Tab.look s.dev.face.sessions id = some c → c.sent + 1 < 2 ^ 64 →
    Completes .requestExpire s (fun p d => p = s.perm ∧ d.queue r.bay = (s.dev.queue r.bay).filter (· ≠ r) ∧
      (∀ b, b ≠ r.bay → d.queue b = s.dev.queue b) ∧ d.outbox = s.dev.outbox ++ [.response src id (c.sent + 1) r.reqId .expired []] ∧
      d.entryGen r.bay r.entry = (s.dev.entryGen r.bay r.entry + 1) % 256 ∧
      d.get R.SC_EXPIRED = min (R.SC_EXPIRED.bound - 1) (s.dev.get R.SC_EXPIRED + 1) ∧
      ({ s.dev with sched := d.sched }).SameWork d)) ∧
  (∀ (s : State) (r : Request) (k : Nat) (x : Ctx) (c : Session) (id : Nat) (src : Client),
    (∀ e ∈ s.dev.sched.queues, ∀ q ∈ e.2, s.dev.sched.time < q.deadline) → s.dev.sched.ctxs = [(k, x)] → x.req = some r →
    r.deadline ≤ s.dev.sched.time → r.via = .session id src → Tab.look s.dev.face.sessions id = some c → c.sent + 1 < 2 ^ 64 →
    Completes .requestExpire s (fun p d => p = s.perm ∧ (d.ctx k).req = none ∧ (d.ctx k).lanes = [] ∧ (d.ctx k).regs = [] ∧
      .response src id (c.sent + 1) r.reqId .expired [] ∈ d.outbox ∧
      d.get R.SC_EXPIRED = min (R.SC_EXPIRED.bound - 1) (s.dev.get R.SC_EXPIRED + 1))))

/-- R60: the stride procedure gives each owner exactly its credit. -/
def Obligations.CoursesFollowTheShares : Prop :=
  (∀ s : State, s.dev.sched.time % 512 = 0 → s.dev.sched.courseDone ≠ some s.dev.sched.time →
    Completes .courseBoundary s (fun p d => p = s.perm ∧ d.regs.staged = [] ∧
      (∀ (f : Fld) (i k : Nat), d.eff f i k =
        if f.key i k ∈ s.dev.regs.staged then s.dev.get f i k else s.dev.eff f i k) ∧
      d.sched.courseDone = some s.dev.sched.time ∧
      d.get R.SC_COURSE = (s.dev.get R.SC_COURSE + 1) % R.SC_COURSE.bound ∧
      { s.dev with
        regs := d.regs
        sched := { s.dev.sched with owners := d.sched.owners, groupNext := [], courseDone := d.sched.courseDone }
        keys := { s.dev.keys with floorNext := none } } = d ∧
      (((List.range 256).map (fun b => d.get R.BY_SHARE_EFFECTIVE b)).sum ≤ 1024 →
        d.sched.owners.length = 1024 ∧ ∀ b < 256, d.sched.owners.count b = d.get R.BY_SHARE_EFFECTIVE b))) ∧
  (∀ s : State, s.dev.sched.time % 512 ≠ 0 ∨ s.dev.sched.courseDone = some s.dev.sched.time →
    Completes .courseBoundary s (fun p d => p = s.perm ∧ d = s.dev))

/-- R88: no other enabled group holds the version. -/
def Obligations.PinnedGroupsStayEnabled : Prop :=
  ∀ (s : State) (req : Requester) (g : Fin 16) (v : Word) (i : Image) (b : Nat), v.toNat.testBit 16 = false →
    s.dev.on R.SC_GROUP_DISPATCH_EN 0 g = true → Tab.look s.dev.sched.progs g = some i → b < 256 →
    s.dev.pins b i.version = true →
    (∀ h < 16, h ≠ g.val → s.dev.on R.SC_GROUP_DISPATCH_EN 0 h = true → s.dev.groupVersion h ≠ some i.version) →
    Completes (.scGroupDispatchWrite req g v) s (fun p d => p = s.perm ∧ d.on R.SC_GROUP_DISPATCH_EN 0 g = true ∧
      d.get (R.ERR_CODE .sc) = Status.policyDenied.code ∧ Dev.Reported reportKey s.dev d)

/-- R83, R89, R93. -/
def Obligations.GroupsAndStagedRegisters : Prop :=
  (∀ (s : State) (req : Requester) (g : Fin 16) (v : Word), v.toNat.testBit 16 = true →
    s.dev.on R.SC_GROUP_DISPATCH_EN 0 g = false → (s.dev.groupVersion g).isSome = true →
    Completes (.scGroupDispatchWrite req g v) s (fun p d => p = s.perm ∧ d.on R.SC_GROUP_DISPATCH_EN 0 g = true ∧
      { s.dev with regs := d.regs, sched := { s.dev.sched with groupNext := s.dev.sched.groupNext ++ [g.val] } } = d ∧
      ∀ key, key ≠ R.SC_GROUP_DISPATCH_EN.key 0 g →
        Tab.look d.regs.vals key = Tab.look s.dev.regs.vals key)) ∧
  (∀ (s : State) (req : Requester) (g : Fin 16) (v : Word), v.toNat.testBit 16 = false →
    s.dev.on R.SC_GROUP_DISPATCH_EN 0 g = true → s.dev.lastPinned g = false →
    Completes (.scGroupDispatchWrite req g v) s (fun p d => p = s.perm ∧ d.on R.SC_GROUP_DISPATCH_EN 0 g = false ∧
      (s.dev.groupEmpty g = true → (d.get (R.INT_RAW .sc)).testBit 2 = true) ∧
      ({ s.dev with sched := { s.dev.sched with groupNext := s.dev.sched.groupNext.filter (· ≠ g.val) } }).SameWork d)) ∧
  (∀ (s : State) (g : Fin 16) (i : Image), s.dev.on R.SC_GROUP_DISPATCH_EN 0 g = false → s.dev.groupEmpty g = true →
    Completes (.programImageLoad g i true) s (fun p d => p = s.perm ∧ Tab.look d.sched.progs g = some i ∧
      d.get R.SC_GROUP_VERSION 0 g = i.version % R.SC_GROUP_VERSION.bound ∧
      (∀ h, h ≠ g.val → Tab.look d.sched.progs h = Tab.look s.dev.sched.progs h) ∧
      { s.dev with regs := d.regs, sched := { s.dev.sched with progs := d.sched.progs } } = d)) ∧
  (∀ (s : State) (g : Fin 16) (i : Image), s.dev.on R.SC_GROUP_DISPATCH_EN 0 g = false → s.dev.groupEmpty g = true →
    Completes (.programImageLoad g i false) s (fun p d => p = s.perm ∧ Tab.look d.sched.progs g = none ∧
      d.on R.SC_GROUP_DISPATCH_EN 0 g = false ∧
      ∃ e, d = Dev.mark e .progIntegrity .corbel 0 g i.version)) ∧
  (∀ (s : State) (v : Word), Completes (.scModeWrite v) s (fun p d => p = s.perm ∧ d.get R.SC_MODE = v.toNat % 2 ∧
    d.regs.eff = s.dev.regs.eff ∧ R.SC_MODE.key 0 0 ∈ d.regs.staged ∧ { s.dev with regs := d.regs } = d)) ∧
  (∀ (s : State) (req : Requester) (v : Word), v.toNat % 256 ≤ 128 →
    Completes (.scCoreSplitWrite req v) s (fun p d => p = s.perm ∧
      d.get R.SC_CORE_SPLIT_PAY_CORES = v.toNat % 256 ∧
      d.get R.SC_CORE_SPLIT_PAY_BORROW = v.toNat / 2 ^ 16 % 2 ∧ d.regs.eff = s.dev.regs.eff ∧
      R.SC_CORE_SPLIT_PAY_CORES.key 0 0 ∈ d.regs.staged ∧ { s.dev with regs := d.regs } = d)) ∧
  (∀ (s : State) (req : Requester) (v : Word), 128 < v.toNat % 256 →
    Completes (.scCoreSplitWrite req v) s (fun p d => p = s.perm ∧ d = s.dev.err .sc 0 req .inputRange)) ∧
  (∀ (s : State) (v : Word), Completes (.scPinDataWrite v) s (fun p d => p = s.perm ∧
    d.get R.SC_PIN_DATA_VERSION 0 (s.dev.get R.SC_PIN_INDEX) = v.toNat % 2 ^ 16 ∧
    d.get R.SC_PIN_DATA_PINNED 0 (s.dev.get R.SC_PIN_INDEX) = v.toNat / 2 ^ 16 % 2 ∧
    d.regs.eff = s.dev.regs.eff ∧ { s.dev with regs := d.regs } = d))

/-- R69, row by row, over every operation, usage and mode of use. -/
def Obligations.SteeringKeepsSecrets : Prop :=
  ∀ (u : Usage) (m : Option ModeOfUse) (session : Bool) (op : CipherOp) (dest : Dest), cipherDest u m session op = some dest →
    match dest with
    | .reg _ => (op.kind = .wrap ∧ (u = .k0 ∨ u = .k1)) ∨ (u = .d0 ∧ (op.kind = .encrypt ∨ op.kind = .decrypt)) ∨
        (u = .p0 ∧ op.kind = .encrypt ∧ op.src = .pinUnit) ∨ ∃ n, op.kind = .mac n
    | .buf _ => (op.kind = .wrap ∧ (u = .k0 ∨ u = .k1)) ∨ (u = .d0 ∧ (op.kind = .encrypt ∨ op.kind = .decrypt))
    | .lane _ _ _ _ => (∃ v a, op.kind = .derive v a ∧ u.derives = true ∧ session = false) ∨
        (op.kind = .unwrap ∧ (u = .k0 ∨ u = .k1))
    | .pinLane => op.kind = .decrypt ∧ u = .p0
    | .pinRef => (op.kind = .encrypt ∧ (u = .v1 ∨ u = .v2)) ∨ (u = .c0 ∧ ∃ n, op.kind = .cvv n)
    | .none => ∃ t, op.kind = .macVerify t
    | .secret _ => False

/-- R68 to R70. The operand forms are log entry 14. -/
def Obligations.MicroopsReachTheirUnits : Prop :=
  (∀ (s : State) (c : Fin 512) (op : CipherOp) (r : Request) (u : Usage) (a : Alg) (m : Option ModeOfUse) (val : Bytes)
      (session : Bool) (d1 : Dev) (dest : Dest),
    s.dev.Runs c r → op.fits = true → s.dev.microKey c r op.key = (.key u a m val session, d1) →
    (cipherDest u m session op).bind (unwrapDest (s.dev.ctx c) op) = some dest → op.mode ≠ .hmac256 → op.mode ≠ .hmac512 →
    Completes (.microopCipher c op) s (fun p d => p = s.perm ∧
      (∃ j : Job, d.eng = { s.dev.eng with ashWait := s.dev.eng.ashWait ++ [j] } ∧ j.bay = r.bay ∧ j.gen = r.gen ∧
        j.req = some r ∧ j.ctx = c ∧ j.dest = dest ∧ (j.status, j.out) = cipherResult (s.dev.ctx c) op a val ∧
        j.finish = .token) ∧
      (d.ctx c).outstanding = (s.dev.ctx c).outstanding + 1 ∧ (d.ctx c).state = .waiting ∧ (d.ctx c).req = some r ∧
      (∀ k, k ≠ c.val → d.ctx k = s.dev.ctx k) ∧
      ({ s.dev with sched := d.sched, eng := d.eng, keys := d.keys }).SameWork d ∧ d.outbox = s.dev.outbox)) ∧
  (∀ (s : State) (c : Fin 512) (op : CipherOp) (r : Request) (u : Usage) (a : Alg) (m : Option ModeOfUse) (val : Bytes)
      (session : Bool) (d1 : Dev) (dest : Dest) (h : Nat),
    s.dev.Runs c r → op.fits = true → s.dev.microKey c r op.key = (.key u a m val session, d1) →
    (cipherDest u m session op).bind (unwrapDest (s.dev.ctx c) op) = some dest → op.mode = .hmac256 ∨ op.mode = .hmac512 →
    s.dev.workLevel s.perm.level < 2 → s.dev.eng.hashWait = [] → h < 16 → s.dev.hashUsable h = true →
    (s.dev.hash h).isIdle = true →
    Completes (.microopCipher c op) s (fun p d => p = s.perm ∧ d.eng.hashWait = [] ∧
      (∃ (k : Nat) (j : Job), (d.hash k).curJob = some j ∧ (s.dev.hash k).isIdle = true ∧ j.req = some r ∧ j.dest = dest ∧
        (j.status, j.out) = cipherResult (s.dev.ctx c) op a val) ∧
      (d.ctx c).outstanding = (s.dev.ctx c).outstanding + 1)) ∧
  (∀ (s : State) (c : Fin 512) (op : CipherOp) (r : Request) (st : Status), s.dev.Runs c r →
    (op.fits = false ∧ st = .inputRange ∨ op.fits = true ∧ (s.dev.microKey c r op.key).1 = .refused st ∨
      op.fits = true ∧ st = .keyUsage ∧ ∃ u a m val session, (s.dev.microKey c r op.key).1 = .key u a m val session ∧
        (cipherDest u m session op).bind (unwrapDest (s.dev.ctx c) op) = none) →
    Completes (.microopCipher c op) s (fun p d => p = s.perm ∧
      d.eng = { s.dev.eng with tokens := s.dev.eng.tokens ++ [⟨c, some r, st⟩] } ∧
      (d.ctx c).outstanding = (s.dev.ctx c).outstanding + 1 ∧ (d.ctx c).req = some r)) ∧
  (∀ (s : State) (c : Fin 512) (f : HashFn) (src : Src) (dest : MicroDest) (n h : Nat) (r : Request) (out : Bytes),
    s.dev.Runs c r → src.plain = true → src.fits = true → runHash f ((s.dev.ctx c).read src) = some out →
    dest = .reg n ∨ dest = .buf n → s.dev.workLevel s.perm.level < 2 → s.dev.eng.hashWait = [] → h < 16 →
    s.dev.hashUsable h = true → (s.dev.hash h).isIdle = true →
    Completes (.microopHash c f src dest) s (fun p d => p = s.perm ∧ d.eng.hashWait = [] ∧
      (∃ (k : Nat) (j : Job), k < 16 ∧ (d.hash k).curJob = some j ∧ (d.hash k).cur = j.lock 1 ∧
        (s.dev.hash k).isIdle = true ∧ j.req = some r ∧ j.ctx = c ∧ j.out = out ∧ j.status = .ok ∧
        j.dest = (if dest = .reg n then .reg n else .buf n) ∧ ∀ i, i ≠ k → d.hash i = s.dev.hash i) ∧
      (d.ctx c).outstanding = (s.dev.ctx c).outstanding + 1 ∧ (∀ k, k ≠ c.val → d.ctx k = s.dev.ctx k) ∧
      { s.dev with eng := d.eng, sched := { s.dev.sched with ctxs := d.sched.ctxs } } = d)) ∧
  (∀ (s : State) (c : Fin 512) (f : HashFn) (src : Src) (dest : MicroDest) (r : Request), s.dev.Runs c r → src.plain = false →
    Completes (.microopHash c f src dest) s (fun p d => p = s.perm ∧
      d.eng = { s.dev.eng with tokens := s.dev.eng.tokens ++ [⟨c, some r, .keyUsage⟩] })) ∧
  (∀ (s : State) (c : Fin 512) (op : PinOp) (dest : Fin 32) (r : Request), s.dev.Runs c r → s.dev.eng.pinWait = [] →
    s.dev.on R.RN_STATUS_FAIL = false →
    (match op with
      | .verifyPvv _ | .pvv | .cvv _ | .verifyCvv _ => True
      | .translate fi fo => ∃ i o, formatIndex fi = some i ∧ formatIndex fo = some o ∧ (s.dev.ctx c).permits i o = true
      | .pvvData _ pan k => panOk (asciiDigits ((s.dev.ctx c).read pan)) = true ∧ k ≤ 6
      | .generate n fo => (s.dev.ctx c).pinMin ≤ n ∧ n ≤ (s.dev.ctx c).pinMax ∧ formatIndex fo ≠ none
      | .verifyOffset _ _ h _ | .offset _ _ h => ∃ o d1, s.dev.pinTable c r h = (.keys [o], d1)) →
    (∃ l < 24, Tab.look s.dev.eng.pinLanes l = none) →
    Completes (.microopPin c op dest) s (fun p d => p = s.perm ∧ d.eng.pinWait = [] ∧
      (∃ (l : Nat) (j : Job), l < 24 ∧ Tab.look s.dev.eng.pinLanes l = none ∧
        (∀ k < l, Tab.look s.dev.eng.pinLanes k ≠ none) ∧ d.eng = { s.dev.eng with
          pinLanes := Tab.put s.dev.eng.pinLanes l j } ∧ j.req = some r ∧ j.ctx = c ∧ j.clocks = pinStepClocks op.func ∧
        (match op with
          | .pvv => j.status = .ok ∧ j.out = digitsAscii (decimalize ((s.dev.ctx c).pinRef.getD []) 4) ∧ j.dest = .reg dest
          | .cvv n => j.status = .ok ∧ j.out = ((s.dev.ctx c).pinRef.getD []).take n ∧ j.dest = .reg dest
          | .offset _ _ _ => j.dest = .reg dest
          | .translate _ _ | .pvvData _ _ _ | .generate _ _ => j.dest = .pinLane
          | .verifyOffset _ _ _ _ | .verifyPvv _ | .verifyCvv _ => j.dest = .none ∧ j.out = [])) ∧
      (d.ctx c).outstanding = (s.dev.ctx c).outstanding + 1 ∧ (d.ctx c).req = some r ∧
      (∀ k, k ≠ c.val → d.ctx k = s.dev.ctx k) ∧
      ({ s.dev with sched := d.sched, eng := d.eng, keys := d.keys, free := d.free }).SameWork d))

/-- R68. Drawn bytes are free values (log entry 6); the derivation's bytes are log entry 14. -/
def Obligations.MicroopsOnKeysAndTheVault : Prop :=
  (∀ (s : State) (c : Fin 512) (h : Nat) (r : Request) (l : List Obj) (d1 : Dev), s.dev.Runs c r →
    s.dev.handleFault r.bay h = none → s.dev.cacheBusy r.bay [h] = false → s.dev.cached r.bay h = true →
    s.dev.loadHandle c r h = (.keys l, d1) →
    Completes (.microopKey c (.load h)) s (fun p d => p = s.perm ∧
      d.eng = { s.dev.eng with tokens := s.dev.eng.tokens ++ [⟨c, some r, .ok⟩] } ∧ d.keys = d1.keys ∧
      (d.ctx c).outstanding = (s.dev.ctx c).outstanding + 1 ∧ (d.ctx c).handles = (d1.ctx c).handles)) ∧
  (∀ (s : State) (c : Fin 512) (h : Nat) (r : Request) (i : Instr), s.dev.Runs c r →
    i = .microopKey c (.load h) ∨ i = .microopKey c (.unwrap h) ∨ i = .microopVault c (.read h) →
    s.dev.handleFault r.bay h = none → s.dev.cacheBusy r.bay [h] = false → s.dev.cached r.bay h = false →
    Completes i s (fun p d => p = s.perm ∧
      { s.dev with
        keys := { s.dev.keys with fills := s.dev.keys.fills ++ [⟨c, some r, r.bay, h⟩] }
        sched := { s.dev.sched with ctxs := d.sched.ctxs } } = d ∧
      (d.ctx c).outstanding = (s.dev.ctx c).outstanding + 1 ∧ ∀ k, k ≠ c.val → d.ctx k = s.dev.ctx k)) ∧
  (∀ (s : State) (c : Fin 512) (h : Nat) (r : Request) (i : Instr) (st : Status), s.dev.Runs c r →
    i = .microopKey c (.load h) ∨ i = .microopKey c (.unwrap h) ∨ i = .microopVault c (.read h) →
    s.dev.handleFault r.bay h = some st →
    Completes i s (fun p d => p = s.perm ∧
      d.eng = { s.dev.eng with tokens := s.dev.eng.tokens ++ [⟨c, some r, st⟩] } ∧ d.keys = s.dev.keys)) ∧
  (∀ (s : State) (c : Fin 512) (lane len n slot : Nat) (a : Attrs) (r : Request) (l : Lane), s.dev.Runs c r →
    Tab.look (s.dev.ctx c).lanes lane = some l → l.secret = true → a.type = .symmetric → algLen a.alg n = true →
    (s.dev.ctx c).handles.length < 8 → s.dev.nextSlot r.bay = some slot →
    s.dev.sessionRoom r.bay (s.dev.newObj a (derivedKey ((s.dev.ctx c).read (.lane lane len)) n)).entries = true →
    Completes (.microopKey c (.derive lane len a n)) s (fun p d => p = s.perm ∧
      d.eng = { s.dev.eng with tokens := s.dev.eng.tokens ++ [⟨c, some r, .ok⟩] } ∧
      (∃ k, Tab.look d.keys.sess (sessIndex r.bay slot) = some k ∧ k.obj.attrs = a ∧
        k.obj.key = derivedKey ((s.dev.ctx c).read (.lane lane len)) n) ∧
      (∀ i, i ≠ sessIndex r.bay slot → Tab.look d.keys.sess i = Tab.look s.dev.keys.sess i) ∧
      (d.ctx c).handles = (s.dev.ctx c).handles ++
        [sessionHandle s.dev.plinth.powerSeq (s.dev.get R.BY_GEN_GEN r.bay) slot])) ∧
  (∀ (s : State) (n : Nat) (fromNand : Bool) (f : Fill) (o : Obj) (r : Request), s.dev.keys.fills[n]? = some f →
    s.dev.lookup f.bay f.handle = .key o → s.dev.loadFault o = none → f.req = some r → (s.dev.ctx f.ctx).req = some r →
    Completes (.keyCacheFill n fromNand) s (fun p d => p = s.perm ∧ d.cached f.bay f.handle = true ∧
      d.keys.fills = s.dev.keys.fills.eraseIdx n ∧ ({ s.dev with sched := d.sched, eng := d.eng, keys := d.keys }).SameWork d)) ∧
  (∀ (s : State) (n : Nat) (fromNand : Bool) (f : Fill) (o : Obj) (r : Request) (st : Status), s.dev.keys.fills[n]? = some f →
    s.dev.lookup f.bay f.handle = .key o → s.dev.loadFault o = some st → f.req = some r → (s.dev.ctx f.ctx).req = some r →
    Completes (.keyCacheFill n fromNand) s (fun p d => p = s.perm ∧
      { s.dev with
        keys := { s.dev.keys with fills := s.dev.keys.fills.eraseIdx n }
        eng := { s.dev.eng with tokens := s.dev.eng.tokens ++ [⟨f.ctx, some r, st⟩] }
        log := { s.dev.log with acc := d.log.acc } } = d)) ∧
  (∀ (s : State) (c : Fin 512) (first n : Nat) (r : Request), s.dev.Runs c r → s.dev.on R.RN_STATUS_FAIL = false →
    first + n ≤ 32 →
    Completes (.microopRand c (.regs first n)) s (fun p d => p = s.perm ∧
      d.eng = { s.dev.eng with tokens := s.dev.eng.tokens ++ [⟨c, some r, .ok⟩] } ∧ d.free = s.dev.free + 8 * n ∧
      (∀ i < n, Tab.get (d.ctx c).regs (first + i) 0 =
        BitVec.ofNat 64 (beNat ((List.range 8).map (fun j => Config.freeByte (s.dev.free + 8 * i + j))))) ∧
      ∀ k, (k < first ∨ first + n ≤ k) → Tab.look (d.ctx c).regs k = Tab.look (s.dev.ctx c).regs k)) ∧
  (∀ (s : State) (c : Fin 512) (n len : Nat) (u : Usage) (a : Alg) (r : Request), s.dev.Runs c r →
    s.dev.on R.RN_STATUS_FAIL = false → n + (len + 31) / 32 ≤ 64 → 0 < len →
    Completes (.microopRand c (.lane n len u a)) s (fun p d => p = s.perm ∧
      d.eng = { s.dev.eng with tokens := s.dev.eng.tokens ++ [⟨c, some r, .ok⟩] } ∧
      (d.ctx c).read (.lane n len) = (List.range len).map (fun i => Config.freeByte (s.dev.free + i)) ∧
      ∃ l, Tab.look (d.ctx c).lanes n = some l ∧ l.usage = u ∧ l.alg = a ∧ l.secret = false ∧ l.session = false)) ∧
  (∀ (s : State) (c : Fin 512) (n len dest num : Nat) (a : Attrs) (r : Request) (l : Lane), s.dev.Runs c r →
    Tab.look (s.dev.ctx c).lanes n = some l → s.dev.nextObject r.bay = some num → l.secret = false → l.usage = a.usage →
    l.alg = a.alg → a.type = .symmetric → algLen a.alg len = true →
    ((s.dev.ctx c).read (.lane n len)).length = len → (modesOf a.usage).contains a.mode = true → s.dev.rootPresent = true →
    s.dev.quotaRoom r.bay (s.dev.newObj a ((s.dev.ctx c).read (.lane n len))).quotaBytes = true →
    (s.dev.nonce (kekIndex r.bay)).ready = true → (s.dev.nonce (kekIndex r.bay)).exhausted = false →
    s.dev.on R.RN_STATUS_FAIL = false → dest < 32 →
    Completes (.microopVault c (.write n len a dest)) s (fun p d => p = s.perm ∧ d.eng = s.dev.eng ∧
      (∃ w : VaultWrite, d.keys.writes = s.dev.keys.writes ++ [w] ∧ w.bay = r.bay ∧ w.req = some r ∧ w.whole = false ∧
        w.item = .object num (s.dev.newObj a ((s.dev.ctx c).read (.lane n len)))) ∧
      Tab.get (d.ctx c).regs dest 0 = BitVec.ofNat 64 num ∧ d.keys.objs = s.dev.keys.objs ∧
      (d.nonce (kekIndex r.bay)).next = (s.dev.nonce (kekIndex r.bay)).next + 1))

/-- R68, R92, R237, R238, R259. -/
def Obligations.TokensReturnAndHashAndBulkRun : Prop :=
  ((∀ (s : State) (c : Fin 512), s.dev.eng.tokens.find? (fun t => t.ctx == c.val) = none →
    Completes (.microopCompletion c) s (fun p d => p = s.perm ∧ d = s.dev)) ∧
  (∀ (s : State) (c : Fin 512) (t : Token) (r : Request), s.dev.eng.tokens.find? (fun t => t.ctx == c.val) = some t →
    (s.dev.ctx c).req = some r →
    Completes (.microopCompletion c) s (fun p d => p = s.perm ∧ d.eng = { s.dev.eng with tokens := s.dev.eng.tokens.erase t } ∧
      (d.ctx c).last = t.status ∧ (d.ctx c).outstanding = (s.dev.ctx c).outstanding - 1 ∧ (d.ctx c).req = some r ∧
      (∀ k, k ≠ c.val → d.ctx k = s.dev.ctx k) ∧
      (if (t.status = .xingTimeout ∨ t.status = .engineFault ∨ t.status = .aborted) ∧ t.req = some r then
        d.sched.presented = s.dev.sched.presented ++ [⟨r, c, (s.dev.ctx c).owned, t.status, []⟩] ∧ (d.ctx c).state = .waiting
      else d.sched.presented = s.dev.sched.presented ∧
        ((s.dev.ctx c).outstanding ≤ 1 → (d.ctx c).state = .running)) ∧
      { s.dev with
        eng := d.eng
        sched := { s.dev.sched with ctxs := d.sched.ctxs, presented := d.sched.presented } } = d))) ∧
  ((∀ (s : State) (h : Fin 16) (j : Job), (s.dev.hash h).curJob = some j → s.dev.stopped 4 = false → s.dev.eng.hashWait = [] →
    Completes (.hashJobEnd h true) s (fun p d => p = s.perm ∧ d.hash h = Core.idle ∧
      (∀ k, k ≠ h.val → d.hash k = s.dev.hash k) ∧
      d.get R.HS_JOBS h = (s.dev.get R.HS_JOBS h + 1) % R.HS_JOBS.bound ∧
      (j.finish = .token → s.dev.jobHeld j = true →
        d.eng.tokens = s.dev.eng.tokens ++ [⟨j.ctx, j.req, j.status⟩] ∧
        (j.status = .ok → d.ctx j.ctx = (s.dev.ctx j.ctx).put false j.dest j.out)))) ∧
  (∀ (s : State) (h : Fin 16) (j : Job), (s.dev.hash h).curJob = some j → s.dev.stopped 4 = false → s.dev.eng.hashWait = [] →
    Completes (.hashJobEnd h false) s (fun p d => p = s.perm ∧ d.on R.HS_SERVICE_FAULTED h = true ∧
      (d.hash h).cur.state = 3 ∧ (d.hash h).curJob = none ∧
      (j.finish = .token → s.dev.jobHeld j = true → ⟨j.ctx, j.req, .wipeFault⟩ ∈ d.eng.tokens))) ∧
  (∀ (s : State) (h : Fin 16) (v : Word), Completes (.hsOfflineWrite h v) s (fun p d => p = s.perm ∧
      d.get R.HS_SERVICE_OFFLINE h = v.toNat % 2 ∧ s.dev.SameRegs d (fun key => key = R.HS_SERVICE_OFFLINE.key h 0) ∧
      { s.dev with
        regs := d.regs
        eng := { s.dev.eng with hashWait := d.eng.hashWait, hashes := d.eng.hashes } } = d ∧
      ∀ k, (s.dev.hash k).isIdle = false → d.hash k = s.dev.hash k)) ∧
  (∀ (s : State) (c : Fin 128) (j : Job) (r : BulkRec) (i : Instr) (op : Nat) (out : Status × Bytes),
    (s.dev.core c).curJob = some j → j.finish = .bulk r → r.desc.op = op → j.blocks = 0 → s.dev.stopped 4 = false →
    (i = .bulkEncrypt c ∧ op = 1 ∧
        out = (.ok, (gcmEnc r.key r.iv r.aad r.pay).1 ++ (gcmEnc r.key r.iv r.aad r.pay).2) ∨
      i = .gmacGenerate c ∧ op = 3 ∧ out = (.ok, (gcmEnc r.key r.iv r.aad []).2) ∨
      i = .bulkDecrypt c ∧ op = 2 ∧ out = (match gcmDec r.key r.iv r.aad r.pay r.tag with
        | some pay => (.ok, pay) | none => (.verifyFailed, [])) ∨
      i = .gmacVerify c ∧ op = 4 ∧ out = (if (gcmEnc r.key r.iv r.aad []).2 = r.tag then (.ok, []) else (.verifyFailed, []))) →
    Completes i s (fun p d => p = s.perm ∧
      d.core c = { s.dev.core c with curJob := some { j with
        status := out.1, out := out.2, blocks := 1 + (r.pay.length + 15) / 16 } } ∧
      (∀ k, k ≠ c.val → d.core k = s.dev.core k) ∧ { s.dev with eng := { s.dev.eng with cores := d.eng.cores } } = d)) ∧
  (∀ key iv aad pay : Bytes, aesLen key.length = true → iv.length = 12 →
    gcmDec key iv aad (gcmEnc key iv aad pay).1 (gcmEnc key iv aad pay).2 = some pay))

/-- R231, R248 to R253. -/
def Obligations.CipherCoresClaimRunAndRelease : Prop :=
  (∀ (s : State) (j : Job) (rest : List Job) (c : Nat), s.dev.workLevel s.perm.level < 2 → s.dev.eng.ashWait = j :: rest →
    s.dev.payCore = some c →
    Completes .ashlarClaim s (fun p d => p = s.perm ∧ s.dev.coreUsable c = true ∧ d.eng.ashWait = rest ∧
      (if (s.dev.core c).isIdle then (d.core c).cur = j.lock 1 ∧ (d.core c).curJob = some j
        else (d.core c).next = j.lock 1 ∧ (d.core c).nextJob = some j ∧ (d.core c).cur = (s.dev.core c).cur ∧
          (d.core c).curJob = (s.dev.core c).curJob ∧
          ∀ k < 128, s.dev.coreUsable k = true → s.dev.inPayPool k = true → (s.dev.core k).isIdle = false) ∧
      (∀ k, k ≠ c → d.core k = s.dev.core k) ∧
      { s.dev with
        eng := { s.dev.eng with ashWait := rest, cores := d.eng.cores }
        log := { s.dev.log with acc := d.log.acc } } = d)) ∧
  (∀ s : State, (2 ≤ s.dev.workLevel s.perm.level ∨ s.dev.eng.ashWait = [] ∨ s.dev.payCore = none) →
    Completes .ashlarClaim s (fun p d => p = s.perm ∧ d = s.dev)) ∧
  (∀ (s : State) (c : Fin 128) (j : Job), (s.dev.core c).curJob = some j → s.dev.stopped 4 = false → j.ran = true →
    Completes (.ashlarJobEnd c true) s (fun p d => p = s.perm ∧
      (d.core c).cur = (s.dev.core c).next ∧ (d.core c).curJob = (s.dev.core c).nextJob ∧ (d.core c).next = Lock.free ∧
      (d.core c).nextJob = none ∧ (∀ k, k ≠ c.val → d.core k = s.dev.core k) ∧
      d.get R.AS_JOBS c = (s.dev.get R.AS_JOBS c + 1) % R.AS_JOBS.bound ∧
      d.get R.AS_BLOCKS c = (s.dev.get R.AS_BLOCKS c + j.blocks) % R.AS_BLOCKS.bound ∧
      (j.finish = .token → s.dev.jobHeld j = true →
        d.eng.tokens = s.dev.eng.tokens ++ [⟨j.ctx, j.req, j.status⟩] ∧
        (j.status = .ok → d.ctx j.ctx = (s.dev.ctx j.ctx).put false j.dest j.out)))) ∧
  (∀ (s : State) (c : Fin 128) (j : Job), (s.dev.core c).curJob = some j → s.dev.stopped 4 = false → j.ran = true →
    Completes (.ashlarJobEnd c false) s (fun p d => p = s.perm ∧ d.on R.AS_SERVICE_FAULTED c = true ∧
      (d.core c).cur.state = 3 ∧ (d.core c).next.state = 3 ∧ (d.core c).curJob = none ∧ (d.core c).nextJob = none ∧
      d.get R.AS_WIPE_FAULTS c = min (R.AS_WIPE_FAULTS.bound - 1) (s.dev.get R.AS_WIPE_FAULTS c + 1) ∧
      (j.finish = .token → s.dev.jobHeld j = true → ⟨j.ctx, j.req, .wipeFault⟩ ∈ d.eng.tokens))) ∧
  (∀ (s : State) (c : Fin 128) (b : Bool), ((s.dev.core c).curJob = none ∨ s.dev.stopped 4 = true) →
    Completes (.ashlarJobEnd c b) s (fun p d => p = s.perm ∧ d = s.dev)) ∧
  (∀ (s : State) (c : Fin 128) (j : Job) (st : Status), (s.dev.core c).curJob = some j → s.dev.stopped 4 = false →
    s.dev.abortCause (s.dev.workLevel s.perm.level) j = some st →
    Completes (.jobAbort (.cur c) true) s (fun p d => p = s.perm ∧
      d.core c = (s.dev.core c).release false ∧ (∀ k, k ≠ c.val → d.core k = s.dev.core k) ∧
      d.get R.AS_ABORTS c = min (R.AS_ABORTS.bound - 1) (s.dev.get R.AS_ABORTS c + 1) ∧
      (j.finish = .token → s.dev.jobHeld j = true → ⟨j.ctx, j.req, st⟩ ∈ d.eng.tokens))) ∧
  (∀ (s : State) (c : Fin 128) (j : Job) (st : Status), (s.dev.core c).nextJob = some j → s.dev.stopped 4 = false →
    s.dev.abortCause (s.dev.workLevel s.perm.level) j = some st →
    Completes (.jobAbort (.next c) true) s (fun p d => p = s.perm ∧
      d.core c = (s.dev.core c).release true ∧ (∀ k, k ≠ c.val → d.core k = s.dev.core k) ∧
      (j.finish = .token → s.dev.jobHeld j = true → ⟨j.ctx, j.req, st⟩ ∈ d.eng.tokens))) ∧
  (∀ (s : State) (h : Fin 16) (j : Job) (st : Status), (s.dev.hash h).curJob = some j → s.dev.stopped 4 = false →
    s.dev.abortCause (s.dev.workLevel s.perm.level) j = some st → s.dev.eng.hashWait = [] →
    Completes (.jobAbort (.hash h) true) s (fun p d => p = s.perm ∧ d.hash h = Core.idle ∧
      (∀ k, k ≠ h.val → d.hash k = s.dev.hash k) ∧
      (j.finish = .token → s.dev.jobHeld j = true → ⟨j.ctx, j.req, st⟩ ∈ d.eng.tokens))) ∧
  (∀ (s : State) (c : Fin 128) (b : Bool), (∀ j, (s.dev.core c).curJob = some j →
      s.dev.abortCause (s.dev.workLevel s.perm.level) j = none) →
    Completes (.jobAbort (.cur c) b) s (fun p d => p = s.perm ∧ d = s.dev)) ∧
  (∀ (s : State) (c : Fin 128) (v : Word), Completes (.asOfflineWrite c v) s (fun p d => p = s.perm ∧
      d.get R.AS_SERVICE_OFFLINE c = v.toNat % 2 ∧ { s.dev with regs := d.regs } = d ∧
      s.dev.SameRegs d (fun key => key = R.AS_SERVICE_OFFLINE.key c 0)))

/-- R96, R104, R111 to R116, R128. Fill digits and the PIN of a random generation are drawn (log entry 6). -/
def Obligations.PinFunctionsTakeOneStep : Prop :=
  (∀ (s : State) (c : Fin 512) (r : Request) (ks : List Obj), s.dev.LaneFree → s.dev.on R.RN_STATUS_FAIL = false →
    s.dev.Ready c 0x0101 r [panFault (r.digits 3), formatFault (r.num 1) (some (r.tlv 4)), formatFault (r.num 2) none,
        r.keyForm 0 true, r.keyForm 1 false, failIf (!(s.dev.ctx c).permits ((formatIndex (r.num 1)).getD 0)
          ((formatIndex (r.num 2)).getD 0)) .translationDenied]
      [r.wantPin 0 (r.num 1), r.want 1 (p0Fits (r.num 2) true)] [] ks →
    let field := pinDecipher (r.num 1) (r.keyValue 0 (ks.getD 0 default) .pin) (r.tlv 4) (r.pan 3)
    let st := pinFieldStatus (r.num 1) field (s.dev.ctx c).pinMin (s.dev.ctx c).pinMax
    Completes (.pinTranslation c) s (fun p d => p = s.perm ∧ ∃ out, s.dev.Steps d c r st out ∧
      (st = .ok → ∃ fill : List Nat, fill.length = 30 ∧ out = outputs [pinEncipher (r.num 2) (ks.getD 1 default).key
        (pinField (r.num 2) (pinDigits field) fill) (r.pan 3)]))) ∧
  (∀ (s : State) (c : Fin 512) (r : Request) (ks : List Obj), s.dev.LaneFree →
    s.dev.Ready c 0x0110 r [panFault (r.digits 2), formatFault (r.num 1) (some (r.tlv 3)), checkFault (r.num 5) (r.tlv 4),
        digitsFault (r.digits 6) (r.num 5), r.keyForm 0 true, r.keyForm 1 false, r.keyForm 2 false]
      [r.wantPin 0 (r.num 1), r.want 1 (verifyKeyFits .v1 .verify), r.want 2 dectabFits] [] ks →
    let field := pinDecipher (r.num 1) (r.keyValue 0 (ks.getD 0 default) .pin) (r.tlv 3) (r.pan 2)
    let st := pinFieldStatus (r.num 1) field (s.dev.ctx c).pinMin (s.dev.ctx c).pinMax
    let natural := naturalDigits (ks.getD 1 default).key (r.tlv 4) (ks.getD 2 default).key
    Completes (.pinVerifyOffset c) s (fun p d => p = s.perm ∧ s.dev.Steps d c r
      (if st = .ok then offsetStatus natural (pinDigits field) (r.num 5) (r.digits 6) else st) [])) ∧
  (∀ (s : State) (c : Fin 512) (r : Request) (ks : List Obj), s.dev.LaneFree →
    s.dev.Ready c 0x0111 r [panFault (r.digits 2), formatFault (r.num 1) (some (r.tlv 3)), failIf (r.num 4 > 6) .inputRange,
        digitsFault (r.digits 5) 4, r.keyForm 0 true, r.keyForm 1 false]
      [r.wantPin 0 (r.num 1), r.want 1 (verifyKeyFits .v2 .verify)] [] ks →
    let field := pinDecipher (r.num 1) (r.keyValue 0 (ks.getD 0 default) .pin) (r.tlv 3) (r.pan 2)
    let st := pinFieldStatus (r.num 1) field (s.dev.ctx c).pinMin (s.dev.ctx c).pinMax
    Completes (.pinVerifyPvv c) s (fun p d => p = s.perm ∧ s.dev.Steps d c r
      (if st = .ok then
        (if some (pvv (ks.getD 1 default).key (r.pan 2) (r.num 4) (pinDigits field)) = r.digits 5 then .ok else .verifyFailed)
      else st) [])) ∧
  (∀ (s : State) (c : Fin 512) (r : Request) (ks : List Obj), s.dev.LaneFree → s.dev.on R.RN_STATUS_FAIL = false →
    s.dev.Ready c 0x0120 r [panFault (r.digits 5), formatFault (r.num 4) none, checkFault (r.num 2) (r.tlv 6),
        failIf (r.num 1 < (s.dev.ctx c).pinMin || r.num 1 > (s.dev.ctx c).pinMax || r.num 1 < r.num 2 || r.num 3 > 1)
          .inputRange, r.keyForm 0 false, r.keyForm 1 false, r.keyForm 2 true]
      [r.want 0 (verifyKeyFits .v1 .gen), r.want 1 dectabFits, r.want 2 (p0Fits (r.num 4) true)] [] ks →
    let natural := naturalDigits (ks.getD 0 default).key (r.tlv 6) (ks.getD 1 default).key
    Completes (.pinOffsetGeneration c) s (fun p d => p = s.perm ∧ ∃ pin fill : List Nat,
      (r.num 3 = 0 → pin = natural.take (r.num 1)) ∧
      (r.num 3 = 1 → pin = ((List.range 42).map (fun i => beNat ((List.range 8).map (fun j =>
        Config.freeByte (s.dev.free + 8 * i + j))) % 10)).take (r.num 1)) ∧
      s.dev.Steps d c r .ok (outputs [pinEncipher (r.num 4) (ks.getD 2 default).key (pinField (r.num 4) pin fill) (r.pan 5),
        digitsAscii (pinOffset natural pin (r.num 2))]))) ∧
  (∀ (s : State) (c : Fin 512) (r : Request) (ks : List Obj), s.dev.LaneFree →
    s.dev.Ready c 0x0121 r [panFault (r.digits 2), formatFault (r.num 1) (some (r.tlv 3)), checkFault (r.num 5) (r.tlv 4),
        r.keyForm 0 true, r.keyForm 1 false, r.keyForm 2 false]
      [r.wantPin 0 (r.num 1), r.want 1 (verifyKeyFits .v1 .gen), r.want 2 dectabFits] [] ks →
    let field := pinDecipher (r.num 1) (r.keyValue 0 (ks.getD 0 default) .pin) (r.tlv 3) (r.pan 2)
    let st := pinFieldStatus (r.num 1) field (s.dev.ctx c).pinMin (s.dev.ctx c).pinMax
    let natural := naturalDigits (ks.getD 1 default).key (r.tlv 4) (ks.getD 2 default).key
    Completes (.offsetFromChosenPin c) s (fun p d => p = s.perm ∧ ∃ out, s.dev.Steps d c r
        (if st = .ok then offsetStatus natural (pinDigits field) (r.num 5) none else st) out ∧
      (st = .ok → out = outputs [digitsAscii (pinOffset natural (pinDigits field) (r.num 5))]))) ∧
  (∀ (s : State) (c : Fin 512) (r : Request) (ks : List Obj), s.dev.LaneFree →
    s.dev.Ready c 0x0122 r [panFault (r.digits 2), formatFault (r.num 1) (some (r.tlv 3)), failIf (r.num 4 > 6) .inputRange,
        r.keyForm 0 true, r.keyForm 1 false]
      [r.wantPin 0 (r.num 1), r.want 1 (verifyKeyFits .v2 .gen)] [] ks →
    let field := pinDecipher (r.num 1) (r.keyValue 0 (ks.getD 0 default) .pin) (r.tlv 3) (r.pan 2)
    let st := pinFieldStatus (r.num 1) field (s.dev.ctx c).pinMin (s.dev.ctx c).pinMax
    Completes (.pvvFromChosenPin c) s (fun p d => p = s.perm ∧ ∃ out, s.dev.Steps d c r st out ∧
      (st = .ok → out = outputs [digitsAscii (pvv (ks.getD 1 default).key (r.pan 2) (r.num 4) (pinDigits field))]))) ∧
  (∀ (s : State) (c : Fin 512) (r : Request) (ks : List Obj), s.dev.LaneFree → s.dev.on R.RN_STATUS_FAIL = false →
    s.dev.Ready c 0x0123 r [panFault (r.digits 3), formatFault (r.num 2) none,
        failIf (r.num 1 < (s.dev.ctx c).pinMin || r.num 1 > (s.dev.ctx c).pinMax || r.num 4 > 6) .inputRange,
        r.keyForm 0 false, r.keyForm 1 true]
      [r.want 0 (verifyKeyFits .v2 .gen), r.want 1 (p0Fits (r.num 2) true)] [] ks →
    Completes (.randomPinPvvGeneration c) s (fun p d => p = s.perm ∧ ∃ pin fill : List Nat,
      pin = ((List.range 42).map (fun i => beNat ((List.range 8).map (fun j =>
        Config.freeByte (s.dev.free + 8 * i + j))) % 10)).take (r.num 1) ∧
      s.dev.Steps d c r .ok (outputs [pinEncipher (r.num 2) (ks.getD 1 default).key (pinField (r.num 2) pin fill) (r.pan 3),
        digitsAscii (pvv (ks.getD 0 default).key (r.pan 3) (r.num 4) pin)]))) ∧
  (∀ (s : State) (c : Fin 512) (r : Request) (ks : List Obj), s.dev.LaneFree →
    s.dev.Ready c 0x0130 r [panFault (r.digits 2), formatFault (r.num 1) (some (r.tlv 3)),
        formatFault (r.num 1) (some (r.tlv 4)), checkFault (r.num 6) (r.tlv 5), digitsFault (r.digits 7) (r.num 6),
        r.keyForm 0 true, r.keyForm 1 true, r.keyForm 2 false, r.keyForm 3 false]
      [r.wantPin 0 (r.num 1), r.wantPin 1 (r.num 1), r.want 2 (verifyKeyFits .v1 .both), r.want 3 dectabFits] [] ks →
    let old := pinDecipher (r.num 1) (r.keyValue 0 (ks.getD 0 default) .pin) (r.tlv 3) (r.pan 2)
    let new := pinDecipher (r.num 1) (r.keyValue 1 (ks.getD 1 default) .pin) (r.tlv 4) (r.pan 2)
    let st (f : List Nat) := pinFieldStatus (r.num 1) f (s.dev.ctx c).pinMin (s.dev.ctx c).pinMax
    let natural := naturalDigits (ks.getD 2 default).key (r.tlv 5) (ks.getD 3 default).key
    let proof := offsetStatus natural (pinDigits old) (r.num 6) (r.digits 7)
    Completes (.pinChangeOffset c) s (fun p d => p = s.perm ∧ ∃ out, s.dev.Steps d c r
        (if st old ≠ .ok then st old else if proof ≠ .ok then proof else if st new ≠ .ok then st new
          else offsetStatus natural (pinDigits new) (r.num 6) none) out ∧
      (st new = .ok → out = outputs [digitsAscii (pinOffset natural (pinDigits new) (r.num 6))]))) ∧
  (∀ (s : State) (c : Fin 512) (r : Request) (ks : List Obj), s.dev.LaneFree →
    s.dev.Ready c 0x0131 r [panFault (r.digits 2), formatFault (r.num 1) (some (r.tlv 3)),
        formatFault (r.num 1) (some (r.tlv 4)), failIf (r.num 5 > 6) .inputRange, digitsFault (r.digits 6) 4,
        r.keyForm 0 true, r.keyForm 1 true, r.keyForm 2 false]
      [r.wantPin 0 (r.num 1), r.wantPin 1 (r.num 1), r.want 2 (verifyKeyFits .v2 .both)] [] ks →
    let old := pinDecipher (r.num 1) (r.keyValue 0 (ks.getD 0 default) .pin) (r.tlv 3) (r.pan 2)
    let new := pinDecipher (r.num 1) (r.keyValue 1 (ks.getD 1 default) .pin) (r.tlv 4) (r.pan 2)
    let st (f : List Nat) := pinFieldStatus (r.num 1) f (s.dev.ctx c).pinMin (s.dev.ctx c).pinMax
    let value (f : List Nat) := pvv (ks.getD 2 default).key (r.pan 2) (r.num 5) (pinDigits f)
    Completes (.pinChangePvv c) s (fun p d => p = s.perm ∧ ∃ out, s.dev.Steps d c r
        (if st old ≠ .ok then st old else if some (value old) ≠ r.digits 6 then .verifyFailed else st new) out ∧
      (st new = .ok → out = outputs [digitsAscii (value new)]))) ∧
  (∀ (s : State) (c : Fin 512) (r : Request) (ks : List Obj), s.dev.LaneFree →
    s.dev.Ready c 0x0150 r [panFault (r.digits 1), cvvFault r (r.num 4), r.keyForm 0 false]
      [r.want 0 (verifyKeyFits .c0 .gen)] [] ks →
    Completes (.cvvGeneration c) s (fun p d => p = s.perm ∧ s.dev.Steps d c r .ok
      (outputs [digitsAscii (cvv (ks.getD 0 default).key (r.pan 1) (r.pan 2) (r.pan 3) (r.num 4))]))) ∧
  (∀ (s : State) (c : Fin 512) (r : Request) (ks : List Obj), s.dev.LaneFree →
    s.dev.Ready c 0x0151 r [panFault (r.digits 1), cvvFault r (r.tlv 4).length, digitsFault (r.digits 4) (r.tlv 4).length,
        r.keyForm 0 false] [r.want 0 (verifyKeyFits .c0 .verify)] [] ks →
    Completes (.cvvVerification c) s (fun p d => p = s.perm ∧ s.dev.Steps d c r
      (if some (cvv (ks.getD 0 default).key (r.pan 1) (r.pan 2) (r.pan 3) (r.tlv 4).length) = r.digits 4 then .ok
        else .verifyFailed) []))

/-- R99, R104, R113. -/
def Obligations.PinFieldsHoldTheirPin : Prop :=
  (∀ (f lo hi : Nat) (pin fill : List Nat), formatIndex f ≠ none → 4 ≤ pin.length → pin.length ≤ 12 → (∀ x ∈ pin, x < 10) →
    (pinField f pin fill).length = (if f = 4 then 32 else 16) ∧ (∀ x ∈ pinField f pin fill, x < 16) ∧
    pinDigits (pinField f pin fill) = pin ∧
    pinFieldStatus f (pinField f pin fill) lo hi = (if pin.length < lo ∨ hi < pin.length then .pinLength else .ok)) ∧
  (∀ (natural pin offset : List Nat) (len : Nat), (∀ x ∈ natural, x < 10) → (∀ x ∈ pin, x < 10) → (∀ x ∈ offset, x < 10) →
    (offsetStatus natural pin len (some offset) = .ok ↔ len ≤ pin.length ∧ offset.length = len ∧
      ∀ i < len, (natural.getD i 0 + offset.getD i 0) % 10 = pin.getD i 0))

/-- R63, R100, R111 row 2, R253. That a program which finds no core leaves no trace is the model's choice (log entry 3). -/
def Obligations.PublicFaultsEndAFunction : Prop :=
  (∀ (s : State) (c : Fin 512) (r : Request) (i : Instr) (func tag : Nat), s.dev.Runs c r → r.func = func →
    s.dev.cacheBusy r.bay r.handles = false → panOk (r.digits tag) = false →
    (i, func, tag) ∈ [(Instr.pinTranslation c, 0x0101, 3), (.pinVerifyOffset c, 0x0110, 2), (.pinVerifyPvv c, 0x0111, 2),
      (.pinOffsetGeneration c, 0x0120, 5), (.offsetFromChosenPin c, 0x0121, 2), (.pvvFromChosenPin c, 0x0122, 2),
      (.randomPinPvvGeneration c, 0x0123, 3), (.pinChangeOffset c, 0x0130, 2), (.pinChangePvv c, 0x0131, 2),
      (.cvvGeneration c, 0x0150, 1), (.cvvVerification c, 0x0151, 1), (.arqcVerification c, 0x0220, 1),
      (.arqcVerifyArpcGeneration c, 0x0221, 1), (.arpcGeneration c, 0x0222, 1), (.issuerScriptMac c, 0x0223, 1),
      (.issuerScriptEncryption c, 0x0224, 1), (.ff1Tokenization c, 0x0240, 1), (.ff1Detokenization c, 0x0241, 1),
      (.vaultTokenization c, 0x0242, 1), (.vaultDetokenization c, 0x0243, 1), (.vaultTokenRetirement c, 0x0244, 1)] →
    Completes i s (fun p d => p = s.perm ∧ s.dev.Ends d c r .panFormat [] ∧ d.keys = s.dev.keys)) ∧
  (∀ (s : State) (c : Fin 512) (r : Request) (i : Instr) (func : Nat), s.dev.Runs c r → r.func = func →
    s.dev.cacheBusy r.bay r.handles = true → r.bay < 256 →
    (i, func) ∈ [(Instr.pinTranslation c, 0x0101), (.macGeneration c, 0x0140), (.dukptDataDecryption c, 0x0210),
      (.arqcVerification c, 0x0220), (.keyBlockExport c, 0x0231), (.ff1Tokenization c, 0x0240), (.ecdh c, 0x0503)] →
    Completes i s (fun p d => p = s.perm ∧ d.sched.presented = s.dev.sched.presented ++ [⟨r, c, (s.dev.ctx c).owned, .busy, []⟩] ∧
      d.eng = s.dev.eng ∧ d.keys = s.dev.keys ∧
      d.get R.KC_BAY_BUSY 0 r.bay = min (R.KC_BAY_BUSY.bound - 1) (s.dev.get R.KC_BAY_BUSY 0 r.bay + 1))) ∧
  (∀ (s : State) (c : Fin 512) (r : Request) (o : Obj) (n : Nat), s.dev.Runs c r → r.func = 0x0150 →
    s.dev.cacheBusy r.bay r.handles = false →
    firstFault [panFault (r.digits 1), cvvFault r (r.num 4), r.keyForm 0 false] = none →
    (s.dev.resolve c r.bay [r.want 0 (verifyKeyFits .c0 .gen)] []).1 = .keys [o] →
    s.dev.payCore = some n → s.dev.stopped 4 = true →
    Completes (.cvvGeneration c) s (fun p d => p = s.perm ∧ d.sched.presented = s.dev.sched.presented ∧
      (d.ctx c).state = .waiting ∧ (d.ctx c).outstanding = (s.dev.ctx c).outstanding + 1 ∧
      ∃ j : Job, j.req = some r ∧ ((d.core n).curJob = some j ∨ (d.core n).nextJob = some j))) ∧
  (∀ (s : State) (c : Fin 512) (r : Request) (o : Obj), s.dev.Runs c r → r.func = 0x0150 →
    s.dev.cacheBusy r.bay r.handles = false →
    firstFault [panFault (r.digits 1), cvvFault r (r.num 4), r.keyForm 0 false] = none →
    (s.dev.resolve c r.bay [r.want 0 (verifyKeyFits .c0 .gen)] []).1 = .keys [o] → s.dev.payCore = none →
    Completes (.cvvGeneration c) s (fun p d => p = s.perm ∧ d = s.dev))

/-- R124 to R127, R144, R145. Drawn padding and salts are free values (log entry 6). -/
def Obligations.MacAndDukptFunctionsAnswer : Prop :=
  (∀ (s : State) (c : Fin 512) (r : Request) (ks : List Obj),
    s.dev.Ready c 0x0140 r [macFault (r.num 1) (r.num 2) (r.num 3) (r.tlv 4), r.keyForm 0 true] [r.wantMac (r.num 1) true] []
      ks →
    macKeyFault (r.num 1) (r.num 3) (ks.getD 0 default) = none →
    Completes (.macGeneration c) s (fun p d => p = s.perm ∧ s.dev.Ends d c r .ok (outputs [(macFull (r.num 1)
      (ks.getD 0 default).attrs.alg (r.keyValue 0 (ks.getD 0 default) .macGen) (r.num 2) (r.tlv 4)).take (r.num 3)]))) ∧
  (∀ (s : State) (c : Fin 512) (r : Request) (ks : List Obj),
    s.dev.Ready c 0x0141 r [macFault (r.num 1) (r.num 2) (r.tlv 3).length (r.tlv 4),
        failIf ((r.tlv 3).length < (s.dev.ctx c).macMin) .macLength, r.keyForm 0 true] [r.wantMac (r.num 1) false] [] ks →
    macKeyFault (r.num 1) (r.tlv 3).length (ks.getD 0 default) = none →
    Completes (.macVerification c) s (fun p d => p = s.perm ∧ s.dev.Ends d c r
      (if (macFull (r.num 1) (ks.getD 0 default).attrs.alg (r.keyValue 0 (ks.getD 0 default) .macVerify) (r.num 2)
        (r.tlv 4)).take (r.tlv 3).length = r.tlv 3 then .ok else .verifyFailed) [])) ∧
  (∀ (s : State) (c : Fin 512) (r : Request), s.dev.Runs c r → r.func = 0x0141 →
    s.dev.cacheBusy r.bay r.handles = false → macFault (r.num 1) (r.num 2) (r.tlv 3).length (r.tlv 4) = none →
    (r.tlv 3).length < (s.dev.ctx c).macMin →
    Completes (.macVerification c) s (fun p d => p = s.perm ∧ s.dev.Ends d c r .macLength [])) ∧
  (∀ (s : State) (c : Fin 512) (r : Request) (ks : List Obj),
    s.dev.Ready c 0x0210 r [dukptDataFault r] [wantBdk r] [] ks →
    Completes (.dukptDataDecryption c) s (fun p d => p = s.perm ∧
      s.dev.Ends d c r .ok (outputs [dukptClear r (ks.getD 0 default)]))) ∧
  (∀ (s : State) (c : Fin 512) (r : Request) (ks : List Obj),
    let i := nonceIndex r.bay (r.handle 1)
    s.dev.Ready c 0x0211 r [dukptDataFault r, r.keyForm 1 false] [wantBdk r, { handle := r.handle 1, fits := d0Fits }] [i] ks →
    s.dev.NonceFree i →
    Completes (.dukptDataTranslation c) s (fun p d => p = s.perm ∧ ∃ salt iv : Bytes,
      ((s.dev.nonce i).salt ≠ [] → salt = (s.dev.nonce i).salt) ∧ iv = salt ++ beBytes 8 (s.dev.nonce i).next ∧
      (d.nonce i).salt = salt ∧ (d.nonce i).next = (s.dev.nonce i).next + 1 ∧
      s.dev.Ends d c r .ok (outputs [iv ++
        (gcmEnc (ks.getD 1 default).key iv [] (dukptClear r (ks.getD 0 default))).1 ++
        (gcmEnc (ks.getD 1 default).key iv [] (dukptClear r (ks.getD 0 default))).2]))) ∧
  (∀ (s : State) (c : Fin 512) (r : Request) (b k ik : Obj) (key : Bytes) (bFits : Obj → Bool) (bForm : Obj → Option Status),
    let id := r.tlv 1
    let aes := decide (id.length = 8)
    bFits = (fun o => o.attrs.usage = .b0 && (bdkFits o .aes || bdkFits o .tdes)) →
    bForm = (fun o => if decide (o.attrs.alg = .aes) ≠ aes then some .ksnFormat
      else if o.attrs.keySetId ≠ [] ∧ id.take o.attrs.keySetId.length ≠ o.attrs.keySetId then some .bdkMismatch else none) →
    s.dev.Ready c 0x0212 r [failIf (id.length ≠ 8 && id.length ≠ 10) .ksnFormat, exportFault (r.num 2), r.keyForm 0 false,
        r.keyForm 1 false] [{ handle := r.handle 0, fits := bFits, after := bForm },
        { handle := r.handle 1, fits := kbpkFits [.k1] true }] [] [b, k] →
    key = (if aes then aesInitialKey b.key id else tdesInitialKey b.key id) →
    ik = { b with key := key, attrs := { b.attrs with
      usage := .b1, mode := .x, keySetId := if aes then [] else ksnBase id, initialKeyId := if aes then id else ksnBase id } } →
    exportRefusal k ik = none → s.dev.on R.RN_STATUS_FAIL = false →
    Completes (.dukptInitialKeyExport c) s (fun p d => p = s.perm ∧ ∃ pad : Bytes, pad.length = 96 ∧
      s.dev.Ends d c r .ok (outputs [kbBuild k.attrs.alg k.key ik ((r.num 2).testBit 0 && b.attrs.exportable)
        (exportBlocks ik ((r.num 2).testBit 1)) pad])))

/-- R148 to R160. -/
def Obligations.EmvAndKeyBlockFunctionsAnswer : Prop :=
  (∀ (s : State) (c : Fin 512) (r : Request) (o : Obj),
    s.dev.Ready c 0x0220 r [emvFault r, cryptogramFault r 6 false] [{ handle := r.handle 0, fits := emvFits .e0 }] [] [o] →
    Completes (.arqcVerification c) s (fun p d => p = s.perm ∧
      s.dev.Ends d c r (if arqcOk r o 6 then .ok else .verifyFailed) [])) ∧
  (∀ (s : State) (c : Fin 512) (r : Request) (o : Obj),
    s.dev.Ready c 0x0221 r [emvFault r, cryptogramFault r 8 true] [{ handle := r.handle 0, fits := emvFits .e0 }] [] [o] →
    Completes (.arqcVerifyArpcGeneration c) s (fun p d => p = s.perm ∧
      (if arqcOk r o 8 then s.dev.Ends d c r .ok (outputs [requestArpc r o]) else s.dev.Ends d c r .verifyFailed []))) ∧
  (∀ (s : State) (c : Fin 512) (r : Request) (o : Obj),
    s.dev.Ready c 0x0222 r [emvFault r, cryptogramFault r 8 true] [{ handle := r.handle 0, fits := emvFits .e0 }] [] [o] →
    Completes (.arpcGeneration c) s (fun p d => p = s.perm ∧ s.dev.Ends d c r .ok (outputs [requestArpc r o]))) ∧
  (∀ (s : State) (c : Fin 512) (r : Request) (o : Obj),
    s.dev.Ready c 0x0223 r [emvFault r, failIf ((r.tlv 4).length < 4 || (r.tlv 4).length > 255) .inputRange]
      [{ handle := r.handle 0, fits := emvFits .e2 }] [] [o] →
    Completes (.issuerScriptMac c) s (fun p d => p = s.perm ∧
      s.dev.Ends d c r .ok (outputs [emvMac o.attrs.alg (emvKeys r o true).2 2 (r.tlv 4)]))) ∧
  (∀ (s : State) (c : Fin 512) (r : Request) (o : Obj),
    s.dev.Ready c 0x0224 r [emvFault r, failIf ((r.tlv 4).length < 1 || (r.tlv 4).length > 240) .inputRange]
      [{ handle := r.handle 0, fits := emvFits .e1 }] [] [o] →
    Completes (.issuerScriptEncryption c) s (fun p d => p = s.perm ∧
      s.dev.Ends d c r .ok (outputs [cbcEnc o.attrs.alg.cipher (emvKeys r o true).2 (zeros o.attrs.alg.cipher.block)
        (isoPad 2 o.attrs.alg.cipher.block (r.tlv 4))]))) ∧
  (∀ (s : State) (c : Fin 512) (r : Request) (h : KbHeader) (k : Obj) (fits : Obj → Bool) (key : Bytes) (n : Nat),
    fits = (fun o => kbpkFits [.k0, .k1] false o && o.attrs.alg = (if h.aes then .aes else .tdes)) →
    readKbHeader (r.tlv 1) = some h →
    s.dev.Ready c 0x0230 r [kbHeaderFault (r.tlv 1), kbOptionalFault h, r.keyForm 0 false]
      [{ handle := r.handle 0, fits := fits }] [kekIndex r.bay] [k] →
    (kbOpen (r.tlv 1) h k.key).toOption = some key → importFault k h key = none → s.dev.NonceFree (kekIndex r.bay) →
    (s.dev.resolve c r.bay [{ handle := r.handle 0, fits := fits }] [kekIndex r.bay]).2.nextObject r.bay = some n →
    (s.dev.resolve c r.bay [{ handle := r.handle 0, fits := fits }] [kekIndex r.bay]).2.quotaRoom r.bay
      (s.dev.newObj (importAttrs h) key).quotaBytes = true →
    Completes (.keyBlockImport c) s (fun p d => p = s.perm ∧
      s.dev.Writes d c r (.object n { s.dev.newObj (importAttrs h) key with timeStamp := (h.block obTS).getD [] })
        (outputs [beBytes 4 n, storedCheck h.alg key]))) ∧
  (∀ (s : State) (c : Fin 512) (r : Request) (h : KbHeader) (k : Obj) (fits : Obj → Bool) (st : Status),
    fits = (fun o => kbpkFits [.k0, .k1] false o && o.attrs.alg = (if h.aes then .aes else .tdes)) →
    readKbHeader (r.tlv 1) = some h →
    s.dev.Ready c 0x0230 r [kbHeaderFault (r.tlv 1), kbOptionalFault h, r.keyForm 0 false]
      [{ handle := r.handle 0, fits := fits }] [kekIndex r.bay] [k] →
    (match kbOpen (r.tlv 1) h k.key with | .error e => st = e | .ok key => importFault k h key = some st) →
    Completes (.keyBlockImport c) s (fun p d => p = s.perm ∧ s.dev.Ends d c r st [])) ∧
  (∀ (s : State) (c : Fin 512) (r : Request) (k o : Obj),
    s.dev.Ready c 0x0231 r [exportFault (r.num 1), r.keyForm 0 false, r.keyForm 1 false]
      [{ handle := r.handle 0, fits := kbpkFits [.k0, .k1] true }, { handle := r.handle 1, fits := subjectFits }] [] [k, o] →
    exportRefusal k o = none → ((r.num 1).testBit 1 = true → o.attrs.alg ≠ .hmac) → s.dev.on R.RN_STATUS_FAIL = false →
    Completes (.keyBlockExport c) s (fun p d => p = s.perm ∧ ∃ pad : Bytes, pad.length = 96 ∧
      s.dev.Ends d c r .ok (outputs [kbBuild k.attrs.alg k.key o ((r.num 1).testBit 0 && o.attrs.exportable)
        (exportBlocks o ((r.num 1).testBit 1)) pad]))) ∧
  (∀ (s : State) (c : Fin 512) (r : Request) (k o : Obj) (st : Status),
    s.dev.Ready c 0x0231 r [exportFault (r.num 1), r.keyForm 0 false, r.keyForm 1 false]
      [{ handle := r.handle 0, fits := kbpkFits [.k0, .k1] true }, { handle := r.handle 1, fits := subjectFits }] [] [k, o] →
    exportRefusal k o = some st →
    Completes (.keyBlockExport c) s (fun p d => p = s.perm ∧ s.dev.Ends d c r st [])) ∧
  (∀ (s : State) (c : Fin 512) (r : Request) (o : Obj) (fits : Obj → Bool),
    fits = (fun o => subjectFits o && (o.attrs.alg = .aes || (o.attrs.alg = .tdes && r.num 1 == 0))) →
    s.dev.Ready c 0x0232 r [failIf (r.num 1 > 1) .inputRange, r.keyForm 0 false] [{ handle := r.handle 0, fits := fits }] []
      [o] →
    Completes (.keyCheckValue c) s (fun p d => p = s.perm ∧
      s.dev.Ends d c r .ok (outputs [keyCheck o.attrs.alg o.key (r.num 1)])))

/-- R193, R194. The bytes drawn are free values (log entry 6). -/
def Obligations.KeyManagementWritesRecords : Prop :=
  (∀ (s : State) (c : Fin 512) (r : Request) (k : NewKey) (n : Nat), newKey r false = some k → k.session = false →
    r.tlv? 10 = none → s.dev.Ready c 0x0301 r [failIf (!s.dev.rootPresent) .rootAbsent] [] [kekIndex r.bay] [] →
    s.dev.NonceFree (kekIndex r.bay) → s.dev.nextObject r.bay = some n →
    (∀ key : Bytes, key.length = k.len → s.dev.quotaRoom r.bay (s.dev.newObj k.attrs key).quotaBytes = true) →
    Completes (.keyGeneration c) s (fun p d => p = s.perm ∧ ∃ key : Bytes,
      key = (List.range k.len).map (fun i => Config.freeByte (s.dev.free + i)) ∧
      s.dev.Writes d c r (.object n (s.dev.newObj k.attrs key)) (outputs [beBytes 4 n, storedCheck k.attrs.alg key]))) ∧
  (∀ (s : State) (c : Fin 512) (r : Request) (k : NewKey) (slot : Nat), newKey r false = some k → k.session = true →
    r.tlv? 10 = none → s.dev.Ready c 0x0301 r [failIf (!s.dev.rootPresent) .rootAbsent] [] [] [] →
    s.dev.on R.RN_STATUS_FAIL = false → s.dev.nextSlot r.bay = some slot →
    (s.dev.resolve c r.bay [] []).2.sessionRoom r.bay ((k.len + 63) / 64) = true →
    Completes (.keyGeneration c) s (fun p d => p = s.perm ∧ ∃ (key : Bytes) (x : SessKey),
      key = (List.range k.len).map (fun i => Config.freeByte (s.dev.free + i)) ∧
      Tab.look d.keys.sess (sessIndex r.bay slot) = some x ∧ x.obj = s.dev.newObj k.attrs key ∧
      s.dev.Ends d c r .ok (outputs [beBytes 4 (sessionHandle s.dev.plinth.powerSeq (s.dev.get R.BY_GEN_GEN r.bay) slot),
        storedCheck k.attrs.alg key]))) ∧
  (∀ (s : State) (c : Fin 512) (r : Request) (k : NewKey) (n : Nat), newKey r true = some k → k.session = false →
    (r.tlv? 10).isSome = true → s.dev.authStands 10 r.bay = true →
    s.dev.Ready c 0x0301 r [failIf (!s.dev.rootPresent) .rootAbsent] [] [kekIndex r.bay] [] →
    s.dev.NonceFree (kekIndex r.bay) → s.dev.nextObject r.bay = some n →
    (∀ key : Bytes, key.length = k.len → s.dev.quotaRoom r.bay (s.dev.newObj k.attrs key).quotaBytes = true) →
    Completes (.keyGeneration c) s (fun p d => p = s.perm ∧ d.get R.CD_CER_STATUS_STATE = 0 ∧
      d.keys.writes = s.dev.keys.writes ++ [⟨r.bay, .object n (s.dev.newObj k.attrs
          ((List.range k.len).map (fun i => Config.freeByte (s.dev.free + i)))), c, some r, true,
        outputs [beBytes 4 n, storedCheck k.attrs.alg ((List.range k.len).map (fun i => Config.freeByte (s.dev.free + i)))]⟩])) ∧
  (∀ (s : State) (c : Fin 512) (r : Request) (k : NewKey), newKey r true = some k → (r.tlv? 10).isSome = true →
    s.dev.Runs c r → r.func = 0x0301 → s.dev.cacheBusy r.bay r.handles = false → s.dev.authStands 10 r.bay = false →
    Completes (.keyGeneration c) s (fun p d => p = s.perm ∧ s.dev.Ends d c r .policyDenied [] ∧ d.keys = s.dev.keys)) ∧
  (∀ (s : State) (c : Fin 512) (r : Request) (o : Obj), bitOf (r.num 1) 31 = false → s.dev.rootPresent = true →
    s.dev.lookup r.bay (r.num 1) = .key o → s.dev.Ready c 0x0302 r [] [] [kekIndex r.bay] [] →
    s.dev.NonceFree (kekIndex r.bay) →
    Completes (.keyDeletion c) s (fun p d => p = s.perm ∧ s.dev.Writes d c r (.object (r.num 1)
      { s.dev.newestObj r.bay (r.num 1) o with deletedAt := some s.dev.plinth.seconds, format := s.dev.floor }) [])) ∧
  (∀ (s : State) (c : Fin 512) (r : Request) (o : Obj), bitOf (r.num 1) 31 = true → s.dev.rootPresent = true →
    s.dev.lookup r.bay (r.num 1) = .key o → s.dev.Runs c r → r.func = 0x0302 → s.dev.cacheBusy r.bay r.handles = false →
    Completes (.keyDeletion c) s (fun p d => p = s.perm ∧ s.dev.Ends d c r .ok [] ∧
      Tab.look d.keys.sess (sessIndex r.bay (r.num 1 % 65536)) = none ∧ d.cached r.bay (r.num 1) = false ∧
      ∀ i, i ≠ sessIndex r.bay (r.num 1 % 65536) → Tab.look d.keys.sess i = Tab.look s.dev.keys.sess i)) ∧
  (∀ (s : State) (c : Fin 512) (r : Request) (o : Obj) (a : Attrs), bitOf (r.num 1) 31 = false → s.dev.rootPresent = true →
    s.dev.lookup r.bay (r.num 1) = .key o → attrChange (s.dev.newestObj r.bay (r.num 1) o).attrs (r.tlv 2) = .to_ a →
    s.dev.Ready c 0x0303 r [] [] [kekIndex r.bay] [] → s.dev.NonceFree (kekIndex r.bay) →
    Completes (.attributeChange c) s (fun p d => p = s.perm ∧ s.dev.Writes d c r (.object (r.num 1)
      { s.dev.newestObj r.bay (r.num 1) o with attrs := a, format := s.dev.floor }) [])) ∧
  (∀ (s : State) (c : Fin 512) (r : Request) (o : Obj) (st : Status), s.dev.rootPresent = true →
    s.dev.lookup r.bay (r.num 1) = .key o → s.dev.Runs c r → r.func = 0x0303 → s.dev.cacheBusy r.bay r.handles = false →
    (let x := if bitOf (r.num 1) 31 then o else s.dev.newestObj r.bay (r.num 1) o
     attrChange x.attrs (r.tlv 2) = .refused ∧ st = .attrImmutable ∨ attrChange x.attrs (r.tlv 2) = .same ∧ st = .ok) →
    Completes (.attributeChange c) s (fun p d => p = s.perm ∧ s.dev.Ends d c r st [] ∧ d.keys = s.dev.keys)) ∧
  (∀ (a b : Attrs) (v : Bytes), attrChange a v = .to_ b →
    b = { a with exportable := false } ∨ b = { a with externalIv := false } ∨
      (∃ n, b = { a with notAfter := n } ∧ n ≠ 0 ∧ (a.notAfter = 0 ∨ n < a.notAfter)))

/-- R161 to R172. Tokens drawn are free values (log entry 6). -/
def Obligations.TokensAreMadeAndFound : Prop :=
  (∀ (s : State) (c : Fin 512) (r : Request) (o : Obj) (i : Instr) (func : Nat) (modes : List ModeOfUse)
      (out : List Nat × List Nat × List Nat → List Nat),
    (i = .ff1Tokenization c ∧ func = 0x0240 ∧ modes = [.e, .b] ∧
        panProfileFault o.profile ((r.digits 1).getD []) = none ∧ out = (fun u => joinToken o.profile u.1
          (ff1Enc o.key (ff1Tweak o.profile u.1 u.2.2 (r.tlv 2)) u.2.1) u.2.2) ∨
      i = .ff1Detokenization c ∧ func = 0x0241 ∧ modes = [.d, .b] ∧
        tokenProfileFault o.profile ((r.digits 1).getD []) = none ∧ out = (fun u => joinPan o.profile u.1
          (ff1Dec o.key (ff1Tweak o.profile u.1 u.2.2 (r.tlv 2)) u.2.1) u.2.2)) →
    s.dev.Ready c func r [failIf (!panOk (r.digits 1)) .panFormat, failIf ((r.tlv 2).length > 16) .inputRange,
      r.keyForm 0 false] [{ handle := r.handle 0, fits := tokenFits false modes }] [] [o] →
    Completes i s (fun p d => p = s.perm ∧ s.dev.Ends d c r .ok
      (outputs [digitsAscii (out (splitDigits o.profile ((r.digits 1).getD [])))]))) ∧
  (∀ (key given : Bytes) (p : TokenProfile) (pan : List Nat), (∀ x ∈ pan, x < 10) → panProfileFault p pan = none →
    let u := splitDigits p pan
    let t := joinToken p u.1 (ff1Enc key (ff1Tweak p u.1 u.2.2 given) u.2.1) u.2.2
    let v := splitDigits p t
    t.length = pan.length ∧ tokenProfileFault p t = none ∧
      joinPan p v.1 (ff1Dec key (ff1Tweak p v.1 v.2.2 given) v.2.1) v.2.2 = pan) ∧
  (∀ (s : State) (c : Fin 512) (r : Request) (o : Obj) (e : TokenEntry), s.dev.Ready c 0x0242 r
      [failIf (!panOk (r.digits 1)) .panFormat, failIf ((r.tlv 2).length > 16) .inputRange, r.keyForm 0 false]
      [{ handle := r.handle 0, fits := tokenFits true [.e, .d, .b] }] [vaultKeyIndex r.bay] [o] →
    panProfileFault o.profile ((r.digits 1).getD []) = none → s.dev.livePan r.bay ((r.digits 1).getD []) = some e →
    Completes (.vaultTokenization c) s (fun p d => p = s.perm ∧ s.dev.Ends d c r .ok (outputs [digitsAscii e.token]))) ∧
  (∀ (s : State) (c : Fin 512) (r : Request) (o : Obj) (t : List Nat), s.dev.Ready c 0x0242 r
      [failIf (!panOk (r.digits 1)) .panFormat, failIf ((r.tlv 2).length > 16) .inputRange, r.keyForm 0 false]
      [{ handle := r.handle 0, fits := tokenFits true [.e, .d, .b] }] [vaultKeyIndex r.bay] [o] →
    panProfileFault o.profile ((r.digits 1).getD []) = none → s.dev.livePan r.bay ((r.digits 1).getD []) = none →
    s.dev.keys.slots.any (fun x => x.bay == r.bay && x.pan == (r.digits 1).getD []) = false →
    t = joinToken o.profile (splitDigits o.profile ((r.digits 1).getD [])).1
      (drawNibbles (splitDigits o.profile ((r.digits 1).getD [])).2.1.length 10
        ((List.range (8 * (splitDigits o.profile ((r.digits 1).getD [])).2.1.length)).map
          (fun i => Config.freeByte (s.dev.free + i)))) (splitDigits o.profile ((r.digits 1).getD [])).2.2 →
    t ≠ (r.digits 1).getD [] → s.dev.tokenTaken r.bay t = false → s.dev.NonceFree (vaultKeyIndex r.bay) →
    (s.dev.resolve c r.bay [{ handle := r.handle 0, fits := tokenFits true [.e, .d, .b] }]
      [vaultKeyIndex r.bay]).2.quotaRoom r.bay 128 = true →
    Completes (.vaultTokenization c) s (fun p d => p = s.perm ∧
      s.dev.Writes d c r (.entry (s.dev.keys.lastEntry + 1) ⟨r.bay, (r.digits 1).getD [], t,
        r.tlv 2 ++ zeros (16 - (r.tlv 2).length), s.dev.plinth.seconds, s.dev.floor, .live⟩) (outputs [digitsAscii t]) ∧
      d.keys.slots = s.dev.keys.slots ++ [⟨r.bay, (r.digits 1).getD [], t, c, r.gen⟩] ∧
      d.keys.lastEntry = s.dev.keys.lastEntry + 1)) ∧
  (∀ (s : State) (c : Fin 512) (r : Request) (o : Obj) (n : Nat) (e : TokenEntry), s.dev.Ready c 0x0243 r
      [failIf (!panOk (r.digits 1)) .panFormat, r.keyForm 0 false]
      [{ handle := r.handle 0, fits := tokenFits true [.e, .d, .b] }] [] [o] →
    tokenProfileFault o.profile ((r.digits 1).getD []) = none →
    s.dev.liveToken r.bay ((r.digits 1).getD []) = some (n, e) → e.format ≤ s.dev.get R.KT_FLEET_FLOOR_FORMAT_MAX →
    Completes (.vaultDetokenization c) s (fun p d => p = s.perm ∧
      s.dev.Ends d c r .ok (outputs [digitsAscii e.pan, e.reference]))) ∧
  (∀ (s : State) (c : Fin 512) (r : Request) (o : Obj) (i : Instr) (func : Nat) (ivs : List Nat),
    (i = .vaultDetokenization c ∧ func = 0x0243 ∧ ivs = [] ∨
      i = .vaultTokenRetirement c ∧ func = 0x0244 ∧ ivs = [vaultKeyIndex r.bay]) →
    s.dev.Ready c func r [failIf (!panOk (r.digits 1)) .panFormat, r.keyForm 0 false]
      [{ handle := r.handle 0, fits := tokenFits true [.e, .d, .b] }] ivs [o] →
    tokenProfileFault o.profile ((r.digits 1).getD []) = none → s.dev.liveToken r.bay ((r.digits 1).getD []) = none →
    Completes i s (fun p d => p = s.perm ∧ s.dev.Ends d c r .tokenNotFound [])) ∧
  (∀ (s : State) (c : Fin 512) (r : Request) (o : Obj) (n : Nat) (e : TokenEntry), s.dev.Ready c 0x0244 r
      [failIf (!panOk (r.digits 1)) .panFormat, r.keyForm 0 false]
      [{ handle := r.handle 0, fits := tokenFits true [.e, .d, .b] }] [vaultKeyIndex r.bay] [o] →
    tokenProfileFault o.profile ((r.digits 1).getD []) = none →
    s.dev.liveToken r.bay ((r.digits 1).getD []) = some (n, e) → e.format ≤ s.dev.get R.KT_FLEET_FLOOR_FORMAT_MAX →
    s.dev.NonceFree (vaultKeyIndex r.bay) →
    Completes (.vaultTokenRetirement c) s (fun p d => p = s.perm ∧
      s.dev.Writes d c r (.entry n { e with state := .retired s.dev.plinth.seconds, format := s.dev.floor }) [] ∧
      Tab.look d.keys.entries n = some { e with state := .retired s.dev.plinth.seconds, format := s.dev.floor })) ∧
  (∀ (s : State) (c : Fin 512) (r : Request) (o : Obj) (e : TokenEntry), (s.dev.ctx c).req = some r →
    c.val ∈ s.dev.keys.slotWait → s.dev.keys.slots.any (fun x => x.bay == r.bay && x.pan == (r.digits 1).getD []) = false →
    s.dev.lookup r.bay (r.handle 0) = .key o → s.dev.livePan r.bay ((r.digits 1).getD []) = some e →
    Completes (.indexSlotClaim c) s (fun p d => p = s.perm ∧ s.dev.Ends d c r .ok (outputs [digitsAscii e.token]) ∧
      d.keys.slotWait = s.dev.keys.slotWait.filter (· ≠ c.val))) ∧
  (∀ (s : State) (c : Fin 512) (r : Request), (s.dev.ctx c).req = some r →
    s.dev.keys.slots.any (fun x => x.bay == r.bay && x.pan == (r.digits 1).getD []) = true →
    Completes (.indexSlotClaim c) s (fun p d => p = s.perm ∧ d = s.dev))

/-- R275 to R286. Random bytes are free values (log entry 6); parameter codes and charges are log entry 15. -/
def Obligations.PublicKeyFunctionsSendTheirJob : Prop :=
  (∀ (s : State) (c : Fin 512) (r : Request) (i : Instr) (func n : Nat) (ks : List Obj) (form : Option Status) (ws : List Want),
    (i, func, n) ∈ [(Instr.ecdsaSignature c, 0x0501, 2), (.ecdsaVerification c, 0x0502, 5), (.ecdh c, 0x0503, 1),
      (.ed25519Signature c, 0x0504, 1), (.ed25519Verification c, 0x0505, 3), (.rsaSignature c, 0x0506, 3),
      (.rsaVerification c, 0x0507, 6), (.rsaPublicOperation c, 0x0508, 3), (.mlKemEncapsulation c, 0x0509, 2),
      (.mlKemDecapsulation c, 0x050A, 1), (.mlDsaSignature c, 0x050B, 2), (.mlDsaVerification c, 0x050C, 5)] →
    form = (if (pkKeyKinds func).isSome then failIf ((r.tlv 0x0081).length ≠ 4) .inputRange else none) →
    ws = (if (pkKeyKinds func).isSome then [{ handle := r.handle 0, fits := pkFits func }] else []) →
    s.dev.Ready c func r [form] ws [] ks → s.dev.on R.RN_STATUS_FAIL = false →
    let rnd := (List.range (pkDraws func)).map (fun k => Config.freeByte (s.dev.free + k))
    let x := pkRun func (ks.getD 0 default).pkKind (ks.getD 0 default).key ((List.range n).map (fun k => r.tlv (k + 1))) rnd
    Completes i s (fun p d => p = s.perm ∧ (∃ j : Job, d.eng.vsWait = s.dev.eng.vsWait ++ [j] ∧ j.req = some r ∧ j.ctx = c ∧
        j.supervisor = false ∧ j.bay = r.bay ∧ j.status = x.status ∧ j.finish = .whole (outputs x.out) ∧ j.clocks = x.clocks ∧
        j.cost = x.clocks ∧ j.dest = .secret 0 ∧ j.out = x.secret) ∧
      { s.dev.eng with vsWait := d.eng.vsWait, vsPasses := d.eng.vsPasses } = d.eng ∧
      d.sched.presented = s.dev.sched.presented ∧ (d.ctx c).outstanding = (s.dev.ctx c).outstanding + 1 ∧
      (d.ctx c).state = .waiting ∧ s.dev.Serves d c)) ∧
  (∀ (s : State) (c : Fin 512) (r : Request) (a : Attrs) (session : Bool), newPkAttrs r = some (a, session) →
    s.dev.Ready c 0x050D r [failIf (!s.dev.rootPresent) .rootAbsent] [] (if session then [] else [kekIndex r.bay]) [] →
    s.dev.on R.RN_STATUS_FAIL = false →
    let x := pkKeyGen (r.num 1) ((List.range 1024).map (fun k => Config.freeByte (s.dev.free + k)))
    Completes (.keyPairGeneration c) s (fun p d => p = s.perm ∧ (∃ (j : Job) (out : List Tlv),
        d.eng.vsWait = s.dev.eng.vsWait ++ [j] ∧ j.req = some r ∧ j.ctx = c ∧ j.status = x.status ∧ j.out = [] ∧
        j.finish = .store r.bay 0 (s.dev.newObj a x.newKey) session out ∧ out.map (·.val) = x.out) ∧
      { s.dev.eng with vsWait := d.eng.vsWait, vsPasses := d.eng.vsPasses } = d.eng ∧
      d.sched.presented = s.dev.sched.presented ∧ (d.ctx c).outstanding = (s.dev.ctx c).outstanding + 1 ∧
      s.dev.Serves d c)) ∧
  (∀ (s : State) (c : Fin 512) (r : Request) (op : PkOp) (ks : List Obj) (dest : Dest), s.dev.Runs c r →
    0x0501 ≤ op.func → op.func ≤ 0x050C → op.inputs.all (fun x => x.fits && x.plain) = true →
    ((∃ o, op.dest = .buf o ∧ dest = .buf o) ∨ op.dest = .none ∧ dest = .none ∨
      (op.func = 0x0503 ∨ op.func = 0x0509 ∨ op.func = 0x050A) ∧ ∃ n, op.dest = .lane n ∧ dest = .secret n) →
    ((pkKeyKinds op.func).isNone = true ∧ ks = [] ∨ (pkKeyKinds op.func).isSome = true ∧
      s.dev.cacheBusy r.bay [op.key] = false ∧
      (s.dev.resolve c r.bay [{ handle := op.key, fits := pkFits op.func }]).1 = .keys ks) →
    s.dev.on R.RN_STATUS_FAIL = false →
    let x := pkRun op.func (ks.getD 0 default).pkKind (ks.getD 0 default).key (op.inputs.map (s.dev.ctx c).read)
      ((List.range (pkDraws op.func)).map (fun k => Config.freeByte (s.dev.free + k)))
    Completes (.microopPk c op) s (fun p d => p = s.perm ∧ (∃ j : Job, d.eng.vsWait = s.dev.eng.vsWait ++ [j] ∧
        j.req = some r ∧ j.ctx = c ∧ j.status = x.status ∧ j.finish = .token ∧ j.clocks = x.clocks ∧ j.dest = dest ∧
        j.out = (match dest with | .secret _ => x.secret | _ => x.out.flatten)) ∧
      { s.dev.eng with vsWait := d.eng.vsWait, vsPasses := d.eng.vsPasses } = d.eng ∧
      (d.ctx c).outstanding = (s.dev.ctx c).outstanding + 1 ∧ s.dev.Serves d c)) ∧
  (∀ (s : State) (c : Fin 512) (r : Request) (op : PkOp) (n : Nat), s.dev.Runs c r → op.dest = .lane n →
    op.func ≠ 0x0503 → op.func ≠ 0x0509 → op.func ≠ 0x050A →
    Completes (.microopPk c op) s (fun p d => p = s.perm ∧
      d.eng = { s.dev.eng with tokens := s.dev.eng.tokens ++ [⟨c, some r, .keyUsage⟩] }))

/-- R283, R290 to R295, R314. -/
def Obligations.VoussoirEnginesRunTheirJobs : Prop :=
  (∀ (s : State) (e o : Nat) (j : Job), s.dev.workLevel s.perm.level < 2 →
    (List.range 16).find? (fun k => s.dev.engineFree k) = some e →
    s.dev.grantOwner R.BY_VS_SHARE_EFFECTIVE s.dev.eng.vsPasses s.dev.eng.vsLast s.dev.vsOwners = some o →
    s.dev.eng.vsWait.find? (fun k => k.owner == o) = some j →
    Completes .voussoirClaim s (fun p d => p = s.perm ∧ (d.engine e).curJob = some j ∧
      (d.engine e).cur = j.lock (if j.supervisor then 2 else 1) ∧ d.eng.vsWait = s.dev.eng.vsWait.erase j ∧
      (∀ k, k ≠ e → d.engine k = s.dev.engine k) ∧ (∀ k < e, s.dev.engineFree k = false) ∧
      { s.dev with
        eng := { s.dev.eng with
          vsWait := d.eng.vsWait
          engines := d.eng.engines
          vsPasses := d.eng.vsPasses
          vsPresent := d.eng.vsPresent
          vsLast := d.eng.vsLast }
        log := { s.dev.log with acc := d.log.acc } } = d ∧
      (0 < s.dev.grantShare R.BY_VS_SHARE_EFFECTIVE o → Tab.get d.eng.vsPasses o 0 = Tab.get s.dev.eng.vsPasses o 0 +
        j.cost * 65536 / s.dev.grantShare R.BY_VS_SHARE_EFFECTIVE o))) ∧
  (∀ s : State, (2 ≤ s.dev.workLevel s.perm.level ∨ s.dev.eng.vsWait = [] ∨ ∀ k < 16, s.dev.engineFree k = false) →
    Completes .voussoirClaim s (fun p d => p = s.perm ∧ d = s.dev)) ∧
  (∀ (s : State) (e : Fin 16) (j : Job) (clocks : Nat), (s.dev.engine e).curJob = some j → s.dev.stopped 5 = false →
    (j.finish.counted = true → clocks = j.clocks) →
    Completes (.voussoirJobEnd e clocks true .none) s (fun p d => p = s.perm ∧ d.engine e = Core.idle ∧
      (∀ k, k ≠ e.val → d.engine k = s.dev.engine k) ∧ d.get R.VS_JOBS e = (s.dev.get R.VS_JOBS e + 1) % R.VS_JOBS.bound ∧
      d.get R.VS_BUSY_CLOCKS e = (s.dev.get R.VS_BUSY_CLOCKS e + clocks) % R.VS_BUSY_CLOCKS.bound ∧
      (j.finish = .token → s.dev.jobHeld j = true →
        d.eng.tokens = s.dev.eng.tokens ++ [⟨j.ctx, j.req, j.status⟩] ∧
        (j.status = .ok → d.ctx j.ctx = (s.dev.ctx j.ctx).put false j.dest j.out)) ∧
      (∀ r out, j.finish = .whole out → j.req = some r → s.dev.jobHeld j = true →
        d.sched.presented = s.dev.sched.presented ++
          [⟨r, j.ctx, (s.dev.ctx j.ctx).owned, j.status, if j.status = .ok then out else []⟩]))) ∧
  (∀ (s : State) (e : Fin 16) (j : Job) (clocks : Nat) (ecc : EccEvent), (s.dev.engine e).curJob = some j →
    s.dev.stopped 5 = false → j.finish.counted = true ∧ clocks ≠ j.clocks ∨ ecc = .uncorrectable →
    Completes (.voussoirJobEnd e clocks true ecc) s (fun p d => p = s.perm ∧ d.engine e = Core.idle ∧
      (ecc ≠ .uncorrectable → d.get R.VS_TIME_FAULTS e = min (R.VS_TIME_FAULTS.bound - 1) (s.dev.get R.VS_TIME_FAULTS e + 1)) ∧
      (ecc = .uncorrectable → d.on R.VS_UCODE_STATUS_VALID e = false) ∧
      (j.finish = .token → s.dev.jobHeld j = true → ⟨j.ctx, j.req, .engineFault⟩ ∈ d.eng.tokens) ∧
      (∀ r out, j.finish = .whole out → j.req = some r → s.dev.jobHeld j = true →
        d.sched.presented = s.dev.sched.presented ++ [⟨r, j.ctx, (s.dev.ctx j.ctx).owned, .engineFault, []⟩]))) ∧
  (∀ (s : State) (e : Fin 16) (j : Job) (clocks : Nat) (ecc : EccEvent), (s.dev.engine e).curJob = some j →
    s.dev.stopped 5 = false →
    Completes (.voussoirJobEnd e clocks false ecc) s (fun p d => p = s.perm ∧ d.on R.VS_SERVICE_FAULTED e = true ∧
      (d.engine e).cur.state = 3 ∧ (d.engine e).curJob = none ∧
      d.get R.VS_WIPE_FAULTS e = min (R.VS_WIPE_FAULTS.bound - 1) (s.dev.get R.VS_WIPE_FAULTS e + 1) ∧
      (j.finish = .token → s.dev.jobHeld j = true → ⟨j.ctx, j.req, .wipeFault⟩ ∈ d.eng.tokens))) ∧
  (∀ (s : State) (e : Fin 16) (j : Job), (s.dev.engine e).curJob = some j → s.dev.stopped 5 = false →
    (s.dev.abortCause (s.dev.workLevel s.perm.level) j).isSome = true →
    Completes (.voussoirAbort e true) s (fun p d => p = s.perm ∧ d.engine e = Core.idle ∧
      d.get R.VS_ABORTS e = min (R.VS_ABORTS.bound - 1) (s.dev.get R.VS_ABORTS e + 1) ∧
      (j.finish = .token → s.dev.jobHeld j = true → ⟨j.ctx, j.req, .aborted⟩ ∈ d.eng.tokens))) ∧
  (∀ (s : State) (e : Fin 16) (b : Bool), (∀ j, (s.dev.engine e).curJob = some j →
      s.dev.abortCause (s.dev.workLevel s.perm.level) j = none) →
    Completes (.voussoirAbort e b) s (fun p d => p = s.perm ∧ d = s.dev)) ∧
  (∀ (s : State) (e : Fin 16) (v : Word), Completes (.vsOfflineWrite e v) s (fun p d => p = s.perm ∧
      d.get R.VS_SERVICE_OFFLINE e = v.toNat % 2 ∧ { s.dev with regs := d.regs } = d ∧
      s.dev.SameRegs d (fun key => key = R.VS_SERVICE_OFFLINE.key e 0)))

/-- R265, R297 to R299. The standards' algorithms are log entry 5. -/
def Obligations.MicrocodeAndBootRoutines : Prop :=
  (∀ (s : State) (req : Requester) (e : Fin 16) (v : Word), v.toNat % 2 = 1 → s.dev.on R.VS_UCODE_CTL e = false →
    Completes (.vsUcodeLoad req e v) s (fun p d => p = s.perm ∧
      if req.origin = .supervisor ∧ s.dev.on R.VS_SERVICE_OFFLINE e = true ∧ (s.dev.engine e).isIdle = true then
        d.on R.VS_UCODE_CTL e = true ∧ d.on R.VS_UCODE_STATUS_LOADING e = true ∧ d.on R.VS_UCODE_STATUS_VALID e = false ∧
          d.get R.VS_UCODE_VERSION_VERSION e = 0 ∧ d.get R.VS_UCODE_FMAX e = 0 ∧ { s.dev with regs := d.regs } = d
      else d.get (R.ERR_CODE .vs) e = Status.policyDenied.code ∧
        s.dev.Reported (fun key => reportKey key) d)) ∧
  (∀ (s : State) (req : Requester) (e : Fin 16) (v : Word), v.toNat % 2 = 0 ∨ s.dev.on R.VS_UCODE_CTL e = true →
    Completes (.vsUcodeLoad req e v) s (fun p d => p = s.perm ∧ d = s.dev)) ∧
  (∀ (s : State) (e : Fin 16) (u : Ucode), s.dev.on R.VS_UCODE_STATUS_LOADING e = true → u.authentic = true →
    s.dev.runsRelease u.release = true →
    Completes (.vsUcodeLoadDone e u) s (fun p d => p = s.perm ∧ d.on R.VS_UCODE_STATUS_VALID e = true ∧
      d.on R.VS_UCODE_STATUS_LOADING e = false ∧ d.on R.VS_UCODE_CTL e = false ∧
      d.get R.VS_UCODE_STATUS_STATUS e = Status.ok.code ∧
      d.get R.VS_UCODE_VERSION_RELEASE e = u.release % R.VS_UCODE_VERSION_RELEASE.bound ∧
      d.get R.VS_UCODE_VERSION_VERSION e = u.version % R.VS_UCODE_VERSION_VERSION.bound ∧
      d.get R.VS_UCODE_FMAX e = u.formatMax % R.VS_UCODE_FMAX.bound ∧ (d.get (R.INT_RAW .vs) e).testBit 4 = true ∧
      s.dev.SameWork d)) ∧
  (∀ (s : State) (e : Fin 16) (u : Ucode), s.dev.on R.VS_UCODE_STATUS_LOADING e = true →
    u.authentic = false ∨ s.dev.runsRelease u.release = false →
    Completes (.vsUcodeLoadDone e u) s (fun p d => p = s.perm ∧ d.on R.VS_UCODE_STATUS_VALID e = false ∧
      d.on R.VS_UCODE_STATUS_LOADING e = false ∧ d.get R.VS_UCODE_FMAX e = 0 ∧
      d.get R.VS_UCODE_STATUS_STATUS e = (if u.authentic then Status.ucodeBinding else .ucodeAuth).code ∧
      (d.get (R.INT_RAW .vs) e).testBit 5 = true ∧ s.dev.SameWork d)) ∧
  (∀ (s : State) (e : Fin 16) (u : Ucode), s.dev.on R.VS_UCODE_STATUS_LOADING e = false →
    Completes (.vsUcodeLoadDone e u) s (fun p d => p = s.perm ∧ d = s.dev)) ∧
  (∀ (s : State) (i : Instr) (out : Bytes), s.dev.bootFree = true →
    ((∃ root, s.dev.keys.root = some root ∧ i = .identityKeyDerivation ∧ out = identityPublic root) ∨
      (∃ m, i = .bootSha512 m ∧ out = sha512 m) ∨
      (∃ point m sig, i = .bootSignatureVerify point m sig ∧ out = [if (pkEcdsaVerify
        [[0x03#8], [0x03#8], sha512 m, [0x04#8] ++ point, sig]).status = .ok then 0x01#8 else 0x00#8])) →
    Completes i s (fun p d => p = s.perm ∧ d = { s.dev with eng := { s.dev.eng with boot := out } })) ∧
  (∀ (s : State) (i : Instr), s.dev.bootFree = false →
    (i = .identityKeyDerivation ∨ (∃ m, i = .bootSha512 m) ∨ ∃ point m sig, i = .bootSignatureVerify point m sig) →
    Completes i s (fun p d => p = s.perm ∧ d = s.dev))

/-- R97, R106, R119 to R121, R132, R133, R572. -/
def Obligations.PinUnitLanesAndGovernor : Prop :=
  (∀ (s : State) (j : Job) (rest : List Job) (l : Nat), s.dev.eng.pinWait = j :: rest → l < 24 →
    Tab.look s.dev.eng.pinLanes l = none → (∀ k < l, Tab.look s.dev.eng.pinLanes k ≠ none) →
    Completes .pinLaneGrant s (fun p d => p = s.perm ∧
      d = { s.dev with eng := { s.dev.eng with pinWait := rest, pinLanes := Tab.put s.dev.eng.pinLanes l j } })) ∧
  (∀ (s : State) (l : Fin 24) (j : Job) (r : Request), Tab.look s.dev.eng.pinLanes l = some j → j.req = some r →
    (s.dev.ctx j.ctx).req = some r →
    Completes (.pinStepEnd l j.clocks) s (fun p d => p = s.perm ∧ Tab.look d.eng.pinLanes l = none ∧
      (∀ k, k ≠ l.val → Tab.look d.eng.pinLanes k = Tab.look s.dev.eng.pinLanes k) ∧
      d.sched.failures = (if s.dev.stepFails j then s.dev.sched.failures ++ [j.bay] else s.dev.sched.failures) ∧
      d.get R.PN_STEPS = (s.dev.get R.PN_STEPS + 1) % R.PN_STEPS.bound ∧
      (j.finish = .token → d.eng.tokens = s.dev.eng.tokens ++ [⟨j.ctx, some r, .ok⟩] ∧
        (d.ctx j.ctx).deferred = (s.dev.ctx j.ctx).deferred.orElse j.status) ∧
      (∀ out, j.finish = .whole out →
        let st := (s.dev.ctx j.ctx).deferred.orElse j.status
        d.sched.presented = s.dev.sched.presented ++
          [⟨r, j.ctx, (s.dev.ctx j.ctx).owned, st, if st = .ok then out else []⟩]))) ∧
  (∀ (s : State) (l : Fin 24) (j : Job) (r : Request) (clocks : Nat), Tab.look s.dev.eng.pinLanes l = some j →
    j.req = some r → (s.dev.ctx j.ctx).req = some r → clocks ≠ j.clocks →
    Completes (.pinStepEnd l clocks) s (fun p d => p = s.perm ∧ Tab.look d.eng.pinLanes l = none ∧
      (d.get (R.INT_RAW .pn)).testBit 2 = true ∧
      d.get R.PN_TIME_FAULTS = min (R.PN_TIME_FAULTS.bound - 1) (s.dev.get R.PN_TIME_FAULTS + 1) ∧
      d.sched.failures = s.dev.sched.failures ∧
      (j.finish = .token → d.eng.tokens = s.dev.eng.tokens ++ [⟨j.ctx, some r, .engineFault⟩] ∧
        d.ctx j.ctx = s.dev.ctx j.ctx) ∧
      (∀ out, j.finish = .whole out →
        d.sched.presented = s.dev.sched.presented ++ [⟨r, j.ctx, (s.dev.ctx j.ctx).owned, .engineFault, []⟩]))) ∧
  (∀ s : State, s.dev.sched.time % 64000 = 0 → s.dev.sched.time ≠ 0 → s.dev.sched.govDone ≠ s.dev.sched.time →
    Completes .governorRefill s (fun p d => p = s.perm ∧
      (∀ b < 256, s.dev.eff R.PN_BAY_GOV_CTL_EN 0 b = 1 →
        let acc := Tab.get s.dev.sched.govAcc b 0 + s.dev.eff R.PN_BAY_GOV_RATE 0 b
        let lvl := levelInt (s.dev.get R.PN_BAY_GOV_LEVEL 0 b)
        levelInt (d.get R.PN_BAY_GOV_LEVEL 0 b) =
            min (lvl + (acc / 1000 : Nat)) (max lvl (s.dev.eff R.PN_BAY_GOV_BURST 0 b)) ∧
          Tab.get d.sched.govAcc b 0 = acc % 1000) ∧
      (∀ b, s.dev.eff R.PN_BAY_GOV_CTL_EN 0 b ≠ 1 → d.get R.PN_BAY_GOV_LEVEL 0 b = s.dev.get R.PN_BAY_GOV_LEVEL 0 b ∧
        Tab.get d.sched.govAcc b 0 = Tab.get s.dev.sched.govAcc b 0) ∧
      s.dev.SameRegs d (fun key => ∃ b, key = R.PN_BAY_GOV_LEVEL.key 0 b) ∧
      { s.dev with
        regs := d.regs
        sched := { s.dev.sched with govAcc := d.sched.govAcc, govDone := s.dev.sched.time } } = d)) ∧
  (∀ s : State, s.dev.sched.time % 64000 ≠ 0 ∨ s.dev.sched.time = 0 ∨ s.dev.sched.govDone = s.dev.sched.time →
    Completes .governorRefill s (fun p d => p = s.perm ∧ d = s.dev)) ∧
  (∀ (s : State) (req : Requester) (reg : PnReg) (v : Word),
    let n := v.toNat
    let b := s.dev.get R.PN_BAY_INDEX
    let ok := match reg with
      | .limits => 4 ≤ bits n 12 8 ∧ bits n 12 8 ≤ 16 ∧ 4 ≤ bits n 3 0 ∧ bits n 3 0 ≤ 12 ∧ bits n 3 0 ≤ bits n 7 4 ∧
          bits n 7 4 ≤ 12
      | .gov => bits n 31 16 ≠ 0
      | .govCtl => True
    let fields := match reg with
      | .limits => [(R.PN_BAY_LIMITS_MAC_MIN, bits n 12 8), (R.PN_BAY_LIMITS_PIN_MAX, bits n 7 4),
          (R.PN_BAY_LIMITS_PIN_MIN, bits n 3 0)]
      | .gov => [(R.PN_BAY_GOV_BURST, bits n 31 16), (R.PN_BAY_GOV_RATE, bits n 15 0)]
      | .govCtl => [(R.PN_BAY_GOV_CTL_CVV, bits n 1 1), (R.PN_BAY_GOV_CTL_EN, bits n 0 0)]
    (ok → Completes (.pnBayWrite req reg v) s (fun p d => p = s.perm ∧
      (∀ f ∈ fields, d.get f.1 0 b = f.2 ∧ f.1.key 0 b ∈ d.regs.staged) ∧ d.regs.eff = s.dev.regs.eff ∧
      (∀ key, (∀ f ∈ fields, key ≠ f.1.key 0 b) → Tab.look d.regs.vals key = Tab.look s.dev.regs.vals key) ∧
      { s.dev with regs := d.regs } = d)) ∧
    (¬ ok → Completes (.pnBayWrite req reg v) s (fun p d => p = s.perm ∧
      d.get (R.ERR_CODE .pn) = Status.inputRange.code ∧ s.dev.Reported (fun key => reportKey key) d))) ∧
  (∀ (s : State) (req : Requester) (v : Word),
    let b := s.dev.get R.PN_BAY_INDEX
    let sets := bits v.toNat 16 16 = 1 ∧ s.dev.get R.PN_BAY_XLATE_DOWNGRADE 0 b = 0
    (¬ sets ∨ s.dev.authStands 6 b = true → Completes (.pnBayXlateWrite req v) s (fun p d => p = s.perm ∧
      d.get R.PN_BAY_XLATE_DOWNGRADE 0 b = bits v.toNat 16 16 ∧ d.get R.PN_BAY_XLATE_PERMIT 0 b = bits v.toNat 15 0 ∧
      R.PN_BAY_XLATE_DOWNGRADE.key 0 b ∈ d.regs.staged ∧ R.PN_BAY_XLATE_PERMIT.key 0 b ∈ d.regs.staged ∧
      d.regs.eff = s.dev.regs.eff ∧ (¬ sets → { s.dev with regs := d.regs } = d) ∧
      (sets → d.get R.CD_CER_STATUS_STATE = 0))) ∧
    (sets → s.dev.authStands 6 b = false → Completes (.pnBayXlateWrite req v) s (fun p d => p = s.perm ∧
      d.get (R.ERR_CODE .pn) = Status.policyDenied.code ∧ (d.get (R.INT_RAW .pn)).testBit 4 = true ∧
      s.dev.Reported (fun key => reportKey key) d)))

/-- R196, R199, R200, R223. Entries are held unmasked (log entry 16). -/
def Obligations.KeyCacheSweepsAndQuotas : Prop :=
  (∀ s : State, Completes .repointSweep s (fun p d => p = s.perm ∧ d.on R.KC_REPOINT_SWEEPING = true ∧
      (if s.dev.on R.KC_REPOINT_SWEEPING then d = { s.dev with keys := { s.dev.keys with sweepDue := true } }
        else d.keys.cache = s.dev.keys.cache ∧ d.keys.sweepDue = s.dev.keys.sweepDue ∧
          ({ s.dev with keys := d.keys, free := d.free }).SameWork d))) ∧
  (∀ s : State, s.dev.on R.KC_REPOINT_SWEEPING = true →
    Completes .repointSweepEnd s (fun p d => p = s.perm ∧ d.get R.KC_SWEEPS = (s.dev.get R.KC_SWEEPS + 1) % R.KC_SWEEPS.bound ∧
      d.on R.KC_REPOINT_SWEEPING = s.dev.keys.sweepDue ∧ d.keys.sweepDue = false ∧ d.keys.cache = s.dev.keys.cache ∧
      (s.dev.keys.sweepDue = true → (d.get (R.INT_RAW .kc)).testBit 2 = true) ∧
      ({ s.dev with keys := d.keys, free := d.free }).SameWork d)) ∧
  (∀ s : State, s.dev.on R.KC_REPOINT_SWEEPING = false →
    Completes .repointSweepEnd s (fun p d => p = s.perm ∧ d = s.dev)) ∧
  (∀ (s : State) (b : Fin 256) (w : ResetWait), Tab.look s.dev.sched.resets b = some w → w.flushing = true →
    Completes (.keyCacheFlushDone (some b)) s (fun p d => p = s.perm ∧
      Tab.look d.sched.resets b = some { w with flushing := false } ∧ (d.get (R.INT_RAW .kc)).testBit 3 = true ∧
      ({ s.dev with sched := { s.dev.sched with resets := d.sched.resets } }).Reported (fun key => reportKey key) d)) ∧
  (∀ s : State, s.dev.keys.flushing = true →
    Completes (.keyCacheFlushDone none) s (fun p d => p = s.perm ∧ (d.get (R.INT_RAW .kc)).testBit 3 = true ∧
      ({ s.dev with keys := { s.dev.keys with flushing := false } }).Reported (fun key => reportKey key) d)) ∧
  (∀ (s : State) (req : Requester) (bay : Fin 256) (v : Word),
    let sum := ((List.range 256).map (fun b => if b = bay.val then v.toNat % 2 ^ 19 else s.dev.get R.KC_BAY_QUOTA 0 b)).sum
    (sum ≤ 258048 → Completes (.kcBayQuotaWrite req bay v) s (fun p d => p = s.perm ∧
      d.get R.KC_BAY_QUOTA 0 bay = v.toNat % 2 ^ 19 ∧ R.KC_BAY_QUOTA.key 0 bay ∈ d.regs.staged ∧
      d.regs.eff = s.dev.regs.eff ∧ { s.dev with regs := d.regs } = d ∧
      ∀ key, key ≠ R.KC_BAY_QUOTA.key 0 bay → Tab.look d.regs.vals key = Tab.look s.dev.regs.vals key)) ∧
    (258048 < sum → Completes (.kcBayQuotaWrite req bay v) s (fun p d => p = s.perm ∧
      d.get (R.ERR_CODE .kc) = Status.inputRange.code ∧ s.dev.Reported (fun key => reportKey key) d))) ∧
  (∀ (s : State) (req : Requester) (bay : Fin 256) (v : Word),
    let sum := ((List.range 256).map (fun b => if b = bay.val then v.toNat % 2 ^ 21 else s.dev.get R.VT_BAY_QUOTA 0 b)).sum
    (sum ≤ s.dev.get R.VT_AREA → Completes (.vtBayQuotaWrite req bay v) s (fun p d => p = s.perm ∧
      d.get R.VT_BAY_QUOTA 0 bay = v.toNat % 2 ^ 21 ∧ R.VT_BAY_QUOTA.key 0 bay ∈ d.regs.staged ∧
      d.regs.eff = s.dev.regs.eff ∧ { s.dev with regs := d.regs } = d ∧
      ∀ key, key ≠ R.VT_BAY_QUOTA.key 0 bay → Tab.look d.regs.vals key = Tab.look s.dev.regs.vals key)) ∧
    (s.dev.get R.VT_AREA < sum → Completes (.vtBayQuotaWrite req bay v) s (fun p d => p = s.perm ∧
      d.get (R.ERR_CODE .vt) = Status.inputRange.code ∧ s.dev.Reported (fun key => reportKey key) d)))

/-- R190, R203, R207, R244, R521. -/
def Obligations.ReservationsAndWritesBecomeDurable : Prop :=
  (∀ (s : State) (n i c : Nat) (o : Obj) (r : Request), s.dev.keys.useWrites[n]? = some i →
    Tab.look s.dev.keys.objs (objIndex (indexBay i) (i % 2 ^ 34)) = some o → s.dev.keys.waits = [⟨c, i, false⟩] →
    (s.dev.ctx c).req = some r → s.dev.bulkQueue (indexBay i) = [] →
    Completes (.useReservationDurable n) s (fun p d => p = s.perm ∧ d.keys.waits = [] ∧ (d.ctx c).state = .running ∧
      Tab.look d.keys.objs (objIndex (indexBay i) (i % 2 ^ 34)) = some { o with usesReserved := min 65536 o.usesLeft } ∧
      d.keys.useWrites = s.dev.keys.useWrites.filter (· ≠ i) ∧ (∀ k, k ≠ c → d.ctx k = s.dev.ctx k) ∧
      { s.dev with
        keys := { s.dev.keys with objs := d.keys.objs, useWrites := d.keys.useWrites, waits := [] }
        sched := { s.dev.sched with ctxs := d.sched.ctxs } } = d)) ∧
  (∀ (s : State) (n i c : Nat) (x : Nonce) (r : Request), (s.dev.keys.nonces.filter (fun e => e.2.reserving))[n]? = some (i, x) →
    s.dev.keys.waits = [⟨c, i, true⟩] → (s.dev.ctx c).req = some r →
    Completes (.nonceReservationDurable n true) s (fun p d => p = s.perm ∧ d.keys.waits = [] ∧ (d.ctx c).state = .running ∧
      d.nonce i = { x with reservedTo := min (2 ^ 64) (x.reservedTo + 2 ^ 24), reserving := false } ∧
      (∀ k, k ≠ i → d.nonce k = s.dev.nonce k) ∧ (∀ k, k ≠ c → d.ctx k = s.dev.ctx k))) ∧
  (∀ (s : State) (n i c : Nat) (x : Nonce) (r : Request), (s.dev.keys.nonces.filter (fun e => e.2.reserving))[n]? = some (i, x) →
    s.dev.keys.waits = [⟨c, i, true⟩] → (s.dev.ctx c).req = some r → s.dev.bulkQueue (indexBay i) = [] →
    Completes (.nonceReservationDurable n false) s (fun p d => p = s.perm ∧ d.keys.waits = [] ∧
      d.nonce i = { x with reserving := false } ∧
      d.sched.presented = s.dev.sched.presented ++ [⟨r, c, (s.dev.ctx c).owned, .nonceReserve, []⟩])) ∧
  (∀ (s : State) (w : VaultWrite) (r : Request), s.dev.keys.writes = [w] → w.req = some r → w.whole = true →
    (s.dev.ctx w.ctx).req = some r →
    Completes (.vaultWriteDurable 0) s (fun p d => p = s.perm ∧ d.keys.writes = [] ∧
      d.sched.presented = s.dev.sched.presented ++ [⟨r, w.ctx, (s.dev.ctx w.ctx).owned, .ok, w.out⟩] ∧
      (match w.item with
        | .object h o => (∃ x, Tab.look d.keys.objs (objIndex w.bay h) = some x ∧ x.attrs = o.attrs ∧ x.key = o.key ∧
            x.deletedAt = o.deletedAt ∧ x.format = o.format) ∧
            (∀ k, k ≠ objIndex w.bay h → Tab.look d.keys.objs k = Tab.look s.dev.keys.objs k) ∧
            (o.deletedAt.isSome = true → d.cached w.bay h = false) ∧ d.keys.entries = s.dev.keys.entries
        | .entry n e => Tab.look d.keys.entries n = some e ∧ d.keys.objs = s.dev.keys.objs ∧
            (∀ k, k ≠ n → Tab.look d.keys.entries k = Tab.look s.dev.keys.entries k) ∧
            d.keys.slots = s.dev.keys.slots.filter (fun x => !(x.bay == e.bay && x.pan == e.pan))) ∧
      d.eng = s.dev.eng ∧ s.dev.Serves d w.ctx)) ∧
  (∀ s : State, Completes .retentionPurgeCheck s (fun p d => p = s.perm ∧
      d.keys.objs = s.dev.keys.objs.filter (fun e => match e.2.deletedAt with
        | some t => !(decide (s.dev.eff R.VT_BAY_RETAIN 0 (e.1 / 2 ^ 24) ≤ (s.dev.plinth.seconds - t) / 86400) &&
            !s.dev.exporting (e.1 / 2 ^ 24))
        | none => true) ∧
      d.keys.entries = s.dev.keys.entries.filter (fun e => match e.2.state with
        | .retired t => !(decide (s.dev.eff R.VT_BAY_RETAIN 0 e.2.bay ≤ (s.dev.plinth.seconds - t) / 86400) &&
            !s.dev.exporting e.2.bay)
        | _ => true) ∧
      { s.dev with keys := { s.dev.keys with objs := d.keys.objs, entries := d.keys.entries, nonces := d.keys.nonces } } = d)) ∧
  (∀ (s : State) (blocks : Nat) (progress : Fin 101) (days : BitVec 16) (wear : Byte),
    Completes (.nandRefresh blocks progress days wear) s (fun p d => p = s.perm ∧
      d.get R.PL_NAND_REFRESHED = min (R.PL_NAND_REFRESHED.bound - 1) (s.dev.get R.PL_NAND_REFRESHED + blocks) ∧
      d.get R.PL_NAND = progress.val * 65536 + days.toNat ∧ d.get R.VT_WEAR = wear.toNat ∧
      (s.dev.get R.VT_WEAR < 80 → 80 ≤ wear.toNat → (d.get (R.INT_RAW .vt)).testBit 3 = true) ∧
      s.dev.Reported (fun key => key = R.PL_NAND_REFRESHED.key 0 0 ∨ key = R.PL_NAND.key 0 0 ∨ key = R.VT_WEAR.key 0 0 ∨
        reportKey key) d))

/-- R176 to R181, R209 to R211. -/
def Obligations.NoiseSourcesAndTheRoot : Prop :=
  (∀ (s : State) (source : Fin 8) (test : Fin 2), (s.dev.get R.RN_STATUS_HEALTHY).testBit source = true →
    Completes (.rnSourceFail source test) s (fun p d => p = s.perm ∧
      d.get R.RN_STATUS_HEALTHY = s.dev.get R.RN_STATUS_HEALTHY - 2 ^ source.val ∧
      d.on R.RN_STATUS_FAIL = decide (((List.range 8).filter (fun i => (d.get R.RN_STATUS_HEALTHY).testBit i)).length < 4) ∧
      (if test = 0 then d.get R.RN_RCT_FAILS = min (R.RN_RCT_FAILS.bound - 1) (s.dev.get R.RN_RCT_FAILS + 1)
        else d.get R.RN_APT_FAILS = min (R.RN_APT_FAILS.bound - 1) (s.dev.get R.RN_APT_FAILS + 1)) ∧
      (d.get (R.INT_RAW .rn)).testBit 2 = true ∧
      s.dev.Reported (fun key => key = R.RN_STATUS_HEALTHY.key 0 0 ∨ key = R.RN_STATUS_FAIL.key 0 0 ∨
        key = R.RN_RCT_FAILS.key 0 0 ∨ key = R.RN_APT_FAILS.key 0 0 ∨ reportKey key) d)) ∧
  (∀ (s : State) (source : Fin 8) (test : Fin 2), (s.dev.get R.RN_STATUS_HEALTHY).testBit source = false →
    Completes (.rnSourceFail source test) s (fun p d => p = s.perm ∧ d = s.dev)) ∧
  (∀ (s : State) (passed : Byte), s.dev.on R.RN_STATUS_STARTED = false →
    Completes (.rnStartupTestDone passed) s (fun p d => p = s.perm ∧ d.on R.RN_STATUS_STARTED = true ∧
      d.get R.RN_STATUS_HEALTHY = passed.toNat ∧
      d.on R.RN_STATUS_FAIL = decide (((List.range 8).filter (fun i => passed.toNat.testBit i)).length < 4) ∧
      s.dev.SameWork d)) ∧
  (∀ (s : State) (i : Fin 257), Completes (.drbgReseed i) s (fun p d => p = s.perm ∧
      (if s.dev.on R.RN_STATUS_FAIL then (d.drbg i).due = true ∧ (d.drbg i).requests = (s.dev.drbg i).requests ∧
          d.get R.RN_RESEEDS = s.dev.get R.RN_RESEEDS
        else d.drbg i = Drbg.fresh ∧ d.get R.RN_RESEEDS = (s.dev.get R.RN_RESEEDS + 1) % R.RN_RESEEDS.bound) ∧
      (∀ k, k ≠ i.val → d.drbg k = s.dev.drbg k) ∧
      { s.dev with
        regs := d.regs
        keys := { s.dev.keys with drbgs := d.keys.drbgs } } = d)) ∧
  (∀ (s : State) (errs : Option Nat × Option Nat) (e : Nat) (key share : Bytes), s.dev.get R.KT_STATUS_ROOT = 1 →
    s.dev.helperOrder.findSome? (fun i => if i = 0 then errs.1 else errs.2) = some e →
    s.dev.referenceKey s.perm = some key → s.dev.plinth.share = some share →
    Completes (.rootRegenerationDone errs) s (fun p d => p = s.perm ∧
      (if identityPublic (quarryRoot share) = key then
        d.get R.KT_STATUS_ROOT = 2 ∧ d.keys.root = some (quarryRoot share) ∧ d.keys.nodes = s.dev.keys.nodes
      else d.get R.KT_STATUS_ROOT = 3 ∧ d.keys.root = none ∧ d.keys.nodes = [] ∧
        (d.get (R.INT_RAW .kt)).testBit 2 = true) ∧
      d.get R.KT_STATUS_CORRECTED = e % R.KT_STATUS_CORRECTED.bound ∧ d.keys.resuming = false ∧
      (s.dev.get R.KT_REENROL * 512 < e * 100 → d.on R.KT_STATUS_REENROLLED = true ∧
        d.keys.helpers.1.count = max s.dev.keys.helpers.1.count s.dev.keys.helpers.2.count + 1 ∧
        d.keys.helpers.2 = d.keys.helpers.1))) ∧
  (∀ (s : State) (errs : Option Nat × Option Nat), s.dev.get R.KT_STATUS_ROOT = 1 →
    (s.dev.helperOrder.findSome? (fun i => if i = 0 then errs.1 else errs.2) = none ∨ s.dev.plinth.share = none ∨
      s.dev.referenceKey s.perm = none) →
    Completes (.rootRegenerationDone errs) s (fun p d => p = s.perm ∧ d.get R.KT_STATUS_ROOT = 3 ∧ d.keys.root = none ∧
      d.keys.nodes = [] ∧ (d.get (R.INT_RAW .kt)).testBit 2 = true)) ∧
  (∀ (s : State) (errs : Option Nat × Option Nat), s.dev.get R.KT_STATUS_ROOT ≠ 1 →
    Completes (.rootRegenerationDone errs) s (fun p d => p = s.perm ∧ d = s.dev))

/-- R187, R219, R224. -/
def Obligations.KeyTreeCommandsUnderAuthorization : Prop :=
  (∀ (s : State) (req : Requester), s.dev.authStands 4 = true →
    let f := s.dev.get R.KT_CMD_ARG % 65536
    let present := s.dev.keys.floorNext.getD (s.dev.get R.KT_FLEET_FLOOR_FLOOR)
    Completes (.ktRaiseFloor req) s (fun p d => p = s.perm ∧ d.on R.KT_CMD_STATUS_BUSY = false ∧
      (d.get (R.INT_RAW .kt)).testBit 3 = true ∧ d.get R.KT_FLEET_FLOOR_FLOOR = s.dev.get R.KT_FLEET_FLOOR_FLOOR ∧
      (if present < f ∧ s.dev.formatReached f = true then
        d.keys.floorNext = some f ∧ d.keys.floorRecord = s.dev.keys.floorRecord ++ [(f, s.dev.plinth.seconds)] ∧
          d.power.floorCopy = f ∧ d.get R.KT_CMD_STATUS_STATUS = Status.ok.code ∧ d.get R.CD_CER_STATUS_STATE = 0
      else d.get R.KT_CMD_STATUS_STATUS = Status.floorUnsupported.code ∧ d.keys = s.dev.keys ∧ d.power = s.dev.power ∧
        s.dev.authStands 4 = d.authStands 4))) ∧
  (∀ (s : State) (req : Requester) (bay : Fin 256) (i : Instr),
    (i = .ktRaiseFloor req ∧ s.dev.authStands 4 = false ∨ i = .ktSetExternalIv req bay ∧ s.dev.authStands 5 bay = false) →
    Completes i s (fun p d => p = s.perm ∧ d.get (R.ERR_CODE .kt) = Status.policyDenied.code ∧
      (d.get (R.INT_RAW .kt)).testBit 4 = true ∧ s.dev.Reported (fun key => reportKey key) d)) ∧
  (∀ (s : State) (req : Requester) (bay : Fin 256) (i : Instr) (on : Bool) (o : Obj),
    (i = .ktSetExternalIv req bay ∧ on = true ∧ s.dev.authStands 5 bay = true ∨ i = .ktClearExternalIv bay ∧ on = false) →
    s.dev.rootPresent = true → s.dev.lookup bay (s.dev.get R.KT_CMD_ARG) = .key o → o.attrs.type = .symmetric →
    o.attrs.usage = .d0 → o.attrs.alg = .aes →
    Completes i s (fun p d => p = s.perm ∧ d.get R.KT_CMD_STATUS_STATUS = Status.ok.code ∧ d.on R.KT_CMD_STATUS_BUSY = false ∧
      (d.get (R.INT_RAW .kt)).testBit 3 = true ∧
      (if o.attrs.externalIv = on then d.keys = s.dev.keys
      else d.lookup bay (s.dev.get R.KT_CMD_ARG) =
          .key { o with format := s.dev.floor, attrs := { o.attrs with externalIv := on } } ∧
        (i = .ktSetExternalIv req bay → d.get R.CD_CER_STATUS_STATE = 0)))) ∧
  (∀ (s : State) (req : Requester) (bay : Fin 256) (i : Instr) (st : Status),
    (i = .ktSetExternalIv req bay ∧ s.dev.authStands 5 bay = true ∨ i = .ktClearExternalIv bay) →
    (s.dev.rootPresent = false ∧ st = .rootAbsent ∨
      s.dev.rootPresent = true ∧ (∀ o, s.dev.lookup bay (s.dev.get R.KT_CMD_ARG) ≠ .key o) ∧ st = .keyHandle ∨
      s.dev.rootPresent = true ∧ st = .keyUsage ∧ ∃ o, s.dev.lookup bay (s.dev.get R.KT_CMD_ARG) = .key o ∧
        (o.attrs.type ≠ .symmetric ∨ o.attrs.usage ≠ .d0 ∨ o.attrs.alg ≠ .aes)) →
    Completes i s (fun p d => p = s.perm ∧ d.get R.KT_CMD_STATUS_STATUS = st.code ∧ d.on R.KT_CMD_STATUS_BUSY = false ∧
      d.keys = s.dev.keys ∧ s.dev.SameWork d)) ∧
  (∀ (s : State) (req : Requester) (key : Option Bytes) (signed : Bool),
    let n := s.dev.get R.KT_CMD_ARG
    Completes (.ktInstallCertificate req key signed) s (fun p d => p = s.perm ∧ d.on R.KT_CMD_STATUS_BUSY = false ∧
      d.keys.certWait = false ∧
      (if n = 0 ∨ 2048 < n then d.get R.KT_CMD_STATUS_STATUS = Status.inputRange.code ∧
          d.get (R.ERR_CODE .kt) = Status.inputRange.code ∧ d.keys.certificate = s.dev.keys.certificate
      else if s.perm.lcState ≠ 2 then d.get R.KT_CMD_STATUS_STATUS = Status.lcState.code ∧
          d.keys.certificate = s.dev.keys.certificate
      else if s.dev.keys.certificate.isSome ∨ key.isNone ∨ key ≠ s.dev.keys.identity ∨ signed = false then
        d.get R.KT_CMD_STATUS_STATUS = Status.certRefused.code ∧ d.keys.certificate = s.dev.keys.certificate
      else d.get R.KT_CMD_STATUS_STATUS = Status.ok.code ∧ d.keys.certificate = some ((List.range n).map (fun i =>
        Tab.get s.dev.hbm (s.dev.get R.KT_CERT_ADDR_LO + 2 ^ 32 * s.dev.get R.KT_CERT_ADDR_HI + i) 0), key.getD []))))

/-- R213 to R216. Key bytes and the bundle's identifier are free values (log entry 6). -/
def Obligations.BundlesExportAndRestore : Prop :=
  (∀ (s : State) (req : Requester) (m n : Nat), s.dev.authStands 2 = true → 2 ≤ m → m ≤ n → n ≤ 16 →
    s.dev.on R.RN_STATUS_FAIL = false →
    Completes (.backupKeyCreation req m n) s (fun p d => p = s.perm ∧
      (∃ k, d.cards.backup = some k ∧ k.m = m ∧ k.n = n ∧ k.written = [] ∧
        k.key = (List.range 32).map (fun i => Config.freeByte (s.dev.free + 8 + i)) ∧ k.coeffs.length = 32 * (m - 1)) ∧
      d.get R.CD_CER_STATUS_STATE = 3 ∧
      ({ s.dev with cards := { s.dev.cards with backup := d.cards.backup }, keys := d.keys, free := d.free }).SameWork d)) ∧
  (∀ (s : State) (req : Requester) (i : Instr) (b : Bundle) (x y : Fin 256) (mf ch : Bool) (m n : Nat),
    s.dev.keys.bundle = none →
    (i = .backupKeyCreation req m n ∧ s.dev.authStands 2 = false ∨
      i = .bundleExport req x ∧ (s.dev.authStands 2 = false ∨ s.dev.sharesRead = false) ∨
      i = .bundleRestore req x y b mf ch ∧ (s.dev.authStands 3 = false ∨ s.dev.sharesRead = false)) →
    Completes i s (fun p d => p = s.perm ∧ d.get (R.ERR_CODE .vt) = Status.policyDenied.code ∧
      (d.get (R.INT_RAW .kt)).testBit 4 = true ∧
      s.dev.Reported (fun key => key = R.VT_BUNDLE_CTL_OP.key 0 0 ∨ reportKey key) d)) ∧
  (∀ (s : State) (req : Requester) (i : Instr) (b : Bundle) (x y : Fin 256) (mf ch : Bool), s.dev.keys.bundle = none →
    s.dev.sharesRead = true →
    (i = .bundleExport req x ∧ s.dev.authStands 2 = true ∧ s.perm.lcState ≠ 4 ∧ s.perm.lcState ≠ 5 ∨
      i = .bundleRestore req x y b mf ch ∧ s.dev.authStands 3 = true ∧ s.perm.lcState ≠ 3 ∧ s.perm.lcState ≠ 4) →
    Completes i s (fun p d => p = s.perm ∧ d.get (R.ERR_CODE .vt) = Status.lcState.code ∧
      s.dev.Reported (fun key => key = R.VT_BUNDLE_CTL_OP.key 0 0 ∨ reportKey key) d)) ∧
  (∀ (s : State) (req : Requester) (src : Fin 256), s.dev.keys.bundle = none → s.dev.authStands 2 = true →
    s.dev.sharesRead = true → (s.perm.lcState = 4 ∨ s.perm.lcState = 5) →
    Completes (.bundleExport req src) s (fun p d => p = s.perm ∧
      (∃ b, d.keys = { s.dev.keys with bundle := some b } ∧ b.op = 1 ∧ b.src = src ∧ b.committing = false) ∧
      d.get R.VT_BUNDLE_CTL_OP = 1 ∧ d.get R.VT_BUNDLE_CTL_SRC_BAY = src ∧ d.get R.VT_BUNDLE_STATUS_STATE = 1 ∧
      d.get R.CD_CER_STATUS_STATE = 3 ∧ ({ s.dev with keys := d.keys }).SameWork d)) ∧
  (∀ (s : State) (b : BundleOp), s.dev.keys.bundle = some b → b.op = 1 → s.dev.on R.RN_STATUS_FAIL = false →
    Completes .bundleDone s (fun p d => p = s.perm ∧ d.keys.bundle = none ∧ d.keys.objs = s.dev.keys.objs ∧
      d.keys.entries = s.dev.keys.entries ∧ d.get R.VT_BUNDLE_STATUS_STATE = 3 ∧ d.get R.VT_BUNDLE_CTL_OP = 0 ∧
      d.get R.VT_BUNDLE_STATUS_STATUS = Status.ok.code ∧ (d.get (R.INT_RAW .vt)).testBit 2 = true ∧
      ∃ x cert, .bundle x cert ∈ d.outbox ∧ x.bay = b.src ∧ x.format = s.dev.floor ∧
        (∀ n o, (⟨n, o⟩ : BundleItem) ∈ x.objects → ∃ k, (k, o) ∈ s.dev.keys.objs ∧ k / 2 ^ 24 = b.src ∧
          o.deletedAt = none ∧ o.restorePending = false) ∧
        (∀ e ∈ x.entries, e.bay = b.src ∧ e.state = .live))) ∧
  (∀ (s : State) (req : Requester) (src dst : Fin 256) (b : Bundle), s.dev.keys.bundle = none → s.dev.authStands 3 = true →
    s.dev.sharesRead = true → (s.perm.lcState = 3 ∨ s.perm.lcState = 4) →
    s.dev.restoreFault dst b true true s.dev.cards.shareId = none →
    Completes (.bundleRestore req src dst b true true) s (fun p d => p = s.perm ∧
      (∃ x, d.keys.bundle = some x ∧ x.op = 2 ∧ x.dst = dst ∧ x.committing = true) ∧ d.get R.VT_BUNDLE_STATUS_STATE = 2 ∧
      (∀ i ∈ b.objects, ∃ o, Tab.look d.keys.objs (objIndex dst i.handle) = some o ∧ o.restorePending = true) ∧
      (∀ k, (∀ i ∈ b.objects, k ≠ objIndex dst i.handle) → Tab.look d.keys.objs k = Tab.look s.dev.keys.objs k) ∧
      d.keys.lastEntry = s.dev.keys.lastEntry + b.entries.length)) ∧
  (∀ (s : State) (req : Requester) (src dst : Fin 256) (b : Bundle) (mf ch : Bool) (st : Status), s.dev.keys.bundle = none →
    s.dev.authStands 3 = true → s.dev.sharesRead = true → (s.perm.lcState = 3 ∨ s.perm.lcState = 4) →
    s.dev.restoreFault dst b mf ch s.dev.cards.shareId = some st →
    Completes (.bundleRestore req src dst b mf ch) s (fun p d => p = s.perm ∧ d.keys = s.dev.keys ∧
      d.get R.VT_BUNDLE_STATUS_STATUS = st.code ∧ d.get R.VT_BUNDLE_STATUS_STATE = 3 ∧ d.get R.VT_BUNDLE_CTL_OP = 0 ∧
      d.get R.CD_CER_STATUS_STATE = 0)) ∧
  (∀ (s : State) (b : BundleOp), s.dev.keys.bundle = some b → b.op ≠ 1 → b.committing = true →
    Completes .bundleDone s (fun p d => p = s.perm ∧ d.keys.bundle = none ∧
      d.keys.objs = s.dev.keys.objs.map (fun e => (e.1, { e.2 with restorePending := false })) ∧
      d.get R.VT_BUNDLE_STATUS_STATUS = Status.ok.code ∧ d.get R.VT_BUNDLE_STATUS_STATE = 3)) ∧
  (∀ (s : State) (b : BundleOp), s.dev.keys.bundle = some b →
    Completes .bundleAbort s (fun p d => p = s.perm ∧ d.keys.bundle = none ∧
      d.keys.objs = s.dev.keys.objs.filter (fun e => !e.2.restorePending) ∧
      d.keys.entries = s.dev.keys.entries.filter (fun e => e.2.state != .restoring) ∧
      d.get R.VT_BUNDLE_STATUS_STATUS = Status.aborted.code ∧ d.get R.VT_BUNDLE_CTL_OP = 0)) ∧
  (∀ s : State, s.dev.keys.bundle = none →
    Completes .bundleAbort s (fun p d => p = s.perm ∧ { s.dev with regs := d.regs } = d ∧ d.get R.VT_BUNDLE_CTL_OP = 0))

/-- The table of R305, a target being a bay or the manager. -/
def Obligations.BindingCommandsFollowTheirTable : Prop :=
  ∀ (s : State) (target : Option (Fin 256)) (pid : BitVec 20),
    let t := targetNum target
    let was := s.dev.bound pid.toNat
    let room := s.dev.sched.bindings.length < 4096
    Completes (.bind target pid) s (fun p d => p = s.perm ∧
      d.BindShown target (match was with
        | some u => if u = t then .ok else .pidBound
        | none => if room then .ok else .bindFull) ∧
      (∀ q, d.bound q = if was = none ∧ room ∧ q = pid.toNat then some t else s.dev.bound q) ∧ s.dev.OnlyBinds d target) ∧
    Completes (.unbind target pid) s (fun p d => p = s.perm ∧
      d.BindShown target (match was with
        | some u => if u = t then .ok else .pidBound
        | none => .pidUnbound) ∧
      (∀ q, d.bound q = if was = some t ∧ q = pid.toNat then none else s.dev.bound q) ∧ s.dev.OnlyBinds d target) ∧
    Completes (.bindQuery target pid) s (fun p d => p = s.perm ∧ d.BindShown target .ok ∧
      (match target with
        | some b => d.on R.BY_BIND_STATUS_BOUND b = decide (was = some t)
        | none => d.on R.NF_MGR_BIND_STATUS_BOUND = decide (was = some t)) ∧
      d.sched = s.dev.sched ∧ s.dev.OnlyBinds d target)

/-- R308, R311, R312, R338. -/
def Obligations.BayResourcesAndTheEventTail : Prop :=
  let staged (s : State) (f : Fld) (bay v : Nat) (p : Perm) (d : Dev) : Prop :=
    p = s.perm ∧ d.get f bay = v ∧ f.key bay 0 ∈ d.regs.staged ∧ d.regs.eff = s.dev.regs.eff ∧ { s.dev with regs := d.regs } = d ∧
      ∀ key, key ≠ f.key bay 0 → Tab.look d.regs.vals key = Tab.look s.dev.regs.vals key
  let refused (s : State) (b : Blk) (bay : Nat) (p : Perm) (d : Dev) : Prop :=
    p = s.perm ∧ d.get (R.ERR_CODE b) bay = Status.inputRange.code ∧ s.dev.Reported (fun key => reportKey key) d
  let total (s : State) (f : Fld) (bay v : Nat) : Nat :=
    ((List.range 256).map (fun b => if b = bay then v else s.dev.get f b)).sum
  (∀ (s : State) (req : Requester) (bay : Fin 256) (kind : Fin 3) (v : Word),
    let n := v.toNat % 2 ^ 11
    let f := match kind with | 0 => R.BY_SHARE_SHARE | 1 => R.BY_VS_SHARE_SHARE | 2 => R.BY_BULK_SHARE_SHARE
    (n ≤ 1024 ∧ total s f bay n ≤ 1024 → Completes (.byShareWrite req bay kind v) s (staged s f bay n)) ∧
      (¬ (n ≤ 1024 ∧ total s f bay n ≤ 1024) → Completes (.byShareWrite req bay kind v) s (refused s .by bay))) ∧
  (∀ (s : State) (req : Requester) (bay : Fin 256) (v : Word),
    let n := v.toNat % 2 ^ 17
    let ok := 64 ≤ n ∧ n ≤ 65536 ∧ total s R.BY_QUEUE bay n ≤ 1048576
    (ok → Completes (.byQueueWrite req bay v) s (staged s R.BY_QUEUE bay n)) ∧
      (¬ ok → Completes (.byQueueWrite req bay v) s (refused s .by bay))) ∧
  (∀ (s : State) (req : Requester) (bay : Fin 256) (v : Word),
    let n := v.toNat % 2 ^ 10
    (1 ≤ n ∧ n ≤ 512 → Completes (.byCtxWrite req bay v) s (staged s R.BY_CTX_MAX bay n)) ∧
      (¬ (1 ≤ n ∧ n ≤ 512) → Completes (.byCtxWrite req bay v) s (refused s .by bay))) ∧
  (∀ (s : State) (req : Requester) (bay : Fin 256) (v : Word),
    let ahead := (v.toNat + 2 ^ 32 - s.dev.get R.BW_EV_TAIL bay) % 2 ^ 32
    let unread := (s.dev.get R.BW_EV_HEAD bay + 2 ^ 32 - s.dev.get R.BW_EV_TAIL bay) % 2 ^ 32
    (ahead ≤ unread → Completes (.bwEvTailWrite req bay v) s (fun p d => p = s.perm ∧ d.get R.BW_EV_TAIL bay = v.toNat ∧
      { s.dev with regs := d.regs } = d ∧ d.regs.eff = s.dev.regs.eff ∧ d.regs.staged = s.dev.regs.staged ∧
      ∀ key, key ≠ R.BW_EV_TAIL.key bay 0 → Tab.look d.regs.vals key = Tab.look s.dev.regs.vals key)) ∧
      (unread < ahead → Completes (.bwEvTailWrite req bay v) s (refused s .bw bay)))

/-- R320 to R325. -/
def Obligations.BayResetsEndABaysWork : Prop :=
  let due (s : State) (bay : Nat) (p : Perm) (d : Dev) : Prop :=
    p = s.perm ∧ d.sched.resetDue = s.dev.sched.resetDue.filter (· ≠ bay) ++ [bay] ∧ d.on (R.CTRL_SOFT_RESET .by) bay = true ∧
      d.on R.BW_RESET bay = true ∧
      { s.dev with
        regs := d.regs
        sched := { s.dev.sched with resetDue := d.sched.resetDue } } = d ∧
      ∀ key, key ≠ (R.CTRL_SOFT_RESET .by).key bay 0 → key ≠ R.BW_RESET.key bay 0 →
        Tab.look d.regs.vals key = Tab.look s.dev.regs.vals key
  let quiet (s : State) (bay : Nat) (w : ResetWait) (forced : Bool) (p : Perm) (d : Dev) : Prop :=
    p = s.perm ∧ d.on R.STATUS_RESETTING bay = false ∧ Tab.look d.sched.resets bay = none ∧
      d.on R.STATUS_QUIET_FORCED bay = forced ∧
      d.get R.BY_RESET_TIME bay = min 255 ((s.dev.sched.time - w.since + 63) / 64) ∧
      d.on (R.CTRL_SOFT_RESET .by) bay = s.dev.sched.resetDue.contains bay ∧
      d.on R.BW_RESET bay = s.dev.sched.resetDue.contains bay ∧
      (d.get (R.INT_RAW .by) bay).testBit 2 = true ∧ (d.get (R.INT_RAW .bw) bay).testBit 3 = true ∧
      (∀ k, k ≠ bay → Tab.look d.sched.resets k = Tab.look s.dev.sched.resets k) ∧
      ({ s.dev with sched := { s.dev.sched with resets := d.sched.resets } }).SameWork d ∧ s.dev.SameFace d
  (∀ (s : State) (bay : Fin 256) (v : Word), v.toNat.testBit 2 = true → Completes (.bayReset bay v) s (due s bay)) ∧
  (∀ (s : State) (bay : Fin 256) (v : Word), v.toNat.testBit 2 = false →
    Completes (.bayReset bay v) s (fun p d => p = s.perm ∧ d = s.dev)) ∧
  (∀ (s : State) (req : Requester) (bay : Fin 256) (v : Word), v.toNat.testBit 0 = true →
    (s.dev.on R.CTRL_SELF_RESET_EN bay = true → Completes (.baySelfReset req bay v) s (due s bay)) ∧
      (s.dev.on R.CTRL_SELF_RESET_EN bay = false → Completes (.baySelfReset req bay v) s (fun p d => p = s.perm ∧
        d.get (R.ERR_CODE .bw) bay = Status.policyDenied.code ∧ s.dev.Reported (fun key => reportKey key) d))) ∧
  (∀ (s : State) (bay : Fin 256), bay.val ∈ s.dev.sched.resetDue →
    Completes (.bayResetAction bay) s (fun p d => p = s.perm ∧ bay.val ∉ d.sched.resetDue ∧
      d.get R.BY_GEN_GEN bay = (s.dev.get R.BY_GEN_GEN bay + 1) % 2 ^ 16 ∧
      d.get R.BY_GEN_RESETS bay = (s.dev.get R.BY_GEN_RESETS bay + 1) % R.BY_GEN_RESETS.bound ∧
      d.on R.STATUS_RESETTING bay = true ∧ Tab.look d.sched.resets bay = some ⟨s.dev.sched.time, true⟩ ∧
      d.queue bay = [] ∧ d.bulkQueue bay = [] ∧ (∀ j ∈ d.eng.pinWait, j.bay ≠ bay) ∧
      (∀ c r, (d.ctx c).req = some r → r.bay ≠ bay) ∧
      (∀ c r, (s.dev.ctx c).req = some r → r.bay ≠ bay → (d.ctx c).req = some r) ∧
      (∀ k, k ≠ bay.val → d.queue k = s.dev.queue k ∧ d.bulkQueue k = s.dev.bulkQueue k) ∧
      (∀ k : Fin 256, k ≠ bay → d.get R.BY_GEN_GEN k = s.dev.get R.BY_GEN_GEN k) ∧
      d.keys.cache = s.dev.keys.cache.filter (fun e => e.bay != bay.val) ∧
      d.keys.sess = s.dev.keys.sess.filter (fun e => e.1 / 65536 != bay.val) ∧ d.keys.objs = s.dev.keys.objs ∧
      d.keys.entries = s.dev.keys.entries ∧ d.cards = s.dev.cards ∧ d.life = s.dev.life ∧ d.plinth = s.dev.plinth ∧
      d.power = s.dev.power)) ∧
  (∀ (s : State) (bay : Fin 256) (w : ResetWait), Tab.look s.dev.sched.resets bay = some w → s.dev.unacked bay = 0 →
    Completes (.bayQuiet bay) s (quiet s bay w false)) ∧
  (∀ (s : State) (bay : Fin 256) (w : ResetWait), Tab.look s.dev.sched.resets bay = some w → s.dev.unacked bay ≠ 0 →
    (w.since + 12800 ≤ s.dev.sched.time → Completes (.bayQuietForced bay) s (quiet s bay w true)) ∧
      (s.dev.sched.time < w.since + 12800 → Completes (.bayQuietForced bay) s (fun p d => p = s.perm ∧ d = s.dev)) ∧
      Completes (.bayQuiet bay) s (fun p d => p = s.perm ∧ d = s.dev))

/-- R344 to R349, R360, R361, R374. -/
def Obligations.PortsTrainAndFilterTheirFrames : Prop :=
  let page (g : Nat) : Nat → Prop := fun key => key / 0x20000000 = Blk.nfp.page g
  (∀ (s : State) (req : Requester) (v : Word),
    let mode (g : Nat) : Nat := v.toNat / 4 ^ g % 4
    ((∃ q < 4, ¬ (mode (2 * q) = 3 ↔ mode (2 * q + 1) = 3)) →
      Completes (.laneModeWrite req v) s (fun p d => p = s.perm ∧ d.get (R.ERR_CODE .nfc) = Status.inputRange.code ∧
        s.dev.Reported (fun key => reportKey key) d)) ∧
    ((∀ q < 4, mode (2 * q) = 3 ↔ mode (2 * q + 1) = 3) →
      Completes (.laneModeWrite req v) s (fun p d => p = s.perm ∧ s.dev.SameWork d ∧ d.face = s.dev.face ∧
        ∀ g < 8, d.get R.NF_LANE_MODE 0 g = mode g ∧
          (s.dev.get R.NF_LANE_MODE 0 g = mode g →
            d.get R.NF_PORT_STATUS_LINK_UP g = s.dev.get R.NF_PORT_STATUS_LINK_UP g) ∧
          (s.dev.get R.NF_LANE_MODE 0 g ≠ mode g → d.get R.NF_PORT_STATUS_MODE g = mode g ∧
            d.get R.NF_PORT_STATUS_LINK_UP g = 0 ∧ d.get R.NF_PORT_STATUS_FEC_LOCK g = 0 ∧
            d.get R.NF_PORT_STATUS_TRAINING g =
              (if mode g = 1 then 3 else if mode g = 2 ∨ (mode g = 3 ∧ g % 2 = 0) then 1 else 0) ∧
            (s.dev.get R.NF_PORT_STATUS_LINK_UP g ≠ 0 → (d.get (R.INT_RAW .nfp) g).testBit 2 = true))))) ∧
  (∀ (s : State) (port : Fin 16) (losses : List Byte) (cable : Fin 32) (partner : BitVec 48),
    let g := port.val / 2
    let side := port.val % 2
    (s.dev.get R.NF_PORT_STATUS_TRAINING g).testBit side = true → losses.length + 2 * side ≤ 4 →
      Completes (.linkTrainingDone port losses cable partner) s (fun p d => p = s.perm ∧
        (d.get R.NF_PORT_STATUS_LINK_UP g).testBit side = true ∧ (d.get R.NF_PORT_STATUS_TRAINING g).testBit side = false ∧
        (d.get R.NF_PORT_STATUS_LINK_UP g).testBit (1 - side) = (s.dev.get R.NF_PORT_STATUS_LINK_UP g).testBit (1 - side) ∧
        (∀ i < losses.length, d.get R.NF_PORT_LOSS g (2 * side + i) = (losses.getD i 0).toNat) ∧
        (if side = 0 then d.get R.NF_PORT_CABLE_LEN_A g = cable ∧
            d.get R.NF_PORT_PARTNER_A_HI g * 2 ^ 32 + d.get R.NF_PORT_PARTNER_A_LO g = partner.toNat
          else d.get R.NF_PORT_CABLE_LEN_B g = cable ∧
            d.get R.NF_PORT_PARTNER_B_HI g * 2 ^ 32 + d.get R.NF_PORT_PARTNER_B_LO g = partner.toNat) ∧
        (d.get (R.INT_RAW .nfp) g).testBit 2 = true ∧ (d.get (R.INT_RAW .nfp) g).testBit 3 = true ∧
        s.dev.Reported (page g) d)) ∧
  (∀ (s : State) (port : Fin 16),
    let g := port.val / 2
    let side := port.val % 2
    (s.dev.get R.NF_PORT_STATUS_LINK_UP g).testBit side = true →
      Completes (.linkDown port) s (fun p d => p = s.perm ∧ (d.get R.NF_PORT_STATUS_LINK_UP g).testBit side = false ∧
        (d.get R.NF_PORT_STATUS_FEC_LOCK g).testBit side = false ∧ (d.get R.NF_PORT_STATUS_TRAINING g).testBit side = true ∧
        (d.get R.NF_PORT_STATUS_LINK_UP g).testBit (1 - side) = (s.dev.get R.NF_PORT_STATUS_LINK_UP g).testBit (1 - side) ∧
        (d.get (R.INT_RAW .nfp) g).testBit 2 = true ∧ s.dev.Reported (page g) d)) ∧
  (∀ (s : State) (x : EtherFrame) (corrected uncorrectable : Nat),
    let port := x.src.port
    let g := port / 2
    let up (d : Dev) (f : Fld) (n : Nat) : Prop := d.get f g = min (f.bound - 1) (s.dev.get f g + n)
    let drops (f : Fld) (p : Perm) (d : Dev) : Prop := p = s.perm ∧ up d f 1 ∧ up d R.NF_PORT_RX 1 ∧
      up d R.NF_PORT_FEC_CORR corrected ∧ s.dev.Reported (page g) d
    let passes (d : Dev) : Prop := up d R.NF_PORT_RX 1 ∧ up d R.NF_PORT_FEC_CORR corrected ∧
      ∀ f ∈ [R.NF_PORT_DROP, R.NF_PORT_AUTH_FAIL, R.NF_PORT_REPLAY], d.get f g = s.dev.get f g
    port < 16 → (s.dev.get R.NF_PORT_STATUS_LINK_UP g).testBit (port % 2) = true →
      (s.dev.vlanOk port x.vlans = false →
        Completes (.ethernetFrame x corrected uncorrectable) s (drops R.NF_PORT_DROP)) ∧
      (s.dev.vlanOk port x.vlans = true →
        (x.body = .other → Completes (.ethernetFrame x corrected uncorrectable) s (drops R.NF_PORT_DROP)) ∧
        (x.body = .pause → Completes (.ethernetFrame x corrected uncorrectable) s (fun p d => p = s.perm ∧ passes d ∧
          s.dev.Reported (page g) d)) ∧
        (∀ ip v6, x.body = (if v6 then .neighbour ip else .arp ip) →
          (s.dev.ownAddress port v6 ip = true →
            Completes (.ethernetFrame x corrected uncorrectable) s (fun p d => p = s.perm ∧ passes d ∧ up d R.NF_PORT_TX 1 ∧
              .neighbourAnswer x.src ip (Config.portMac port).toNat ∈ d.outbox ∧ s.dev.Reported (page g) d)) ∧
          (s.dev.ownAddress port v6 ip = false →
            Completes (.ethernetFrame x corrected uncorrectable) s (drops R.NF_PORT_DROP))) ∧
        (∀ u, x.body = .udp u →
          (¬ (s.dev.udpOk port u = true ∧ u.formOk = true) →
            Completes (.ethernetFrame x corrected uncorrectable) s (drops R.NF_PORT_DROP)) ∧
          (s.dev.udpOk port u = true → u.formOk = true → u.type ≠ 1 → u.type ≠ 3 →
            ((u.auth = false ∨ Tab.look s.dev.face.sessions u.session = none) →
              Completes (.ethernetFrame x corrected uncorrectable) s (drops R.NF_PORT_AUTH_FAIL)) ∧
            (∀ y, u.auth = true → Tab.look s.dev.face.sessions u.session = some y →
              let new := y.high < u.seq ∨ (y.high ≤ u.seq + 1023 ∧ u.seq ∉ y.seen)
              (¬ new → Completes (.ethernetFrame x corrected uncorrectable) s (drops R.NF_PORT_REPLAY)) ∧
              (new → Completes (.ethernetFrame x corrected uncorrectable) s (fun p d => p = s.perm ∧ passes d ∧
                Tab.look d.face.sessions u.session = some { y with
                  high := max y.high u.seq
                  seen := (u.seq :: y.seen).filter (fun k => max y.high u.seq ≤ k + 1023)
                  src := x.src } ∧
                (∀ k, k ≠ u.session → Tab.look d.face.sessions k = Tab.look s.dev.face.sessions k) ∧
                ({ s.dev with face := d.face }).Reported (page g) d)))))))

/-- R354 to R362. The verifications of signatures are operands of FINISH_C. -/
def Obligations.HandshakesOpenSessions : Prop :=
  let others (s : State) (id : Nat) (d : Dev) : Prop :=
    ∀ k, k ≠ id → Tab.look d.face.handshakes k = Tab.look s.dev.face.handshakes k
  let ended (s : State) (id : Nat) (src : Client) (st : Status) (p : Perm) (d : Dev) : Prop :=
    p = s.perm ∧ Tab.look d.face.handshakes id = none ∧ others s id d ∧ .alert src id st ∈ d.outbox ∧
      d.face.sessions = s.dev.face.sessions ∧ d.face.streams = s.dev.face.streams ∧
      ({ s.dev with keys := d.keys, free := d.free }).SameWork d
  (∀ (s : State) (x : Hello), x.nonce.length = 32 → x.point.length = 97 → x.kemKey.length = 1184 →
    s.dev.workLevel s.perm.level < 2 → s.dev.face.sessions.length ≤ 65536 →
    (s.dev.face.handshakes.length < 4096 → s.dev.on R.RN_STATUS_FAIL = false →
      Completes (.helloC x) s (fun p d => p = s.perm ∧ ∃ id : Nat, id ≠ 0 ∧ Tab.look s.dev.face.sessions id = none ∧
        Tab.look s.dev.face.handshakes id = none ∧
        Tab.look d.face.handshakes id = some ⟨.jobs, x.src, x.pid, x.events, x.idePsk, x.nonce, [], x.point, x.kemKey,
          x.frame, [], .ok⟩ ∧ others s id d ∧ d.face.sessions = s.dev.face.sessions ∧
        d.eng.vsWait = s.dev.eng.vsWait ++ [handshakeJob id 72000, handshakeJob id 60000] ∧
        ({ s.dev with
          keys := d.keys
          eng := d.eng
          free := d.free }).SameWork d)) ∧
    (4096 ≤ s.dev.face.handshakes.length → Completes (.helloC x) s (fun p d => p = s.perm ∧
      d.get R.NF_HS_DROPPED = min (R.NF_HS_DROPPED.bound - 1) (s.dev.get R.NF_HS_DROPPED + 1) ∧
      (d.get (R.INT_RAW .nfc)).testBit 4 = true ∧ s.dev.Reported (fun key => key = R.NF_HS_DROPPED.key 0 0 ∨ reportKey key) d))) ∧
  (∀ (s : State) (session : Word) (h : Handshake) (root : Bytes),
    Tab.look s.dev.face.handshakes session.toNat = some h → h.stage = .jobs → s.dev.handshakeBusy session.toNat = false →
    s.dev.workLevel s.perm.level < 2 →
    (h.failed ≠ .ok → Completes (.helloS session) s (ended s session.toNat h.src h.failed)) ∧
    (h.failed = .ok → s.dev.keys.root = none →
      Completes (.helloS session) s (ended s session.toNat h.src .rootAbsent)) ∧
    (∀ k, h.failed = .ok → s.dev.keys.root = some root → s.dev.on R.RN_STATUS_FAIL = false →
      p384.pointForm h.pointC = true → (p384.decode h.pointC).isSome = true → kemSet 0x21 = some k →
      h.kemKeyC.length = k.ekLen → kemKeyOk k h.kemKeyC = true →
      Completes (.helloS session) s (fun p d => p = s.perm ∧ ∃ nonce point cipher sig okm : Bytes,
        d.outbox = s.dev.outbox ++ [.helloS h.src session.toNat nonce point cipher
          (match s.dev.keys.certificate with | some c => c.1 | none => []) sig] ∧
        Tab.look d.face.handshakes session.toNat = some { h with
          stage := .helloSent
          nonceM := nonce
          okm := okm } ∧
        others s session.toNat d ∧ d.face.sessions = s.dev.face.sessions ∧ d.eng = s.dev.eng ∧
        ({ s.dev with keys := d.keys, free := d.free }).SameWork d))) ∧
  (∀ (s : State) (src : Client) (session : Word) (auth : Bool) (c : ClientCert),
    ((∀ h, Tab.look s.dev.face.handshakes session.toNat = some h → h.stage ≠ .helloSent ∨ auth = false) →
      Completes (.finishC src session auth c) s (fun p d => p = s.perm ∧ d.face = s.dev.face ∧ s.dev.SameWork d ∧
        d.get R.NF_PORT_AUTH_FAIL (src.port / 2) =
          min (R.NF_PORT_AUTH_FAIL.bound - 1) (s.dev.get R.NF_PORT_AUTH_FAIL (src.port / 2) + 1))) ∧
    (∀ h, Tab.look s.dev.face.handshakes session.toNat = some h → h.stage = .helloSent → auth = true →
      s.dev.workLevel s.perm.level < 2 →
      (∀ st, s.dev.finishFault h c = some st → Completes (.finishC src session auth c) s (ended s session.toNat src st)) ∧
      (∀ t, s.dev.finishFault h c = none → s.dev.bound h.pid = some t →
        Completes (.finishC src session auth c) s (fun p d => p = s.perm ∧
          (∃ x, Tab.look d.face.sessions session.toNat = some x ∧ { x with unsent := [], dropped := false } =
            ⟨h.pid, t, h.events, h.idePsk, 1, [1], src, 1, [], false, h.okm.take 72⟩) ∧
          Tab.look d.face.handshakes session.toNat = none ∧ others s session.toNat d ∧
          .finishS src session.toNat t (s.dev.get R.NF_SESSION_IDLE) ∈ d.outbox ∧
          (d.get (R.INT_RAW .nfc)).testBit 2 = true ∧
          (h.idePsk = true → t = 256 → 72 < h.okm.length → d.face.psk = some (session.toNat, h.okm.drop 72)) ∧
          s.dev.SameWork d)))) ∧
  (∀ (s : State) (session : Word) (h : Handshake), Tab.look s.dev.face.handshakes session.toNat = some h →
    h.stage = .helloSent → Completes (.handshakeTimeout session) s (fun p d => p = s.perm ∧
      d = { s.dev with face := { s.dev.face with handshakes := Tab.del s.dev.face.handshakes session.toNat } })) ∧
  (∀ (s : State) (h : FrameHdr) (session : Word) (x : Session),
    let gone (id : Nat) (p : Perm) (d : Dev) : Prop := p = s.perm ∧ (d.get (R.INT_RAW .nfc)).testBit 3 = true ∧
      ({ s.dev with face := { s.dev.face with
        sessions := Tab.del s.dev.face.sessions id
        partials := Tab.del s.dev.face.partials id
        streams := s.dev.face.streams.filter (fun e => e.2.session ≠ id) } }).Reported (fun key => reportKey key) d
    (Tab.look s.dev.face.sessions h.session = some x → Completes (.sessionClose h) s (gone h.session)) ∧
    (Tab.look s.dev.face.sessions session.toNat = some x →
      Completes (.sessionIdleTimeout session) s (gone session.toNat) ∧
        Completes (.sessionKill session) s (gone session.toNat)) ∧
    (Tab.look s.dev.face.sessions session.toNat = none →
      Completes (.sessionKill session) s (fun p d => p = s.perm ∧ d = s.dev)))

/-- R363, R364, R375, R459, R501, R531, R532. -/
def Obligations.StreamsCarryRecordsAndEvents : Prop :=
  (∀ (s : State) (h : FrameHdr) (reqId : Nat) (x : Session), Tab.look s.dev.face.sessions h.session = some x →
    x.sent + 1 < 2 ^ 64 →
    let full := 64 ≤ (s.dev.face.streams.filter (fun e => e.2.session == h.session)).length ∨ 16384 ≤ s.dev.face.streams.length
    (full → Completes (.streamOpen h reqId) s (fun p d => p = s.perm ∧ d.face.streams = s.dev.face.streams ∧
      d.outbox = s.dev.outbox ++ [.response h.src h.session (x.sent + 1) reqId .sessionLimit []] ∧ s.dev.SameWork d)) ∧
    (¬ full → Completes (.streamOpen h reqId) s (fun p d => p = s.perm ∧ ∃ n : Nat, 0x8000 ≤ n ∧ n ≤ 0xC000 ∧
      Tab.look s.dev.face.streams n = none ∧ (∀ k, 0x8000 ≤ k → k < n → Tab.look s.dev.face.streams k ≠ none) ∧
      Tab.look d.face.streams n = some ⟨h.session, x.target, false, []⟩ ∧
      (∀ k, k ≠ n → Tab.look d.face.streams k = Tab.look s.dev.face.streams k) ∧
      d.outbox = s.dev.outbox ++ [.response h.src h.session (x.sent + 1) reqId .ok [⟨0x8001, beBytes 2 n⟩]] ∧
      s.dev.SameWork d))) ∧
  (∀ (s : State) (h : FrameHdr) (stream : Nat) (x : Stream), Tab.look s.dev.face.streams stream = some x →
    (x.session = h.session → Completes (.streamClose h stream) s (fun p d => p = s.perm ∧
      Tab.look d.face.streams stream = (if s.dev.streamBusy stream then some { x with closing := true } else none) ∧
      (∀ k, k ≠ stream → Tab.look d.face.streams k = Tab.look s.dev.face.streams k) ∧
      { s.dev with face := { s.dev.face with streams := d.face.streams } } = d)) ∧
    (x.session ≠ h.session → Completes (.streamClose h stream) s (fun p d => p = s.perm ∧ d = s.dev))) ∧
  (∀ (s : State) (h : FrameHdr) (q : BulkPiece) (y : Session) (x : Stream),
    Tab.look s.dev.face.sessions h.session = some y → Tab.look s.dev.face.streams q.stream = some x → x.session = h.session →
    q.data.length ≤ 8192 → q.data ≠ [] →
    let old := x.reasm.find? (fun r => r.number == q.number)
    (old.isSome = true ∨ (s.dev.recordBusy q.stream q.number = false ∧ x.closing = false ∧ x.reasm.length < 4)) →
    let r0 : Reasm := old.getD ⟨q.number, none, [], none⟩
    let r1 : Reasm := ⟨r0.number, if q.desc.isSome then q.desc else r0.desc, Tab.put r0.pieces q.offset q.data,
      if q.last then some (q.offset + q.data.length) else r0.last⟩
    let rest := x.reasm.filter (fun r => r.number ≠ q.number)
    let bad := piecesOverlap r0.pieces q.offset q.data.length || r1.broken
    let ends (l : List Reasm) : Dev :=
      { s.dev with face := { s.dev.face with streams := Tab.put s.dev.face.streams q.stream { x with reasm := l } } }
    let record (b : Bytes) : BulkRec :=
      (ends rest).streamRecord (.session h.session h.src) q.stream x.owner q.number (r1.desc.getD BulkDesc.none) b
    (bad = false → r1.whole = false → Completes (.bulkData h q) s (fun p d => p = s.perm ∧ d = ends (rest ++ [r1]))) ∧
    (bad = false → r1.whole = true → s.perm.lcState = 4 → s.dev.workLevel s.perm.level < 2 →
      (256 ≤ x.owner ∨ s.dev.bayOpen x.owner = true) → Completes (.bulkData h q) s (fun p d => p = s.perm ∧
        d = (ends rest).bulkArrive (record (r1.pieces.flatMap (·.2))))) ∧
    (bad = true → Completes (.bulkData h q) s (fun p d => p = s.perm ∧
      d = (ends rest).bulkComplete (record []) .reassembly []))) ∧
  (∀ (s : State) (stream number : Nat) (x : Stream) (y : Session) (r : Reasm),
    Tab.look s.dev.face.streams stream = some x → Tab.look s.dev.face.sessions x.session = some y →
    x.reasm.find? (fun r => r.number == number) = some r →
    Completes (.bulkReassemblyTimeout stream number) s (fun p d => p = s.perm ∧
      (∃ iv, .bulkFrames y.src x.session stream (r.desc.getD BulkDesc.none).reqId .reassembly iv [] ∈ d.outbox) ∧
      (∀ z, Tab.look d.face.streams stream = some z → z.reasm = x.reasm.filter (fun q => q.number ≠ number)) ∧
      (∀ k, k ≠ stream → Tab.look d.face.streams k = Tab.look s.dev.face.streams k) ∧ s.dev.SameWork d)) ∧
  (∀ (s : State) (session : Word) (x : Session) (i : EvItem) (l : List EvItem),
    Tab.look s.dev.face.sessions session.toNat = some x → x.unsent = i :: l → x.sent + 1 < 2 ^ 64 →
    let items := (x.unsent.takeWhile (fun j => j.kind == i.kind)).take (if i.kind = 1 then 64 else 32)
    Completes (.eventFrame session) s (fun p d => p = s.perm ∧
      d.outbox = s.dev.outbox ++ [.eventFrame x.src session.toNat (x.sent + 1) x.dropped items] ∧
      Tab.look d.face.sessions session.toNat = some { x with
        unsent := x.unsent.drop items.length
        dropped := false
        sent := x.sent + 1 } ∧
      (∀ k, k ≠ session.toNat → Tab.look d.face.sessions k = Tab.look s.dev.face.sessions k) ∧
      d.get R.IC_FRAMES = min (R.IC_FRAMES.bound - 1) (s.dev.get R.IC_FRAMES + 1) ∧ s.dev.SameWork d)) ∧
  (∀ s : State, Completes .utcTick s (fun p d => p = s.perm ∧
      d.get R.NF_UTC = (if s.dev.get R.NF_UTC = 0 then 0 else (s.dev.get R.NF_UTC + 1) % 2 ^ 32) ∧
      d.get R.DBG_REMAIN = s.dev.get R.DBG_REMAIN - (if s.dev.on R.DBG_STATUS_SESSION then 1 else 0) ∧
      (∀ u < 2, d.get R.KS_MATCHED_S u = if s.dev.get R.KS_STATUS_STATE u = 3 then
        min (R.KS_MATCHED_S.bound - 1) (s.dev.get R.KS_MATCHED_S u + 1) else s.dev.get R.KS_MATCHED_S u) ∧
      { s.dev with regs := d.regs } = d ∧ d.regs.eff = s.dev.regs.eff ∧ d.regs.staged = s.dev.regs.staged))

/-- R365 to R370, R376, R377, R530. -/
def Obligations.RingsDoorbellsAndTheLink : Prop :=
  let pages (owner : Nat) (b : Blk) : Blk × Nat := if owner < 256 then (b, owner) else (.hf, 0)
  let refused (s : State) (b : Blk × Nat) (st : Status) (p : Perm) (d : Dev) : Prop :=
    p = s.perm ∧ d.get (R.ERR_CODE b.1) b.2 = st.code ∧ s.dev.Reported (fun key => reportKey key) d
  (∀ (s : State) (owner : Fin 257) (ring : Fin 4) (pasid : Option (BitVec 20)) (v : Word),
    let own := s.dev.get R.HQ_PASID owner ring
    let n := v.toNat % 2 ^ 16
    let h := s.dev.hostRing owner ring
    ((∃ x, pasid = some x ∧ x.toNat ≠ own) →
      Completes (.hqDoorbell owner ring pasid v) s (fun p d => p = s.perm ∧ d = s.dev) ∧
        Completes (.hqCplDoorbell owner ring pasid v) s (fun p d => p = s.perm ∧ d = s.dev)) ∧
    ((∀ x, pasid = some x → x.toNat = own) →
      (2 ^ s.dev.get R.HQ_CFG_LOG2_SIZE owner ring ≤ n →
        Completes (.hqDoorbell owner ring pasid v) s (refused s (pages owner .hqd) .inputRange) ∧
          Completes (.hqCplDoorbell owner ring pasid v) s (refused s (pages owner .hqd) .inputRange)) ∧
      (n < 2 ^ s.dev.get R.HQ_CFG_LOG2_SIZE owner ring →
        Completes (.hqCplDoorbell owner ring pasid v) s (fun p d => p = s.perm ∧
          d.hostRing owner ring = { h with cplHead := n } ∧
          (∀ (o : Fin 257) (r : Fin 4), (o, r) ≠ (owner, ring) → d.hostRing o r = s.dev.hostRing o r) ∧
          { s.dev with face := { s.dev.face with rings := d.face.rings } } = d) ∧
        ((s.dev.bound own = none ∨ s.dev.bound own = some owner.val) →
          Completes (.hqDoorbell owner ring pasid v) s (fun p d => p = s.perm ∧
            d.hostRing owner ring = { h with tail := n } ∧
            (∀ (o : Fin 257) (r : Fin 4), (o, r) ≠ (owner, ring) → d.hostRing o r = s.dev.hostRing o r) ∧
            { s.dev with face := { s.dev.face with rings := d.face.rings } } = d)) ∧
        (∀ t, s.dev.bound own = some t → t ≠ owner.val →
          (s.dev.setHostRing owner ring { h with tail := n }).mayFetch owner ring = true →
          Completes (.hqDoorbell owner ring pasid v) s (fun p d => p = s.perm ∧ d.on R.HQ_STATUS_HALTED owner ring = true ∧
            d.get (R.ERR_CODE (pages owner .hq).1) (pages owner .hq).2 = Status.ringPasid.code ∧
            d.hostRing owner ring = { h with tail := n } ∧ s.dev.SameWork d))))) ∧
  (∀ (s : State) (owner : Fin 257) (ring : Fin 4) (v : Word),
    let en := s.dev.on R.HQ_CFG_EN owner ring
    let run := s.dev.on R.HQ_STATUS_RUNNING owner ring
    let size := v.toNat / 2 ^ 16 % 32
    (en = true → v.toNat.testBit 31 = false → Completes (.hqCfgWrite owner ring v) s (fun p d => p = s.perm ∧
      d.on R.HQ_CFG_EN owner ring = false ∧
      d.on R.HQ_STATUS_RUNNING owner ring = decide ((s.dev.hostRing owner ring).inflight ≠ 0) ∧
      (∀ key, key ≠ R.HQ_CFG_EN.key owner ring → key ≠ R.HQ_STATUS_RUNNING.key owner ring →
        Tab.look d.regs.vals key = Tab.look s.dev.regs.vals key) ∧ { s.dev with regs := d.regs } = d)) ∧
    (((en = true ∧ v.toNat.testBit 31 = true) ∨ (en = false ∧ run = true)) →
      Completes (.hqCfgWrite owner ring v) s (refused s (pages owner .hq) .policyDenied)) ∧
    (en = false → run = false → (size < 6 ∨ 16 < size) →
      Completes (.hqCfgWrite owner ring v) s (refused s (pages owner .hq) .inputRange)) ∧
    (en = false → run = false → 6 ≤ size → size ≤ 16 → Completes (.hqCfgWrite owner ring v) s (fun p d => p = s.perm ∧
      d.get R.HQ_CFG_EN owner ring = v.toNat / 2 ^ 31 % 2 ∧ d.get R.HQ_CFG_KIND owner ring = v.toNat / 2 ^ 30 % 2 ∧
      d.get R.HQ_CFG_LOG2_SIZE owner ring = size ∧ d.get R.HQ_CFG_MOD_COUNT owner ring = v.toNat / 2 ^ 8 % 256 ∧
      d.get R.HQ_CFG_MOD_US owner ring = v.toNat % 256 ∧ { s.dev with regs := d.regs } = d))) ∧
  (∀ (s : State) (owner : Fin 257) (ring : Fin 4), (s.dev.hostRing owner ring).unsignalled ≠ 0 →
    Completes (.interruptModerationTimeout owner ring) s (fun p d => p = s.perm ∧
      d.hostRing owner ring = { s.dev.hostRing owner ring with unsignalled := 0 } ∧
      (if owner.val < 256 then (d.get (R.INT_RAW .hq) owner).testBit (2 + ring.val) = true
        else (d.get (R.INT_RAW .hf)).testBit (4 + ring.val) = true) ∧
      ({ s.dev with face := d.face }).Reported (fun key => reportKey key) d)) ∧
  (∀ (s : State) (control : Option (Bool × Bool)), s.dev.face.perst = false → s.dev.power.main = true →
    (s.dev.configReady = false → Completes (.pcieConfigRequest control) s (fun p d => p = s.perm ∧
      d = { s.dev with outbox := s.dev.outbox ++ [.config true] })) ∧
    (s.dev.configReady = true → Completes (.pcieConfigRequest control) s (fun p d => p = s.perm ∧
      (∀ c, control = some c → d.log.msixEnable = c.1 ∧ d.log.funcMask = c.2) ∧
      (control = none → d.log = s.dev.log) ∧ .config false ∈ d.outbox ∧ s.dev.Reported (fun _ => False) d))) ∧
  (∀ (s : State) (speed : Fin 6) (width : Fin 17), s.dev.face.perst = false → s.dev.power.main = true →
    s.dev.on R.HF_LINK_UP = false → Completes (.pcieLinkUp speed width) s (fun p d => p = s.perm ∧
      d.on R.HF_LINK_UP = true ∧ d.get R.HF_LINK_SPEED = speed ∧ d.get R.HF_LINK_WIDTH = width ∧
      (d.get (R.INT_RAW .hf)).testBit 2 = true ∧
      s.dev.Reported (fun key => reportKey key ∨ ∃ f ∈ [R.HF_LINK_UP, R.HF_LINK_SPEED, R.HF_LINK_WIDTH], key = f.key 0 0) d)) ∧
  (∀ s : State, s.dev.on R.HF_LINK_UP = true → Completes .pcieLinkDown s (fun p d => p = s.perm ∧
      d.on R.HF_LINK_UP = false ∧ d.get R.HF_LINK_SPEED = 0 ∧ d.get R.HF_LINK_WIDTH = 0 ∧
      (d.get (R.INT_RAW .hf)).testBit 2 = true ∧
      s.dev.Reported (fun key => reportKey key ∨ ∃ f ∈ [R.HF_LINK_UP, R.HF_LINK_SPEED, R.HF_LINK_WIDTH], key = f.key 0 0) d)) ∧
  (∀ (s : State) (hint : Word) (verified : Bool) (key : Bytes), s.dev.on R.HF_LINK_UP = true →
    s.dev.face.psk = some (hint.toNat, key) → Completes (.spdmPskExchange hint verified) s (fun p d => p = s.perm ∧
      d = { s.dev with
        face := { s.dev.face with spdm := s.dev.face.spdm || verified }
        outbox := s.dev.outbox ++ [.doe verified []] })) ∧
  (∀ (s : State) (stream : Fin 4) (m : IdeMsg),
    let state (k : Nat) (p : Perm) (d : Dev) : Prop := p = s.perm ∧ d.get R.HF_IDE_STATUS 0 stream = k ∧
      .doe true [] ∈ d.outbox ∧ (d.get (R.INT_RAW .hf)).testBit 8 = true ∧
      (∀ i, i ≠ stream.val → Tab.look d.face.ideKeys i = Tab.look s.dev.face.ideKeys i) ∧
      ({ s.dev with face := { s.dev.face with ideKeys := d.face.ideKeys } }).Reported
        (fun key => reportKey key ∨ key = R.HF_IDE_STATUS.key 0 stream) d
    (s.dev.face.spdm = true →
      (∀ key, m = .keyProg key → Completes (.ideKeyProg stream m) s (fun p d => state 1 p d ∧
        Tab.look d.face.ideKeys stream = some key)) ∧
      (m = .keySetGo → s.dev.get R.HF_IDE_STATUS 0 stream = 1 → Completes (.ideKeyProg stream m) s (fun p d => state 2 p d ∧
        d.face.ideKeys = s.dev.face.ideKeys)) ∧
      (m = .keySetStop → Completes (.ideKeyProg stream m) s (fun p d => state 0 p d ∧
        Tab.look d.face.ideKeys stream = none))) ∧
    ((s.dev.face.spdm = false ∨ (m = .keySetGo ∧ s.dev.get R.HF_IDE_STATUS 0 stream ≠ 1)) →
      Completes (.ideKeyProg stream m) s (fun p d => p = s.perm ∧
        d = { s.dev with outbox := s.dev.outbox ++ [.doe false []] })))

/-- R527 to R530, R548. -/
def Obligations.VectorsAreMappedMaskedAndSent : Prop :=
  (∀ (s : State) (vec : Fin 512), Completes (.msixVectorUnmask vec true) s (fun p d => p = s.perm ∧
      vec.val ∉ d.log.vecUnmasked ∧ (∀ k, k ≠ vec.val → (k ∈ d.log.vecUnmasked ↔ k ∈ s.dev.log.vecUnmasked)) ∧
      d = { s.dev with log := { s.dev.log with vecUnmasked := d.log.vecUnmasked } })) ∧
  (∀ (s : State) (vec : Fin 512),
    let held (i : Nat) : Prop := i ∈ s.dev.log.irqHeld ∧ s.dev.get R.IC_MAP_VECTOR 0 i = vec ∧ s.dev.on R.IC_MAP_ENABLE 0 i = true
    let goes : Prop := s.dev.msiReady = true ∧ s.dev.log.funcMask = false ∧
      ∃ i, held i ∧ (i < 256 → s.dev.on R.HQ_VEC_MASK i = false)
    (goes → Completes (.msixVectorUnmask vec false) s (fun p d => p = s.perm ∧ vec.val ∈ d.log.vecUnmasked ∧
      d.outbox = s.dev.outbox ++ [.msi vec] ∧ (∀ i, i ∈ d.log.irqHeld ↔ i ∈ s.dev.log.irqHeld ∧ ¬ held i) ∧
      d.get R.IC_MSGS = min (R.IC_MSGS.bound - 1) (s.dev.get R.IC_MSGS + 1) ∧ s.dev.Reported (fun _ => False) d)) ∧
    (¬ goes → Completes (.msixVectorUnmask vec false) s (fun p d => p = s.perm ∧ vec.val ∈ d.log.vecUnmasked ∧
      d = { s.dev with log := { s.dev.log with vecUnmasked := d.log.vecUnmasked } }))) ∧
  (∀ (s : State) (v : Word),
    let i := s.dev.get R.IC_INDEX
    let vec := v.toNat % 512
    let maps (p : Perm) (d : Dev) : Prop := p = s.perm ∧ d.get R.IC_MAP_VECTOR 0 i = vec ∧
      d.get R.IC_MAP_ENABLE 0 i = v.toNat / 2 ^ 31 % 2 ∧ s.dev.Reported (fun _ => False) d ∧
      (∀ k < 512, k ≠ i → d.get R.IC_MAP_VECTOR 0 k = s.dev.get R.IC_MAP_VECTOR 0 k ∧
        d.get R.IC_MAP_ENABLE 0 k = s.dev.get R.IC_MAP_ENABLE 0 k)
    ((s.dev.on R.IC_MAP_ENABLE 0 i = true ∨ v.toNat.testBit 31 = false) →
      Completes (.icMapWrite v) s (fun p d => maps p d ∧ d.log = s.dev.log ∧ d.outbox = s.dev.outbox)) ∧
    (s.dev.on R.IC_MAP_ENABLE 0 i = false → v.toNat.testBit 31 = true → s.dev.irqAsserted i = false →
      Completes (.icMapWrite v) s (fun p d => maps p d ∧ d.outbox = s.dev.outbox ∧
        ∀ k, k ∈ d.log.irqHeld ↔ k ∈ s.dev.log.irqHeld ∧ k ≠ i)) ∧
    (s.dev.on R.IC_MAP_ENABLE 0 i = false → v.toNat.testBit 31 = true → s.dev.irqAsserted i = true →
      i ∈ s.dev.log.irqHeld → s.dev.msiReady = true → s.dev.vecMasked i vec = false →
      Completes (.icMapWrite v) s (fun p d => maps p d ∧ d.outbox = s.dev.outbox ++ [.msi vec] ∧ i ∉ d.log.irqHeld)))

/-- R380 to R386, R390, R397. -/
def Obligations.CardsActivateAndComeAndGo : Prop :=
  let frame (s : State) (d : Dev) : Prop := ({ s.dev with cards := d.cards }).SameWork d
  let powered (s : State) (i : Fin 2) : Prop := 2 ≤ s.dev.get R.CD_STATE_STATE i ∧ s.dev.get R.CD_STATE_STATE i ≤ 4
  let awaits (s : State) (i : Fin 2) : Prop := s.dev.get R.CD_STATE_STATE i = 2 ∧ (s.dev.card i).retryClass = false ∧
    (s.dev.card i).retryPps = false ∧ (s.dev.card i).pps = none
  let activating (s : State) (i : Fin 2) (cls : Nat) (noPps : Bool) (p : Perm) (d : Dev) : Prop :=
    p = s.perm ∧ d.get R.CD_STATE_STATE i = 2 ∧ d.get R.CD_STATE_CLASS_USED i = cls ∧
      d.eff R.CD_CLK_DIV i = s.dev.get R.CD_CLK_DIV i ∧ d.on R.CD_PARAM_PPS_DONE i = false ∧
      d.card i = { s.dev.card i with retryClass := false, retryPps := false, noPps := noPps, pps := none, lowCurrent := true } ∧
      d.outbox = s.dev.outbox ++ [.contacts i true] ∧ frame s d
  let down (s : State) (i : Fin 2) (state : Nat) (p : Perm) (d : Dev) : Prop :=
    p = s.perm ∧ d.get R.CD_STATE_STATE i = state ∧ d.get R.CD_STATE_CLASS_USED i = 0 ∧ d.on R.CD_STATE_SESSION i = false ∧
      (d.card i).session = none ∧ (d.card i).exchange = none ∧ .contacts i false ∈ d.outbox ∧ frame s d
  let failed (s : State) (i : Fin 2) (p : Perm) (d : Dev) : Prop :=
    p = s.perm ∧ d.get R.CD_STATE_STATE i = 6 ∧ d.get R.CD_STATE_CLASS_USED i = 0 ∧ (d.card i).session = none ∧
      d.get (R.ERR_CODE .cd) i = Status.cardAtr.code ∧ .contacts i false ∈ d.outbox ∧ frame s d
  let waits (s : State) (i : Fin 2) (cls pps : Bool) (p : Perm) (d : Dev) : Prop :=
    p = s.perm ∧ d.card i = { s.dev.card i with retryClass := cls, retryPps := pps, pps := none } ∧
      d.regs = s.dev.regs ∧ d.outbox = s.dev.outbox ++ [.contacts i false] ∧ frame s d
  (∀ (s : State) (i : Fin 2), ¬ powered s i → s.dev.power.stage = .running →
    ((s.dev.card i).detect = true →
      Completes (.cardActivate i) s (activating s i (if s.dev.get R.CD_CTL_CLASS i = 2 then 2 else 1) false)) ∧
    ((s.dev.card i).detect = false → Completes (.cardActivate i) s (fun p d => p = s.perm ∧
      d.get (R.ERR_CODE .cd) i = Status.cardAbsent.code ∧ s.dev.Reported (fun key => reportKey key) d))) ∧
  (∀ (s : State) (i : Fin 2), powered s i → s.dev.on R.CD_STATE_SESSION i = (s.dev.card i).session.isSome →
    Completes (.cardDeactivate i) s (down s i (if (s.dev.card i).detect then 1 else 0))) ∧
  (∀ (s : State) (i : Fin 2) (a : Atr), awaits s i →
    let cls := s.dev.get R.CD_STATE_CLASS_USED i
    let mayB := cls = 1 ∧ s.dev.get R.CD_CTL_CLASS i = 0
    (a.usable = false → Completes (.cardAtr i a) s (failed s i)) ∧
    (a.usable = true → a.classOk cls = false →
      (mayB → Completes (.cardAtr i a) s (waits s i true false)) ∧ (¬ mayB → Completes (.cardAtr i a) s (failed s i))) ∧
    (a.usable = true → a.classOk cls = true → Completes (.cardAtr i a) s (fun p d => p = s.perm ∧
      d.get R.CD_PARAM_IFSC i = a.ifsc ∧ d.get R.CD_PARAM_BWI i = a.bwi ∧ d.get R.CD_PARAM_CWI i = a.cwi ∧
      d.on R.CD_PARAM_CRC i = a.crc ∧
      (if a.ta2.isSome ∨ a.ta1 = 0x11 ∨ (s.dev.card i).noPps = true then
        d.get R.CD_STATE_STATE i = 3 ∧ (d.get (R.INT_RAW .cd) i).testBit 3 = true ∧
          d.get R.CD_PARAM_TA1 i = (if a.ta2.isSome then a.ta1 else 0x11)
      else ∃ n : Nat, (d.card i).pps = some n ∧ (fiDi n).isSome = true ∧ d.get R.CD_STATE_STATE i = 2 ∧
          .card i [0xFF#8, 0x11#8, BitVec.ofNat 8 n] ∈ d.outbox) ∧ frame s d)) ∧
    (mayB → Completes (.atrTimeout i) s (waits s i true false)) ∧ (¬ mayB → Completes (.atrTimeout i) s (failed s i)) ∧
    Completes (.atrCompletionTimeout i) s (failed s i)) ∧
  (∀ (s : State) (i : Fin 2), (s.dev.card i).retryClass = true →
    Completes (.classRetry i) s (activating s i 2 (s.dev.card i).noPps)) ∧
  (∀ (s : State) (i : Fin 2), (s.dev.card i).retryPps = true →
    Completes (.ppsRetry i) s (activating s i (s.dev.get R.CD_STATE_CLASS_USED i) true)) ∧
  (∀ (s : State) (i : Fin 2), (s.dev.card i).pps.isSome = true →
    ((s.dev.card i).noPps = true → Completes (.ppsEchoTimeout i) s (failed s i)) ∧
      ((s.dev.card i).noPps = false → Completes (.ppsEchoTimeout i) s (waits s i false true))) ∧
  (∀ (s : State) (i : Fin 2), s.dev.get R.CD_STATE_STATE i = 3 → (s.dev.card i).exchange = none →
    s.dev.get R.CD_PARAM_CLOCK_STOP i ≠ 0 → Completes (.cardClockStop i) s (fun p d => p = s.perm ∧
      d = s.dev.set R.CD_STATE_STATE 4 i)) ∧
  (∀ (s : State) (i : Fin 2) (mv current : BitVec 16),
    let cls := s.dev.get R.CD_STATE_CLASS_USED i
    let outside := 3 ≤ s.dev.get R.CD_STATE_STATE i ∧
      ¬ (if cls = 1 then 1710 ≤ mv.toNat ∧ mv.toNat ≤ 1890 else 2850 ≤ mv.toNat ∧ mv.toNat ≤ 3150)
    let bad := if outside then (s.dev.card i).vccBad + 1 else 0
    let trip := (if cls = 1 then 3500 else 6000) < current.toNat
    let shown (d : Dev) : Prop := d.get R.CD_VCC_MV i = mv.toNat ∧ d.get R.CD_VCC_CURRENT i = current.toNat
    (¬ powered s i → Completes (.cardVccSample i mv current) s (fun p d => p = s.perm ∧ shown d ∧
      { s.dev with regs := d.regs } = d)) ∧
    (powered s i → (s.dev.card i).retryClass = false → (s.dev.card i).retryPps = false →
      (¬ trip → bad ≤ 10 → Completes (.cardVccSample i mv current) s (fun p d => p = s.perm ∧ shown d ∧
        d.get R.CD_STATE_STATE i = s.dev.get R.CD_STATE_STATE i ∧
        d.card i = { s.dev.card i with
          lowCurrent := (s.dev.card i).lowCurrent && decide (current.toNat < 20)
          vccBad := bad } ∧ d.outbox = s.dev.outbox ∧ frame s d)) ∧
      ((trip ∨ 10 < bad) → Completes (.cardVccSample i mv current) s (fun p d => p = s.perm ∧ shown d ∧
        d.get R.CD_STATE_STATE i = (if (s.dev.card i).detect then 1 else 0) ∧ (d.card i).session = none ∧
        (d.card i).exchange = none ∧ (d.get (R.INT_RAW .cd) i).testBit 6 = true ∧ .contacts i false ∈ d.outbox ∧
        frame s d)))) ∧
  (∀ (s : State) (i : Fin 2), (s.dev.card i).detect = true →
    Completes (.cardRemoved i) s (fun p d => p = s.perm ∧ (d.card i).detect = false ∧ d.on R.CD_STATE_PRESENT i = false ∧
      (d.get (R.INT_RAW .cd) i).testBit 2 = true ∧
      (if s.dev.on R.CD_CTL_REMOVE_MODE i = false ∧ (s.dev.card i).exchange.isSome = true ∧
          2 ≤ s.dev.get R.CD_STATE_STATE i ∧ s.dev.get R.CD_STATE_STATE i ≤ 4 then
        d.get R.CD_STATE_STATE i = s.dev.get R.CD_STATE_STATE i ∧ (d.card i).exchange = (s.dev.card i).exchange
      else d.get R.CD_STATE_STATE i = 0) ∧ frame s d)) ∧
  (∀ (s : State) (i : Fin 2), (s.dev.card i).detect = false →
    Completes (.cardInserted i) s (fun p d => p = s.perm ∧ d.card i = { s.dev.card i with detect := true } ∧
      d.on R.CD_STATE_PRESENT i = true ∧ (d.get (R.INT_RAW .cd) i).testBit 2 = true ∧
      d.get R.CD_STATE_STATE i = (if 2 ≤ s.dev.get R.CD_STATE_STATE i ∧ s.dev.get R.CD_STATE_STATE i ≤ 4 then
        s.dev.get R.CD_STATE_STATE i else 1) ∧ frame s d))

/-- R388 to R396, R402, R404, R409. -/
def Obligations.CardCommandsAndCeremonies : Prop :=
  let frame (s : State) (d : Dev) : Prop := ({ s.dev with cards := d.cards }).SameWork d
  let commands (req : Requester) (i : Fin 2) (v : Word) : List Instr := [.cardOpenSession req i v, .cardReadSlot req i v,
    .cardVerify req i v, .cardWriteShare req i v, .cardProtectSlot req i v, .cardWake req i v, .cardClose req i v]
  (∀ (s : State) (req : Requester) (i : Fin 2) (v : Word), ∀ c ∈ commands req i v,
    let refused (st : Status) (p : Perm) (d : Dev) : Prop := p = s.perm ∧ d.get (R.ERR_CODE .cd) i = st.code ∧
      s.dev.Reported (fun key => reportKey key) d
    (req.origin ≠ .supervisor → Completes c s (refused .policyDenied)) ∧
    (req.origin = .supervisor → s.dev.on R.CD_CMD_STATUS_BUSY i = true → Completes c s (refused .cerState)) ∧
    (req.origin = .supervisor → s.dev.on R.CD_CMD_STATUS_BUSY i = false → v.toNat / 256 % 256 ≤ 15 →
      s.dev.on R.CD_STATE_PRESENT i = false → Completes c s (fun p d => p = s.perm ∧
        d.get R.CD_CMD_STATUS_STATUS i = Status.cardAbsent.code ∧ (d.get (R.INT_RAW .cd) i).testBit 4 = true ∧
        s.dev.Reported (fun key => key = R.CD_CMD_STATUS_STATUS.key i 0 ∨ reportKey key) d))) ∧
  (∀ (s : State) (req : Requester) (i : Fin 2) (v : Word),
    let slot := v.toNat / 256 % 256
    let arg := v.toNat / 65536
    let starts (x : CardExchange) (apdu : Bytes) (p : Perm) (d : Dev) : Prop :=
      p = s.perm ∧ (d.card i).exchange = some x ∧ d.on R.CD_CMD_STATUS_BUSY i = true ∧ .card i apdu ∈ d.outbox ∧ frame s d
    req.origin = .supervisor → s.dev.on R.CD_CMD_STATUS_BUSY i = false → slot ≤ 15 → s.dev.on R.CD_STATE_PRESENT i = true →
      (s.dev.get R.CD_STATE_STATE i = 3 → Completes (.cardOpenSession req i v) s (fun p d =>
        starts (newExchange 1 0 []) [0xA4#8] p d ∧ (d.card i).session = none)) ∧
      (∀ x, s.dev.get R.CD_STATE_STATE i = 3 → (s.dev.card i).session = some x →
        Completes (.cardReadSlot req i v) s (starts (newExchange 2 slot []) [0xB0#8, BitVec.ofNat 8 slot]) ∧
        (16 ≤ arg → arg ≤ 128 → Completes (.cardVerify req i v) s (starts (newExchange 3 0 [])
          (0x20#8 :: s.dev.pinBlockBytes i arg))) ∧
        (∀ k, s.dev.cards.backup = some k → s.dev.get R.CD_CER_STATUS_STATE = 3 → 1 ≤ arg → arg ≤ k.n →
          Completes (.cardWriteShare req i v) s (starts (newExchange 4 slot (k.slotData arg))
            [0xB0#8, BitVec.ofNat 8 slot])) ∧
        Completes (.cardProtectSlot req i v) s (starts (newExchange 5 slot []) [0xDA#8, BitVec.ofNat 8 slot]) ∧
        Completes (.cardClose req i v) s (starts (newExchange 7 0 []) [0x14#8])) ∧
      (∀ x, (s.dev.get R.CD_STATE_STATE i = 3 ∨ s.dev.get R.CD_STATE_STATE i = 4) → (s.dev.card i).session = some x →
        Completes (.cardWake req i v) s (fun p d =>
          starts (newExchange 6 0 []) (0x12#8 :: beBytes 4 (x.counter + 1)) p d ∧ d.get R.CD_STATE_STATE i = 3 ∧
            (d.card i).session = some { x with counter := x.counter + 1 }))) ∧
  (∀ (s : State) (i : Fin 2) (x : CardExchange), (s.dev.card i).exchange = some x → (s.dev.card i).pps = none →
    (s.dev.card i).detect = true →
    let ends (st : Status) (p : Perm) (d : Dev) : Prop := p = s.perm ∧ (d.card i).exchange = none ∧
      d.on R.CD_CMD_STATUS_BUSY i = false ∧ d.get R.CD_CMD_STATUS_STATUS i = st.code ∧
      (d.get (R.INT_RAW .cd) i).testBit 4 = true ∧ frame s d
    (∀ (id hash : Nat) (e : RosterEntry), x.op = 1 →
      s.dev.cards.roster.find? (fun e => e.keyHash == hash && e.cardId == id) = some e →
      Completes (.cardT1Block i (.response (.session id hash true))) s (fun p d => ends .ok p d ∧
        (d.card i).session = some ⟨id, hash, e.classes, false, [], 0⟩ ∧ d.on R.CD_STATE_SESSION i = true)) ∧
    (∀ (y : SlotImage) (c : CardSession), x.op = 2 → (s.dev.card i).session = some c →
      (y.crcOk = true → Completes (.cardT1Block i (.response (.slot y))) s (fun p d => ends .ok p d ∧
        d.get R.CD_CMD_STATUS_FLAGS i = y.flags % 4 ∧ d.get R.CD_SLOT_VERSION i = y.version % 2 ^ 32 ∧
        (d.card i).session = some { c with flags := Tab.put c.flags x.slot y.flags })) ∧
      (y.crcOk = false → Completes (.cardT1Block i (.response (.slot y))) s (fun p d => ends .slotUndefined p d ∧
        d.get R.CD_CMD_STATUS_FLAGS i = 64))) ∧
    (∀ (y : SlotImage) (c : CardSession), x.op = 4 → x.sent = false → (s.dev.card i).session = some c → y.crcOk = true →
      y.flags % 4 = 0 → Completes (.cardT1Block i (.response (.slot y))) s (fun p d => p = s.perm ∧
        (∃ z, (d.card i).exchange = some z ∧ z.sent = true ∧ z.version = y.version ∧ z.data = x.data ∧ z.slot = x.slot) ∧
        .card i [0xD0#8, BitVec.ofNat 8 x.slot] ∈ d.outbox ∧ frame s d)) ∧
    (∀ (n : Nat) (c : CardSession), x.op = 4 → x.sent = true → (s.dev.card i).session = some c →
      Completes (.cardT1Block i (.response (.written n))) s (fun p d => ends .ok p d ∧
        d.get R.CD_SLOT_VERSION i = n % 2 ^ 32)) ∧
    (∀ overrun : Bool, x.resynchs = 0 → x.tries < s.dev.get R.CD_T1_RETRY i →
      Completes (if overrun then .cardWaitTimeout i else .cardT1Block i .bad) s (fun p d => p = s.perm ∧
        (d.card i).exchange = some { x with tries := x.tries + 1, timeout := overrun, wtx := 0 } ∧
        d.outbox = s.dev.outbox ++ [.card i [0x82#8]] ∧ frame s d)) ∧
    Completes (.wtxLimit i) s (fun p d => ends .cardTimeout p d ∧ d.get R.CD_STATE_STATE i = 1 ∧
      (d.card i).session = none ∧ .contacts i false ∈ d.outbox)) ∧
  (∀ (s : State) (req : Requester) (v : Word),
    let cls := v.toNat / 256 % 256
    let m := s.dev.threshold cls
    let refused (st : Status) (p : Perm) (d : Dev) : Prop := p = s.perm ∧ d.get (R.ERR_CODE .cd) = st.code ∧
      s.dev.Reported (fun key => reportKey key) d
    (s.dev.get R.CD_CER_STATUS_STATE ≠ 0 → Completes (.ceremonyOpen req v) s (refused .cerState)) ∧
    (s.dev.get R.CD_CER_STATUS_STATE = 0 → 1 ≤ cls → cls ≤ 10 → m ≠ 0 → m < 32 → s.perm.level < 2 →
      Completes (.ceremonyOpen req v) s (fun p d => p = s.perm ∧ d.get R.CD_CER_STATUS_STATE = 1 ∧
        d.get R.CD_CER_STATUS_CLASS = cls ∧ d.get R.CD_CER_STATUS_COUNT = 0 ∧ d.get R.CD_CER_STATUS_M = m ∧
        d.get R.CD_CER_STATUS_BAY = (if cls = 5 ∨ cls = 6 ∨ cls = 10 then v.toNat / 65536 % 256 else 0) ∧
        s.dev.SameWork d)) ∧
    (s.dev.get R.CD_CER_STATUS_STATE = 0 → s.perm.level < 2 → (cls < 1 ∨ 10 < cls ∨ m = 0) →
      Completes (.ceremonyOpen req v) s (refused .inputRange))) ∧
  (∀ (s : State) (req : Requester),
    let state := s.dev.get R.CD_CER_STATUS_STATE
    let ended (p : Perm) (d : Dev) : Prop := p = s.perm ∧
      (∀ f ∈ [R.CD_CER_STATUS_STATE, R.CD_CER_STATUS_CLASS, R.CD_CER_STATUS_BAY, R.CD_CER_STATUS_COUNT, R.CD_CER_STATUS_M],
        d.get f = 0) ∧ (d.get (R.INT_RAW .cd)).testBit 9 = true ∧
      d.cards = { s.dev.cards with counted := [], backup := none, shares := [], shareId := [], shareM := 0 } ∧ frame s d
    ((state = 1 ∨ state = 2) → Completes (.ceremonyClose req) s ended) ∧
    (state = 1 → Completes .ceremonyTimeout s ended) ∧ (state = 2 → Completes .authorizationLapse s ended))

/-- R411 to R426, R438, R522. -/
def Obligations.TamperSourcesCountFireAndErase : Prop :=
  (∀ (s : State) (source : Fin 42) (stamp : Nat) (reading : Word) (level : Bool),
    let c := s.dev.sourceEff source
    let l := Tab.get s.dev.plinth.stamps source [] ++ [stamp]
    let fires := c.1 ≤ l.length ∧
      s.dev.inWindow ((l.drop (l.length - c.1)).headD stamp) stamp (c.2.2.1 * unitUs c.2.1) = true
    let counts := s.dev.watched s.perm source = true ∧ ¬ (level = true ∧ source.val ∈ s.dev.plinth.asserted)
    let up (f : Fld) (n : Nat) (d : Dev) : Prop := d.get f 0 source = min (f.bound - 1) (s.dev.get f 0 source + n)
    (¬ counts → Completes (.tamperEvent source stamp reading level) s (fun p d => p = s.perm ∧
      (∀ f ∈ [R.TM_SRC_EVENTS, R.TM_SRC_FIRINGS], ∀ k < 42, d.get f 0 k = s.dev.get f 0 k) ∧
      d.plinth.stamps = s.dev.plinth.stamps ∧ (level = true → source.val ∈ d.plinth.asserted) ∧
      ({ s.dev with plinth := d.plinth, power := d.power }).SameWork d)) ∧
    (counts → ¬ fires → Completes (.tamperEvent source stamp reading level) s (fun p d => p = s.perm ∧
      up R.TM_SRC_EVENTS 1 d ∧ up R.TM_SRC_FIRINGS 0 d ∧
      Tab.look d.plinth.stamps source = some (l.drop (l.length - c.1)) ∧ (level = true → source.val ∈ d.plinth.asserted) ∧
      ({ s.dev with plinth := d.plinth, power := d.power }).SameWork d)) ∧
    (counts → fires → s.dev.power.main = true → Completes (.tamperEvent source stamp reading level) s (fun p d =>
      p = { s.perm with level := max s.perm.level c.2.2.2 } ∧ up R.TM_SRC_EVENTS 1 d ∧ up R.TM_SRC_FIRINGS 1 d ∧
      Tab.look d.plinth.stamps source = none ∧
      (1 ≤ c.2.2.2 → if source.val < 32 then (d.get R.TM_FIRED_LO).testBit source = true
        else (d.get R.TM_FIRED_HI).testBit (source.val - 32) = true) ∧
      (s.perm.level < c.2.2.2 → (d.get (R.INT_RAW .tm)).testBit 2 = true) ∧
      (s.perm.level < 3 → 3 ≤ c.2.2.2 → d.keys.root = none ∧ d.keys.cache = [] ∧ d.keys.nodes = [] ∧
        d.face.sessions = [] ∧ d.face.psk = none)))) ∧
  (∀ (s : State) (source : Fin 42) (reading : Word), Completes (.tamperConditionEnd source reading) s (fun p d => p = s.perm ∧
      d.plinth = { s.dev.plinth with asserted := s.dev.plinth.asserted.filter (· ≠ source.val) } ∧
      { s.dev with
        regs := d.regs
        plinth := d.plinth } = d)) ∧
  (∀ (s : State) (t0 t1 t2 : Int) (stamp : Nat), s.dev.mgmtOn = true →
    let t : List Int := [t0, t1, t2]
    let high : List Int := [460, 460, 380]
    Completes (.temperatureSample t0 t1 t2 stamp) s (fun p d =>
      p = { s.perm with level := p.level } ∧ s.perm.level ≤ p.level ∧
      d.get R.TM_TEMP_S0 = (t0 % 1024).toNat ∧ d.get R.TM_TEMP_S1 = (t1 % 1024).toNat ∧
      d.get R.TM_TEMP_S2 = (t2 % 1024).toNat ∧
      (∀ i < 3, (10 + 2 * i ∈ d.plinth.asserted ↔ t.getD i 0 < -180) ∧
        (11 + 2 * i ∈ d.plinth.asserted ↔ high.getD i 0 < t.getD i 0)) ∧
      (4 * (s.dev.get R.PW_TEMP_WARN_PLATE_C : Int) < t2 → (d.get (R.INT_RAW .pw)).testBit 7 = true) ∧
      (4 * (s.dev.get R.PW_TEMP_WARN_DIE_C : Int) < max t0 t1 → (d.get (R.INT_RAW .pw)).testBit 8 = true))) ∧
  (∀ (s : State) (differs : BitVec 4) (stamp : Nat), s.dev.mgmtOn = true →
    Completes (.meshPatternChange differs stamp) s (fun p d => p = { s.perm with level := p.level } ∧
      s.perm.level ≤ p.level ∧
      ∀ i < 4, d.get R.TM_SRC_EVENTS 0 i = min (R.TM_SRC_EVENTS.bound - 1)
        (s.dev.get R.TM_SRC_EVENTS 0 i + if differs.toNat.testBit i = true ∧ i ∉ s.perm.fuses then 1 else 0))) ∧
  (∀ s : State, s.perm.level = 4 → s.perm.shareErased = false → s.dev.wires.demand = false →
    Completes .shareEraseDone s (fun p d => p = { s.perm with shareErased := true } ∧ d.plinth.share = none ∧
      d.keys.root = none ∧ d.keys.nodes = [] ∧ d.get R.KT_STATUS_ROOT = 0 ∧ d.keys.objs = s.dev.keys.objs ∧
      d.sched = s.dev.sched ∧ d.eng = s.dev.eng)) ∧
  (∀ (s : State) (req : Requester) (v : Word),
    let source := s.dev.get R.TM_SRC_INDEX
    let old := s.dev.sourceCfg source
    let n := v.toNat / 2 ^ 24
    let u := v.toNat / 2 ^ 22 % 4
    let w := v.toNat / 2 ^ 8 % 2 ^ 14
    let r := v.toNat % 8
    let wrong := n = 0 ∨ u = 3 ∨ w = 0 ∨ 10000 < w ∨ 4 < r ∨ r < lowestResponse source
    let looser := (s.perm.lcState = 3 ∨ s.perm.lcState = 4) ∧
      (r < old.2.2.2 ∨ old.1 < n ∨ w * unitUs u < old.2.2.1 * unitUs old.2.1)
    (s.dev.on (R.LOCK .tm) = true → Completes (.tmSrcCfgWrite req v) s (fun p d => p = s.perm ∧ d = s.dev)) ∧
    (s.dev.on (R.LOCK .tm) = false →
      (wrong → Completes (.tmSrcCfgWrite req v) s (fun p d => p = s.perm ∧
        d.get (R.ERR_CODE .tm) = Status.inputRange.code ∧ s.dev.Reported (fun key => reportKey key) d)) ∧
      (¬ wrong → looser → Completes (.tmSrcCfgWrite req v) s (fun p d => p = s.perm ∧
        d.get (R.ERR_CODE .tm) = Status.policyDenied.code ∧ (d.get (R.INT_RAW .tm)).testBit 5 = true ∧
        s.dev.Reported (fun key => reportKey key) d)) ∧
      (¬ wrong → ¬ looser → Completes (.tmSrcCfgWrite req v) s (fun p d => p = s.perm ∧ d.sourceCfg source = (n, u, w, r) ∧
        (∀ k < 64, k ≠ source → d.sourceCfg k = s.dev.sourceCfg k) ∧
        ({ s.dev with cs := d.cs }).SameWork d)))) ∧
  (∀ (s : State) (v : Word),
    let source := v.toNat % 64
    let ends (st : Status) (p : Perm) (d : Dev) : Prop := p = s.perm ∧ d.get R.TM_FUSE_STATUS_STATUS = st.code ∧
      d.on R.TM_FUSE_STATUS_BUSY = false ∧ (d.get (R.INT_RAW .tm)).testBit 4 = true ∧ s.dev.SameWork d
    let can := (6 ≤ source ∧ source ≤ 9) ∨ (34 ≤ source ∧ source ≤ 36)
    (v.toNat / 256 % 256 ≠ 0x5A → Completes (.tmFuseCmd v) s (fun p d => p = s.perm ∧ d = s.dev)) ∧
    (v.toNat / 256 % 256 = 0x5A →
      (1 < s.perm.lcState → Completes (.tmFuseCmd v) s (ends .lcState)) ∧
      (s.perm.lcState ≤ 1 → ¬ can → Completes (.tmFuseCmd v) s (ends .inputRange)) ∧
      (s.perm.lcState ≤ 1 → can → s.dev.life.standing ≠ some (3, source) → Completes (.tmFuseCmd v) s (ends .authToken)) ∧
      (s.perm.lcState ≤ 1 → can → s.dev.life.standing = some (3, source) → Completes (.tmFuseCmd v) s (fun p d => p = s.perm ∧
        d.life = { s.dev.life with standing := none, fusing := some source } ∧ d.on R.TM_FUSE_STATUS_BUSY = true ∧
        d.on R.LC_TOKEN_STATUS_STANDING = false ∧
        { s.dev with
          regs := d.regs
          life := d.life } = d)))) ∧
  (∀ (s : State) (source : Nat), s.dev.life.fusing = some source →
    Completes .fuseDone s (fun p d => p = { s.perm with fuses := s.perm.fuses.filter (· ≠ source) ++ [source] } ∧
      d.life = { s.dev.life with fusing := none } ∧ source ∉ d.plinth.asserted ∧
      Tab.look d.plinth.stamps source = none ∧ d.get R.TM_FUSE_STATUS_STATUS = Status.ok.code ∧
      d.on R.TM_FUSE_STATUS_BUSY = false ∧
      ({ s.dev with
        life := d.life
        plinth := d.plinth
        cs := d.cs }).SameWork d))

/-- R417, R433 to R440, R537, R573. What the lost SRAM held is free. -/
def Obligations.CornerstoneRecordsAreLinkedAndRead : Prop :=
  (∀ (s : State) (b : CsBody) (rest : List CsBody), s.dev.cs.buffer = b :: rest →
    (s.dev.power.main = true → s.dev.cs.durable.length < 8388608 →
      let link := sha512 (s.dev.cs.head ++ b.bytes)
      Completes .cornerstoneFlush s (fun p d => p = s.perm ∧
        ({ s.dev with cs := { s.dev.cs with
          buffer := rest
          durable := s.dev.cs.durable ++ [(b, link)]
          head := link } }).Reported (fun key => reportKey key) d ∧
        (rest = [] → (d.get (R.INT_RAW .cs)).testBit 2 = true) ∧
        (s.dev.cs.durable.length = 8388607 → (d.get (R.INT_RAW .cs)).testBit 3 = true))) ∧
    ((s.dev.power.main = false ∨ 8388608 ≤ s.dev.cs.durable.length) →
      Completes .cornerstoneFlush s (fun p d => p = s.perm ∧ d = s.dev))) ∧
  (∀ (s : State) (v : Word),
    let due := decide (v.toNat < s.dev.cs.next)
    Completes (.csRead v) s (fun p d => p = s.perm ∧ d.get R.CS_READ_INDEX = v.toNat ∧ d.on R.CS_READ_STATUS_VALID = false ∧
      d.on R.CS_READ_STATUS_LINKED = false ∧ d.on R.CS_READ_STATUS_BUSY = due ∧
      d.get R.CS_READ_STATUS_STATUS = (if due then 0 else Status.inputRange.code) ∧
      d.cs = { s.dev.cs with reading := if due then some v.toNat else none, data := [] } ∧
      { s.dev with
        regs := d.regs
        cs := d.cs } = d)) ∧
  (∀ (s : State) (n : Nat), s.dev.cs.reading = some n →
    let stored := s.dev.cs.durable.find? (fun r => r.1.number == n)
    let held := s.dev.cs.buffer.find? (fun b => b.number == n)
    Completes .csReadDone s (fun p d => p = s.perm ∧ d.on R.CS_READ_STATUS_BUSY = false ∧
      d.cs = { s.dev.cs with
        reading := none
        data := match stored, held with
          | some r, _ => r.1.bytes ++ r.2
          | none, some b => b.bytes ++ zeros 64
          | none, none => s.dev.cs.data } ∧
      (stored.isSome = true → d.on R.CS_READ_STATUS_VALID = true ∧ d.on R.CS_READ_STATUS_LINKED = true) ∧
      (stored = none → held.isSome = true → d.on R.CS_READ_STATUS_VALID = true) ∧
      (stored = none → held = none → d.get R.CS_READ_STATUS_STATUS = Status.recordLost.code) ∧
      { s.dev with
        regs := d.regs
        cs := d.cs } = d)) ∧
  (∀ s : State, Completes .plinthSecond s (fun p d => p = s.perm ∧
      d = { s.dev with plinth := { s.dev.plinth with
        tick := 0
        seconds := if s.dev.plinth.running then (s.dev.plinth.seconds + 1) % 2 ^ 32 else s.dev.plinth.seconds } })) ∧
  (∀ s : State,
    let first := match s.dev.cs.durable.getLast? with | some r => (r.1.number + 1) % 2 ^ 32 | none => 0
    let marks := match s.dev.log.markMain.getLast? with | some m => m.seq + 1 | none => s.dev.log.markBase
    Completes .plinthPowerRestored s (fun p d => p = s.perm ∧ d.plinth.share = none ∧ d.plinth.stamps = [] ∧
      d.cs.durable = s.dev.cs.durable ∧ d.cs.head = s.dev.cs.head ∧ d.cs.skipped = s.dev.cs.skipped ++ [(first, 256)] ∧
      d.cs.next = (first + 257) % 2 ^ 32 ∧
      (∃ b : CsBody, d.cs.buffer = [b] ∧ b.number = (first + 256) % 2 ^ 32 ∧ b.kind = 0x0A ∧ b.p0 = first ∧ b.p1 = 256 ∧
        b.level = s.perm.level) ∧
      (s.dev.plinth.running = false → d.plinth.seconds = 0) ∧ d.log.markBuf = [] ∧ d.log.markNext = marks + 8191 ∧
      d.log.markGap = some (marks, marks + 8191) ∧
      (∀ k < 42, 1 ≤ d.get R.TM_SRC_CFG_N 0 k ∧ 1 ≤ d.get R.TM_SRC_CFG_W 0 k ∧ d.get R.TM_SRC_CFG_W 0 k ≤ 10000 ∧
        d.get R.TM_SRC_CFG_W_UNIT 0 k ≤ 2 ∧ lowestResponse k ≤ d.get R.TM_SRC_CFG_RESPONSE 0 k ∧
        d.get R.TM_SRC_CFG_RESPONSE 0 k ≤ 4) ∧
      ({ s.dev with
        plinth := d.plinth
        cs := d.cs
        free := d.free }).SameWork d))

/-- R443 to R456, R460. The finding of a step that checks is an operand. -/
def Obligations.LifeCycleTransitionsRunTheirSteps : Prop :=
  (∀ (s : State) (v : Word),
    let target := v.toNat / 256 % 8
    let spent := if s.dev.life.standing = some (1, target) then none else s.dev.life.standing
    (v.toNat.testBit 0 = false → Completes (.lcTransitionRequest v) s (fun p d => p = s.perm ∧
      d = s.dev.set R.LC_CTRL_TARGET target)) ∧
    (∀ st, v.toNat.testBit 0 = true → s.dev.lcFault s.perm target = some st →
      Completes (.lcTransitionRequest v) s (fun p d => p = s.perm ∧ d.get R.LC_STATUS_STATUS = st.code ∧
        d.get R.LC_CTRL_TARGET = target ∧ d.life = { s.dev.life with standing := spent } ∧
        { s.dev with
          regs := d.regs
          life := d.life } = d)) ∧
    (v.toNat.testBit 0 = true → s.dev.lcFault s.perm target = none →
      Completes (.lcTransitionRequest v) s (fun p d => p.otpWord target = s.perm.otpWord target ||| 15 ∧
        (∀ w, w ≠ target → p.otpWord w = s.perm.otpWord w) ∧ p = { s.perm with otp := p.otp } ∧
        d.life.transition = some ⟨target, 0⟩ ∧ d.life.session = none ∧ d.life.standing = spent ∧
        d.get R.LC_STATUS_TARGET = target ∧ d.on R.LC_STATUS_BUSY = true ∧ d.get R.LC_STATUS_STATUS = Status.ok.code ∧
        ({ s.dev with
          life := d.life
          cs := d.cs }).SameWork d))) ∧
  (∀ (s : State) (ok : Bool) (t : Transition) (k : Nat), s.dev.life.transition = some t →
    s.perm.nextStep t.target = some k →
    (∀ st, (s.dev.lcStep s.perm t.target k ok).1 = some st → Completes (.lcStepDone ok) s (fun p d => p = s.perm ∧
      d.get R.LC_STATUS_STATUS = st.code ∧ d.life.transition = some t ∧ d.power = s.dev.power ∧ d.cards = s.dev.cards ∧
      d.plinth = s.dev.plinth)) ∧
    ((s.dev.lcStep s.perm t.target k ok).1 = none →
      let p1 := (s.dev.lcStep s.perm t.target k ok).2.1
      let done (p : Perm) (w : Nat) : Nat := if w = t.target then p.otpWord w ||| 2 ^ (4 + k) else p.otpWord w
      Completes (.lcStepDone ok) s (fun p d =>
        (if ((p1.program t.target (2 ^ (4 + k))).nextStep t.target).isSome then
          (∀ w, p.otpWord w = done s.perm w) ∧ d.life.transition = some t ∧ d.on R.LC_STATUS_BUSY = true ∧
            d.get R.LC_STATUS_TARGET = t.target % 8
        else
          p.otpWord 0 = done s.perm 0 ||| (2 ^ (4 * t.target) - 1) ∧ (∀ w, w ≠ 0 → p.otpWord w = done s.perm w) ∧
            d.life = Life.reset ∧ d.power.stage = .window ∧ d.sched = Sched.reset ∧ d.eng = Eng.reset ∧
            d.face.sessions = [])))) ∧
  (∀ (s : State) (ok : Bool) (t : Transition) (k : Nat), s.dev.life.transition = some t →
    s.perm.nextStep t.target = some k → k < 5 → t.target = 6 ∨ t.target = 7 →
    Completes (.lcStepDone ok) s (fun p d => match k with
      | 0 => p.shareErased = true ∧ d.plinth.share = none ∧ d.keys.root = none
      | 1 => d.keys.helpers = (⟨0, false⟩, s.dev.keys.helpers.2)
      | 2 => d.keys.helpers = (s.dev.keys.helpers.1, ⟨0, false⟩)
      | 3 => d.keys.cache = [] ∧ d.keys.sess = [] ∧ d.keys.nodes = [] ∧ d.keys.scratchKey = false
      | _ => d.keys.objs = [] ∧ d.keys.entries = [] ∧ d.keys.nonces = [] ∧ d.cards.roster = []))

/-- R453 to R458, R460. Whether the token's signature verifies is an operand. -/
def Obligations.TokensAndTheDebugPort : Prop :=
  (∀ (s : State) (req : Requester) (v : Word), v.toNat.testBit 0 = true → s.dev.on R.RN_STATUS_FAIL = false →
    Completes (.lcChallengeNew req v) s (fun p d => p = s.perm ∧
      (∃ b : Bytes, b.length = 32 ∧ d.life = { s.dev.life with challenge := some b }) ∧ d.on R.LC_CHAL_CTL_LIVE = true ∧
      ({ s.dev with
        life := d.life
        keys := d.keys
        free := d.free }).SameWork d)) ∧
  (∀ s : State, Completes .challengeExpiry s (fun p d => p = s.perm ∧ d.on R.LC_CHAL_CTL_LIVE = false ∧
    d.life = { s.dev.life with challenge := none } ∧
    { s.dev with
      regs := d.regs
      life := d.life } = d)) ∧
  (∀ s : State, Completes .tokenStandingExpiry s (fun p d => p = s.perm ∧ d.on R.LC_TOKEN_STATUS_STANDING = false ∧
    d.life = { s.dev.life with standing := none } ∧
    { s.dev with
      regs := d.regs
      life := d.life } = d)) ∧
  (∀ (s : State) (v : Word),
    (v.toNat.testBit 0 = true → s.dev.on R.LC_TOKEN_STATUS_BUSY = false →
      Completes (.tokenSubmit v) s (fun p d => p = s.perm ∧ d.on R.LC_TOKEN_STATUS_BUSY = true ∧
        d.on R.LC_CHAL_CTL_LIVE = false ∧
        d.life = { s.dev.life with
          challenge := none
          checking := some ⟨s.dev.life.challenge.isSome, s.dev.life.challenge.getD []⟩ } ∧
        { s.dev with
          regs := d.regs
          life := d.life } = d)) ∧
    ((v.toNat.testBit 0 = false ∨ s.dev.on R.LC_TOKEN_STATUS_BUSY = true) →
      Completes (.tokenSubmit v) s (fun p d => p = s.perm ∧ d = s.dev))) ∧
  (∀ (s : State) (signed : Bool) (c : TokenCheck), s.dev.life.checking = some c →
    let ends (st : Status) (p : Perm) (d : Dev) : Prop := p = s.perm ∧ d.life.checking = none ∧
      d.on R.LC_TOKEN_STATUS_BUSY = false ∧ d.get R.LC_TOKEN_STATUS_STATUS = st.code ∧
      (d.get (R.INT_RAW .lc)).testBit 4 = true
    (c.live = false → Completes (.tokenCheckDone signed) s (ends .challengeAbsent)) ∧
    (c.live = true → signed = false → Completes (.tokenCheckDone signed) s (ends .authToken)) ∧
    (∀ st, s.dev.tokenCheck s.perm c signed = .inl st → Completes (.tokenCheckDone signed) s (fun p d => ends st p d ∧
      d.life = { s.dev.life with checking := none } ∧ ({ s.dev with life := d.life }).SameWork d)) ∧
    (∀ purpose what, s.dev.tokenCheck s.perm c signed = .inr (.stands purpose what) →
      Completes (.tokenCheckDone signed) s (fun p d => ends .ok p d ∧ d.on R.LC_TOKEN_STATUS_STANDING = true ∧
        d.life = { s.dev.life with
          checking := none
          standing := some (purpose, what) } ∧ ({ s.dev with life := d.life }).SameWork d)) ∧
    (∀ scope seconds, s.dev.tokenCheck s.perm c signed = .inr (.debug scope seconds) →
      Completes (.tokenCheckDone signed) s (fun p d => ends .ok p d ∧ d.on R.DBG_STATUS_SESSION = true ∧
        d.get R.DBG_REMAIN = seconds ∧ (d.get (R.INT_RAW .dbg)).testBit 2 = true ∧
        d.life = { s.dev.life with
          checking := none
          session := some scope } ∧ d.sched = s.dev.sched ∧ d.keys = s.dev.keys))) ∧
  (∀ (s : State) (v : Word) (scope : Nat), s.dev.life.session = some scope →
    let closed (p : Perm) (d : Dev) : Prop := p = s.perm ∧ d.life = { s.dev.life with session := none } ∧
      d.on R.DBG_STATUS_SESSION = false ∧ d.get R.DBG_STATUS_SCOPE = 0 ∧ d.get R.DBG_REMAIN = 0 ∧
      (d.get (R.INT_RAW .dbg)).testBit 3 = true ∧
      ({ s.dev with
        life := d.life
        cs := d.cs }).SameWork d
    Completes .debugSessionExpiry s closed ∧ (v.toNat.testBit 0 = true → Completes (.dbgEnd v) s closed) ∧
      (v.toNat.testBit 0 = false → Completes (.dbgEnd v) s (fun p d => p = s.perm ∧ d = s.dev))) ∧
  (∀ (s : State) (stamp : Nat) (c : Instr) (i : TapIns), (c, i) ∈ [(Instr.tapIdcode stamp, TapIns.idcode),
      (.tapBypass stamp, .bypass), (.tapSamplePreload stamp, .samplePreload), (.tapExtest stamp, .extest),
      (.tapIntest stamp, .intest)] →
    ((i = .idcode ∨ i = .bypass ∨ (s.dev.debugScope s.perm).testBit 6 = true) →
      Completes c s (fun p d => p = s.perm ∧ d = { s.dev with life := { s.dev.life with tap := i } })) ∧
    (i ≠ .idcode → i ≠ .bypass → (s.dev.debugScope s.perm).testBit 6 = false →
      Completes c s (fun p d => s.perm.level ≤ p.level ∧ d.life.tap = .bypass ∧
        d.get R.DBG_REFUSED = min (R.DBG_REFUSED.bound - 1) (s.dev.get R.DBG_REFUSED + 1))))

/-- R478 to R491, R502. The digests are operands. -/
def Obligations.KeystonesCompareFailAndSwitch : Prop :=
  let st (d : Dev) (u : Nat) : Nat := d.get R.KS_STATUS_STATE u
  let failed (d : Dev) (u cause : Nat) : Prop := st d u = 5 ∧ d.get R.KS_STATUS_CAUSE u = cause ∧
    d.on R.KS_CTRL_RESTART u = false ∧ d.pair.digests = [] ∧ d.pair.revert = false ∧ d.on R.KS_PAIR_CTL_SWITCH = false
  let switched (s : State) (d : Dev) (new : Nat) : Prop := st d new = 4 ∧
    d.get R.KS_PAIR_STATUS_CONTROLLER = 0x80 + (if new = 0 then 1 else 0) ∧
    d.get R.KS_SWITCHES_FAILURE = (s.dev.get R.KS_SWITCHES_FAILURE + 1) % 2 ^ 16 ∧ (d.get (R.INT_RAW .ks)).testBit 7 = true
  let shown (d : Dev) (u n : Nat) : Prop :=
    d.get R.KS_INPUT_LO u = n % 2 ^ 32 ∧ d.get R.KS_INPUT_HI u 1 = n / 2 ^ 32 % 2 ^ 32
  (∀ (s : State) (digest : DWord) (standby : List DWord) (stamp : Nat), (∀ u < 2, st s.dev u ≠ 4) →
    Completes (.keystoneInput digest standby stamp) s (fun p d => p = s.perm ∧
      d = { s.dev with pair := { s.dev.pair with nextInput := s.dev.pair.nextInput + 1 } })) ∧
  (∀ (s : State) (digest : DWord) (standby : List DWord) (stamp : Nat) (c : Fin 2),
    let u := 1 - c.val
    let n := s.dev.pair.nextInput
    let old := s.dev.pair.digests
    st s.dev c = 4 →
      (st s.dev u ≠ 3 → st s.dev u ≠ 4 → Completes (.keystoneInput digest standby stamp) s (fun p d => p = s.perm ∧
        d.pair = { s.dev.pair with nextInput := n + 1 } ∧ shown d c n ∧
        { s.dev with
          regs := d.regs
          pair := d.pair } = d)) ∧
      (st s.dev u = 3 →
        (standby = [] → old.length < 4096 → Completes (.keystoneInput digest standby stamp) s (fun p d => p = s.perm ∧
          d.pair = { s.dev.pair with nextInput := n + 1, digests := old ++ [(n, digest.toNat)] } ∧ shown d c n ∧
          d.get R.KS_LAG u = old.length + 1 ∧ st d u = 3 ∧ st d c = 4 ∧
          { s.dev with
            regs := d.regs
            pair := d.pair } = d)) ∧
        (standby = [digest] → old = [] → Completes (.keystoneInput digest standby stamp) s (fun p d => p = s.perm ∧
          d.pair = { s.dev.pair with nextInput := n + 1 } ∧ shown d c n ∧ shown d u n ∧ d.get R.KS_LAG u = 0 ∧ st d u = 3 ∧
          st d c = 4 ∧
          { s.dev with
            regs := d.regs
            pair := d.pair } = d)) ∧
        (∀ x, standby = [x] → x ≠ digest → old = [] → Completes (.keystoneInput digest standby stamp) s (fun p d =>
          p = s.perm ∧ failed d u 3 ∧ st d c = 4 ∧ (d.get (R.INT_RAW .ks) u).testBit 6 = true ∧
          d.get R.KS_DIVERGE u = min (R.KS_DIVERGE.bound - 1) (s.dev.get R.KS_DIVERGE u + 1) ∧
          ({ s.dev with pair := d.pair }).SameWork d)) ∧
        (standby = [] → old.length = 4096 → Completes (.keystoneInput digest standby stamp) s (fun p d =>
          p = s.perm ∧ failed d u 4 ∧ st d c = 4 ∧ ({ s.dev with pair := d.pair }).SameWork d)))) ∧
  (∀ (s : State) (aMortar aWire bMortar bWire : Bool) (stamp : Nat),
    let beats (u : Nat) : Prop := 2 ≤ st s.dev u ∧ st s.dev u ≤ 4
    let next (f : Fld) (u : Nat) (seen : Bool) : Nat := if seen then 0 else min 15 (s.dev.get f u + 1)
    let m (u : Nat) : Nat := next R.KS_STATUS_MISS_MORTAR u (if u = 0 then aMortar else bMortar)
    let w (u : Nat) : Nat := next R.KS_STATUS_MISS_WIRE u (if u = 0 then aWire else bWire)
    let silent (u : Nat) : Prop := beats u ∧ 4 ≤ m u ∧ 4 ≤ w u
    ((∀ u < 2, ¬ silent u) → Completes (.heartbeatWindow aMortar aWire bMortar bWire stamp) s (fun p d => p = s.perm ∧
      d.pair.windows = s.dev.pair.windows + 1 ∧ ({ s.dev with pair := d.pair }).SameWork d ∧
      ∀ u < 2, st d u = st s.dev u ∧ (beats u → d.get R.KS_STATUS_MISS_MORTAR u = m u ∧ d.get R.KS_STATUS_MISS_WIRE u = w u ∧
        (m u = 0 → w u = 0 → (d.unit u).episode = false) ∧
        ((s.dev.unit u).episode = false → (4 ≤ m u ∨ 4 ≤ w u) → (d.unit u).episode = true ∧
          (d.get (R.INT_RAW .ks) u).testBit 5 = true ∧
          d.get R.KS_PATH_FAULTS u = min (R.KS_PATH_FAULTS.bound - 1) (s.dev.get R.KS_PATH_FAULTS u + 1))))) ∧
    (∀ u < 2, silent u → ¬ silent (1 - u) →
      (st s.dev u ≠ 4 → Completes (.heartbeatWindow aMortar aWire bMortar bWire stamp) s (fun p d => p = s.perm ∧
        failed d u 1 ∧ st d (1 - u) = st s.dev (1 - u))) ∧
      (st s.dev u = 4 → st s.dev (1 - u) = 3 →
        Completes (.heartbeatWindow aMortar aWire bMortar bWire stamp) s (fun p d => p = s.perm ∧
          failed d u 1 ∧ switched s d (1 - u))))) ∧
  (∀ (s : State) (u : Fin 2) (stamp : Nat),
    let other := 1 - u.val
    ((st s.dev u = 0 ∨ st s.dev u = 5) → Completes (.keystoneFaultLine u stamp) s (fun p d => p = s.perm ∧ d = s.dev)) ∧
    (st s.dev u ≠ 0 → st s.dev u ≠ 4 → st s.dev u ≠ 5 → Completes (.keystoneFaultLine u stamp) s (fun p d => p = s.perm ∧
      failed d u 2 ∧ st d other = st s.dev other ∧ ({ s.dev with pair := d.pair }).SameWork d)) ∧
    (st s.dev u = 4 → st s.dev other = 3 → Completes (.keystoneFaultLine u stamp) s (fun p d => p = s.perm ∧
      failed d u 2 ∧ switched s d other ∧ d.keys.certWait = false ∧
      ∀ k, ∀ x ∈ (Tab.get d.gates k ⟨[], false⟩).held, x.req.origin ≠ .supervisor)) ∧
    (st s.dev u = 4 → st s.dev other ≠ 3 → Completes (.keystoneFaultLine u stamp) s (fun p d => s.perm.level ≤ p.level ∧
      failed d u 2 ∧ d.on R.KS_PAIR_STATUS_LOST = true)))

/-- R484, R492 to R499, R514. What an image states is an operand. -/
def Obligations.KeystonesRestartAndHandOver : Prop :=
  let st (d : Dev) (u : Nat) : Nat := d.get R.KS_STATUS_STATE u
  let frame (s : State) (d : Dev) : Prop := ({ s.dev with pair := d.pair }).SameWork d
  let starts (s : State) (u : Fin 2) (slot : Nat) (auto : Bool) (p : Perm) (d : Dev) : Prop := p = s.perm ∧ st d u = 1 ∧
    d.unit u = { s.dev.unit u with episode := false, slot := slot, noAuto := false, autoRun := auto, formatMax := 0 } ∧
    d.get R.KS_RESTARTS_TOTAL u = (s.dev.get R.KS_RESTARTS_TOTAL u + 1) % 2 ^ 16 ∧
    d.get R.KS_STATUS_MISS_MORTAR u = 0 ∧ d.get R.KS_STATUS_MISS_WIRE u = 0 ∧ d.get R.PW_DOM_STATUS_STATE 0 u = 2 ∧
    d.unit (1 - u.val) = s.dev.unit (1 - u.val) ∧ st d (1 - u.val) = st s.dev (1 - u.val) ∧ frame s d
  (∀ (s : State) (u : Fin 2),
    let x := s.dev.unit u
    let may := (st s.dev u = 5 ∨ (st s.dev u = 0 ∧ s.dev.get R.KS_STATUS_CAUSE u ≠ 0)) ∧ x.noAuto = false ∧
      (x.failTimes.filter (fun t => s.dev.pair.windows < t + 36000000)).length < 3
    (may → Completes (.keystoneAutoRestart u) s (starts s u x.slot true)) ∧
      (¬ may → Completes (.keystoneAutoRestart u) s (fun p d => p = s.perm ∧ d = s.dev))) ∧
  (∀ (s : State) (req : Requester) (u : Fin 2) (v : Word),
    (v.toNat.testBit 0 = false → Completes (.ksRestart req u v) s (fun p d => p = s.perm ∧
      d = s.dev.set R.KS_CTRL_SLOT (v.toNat / 2 % 2) u)) ∧
    (v.toNat.testBit 0 = true → st s.dev u = 4 → Completes (.ksRestart req u v) s (fun p d => p = s.perm ∧
      d.get (R.ERR_CODE .ks) u = Status.policyDenied.code ∧
      s.dev.Reported (fun key => key = R.KS_CTRL_SLOT.key u 0 ∨ reportKey key) d)) ∧
    (v.toNat.testBit 0 = true → st s.dev u ≠ 4 → Completes (.ksRestart req u v) s (fun p d =>
      starts s u (v.toNat / 2 % 2) false p d ∧ d.on R.KS_CTRL_RESTART u = true))) ∧
  (∀ (s : State) (u : Fin 2) (img : FwImage), st s.dev u = 1 →
    let c := 1 - u.val
    let fits := img.pairMin ≤ s.dev.get R.KS_FW_RELEASE c ∧ s.dev.get R.KS_FW_PAIR_MIN c ≤ img.release
    let runs (state : Nat) (p : Perm) (d : Dev) : Prop := p = s.perm ∧ st d u = state ∧ (d.unit u).formatMax = img.formatMax ∧
      d.get R.KS_FW_RELEASE u = img.release % 2 ^ 16 ∧ d.get R.KS_FW_PAIR_MIN u = img.pairMin % 2 ^ 16 ∧ frame s d
    (img.signed = false → Completes (.keystoneImageLoaded u img) s (fun p d => p = s.perm ∧ st d u = 5 ∧
      d.get R.KS_STATUS_CAUSE u = 6 ∧ frame s d)) ∧
    (img.signed = true → st s.dev c ≠ 4 → Completes (.keystoneImageLoaded u img) s (fun p d => runs 4 p d ∧
      d.get R.KS_PAIR_STATUS_CONTROLLER = 0x80 + (if u = 0 then 1 else 0) ∧ d.on R.KS_PAIR_STATUS_LOST = false)) ∧
    (img.signed = true → st s.dev c = 4 → fits → Completes (.keystoneImageLoaded u img) s (runs 2)) ∧
    (img.signed = true → st s.dev c = 4 → ¬ fits → Completes (.keystoneImageLoaded u img) s (fun p d => p = s.perm ∧
      st d u = 5 ∧ d.get R.KS_STATUS_CAUSE u = 5 ∧ (d.unit u).noAuto = true ∧
      (d.get (R.INT_RAW .ks) u).testBit 4 = true ∧ frame s d))) ∧
  (∀ (s : State) (u : Fin 2), st s.dev u = 2 → st s.dev (1 - u.val) = 4 →
    Completes (.keystoneResyncDone u) s (fun p d => p = s.perm ∧ st d u = 3 ∧ st d (1 - u.val) = 4 ∧ d.pair.digests = [] ∧
      d.unit u = { s.dev.unit u with autoRun := false } ∧ (d.get (R.INT_RAW .ks) u).testBit 3 = true ∧ frame s d)) ∧
  (∀ (s : State) (req : Requester) (c : Fin 2), st s.dev c = 4 → st s.dev (1 - c.val) ≠ 4 →
    (st s.dev (1 - c.val) = 3 → Completes (.ksPairSwitch req) s (fun p d => p = s.perm ∧
      d = s.dev.set R.KS_PAIR_CTL_SWITCH 1)) ∧
    (st s.dev (1 - c.val) ≠ 3 → Completes (.ksPairSwitch req) s (fun p d => p = s.perm ∧
      d.get (R.ERR_CODE .ks) = Status.policyDenied.code ∧ s.dev.Reported (fun key => reportKey key) d))) ∧
  (∀ (s : State) (c : Fin 2), st s.dev c = 4 →
    let u := 1 - c.val
    let reverts := s.dev.pair.revert = true ∧ u = 0
    let due := st s.dev u = 3 ∧ (reverts ∨ s.dev.on R.KS_PAIR_CTL_SWITCH = true)
    (due → Completes .plannedHandover s (fun p d => p = s.perm ∧ st d c = 3 ∧ st d u = 4 ∧
      d.get R.KS_PAIR_STATUS_CONTROLLER = 0x80 + (if u = 0 then 1 else 0) ∧ d.on R.KS_PAIR_CTL_SWITCH = false ∧
      d.pair.revert = false ∧ d.pair.digests = [] ∧
      d.get R.KS_SWITCHES_PLANNED = (s.dev.get R.KS_SWITCHES_PLANNED + 1) % 2 ^ 16 ∧
      (reverts → s.dev.pair.windows ∈ d.pair.reverts) ∧ (¬ reverts → d.pair.reverts = s.dev.pair.reverts))) ∧
    (¬ due → st s.dev u ≠ 4 → Completes .plannedHandover s (fun p d => p = s.perm ∧ d = s.dev))) ∧
  (∀ s : State, s.dev.on R.KS_PAIR_CTL_AUTO_REVERT = true → st s.dev 0 = 3 → st s.dev 1 = 4 →
    s.dev.on R.KS_PAIR_STATUS_HOLD = false →
    let n := (s.dev.pair.reverts.filter (fun t => s.dev.pair.windows < t + 36000000)).length
    (n < 3 → Completes .revertDue s (fun p d => p = s.perm ∧
      d = { s.dev with pair := { s.dev.pair with revert := true } })) ∧
    (3 ≤ n → Completes .revertDue s (fun p d => p = s.perm ∧ d.on R.KS_PAIR_STATUS_HOLD = true ∧
      (d.get (R.INT_RAW .ks)).testBit 8 = true ∧ s.dev.SameWork d))) ∧
  (∀ s : State, Completes .ksRevertArm s (fun p d => p = s.perm ∧ d.on R.KS_PAIR_STATUS_HOLD = false ∧
    d.pair = { s.dev.pair with reverts := [] } ∧
    { s.dev with
      regs := d.regs
      pair := d.pair } = d))

/-- R429, R450, R504 to R512, R522, R555. What an attempt finds is an operand. -/
def Obligations.StartsPowerUpAndLosses : Prop :=
  (∀ s : State, s.dev.power.main = false → Completes .mainPowerUp s (fun p d =>
      p = { s.perm with level := max s.perm.level s.dev.plinth.pending, appliedP := s.dev.plinth.pending } ∧
      d.power = { s.dev.power with
        main := true
        dip := false
        stage := .window
        attempts := 0
        lastSlot := none
        rootRetry := false
        restNoted := false
        measuring := false } ∧
      d.plinth.powerSeq = (s.dev.plinth.powerSeq + 1) % 2 ^ 32 ∧ d.plinth.pending = 0 ∧ d.plinth.pendingFired = [] ∧
      d.plinth.share = s.dev.plinth.share ∧ d.sched = Sched.reset ∧ d.eng = Eng.reset ∧ d.life = Life.reset ∧
      d.keys = s.dev.keys.restart ∧ d.keys.cache = [] ∧ d.face.sessions = [] ∧
      ∀ x ∈ s.dev.plinth.pendingFired, if x < 32 then (d.get R.TM_FIRED_LO).testBit x = true
        else x < 42 → (d.get R.TM_FIRED_HI).testBit (x - 32) = true)) ∧
  (∀ s : State, s.dev.power.main = true → Completes .mainPowerUp s (fun p d => p = s.perm ∧ d = s.dev)) ∧
  (∀ (s : State) (f : StartFindings) (stamp : Nat) (c : Instr), s.dev.power.main = true →
    (c = .startAttempt f stamp ∧ s.dev.power.stage = .window ∧ s.dev.life.transition = none ∨
      c = .startRetry f stamp ∧ s.dev.power.stage = .waiting) →
    let n := s.dev.power.attempts + 1
    let slot := match s.dev.power.lastSlot with | some x => 1 - x | none => s.dev.get R.PW_BOOT_PREFERRED
    let fails (step cause : Nat) (p : Perm) (d : Dev) : Prop := p = s.perm ∧ d.power.stage = .waiting ∧ d.power.attempts = n ∧
      d.get R.PW_BOOT_STEP = step ∧ d.get R.PW_BOOT_CAUSE = cause ∧ d.sched = Sched.reset ∧ d.eng = Eng.reset ∧
      d.keys.cache = [] ∧ ∀ i < 80, i ∉ baseDomains → d.get R.PW_DOM_STATUS_STATE 0 i = 0
    (s.perm.lcFinding = .normal → s.perm.lcState ≠ 7 →
      (f.faultA = none → f.tables = true → f.mounts = true → f.image.signed = true → f.lowest ≤ f.image.release →
        s.dev.power.floorCopy ≤ f.image.formatMax → (∀ r ∈ s.dev.keys.floorRecord, r.1 ≤ f.image.formatMax) →
        f.faultB = none → (f.starts.1 || f.starts.2) = true →
        Completes c s (fun p d => p = s.perm ∧ d.power.stage = .running ∧ d.power.attempts = n ∧
          d.power.lastSlot = some slot ∧ d.get R.PW_BOOT_ATTEMPT = n % 2 ^ 16 ∧ d.get R.PW_BOOT_STEP = 13 ∧
          d.get R.PW_BOOT_SLOT = slot % 2 ∧ d.get R.KS_STATUS_STATE (if f.starts.1 then 0 else 1) = 4 ∧
          (f.starts = (true, true) → d.get R.KS_STATUS_STATE 1 = 2) ∧ d.on R.EV_STATUS_MOUNTED = true ∧
          d.keys.scratchKey = true ∧ (d.get (R.INT_RAW .pw)).testBit 2 = true ∧
          ∀ i < 80, i ≠ 48 → d.get R.PW_DOM_STATUS_STATE 0 i = 2)) ∧
      (f.faultA.isSome = true → Completes c s (fails 4 5)) ∧
      (f.faultA = none → f.tables = false → Completes c s (fails 5 1))) ∧
    (s.perm.lcFinding = .normal → s.perm.lcState = 7 → Completes c s (fun p d => p = s.perm ∧ d.power.stage = .rest ∧
      d.get R.PW_BOOT_STEP = 4 ∧ d.on R.EV_STATUS_MOUNTED = true)) ∧
    (∀ t, s.perm.lcFinding = .resume t → Completes c s (fun p d => p.otpWord t = s.perm.otpWord t ||| 15 ∧
      d.life.transition = some ⟨t, 0⟩ ∧ d.on R.LC_STATUS_RESUMED = true ∧ (d.get (R.INT_RAW .lc)).testBit 3 = true ∧
      d.power = s.dev.power)) ∧
    (s.perm.lcFinding = .held → Completes c s (fun p d => s.perm.level ≤ p.level ∧ d.power.stage = .held ∧
      d.on R.LC_STATUS_HELD = true ∧ (d.get (R.INT_RAW .lc)).testBit 5 = true))) ∧
  (∀ (s : State) (f : StartFindings) (e : Nat) (key share : Bytes), s.dev.power.stage = .running →
    s.dev.power.rootRetry = true → s.perm.shareErased = false → 2 ≤ s.perm.lcState → s.perm.lcState ≤ 5 →
    s.dev.helperOrder.findSome? (fun i => if i = 0 then f.errs.1 else f.errs.2) = some e →
    s.dev.referenceKey s.perm = some key → s.dev.plinth.share = some share →
    Completes (.rootRetry f) s (fun p d => p = s.perm ∧ d.power.attempts = s.dev.power.attempts + 1 ∧
      (d.get (R.INT_RAW .pw)).testBit 9 = true ∧ d.sched = s.dev.sched ∧ d.eng = s.dev.eng ∧
      (if identityPublic (quarryRoot share) = key then
        d.get R.KT_STATUS_ROOT = 2 ∧ d.keys.root = some (quarryRoot share) ∧ d.power.rootRetry = false ∧
          d.keys.objs = s.dev.keys.objs.filter (fun x => !x.2.restorePending)
      else d.get R.KT_STATUS_ROOT = 3 ∧ d.keys.root = none ∧ d.power.rootRetry = true ∧ d.keys.objs = s.dev.keys.objs))) ∧
  (∀ s : State, Completes .vinMainDip s (fun p d => p = s.perm ∧
    d = { s.dev with power := { s.dev.power with dip := s.dev.power.dip || s.dev.power.main } })) ∧
  (∀ (s : State) (writes stamp : Nat),
    (s.dev.power.main = true → s.dev.power.dip = true → Completes (.powerLoss writes stamp) s (fun p d =>
      s.perm.level ≤ p.level ∧ (s.dev.power.aux = true → p = s.perm) ∧ d.power.main = false ∧ d.power.dip = false ∧
      d.power.stage = .off ∧ d.power.aux = s.dev.power.aux ∧ d.sched = Sched.reset ∧ d.eng = Eng.reset ∧ d.keys.root = none ∧
      d.keys.cache = [] ∧ d.face.sessions = [] ∧ d.log.markBuf = [] ∧ d.life.session = none ∧
      d.get R.PW_LOSSES = min (R.PW_LOSSES.bound - 1) (s.dev.get R.PW_LOSSES + if 3 ≤ s.perm.lcState then 1 else 0))) ∧
    ((s.dev.power.main = false ∨ s.dev.power.dip = false) →
      Completes (.powerLoss writes stamp) s (fun p d => p = s.perm ∧ d = s.dev))) ∧
  (∀ (s : State) (up : Bool) (stamp : Nat),
    (s.dev.power.aux = up → Completes (.vinAuxChange up stamp) s (fun p d => p = s.perm ∧ d = s.dev)) ∧
    (s.dev.power.aux ≠ up → up = true ∨ s.dev.power.main = true → Completes (.vinAuxChange up stamp) s (fun p d =>
      p = s.perm ∧ d.power = { s.dev.power with aux := up } ∧
      (up = false → (d.get (R.INT_RAW .pw)).testBit 6 = true) ∧
      ({ s.dev with
        power := d.power
        cs := d.cs }).SameWork d)) ∧
    (s.dev.power.aux = true → up = false → s.dev.power.main = false → Completes (.vinAuxChange up stamp) s (fun p d =>
      s.perm.level ≤ p.level ∧ d.power.aux = false ∧ d.plinth.share = s.dev.plinth.share ∧ d.life = Life.reset))) ∧
  (∀ (s : State) (v : Word), Completes (.pwBootPreferredWrite v) s (fun p d => p = s.perm ∧
    d = s.dev.set R.PW_BOOT_PREFERRED (v.toNat % 2)))

/-- R514 to R519, R522, R524, R559. -/
def Obligations.DomainsPlansAndSupplies : Prop :=
  let dom (d : Dev) (i : Nat) : Nat := d.get R.PW_DOM_STATUS_STATE 0 i
  (∀ (s : State) (req : Requester),
    let i := s.dev.get R.PW_DOM_INDEX
    let refused (p : Perm) (d : Dev) : Prop := p = s.perm ∧ d.get (R.ERR_CODE .pw) = Status.policyDenied.code ∧
      s.dev.Reported (fun key => reportKey key) d
    ((i = 48 ∨ 80 ≤ i) → Completes (.powerDomainOn req) s refused) ∧
    (i ≠ 48 → i < 80 → dom s.dev i ≠ 0 → dom s.dev i ≠ 4 →
      Completes (.powerDomainOn req) s (fun p d => p = s.perm ∧ d = s.dev)) ∧
    (i ≠ 48 → i < 80 → (dom s.dev i = 0 ∨ dom s.dev i = 4) → Completes (.powerDomainOn req) s (fun p d => p = s.perm ∧
      dom d i = 2 ∧ d.on R.PW_DOM_STATUS_FENCED 0 i = false ∧ d.power = { s.dev.power with measuring := true } ∧
      (d.get (R.INT_RAW .pw)).testBit 2 = true ∧ ∀ k < 80, k ≠ i → dom d k = dom s.dev k)) ∧
    (i ≠ 48 → i < 80 → dom s.dev i = 0 → Completes (.powerDomainOff req) s (fun p d => p = s.perm ∧ d = s.dev)) ∧
    (i < 80 → dom s.dev i ≠ 0 → s.dev.mayOff i = false → Completes (.powerDomainOff req) s refused) ∧
    (i < 80 → dom s.dev i ≠ 0 → s.dev.mayOff i = true → Completes (.powerDomainOff req) s (fun p d => p = s.perm ∧
      dom d i = 0 ∧ d.get R.PW_DOM_STATUS_MV 0 i = 0 ∧ d.on R.PW_DOM_STATUS_FENCED 0 i = true ∧
      (d.get (R.INT_RAW .pw)).testBit 2 = true ∧ (∀ k < 80, k ≠ i → dom d k = dom s.dev k) ∧
      (i < 2 → d.get R.KS_STATUS_STATE i = 0) ∧
      (2 ≤ i → i < 18 → Tab.look d.sched.progs (i - 2) = none ∧ d.get R.SC_GROUP_VERSION 0 (i - 2) = 0)))) ∧
  (∀ (s : State) (i : Fin 80) (mv : Nat),
    (dom s.dev i = 2 → Completes (.domainFault i mv) s (fun p d => p = s.perm ∧ dom d i = 4 ∧
      d.get R.PW_DOM_STATUS_MV 0 i = mv % 2 ^ 16 ∧ d.on R.PW_DOM_STATUS_FENCED 0 i = true ∧
      (d.get (R.INT_RAW .pw)).testBit 3 = true ∧ (∀ k < 80, k ≠ i.val → dom d k = dom s.dev k) ∧ d.power = s.dev.power ∧
      d.keys.objs = s.dev.keys.objs)) ∧
    (dom s.dev i ≠ 2 → Completes (.domainFault i mv) s (fun p d => p = s.perm ∧ d = s.dev))) ∧
  (∀ s : State, s.dev.power.stage = .running →
    Completes .plumbMeasure s (fun p d => p = s.perm ∧ d.on R.PL_CTL_MEASURE = true ∧
      d = { s.dev.set R.PL_CTL_MEASURE 1 with power := { s.dev.power with measuring := true } }) ∧
    Completes .plumbMeasurePeriod s (fun p d => p = s.perm ∧
      d = { s.dev with power := { s.dev.power with measuring := true } })) ∧
  (∀ (s : State) (x : PlanItem), s.dev.power.stage = .running → s.dev.power.measuring = true →
    (∃ u < 2, s.dev.get R.KS_STATUS_STATE u = 4) → x.island < 16 →
    Completes (.plumbPlan [x]) s (fun p d => p = s.perm ∧ d.power = { s.dev.power with measuring := false } ∧
      d.on R.PL_CTL_MEASURE = false ∧ (d.get (R.INT_RAW .pl)).testBit 2 = true ∧
      d.get R.PL_SLACK_SLACK 0 x.island = x.slack % 2 ^ 16 ∧ d.get R.PL_PLAN_MV 0 x.island = max 620 (min 720 x.mv) ∧
      d.get R.PL_MARGIN 0 x.island = x.margin % 2 ^ 32 ∧ d.get R.PL_LAST 0 x.island = s.dev.plinth.seconds % 2 ^ 32 ∧
      (x.island = 4 → d.get R.PL_PLAN_MHZ 0 4 = max 1800 (min 1900 x.mhz)) ∧
      (x.slack < 10 * s.dev.get R.PL_CTL_GUARD_PCT → (d.get (R.INT_RAW .pl)).testBit 5 = true) ∧
      (x.margin < 15 → (d.get (R.INT_RAW .pl)).testBit 4 = true) ∧
      (∀ k < 16, k ≠ x.island → d.get R.PL_PLAN_MV 0 k = s.dev.get R.PL_PLAN_MV 0 k) ∧
      ({ s.dev with power := d.power }).SameWork d)) ∧
  (∀ (s : State) (main aux iin power ballast : Nat),
    (s.dev.power.main = true ∨ s.dev.power.aux = true) →
    Completes (.supplyMeasurement main aux iin power ballast) s (fun p d => p = s.perm ∧
      d.get R.PW_SUPPLY_MAIN_MV = main % 2 ^ 16 ∧ d.get R.PW_SUPPLY_AUX_MV = aux % 2 ^ 16 ∧
      d.get R.PW_INPUT_IIN = iin % 2 ^ 16 ∧ d.get R.PW_INPUT_POWER = power % 2 ^ 16 ∧ d.get R.PW_BALLAST = ballast % 2 ^ 32 ∧
      d.power = { s.dev.power with dip := s.dev.power.dip && decide (main ≤ 11400) } ∧
      ((10800 ≤ main ∧ main < 11400 ∨ 12600 < main) → (d.get (R.INT_RAW .pw)).testBit 4 = true) ∧
      ((2970 ≤ aux ∧ aux < 3140 ∨ 3470 < aux) → (d.get (R.INT_RAW .pw)).testBit 5 = true) ∧
      (3400 < power → (d.get (R.INT_RAW .pw)).testBit 11 = true) ∧ ({ s.dev with power := d.power }).SameWork d)) ∧
  (∀ (s : State) (addr : Word), (s.dev.power.main || s.dev.power.aux) = true →
    Completes (.smbusBlockRead 1 addr) s (fun p d => p = s.perm ∧
      d = if smbusReads addr.toNat then
        (s.dev.readAt s.perm addr.toNat).2.send (.smbus (leBytes 4 (s.dev.readAt s.perm addr.toNat).1))
      else s.dev.send (.smbus [0, 0, 0, 0]))) ∧
  (∀ (s : State) (cmd : Byte) (addr : Word), (s.dev.power.main || s.dev.power.aux) = false ∨ cmd ≠ 1 →
    Completes (.smbusBlockRead cmd addr) s (fun p d => p = s.perm ∧ d = s.dev)) ∧
  (∀ s : State, Completes .smbusAlertResponse s (fun p d => p = s.perm ∧
    d = if s.dev.smbAlert s.perm then s.dev.send (.smbus [0x98]) else s.dev))

/-- R533 to R544, R549, R550. -/
def Obligations.RecorderAndCountersKeepTheirCounts : Prop :=
  (∀ (s : State) (m : Mark) (l : List Mark), s.dev.log.markBuf = m :: l →
    (s.dev.on R.EV_STATUS_MOUNTED = true → Completes .markDurable s (fun p d => p = s.perm ∧
      d = { s.dev with log := { s.dev.log with
        markBuf := l
        markMain := s.dev.log.markMain ++ [m]
        lostEpisode := s.dev.log.lostEpisode && s.dev.on R.EV_STATUS_FULL } })) ∧
    (s.dev.on R.EV_STATUS_MOUNTED = false → Completes .markDurable s (fun p d => p = s.perm ∧ d = s.dev))) ∧
  (∀ (s : State) (req : Requester) (v : Word),
    let may := s.dev.on R.EV_STATUS_FULL = true ∧ s.dev.archived + 1 = s.dev.log.markNext ∧ s.dev.authStands 8 = true
    (v.toNat.testBit 0 = false → Completes (.evClear req v) s (fun p d => p = s.perm ∧ d = s.dev)) ∧
    (v.toNat.testBit 0 = true → ¬ may → Completes (.evClear req v) s (fun p d => p = s.perm ∧
      d.get (R.ERR_CODE .ev) = Status.policyDenied.code ∧ s.dev.Reported (fun key => reportKey key) d)) ∧
    (v.toNat.testBit 0 = true → may → s.dev.on R.EV_STATUS_MOUNTED = true → Completes (.evClear req v) s (fun p d =>
      p = s.perm ∧ d.log.markBase = s.dev.log.markNext ∧ d.log.markMain = [] ∧
      (∃ m, d.log.markBuf.head? = some m ∧ m.event = .markCleared ∧ m.seq = s.dev.log.markNext) ∧
      d.on R.EV_STATUS_FULL = false ∧ d.on R.EV_STATUS_NEAR_FULL = false ∧ d.get R.EV_LOST = 0 ∧
      d.get R.CD_CER_STATUS_STATE = 0 ∧ d.log.plinthMarks = s.dev.log.plinthMarks ∧
      ({ s.dev with cards := d.cards }).SameWork d))) ∧
  (∀ (s : State) (v : Word), Completes (.evRead v) s (fun p d => p = s.perm ∧ d.get R.EV_READ_SEQ_HI = v.toNat ∧
    d.on R.EV_READ_STATUS_BUSY = true ∧ d.on R.EV_READ_STATUS_VALID = false ∧ d.get R.EV_READ_STATUS_STATUS = 0 ∧
    d.log = { s.dev.log with
      markRead := some (v.toNat.testBit 16, s.dev.get R.EV_READ_SEQ_LO + 2 ^ 32 * (v.toNat % 2 ^ 16)) } ∧
    { s.dev with
      regs := d.regs
      log := d.log } = d)) ∧
  (∀ (s : State) (plinth : Bool) (seq : Nat), s.dev.log.markRead = some (plinth, seq) →
    let ends (st : Status) (p : Perm) (d : Dev) : Prop := p = s.perm ∧ d.on R.EV_READ_STATUS_BUSY = false ∧
      d.get R.EV_READ_STATUS_STATUS = st.code ∧ d.log = { s.dev.log with markRead := none } ∧
      { s.dev with
        regs := d.regs
        log := d.log } = d
    (∀ m, (plinth = false ∧ s.dev.log.markBase ≤ seq ∧ seq < s.dev.log.markNext ∧
        (s.dev.log.markMain ++ s.dev.log.markBuf).find? (fun m => m.seq == seq) = some m ∨
        plinth = true ∧ seq < s.dev.log.plinthNext ∧ m.seq = seq ∧
          Tab.look s.dev.log.plinthMarks (if seq < 256 then seq else 256 + seq % 256) = some m) →
      Completes .evReadDone s (fun p d => ends .ok p d ∧ d.on R.EV_READ_STATUS_VALID = true ∧
        ∀ k < 8, d.get R.EV_READ_DATA 0 k = leNat ((m.bytes.drop (4 * k)).take 4))) ∧
    (plinth = false → (seq < s.dev.log.markBase ∨ s.dev.log.markNext ≤ seq) → Completes .evReadDone s (ends .inputRange)) ∧
    (plinth = false → s.dev.log.markBase ≤ seq → seq < s.dev.log.markNext →
      (∀ m ∈ s.dev.log.markMain ++ s.dev.log.markBuf, m.seq ≠ seq) → Completes .evReadDone s (ends .recordLost))) ∧
  (∀ (s : State) (o : Occ), s.dev.log.acc = [o] → o.level = false →
    (∀ k < 64, s.dev.on R.PC_SEL_LEVEL 0 k = false ∧ Tab.get s.dev.log.counters k 0 + o.weight < 2 ^ 48) →
    Completes .pcAccumulatorFlush s (fun p d => p = s.perm ∧
      d = { s.dev with log := { s.dev.log with
        acc := []
        counters := d.log.counters } } ∧
      ∀ k < 64, Tab.get d.log.counters k 0 =
        Tab.get s.dev.log.counters k 0 + if s.dev.selects k o then o.weight else 0)) ∧
  (∀ (s : State) (v : Bool), Completes (.pcFreeze v) s (fun p d => p = s.perm ∧ d.on R.PC_CTL_FREEZE = v ∧
    d.on R.PC_CTL_FROZEN = (v && s.dev.on R.PC_CTL_FROZEN) ∧ { s.dev with regs := d.regs } = d)) ∧
  (∀ s : State, s.dev.on R.PC_CTL_FREEZE = true → Completes .pcFrozen s (fun p d => p = s.perm ∧
    d.on R.PC_CTL_FROZEN = true ∧ d.log.acc = [] ∧ s.dev.SameWork d)) ∧
  (∀ s : State, Completes .pcSnapshot s (fun p d => p = s.perm ∧ d = s.dev.set R.PC_CTL_SNAPSHOT 1 ∧
    d.on R.PC_CTL_SNAPSHOT = true)) ∧
  (∀ s : State, s.dev.on R.PC_CTL_SNAPSHOT = true → (∀ e ∈ s.dev.log.counters, e.1 < 64) →
    Completes .pcSnapshotDone s (fun p d => p = s.perm ∧ d.on R.PC_CTL_SNAPSHOT = false ∧
      d.get R.PC_SNAP_SEQ = (s.dev.get R.PC_SNAP_SEQ + 1) % 2 ^ 32 ∧
      d.get R.PC_SNAP_TIME_HI * 2 ^ 32 + d.get R.PC_SNAP_TIME_LO = s.dev.sched.time % 2 ^ 64 ∧ d.log.acc = [] ∧
      (∀ k < 64, Tab.get d.log.shadow k 0 = Tab.get d.log.counters k 0) ∧
      (∀ (b : Fin 256) (c : Fin 8), Tab.get d.log.shadow (64 + 8 * b + c) 0 = s.dev.get R.BY_CNT b c) ∧
      (d.get (R.INT_RAW .pc)).testBit 3 = true ∧ s.dev.SameWork d))

/-- R7 and the register tables. Where the spec gives no reset value the log entries do (log entry 24). -/
def Obligations.ResetHoldsTheSpecsValues : Prop :=
  State.reset.pending = [] ∧ State.reset.perm = ⟨0, 0, false, [], []⟩ ∧
  (∀ (f : Fld) (i k : Nat), State.reset.dev.get f i k = f.resetAt k % f.bound ∧
    State.reset.dev.eff f i k = f.resetAt k % f.bound) ∧
  (∀ e ∈ [(R.BY_QUEUE, 64), (R.BY_CTX_MAX, 512), (R.BY_DEADLINE, 1000), (R.BY_SHARE_SHARE, 0), (R.KC_BAY_QUOTA, 1008),
      (R.VT_BAY_QUOTA, 0), (R.CD_CLK_DIV, 25), (R.CD_PARAM_TA1, 0x11), (R.CD_CTL_REMOVE_MODE, 1), (R.HQ_CFG_LOG2_SIZE, 6),
      (R.KS_PAIR_CTL_AUTO_REVERT, 1), (R.PL_CTL_GUARD_PCT, 8), (R.EV_NOTIFY, 0xFFFF), (R.TM_FIRED_EN_LO, 0xFFFFFFFF),
      (R.IC_MAP_ENABLE, 1), (R.PC_SEL_QUAL, 31), (R.CD_CER_TIME_TIMEOUT_S, 900)], ∀ i k, State.reset.dev.get e.1 i k = e.2) ∧
  (∀ i < 500, State.reset.dev.get R.IC_MAP_VECTOR 0 i = i) ∧
  (∀ e ∈ [(0, 1, 0, 1, 4), (6, 2, 1, 1, 3), (10, 3, 1, 5, 4), (17, 1, 0, 1, 0), (30, 2, 2, 1, 1), (34, 3, 1, 10, 3),
      (39, 16, 2, 1, 1), (41, 1, 0, 1, 2)], State.reset.dev.sourceCfg e.1 = e.2) ∧
  State.reset.dev.sched.time = 0 ∧ State.reset.dev.sched.queues = [] ∧ State.reset.dev.sched.ctxs = [] ∧
  State.reset.dev.sched.bindings = [] ∧ State.reset.dev.face.sessions = [] ∧ State.reset.dev.eng = Eng.reset ∧
  State.reset.dev.keys.objs = [] ∧ State.reset.dev.keys.cache = [] ∧ State.reset.dev.log.markMain = [] ∧
  State.reset.dev.cs.durable = [] ∧ State.reset.dev.cards.roster = [] ∧ State.reset.dev.outbox = []
end

