-- ==== Sys2Proof/Laws/Tab.lean ====
section
/-! SUPPORT. Sparse tables: what a number reads as after a write or a removal, and that both keep the canonical form. -/

namespace Sys2Proof.Machine

variable {α : Type}

@[simp] theorem Tab.look_nil (k : Nat) : Tab.look ([] : Tab α) k = none := rfl

/-- A number reads as what was put there, and every other number as before. -/
@[simp] theorem Tab.look_put (t : Tab α) (k j : Nat) (v : α) :
    Tab.look (Tab.put t k v) j = if k = j then some v else Tab.look t j := by
  induction t with
  | nil => simp [Tab.put, Tab.look]
  | cons e r ih =>
    obtain ⟨a, b⟩ := e
    simp only [Tab.put]
    split
    · rfl
    · split
      · rename_i h; subst h; by_cases hj : a = j <;> simp [Tab.look, hj]
      · simp only [Tab.look, ih]
        by_cases hj : a = j
        · subst hj; simp_all [eq_comm]
        · simp [hj]

/-- A number that is taken out is not listed, and every other number reads as before. -/
@[simp] theorem Tab.look_del (t : Tab α) (k j : Nat) :
    Tab.look (Tab.del t k) j = if k = j then none else Tab.look t j := by
  induction t with
  | nil => simp [Tab.del]
  | cons e r ih =>
    obtain ⟨a, b⟩ := e
    simp only [Tab.del]
    split
    · rename_i h; subst h; rw [ih]; by_cases hj : a = j <;> simp [Tab.look, hj]
    · simp only [Tab.look, ih]
      by_cases hj : a = j
      · subst hj; simp_all [eq_comm]
      · simp [hj]

@[simp] theorem Tab.get_put (t : Tab α) (k j : Nat) (v d : α) :
    Tab.get (Tab.put t k v) j d = if k = j then v else Tab.get t j d := by
  simp only [Tab.get, Tab.look_put]; split <;> rfl

@[simp] theorem Tab.get_del (t : Tab α) (k j : Nat) (d : α) :
    Tab.get (Tab.del t k) j d = if k = j then d else Tab.get t j d := by
  simp only [Tab.get, Tab.look_del]; split <;> rfl

/-- A written number reads as the value written, and every other number as before. -/
@[simp] theorem Tab.get_set [DecidableEq α] (t : Tab α) (k j : Nat) (d v : α) :
    Tab.get (Tab.set t k d v) j d = if k = j then v else Tab.get t j d := by
  unfold Tab.set; split
  · rename_i h; subst h; simp
  · simp

/-- What a write of d lists: nothing at that number, and elsewhere what was listed. -/
theorem Tab.look_set [DecidableEq α] (t : Tab α) (k j : Nat) (d v : α) :
    Tab.look (Tab.set t k d v) j = if k = j then (if v = d then none else some v) else Tab.look t j := by
  unfold Tab.set; split <;> simp

/-! ## The canonical form -/

/-- Every number listed is above a bound. -/
def Tab.above (n : Nat) (t : Tab α) : Prop := ∀ e ∈ t, n < e.1

theorem Tab.rising_cons (a : Nat) (b : α) (t : Tab α) :
    Tab.rising ((a, b) :: t) = true ↔ Tab.above a t ∧ Tab.rising t = true := by
  induction t generalizing a b with
  | nil => simp [Tab.rising, Tab.above]
  | cons e r ih =>
    obtain ⟨c, x⟩ := e
    simp only [Tab.rising, Bool.and_eq_true, decide_eq_true_eq]
    rw [ih c x]
    constructor
    · rintro ⟨h, h1, h2⟩
      refine ⟨?_, h1, h2⟩
      intro e he
      rcases List.mem_cons.mp he with rfl | he
      · exact h
      · exact lt_trans h (h1 e he)
    · rintro ⟨h, h1, h2⟩
      exact ⟨h (c, x) (by simp), h1, h2⟩

theorem Tab.above_put (n k : Nat) (t : Tab α) (v : α) (h : Tab.above n t) (hk : n < k) : Tab.above n (Tab.put t k v) := by
  induction t with
  | nil => intro e he; simp [Tab.put] at he; subst he; exact hk
  | cons e r ih =>
    obtain ⟨a, b⟩ := e
    have hr : Tab.above n r := fun e he => h e (List.mem_cons_of_mem _ he)
    have ha : n < a := h (a, b) (by simp)
    simp only [Tab.put]
    split
    · intro e he
      rcases List.mem_cons.mp he with rfl | he
      · exact hk
      · exact h e he
    · split
      · intro e he
        rcases List.mem_cons.mp he with rfl | he
        · exact hk
        · exact hr e he
      · intro e he
        rcases List.mem_cons.mp he with rfl | he
        · exact ha
        · exact ih hr e he

/-- A put keeps the numbers rising. -/
theorem Tab.rising_put (t : Tab α) (k : Nat) (v : α) (h : Tab.rising t = true) : Tab.rising (Tab.put t k v) = true := by
  induction t with
  | nil => rfl
  | cons e r ih =>
    obtain ⟨a, b⟩ := e
    obtain ⟨h1, h2⟩ := (Tab.rising_cons a b r).mp h
    simp only [Tab.put]
    split
    · rename_i hk
      refine (Tab.rising_cons _ _ _).mpr ⟨?_, h⟩
      intro e he
      rcases List.mem_cons.mp he with rfl | he
      · exact hk
      · exact lt_trans hk (h1 e he)
    · split
      · rename_i hk; subst hk; exact (Tab.rising_cons _ _ _).mpr ⟨h1, h2⟩
      · rename_i hk hne
        exact (Tab.rising_cons _ _ _).mpr ⟨Tab.above_put a k r v h1 (by omega), ih h2⟩

theorem Tab.del_sub (t : Tab α) (k : Nat) : ∀ e ∈ Tab.del t k, e ∈ t := by
  induction t with
  | nil => simp [Tab.del]
  | cons e r ih =>
    obtain ⟨a, b⟩ := e
    intro x hx
    simp only [Tab.del] at hx
    split at hx
    · exact List.mem_cons_of_mem _ (ih x hx)
    · rcases List.mem_cons.mp hx with rfl | hx
      · simp
      · exact List.mem_cons_of_mem _ (ih x hx)

/-- A removal keeps the numbers rising. -/
theorem Tab.rising_del (t : Tab α) (k : Nat) (h : Tab.rising t = true) : Tab.rising (Tab.del t k) = true := by
  induction t with
  | nil => rfl
  | cons e r ih =>
    obtain ⟨a, b⟩ := e
    obtain ⟨h1, h2⟩ := (Tab.rising_cons a b r).mp h
    simp only [Tab.del]
    split
    · exact ih h2
    · exact (Tab.rising_cons _ _ _).mpr ⟨fun e he => h1 e (Tab.del_sub r k e he), ih h2⟩

theorem Tab.put_mem (t : Tab α) (k : Nat) (v : α) : ∀ e ∈ Tab.put t k v, e = (k, v) ∨ e ∈ t := by
  induction t with
  | nil => intro e he; exact Or.inl (List.mem_singleton.mp he)
  | cons e r ih =>
    obtain ⟨a, b⟩ := e
    intro x hx
    simp only [Tab.put] at hx
    split at hx
    · exact List.mem_cons.mp hx
    · split at hx
      · rcases List.mem_cons.mp hx with rfl | hx
        · exact Or.inl rfl
        · exact Or.inr (List.mem_cons_of_mem _ hx)
      · rcases List.mem_cons.mp hx with rfl | hx
        · exact Or.inr (by simp)
        · rcases ih x hx with h | h
          · exact Or.inl h
          · exact Or.inr (List.mem_cons_of_mem _ h)

/-- A write keeps the canonical form: numbers rising, and nothing listed that reads as its default. -/
theorem Tab.wf_set [DecidableEq α] (t : Tab α) (d : Nat → α) (k : Nat) (v : α) (h : Tab.wf t d = true) :
    Tab.wf (Tab.set t k (d k) v) d = true := by
  simp only [Tab.wf, Bool.and_eq_true, List.all_eq_true, decide_eq_true_eq] at h ⊢
  unfold Tab.set
  split
  · exact ⟨Tab.rising_del t k h.1, fun e he => h.2 e (Tab.del_sub t k e he)⟩
  · rename_i hv
    refine ⟨Tab.rising_put t k v h.1, fun e he => ?_⟩
    rcases Tab.put_mem t k v e he with rfl | he
    · exact hv
    · exact h.2 e he

/-- The empty table is in canonical form. -/
theorem Tab.wf_nil [DecidableEq α] (d : Nat → α) : Tab.wf ([] : Tab α) d = true := rfl

end Sys2Proof.Machine
end

