-- ==== Sys2Proof/Laws/State.lean ====
section
/-! SUPPORT. What the named updates of the state leave: one lemma for each group of Dev and each update. -/

namespace Sys2Proof.Machine

/-! ## The outcome of a meaning -/

@[simp] theorem State.after_eq (s : State) (f : Dev → Dev) : s.after f = .next { s with dev := f s.dev } := rfl
@[simp] theorem State.afterWith_eq (s : State) (f : Perm → Dev → Dev) :
    s.afterWith f = .next { s with dev := f s.perm s.dev } := rfl
@[simp] theorem State.afterPerm_eq (s : State) (f : Perm → Dev → Perm × Dev) :
    s.afterPerm f = .next { s with perm := (f s.perm s.dev).1, dev := (f s.perm s.dev).2 } := rfl

/-! ## A register field -/

@[simp] theorem Dev.set_sched (d : Dev) (f : Fld) (v i k : Nat) : (d.set f v i k).sched = d.sched := rfl
@[simp] theorem Dev.set_log (d : Dev) (f : Fld) (v i k : Nat) : (d.set f v i k).log = d.log := rfl
@[simp] theorem Dev.set_face (d : Dev) (f : Fld) (v i k : Nat) : (d.set f v i k).face = d.face := rfl
@[simp] theorem Dev.set_wires (d : Dev) (f : Fld) (v i k : Nat) : (d.set f v i k).wires = d.wires := rfl
@[simp] theorem Dev.set_eng (d : Dev) (f : Fld) (v i k : Nat) : (d.set f v i k).eng = d.eng := rfl
@[simp] theorem Dev.set_keys (d : Dev) (f : Fld) (v i k : Nat) : (d.set f v i k).keys = d.keys := rfl
@[simp] theorem Dev.set_cards (d : Dev) (f : Fld) (v i k : Nat) : (d.set f v i k).cards = d.cards := rfl
@[simp] theorem Dev.set_plinth (d : Dev) (f : Fld) (v i k : Nat) : (d.set f v i k).plinth = d.plinth := rfl
@[simp] theorem Dev.set_cs (d : Dev) (f : Fld) (v i k : Nat) : (d.set f v i k).cs = d.cs := rfl
@[simp] theorem Dev.set_life (d : Dev) (f : Fld) (v i k : Nat) : (d.set f v i k).life = d.life := rfl
@[simp] theorem Dev.set_gates (d : Dev) (f : Fld) (v i k : Nat) : (d.set f v i k).gates = d.gates := rfl
@[simp] theorem Dev.set_pair (d : Dev) (f : Fld) (v i k : Nat) : (d.set f v i k).pair = d.pair := rfl
@[simp] theorem Dev.set_power (d : Dev) (f : Fld) (v i k : Nat) : (d.set f v i k).power = d.power := rfl
@[simp] theorem Dev.set_hbm (d : Dev) (f : Fld) (v i k : Nat) : (d.set f v i k).hbm = d.hbm := rfl
@[simp] theorem Dev.set_free (d : Dev) (f : Fld) (v i k : Nat) : (d.set f v i k).free = d.free := rfl
@[simp] theorem Dev.set_outbox (d : Dev) (f : Fld) (v i k : Nat) : (d.set f v i k).outbox = d.outbox := rfl

/-! ## A value in effect -/

@[simp] theorem Dev.setEff_sched (d : Dev) (f : Fld) (v i k : Nat) : (d.setEff f v i k).sched = d.sched := rfl
@[simp] theorem Dev.setEff_log (d : Dev) (f : Fld) (v i k : Nat) : (d.setEff f v i k).log = d.log := rfl
@[simp] theorem Dev.setEff_face (d : Dev) (f : Fld) (v i k : Nat) : (d.setEff f v i k).face = d.face := rfl
@[simp] theorem Dev.setEff_wires (d : Dev) (f : Fld) (v i k : Nat) : (d.setEff f v i k).wires = d.wires := rfl
@[simp] theorem Dev.setEff_eng (d : Dev) (f : Fld) (v i k : Nat) : (d.setEff f v i k).eng = d.eng := rfl
@[simp] theorem Dev.setEff_keys (d : Dev) (f : Fld) (v i k : Nat) : (d.setEff f v i k).keys = d.keys := rfl
@[simp] theorem Dev.setEff_cards (d : Dev) (f : Fld) (v i k : Nat) : (d.setEff f v i k).cards = d.cards := rfl
@[simp] theorem Dev.setEff_plinth (d : Dev) (f : Fld) (v i k : Nat) : (d.setEff f v i k).plinth = d.plinth := rfl
@[simp] theorem Dev.setEff_cs (d : Dev) (f : Fld) (v i k : Nat) : (d.setEff f v i k).cs = d.cs := rfl
@[simp] theorem Dev.setEff_life (d : Dev) (f : Fld) (v i k : Nat) : (d.setEff f v i k).life = d.life := rfl
@[simp] theorem Dev.setEff_gates (d : Dev) (f : Fld) (v i k : Nat) : (d.setEff f v i k).gates = d.gates := rfl
@[simp] theorem Dev.setEff_pair (d : Dev) (f : Fld) (v i k : Nat) : (d.setEff f v i k).pair = d.pair := rfl
@[simp] theorem Dev.setEff_power (d : Dev) (f : Fld) (v i k : Nat) : (d.setEff f v i k).power = d.power := rfl
@[simp] theorem Dev.setEff_hbm (d : Dev) (f : Fld) (v i k : Nat) : (d.setEff f v i k).hbm = d.hbm := rfl
@[simp] theorem Dev.setEff_free (d : Dev) (f : Fld) (v i k : Nat) : (d.setEff f v i k).free = d.free := rfl
@[simp] theorem Dev.setEff_outbox (d : Dev) (f : Fld) (v i k : Nat) : (d.setEff f v i k).outbox = d.outbox := rfl

/-! ## A staged field -/

@[simp] theorem Dev.stage_sched (d : Dev) (f : Fld) (v i k : Nat) : (d.stage f v i k).sched = d.sched := rfl
@[simp] theorem Dev.stage_log (d : Dev) (f : Fld) (v i k : Nat) : (d.stage f v i k).log = d.log := rfl
@[simp] theorem Dev.stage_face (d : Dev) (f : Fld) (v i k : Nat) : (d.stage f v i k).face = d.face := rfl
@[simp] theorem Dev.stage_wires (d : Dev) (f : Fld) (v i k : Nat) : (d.stage f v i k).wires = d.wires := rfl
@[simp] theorem Dev.stage_eng (d : Dev) (f : Fld) (v i k : Nat) : (d.stage f v i k).eng = d.eng := rfl
@[simp] theorem Dev.stage_keys (d : Dev) (f : Fld) (v i k : Nat) : (d.stage f v i k).keys = d.keys := rfl
@[simp] theorem Dev.stage_cards (d : Dev) (f : Fld) (v i k : Nat) : (d.stage f v i k).cards = d.cards := rfl
@[simp] theorem Dev.stage_plinth (d : Dev) (f : Fld) (v i k : Nat) : (d.stage f v i k).plinth = d.plinth := rfl
@[simp] theorem Dev.stage_cs (d : Dev) (f : Fld) (v i k : Nat) : (d.stage f v i k).cs = d.cs := rfl
@[simp] theorem Dev.stage_life (d : Dev) (f : Fld) (v i k : Nat) : (d.stage f v i k).life = d.life := rfl
@[simp] theorem Dev.stage_gates (d : Dev) (f : Fld) (v i k : Nat) : (d.stage f v i k).gates = d.gates := rfl
@[simp] theorem Dev.stage_pair (d : Dev) (f : Fld) (v i k : Nat) : (d.stage f v i k).pair = d.pair := rfl
@[simp] theorem Dev.stage_power (d : Dev) (f : Fld) (v i k : Nat) : (d.stage f v i k).power = d.power := rfl
@[simp] theorem Dev.stage_hbm (d : Dev) (f : Fld) (v i k : Nat) : (d.stage f v i k).hbm = d.hbm := rfl
@[simp] theorem Dev.stage_free (d : Dev) (f : Fld) (v i k : Nat) : (d.stage f v i k).free = d.free := rfl
@[simp] theorem Dev.stage_outbox (d : Dev) (f : Fld) (v i k : Nat) : (d.stage f v i k).outbox = d.outbox := rfl

/-! ## A counter that saturates -/

@[simp] theorem Dev.bumpSat_sched (d : Dev) (f : Fld) (i k n : Nat) : (d.bumpSat f i k n).sched = d.sched := rfl
@[simp] theorem Dev.bumpSat_log (d : Dev) (f : Fld) (i k n : Nat) : (d.bumpSat f i k n).log = d.log := rfl
@[simp] theorem Dev.bumpSat_face (d : Dev) (f : Fld) (i k n : Nat) : (d.bumpSat f i k n).face = d.face := rfl
@[simp] theorem Dev.bumpSat_wires (d : Dev) (f : Fld) (i k n : Nat) : (d.bumpSat f i k n).wires = d.wires := rfl
@[simp] theorem Dev.bumpSat_eng (d : Dev) (f : Fld) (i k n : Nat) : (d.bumpSat f i k n).eng = d.eng := rfl
@[simp] theorem Dev.bumpSat_keys (d : Dev) (f : Fld) (i k n : Nat) : (d.bumpSat f i k n).keys = d.keys := rfl
@[simp] theorem Dev.bumpSat_cards (d : Dev) (f : Fld) (i k n : Nat) : (d.bumpSat f i k n).cards = d.cards := rfl
@[simp] theorem Dev.bumpSat_plinth (d : Dev) (f : Fld) (i k n : Nat) : (d.bumpSat f i k n).plinth = d.plinth := rfl
@[simp] theorem Dev.bumpSat_cs (d : Dev) (f : Fld) (i k n : Nat) : (d.bumpSat f i k n).cs = d.cs := rfl
@[simp] theorem Dev.bumpSat_life (d : Dev) (f : Fld) (i k n : Nat) : (d.bumpSat f i k n).life = d.life := rfl
@[simp] theorem Dev.bumpSat_gates (d : Dev) (f : Fld) (i k n : Nat) : (d.bumpSat f i k n).gates = d.gates := rfl
@[simp] theorem Dev.bumpSat_pair (d : Dev) (f : Fld) (i k n : Nat) : (d.bumpSat f i k n).pair = d.pair := rfl
@[simp] theorem Dev.bumpSat_power (d : Dev) (f : Fld) (i k n : Nat) : (d.bumpSat f i k n).power = d.power := rfl
@[simp] theorem Dev.bumpSat_hbm (d : Dev) (f : Fld) (i k n : Nat) : (d.bumpSat f i k n).hbm = d.hbm := rfl
@[simp] theorem Dev.bumpSat_free (d : Dev) (f : Fld) (i k n : Nat) : (d.bumpSat f i k n).free = d.free := rfl
@[simp] theorem Dev.bumpSat_outbox (d : Dev) (f : Fld) (i k n : Nat) : (d.bumpSat f i k n).outbox = d.outbox := rfl

/-! ## A counter that wraps -/

@[simp] theorem Dev.bumpWrap_sched (d : Dev) (f : Fld) (i k n : Nat) : (d.bumpWrap f i k n).sched = d.sched := rfl
@[simp] theorem Dev.bumpWrap_log (d : Dev) (f : Fld) (i k n : Nat) : (d.bumpWrap f i k n).log = d.log := rfl
@[simp] theorem Dev.bumpWrap_face (d : Dev) (f : Fld) (i k n : Nat) : (d.bumpWrap f i k n).face = d.face := rfl
@[simp] theorem Dev.bumpWrap_wires (d : Dev) (f : Fld) (i k n : Nat) : (d.bumpWrap f i k n).wires = d.wires := rfl
@[simp] theorem Dev.bumpWrap_eng (d : Dev) (f : Fld) (i k n : Nat) : (d.bumpWrap f i k n).eng = d.eng := rfl
@[simp] theorem Dev.bumpWrap_keys (d : Dev) (f : Fld) (i k n : Nat) : (d.bumpWrap f i k n).keys = d.keys := rfl
@[simp] theorem Dev.bumpWrap_cards (d : Dev) (f : Fld) (i k n : Nat) : (d.bumpWrap f i k n).cards = d.cards := rfl
@[simp] theorem Dev.bumpWrap_plinth (d : Dev) (f : Fld) (i k n : Nat) : (d.bumpWrap f i k n).plinth = d.plinth := rfl
@[simp] theorem Dev.bumpWrap_cs (d : Dev) (f : Fld) (i k n : Nat) : (d.bumpWrap f i k n).cs = d.cs := rfl
@[simp] theorem Dev.bumpWrap_life (d : Dev) (f : Fld) (i k n : Nat) : (d.bumpWrap f i k n).life = d.life := rfl
@[simp] theorem Dev.bumpWrap_gates (d : Dev) (f : Fld) (i k n : Nat) : (d.bumpWrap f i k n).gates = d.gates := rfl
@[simp] theorem Dev.bumpWrap_pair (d : Dev) (f : Fld) (i k n : Nat) : (d.bumpWrap f i k n).pair = d.pair := rfl
@[simp] theorem Dev.bumpWrap_power (d : Dev) (f : Fld) (i k n : Nat) : (d.bumpWrap f i k n).power = d.power := rfl
@[simp] theorem Dev.bumpWrap_hbm (d : Dev) (f : Fld) (i k n : Nat) : (d.bumpWrap f i k n).hbm = d.hbm := rfl
@[simp] theorem Dev.bumpWrap_free (d : Dev) (f : Fld) (i k n : Nat) : (d.bumpWrap f i k n).free = d.free := rfl
@[simp] theorem Dev.bumpWrap_outbox (d : Dev) (f : Fld) (i k n : Nat) : (d.bumpWrap f i k n).outbox = d.outbox := rfl

/-! ## What is sent -/

@[simp] theorem Dev.send_regs (d : Dev) (o : Output) : (d.send o).regs = d.regs := rfl
@[simp] theorem Dev.send_sched (d : Dev) (o : Output) : (d.send o).sched = d.sched := rfl
@[simp] theorem Dev.send_log (d : Dev) (o : Output) : (d.send o).log = d.log := rfl
@[simp] theorem Dev.send_face (d : Dev) (o : Output) : (d.send o).face = d.face := rfl
@[simp] theorem Dev.send_wires (d : Dev) (o : Output) : (d.send o).wires = d.wires := rfl
@[simp] theorem Dev.send_eng (d : Dev) (o : Output) : (d.send o).eng = d.eng := rfl
@[simp] theorem Dev.send_keys (d : Dev) (o : Output) : (d.send o).keys = d.keys := rfl
@[simp] theorem Dev.send_cards (d : Dev) (o : Output) : (d.send o).cards = d.cards := rfl
@[simp] theorem Dev.send_plinth (d : Dev) (o : Output) : (d.send o).plinth = d.plinth := rfl
@[simp] theorem Dev.send_cs (d : Dev) (o : Output) : (d.send o).cs = d.cs := rfl
@[simp] theorem Dev.send_life (d : Dev) (o : Output) : (d.send o).life = d.life := rfl
@[simp] theorem Dev.send_gates (d : Dev) (o : Output) : (d.send o).gates = d.gates := rfl
@[simp] theorem Dev.send_pair (d : Dev) (o : Output) : (d.send o).pair = d.pair := rfl
@[simp] theorem Dev.send_power (d : Dev) (o : Output) : (d.send o).power = d.power := rfl
@[simp] theorem Dev.send_hbm (d : Dev) (o : Output) : (d.send o).hbm = d.hbm := rfl
@[simp] theorem Dev.send_free (d : Dev) (o : Output) : (d.send o).free = d.free := rfl

/-! ## A counted event -/

@[simp] theorem Dev.occur_regs (d : Dev) (code : Nat) (bay : Option Nat) (q w : Nat) : (d.occur code bay q w).regs = d.regs := by unfold Dev.occur; split <;> rfl
@[simp] theorem Dev.occur_sched (d : Dev) (code : Nat) (bay : Option Nat) (q w : Nat) : (d.occur code bay q w).sched = d.sched := by unfold Dev.occur; split <;> rfl
@[simp] theorem Dev.occur_face (d : Dev) (code : Nat) (bay : Option Nat) (q w : Nat) : (d.occur code bay q w).face = d.face := by unfold Dev.occur; split <;> rfl
@[simp] theorem Dev.occur_wires (d : Dev) (code : Nat) (bay : Option Nat) (q w : Nat) : (d.occur code bay q w).wires = d.wires := by unfold Dev.occur; split <;> rfl
@[simp] theorem Dev.occur_eng (d : Dev) (code : Nat) (bay : Option Nat) (q w : Nat) : (d.occur code bay q w).eng = d.eng := by unfold Dev.occur; split <;> rfl
@[simp] theorem Dev.occur_keys (d : Dev) (code : Nat) (bay : Option Nat) (q w : Nat) : (d.occur code bay q w).keys = d.keys := by unfold Dev.occur; split <;> rfl
@[simp] theorem Dev.occur_cards (d : Dev) (code : Nat) (bay : Option Nat) (q w : Nat) : (d.occur code bay q w).cards = d.cards := by unfold Dev.occur; split <;> rfl
@[simp] theorem Dev.occur_plinth (d : Dev) (code : Nat) (bay : Option Nat) (q w : Nat) : (d.occur code bay q w).plinth = d.plinth := by unfold Dev.occur; split <;> rfl
@[simp] theorem Dev.occur_cs (d : Dev) (code : Nat) (bay : Option Nat) (q w : Nat) : (d.occur code bay q w).cs = d.cs := by unfold Dev.occur; split <;> rfl
@[simp] theorem Dev.occur_life (d : Dev) (code : Nat) (bay : Option Nat) (q w : Nat) : (d.occur code bay q w).life = d.life := by unfold Dev.occur; split <;> rfl
@[simp] theorem Dev.occur_gates (d : Dev) (code : Nat) (bay : Option Nat) (q w : Nat) : (d.occur code bay q w).gates = d.gates := by unfold Dev.occur; split <;> rfl
@[simp] theorem Dev.occur_pair (d : Dev) (code : Nat) (bay : Option Nat) (q w : Nat) : (d.occur code bay q w).pair = d.pair := by unfold Dev.occur; split <;> rfl
@[simp] theorem Dev.occur_power (d : Dev) (code : Nat) (bay : Option Nat) (q w : Nat) : (d.occur code bay q w).power = d.power := by unfold Dev.occur; split <;> rfl
@[simp] theorem Dev.occur_hbm (d : Dev) (code : Nat) (bay : Option Nat) (q w : Nat) : (d.occur code bay q w).hbm = d.hbm := by unfold Dev.occur; split <;> rfl
@[simp] theorem Dev.occur_free (d : Dev) (code : Nat) (bay : Option Nat) (q w : Nat) : (d.occur code bay q w).free = d.free := by unfold Dev.occur; split <;> rfl
@[simp] theorem Dev.occur_outbox (d : Dev) (code : Nat) (bay : Option Nat) (q w : Nat) : (d.occur code bay q w).outbox = d.outbox := by unfold Dev.occur; split <;> rfl

/-! ## A condition that is counted -/

@[simp] theorem Dev.holds_regs (d : Dev) (code : Nat) (bay : Option Nat) (q : Nat) : (d.holds code bay q).regs = d.regs := by unfold Dev.holds; split <;> rfl
@[simp] theorem Dev.holds_sched (d : Dev) (code : Nat) (bay : Option Nat) (q : Nat) : (d.holds code bay q).sched = d.sched := by unfold Dev.holds; split <;> rfl
@[simp] theorem Dev.holds_face (d : Dev) (code : Nat) (bay : Option Nat) (q : Nat) : (d.holds code bay q).face = d.face := by unfold Dev.holds; split <;> rfl
@[simp] theorem Dev.holds_wires (d : Dev) (code : Nat) (bay : Option Nat) (q : Nat) : (d.holds code bay q).wires = d.wires := by unfold Dev.holds; split <;> rfl
@[simp] theorem Dev.holds_eng (d : Dev) (code : Nat) (bay : Option Nat) (q : Nat) : (d.holds code bay q).eng = d.eng := by unfold Dev.holds; split <;> rfl
@[simp] theorem Dev.holds_keys (d : Dev) (code : Nat) (bay : Option Nat) (q : Nat) : (d.holds code bay q).keys = d.keys := by unfold Dev.holds; split <;> rfl
@[simp] theorem Dev.holds_cards (d : Dev) (code : Nat) (bay : Option Nat) (q : Nat) : (d.holds code bay q).cards = d.cards := by unfold Dev.holds; split <;> rfl
@[simp] theorem Dev.holds_plinth (d : Dev) (code : Nat) (bay : Option Nat) (q : Nat) : (d.holds code bay q).plinth = d.plinth := by unfold Dev.holds; split <;> rfl
@[simp] theorem Dev.holds_cs (d : Dev) (code : Nat) (bay : Option Nat) (q : Nat) : (d.holds code bay q).cs = d.cs := by unfold Dev.holds; split <;> rfl
@[simp] theorem Dev.holds_life (d : Dev) (code : Nat) (bay : Option Nat) (q : Nat) : (d.holds code bay q).life = d.life := by unfold Dev.holds; split <;> rfl
@[simp] theorem Dev.holds_gates (d : Dev) (code : Nat) (bay : Option Nat) (q : Nat) : (d.holds code bay q).gates = d.gates := by unfold Dev.holds; split <;> rfl
@[simp] theorem Dev.holds_pair (d : Dev) (code : Nat) (bay : Option Nat) (q : Nat) : (d.holds code bay q).pair = d.pair := by unfold Dev.holds; split <;> rfl
@[simp] theorem Dev.holds_power (d : Dev) (code : Nat) (bay : Option Nat) (q : Nat) : (d.holds code bay q).power = d.power := by unfold Dev.holds; split <;> rfl
@[simp] theorem Dev.holds_hbm (d : Dev) (code : Nat) (bay : Option Nat) (q : Nat) : (d.holds code bay q).hbm = d.hbm := by unfold Dev.holds; split <;> rfl
@[simp] theorem Dev.holds_free (d : Dev) (code : Nat) (bay : Option Nat) (q : Nat) : (d.holds code bay q).free = d.free := by unfold Dev.holds; split <;> rfl
@[simp] theorem Dev.holds_outbox (d : Dev) (code : Nat) (bay : Option Nat) (q : Nat) : (d.holds code bay q).outbox = d.outbox := by unfold Dev.holds; split <;> rfl

/-! ## A bay counter -/

@[simp] theorem Dev.countBay_sched (d : Dev) (bay k n : Nat) : (d.countBay bay k n).sched = d.sched := by unfold Dev.countBay; split <;> rfl
@[simp] theorem Dev.countBay_log (d : Dev) (bay k n : Nat) : (d.countBay bay k n).log = d.log := by unfold Dev.countBay; split <;> rfl
@[simp] theorem Dev.countBay_face (d : Dev) (bay k n : Nat) : (d.countBay bay k n).face = d.face := by unfold Dev.countBay; split <;> rfl
@[simp] theorem Dev.countBay_wires (d : Dev) (bay k n : Nat) : (d.countBay bay k n).wires = d.wires := by unfold Dev.countBay; split <;> rfl
@[simp] theorem Dev.countBay_eng (d : Dev) (bay k n : Nat) : (d.countBay bay k n).eng = d.eng := by unfold Dev.countBay; split <;> rfl
@[simp] theorem Dev.countBay_keys (d : Dev) (bay k n : Nat) : (d.countBay bay k n).keys = d.keys := by unfold Dev.countBay; split <;> rfl
@[simp] theorem Dev.countBay_cards (d : Dev) (bay k n : Nat) : (d.countBay bay k n).cards = d.cards := by unfold Dev.countBay; split <;> rfl
@[simp] theorem Dev.countBay_plinth (d : Dev) (bay k n : Nat) : (d.countBay bay k n).plinth = d.plinth := by unfold Dev.countBay; split <;> rfl
@[simp] theorem Dev.countBay_cs (d : Dev) (bay k n : Nat) : (d.countBay bay k n).cs = d.cs := by unfold Dev.countBay; split <;> rfl
@[simp] theorem Dev.countBay_life (d : Dev) (bay k n : Nat) : (d.countBay bay k n).life = d.life := by unfold Dev.countBay; split <;> rfl
@[simp] theorem Dev.countBay_gates (d : Dev) (bay k n : Nat) : (d.countBay bay k n).gates = d.gates := by unfold Dev.countBay; split <;> rfl
@[simp] theorem Dev.countBay_pair (d : Dev) (bay k n : Nat) : (d.countBay bay k n).pair = d.pair := by unfold Dev.countBay; split <;> rfl
@[simp] theorem Dev.countBay_power (d : Dev) (bay k n : Nat) : (d.countBay bay k n).power = d.power := by unfold Dev.countBay; split <;> rfl
@[simp] theorem Dev.countBay_hbm (d : Dev) (bay k n : Nat) : (d.countBay bay k n).hbm = d.hbm := by unfold Dev.countBay; split <;> rfl
@[simp] theorem Dev.countBay_free (d : Dev) (bay k n : Nat) : (d.countBay bay k n).free = d.free := by unfold Dev.countBay; split <;> rfl
@[simp] theorem Dev.countBay_outbox (d : Dev) (bay k n : Nat) : (d.countBay bay k n).outbox = d.outbox := by unfold Dev.countBay; split <;> rfl

/-! ## Free bytes -/

@[simp] theorem Dev.draw_regs (d : Dev) (n : Nat) : ((d.draw n).2).regs = d.regs := rfl
@[simp] theorem Dev.draw_sched (d : Dev) (n : Nat) : ((d.draw n).2).sched = d.sched := rfl
@[simp] theorem Dev.draw_log (d : Dev) (n : Nat) : ((d.draw n).2).log = d.log := rfl
@[simp] theorem Dev.draw_face (d : Dev) (n : Nat) : ((d.draw n).2).face = d.face := rfl
@[simp] theorem Dev.draw_wires (d : Dev) (n : Nat) : ((d.draw n).2).wires = d.wires := rfl
@[simp] theorem Dev.draw_eng (d : Dev) (n : Nat) : ((d.draw n).2).eng = d.eng := rfl
@[simp] theorem Dev.draw_keys (d : Dev) (n : Nat) : ((d.draw n).2).keys = d.keys := rfl
@[simp] theorem Dev.draw_cards (d : Dev) (n : Nat) : ((d.draw n).2).cards = d.cards := rfl
@[simp] theorem Dev.draw_plinth (d : Dev) (n : Nat) : ((d.draw n).2).plinth = d.plinth := rfl
@[simp] theorem Dev.draw_cs (d : Dev) (n : Nat) : ((d.draw n).2).cs = d.cs := rfl
@[simp] theorem Dev.draw_life (d : Dev) (n : Nat) : ((d.draw n).2).life = d.life := rfl
@[simp] theorem Dev.draw_gates (d : Dev) (n : Nat) : ((d.draw n).2).gates = d.gates := rfl
@[simp] theorem Dev.draw_pair (d : Dev) (n : Nat) : ((d.draw n).2).pair = d.pair := rfl
@[simp] theorem Dev.draw_power (d : Dev) (n : Nat) : ((d.draw n).2).power = d.power := rfl
@[simp] theorem Dev.draw_hbm (d : Dev) (n : Nat) : ((d.draw n).2).hbm = d.hbm := rfl
@[simp] theorem Dev.draw_outbox (d : Dev) (n : Nat) : ((d.draw n).2).outbox = d.outbox := rfl

/-! ## A context -/

@[simp] theorem Dev.setCtx_regs (d : Dev) (c : Nat) (x : Ctx) : (d.setCtx c x).regs = d.regs := rfl
@[simp] theorem Dev.setCtx_log (d : Dev) (c : Nat) (x : Ctx) : (d.setCtx c x).log = d.log := rfl
@[simp] theorem Dev.setCtx_face (d : Dev) (c : Nat) (x : Ctx) : (d.setCtx c x).face = d.face := rfl
@[simp] theorem Dev.setCtx_wires (d : Dev) (c : Nat) (x : Ctx) : (d.setCtx c x).wires = d.wires := rfl
@[simp] theorem Dev.setCtx_eng (d : Dev) (c : Nat) (x : Ctx) : (d.setCtx c x).eng = d.eng := rfl
@[simp] theorem Dev.setCtx_keys (d : Dev) (c : Nat) (x : Ctx) : (d.setCtx c x).keys = d.keys := rfl
@[simp] theorem Dev.setCtx_cards (d : Dev) (c : Nat) (x : Ctx) : (d.setCtx c x).cards = d.cards := rfl
@[simp] theorem Dev.setCtx_plinth (d : Dev) (c : Nat) (x : Ctx) : (d.setCtx c x).plinth = d.plinth := rfl
@[simp] theorem Dev.setCtx_cs (d : Dev) (c : Nat) (x : Ctx) : (d.setCtx c x).cs = d.cs := rfl
@[simp] theorem Dev.setCtx_life (d : Dev) (c : Nat) (x : Ctx) : (d.setCtx c x).life = d.life := rfl
@[simp] theorem Dev.setCtx_gates (d : Dev) (c : Nat) (x : Ctx) : (d.setCtx c x).gates = d.gates := rfl
@[simp] theorem Dev.setCtx_pair (d : Dev) (c : Nat) (x : Ctx) : (d.setCtx c x).pair = d.pair := rfl
@[simp] theorem Dev.setCtx_power (d : Dev) (c : Nat) (x : Ctx) : (d.setCtx c x).power = d.power := rfl
@[simp] theorem Dev.setCtx_hbm (d : Dev) (c : Nat) (x : Ctx) : (d.setCtx c x).hbm = d.hbm := rfl
@[simp] theorem Dev.setCtx_free (d : Dev) (c : Nat) (x : Ctx) : (d.setCtx c x).free = d.free := rfl
@[simp] theorem Dev.setCtx_outbox (d : Dev) (c : Nat) (x : Ctx) : (d.setCtx c x).outbox = d.outbox := rfl

/-! ## A cipher core -/

@[simp] theorem Dev.setCore_regs (d : Dev) (c : Nat) (x : Core) : (d.setCore c x).regs = d.regs := rfl
@[simp] theorem Dev.setCore_sched (d : Dev) (c : Nat) (x : Core) : (d.setCore c x).sched = d.sched := rfl
@[simp] theorem Dev.setCore_log (d : Dev) (c : Nat) (x : Core) : (d.setCore c x).log = d.log := rfl
@[simp] theorem Dev.setCore_face (d : Dev) (c : Nat) (x : Core) : (d.setCore c x).face = d.face := rfl
@[simp] theorem Dev.setCore_wires (d : Dev) (c : Nat) (x : Core) : (d.setCore c x).wires = d.wires := rfl
@[simp] theorem Dev.setCore_keys (d : Dev) (c : Nat) (x : Core) : (d.setCore c x).keys = d.keys := rfl
@[simp] theorem Dev.setCore_cards (d : Dev) (c : Nat) (x : Core) : (d.setCore c x).cards = d.cards := rfl
@[simp] theorem Dev.setCore_plinth (d : Dev) (c : Nat) (x : Core) : (d.setCore c x).plinth = d.plinth := rfl
@[simp] theorem Dev.setCore_cs (d : Dev) (c : Nat) (x : Core) : (d.setCore c x).cs = d.cs := rfl
@[simp] theorem Dev.setCore_life (d : Dev) (c : Nat) (x : Core) : (d.setCore c x).life = d.life := rfl
@[simp] theorem Dev.setCore_gates (d : Dev) (c : Nat) (x : Core) : (d.setCore c x).gates = d.gates := rfl
@[simp] theorem Dev.setCore_pair (d : Dev) (c : Nat) (x : Core) : (d.setCore c x).pair = d.pair := rfl
@[simp] theorem Dev.setCore_power (d : Dev) (c : Nat) (x : Core) : (d.setCore c x).power = d.power := rfl
@[simp] theorem Dev.setCore_hbm (d : Dev) (c : Nat) (x : Core) : (d.setCore c x).hbm = d.hbm := rfl
@[simp] theorem Dev.setCore_free (d : Dev) (c : Nat) (x : Core) : (d.setCore c x).free = d.free := rfl
@[simp] theorem Dev.setCore_outbox (d : Dev) (c : Nat) (x : Core) : (d.setCore c x).outbox = d.outbox := rfl

/-! ## A hash core -/

@[simp] theorem Dev.setHash_regs (d : Dev) (c : Nat) (x : Core) : (d.setHash c x).regs = d.regs := rfl
@[simp] theorem Dev.setHash_sched (d : Dev) (c : Nat) (x : Core) : (d.setHash c x).sched = d.sched := rfl
@[simp] theorem Dev.setHash_log (d : Dev) (c : Nat) (x : Core) : (d.setHash c x).log = d.log := rfl
@[simp] theorem Dev.setHash_face (d : Dev) (c : Nat) (x : Core) : (d.setHash c x).face = d.face := rfl
@[simp] theorem Dev.setHash_wires (d : Dev) (c : Nat) (x : Core) : (d.setHash c x).wires = d.wires := rfl
@[simp] theorem Dev.setHash_keys (d : Dev) (c : Nat) (x : Core) : (d.setHash c x).keys = d.keys := rfl
@[simp] theorem Dev.setHash_cards (d : Dev) (c : Nat) (x : Core) : (d.setHash c x).cards = d.cards := rfl
@[simp] theorem Dev.setHash_plinth (d : Dev) (c : Nat) (x : Core) : (d.setHash c x).plinth = d.plinth := rfl
@[simp] theorem Dev.setHash_cs (d : Dev) (c : Nat) (x : Core) : (d.setHash c x).cs = d.cs := rfl
@[simp] theorem Dev.setHash_life (d : Dev) (c : Nat) (x : Core) : (d.setHash c x).life = d.life := rfl
@[simp] theorem Dev.setHash_gates (d : Dev) (c : Nat) (x : Core) : (d.setHash c x).gates = d.gates := rfl
@[simp] theorem Dev.setHash_pair (d : Dev) (c : Nat) (x : Core) : (d.setHash c x).pair = d.pair := rfl
@[simp] theorem Dev.setHash_power (d : Dev) (c : Nat) (x : Core) : (d.setHash c x).power = d.power := rfl
@[simp] theorem Dev.setHash_hbm (d : Dev) (c : Nat) (x : Core) : (d.setHash c x).hbm = d.hbm := rfl
@[simp] theorem Dev.setHash_free (d : Dev) (c : Nat) (x : Core) : (d.setHash c x).free = d.free := rfl
@[simp] theorem Dev.setHash_outbox (d : Dev) (c : Nat) (x : Core) : (d.setHash c x).outbox = d.outbox := rfl

/-! ## An engine -/

@[simp] theorem Dev.setEngine_regs (d : Dev) (c : Nat) (x : Core) : (d.setEngine c x).regs = d.regs := rfl
@[simp] theorem Dev.setEngine_sched (d : Dev) (c : Nat) (x : Core) : (d.setEngine c x).sched = d.sched := rfl
@[simp] theorem Dev.setEngine_log (d : Dev) (c : Nat) (x : Core) : (d.setEngine c x).log = d.log := rfl
@[simp] theorem Dev.setEngine_face (d : Dev) (c : Nat) (x : Core) : (d.setEngine c x).face = d.face := rfl
@[simp] theorem Dev.setEngine_wires (d : Dev) (c : Nat) (x : Core) : (d.setEngine c x).wires = d.wires := rfl
@[simp] theorem Dev.setEngine_keys (d : Dev) (c : Nat) (x : Core) : (d.setEngine c x).keys = d.keys := rfl
@[simp] theorem Dev.setEngine_cards (d : Dev) (c : Nat) (x : Core) : (d.setEngine c x).cards = d.cards := rfl
@[simp] theorem Dev.setEngine_plinth (d : Dev) (c : Nat) (x : Core) : (d.setEngine c x).plinth = d.plinth := rfl
@[simp] theorem Dev.setEngine_cs (d : Dev) (c : Nat) (x : Core) : (d.setEngine c x).cs = d.cs := rfl
@[simp] theorem Dev.setEngine_life (d : Dev) (c : Nat) (x : Core) : (d.setEngine c x).life = d.life := rfl
@[simp] theorem Dev.setEngine_gates (d : Dev) (c : Nat) (x : Core) : (d.setEngine c x).gates = d.gates := rfl
@[simp] theorem Dev.setEngine_pair (d : Dev) (c : Nat) (x : Core) : (d.setEngine c x).pair = d.pair := rfl
@[simp] theorem Dev.setEngine_power (d : Dev) (c : Nat) (x : Core) : (d.setEngine c x).power = d.power := rfl
@[simp] theorem Dev.setEngine_hbm (d : Dev) (c : Nat) (x : Core) : (d.setEngine c x).hbm = d.hbm := rfl
@[simp] theorem Dev.setEngine_free (d : Dev) (c : Nat) (x : Core) : (d.setEngine c x).free = d.free := rfl
@[simp] theorem Dev.setEngine_outbox (d : Dev) (c : Nat) (x : Core) : (d.setEngine c x).outbox = d.outbox := rfl

/-! ## A crossing -/

@[simp] theorem Dev.setXing_regs (d : Dev) (x : XingState) : (d.setXing x).regs = d.regs := rfl
@[simp] theorem Dev.setXing_sched (d : Dev) (x : XingState) : (d.setXing x).sched = d.sched := rfl
@[simp] theorem Dev.setXing_log (d : Dev) (x : XingState) : (d.setXing x).log = d.log := rfl
@[simp] theorem Dev.setXing_face (d : Dev) (x : XingState) : (d.setXing x).face = d.face := rfl
@[simp] theorem Dev.setXing_eng (d : Dev) (x : XingState) : (d.setXing x).eng = d.eng := rfl
@[simp] theorem Dev.setXing_keys (d : Dev) (x : XingState) : (d.setXing x).keys = d.keys := rfl
@[simp] theorem Dev.setXing_cards (d : Dev) (x : XingState) : (d.setXing x).cards = d.cards := rfl
@[simp] theorem Dev.setXing_plinth (d : Dev) (x : XingState) : (d.setXing x).plinth = d.plinth := rfl
@[simp] theorem Dev.setXing_cs (d : Dev) (x : XingState) : (d.setXing x).cs = d.cs := rfl
@[simp] theorem Dev.setXing_life (d : Dev) (x : XingState) : (d.setXing x).life = d.life := rfl
@[simp] theorem Dev.setXing_gates (d : Dev) (x : XingState) : (d.setXing x).gates = d.gates := rfl
@[simp] theorem Dev.setXing_pair (d : Dev) (x : XingState) : (d.setXing x).pair = d.pair := rfl
@[simp] theorem Dev.setXing_power (d : Dev) (x : XingState) : (d.setXing x).power = d.power := rfl
@[simp] theorem Dev.setXing_hbm (d : Dev) (x : XingState) : (d.setXing x).hbm = d.hbm := rfl
@[simp] theorem Dev.setXing_free (d : Dev) (x : XingState) : (d.setXing x).free = d.free := rfl
@[simp] theorem Dev.setXing_outbox (d : Dev) (x : XingState) : (d.setXing x).outbox = d.outbox := rfl

/-! ## A Keystone -/

@[simp] theorem Dev.setUnit_regs (d : Dev) (u : Nat) (x : KUnit) : (d.setUnit u x).regs = d.regs := rfl
@[simp] theorem Dev.setUnit_sched (d : Dev) (u : Nat) (x : KUnit) : (d.setUnit u x).sched = d.sched := rfl
@[simp] theorem Dev.setUnit_log (d : Dev) (u : Nat) (x : KUnit) : (d.setUnit u x).log = d.log := rfl
@[simp] theorem Dev.setUnit_face (d : Dev) (u : Nat) (x : KUnit) : (d.setUnit u x).face = d.face := rfl
@[simp] theorem Dev.setUnit_wires (d : Dev) (u : Nat) (x : KUnit) : (d.setUnit u x).wires = d.wires := rfl
@[simp] theorem Dev.setUnit_eng (d : Dev) (u : Nat) (x : KUnit) : (d.setUnit u x).eng = d.eng := rfl
@[simp] theorem Dev.setUnit_keys (d : Dev) (u : Nat) (x : KUnit) : (d.setUnit u x).keys = d.keys := rfl
@[simp] theorem Dev.setUnit_cards (d : Dev) (u : Nat) (x : KUnit) : (d.setUnit u x).cards = d.cards := rfl
@[simp] theorem Dev.setUnit_plinth (d : Dev) (u : Nat) (x : KUnit) : (d.setUnit u x).plinth = d.plinth := rfl
@[simp] theorem Dev.setUnit_cs (d : Dev) (u : Nat) (x : KUnit) : (d.setUnit u x).cs = d.cs := rfl
@[simp] theorem Dev.setUnit_life (d : Dev) (u : Nat) (x : KUnit) : (d.setUnit u x).life = d.life := rfl
@[simp] theorem Dev.setUnit_gates (d : Dev) (u : Nat) (x : KUnit) : (d.setUnit u x).gates = d.gates := rfl
@[simp] theorem Dev.setUnit_power (d : Dev) (u : Nat) (x : KUnit) : (d.setUnit u x).power = d.power := rfl
@[simp] theorem Dev.setUnit_hbm (d : Dev) (u : Nat) (x : KUnit) : (d.setUnit u x).hbm = d.hbm := rfl
@[simp] theorem Dev.setUnit_free (d : Dev) (u : Nat) (x : KUnit) : (d.setUnit u x).free = d.free := rfl
@[simp] theorem Dev.setUnit_outbox (d : Dev) (u : Nat) (x : KUnit) : (d.setUnit u x).outbox = d.outbox := rfl

@[simp] theorem Dev.send_outbox (d : Dev) (o : Output) : (d.send o).outbox = d.outbox ++ [o] := rfl

end Sys2Proof.Machine
end

