-- ==== Sys2Proof/Laws/Report.lean ====
section
/-! SUPPORT. Reading and writing register fields, and what a report can change: interrupts, Mark records, block events and
errors. -/

namespace Sys2Proof.Machine

/-! ## Register fields -/

/-- A field reads as the value written, cut to its width. -/
@[simp] theorem Dev.get_set_self (d : Dev) (f : Fld) (v i k : Nat) : (d.set f v i k).get f i k = v % f.bound := by
  simp only [Dev.get, Dev.set, Tab.look_set, if_true]
  split
  · rename_i h; simp [← h]
  · simp

/-- A field at another place keeps its value. -/
theorem Dev.get_set_ne (d : Dev) (f g : Fld) (v i k j l : Nat) (h : f.key i k ≠ g.key j l) :
    (d.set f v i k).get g j l = d.get g j l := by
  simp [Dev.get, Dev.set, Tab.look_set, h]

/-- What the register file lists after a write. -/
theorem Dev.look_set (d : Dev) (f : Fld) (v i k key : Nat) (h : f.key i k ≠ key) :
    Tab.look (d.set f v i k).regs.vals key = Tab.look d.regs.vals key := by
  simp [Dev.set, Tab.look_set, h]

/-- Two fields with one place list in the register file agree. -/
theorem Dev.get_congr {d e : Dev} {f : Fld} {i k : Nat}
    (h : Tab.look e.regs.vals (f.key i k) = Tab.look d.regs.vals (f.key i k)) : e.get f i k = d.get f i k := by
  simp [Dev.get, h]

@[simp] theorem Dev.send_get (d : Dev) (o : Output) (f : Fld) (i k : Nat) : (d.send o).get f i k = d.get f i k := rfl
@[simp] theorem Dev.occur_get (d : Dev) (code : Nat) (bay : Option Nat) (q w : Nat) (f : Fld) (i k : Nat) :
    (d.occur code bay q w).get f i k = d.get f i k := by simp [Dev.get]
@[simp] theorem Dev.setCtx_get (d : Dev) (c : Nat) (x : Ctx) (f : Fld) (i k : Nat) :
    (d.setCtx c x).get f i k = d.get f i k := rfl
@[simp] theorem Dev.setXing_get (d : Dev) (x : XingState) (f : Fld) (i k : Nat) :
    (d.setXing x).get f i k = d.get f i k := rfl

/-- The page, the offset and the lowest bit stand in a field's place. -/
theorem Fld.key_page (f : Fld) (i k : Nat) (ho : f.off < 0x1000) (hl : f.lo < 32) (hk : k < 0x1000) :
    f.key i k / 0x20000000 = f.blk.page i := by unfold Fld.key; omega

theorem Fld.key_off (f : Fld) (i k : Nat) (ho : f.off < 0x1000) (hl : f.lo < 32) (hk : k < 0x1000) :
    f.key i k / 0x20000 % 0x1000 = f.off := by unfold Fld.key; omega

theorem Fld.key_lo (f : Fld) (i k : Nat) (hl : f.lo < 32) (hk : k < 0x1000) :
    f.key i k / 0x1000 % 32 = f.lo := by unfold Fld.key; omega

/-- Fields at different offsets stand at different places. -/
theorem Fld.key_ne_of_off (f g : Fld) (i k j l : Nat) (h : f.off ≠ g.off) (ho : f.off < 0x1000) (hl : f.lo < 32)
    (hk : k < 0x1000) (ho' : g.off < 0x1000) (hl' : g.lo < 32) (hk' : l < 0x1000) : f.key i k ≠ g.key j l := by
  intro e
  have h1 := f.key_off i k ho hl hk
  have h2 := g.key_off j l ho' hl' hk'
  rw [e] at h1; exact h (h1.symm.trans h2)

/-! ## Nothing but a report -/

theorem Dev.SameWork.refl (d : Dev) : d.SameWork d := ⟨rfl, rfl, rfl, rfl, rfl, rfl, rfl, rfl, rfl, rfl, rfl, rfl, rfl⟩

theorem Dev.SameWork.trans {a b c : Dev} (h : a.SameWork b) (g : b.SameWork c) : a.SameWork c :=
  ⟨g.sched.trans h.sched, g.wires.trans h.wires, g.eng.trans h.eng, g.keys.trans h.keys, g.cards.trans h.cards,
    g.plinth.trans h.plinth, g.cs.trans h.cs, g.life.trans h.life, g.gates.trans h.gates, g.pair.trans h.pair,
    g.power.trans h.power, g.hbm.trans h.hbm, g.free.trans h.free⟩

theorem Dev.SameRegs.refl (d : Dev) (own : Nat → Prop) : d.SameRegs d own := ⟨fun _ _ => rfl, rfl, rfl⟩

theorem Dev.SameRegs.trans {a b c : Dev} {own : Nat → Prop} (h : a.SameRegs b own) (g : b.SameRegs c own) :
    a.SameRegs c own :=
  ⟨fun k hk => (g.vals k hk).trans (h.vals k hk), g.eff.trans h.eff, g.staged.trans h.staged⟩

theorem Dev.SameRegs.mono {a b : Dev} {own more : Nat → Prop} (h : a.SameRegs b own) (hm : ∀ k, own k → more k) :
    a.SameRegs b more := ⟨fun k hk => h.vals k (fun c => hk (hm k c)), h.eff, h.staged⟩

theorem Dev.SameRegs.get {a b : Dev} {own : Nat → Prop} (h : a.SameRegs b own) (f : Fld) (i k : Nat)
    (hk : ¬ own (f.key i k)) : b.get f i k = a.get f i k := Dev.get_congr (h.vals _ hk)

theorem Dev.SameFace.refl (d : Dev) : d.SameFace d := ⟨rfl, rfl, rfl, rfl, rfl, rfl, rfl, rfl, rfl⟩

theorem Dev.SameFace.trans {a b c : Dev} (h : a.SameFace b) (g : b.SameFace c) : a.SameFace c :=
  ⟨g.handshakes.trans h.handshakes, g.partials.trans h.partials, g.streams.trans h.streams, g.rings.trans h.rings,
    g.ideKeys.trans h.ideKeys, g.psk.trans h.psk, g.spdm.trans h.spdm, g.perst.trans h.perst,
    g.sessions.trans h.sessions⟩

theorem Dev.SameFace.of_eq {a b : Dev} (h : b.face = a.face) : a.SameFace b := by
  constructor <;> simp [h]

variable {own : Nat → Prop}

theorem Dev.Reported.refl (d : Dev) : Dev.Reported own d d :=
  ⟨Dev.SameWork.refl d, Dev.SameRegs.refl d _, Dev.SameFace.refl d, rfl, rfl, rfl⟩

theorem Dev.Reported.trans {a b c : Dev} (h : Dev.Reported own a b) (g : Dev.Reported own b c) : Dev.Reported own a c :=
  ⟨h.work.trans g.work, h.regs.trans g.regs, h.face.trans g.face, g.rings.trans h.rings, g.counters.trans h.counters,
    g.shadow.trans h.shadow⟩

/-- A fold of reports is a report. -/
theorem Dev.Reported.foldl {α : Type} (l : List α) (f : Dev → α → Dev) (h : ∀ (a : Dev) (x : α), Dev.Reported own a (f a x))
    (d : Dev) : Dev.Reported own d (l.foldl f d) := by
  induction l generalizing d with
  | nil => exact Dev.Reported.refl d
  | cons x r ih => exact (h d x).trans (ih (f d x))

/-- A register field outside the reports keeps its value. -/
theorem Dev.Reported.get {a b : Dev} (h : Dev.Reported own a b) (f : Fld) (i k : Nat) (hm : ¬ markKey (f.key i k))
    (hk : ¬ own (f.key i k)) : b.get f i k = a.get f i k := h.regs.get f i k (by simp [hm, hk])

/-- A report of fewer fields is one of more. -/
theorem Dev.Reported.mono {a b : Dev} {more : Nat → Prop} (h : Dev.Reported own a b) (hm : ∀ k, own k → more k) :
    Dev.Reported more a b :=
  ⟨h.work, h.regs.mono (fun k x => x.imp id (hm k)), h.face, h.rings, h.counters, h.shadow⟩

/-- A change of the log alone, but for the bay rings, the counters and their shadows. -/
theorem Dev.Reported.log {a d : Dev} (r : Dev.Reported own a d) {l : Rec} (h1 : l.rings = d.log.rings)
    (h2 : l.counters = d.log.counters) (h3 : l.shadow = d.log.shadow) : Dev.Reported own a { d with log := l } :=
  r.trans ⟨⟨rfl, rfl, rfl, rfl, rfl, rfl, rfl, rfl, rfl, rfl, rfl, rfl, rfl⟩, ⟨fun _ _ => rfl, rfl, rfl⟩,
    ⟨rfl, rfl, rfl, rfl, rfl, rfl, rfl, rfl, rfl⟩, h1, h2, h3⟩

/-- A write of a report's own field. -/
theorem Dev.Reported.set {a b : Dev} (r : Dev.Reported own a b) (f : Fld) (v i k : Nat) (h : markKey (f.key i k) ∨ own (f.key i k)) :
    Dev.Reported own a (b.set f v i k) := by
  refine r.trans ⟨⟨rfl, rfl, rfl, rfl, rfl, rfl, rfl, rfl, rfl, rfl, rfl, rfl, rfl⟩, ⟨?_, rfl, rfl⟩,
    ⟨rfl, rfl, rfl, rfl, rfl, rfl, rfl, rfl, rfl⟩, rfl, rfl, rfl⟩
  intro key hk
  apply Dev.look_set
  rintro rfl
  exact hk h

theorem Dev.Reported.bumpSat {a b : Dev} (r : Dev.Reported own a b) (f : Fld) (i k n : Nat)
    (h : markKey (f.key i k) ∨ own (f.key i k)) : Dev.Reported own a (b.bumpSat f i k n) := r.set f _ i k h

theorem Dev.Reported.bumpWrap {a b : Dev} (r : Dev.Reported own a b) (f : Fld) (i k n : Nat)
    (h : markKey (f.key i k) ∨ own (f.key i k)) : Dev.Reported own a (b.bumpWrap f i k n) := r.set f _ i k h

theorem Dev.Reported.send {a b : Dev} (r : Dev.Reported own a b) (o : Output) : Dev.Reported own a (b.send o) :=
  r.trans ⟨⟨rfl, rfl, rfl, rfl, rfl, rfl, rfl, rfl, rfl, rfl, rfl, rfl, rfl⟩, ⟨fun _ _ => rfl, rfl, rfl⟩,
    ⟨rfl, rfl, rfl, rfl, rfl, rfl, rfl, rfl, rfl⟩, rfl, rfl, rfl⟩

theorem Dev.Reported.occur {a b : Dev} (r : Dev.Reported own a b) (code : Nat) (bay : Option Nat) (q w : Nat) :
    Dev.Reported own a (b.occur code bay q w) := by
  unfold Dev.occur
  split
  · exact r
  · exact r.log rfl rfl rfl

/-- A report in one of two cases. -/
theorem Dev.Reported.ite {a b c : Dev} (p : Prop) [Decidable p] (h : Dev.Reported own a b) (g : Dev.Reported own a c) :
    Dev.Reported own a (if p then b else c) := by split <;> assumption

/-! ## Interrupts -/

theorem markKey_page (f : Fld) (k : Nat) (h : f.blk = .ev ∨ f.blk = .ic) (ho : f.off < 0x1000) (hl : f.lo < 32)
    (hk : k < 0x1000) : markKey (f.key 0 k) := by
  have h1 := f.key_page 0 k ho hl hk
  simp only [markKey, h1]
  rcases h with h | h <;> simp [h, Blk.page, Blk.basePage]

/-- A field of another page than EV and IC is not theirs. -/
theorem markKey_false (f : Fld) (i k : Nat) (h3 : f.blk.page i ≠ 0x040) (h4 : f.blk.page i ≠ 0x042) (ho : f.off < 0x1000)
    (hl : f.lo < 32) (hk : k < 0x1000) : ¬ markKey (f.key i k) := by
  have h6 := f.key_page i k ho hl hk
  simp only [markKey, h6]
  simp [h3, h4]

/-- INT_RAW and ERR_INFO of a page. -/
theorem reportKey_raw (b : Blk) (i : Nat) : reportKey ((R.INT_RAW b).key i 0) :=
  .inl ((R.INT_RAW b).key_off i 0 (by show 0x010 < 0x1000; omega) (by show 0 < 32; omega) (by omega))

theorem reportKey_err (f : Fld) (i : Nat) (h : f.off = 0x024) (hl : f.lo < 32) : reportKey (f.key i 0) :=
  .inr ((f.key_off i 0 (by omega) hl (by omega)).trans h)

/-- A field at another offset than INT_RAW and ERR_INFO is no report's. -/
theorem reportKey_false (f : Fld) (i k : Nat) (h1 : f.off ≠ 0x010) (h2 : f.off ≠ 0x024) (ho : f.off < 0x1000)
    (hl : f.lo < 32) (hk : k < 0x1000) : ¬ reportKey (f.key i k) := by
  have h5 := f.key_off i k ho hl hk
  simp only [reportKey, h5]
  simp [h1, h2]

theorem icKey_msgs : markKey (R.IC_MSGS.key 0 0) :=
  markKey_page _ _ (.inr rfl) (by decide) (by decide) (by decide)
theorem icKey_dropped : markKey (R.IC_FRAME_DROPPED.key 0 0) :=
  markKey_page _ _ (.inr rfl) (by decide) (by decide) (by decide)
theorem evKey_repeat : markKey (R.EV_REPEAT_GEN.key 0 0) :=
  markKey_page _ _ (.inl rfl) (by decide) (by decide) (by decide)
theorem evKey_lost : markKey (R.EV_LOST.key 0 0) :=
  markKey_page _ _ (.inl rfl) (by decide) (by decide) (by decide)
theorem evKey_near : markKey (R.EV_STATUS_NEAR_FULL.key 0 0) :=
  markKey_page _ _ (.inl rfl) (by decide) (by decide) (by decide)
theorem evKey_full : markKey (R.EV_STATUS_FULL.key 0 0) :=
  markKey_page _ _ (.inl rfl) (by decide) (by decide) (by decide)

theorem evKey_raw : markKey ((R.INT_RAW .ev).key 0 0) ∨ own ((R.INT_RAW .ev).key 0 0) :=
  .inl (markKey_page _ _ (.inl rfl) (by decide) (by decide) (by decide))
theorem icKey_raw : markKey ((R.INT_RAW .ic).key 0 0) ∨ own ((R.INT_RAW .ic).key 0 0) :=
  .inl (markKey_page _ _ (.inr rfl) (by decide) (by decide) (by decide))

theorem Dev.Reported.sendVector {a b : Dev} (r : Dev.Reported own a b) (v : Nat) : Dev.Reported own a (b.sendVector v) := by
  unfold Dev.sendVector
  refine (Dev.Reported.bumpSat ?_ R.IC_MSGS 0 0 1 (.inl icKey_msgs)).send _
  exact r.log rfl rfl rfl

theorem Dev.Reported.markIrq {a b : Dev} (r : Dev.Reported own a b) (n : Nat) : Dev.Reported own a (b.markIrq n) := by
  unfold Dev.markIrq
  exact .ite _ (.ite _ (r.sendVector _) (r.log rfl rfl rfl)) r

theorem Dev.Reported.markRisen {a b : Dev} (r : Dev.Reported own a b) (before : Dev) (l : List Nat) :
    Dev.Reported own a (Dev.markRisen before b l) := by
  unfold Dev.markRisen
  exact r.trans (Dev.Reported.foldl l _ (fun c x => .ite _ ((Dev.Reported.refl c).markIrq x) (Dev.Reported.refl c)) b)

theorem Dev.Reported.flushVec {a b : Dev} (r : Dev.Reported own a b) (v : Nat) : Dev.Reported own a (b.flushVec v) := by
  unfold Dev.flushVec
  exact .ite _ (r.sendVector v) r

theorem Dev.Reported.flushAll {a b : Dev} (r : Dev.Reported own a b) : Dev.Reported own a b.flushAll := by
  unfold Dev.flushAll
  exact r.trans (Dev.Reported.foldl _ _ (fun c v => (Dev.Reported.refl c).flushVec v) b)

/-- Raising an interrupt bit is a report. -/
theorem Dev.Reported.raiseInt {a b : Dev} (r : Dev.Reported own a b) (k : Blk) (i n : Nat)
    (h : markKey ((R.INT_RAW k).key i 0) ∨ own ((R.INT_RAW k).key i 0)) : Dev.Reported own a (b.raiseInt k i n) := by
  unfold Dev.raiseInt
  exact (r.set (R.INT_RAW k) _ i 0 h).markRisen _ _

/-- A raised bit shows in INT_RAW, whose other bits stay. -/
theorem Dev.raiseInt_raw (d : Dev) (k : Blk) (i n : Nat) (h : ¬ markKey ((R.INT_RAW k).key i 0)) :
    (d.raiseInt k i n).get (R.INT_RAW k) i = (d.get (R.INT_RAW k) i ||| 2 ^ n) % 2 ^ 32 := by
  unfold Dev.raiseInt
  refine ((Dev.Reported.refl (own := fun _ => False) _).markRisen d (irqsOf k i)).get (R.INT_RAW k) i 0 h
    (fun x => x) |>.trans ?_
  exact Dev.get_set_self _ _ _ _ _

/-! ## Records -/

theorem Session.queueItem_same (s : Session) (x : EvItem) :
    { (s.queueItem x).1 with unsent := [], dropped := false } = { s with unsent := [], dropped := false } := by
  unfold Session.queueItem; split <;> rfl

theorem Dev.Reported.sessions {a b : Dev} (r : Dev.Reported own a b) (l : Tab Session)
    (h : l.map (fun x => (x.1, { x.2 with unsent := [], dropped := false })) =
      b.face.sessions.map (fun x => (x.1, { x.2 with unsent := [], dropped := false }))) :
    Dev.Reported own a { b with face := { b.face with sessions := l } } :=
  r.trans ⟨⟨rfl, rfl, rfl, rfl, rfl, rfl, rfl, rfl, rfl, rfl, rfl, rfl, rfl⟩, ⟨fun _ _ => rfl, rfl, rfl⟩,
    ⟨rfl, rfl, rfl, rfl, rfl, rfl, rfl, rfl, h⟩, rfl, rfl, rfl⟩

theorem Dev.Reported.queueItems {a b : Dev} (r : Dev.Reported own a b) (sel : Session → Bool) (x : EvItem) :
    Dev.Reported own a (b.queueItems sel x) := by
  unfold Dev.queueItems
  dsimp only
  have key := r.sessions ((b.face.sessions.map (fun e =>
      if e.2.events && sel e.2 then ((e.1, (e.2.queueItem x).1), (e.2.queueItem x).2) else (e, false))).map (·.1)) (by
    simp only [List.map_map]
    apply List.map_congr_left
    intro e _
    simp only [Function.comp]
    split
    · simp [Session.queueItem_same]
    · rfl)
  exact .ite _ key (key.bumpSat R.IC_FRAME_DROPPED 0 0 _ (.inl icKey_dropped))

theorem Dev.Reported.notifyMark {a b : Dev} (r : Dev.Reported own a b) (m : Mark) (p : Bool) :
    Dev.Reported own a (b.notifyMark m p) := by
  unfold Dev.notifyMark
  have h1 : Dev.Reported own a (if bitOf (b.get R.EV_NOTIFY) m.island.code then b.raiseInt .ev 0 2 else b) :=
    .ite _ (r.raiseInt _ _ _ evKey_raw) r
  exact .ite _ (h1.queueItems _ _) h1

theorem Dev.Reported.repeatMain {a b : Dev} (r : Dev.Reported own a b) : Dev.Reported own a b.repeatMain := by
  unfold Dev.repeatMain
  refine Dev.Reported.bumpWrap ?_ R.EV_REPEAT_GEN 0 0 1 (.inl evKey_repeat)
  split <;> exact r.log rfl rfl rfl

theorem Dev.Reported.markPlinthNew {a b : Dev} (r : Dev.Reported own a b) (m : Mark) : Dev.Reported own a (b.markPlinthNew m) := by
  unfold Dev.markPlinthNew
  refine Dev.Reported.notifyMark ?_ _ _
  exact r.log rfl rfl rfl

theorem Dev.Reported.markPlinth {a b : Dev} (r : Dev.Reported own a b) (m : Mark) : Dev.Reported own a (b.markPlinth m) := by
  unfold Dev.markPlinth
  dsimp only
  split
  · refine .ite _ (Dev.Reported.bumpWrap ?_ R.EV_REPEAT_GEN 0 0 1 (.inl evKey_repeat)) (r.markPlinthNew m)
    exact r.log rfl rfl rfl
  · exact r.markPlinthNew m

theorem Dev.Reported.markMainNew {a b : Dev} (r : Dev.Reported own a b) (m : Mark) : Dev.Reported own a (b.markMainNew m) := by
  unfold Dev.markMainNew
  dsimp only
  refine Dev.Reported.notifyMark ?_ _ _
  have h0 : Dev.Reported own a { b with
      log := { b.log with markBuf := b.log.markBuf ++ [{ m with seq := b.log.markNext }], markNext := b.log.markNext + 1 } } :=
    r.log rfl rfl rfl
  have h1 := Dev.Reported.ite (b.log.markNext - b.log.markBase = 62914559)
    ((h0.set R.EV_STATUS_NEAR_FULL 1 0 0 (.inl evKey_near)).raiseInt .ev 0 3 evKey_raw) h0
  exact .ite _ ((h1.set R.EV_STATUS_FULL 1 0 0 (.inl evKey_full)).raiseInt .ev 0 4 evKey_raw) h1

theorem Dev.Reported.markDiverted {a b : Dev} (r : Dev.Reported own a b) (m : Mark) : Dev.Reported own a (b.markDiverted m) := by
  unfold Dev.markDiverted
  have h := r.bumpSat R.EV_LOST 0 0 1 (.inl evKey_lost)
  refine Dev.Reported.markPlinth (.ite _ h (Dev.Reported.raiseInt ?_ _ _ _ evKey_raw)) _
  exact h.log rfl rfl rfl

theorem Dev.Reported.markOnce {a b : Dev} (r : Dev.Reported own a b) (ev : Event) (isl : Island) (u p0 p1 p2 p3 : Nat) :
    Dev.Reported own a (b.markOnce ev isl u p0 p1 p2 p3) := by
  unfold Dev.markOnce
  dsimp only
  refine .ite _ (r.markPlinth _) ?_
  split
  · exact .ite _ r.repeatMain (.ite _ (r.markDiverted _) (r.markMainNew _))
  · exact .ite _ (r.markDiverted _) (r.markMainNew _)

theorem Dev.Reported.frameDropped {a b : Dev} (r : Dev.Reported own a b) : Dev.Reported own a b.frameDropped :=
  (r.raiseInt _ _ _ icKey_raw).markOnce _ _ _ _ _ _ _

/-- Recording an event is a report. -/
theorem Dev.Reported.mark {a b : Dev} (r : Dev.Reported own a b) (ev : Event) (isl : Island) (u p0 p1 p2 p3 : Nat) :
    Dev.Reported own a (b.mark ev isl u p0 p1 p2 p3) := by
  unfold Dev.mark
  have h := r.markOnce ev isl u p0 p1 p2 p3
  exact .ite _ h (.ite _ h.frameDropped h.frameDropped.frameDropped)

/-- A block event is a report. -/
theorem Dev.Reported.blockEvent {a b : Dev} (r : Dev.Reported own a b) (k : Blk) (i n : Nat)
    (h : markKey ((R.INT_RAW k).key i 0) ∨ own ((R.INT_RAW k).key i 0)) : Dev.Reported own a (b.blockEvent k i n) := by
  unfold Dev.blockEvent
  exact .ite _ ((r.raiseInt k i n h).mark _ _ _ _ _ _ _) (r.raiseInt k i n h)

/-- A refused access is a report. -/
theorem Dev.Reported.err {a b : Dev} (r : Dev.Reported own a b) (k : Blk) (i : Nat) (req : Requester) (st : Status)
    (h : ∀ key, reportKey key → own key) : Dev.Reported own a (b.err k i req st) := by
  unfold Dev.err
  have h1 := h _ (reportKey_err (R.ERR_ISLAND k) i rfl (by show 24 < 32; omega))
  have h2 := h _ (reportKey_err (R.ERR_COUNT k) i rfl (by show 16 < 32; omega))
  have h3 := h _ (reportKey_err (R.ERR_CODE k) i rfl (by show 0 < 32; omega))
  exact (((r.set _ _ i 0 (.inr h1)).bumpSat _ i 0 1 (.inr h2)).set _ _ i 0 (.inr h3)).blockEvent _ _ _
    (.inr (h _ (reportKey_raw k i)))

end Sys2Proof.Machine
end

