-- ==== Sys2Proof/Laws/Access.lean ====
section
/-! SUPPORT. Register accesses: the fields of a page stand at different places, and what a write or a read by field types
does to them. -/

namespace Sys2Proof.Machine

/-- The fields of a page kind stand at different places, inside the page and the word. -/
theorem Blk.places (b : Blk) : ((R.headerFields b ++ b.own).map Fld.place).Nodup := by
  cases b <;> decide +kernel

theorem Blk.bounds (b : Blk) : ∀ f ∈ R.headerFields b ++ b.own, f.off < 0x1000 ∧ f.lo < 32 ∧ f.blk = b := by
  cases b <;> decide +kernel

/-- A field's place in the register file decides its page, its place in the page and its repetition. -/
theorem Fld.key_inj (f g : Fld) (i j k l : Nat) (hf : f.off < 0x1000 ∧ f.lo < 32) (hg : g.off < 0x1000 ∧ g.lo < 32)
    (hk : k < 0x1000) (hl : l < 0x1000) (h : f.key i k = g.key j l) :
    f.blk.page i = g.blk.page j ∧ f.place = g.place ∧ k = l := by
  unfold Fld.key at h; unfold Fld.place; omega

/-! ## Writing fields -/

/-- A write by field types changes the register file alone. -/
theorem Dev.writeField_regs (d : Dev) (f : Fld) (i k v : Nat) :
    d.writeField f i k v = { d with regs := (d.writeField f i k v).regs } := by
  unfold Dev.writeField; cases f.kind <;> dsimp only <;> (repeat' split) <;> rfl

theorem Dev.writeField_look (d : Dev) (f : Fld) (i k v key : Nat) (h : f.key i k ≠ key) :
    Tab.look (d.writeField f i k v).regs.vals key = Tab.look d.regs.vals key := by
  unfold Dev.writeField Dev.stage; cases f.kind <;> dsimp only <;> (repeat' split) <;> simp [Dev.look_set, h]

/-- A fold of writes by field types changes the register file alone. -/
theorem Dev.foldWrites_regs (l : List (Fld × Nat)) (i v : Nat) (d : Dev) :
    l.foldl (fun a e => a.writeField e.1 i e.2 v) d =
      { d with regs := (l.foldl (fun a e => a.writeField e.1 i e.2 v) d).regs } := by
  induction l generalizing d with
  | nil => rfl
  | cons e l ih =>
    rw [List.foldl_cons, ih, Dev.writeField_regs]

theorem Dev.foldWrites_look (l : List (Fld × Nat)) (i v key : Nat) (d : Dev) (h : ∀ e ∈ l, e.1.key i e.2 ≠ key) :
    Tab.look (l.foldl (fun a e => a.writeField e.1 i e.2 v) d).regs.vals key = Tab.look d.regs.vals key := by
  induction l generalizing d with
  | nil => rfl
  | cons e l ih =>
    rw [List.foldl_cons, ih _ (fun x hx => h x (List.mem_cons_of_mem _ hx)),
      Dev.writeField_look _ _ _ _ _ _ (h e (by simp))]

/-- The fields of a register with their repetitions, in the order in which a write takes them. -/
def Dev.parts (d : Dev) (b : Blk) (i off : Nat) (sel : Fld → Bool) : List (Fld × Nat) :=
  ((b.fields i).filter sel).flatMap (fun f => (d.repsOf f off).map (fun k => (f, k)))

theorem Dev.writeFields_parts (d : Dev) (b : Blk) (i off v : Nat) (sel : Fld → Bool) :
    d.writeFields b i off v sel = (d.parts b i off sel).foldl (fun a e => a.writeField e.1 i e.2 v) d := by
  unfold Dev.writeFields Dev.parts
  generalize (b.fields i).filter sel = l
  have h (l : List Fld) (a : Dev) : l.foldl (fun a f => (d.repsOf f off).foldl (fun c k => c.writeField f i k v) a) a =
      (l.flatMap (fun f => (d.repsOf f off).map (fun k => (f, k)))).foldl (fun a e => a.writeField e.1 i e.2 v) a := by
    induction l generalizing a with
    | nil => rfl
    | cons f l ih => rw [List.flatMap_cons, List.foldl_append, List.foldl_cons, ih, List.foldl_map]
  exact h l d

theorem Blk.fields_sub (b : Blk) (i : Nat) : ∀ f ∈ b.fields i, f ∈ R.headerFields b ++ b.own := fun _ h =>
  (List.mem_filter.mp h).1

/-- Two fields of a page at one place are one field. -/
theorem Blk.place_inj (b : Blk) (i : Nat) (f g : Fld) (hf : f ∈ b.fields i) (hg : g ∈ b.fields i)
    (h : f.place = g.place) : f = g :=
  List.inj_on_of_nodup_map b.places (b.fields_sub i f hf) (b.fields_sub i g hg) h

/-! ## Parts, reads and the common header -/

/-- An index register selects a repetition within the page. -/
theorem Dev.index_lt (d : Dev) (f : Fld) : d.index f < 0x1000 := by
  unfold Dev.index
  split <;> first
    | (unfold Dev.get; exact lt_of_lt_of_le (Nat.mod_lt _ (by decide)) (by decide))
    | decide
    | (split
       · have h1 : d.get R.NF_ANCHOR_INDEX_ANCHOR < _ := Nat.mod_lt _ (by decide : 0 < R.NF_ANCHOR_INDEX_ANCHOR.bound)
         have h2 : d.get R.NF_ANCHOR_INDEX_WORD < _ := Nat.mod_lt _ (by decide : 0 < R.NF_ANCHOR_INDEX_WORD.bound)
         have e1 : R.NF_ANCHOR_INDEX_ANCHOR.bound ≤ 32 := by decide
         have e2 : R.NF_ANCHOR_INDEX_WORD.bound ≤ 64 := by decide
         omega
       · unfold Dev.get; exact lt_of_lt_of_le (Nat.mod_lt _ (by decide)) (by decide))

/-- A field has at most 4,096 repetitions. -/
theorem Blk.reps (b : Blk) : ∀ f ∈ R.headerFields b ++ b.own, (match f.rep with | .words n _ => n | .packed n => n | _ => 0) ≤ 0x1000 := by
  cases b <;> decide +kernel

/-- The repetitions in a register are within the page. -/
theorem Dev.reps_lt (d : Dev) (b : Blk) (i : Nat) (f : Fld) (hf : f ∈ b.fields i) (off k : Nat) (hk : k ∈ d.repsOf f off) : k < 0x1000 := by
  have h := Blk.reps b f (Blk.fields_sub b i f hf)
  unfold Dev.repsOf at hk
  cases hr : f.rep <;> rw [hr] at hk h <;> dsimp only at hk h
  · split at hk <;> simp_all
  · split at hk <;> simp_all; omega
  · split at hk <;> simp_all; omega
  · split at hk <;> simp_all
    exact Dev.index_lt d f

/-- What the parts of a register are. -/
theorem Dev.parts_mem {d : Dev} {b : Blk} {i off : Nat} {sel : Fld → Bool} {e : Fld × Nat} (h : e ∈ d.parts b i off sel) :
    e.1 ∈ b.fields i ∧ sel e.1 = true ∧ e.2 ∈ d.repsOf e.1 off ∧ e.2 < 0x1000 := by
  unfold Dev.parts at h
  simp only [List.mem_flatMap, List.mem_filter, List.mem_map] at h
  obtain ⟨f, ⟨h1, h2⟩, k, h3, rfl⟩ := h
  exact ⟨h1, h2, h3, Dev.reps_lt d b i f h1 off k h3⟩

/-- Two fields of a page at one place of the register file are one field and one repetition. -/
theorem Blk.key_inj {b : Blk} {i : Nat} {f g : Fld} {k l : Nat} (hf : f ∈ b.fields i) (hg : g ∈ b.fields i)
    (hk : k < 0x1000) (hl : l < 0x1000) (h : f.key i k = g.key i l) : f = g ∧ k = l := by
  have bf := Blk.bounds b f (b.fields_sub i f hf)
  have bg := Blk.bounds b g (b.fields_sub i g hg)
  have := Fld.key_inj f g i i k l ⟨bf.1, bf.2.1⟩ ⟨bg.1, bg.2.1⟩ hk hl h
  exact ⟨b.place_inj i f g hf hg this.2.1, this.2.2⟩

/-- A write of a writable field that takes effect at once. -/
theorem Dev.writeField_plain (d : Dev) (f : Fld) (i k v : Nat) (hs : f.staged = false) (hw : d.writable f i = true) :
    (d.writeField f i k v) = d.set f (f.of v k) i k := by
  have : f.kind = .rw ∨ f.kind = .rwl := by
    unfold Dev.writable at hw; cases h : f.kind <;> simp_all
  unfold Dev.writeField
  rcases this with h | h <;> simp [h, hs, hw]

/-- A written word gives a field no more than it holds. -/
theorem Fld.of_mod (f : Fld) (v k : Nat) : f.of v k % f.bound = f.of v k := by unfold Fld.of; simp

/-- A write by field types gives a writable field its bits of the word. -/
theorem Dev.foldWrites_get (l : List (Fld × Nat)) (b : Blk) (i v : Nat) (f : Fld) (k : Nat) (d : Dev)
    (hl : ∀ e ∈ l, e.1 ∈ b.fields i ∧ e.2 < 0x1000 ∧ e.1 ≠ R.LOCK b) (hf : f ∈ b.fields i) (hk : k < 0x1000) (hm : (f, k) ∈ l)
    (hs : f.staged = false) (hw : d.writable f i = true) :
    (l.foldl (fun a e => a.writeField e.1 i e.2 v) d).get f i k = f.of v k := by
  induction l generalizing d with
  | nil => simp at hm
  | cons e l ih =>
    rw [List.foldl_cons]
    by_cases hin : (f, k) ∈ l
    · apply ih _ (fun x hx => hl x (by simp [hx])) hin
      unfold Dev.writable at hw ⊢
      have he := hl e (by simp)
      have hb := Blk.bounds b f (b.fields_sub i f hf)
      have : (d.writeField e.1 i e.2 v).on (R.LOCK f.blk) i = d.on (R.LOCK f.blk) i := by
        unfold Dev.on
        rw [Dev.get_congr]
        apply Dev.writeField_look
        intro h
        rw [hb.2.2] at h
        have be := Blk.bounds b e.1 (b.fields_sub i _ he.1)
        have := Fld.key_inj _ _ _ _ _ _ ⟨be.1, be.2.1⟩ ⟨(by show 0x01C < 0x1000; decide), (by show 0 < 32; decide)⟩ he.2.1 (by decide) h
        apply he.2.2
        exact List.inj_on_of_nodup_map b.places (b.fields_sub i _ he.1) (by simp [R.headerFields]) this.2.1
      rw [this]; exact hw
    · have : (f, k) = e := by simpa [hin] using hm
      subst this
      have h1 : Tab.look (l.foldl (fun a e => a.writeField e.1 i e.2 v) (d.writeField f i k v)).regs.vals (f.key i k) =
          Tab.look (d.writeField f i k v).regs.vals (f.key i k) := by
        apply Dev.foldWrites_look
        intro x hx h
        have := Blk.key_inj (hl x (by simp [hx])).1 hf (hl x (by simp [hx])).2.1 hk h
        apply hin; rw [← this.1, ← this.2]; exact hx
      rw [Dev.get_congr h1, Dev.writeField_plain d f i k v hs hw, Dev.get_set_self, Fld.of_mod]

/-- LOCK stands in no register from 0x040 on. -/
theorem Dev.parts_off {d : Dev} {b : Blk} {i off : Nat} {sel : Fld → Bool} {e : Fld × Nat} (h : e ∈ d.parts b i off sel) (ho : 0x040 ≤ off) :
    e.1 ≠ R.LOCK b := by
  intro he
  have := (Dev.parts_mem h).2.2.1
  rw [he] at this
  have h2 : ¬ (R.LOCK b).off = off := by show ¬ 0x01C = off; omega
  have h3 : d.repsOf (R.LOCK b) off = if (R.LOCK b).off = off then [0] else [] := rfl
  rw [h3, if_neg h2] at this
  simp at this

/-- A field of a page instance lies in that page. -/
theorem Blk.key_page {b : Blk} {i k : Nat} {f : Fld} (hf : f ∈ b.fields i) (hk : k < 0x1000) : f.key i k / 0x20000000 = b.page i := by
  have hb := Blk.bounds b f (b.fields_sub i f hf)
  rw [Fld.key_page f i k hb.1 hb.2.1 hk, hb.2.2]

/-- Clearing fields leaves the others. -/
theorem Dev.clear_look (l : List (Fld × Nat)) (i key : Nat) (d : Dev) (h : ∀ e ∈ l, e.1.key i e.2 ≠ key) :
    Tab.look (l.foldl (fun a e => a.set e.1 0 i e.2) d).regs.vals key = Tab.look d.regs.vals key := by
  induction l generalizing d with
  | nil => rfl
  | cons e l ih =>
    rw [List.foldl_cons, ih _ (fun x hx => h x (List.mem_cons_of_mem _ hx)), Dev.look_set _ _ _ _ _ _ (h e (by simp))]

/-- A cleared field is 0. -/
theorem Dev.clear_zero (l : List (Fld × Nat)) (i : Nat) (f : Fld) (k : Nat) (d : Dev) (h : (f, k) ∈ l)
    (hi : ∀ e ∈ l, e.1.key i e.2 = f.key i k → e = (f, k)) :
    (l.foldl (fun a e => a.set e.1 0 i e.2) d).get f i k = 0 := by
  induction l using List.reverseRecOn generalizing d with
  | nil => simp at h
  | append_singleton l e ih =>
    rw [List.foldl_append, List.foldl_cons, List.foldl_nil]
    by_cases he : e = (f, k)
    · subst he; rw [Dev.get_set_self]; simp
    · have hk : e.1.key i e.2 ≠ f.key i k := fun hk => he (hi e (by simp) hk)
      rw [Dev.get_set_ne _ _ _ _ _ _ _ _ hk]
      apply ih
      · simp at h; rcases h with h | h
        · exact h
        · exact absurd h.symm he
      · intro x hx; exact hi x (by simp [hx])

/-- The fields that a read clears. -/
theorem Dev.clearRc_parts (d : Dev) (b : Blk) (i off : Nat) :
    d.clearRc b i off = (d.parts b i off (fun f => f.kind = .rc)).foldl (fun a e => a.set e.1 0 i e.2) d := by
  unfold Dev.clearRc Dev.parts
  generalize (b.fields i).filter _ = l
  have h (l : List Fld) (a : Dev) : l.foldl (fun a f => (d.repsOf f off).foldl (fun c k => c.set f 0 i k) a) a =
      (l.flatMap (fun f => (d.repsOf f off).map (fun k => (f, k)))).foldl (fun a e => a.set e.1 0 i e.2) a := by
    induction l generalizing a with
    | nil => rfl
    | cons f l ih => rw [List.flatMap_cons, List.foldl_append, List.foldl_cons, ih, List.foldl_map]
  exact h l d

/-- A read latches registers of three pages only. -/
theorem Dev.latch_get (d : Dev) (b : Blk) (i off : Nat) (f : Fld) (k : Nat)
    (hb : b ≠ .sc ∧ b ≠ .ks ∧ b ≠ .ev) : (d.latch b i off).get f i k = d.get f i k := by
  unfold Dev.latch; split <;> simp_all

/-- A write of one field of a page leaves its other fields. -/
theorem Dev.set_keep (d : Dev) (b : Blk) (g f : Fld) (v i k : Nat) (hg : g ∈ R.headerFields b ++ b.own) (hf : f ∈ R.headerFields b ++ b.own)
    (hk : k < 0x1000) (hne : g ≠ f) : (d.set g v i).get f i k = d.get f i k := by
  apply Dev.get_set_ne
  intro h
  have bf := Blk.bounds b f hf
  have bg := Blk.bounds b g hg
  have := Fld.key_inj g f i i 0 k ⟨bg.1, bg.2.1⟩ ⟨bf.1, bf.2.1⟩ (by decide) hk h
  exact hne (List.inj_on_of_nodup_map b.places hg hf this.2.1)

/-- A read latches no RC field. -/
theorem Dev.latch_rc (d : Dev) (b : Blk) (i off : Nat) (f : Fld) (k : Nat) (hf : f ∈ R.headerFields b ++ b.own) (hk : k < 0x1000)
    (hrc : f.kind = .rc) (h0 : b = .sc ∨ b = .ev → i = 0) : (d.latch b i off).get f i k = d.get f i k := by
  unfold Dev.latch
  split
  · split
    · obtain rfl := h0 (by simp)
      exact Dev.set_keep _ .sc _ _ _ _ _ (by decide +kernel) hf hk (by rintro rfl; cases hrc)
    · rfl
  · split
    · exact Dev.set_keep _ .ks _ _ _ _ _ (by decide +kernel) hf hk (by rintro rfl; cases hrc)
    · rfl
  · obtain rfl := h0 (by simp)
    split
    · exact Dev.set_keep _ .ev _ _ _ _ _ (by decide +kernel) hf hk (by rintro rfl; cases hrc)
    · split
      · exact Dev.set_keep _ .ev _ _ _ _ _ (by decide +kernel) hf hk (by rintro rfl; cases hrc)
      · split
        · exact Dev.set_keep _ .ev _ _ _ _ _ (by decide +kernel) hf hk (by rintro rfl; cases hrc)
        · rfl
  · rfl

/-- The SC and the EV page have one instance. -/
theorem targetOf_single {a : Nat} {b : Blk} {i off : Nat} (h : targetOf a = .reg b i off) (hb : b = .sc ∨ b = .ev) : i = 0 := by
  unfold targetOf at h
  simp only at h
  split at h
  · cases h
  · split at h
    · split at h <;> (try split at h) <;> simp_all
      all_goals (obtain ⟨rfl, _⟩ := h; simp at hb)
    · have hm (c : Blk) (hc : c = .sc ∨ c = .ev) (x : Nat × Nat) : managerPage (a / 0x1000) = some (c, i) → i = 0 := by
        unfold managerPage
        intro h
        cases hq : Blk.managerKinds.find? (fun b => decide (b.basePage ≤ a / 4096) && decide (a / 4096 < b.basePage + b.pages)) with
        | none => rw [hq] at h; simp at h
        | some y =>
          rw [hq] at h
          have hy := List.find?_some hq
          simp at h hy
          obtain ⟨rfl, rfl⟩ := h
          rcases hc with rfl | rfl
          · have e1 : Blk.sc.pages = 1 := by decide
            omega
          · have e1 : Blk.ev.pages = 1 := by decide
            omega
      split at h
      · cases h
      · split at h
        · cases h; simp at hb
        · split at h
          · cases h; simp at hb
          · cases h; simp at hb
      · cases h
        rename_i hp
        exact hm _ hb (0, 0) hp

/-- A read latches registers alone. -/
theorem Dev.latch_regs (d : Dev) (b : Blk) (i off : Nat) : (d.latch b i off) = { d with regs := (d.latch b i off).regs } := by
  unfold Dev.latch; split <;> (try split) <;> (try split) <;> (try split) <;> rfl

/-- Clearing fields changes the register file alone. -/
theorem Dev.clear_regs (l : List (Fld × Nat)) (i : Nat) (d : Dev) :
    (l.foldl (fun a e => a.set e.1 0 i e.2) d) = { d with regs := (l.foldl (fun a e => a.set e.1 0 i e.2) d).regs } := by
  induction l generalizing d with
  | nil => rfl
  | cons e l ih => rw [List.foldl_cons, ih]; rfl

/-- Taking the bits of a mask out of a number. -/
theorem testBit_sub_and (a v n : Nat) : (a - (a &&& v)).testBit n = (a.testBit n && !v.testBit n) := by
  have key (a v : Nat) : (a &&& v) = 2 * (a / 2 &&& v / 2) + (if a % 2 = 1 ∧ v % 2 = 1 then 1 else 0) := by
    have h1 : (a &&& v) / 2 = (a / 2 &&& v / 2) := by
      apply Nat.eq_of_testBit_eq; intro k
      rw [← Nat.testBit_add_one, Nat.testBit_and, Nat.testBit_and, Nat.testBit_add_one, Nat.testBit_add_one]
    have h2 : (a &&& v) % 2 = if a % 2 = 1 ∧ v % 2 = 1 then 1 else 0 := by
      have := Nat.testBit_and a v 0
      simp only [Nat.testBit_zero] at this
      have h3 := Nat.mod_two_eq_zero_or_one (a &&& v)
      rcases h3 with h | h <;> rw [h] at this ⊢ <;> split <;> simp_all
    omega
  induction n generalizing a v with
  | zero =>
    have h := key a v
    have hle := Nat.and_le_left (n := a / 2) (m := v / 2)
    simp only [Nat.testBit_zero]
    split at h <;> rename_i hc
    · have : (a - (a &&& v)) % 2 = 0 := by omega
      simp [this, hc]
    · have : (a - (a &&& v)) % 2 = a % 2 := by omega
      rw [this]
      rcases Nat.mod_two_eq_zero_or_one a with h1 | h1 <;> rcases Nat.mod_two_eq_zero_or_one v with h2 | h2 <;> rw [h1, h2] at hc <;> rw [h1, h2] <;> first | rfl | exact absurd ⟨rfl, rfl⟩ hc
  | succ n ih =>
    rw [Nat.testBit_add_one, Nat.testBit_add_one, Nat.testBit_add_one, ← ih]
    have h := key a v
    have hle := Nat.and_le_left (n := a / 2) (m := v / 2)
    congr 1
    split at h <;> omega

/-- Marking a vector changes IC_MSGS alone. -/
theorem Dev.markIrq_look (d : Dev) (n key : Nat) (h : R.IC_MSGS.key 0 0 ≠ key) : Tab.look (d.markIrq n).regs.vals key = Tab.look d.regs.vals key := by
  unfold Dev.markIrq
  dsimp only
  split
  · split
    · unfold Dev.sendVector; simp only [Dev.send, Dev.bumpSat]
      rw [Dev.look_set _ _ _ _ _ _ h]
    · rfl
  · rfl

/-- Marking vectors changes IC_MSGS alone. -/
theorem Dev.markIrqs_look (l : List Nat) (c : Dev → Nat → Bool) (d : Dev) (key : Nat) (h : R.IC_MSGS.key 0 0 ≠ key) :
    Tab.look (l.foldl (fun a n => if c a n then a.markIrq n else a) d).regs.vals key = Tab.look d.regs.vals key := by
  induction l generalizing d with
  | nil => rfl
  | cons n l ih =>
    rw [List.foldl_cons, ih]
    split
    · exact Dev.markIrq_look _ _ _ h
    · rfl

/-- IC_MSGS is no register of the common header. -/
theorem R.msgs_key (f : Fld) (i : Nat) (h : f.off < 0x40 ∧ f.lo < 32) : R.IC_MSGS.key 0 0 ≠ f.key i 0 := by
  intro e
  have := Fld.key_inj _ _ _ _ _ _ (by decide) ⟨by omega, h.2⟩ (by decide) (by decide) e
  have h2 := this.2.1
  unfold Fld.place at h2
  have h3 : R.IC_MSGS.off ≥ 0x40 := by decide
  omega

/-- The manager's ring block has no common header. -/
theorem targetOf_header {pg off : Nat} {b : Blk} {i : Nat} (hoff : off < 0x040) (h : targetOf (pg * 0x1000 + off) = .reg b i off) :
    ¬ ((b = .hq ∨ b = .hqd) ∧ i = 256 ∧ off < 0x040) := by
  rintro ⟨hb, rfl, -⟩
  unfold targetOf at h
  have h1 : (pg * 0x1000 + off) % 0x1000 = off := by omega
  simp only [h1] at h
  split at h
  · cases h
  · split at h
    · split at h <;> (try split at h) <;> simp_all
      all_goals omega
    · split at h
      · cases h
      · split at h
        · omega
        · split at h
          · omega
          · simp at h; rcases hb with rfl | rfl <;> simp at h
      · rename_i b' i' _ hp
        cases h
        unfold managerPage at hp
        have : (fun x => some x) = (fun x : Blk × Nat => some x) := rfl
        cases hq : Blk.managerKinds.find? (fun b => decide (b.basePage ≤ (pg * 0x1000 + off) / 4096) && decide ((pg * 0x1000 + off) / 4096 < b.basePage + b.pages)) with
        | none => rw [hq] at hp; simp at hp
        | some y =>
          rw [hq] at hp
          have hm := List.mem_of_find?_eq_some hq
          simp at hp
          rw [hp.1] at hm
          rcases hb with rfl | rfl <;> revert hm <;> decide

end Sys2Proof.Machine
end

