-- ==== Sys2Proof/Laws/Memory.lean ====
section
/-! SUPPORT. HBM: every operation on it keeps its canonical form, a write is read back, and it leaves every other byte as
it was. -/

namespace Sys2Proof.Machine

/-- A fold of writes keeps the canonical form. -/
theorem Memory.wf_fold (l : List (Byte × Nat)) (addr : Nat) (m : Tab Byte) (h : Memory.wf m = true) :
    Memory.wf (l.foldl (fun t e => Tab.set t (addr + e.2) 0 e.1) m) = true := by
  induction l generalizing m with
  | nil => exact h
  | cons e l ih => exact ih _ (Tab.wf_set m (fun _ => 0) (addr + e.2) e.1 h)

/-- A write of bytes keeps the canonical form. -/
theorem Memory.wf_write (m : Tab Byte) (addr : Nat) (b : Bytes) (h : Memory.wf m = true) :
    Memory.wf (Memory.write m addr b) = true := Memory.wf_fold _ _ _ h

/-- A fold of writes whose places do not include an address leaves its byte. -/
theorem Memory.get_fold (l : List (Byte × Nat)) (addr k : Nat) (m : Tab Byte) (h : ∀ e ∈ l, addr + e.2 ≠ k) :
    Tab.get (l.foldl (fun t e => Tab.set t (addr + e.2) 0 e.1) m) k 0 = Tab.get m k 0 := by
  induction l generalizing m with
  | nil => rfl
  | cons e l ih =>
    rw [List.foldl_cons, ih _ (fun x hx => h x (List.mem_cons_of_mem _ hx))]
    have he : addr + e.2 ≠ k := h e (by simp)
    simp [Tab.get, Tab.look_set, he]

/-- A write of bytes leaves every byte outside them. -/
theorem Memory.get_write (m : Tab Byte) (addr k : Nat) (b : Bytes) (h : k < addr ∨ addr + b.length ≤ k) :
    Tab.get (Memory.write m addr b) k 0 = Tab.get m k 0 := by
  refine Memory.get_fold _ _ _ _ (fun e he => ?_)
  have := List.snd_lt_of_mem_zipIdx he
  omega

/-- Answers leave HBM as it is. -/
theorem Dev.respond_hbm (d : Dev) (a : Access) (st : Status) (n : Nat) : (d.respond a st n).hbm = d.hbm := by
  unfold Dev.respond; (repeat' split) <;> rfl

theorem Dev.joinHalf_hbm (d : Dev) (id : Nat) (up : Bool) (x : Answer) : (d.joinHalf id up x).hbm = d.hbm := by
  unfold Dev.joinHalf
  split
  · rfl
  · dsimp only
    split
    · exact Dev.respond_hbm _ _ _ _
    · rfl

theorem Dev.answerTo_hbm (d : Dev) (a : Access) (st : Status) (n : Nat) : (d.answerTo a st n).hbm = d.hbm := by
  unfold Dev.answerTo
  split
  · exact Dev.joinHalf_hbm _ _ _ _
  · exact Dev.respond_hbm _ _ _ _

/-- An access to HBM keeps its canonical form. -/
theorem Dev.hbmAccess_wf (d : Dev) (g : Nat) (a : Access) (h : Memory.wf d.hbm = true) :
    Memory.wf (d.hbmAccess g a).hbm = true := by
  unfold Dev.hbmAccess
  split <;> simp only [Dev.answerTo_hbm, Dev.occur_hbm]
  · exact h
  · exact h
  · exact Memory.wf_write _ _ _ h

/-- HBM after reset is in canonical form. -/
theorem Memory.wf_reset : Memory.wf State.reset.dev.hbm = true := rfl

end Sys2Proof.Machine
end

