-- ==== Sys2Proof/Laws/Perm.lean ====
section
/-! SUPPORT. What the commands that touch the permanent state do to it: OTP bits and fuses are only ever programmed, and the
response level falls only where TM_RESUME is written. -/

namespace Sys2Proof.Machine

theorem Perm.Ahead.refl (p : Perm) : p.Ahead p := ⟨fun _ _ h => h, fun _ h => h, le_refl _⟩

theorem Perm.Ahead.trans {p q r : Perm} (h : p.Ahead q) (g : q.Ahead r) : p.Ahead r :=
  ⟨fun w n x => g.otp w n (h.otp w n x), fun s x => g.fuses s (h.fuses s x), le_trans h.level g.level⟩

theorem Perm.Keeps.refl (p : Perm) : p.Keeps p := ⟨fun _ _ h => h, fun _ h => h, fun h => h⟩

theorem Perm.Keeps.trans {p q r : Perm} (h : p.Keeps q) (g : q.Keeps r) : p.Keeps r :=
  ⟨fun w n x => g.otp w n (h.otp w n x), fun s x => g.fuses s (h.fuses s x), fun x => g.top (h.top x)⟩

theorem Perm.Ahead.keeps {p q : Perm} (h : p.Ahead q) : p.Keeps q :=
  ⟨h.otp, h.fuses, fun x => le_trans x h.level⟩

/-! ## Programming (R449) -/

/-- A word of OTP after one is programmed. -/
theorem Perm.otpWord_program (p : Perm) (w v k : Nat) :
    (p.program w v).otpWord k = if w = k then p.otpWord w ||| v else p.otpWord k := by
  simp only [Perm.otpWord, Perm.program, Tab.get_set]

theorem Perm.ahead_program (p : Perm) (w v : Nat) : p.Ahead (p.program w v) := by
  refine ⟨fun k n h => ?_, fun _ h => h, le_refl _⟩
  rw [Perm.otpWord_program]
  split
  · rename_i e; subst e; rw [Nat.testBit_or, h]; rfl
  · exact h

theorem Perm.ahead_same (p q : Perm) (h1 : q.otp = p.otp) (h2 : q.fuses = p.fuses) (h3 : p.level ≤ q.level) :
    p.Ahead q := by
  refine ⟨fun w n h => ?_, fun s h => by rw [h2]; exact h, h3⟩
  simpa [Perm.otpWord, h1] using h

/-! ## Tamper events (R414 to R421, R427) -/

theorem Dev.raiseLevel_ahead (d : Dev) (p : Perm) (n : Nat) : p.Ahead (d.raiseLevel p n).1 := by
  unfold Dev.raiseLevel
  split
  · exact .refl p
  · exact Perm.ahead_same _ _ rfl rfl (by dsimp only; omega)

theorem Dev.fireCell_ahead (d : Dev) (p : Perm) (s l : Nat) : p.Ahead (d.fireCell p s l).1 := by
  unfold Dev.fireCell
  dsimp only
  split
  · exact Dev.raiseLevel_ahead _ p _
  · split
    · exact Dev.raiseLevel_ahead _ p _
    · exact .refl p

theorem Dev.fire_ahead (d : Dev) (p : Perm) (s n r : Nat) : p.Ahead (d.fire p s n r).1 := by
  unfold Dev.fire
  dsimp only
  split
  · exact Dev.raiseLevel_ahead _ p _
  · exact Dev.fireCell_ahead _ p _ _

theorem Dev.countEvent_ahead (d : Dev) (p : Perm) (s t r : Nat) : p.Ahead (d.countEvent p s t r).1 := by
  unfold Dev.countEvent
  dsimp only
  split
  · exact Dev.fire_ahead _ p _ _ _
  · exact .refl p

/-- A sensor's event only raises the response level. -/
theorem Dev.sensorEvent_ahead (d : Dev) (p : Perm) (s t r : Nat) (l : Bool) : p.Ahead (d.sensorEvent p s t r l).1 := by
  unfold Dev.sensorEvent
  split
  · exact .refl p
  · dsimp only
    split
    · exact Dev.countEvent_ahead _ p _ _ _
    · exact .refl p

theorem tamperEvent_ahead (s t r : Nat) (l : Bool) (p : Perm) (d : Dev) : p.Ahead (tamperEvent s t r l p d).1 :=
  Dev.sensorEvent_ahead _ p _ _ _ _

theorem Dev.sensorEvents_ahead (l : List (Nat × Nat × Bool)) (t : Nat) (r : Perm × Dev) :
    r.1.Ahead (Dev.sensorEvents r t l).1 := by
  unfold Dev.sensorEvents
  induction l generalizing r with
  | nil => exact .refl _
  | cons x l ih => exact (Dev.sensorEvent_ahead r.2 r.1 _ _ _ _).trans (ih _)

theorem temperatureSample_ahead (t0 t1 t2 : Int) (t : Nat) (p : Perm) (d : Dev) :
    p.Ahead (temperatureSample t0 t1 t2 t p d).1 := by
  unfold temperatureSample
  exact Dev.sensorEvents_ahead _ _ (p, _)

theorem meshPatternChange_ahead (x t : Nat) (p : Perm) (d : Dev) : p.Ahead (meshPatternChange x t p d).1 := by
  unfold meshPatternChange
  split
  · exact Dev.sensorEvents_ahead _ _ (p, d)
  · exact .refl p

theorem shareEraseDone_ahead (p : Perm) (d : Dev) : p.Ahead (shareEraseDone p d).1 := by
  unfold shareEraseDone
  split
  · exact Perm.ahead_same _ _ rfl rfl (le_refl _)
  · exact .refl p

theorem fuseDone_ahead (p : Perm) (d : Dev) : p.Ahead (fuseDone p d).1 := by
  unfold fuseDone
  split
  · exact .refl p
  · refine ⟨fun _ _ h => h, fun s h => ?_, le_refl _⟩
    rename_i f _
    by_cases e : s = f
    · subst e; simp
    · simp [h, e]

/-- A write of TM_RESUME lowers the response level from 1, 2 or 3 only (R424). -/
theorem tmResume_keeps (req : Requester) (v : Nat) (p : Perm) (d : Dev) : p.Keeps (tmResume req v p d).1 := by
  unfold tmResume
  split
  · exact .refl p
  · split
    · rename_i h
      have top : 4 ≤ p.level → 4 ≤ (0 : Nat) := fun x => by omega
      dsimp only
      split <;> exact ⟨fun _ _ x => x, fun _ x => x, top⟩
    · exact .refl p

/-! ## The life cycle (R443, R444, R455) -/

theorem lcTransitionRequest_ahead (v : Nat) (p : Perm) (d : Dev) : p.Ahead (lcTransitionRequest v p d).1 := by
  unfold lcTransitionRequest
  dsimp only
  split
  · exact .refl p
  · split
    · exact .refl p
    · exact Perm.ahead_program _ _ _

theorem analysisStep_ahead (k : Nat) (p : Perm) (d : Dev) : p.Ahead (analysisStep k p d).1 := by
  unfold analysisStep
  split <;> exact Perm.ahead_same _ _ rfl rfl (le_refl _)

theorem provisionStep_ahead (k : Nat) (p : Perm) (d : Dev) : p.Ahead (provisionStep k p d).2.1 := by
  unfold provisionStep
  split
  case h_3 => split <;> exact Perm.ahead_same _ _ rfl rfl (le_refl _)
  all_goals exact .refl p

theorem Dev.lcStep_ahead (d : Dev) (p : Perm) (t k : Nat) (ok : Bool) : p.Ahead (d.lcStep p t k ok).2.1 := by
  unfold Dev.lcStep
  split
  · exact .refl p
  · split
    · exact .refl p
    · exact provisionStep_ahead k p d
    · exact .refl p
    · exact .refl p
    · exact .refl p
    · exact analysisStep_ahead k p d

theorem Dev.lcFinish_ahead (d : Dev) (p : Perm) (t : Nat) : p.Ahead (d.lcFinish p t).1 :=
  Perm.ahead_program _ _ _

theorem lcStepDone_ahead (ok : Bool) (p : Perm) (d : Dev) : p.Ahead (lcStepDone ok p d).1 := by
  unfold lcStepDone
  split
  · exact .refl p
  · split
    · exact Dev.lcFinish_ahead _ _ _
    · rename_i t _ _ k _
      have h := Dev.lcStep_ahead d p t.target k ok
      split
      · rename_i e; rw [e] at h; exact h
      · rename_i e; rw [e] at h
        dsimp only
        split
        · exact (h.trans (Perm.ahead_program _ _ _)).trans (Dev.lcFinish_ahead _ _ _)
        · exact h.trans (Perm.ahead_program _ _ _)

theorem Dev.debugRefused_ahead (d : Dev) (p : Perm) (t : Nat) : p.Ahead (d.debugRefused p t).1 :=
  Dev.sensorEvent_ahead _ p _ _ _ _

theorem tapSelect_ahead (i : TapIns) (t : Nat) (p : Perm) (d : Dev) : p.Ahead (tapSelect i t p d).1 := by
  unfold tapSelect
  split
  · exact .refl p
  · exact Dev.debugRefused_ahead _ p t

theorem Dev.gateRefuse_ahead (d : Dev) (p : Perm) (g : Nat) (a : Access) (k r t : Nat) :
    p.Ahead (d.gateRefuse p g a k r t).1 := by
  unfold Dev.gateRefuse
  dsimp only
  split
  · exact Dev.debugRefused_ahead _ p t
  · exact .refl p

/-! ## The Keystones (R479 to R486) -/

theorem Dev.ksFail_ahead (d : Dev) (p : Perm) (u c t : Nat) : p.Ahead (d.ksFail p u c t).1 := by
  unfold Dev.ksFail
  dsimp only
  split
  · exact .refl p
  · split
    · exact .refl p
    · split
      · exact Dev.sensorEvent_ahead _ p _ _ _ _
      · exact .refl p

theorem Dev.compareDigest_ahead (t : Nat) (r : Perm × Dev) (x : Nat) : r.1.Ahead (Dev.compareDigest t r x).1 := by
  unfold Dev.compareDigest
  dsimp only
  split
  · split
    · exact .refl _
    · exact Dev.ksFail_ahead _ _ _ _ _
  · exact .refl _

theorem Dev.compareDigests_ahead (l : List Nat) (t : Nat) (r : Perm × Dev) :
    r.1.Ahead (l.foldl (Dev.compareDigest t) r).1 := by
  induction l generalizing r with
  | nil => exact .refl _
  | cons x l ih => exact (Dev.compareDigest_ahead t r x).trans (ih _)

theorem keystoneInput_ahead (x : Nat) (l : List Nat) (t : Nat) (p : Perm) (d : Dev) :
    p.Ahead (keystoneInput x l t p d).1 := by
  unfold keystoneInput
  dsimp only
  split
  · exact .refl p
  · split
    · exact .refl p
    · split
      · exact (Dev.compareDigests_ahead l t (p, _)).trans (Dev.ksFail_ahead _ _ _ _ _)
      · exact Dev.compareDigests_ahead l t (p, _)

theorem heartbeatWindow_ahead (a b c e : Bool) (t : Nat) (p : Perm) (d : Dev) :
    p.Ahead (heartbeatWindow a b c e t p d).1 := by
  have h (l : List Nat) (r : Perm × Dev) : r.1.Ahead (l.foldl (fun r u => r.2.ksFail r.1 u 1 t) r).1 := by
    induction l generalizing r with
    | nil => exact .refl _
    | cons x l ih => exact (Dev.ksFail_ahead r.2 r.1 _ _ _).trans (ih _)
  unfold heartbeatWindow
  exact h _ (p, _)

/-! ## Power and start (R429, R450, R505, R506) -/

theorem mainPowerUp_ahead (p : Perm) (d : Dev) : p.Ahead (mainPowerUp p d).1 := by
  unfold mainPowerUp
  split
  · exact .refl p
  · exact Perm.ahead_same _ _ rfl rfl (le_max_left _ _)

theorem Dev.lcResume_ahead (d : Dev) (p : Perm) (t : Nat) : p.Ahead (d.lcResume p t).1 := Perm.ahead_program _ _ _

theorem Dev.holdModule_ahead (d : Dev) (p : Perm) (n : Nat) (f : StartFindings) (t : Nat) :
    p.Ahead (d.holdModule p n f t).1 := Dev.sensorEvent_ahead _ p _ _ _ _

theorem Dev.attempt_ahead (d : Dev) (p : Perm) (f : StartFindings) (t : Nat) : p.Ahead (d.attempt p f t).1 := by
  unfold Dev.attempt
  dsimp only
  split
  · exact Dev.lcResume_ahead _ p _
  · exact Dev.holdModule_ahead _ p _ _ _
  · split
    · exact .refl p
    · split <;> exact .refl p

theorem startAttempt_ahead (f : StartFindings) (t : Nat) (p : Perm) (d : Dev) : p.Ahead (startAttempt f t p d).1 := by
  unfold startAttempt
  split
  · exact Dev.attempt_ahead _ p f t
  · exact .refl p

theorem startRetry_ahead (f : StartFindings) (t : Nat) (p : Perm) (d : Dev) : p.Ahead (startRetry f t p d).1 := by
  unfold startRetry
  split
  · exact Dev.attempt_ahead _ p f t
  · exact .refl p

theorem Dev.onCell_ahead (d : Dev) (p : Perm) (t : Nat) : p.Ahead (d.onCell p t).1 := by
  unfold Dev.onCell
  dsimp only
  split
  · exact Dev.sensorEvent_ahead _ p _ _ _ _
  · exact .refl p

theorem powerLoss_ahead (n t : Nat) (p : Perm) (d : Dev) : p.Ahead (powerLoss n t p d).1 := by
  unfold powerLoss
  dsimp only
  split
  · exact .refl p
  · split
    · exact .refl p
    · exact Dev.onCell_ahead _ p _

theorem vinAuxChange_ahead (u : Bool) (t : Nat) (p : Perm) (d : Dev) : p.Ahead (vinAuxChange u t p d).1 := by
  unfold vinAuxChange
  dsimp only
  split
  · exact .refl p
  · split
    · exact .refl p
    · split
      · exact .refl p
      · exact Dev.onCell_ahead _ p _

/-! ## Accesses (R7, R47, R353, R455) -/

theorem mgmtWrite_keeps (req : Requester) (b : Blk) (i off v : Nat) (p : Perm) (d : Dev) :
    ∀ r, mgmtWrite req b i off v p d = some r → p.Keeps r.1 := by
  intro r h
  unfold mgmtWrite at h
  dsimp only at h
  split at h <;> try (simp only [Option.some.injEq] at h; subst h)
  all_goals first
    | exact .refl p
    | exact (lcTransitionRequest_ahead _ p d).keeps
    | (split at h <;> (simp only [Option.some.injEq] at h; subst h; exact .refl p))
    | simp at h

theorem blockWrite_keeps (req : Requester) (pasid : Option Nat) (b : Blk) (i off v : Nat) (p : Perm) (d : Dev) :
    ∀ r, blockWrite req pasid b i off v p d = some r → p.Keeps r.1 := by
  intro r h
  unfold blockWrite at h
  dsimp only at h
  split at h <;> try (simp only [Option.some.injEq] at h; subst h)
  all_goals first
    | exact .refl p
    | exact tmResume_keeps _ _ p d
    | (repeat (first
        | (simp only [Option.some.injEq] at h; subst h; exact .refl p)
        | split at h
        | simp at h))

theorem Dev.writeReg_keeps (d : Dev) (p : Perm) (req : Requester) (pasid : Option Nat) (b : Blk) (i off v : Nat) :
    p.Keeps (d.writeReg p req pasid b i off v).1 := by
  unfold Dev.writeReg
  repeat' split
  all_goals first
    | exact .refl p
    | exact mgmtWrite_keeps _ _ _ _ _ _ _ _ (by assumption)
    | exact blockWrite_keeps _ _ _ _ _ _ _ _ _ (by assumption)

theorem Dev.writeAt_keeps (d : Dev) (p : Perm) (req : Requester) (pasid : Option Nat) (a v : Nat) :
    p.Keeps (d.writeAt p req pasid a v).1 := by
  unfold Dev.writeAt
  split
  · exact Dev.writeReg_keeps _ p _ _ _ _ _ _
  · exact .refl p
  · exact .refl p

theorem registerWrite_keeps (req : Requester) (a n v : Nat) (p : Perm) (d : Dev) :
    p.Keeps (registerWrite req a n v p d).1 := by
  unfold registerWrite
  split
  · exact Dev.writeAt_keeps _ p _ _ _ _
  · split
    · exact (Dev.writeAt_keeps d p _ _ _ _).trans (Dev.writeAt_keeps _ _ _ _ _ _)
    · exact .refl p

theorem headerWrite_keeps (pg off v : Nat) (req : Requester) (p : Perm) (d : Dev) :
    p.Keeps (headerWrite pg off v req p d).1 := by
  unfold headerWrite
  split
  · exact Dev.writeReg_keeps _ p _ _ _ _ _ _
  · exact .refl p

theorem Dev.perform_keeps (d : Dev) (p : Perm) (a : Access) : p.Keeps (d.perform p a).1 := by
  unfold Dev.perform
  split
  · exact .refl p
  · unfold Dev.registerAccess
    dsimp only
    split
    · split <;> exact .refl p
    · split <;> exact .refl p
    · split
      · exact Dev.writeAt_keeps _ p _ _ _ _
      · exact .refl p

theorem Dev.passOn_keeps (d : Dev) (p : Perm) (a : Access) : p.Keeps (d.passOn p a).1 := by
  unfold Dev.passOn
  split
  · exact Dev.perform_keeps d p a
  · dsimp only
    split
    · exact .refl p
    · split
      · exact .refl p
      · exact Dev.perform_keeps d p a

theorem Dev.submit_keeps (d : Dev) (p : Perm) (a : Access) (t : Nat) : p.Keeps (d.submit p a t).1 := by
  unfold Dev.submit
  split
  · exact Dev.passOn_keeps d p a
  · split
    · split <;> exact .refl p
    · dsimp only
      split
      · exact Dev.passOn_keeps d p a
      · exact (Dev.gateRefuse_ahead _ _ _ _ _ _ _).keeps

theorem Dev.submitSplit_keeps (d : Dev) (p : Perm) (a : Access) (t : Nat) : p.Keeps (d.submitSplit p a t).1 := by
  unfold Dev.submitSplit
  split
  · exact (Dev.submit_keeps _ p _ t).trans (Dev.submit_keeps _ _ _ t)
  · exact Dev.submit_keeps d p a t

theorem Dev.inTurn_keeps (d : Dev) (p : Perm) (l : List Access) (f : Dev → Perm → Access → Perm × Dev)
    (h : ∀ d p a, Perm.Keeps p (f d p a).1) : p.Keeps (d.inTurn p l f).1 := by
  have g (l : List Access) (r : Perm × Dev) : r.1.Keeps (l.foldl (fun r a => f r.2 r.1 a) r).1 := by
    induction l generalizing r with
    | nil => exact .refl _
    | cons x l ih => exact (h r.2 r.1 x).trans (ih _)
  exact g l (p, d)

theorem drainEnd_keeps (g c t : Nat) (p : Perm) (d : Dev) : p.Keeps (drainEnd g c t p d).1 := by
  unfold drainEnd
  split
  · exact .refl p
  · split
    · exact .refl p
    · exact Dev.inTurn_keeps _ p _ _ (fun d p a => Dev.submit_keeps d p a t)

theorem mortarMessage_keeps (h : Header) (pl : Bytes) (n : Nat) (isl : Island) (g : Option Nat) (x : Option Xing)
    (u : FlitUnit) (q : List (Fin 4)) (t : Nat) (p : Perm) (d : Dev) :
    p.Keeps (mortarMessage h pl n isl g x u q t p d).1 := by
  unfold mortarMessage
  dsimp only
  split
  · exact Dev.submitSplit_keeps _ p _ _
  · split
    · split
      · exact .refl p
      · exact Dev.passOn_keeps _ p _
    · exact Dev.passOn_keeps _ p _

theorem plinthTick_keeps (p : Perm) (d : Dev) : p.Keeps (plinthTick p d).1 := by
  have g (l : List XingState) (r : Perm × Dev) : r.1.Keeps (l.foldl (fun r s =>
      let b := if s.stalled then r.2.xingResume s.xing else r.2
      match (b.xing s.xing).waiting with
      | [] => (r.1, b)
      | a :: rest => (b.setXing { b.xing s.xing with waiting := rest }).perform r.1 a) r).1 := by
    induction l generalizing r with
    | nil => exact .refl _
    | cons x l ih =>
      rw [List.foldl_cons]
      refine Perm.Keeps.trans ?_ (ih _)
      dsimp only
      split
      · exact .refl _
      · exact Dev.perform_keeps _ _ _
  unfold plinthTick
  exact g _ (p, _)

theorem clockRestart_keeps (n : Nat) (p : Perm) (d : Dev) : p.Keeps (clockRestart n p d).1 := by
  have g (l : List XingState) (r : Perm × Dev) : r.1.Keeps (l.foldl (fun r s =>
      (r.2.setXing { s with waiting := [], pulses := 0 }).inTurn r.1 s.waiting (fun b q a => b.perform q a)) r).1 := by
    induction l generalizing r with
    | nil => exact .refl _
    | cons x l ih => exact (Dev.inTurn_keeps _ _ _ _ (fun d p a => Dev.perform_keeps d p a)).trans (ih _)
  unfold clockRestart
  dsimp only
  split
  · exact .refl p
  · exact g _ (p, _)

theorem Dev.managerAccess_keeps (d : Dev) (p : Perm) (a : Access) (f : Island) : p.Keeps (d.managerAccess p a f).1 := by
  unfold Dev.managerAccess
  dsimp only
  split
  · exact Dev.submitSplit_keeps d p _ _
  · split
    · exact Dev.submitSplit_keeps d p _ _
    · exact .refl p

theorem Dev.romAccess_keeps (d : Dev) (p : Perm) (a : Access) : p.Keeps (d.romAccess p a).1 := by
  unfold Dev.romAccess
  dsimp only
  generalize (_ || _ : Bool) = c
  cases c
  · exact .refl p
  · exact Dev.submitSplit_keeps d p _ _

theorem bar0Access_keeps (a : Access) (x : Option (Fin 4)) (p : Perm) (d : Dev) : p.Keeps (bar0Access a x p d).1 := by
  unfold bar0Access
  dsimp only
  repeat' split
  all_goals first
    | exact .refl p
    | exact Dev.submitSplit_keeps d p _ _
    | exact Dev.managerAccess_keeps d p _ _
    | exact Dev.romAccess_keeps d p _

theorem mgmtRequest_keeps (h : FrameHdr) (i op a v s t : Nat) (p : Perm) (d : Dev) :
    p.Keeps (mgmtRequest h i op a v s t p d).1 := by
  unfold mgmtRequest
  dsimp only
  repeat' split
  all_goals first
    | exact .refl p
    | exact Dev.submitSplit_keeps d p _ _
    | exact Dev.managerAccess_keeps d p _ _

theorem tapDbgAuth_keeps (off : Nat) (w : Bool) (v t : Nat) (p : Perm) (d : Dev) :
    p.Keeps (tapDbgAuth off w v t p d).1 := by
  unfold tapDbgAuth
  dsimp only
  have h := (tapSelect_ahead .dbgAuth t p d).keeps
  split
  · exact h
  · split
    · exact h.trans (Dev.writeReg_keeps _ _ _ _ _ _ _ _)
    · exact h

theorem tapDbgAccess_keeps (op : AccessOp) (a n v : Nat) (g : Option Nat) (x : Option Xing) (s e t : Nat) (p : Perm)
    (d : Dev) : p.Keeps (tapDbgAccess op a n v g x s e t p d).1 := by
  unfold tapDbgAccess
  dsimp only
  have h := (tapSelect_ahead .dbgAccess t p d).keeps
  split
  · exact h
  · exact h.trans (Dev.submitSplit_keeps _ _ _ _)

end Sys2Proof.Machine
end

