-- ==== Sys2Proof/WellFormed.lean ====
section
/-! DEFINITION. Which commands are well formed: the bounds of the operands whose types do not hold them. -/

namespace Sys2Proof.Machine

/-- A requester's bay number is 0 to 255, and 0 unless its ORIGIN names a bay (R21). -/
def Requester.wf (r : Requester) : Bool :=
  match r.origin with
  | .bay | .program => decide (r.bay < 256)
  | _ => r.bay == 0

/-- The fields of a Mortar header fit their widths, its payload has at most 64 flits, and BAY is 0 unless ORIGIN names a bay
(R21). -/
def Header.wf (h : Header) : Bool :=
  decide (h.dst < 256) && decide (h.src < 256) && decide (h.cls < 4) && decide (h.gen < 2 ^ 16) && decide (h.tag < 2 ^ 16) &&
    decide (h.op < 16) && decide (h.len ≤ 64) && decide (h.addr < 2 ^ 48) &&
    (match h.origin with | .bay | .program => decide (h.bay < 256) | _ => h.bay == 0)

/-- A crossing joins two of the 18 clock domains, at a Mortar port or at none (0xFFFF), and its owner is a page that stands
(R14, R33, R567). -/
def Xing.wf (x : Xing) : Bool :=
  decide (1 ≤ x.tx) && decide (x.tx ≤ 18) && decide (1 ≤ x.rx) && decide (x.rx ≤ 18) && x.tx != x.rx &&
    (decide (x.port < 256) || x.port == 0xFFFF) && (match x.owner with | some (b, i) => decide (i < b.pages) | none => true)

/-- A client's port is one of the sixteen of the network face, and its addresses fit their widths (R344, R347). -/
def Client.wf (c : Client) : Bool :=
  decide (c.port < 16) && decide (c.mac < 2 ^ 48) && decide (c.ip < 2 ^ 128) && decide (c.udp < 2 ^ 16)

/-- A session ID has 32 bits and a process identifier 20 (R51, R349). -/
def FrameHdr.wf (h : FrameHdr) : Bool := h.src.wf && decide (h.session < 2 ^ 32) && decide (h.pid < 2 ^ 20)

end Sys2Proof.Machine

namespace Sys2Proof

open Sys2Proof.Machine


/-- A command is well formed: every operand is a value that the spec gives its kind of command. -/
def Instr.wf (c : Instr) : Bool :=
  match c with
  | .registerWrite req _ _ _ => req.wf
  | .rcRead req _ => req.wf
  | .intPendingWrite req _ _ => req.wf
  | .lockWrite req _ _ => req.wf
  | .softReset req _ _ => req.wf
  | .bar0Access _ _ _ _ _ _ _ src dst => decide (src < 256) && decide (dst < 256)
  | .mgmtRequest h _ _ _ _ src dst => h.wf && decide (src < 256) && decide (dst < 256)
  | .mortarMessage h payload _ _ _ x _ _ _ => h.wf && (x.all Xing.wf) && decide (payload.length ≤ 64 * h.len)
  | .xingUnstable x _ => x.wf
  | .xingTimeout x _ => x.wf
  | .xingResumed x => x.wf
  | .plinthTick => true
  | .tamperDemandResend => true
  | .clockStop _ => true
  | .clockRestart _ => true
  | .requestFragment h _ => h.wf
  | .requestReassemblyTimeout h reqId => h.wf && decide (reqId < 2 ^ 32)
  | .descriptorFetch _ _ _ => true
  | .schedulerCycle => true
  | .requestExpire => true
  | .courseBoundary => true
  | .ashlarClaim => true
  | .microopCipher _ _ => true
  | .microopHash _ _ _ _ => true
  | .microopPk _ _ => true
  | .microopPin _ _ _ => true
  | .microopKey _ _ => true
  | .microopRand _ _ => true
  | .microopVault _ _ => true
  | .microopCompletion _ => true
  | .keyCacheFill _ _ => true
  | .scGroupDispatchWrite req _ _ => req.wf
  | .programImageLoad _ _ _ => true
  | .scCoreSplitWrite req _ => req.wf
  | .scModeWrite _ => true
  | .scPinDataWrite _ => true
  | .pinTranslation _ => true
  | .pinVerifyOffset _ => true
  | .pinVerifyPvv _ => true
  | .pinOffsetGeneration _ => true
  | .offsetFromChosenPin _ => true
  | .pvvFromChosenPin _ => true
  | .randomPinPvvGeneration _ => true
  | .pinChangeOffset _ => true
  | .pinChangePvv _ => true
  | .macGeneration _ => true
  | .macVerification _ => true
  | .cvvGeneration _ => true
  | .cvvVerification _ => true
  | .pinLaneGrant => true
  | .pinStepEnd _ _ => true
  | .governorRefill => true
  | .pnBayWrite req _ _ => req.wf
  | .pnBayXlateWrite req _ => req.wf
  | .dukptDataDecryption _ => true
  | .dukptDataTranslation _ => true
  | .dukptInitialKeyExport _ => true
  | .arqcVerification _ => true
  | .arqcVerifyArpcGeneration _ => true
  | .arpcGeneration _ => true
  | .issuerScriptMac _ => true
  | .issuerScriptEncryption _ => true
  | .keyBlockImport _ => true
  | .keyBlockExport _ => true
  | .keyCheckValue _ => true
  | .ff1Tokenization _ => true
  | .ff1Detokenization _ => true
  | .vaultTokenization _ => true
  | .vaultDetokenization _ => true
  | .vaultTokenRetirement _ => true
  | .indexSlotClaim _ => true
  | .keyGeneration _ => true
  | .keyDeletion _ => true
  | .attributeChange _ => true
  | .ecdsaSignature _ => true
  | .ecdsaVerification _ => true
  | .ecdh _ => true
  | .ed25519Signature _ => true
  | .ed25519Verification _ => true
  | .rsaSignature _ => true
  | .rsaVerification _ => true
  | .rsaPublicOperation _ => true
  | .mlKemEncapsulation _ => true
  | .mlKemDecapsulation _ => true
  | .mlDsaSignature _ => true
  | .mlDsaVerification _ => true
  | .keyPairGeneration _ => true
  | .repointSweep => true
  | .repointSweepEnd => true
  | .keyCacheFlushDone _ => true
  | .useReservationDurable _ => true
  | .nonceReservationDurable _ _ => true
  | .vaultWriteDurable _ => true
  | .retentionPurgeCheck => true
  | .nandRefresh _ _ _ _ => true
  | .rnSourceFail _ _ => true
  | .rnStartupTestDone _ => true
  | .drbgReseed _ => true
  | .rootRegenerationDone _ => true
  | .ktRaiseFloor req => req.wf
  | .ktSetExternalIv req _ => req.wf
  | .ktClearExternalIv _ => true
  | .ktInstallCertificate req _ _ => req.wf
  | .kcBayQuotaWrite req _ _ => req.wf
  | .vtBayQuotaWrite req _ _ => req.wf
  | .backupKeyCreation req m n => req.wf && decide (m < 256) && decide (n < 256)
  | .bundleExport req _ => req.wf
  | .bundleRestore req _ _ _ _ _ => req.wf
  | .bundleAbort => true
  | .bundleDone => true
  | .bulkEncrypt _ => true
  | .bulkDecrypt _ => true
  | .gmacGenerate _ => true
  | .gmacVerify _ => true
  | .ashlarJobEnd _ _ => true
  | .jobAbort _ _ => true
  | .asOfflineWrite _ _ => true
  | .hsOfflineWrite _ _ => true
  | .hashJobEnd _ _ => true
  | .voussoirClaim => true
  | .voussoirJobEnd _ _ _ _ => true
  | .voussoirAbort _ _ => true
  | .vsOfflineWrite _ _ => true
  | .vsUcodeLoad req _ _ => req.wf
  | .vsUcodeLoadDone _ _ => true
  | .identityKeyDerivation => true
  | .bootSignatureVerify _ _ _ => true
  | .bootSha512 _ => true
  | .bind _ _ => true
  | .unbind _ _ => true
  | .bindQuery _ _ => true
  | .byShareWrite req _ _ _ => req.wf
  | .byQueueWrite req _ _ => req.wf
  | .byCtxWrite req _ _ => req.wf
  | .bayReset _ _ => true
  | .baySelfReset req _ _ => req.wf
  | .bayResetAction _ => true
  | .bayQuiet _ => true
  | .bayQuietForced _ => true
  | .bwEvTailWrite req _ _ => req.wf
  | .laneModeWrite req _ => req.wf
  | .linkTrainingDone _ _ _ _ => true
  | .linkDown _ => true
  | .ethernetFrame x _ _ => x.src.wf
  | .helloC _ => true
  | .helloS _ => true
  | .finishC src _ _ _ => src.wf
  | .handshakeTimeout _ => true
  | .sessionIdleTimeout _ => true
  | .sessionClose h => h.wf
  | .sessionKill _ => true
  | .streamOpen h reqId => h.wf && decide (reqId < 2 ^ 32)
  | .streamClose h _ => h.wf
  | .bulkData h _ => h.wf
  | .bulkReassemblyTimeout _ _ => true
  | .eventFrame _ => true
  | .utcTick => true
  | .hqDoorbell _ _ _ _ => true
  | .hqCplDoorbell _ _ _ _ => true
  | .hqCfgWrite _ _ _ => true
  | .perst _ => true
  | .pcieConfigRequest _ => true
  | .pcieLinkUp _ _ => true
  | .spdmPskExchange _ _ => true
  | .ideKeyProg _ _ => true
  | .msixVectorUnmask _ _ => true
  | .icMapWrite _ => true
  | .cardActivate _ => true
  | .cardDeactivate _ => true
  | .cardAtr _ _ => true
  | .atrTimeout _ => true
  | .classRetry _ => true
  | .ppsRetry _ => true
  | .cardT1Block _ _ => true
  | .cardWaitTimeout _ => true
  | .wtxLimit _ => true
  | .cardClockStop _ => true
  | .cardVccSample _ _ _ => true
  | .cardRemoved _ => true
  | .cardInserted _ => true
  | .cardOpenSession req _ _ => req.wf
  | .cardReadSlot req _ _ => req.wf
  | .cardVerify req _ _ => req.wf
  | .cardWriteShare req _ _ => req.wf
  | .cardProtectSlot req _ _ => req.wf
  | .cardWake req _ _ => req.wf
  | .cardClose req _ _ => req.wf
  | .ceremonyOpen req _ => req.wf
  | .ceremonyClose req => req.wf
  | .ceremonyTimeout => true
  | .authorizationLapse => true
  | .tamperEvent _ _ _ _ => true
  | .temperatureSample _ _ _ _ => true
  | .meshPatternChange _ _ => true
  | .shareEraseDone => true
  | .tmResume req _ => req.wf
  | .tmSrcCfgWrite req _ => req.wf
  | .tmFuseCmd _ => true
  | .fuseDone => true
  | .cornerstoneFlush => true
  | .plinthPowerRestored => true
  | .csRead _ => true
  | .csReadDone => true
  | .plinthSecond => true
  | .lcTransitionRequest _ => true
  | .lcStepDone _ => true
  | .lcChallengeNew req _ => req.wf
  | .challengeExpiry => true
  | .tokenSubmit _ => true
  | .tokenCheckDone _ => true
  | .tokenStandingExpiry => true
  | .tapIdcode _ => true
  | .tapBypass _ => true
  | .tapSamplePreload _ => true
  | .tapExtest _ => true
  | .tapIntest _ => true
  | .tapDbgAuth _ _ _ _ => true
  | .tapDbgAccess _ _ _ _ _ x src dst _ => (x.all Xing.wf) && decide (src < 256) && decide (dst < 256)
  | .dbgEnd _ => true
  | .debugSessionExpiry => true
  | .lgCommit req _ _ _ => req.wf
  | .drainEnd _ _ _ => true
  | .gateDrainTimeout _ => true
  | .keystoneInput _ _ _ => true
  | .heartbeatWindow _ _ _ _ _ => true
  | .keystoneFaultLine _ _ => true
  | .keystoneAutoRestart _ => true
  | .ksRestart req _ _ => req.wf
  | .keystoneImageLoaded _ _ => true
  | .keystoneResyncDone _ => true
  | .ksPairSwitch req => req.wf
  | .plannedHandover => true
  | .revertDue => true
  | .ksRevertArm => true
  | .mainPowerUp => true
  | .startAttempt _ _ => true
  | .startRetry _ _ => true
  | .rootRetry _ => true
  | .vinMainDip => true
  | .powerLoss _ _ => true
  | .vinAuxChange _ _ => true
  | .powerDomainOn req => req.wf
  | .powerDomainOff req => req.wf
  | .domainFault _ _ => true
  | .pwBootPreferredWrite _ => true
  | .plumbMeasure => true
  | .plumbMeasurePeriod => true
  | .plumbPlan _ => true
  | .markDurable => true
  | .evClear req _ => req.wf
  | .evRead _ => true
  | .evReadDone => true
  | .pcFreeze _ => true
  | .pcFrozen => true
  | .pcSnapshot => true
  | .pcSnapshotDone => true
  | .pcAccumulatorFlush => true
  | .smbusBlockRead _ _ => true
  | .smbusAlertResponse => true
  | .interruptModerationTimeout _ _ => true
  | .pcieLinkDown => true
  | .tamperConditionEnd _ _ => true
  | .supplyMeasurement _ _ _ _ _ => true
  | .ppsEchoTimeout _ => true
  | .atrCompletionTimeout _ => true

end Sys2Proof
end

