-- ==== Sys2Proof/Tests/Slice0.lean ====
section
/-! SUPPORT. Small tests of commands against worked examples of the spec, ill-formed operands that WellFormed refuses, and for
each statement a concrete state and operands that meet its hypotheses (one theorem for each of its clauses). -/

open Sys2Proof Sys2Proof.Machine

namespace Sys2Proof.Tests

set_option linter.unusedVariables false
set_option Elab.async false

/-! ## Small states -/

/-- A state with an empty queue. -/
def st (d : Dev) (p : Perm := Perm.reset) : State := ⟨[], p, d⟩
/-- The block after reset. -/
abbrev z : Dev := Dev.reset
/-- The permanent state of a module in a life-cycle state. -/
def lc (n : Nat) : Perm := { Perm.reset with otp := [(0, 2 ^ (4 * n) - 1)] }
/-- The permanent state at a response level, SEALED. -/
def lvl (n : Nat) : Perm := { lc 3 with level := n }
/-- A supervisor's access. -/
abbrev mgr : Requester := Requester.manager
/-- A session of a target. -/
def ses (target : Nat) : Session := { (default : Session) with pid := 7, target := target }
/-- A session with number 1 of a bound target. -/
def withSes (d : Dev) (target : Nat) : Dev :=
  { d with
    face := { d.face with sessions := [(1, ses target)] }
    sched := { d.sched with bindings := [(7, target)] } }
/-- A frame of that session. -/
def fh : FrameHdr := ⟨default, 1, 7⟩
/-- A module that runs, on main power. -/
def running (d : Dev) : Dev := { d with power := { d.power with main := true, stage := .running } }
/-- Keystone A controls. -/
def ctl (d : Dev) : Dev := d.set R.KS_STATUS_STATE 4 0
/-- A request of bay 3 for a function, with its TLVs. -/
def rq (func : Nat) (tlvs : List Tlv := []) : Request :=
  { (default : Request) with via := .session 1 default, bay := 3, func := func, tlvs := tlvs, deadline := 100 }
/-- Context 5 runs a request. -/
def runs (d : Dev) (r : Request) (x : Ctx := Ctx.empty) : Dev :=
  { d with sched := { d.sched with ctxs := [(5, { x with state := .running, req := some r })] } }
/-- A read of a module address as the Mortar carries it. -/
def rd (addr : Nat) : Header := { (default : Header) with addr := addr }
/-- A crossing between two domains that no page owns. -/
def xg (rx : Nat) : Xing := ⟨7, rx, 9, none⟩

/-- An access is open where its gate permits it and it passes no crossing. -/
theorem open_of {d : Dev} {p : Perm} {a : Access}
    (h : (a.gate.all fun g => (d.drain g).isNone && (d.gateDecide p g a).1 == 0) = true)
    (hx : (a.xing.all fun x => !d.fenced x && !(d.xing x).stalled && !d.stopped x.rx && (d.xing x).waiting.isEmpty &&
      x.rx != 15) = true) : d.Open p a := by
  constructor
  · intro g hg
    simp only [hg, Option.all_some, Bool.and_eq_true, beq_iff_eq, Option.isNone_iff_eq_none] at h
    exact h
  · intro x hg
    simp only [hg, Option.all_some, Bool.and_eq_true, Bool.not_eq_true', bne_iff_ne, List.isEmpty_iff] at hx
    exact ⟨hx.1.1.1.1, hx.1.1.1.2, hx.1.1.2, hx.1.2, hx.2⟩

/-- Ring 1 of bay 3 may fetch, with a process identifier bound to a target. -/
def ring3 (o target : Nat) : Dev :=
  let d0 : Dev := { z with
    face := { z.face with rings := [(4 * o + 1, ⟨1, 0, 0, 0, 0⟩)] }
    sched := { z.sched with bindings := [(7, target)] } }
  (((d0.set R.HF_LINK_UP 1).set R.HQ_CFG_EN 1 o 1).set R.HQ_PASID 7 o 1).set (R.CTRL_ENABLE .by) 1 o
/-- A cycle in which bay 3 owns a slot and has a request that group 0 can run. -/
def cyc : Dev :=
  let d0 : Dev := { z with sched := { z.sched with
    time := 1
    owners := [256, 256, 3]
    queues := [(3, [rq 0x0141])]
    progs := [(0, ⟨1, 1, [⟨0x0141, 1, false⟩]⟩)] } }
  (d0.set (R.CTRL_ENABLE .by) 1 3).set R.SC_GROUP_DISPATCH_EN 1 0 0
/-- Group 15 is the last that holds version 2, to which bay 255 is pinned. -/
def pin3 : Dev :=
  let d0 : Dev := { z with sched := { z.sched with progs := [(15, ⟨2, 1, []⟩)] } }
  ((d0.set R.SC_GROUP_DISPATCH_EN 1 0 15).set R.SC_PIN_DATA_PINNED 1 0 255).set R.SC_PIN_DATA_VERSION 2 0 255
/-- So many bytes of one value. -/
def rep (n : Nat) (b : Byte := 1) : Bytes := List.replicate n b
/-- TLVs. -/
def tv (l : List (Nat × Bytes)) : List Tlv := l.map fun e => ⟨e.1, e.2⟩
/-- A request of bay 3 whose key TLVs name objects 1 to n. -/
def fr (func : Nat) (l : List (Nat × Bytes)) (n : Nat) : Request :=
  rq func (tv (l ++ (List.range n).map fun i => (0x81 + i, beBytes 4 (i + 1))))
/-- A nonce counter with one value left in its reserved block. -/
def nn : Nonce := ⟨[1, 2, 3, 4], 1, 2, false, false⟩
/-- The root is present, bay 3 holds objects 1 to n, its counters are ready, and its quota is 1 MiB. -/
def vault (d : Dev) (ks : List Obj) : Dev :=
  let d1 := (d.set R.KT_STATUS_ROOT 2).setEff R.VT_BAY_QUOTA 1 0 3
  { d1 with keys := { d1.keys with
    root := some (rep 32)
    objs := (List.range ks.length).map fun i => (objIndex 3 (i + 1), ks.getD i default)
    nonces := [(kekIndex 3, nn), (vaultKeyIndex 3, nn), (nonceIndex 3 2, nn)] } }
/-- Context 5 runs a request whose keys bay 3 holds. -/
def fn (func : Nat) (l : List (Nat × Bytes)) (ks : List Obj) : Dev := vault (runs z (fr func l ks.length)) ks
/-- A symmetric key. -/
def sym (u : Usage) (a : Alg) (m : ModeOfUse) (key : Bytes) (exportable : Bool := true) : Obj :=
  { (default : Obj) with
    attrs := { (default : Attrs) with usage := u, alg := a, mode := m, exportable := exportable, keyVersion := 0x3030 }
    key := key
    intact := true }
def kP0 : Obj := sym .p0 .tdes .b (rep 16)
def kV1 : Obj := sym .v1 .tdes .c (rep 16)
def kV2 : Obj := sym .v2 .tdes .c (rep 16)
def kC0 : Obj := sym .c0 .tdes .c (rep 16)
def kM6 : Obj := sym .m6 .aes .c (rep 16)
def kB0 : Obj := sym .b0 .aes .x (rep 16)
def kD0 : Obj := sym .d0 .aes .b (rep 32)
def kK0 : Obj := sym .k0 .aes .b (rep 32)
def kE (u : Usage) : Obj := sym u .aes .x (rep 16)
/-- A decimalization table. -/
def kTab : Obj :=
  { (default : Obj) with
    attrs := { (default : Attrs) with type := .dectab }
    key := [0, 1, 2, 3, 4, 5, 6, 7, 8, 9, 0, 1, 2, 3, 4, 5]
    intact := true }
/-- A tokenization key: 6 and 4 digits kept, no check digit. -/
def kTok (vault : Bool) : Obj :=
  { kD0 with attrs := { kD0.attrs with profile := some ⟨6, 4, 0, 0, vault⟩ } }
/-- A PAN of 16 digits. -/
def panDigits : List Nat := [4, 1, 1, 1, 1, 1, 1, 1, 1, 1, 1, 1, 1, 1, 1, 1]
/-- The same but for the first digit that a token replaces. -/
def panB : List Nat := [4, 1, 1, 1, 1, 1, 2, 1, 1, 1, 1, 1, 1, 1, 1, 1]
def pan16 : Bytes := digitsAscii panDigits
/-- A job of context 5's micro-operation. -/
def jb : Job := { (default : Job) with bay := 3, ctx := 5, req := some (rq 0x0141), finish := .token }
/-- A core that runs it. -/
def busy (j : Job) : Core := { Core.idle with cur := j.lock 1, curJob := some j }

/-- A context whose lane registers 2 and 3 hold a data key and a MAC key. -/
def laneCtx : Ctx :=
  { Ctx.empty with lanes := [(2, ⟨rep 16, .d0, .aes, false, false⟩), (3, ⟨rep 32, .m7, .hmac, false, false⟩)] }
/-- A context whose lane register 2 holds a shared secret. -/
def secretCtx : Ctx := { Ctx.empty with lanes := [(2, ⟨rep 32, .b2, .hmac, false, true⟩)] }
/-- Bay 3's object 1 is in the key cache. -/
def cached1 : Dev :=
  let d := vault (runs z (rq 0x0101)) [kD0]
  { d with keys := { d.keys with cache := [⟨3, 1, 1⟩] } }
/-- A GMAC record, and the job that runs it. -/
def bulkRec : BulkRec := { (default : BulkRec) with desc := { (default : BulkDesc) with op := 3 }, key := rep 16, iv := rep 12 }
def bulkJob : Job := { (default : Job) with finish := .bulk bulkRec }
/-- A key block that wraps kD0 under kK0. -/
def block1 : Bytes := kbBuild .aes kK0.key kD0 true [] (rep 96)
/-- A key block whose authenticator is not hexadecimal. -/
def block2 : Bytes :=
  [0x44, 0x30, 0x30, 0x34, 0x38, 0x44, 0x30, 0x41, 0x42, 0x30, 0x30, 0x45, 0x30, 0x30, 0x30, 0x30] ++ rep 32 0x5A
theorem block2_refused : kbOpen ((fr 0x0230 [(1, block2)] 1).tlv 1) ((readKbHeader block2).getD default) kK0.key =
    .error .kbHeader := by decide +kernel
/-- The TLVs of a new AES-128 key of usage D0. -/
def newD0 : List Tlv := tv [(1, [0x44, 0x30]), (2, [0x41]), (3, [16]), (4, [0x42])]
/-- An authorization of a class stands for a bay. -/
def auth (cls bay : Nat) (d : Dev) : Dev :=
  ((d.set R.CD_CER_STATUS_STATE 2).set R.CD_CER_STATUS_CLASS cls).set R.CD_CER_STATUS_BAY bay
/-- A token entry of bay 3. -/
def entry1 : TokenEntry := ⟨3, panDigits, List.replicate 16 2, [], 0, 0, .live⟩
def tokens (d : Dev) : Dev := { d with keys := { d.keys with entries := [(1, entry1)] } }


/-- Context 5 waits for a use reservation of bay 3's object 1. -/
def useWait : Dev :=
  let d := runs z (rq 0x0101)
  { d with keys := { d.keys with
    objs := [(objIndex 3 1, kD0)]
    useWrites := [3 * 2 ^ 34 + 1]
    waits := [⟨5, 3 * 2 ^ 34 + 1, false⟩] } }
/-- Context 5 waits for a reservation of bay 3's nonce counter. -/
def nonceWait : Dev :=
  let d := runs z (rq 0x0101)
  { d with keys := { d.keys with
    nonces := [(kekIndex 3, ⟨[], 1, 1, true, false⟩)]
    waits := [⟨5, kekIndex 3, true⟩] } }
/-- A root under regeneration, with a certificate for a public key and the sealing share. -/
def regen (key : Bytes) : Dev :=
  let d := z.set R.KT_STATUS_ROOT 1
  { d with
    keys := { d.keys with
      helpers := (⟨1, true⟩, ⟨0, false⟩)
      certificate := some ([], key) }
    plinth := { d.plinth with share := some (rep 32) } }
/-- Two shares of a backup key are read. -/
def shares2 (d : Dev) : Dev := { d with cards := { d.cards with shareM := 2, shares := [(1, rep 32), (2, rep 32)] } }
def bundleOf (items : List BundleItem) : Bundle := ⟨0, [], [], 3, items, []⟩
/-- A bundle operation under way. -/
def bundling (op : Nat) (committing : Bool) : Dev :=
  { z with keys := { z.keys with
    objs := [(objIndex 3 1, kD0)]
    bundle := some ⟨op, 3, 3, 0, committing, []⟩ } }
/-- Bay 255 is in a reset since 0. -/
def resetting (flushing : Bool) (time : Nat) : Dev :=
  { z with sched := { z.sched with
    resets := [(255, ⟨0, flushing⟩)]
    time := time } }
/-- Port 15 is up and its IPv4 address is 9. -/
def port15 : Dev := ((z.set R.NF_PORT_STATUS_LINK_UP 2 7).set R.NF_ADDR_CTL 1 0 15).set R.NF_ADDR_IPV4 9 0 15
def at15 (body : EtherBody) : EtherFrame := ⟨⟨15, 1, 2, 3⟩, [], body⟩
/-- A REQUEST to it. -/
def dg (seq : Nat) (auth : Bool := true) : Datagram :=
  ⟨false, 9, z.get R.NF_UDP, false, .good, 24, 1, 0x10, 24, 1, seq, auth⟩
def port15s : Dev :=
  { port15 with face := { z.face with sessions := [(1, { ses 3 with high := 2000, seen := [2000, 977] })] } }

/-- A handshake of a client with bound identifier 7. -/
def hand (g : HsStage) : Handshake :=
  ⟨g, default, 7, true, false, rep 32, [], p384.encode p384.base, List.replicate 1184 0, [], rep 72, .ok⟩
def withHand (g : HsStage) (d : Dev) : Dev :=
  { d with
    face := { d.face with handshakes := [(5, hand g)] }
    sched := { d.sched with bindings := [(7, 3)] } }
def hello : Hello := ⟨default, 7, true, true, rep 32, rep 97, rep 1184⟩
/-- A trust anchor that admits every identifier. -/
def anchored (d : Dev) : Dev := (d.set R.NF_ANCHOR_DATA 0x101 0 0).set R.NF_ANCHOR_DATA 0xFFFFF 0 2
def cert (form : Bool) : ClientCert := ⟨form, 0, 0, List.replicate 20 0, true, true⟩
/-- A session of bay 3 with n streams. -/
def streams (n : Nat) (x : Stream) : Dev :=
  let d := withSes (z.set (R.CTRL_ENABLE .by) 1 3) 3
  { d with face := { d.face with streams := (List.range n).map fun i => (0x8000 + i, x) } }
/-- A record of 1 byte of authenticated data. -/
def desc1 : BulkDesc := ⟨3, 0, 1, 1, 0, 0, [], 9, true⟩
/-- The host's link is up, with vectors enabled, and interrupt i waits. -/
def msix (i : Nat) : Dev :=
  let d := z.set R.HF_LINK_UP 1
  { d with
    face := { d.face with perst := false }
    log := { d.log with
      irqHeld := [i]
      vecUnmasked := [511]
      msixEnable := true } }
/-- Card interface 1 in a state. -/
def cardAt (state : Nat) (c : CardIf) (d : Dev := z) : Dev :=
  let d1 := d.set R.CD_STATE_STATE state 1
  { d1 with cards := { d1.cards with ifs := [(1, c)] } }
def idleCard : CardIf := { CardIf.idle with detect := true }
/-- An answer to reset that a card of class A, B and C gives. -/
def atr : Atr := ⟨0x3B, true, 0x11, true, none, none, 254, 9, 15, false⟩
def present1 (d : Dev) : Dev := d.set R.CD_STATE_PRESENT 1 1
def cardSes : CardSession := ⟨9, 8, 1, false, [], 0⟩
def sesCard : CardIf := { idleCard with session := some cardSes }
def withBackup (d : Dev) : Dev :=
  let d1 := d.set R.CD_CER_STATUS_STATE 3
  { d1 with cards := { d1.cards with backup := some ⟨[], 2, 16, rep 32, rep 32, []⟩ } }
def exch (op : Nat) (sent : Bool) : CardExchange := { newExchange op 15 [] with sent := sent }
def busyCard (op : Nat) (sent : Bool) : Dev :=
  let d := cardAt 3 { sesCard with exchange := some (exch op sent) } (z.set R.CD_T1_RETRY 1 1)
  { d with cards := { d.cards with roster := [⟨9, 8, 1⟩] } }
def slot0 (crc : Bool) : SlotImage := ⟨1, 0, 5, [], crc⟩
/-- The four bytes of a word, reversed. -/
def swap (x : Nat) : Nat := x / 2 ^ 24 % 256 + 256 * (x / 2 ^ 16 % 256) + 65536 * (x / 256 % 256) + 2 ^ 24 * (x % 256)
/-- A submitted token with two words of a module's number, on the challenge 01…01. -/
def tokenWords (a b purpose what scope seconds : Nat) : Tab Nat :=
  [(0, 0x1000 + purpose * 65536 + what * 2 ^ 24), (1, a), (2, b)] ++
    (List.range 8).map (fun i => (3 + i, 0x01010101)) ++ [(11, swap scope), (12, swap seconds)]
def check1 : TokenCheck := ⟨true, rep 32⟩
def submit (a b purpose what scope seconds : Nat) : Dev :=
  { z with life := { z.life with
    checking := some check1
    token := tokenWords a b purpose what scope seconds } }
/-- The same, for this module. -/
def submitted (purpose what scope seconds : Nat) : Dev :=
  submit (swap (Config.moduleUid.toNat / 2 ^ 32)) (swap (Config.moduleUid.toNat % 2 ^ 32)) purpose what scope seconds
theorem leBytes_sum {a b c d : Nat} (ha : a < 256) (hb : b < 256) (hc : c < 256) (hd : d < 256) :
    leBytes 4 (a + 256 * b + 65536 * c + 2 ^ 24 * d) =
      [BitVec.ofNat 8 a, BitVec.ofNat 8 b, BitVec.ofNat 8 c, BitVec.ofNat 8 d] := by
  simp only [leBytes, beBytes, List.range, List.range.loop, List.reverse, List.reverseAux, List.map, List.cons.injEq, and_true]
  refine ⟨?_, ?_, ?_, ?_⟩ <;> apply BitVec.eq_of_toNat_eq <;> simp only [BitVec.toNat_ofNat, Nat.reducePow] <;> omega
theorem leBytes_swap (x : Nat) : leBytes 4 (swap x) = beBytes 4 x := by
  rw [swap, leBytes_sum (Nat.mod_lt _ (by decide)) (Nat.mod_lt _ (by decide)) (Nat.mod_lt _ (by decide))
    (Nat.mod_lt _ (by decide))]
  simp only [beBytes, List.range, List.range.loop, List.reverse, List.reverseAux, List.map, List.cons.injEq, and_true]
  refine ⟨?_, ?_, ?_, ?_⟩ <;> apply BitVec.eq_of_toNat_eq <;> simp [BitVec.toNat_ofNat]
theorem beNat_uid (n : Nat) (h : n < 2 ^ 64) : beNat (beBytes 4 (n / 2 ^ 32) ++ beBytes 4 (n % 2 ^ 32)) = n := by
  simp only [beBytes, List.range, List.range.loop, List.reverse, List.reverseAux, List.map, beNat, List.cons_append,
    List.nil_append, List.foldl, BitVec.toNat_ofNat]
  omega
theorem submit_uid (a b purpose what scope seconds : Nat) :
    ((submit a b purpose what scope seconds).tokenBytes.drop 4).take 8 = leBytes 4 a ++ leBytes 4 b := rfl
theorem token_uid (purpose what scope seconds : Nat) :
    field (submitted purpose what scope seconds).tokenBytes 4 8 = Config.moduleUid.toNat := by
  rw [field, submitted, submit_uid, leBytes_swap, leBytes_swap, beNat_uid _ Config.moduleUid.isLt]
theorem token_stands : (submitted 1 7 0 0).tokenCheck Perm.reset check1 true = .inr (.stands 1 7) := by
  have h0 : field (submitted 1 7 0 0).tokenBytes 0 2 = 0x10 := rfl
  have h1 : field (submitted 1 7 0 0).tokenBytes 2 1 = 1 := rfl
  have h2 : field (submitted 1 7 0 0).tokenBytes 3 1 = 7 := rfl
  have h3 : ((submitted 1 7 0 0).tokenBytes.drop 12).take 32 = rep 32 := rfl
  have h4 : field (submitted 1 7 0 0).tokenBytes 52 4 = 0 := rfl
  simp [Dev.tokenCheck, token_uid, h0, h1, h2, h3, h4, check1]
theorem token_debugs : (submitted 2 0 7 86400).tokenCheck (lc 1) check1 true = .inr (.debug 7 86400) := by
  have h0 : field (submitted 2 0 7 86400).tokenBytes 0 2 = 0x10 := rfl
  have h1 : field (submitted 2 0 7 86400).tokenBytes 2 1 = 2 := rfl
  have h3 : ((submitted 2 0 7 86400).tokenBytes.drop 12).take 32 = rep 32 := rfl
  have h4 : field (submitted 2 0 7 86400).tokenBytes 52 4 = 0 := rfl
  have h5 : field (submitted 2 0 7 86400).tokenBytes 44 4 = 7 := rfl
  have h6 : field (submitted 2 0 7 86400).tokenBytes 48 4 = 86400 := rfl
  have h7 : (lc 1).lcState = 1 := by decide +kernel
  have h8 : (submitted 2 0 7 86400).life.transition = none := rfl
  simp [Dev.tokenCheck, token_uid, h0, h1, h3, h4, h5, h6, h7, h8, check1, debugMask]
/-- Keystone A controls, and Keystone B is in a state. -/
def ksPair (b : Nat) : Dev := (ctl z).set R.KS_STATUS_STATE b 1
/-- Keystone B controls and Keystone A is matched. -/
def ksBack : Dev := (z.set R.KS_STATUS_STATE 3 0).set R.KS_STATUS_STATE 4 1
def missed (u : Nat) (d : Dev) : Dev := (d.set R.KS_STATUS_MISS_MORTAR 3 u).set R.KS_STATUS_MISS_WIRE 3 u
/-- Findings of an attempt in which nothing fails. -/
def good : StartFindings :=
  { (default : StartFindings) with
    program := true
    tables := true
    mounts := true
    floorReads := true
    image := ⟨1, 1, 1, true⟩
    ucode := ⟨1, 1, 1, true⟩
    faultA := none
    faultB := none
    starts := (true, true) }
/-- Main power is on and the module is at a stage of its start. -/
def starting (g : Stage) : Dev :=
  { z with power := { z.power with
    main := true
    stage := g } }
def dom (i n : Nat) : Dev := (z.set R.PW_DOM_INDEX i).set R.PW_DOM_STATUS_STATE n 0 i
def mark0 : Mark := { (default : Mark) with seq := 0 }

/-- The token that a key which keeps 6 and 4 digits draws for a PAN. -/
def made (pan : List Nat) : List Nat :=
  joinToken ⟨6, 4, 0, 0, true⟩ (pan.take 6) (drawNibbles 6 10 ((List.range 48).map fun i => Config.freeByte (0 + i))) (pan.drop 12)
def drawing (pan : List Nat) : Dev := fn 0x0242 [(1, digitsAscii pan), (2, rep 16)] [kTok true]
def drawReq (pan : List Nat) : Request := fr 0x0242 [(1, digitsAscii pan), (2, rep 16)] 1

/-! ## Ill-formed operands (WellFormed) -/

theorem test_requester_bay_out_of_range : Requester.wf ⟨.bay, 256, .corbel⟩ = false := by decide
theorem test_requester_bay_without_bay_origin : Requester.wf ⟨.supervisor, 1, .management⟩ = false := by decide
theorem test_header_len : Header.wf { (default : Header) with len := 65 } = false := by decide
theorem test_header_class : Header.wf { (default : Header) with cls := 4 } = false := by decide
theorem test_xing_same_domain : Xing.wf ⟨7, 7, 9, none⟩ = false := by decide
theorem test_xing_domain : Xing.wf ⟨7, 19, 9, none⟩ = false := by decide
theorem test_xing_owner : Xing.wf ⟨7, 8, 9, some (.by, 256)⟩ = false := by decide
theorem test_client_port : Client.wf { (default : Client) with port := 16 } = false := by decide
theorem test_frame_pid : FrameHdr.wf ⟨default, 1, 2 ^ 20⟩ = false := by decide
theorem test_frame_session : FrameHdr.wf ⟨default, 2 ^ 32, 7⟩ = false := by decide
theorem test_command_ill_formed : Instr.wf (.requestReassemblyTimeout fh (2 ^ 32)) = false := by decide
theorem test_command_well_formed : Instr.wf (.requestReassemblyTimeout fh (2 ^ 32 - 1)) = true := by decide

/-! ## Worked examples of the spec -/

/-- Ch. 02, after R60: the first eight slots of shares 512, 256 and 128. -/
theorem test_slots_of_shares : (courseOwners [(0, 512), (1, 256), (2, 128)]).take 8 = [0, 0, 1, 0, 0, 1, 2, 256] := by
  decide +kernel
/-- Ch. 02, after R76, case D: a request with deadline cycle 2,280 is still queued in cycle 2,279 and expires in cycle 2,280. -/
def queued (time : Nat) : Dev :=
  { cyc with sched := { cyc.sched with time := time, queues := [(3, [{ rq 0x0141 with deadline := 2280 }])] } }
theorem test_deadline_cycle : ((queued 2279).expireAll.queue 3).length = 1 ∧ (queued 2280).expireAll.queue 3 = [] := by
  decide +kernel
/-- Ch. 03, R116: PVV 7309. -/
theorem test_pvv_first_pass : decimalize (beBytes 8 0x7A3F0C9E51B2D846) 4 = [7, 3, 0, 9] := by decide +kernel
/-- Ch. 03, R116: PVV 7201 takes a second pass. -/
theorem test_pvv_second_pass : decimalize (beBytes 8 0xABC7DEF2FAEBCDAF) 4 = [7, 2, 0, 1] := by decide +kernel
/-- Ch. 03, the translation example: the PAN of it. -/
def panEx : List Nat := [5, 4, 1, 2, 7, 6, 0, 0, 3, 3, 1, 8, 9, 0, 4, 6]
theorem test_pan_field_0 : nibbleBytes (panField03 panEx) = beBytes 8 0x0000276003318904 := by decide +kernel
theorem test_pan_field_4 : nibbleBytes (panField4 panEx) = beBytes 16 0x45412760033189046000000000000000 := by decide +kernel
theorem test_pin_field_0 : nibbleBytes (pinField 0 [7, 3, 1, 9, 0, 2] []) = beBytes 8 0x06731902FFFFFFFF := by decide +kernel
theorem test_pin_field_valid : pinFieldStatus 0 (nibbles (beBytes 8 0x06731902FFFFFFFF)) 4 12 = .ok := by decide +kernel
/-- The decipherment 0673 3E62 FCCE 76FB with the PAN field of the example gives the PIN field. -/
theorem test_pin_field_xor : xorB (beBytes 8 0x06733E62FCCE76FB) (nibbleBytes (panField03 panEx)) =
    beBytes 8 0x06731902FFFFFFFF := by decide +kernel
theorem test_pin_offset : pinOffset [4, 1, 7, 4, 0, 0, 9, 3] [7, 3, 1, 9, 0, 2] 4 = [3, 2, 4, 5] := by decide
/-- Ch. 04, after R138: a counter with 17 one-bits is exhausted. -/
theorem test_dukpt_counter_bits : oneBits 0x2A01 = 4 ∧ oneBits 0xFFFF0001 = 17 := by decide +kernel
theorem test_dukpt_exhausted : ksnKeyFault (beBytes 12 0x7C2190E400035A18FFFF0001) kB0 = some .keyExhausted := by
  decide +kernel
/-- Ch. 04, the example of R155: the header D0144P0AE00E0000. -/
theorem test_key_block_header : readKbHeader ([0x44, 0x30, 0x31, 0x34, 0x34, 0x50, 0x30, 0x41, 0x45, 0x30, 0x30, 0x45, 0x30, 0x30, 0x30, 0x30] ++ rep 128 0x30) =
    some ⟨true, .p0, .aes, .e, 0x3030, true, [], 16⟩ := by decide +kernel
theorem test_key_block_accepted : kbHeaderFault ([0x44, 0x30, 0x31, 0x34, 0x34, 0x50, 0x30, 0x41, 0x45, 0x30, 0x30, 0x45, 0x30, 0x30, 0x30, 0x30] ++ rep 128 0x30) = none := by decide +kernel
theorem test_key_block_version_c : kbHeaderFault ([0x43, 0x30, 0x31, 0x34, 0x34, 0x50, 0x30, 0x41, 0x45, 0x30, 0x30, 0x45, 0x30, 0x30, 0x30, 0x30] ++ rep 128 0x30) = some .kbUnsupported := by
  decide +kernel
/-- Ch. 04, the tokenization example: check digit 2 under CHECK 1, 3 under CHECK 2, and the PAN's own 5. -/
theorem test_token_check_1 : joinToken ⟨6, 3, 1, 1, false⟩ [4, 9, 1, 5, 3, 8] [5, 8, 3, 9, 2, 0] [5, 5, 3] =
    [4, 9, 1, 5, 3, 8, 5, 8, 3, 9, 2, 0, 5, 5, 3, 2] := by decide +kernel
theorem test_token_check_2 : joinToken ⟨6, 3, 2, 1, false⟩ [4, 9, 1, 5, 3, 8] [5, 8, 3, 9, 2, 0] [5, 5, 3] =
    [4, 9, 1, 5, 3, 8, 5, 8, 3, 9, 2, 0, 5, 5, 3, 3] := by decide +kernel
theorem test_token_pan : joinPan ⟨6, 3, 1, 1, false⟩ [4, 9, 1, 5, 3, 8] [0, 2, 7, 1, 6, 4] [5, 5, 3] =
    [4, 9, 1, 5, 3, 8, 0, 2, 7, 1, 6, 4, 5, 5, 3, 5] := by decide +kernel
theorem test_token_tweak : ff1Tweak ⟨6, 3, 1, 1, false⟩ [4, 9, 1, 5, 3, 8] [5, 5, 3] [] =
    beBytes 9 0x040901050308050503 := by decide +kernel
/-- Ch. 09, R360: the six arrivals of the replay window's example. -/
def win0 : Session := { ses 3 with high := 5000, seen := [5000] }
def win2 : Session := (win0.accept 5002 default).accept 4990 default
theorem test_window_accepts : win0.windowTakes 5002 = true ∧ (win0.accept 5002 default).windowTakes 4990 = true := by
  decide +kernel
theorem test_window_drops : win2.windowTakes 5002 = false ∧ win2.windowTakes 3978 = false ∧ win2.windowTakes 3979 = true := by
  decide +kernel
theorem test_window_advances : win2.windowTakes 6100 = true ∧ (win2.accept 6100 default).high = 6100 ∧
    (win2.accept 6100 default).windowTakes 5080 = true ∧ (win2.accept 6100 default).windowTakes 5076 = false := by
  decide +kernel
/-- Ch. 11, after R438: source 34 resets to 0x0340_0A03. -/
theorem test_source_34 : (z.set R.TM_SRC_INDEX 34).word Perm.reset .tm 0 0x050 = 0x03400A03 := by decide +kernel
/-- Ch. 06, after R239: the IV of counter 0x02FF_FFFF under salt 0x00B7_3E29. -/
theorem test_gcm_iv : beBytes 4 0x00B73E29 ++ beBytes 8 0x02FFFFFF = beBytes 12 0x00B73E290000000002FFFFFF := by decide +kernel

/-! ## The standards the spec names, by their published vectors (log entry 5) -/

theorem test_aes_128 : aesEncrypt (beBytes 16 0x000102030405060708090A0B0C0D0E0F) (beBytes 16 0x00112233445566778899AABBCCDDEEFF) =
    beBytes 16 0x69C4E0D86A7B0430D8CDB78070B4C55A := by decide +kernel
theorem test_aes_256_inverse : aesDecrypt (beBytes 32 0x000102030405060708090A0B0C0D0E0F101112131415161718191A1B1C1D1E1F)
    (beBytes 16 0x8EA2B7CA516745BFEAFC49904B496089) = beBytes 16 0x00112233445566778899AABBCCDDEEFF := by decide +kernel
theorem test_des : desBlock false (beBytes 8 0x133457799BBCDFF1) (beBytes 8 0x0123456789ABCDEF) =
    beBytes 8 0x85E813540F0AB405 := by decide +kernel
theorem test_sha_256 : sha256 [0x61, 0x62, 0x63] = beBytes 32 0xBA7816BF8F01CFEA414140DE5DAE2223B00361A396177A9CB410FF61F20015AD := by
  decide +kernel
theorem test_sha3_256 : sha3 32 [] = beBytes 32 0xA7FFC6F8BF1ED76651C14756A061D662F580FF4DE43B49FA82D80A4B80F8434A := by
  decide +kernel
theorem test_hmac_256 : hmac256 (rep 20 0x0B) [0x48, 0x69, 0x20, 0x54, 0x68, 0x65, 0x72, 0x65] =
    beBytes 32 0xB0344C61D8DB38535CA8AFCEAF0BF12B881DC200C9833DA726E9376C2E32CFF7 := by decide +kernel
theorem test_cmac : cmac .aes (beBytes 16 0x2B7E151628AED2A6ABF7158809CF4F3C) (beBytes 16 0x6BC1BEE22E409F96E93D7E117393172A) =
    beBytes 16 0x070A16B46B4D4144F79BDD9DD04A287C := by decide +kernel
theorem test_gcm_tag : (gcmEnc (rep 16 0) (rep 12 0) [] []).2 = beBytes 16 0x58E2FCCEFA7E3061367F1D57A4E7455A := by decide +kernel
theorem test_ff1 : ff1Enc (beBytes 16 0x2B7E151628AED2A6ABF7158809CF4F3C) [] [0, 1, 2, 3, 4, 5, 6, 7, 8, 9] =
    [2, 4, 3, 3, 4, 7, 7, 4, 8, 4] := by decide +kernel
theorem test_p256_base : p256.decode (p256.encode p256.base) = some (p256.gx, p256.gy) := by decide +kernel
theorem test_shamir : shamirJoin [(3, shamirShare 2 [0xA5, 0x5A] [7, 9] 3), (5, shamirShare 2 [0xA5, 0x5A] [7, 9] 5)] =
    [0xA5, 0x5A] := by decide +kernel
theorem test_aes_dukpt_initial_key : aesInitialKey (beBytes 16 0xFEDCBA9876543210F1F1F1F1F1F1F1F1) (beBytes 8 0x1234567890123456) =
    beBytes 16 0x1273671EA26AC29AFA4D1084127652A1 := by decide +kernel
theorem test_aes_dukpt_transaction : aesIntermediate (beBytes 16 0x1273671EA26AC29AFA4D1084127652A1) (beBytes 4 0x90123456) 1 =
    beBytes 16 0x4F21B565BAD9835E112B6465635EAE44 := by decide +kernel
theorem test_tdes_dukpt_current : tdesCurrent
    (tdesInitialKey (beBytes 16 0x0123456789ABCDEFFEDCBA9876543210) (beBytes 10 0xFFFF9876543210E00001))
    (beBytes 10 0xFFFF9876543210E00001) = beBytes 16 0x042666B49184CFA368DE9628D0397BC9 := by decide +kernel

/-! ## What each statement assumes is met -/

theorem witness_StepRunsTheFrontCommand :
    ∃ s : State,
      s.pending = [] :=
  ⟨State.reset, by decide +kernel⟩

theorem witness_StepKeepsWhatIsProgrammed : ∃ s t : State, step s = .next t :=
  ⟨⟨[.vinMainDip], Perm.reset, z⟩, _, rfl⟩

theorem witness_RegisterWritesSetFieldsOrAreDropped :
    (∃ (s : State) (req : Requester) (addr : BitVec 48) (v : DWord) (b : Blk) (i off : Nat) (f : Fld),
       addr.toNat % 4 = 0 ∧ targetOf addr.toNat = .reg b i off ∧ 0x040 ≤ off ∧
       mgmtWrite req b i off (low 32 v.toNat) s.perm s.dev = none ∧
       blockWrite req none b i off (low 32 v.toNat) s.perm s.dev = none ∧
       s.dev.outOfRange b i off (low 32 v.toNat) = false ∧ f ∈ b.fields i ∧ f.off = off ∧ f.rep = .one ∧ f.staged = false ∧
       s.dev.writable f i = true) ∧
    (∃ (s : State) (req : Requester) (addr : BitVec 48) (size : Nat) (v : DWord),
       ¬ (size = 4 ∧ addr.toNat % 4 = 0) ∧ ¬ (size = 8 ∧ addr.toNat % 8 = 0)) :=
  ⟨⟨st z, mgr, 0x40064, 5, .ev, 0, 0x064, R.EV_NOTIFY, by decide +kernel⟩,
   ⟨st z, mgr, 0x40064, 2, 5, by decide +kernel⟩⟩

theorem witness_ReadAnswersAndClears :
    ∃ (s : State) (req : Requester) (addr : BitVec 48) (b : Blk) (i off : Nat),
      targetOf (addr.toNat - addr.toNat % 4) = .reg b i off :=
  ⟨st z, mgr, 0x40064, .ev, 0, 0x064, by decide +kernel⟩

theorem witness_PendingBitsClearAndPagesReset :
    (∃ (s : State) (req : Requester) (pg : BitVec 16) (v : Word) (b : Blk) (i : Nat),
       targetOf (pg.toNat * 0x1000 + 0x018) = .reg b i 0x018) ∧
    (∃ (s : State) (req : Requester) (pg : BitVec 16) (v : Word) (b : Blk) (i : Nat),
       targetOf (pg.toNat * 0x1000 + 0x008) = .reg b i 0x008 ∧ b ∈ [Blk.pw, .ck, .pl, .rn, .module] ∧
       v.toNat.testBit 2 = true) :=
  ⟨⟨st z, mgr, 0x010, 5, .pw, 0, by decide +kernel⟩,
   ⟨st z, mgr, 0x010, 4, .pw, 0, by decide +kernel⟩⟩

theorem witness_LockStaysSet :
    (∃ (s : State) (req : Requester) (pg : BitVec 16) (v : Word) (b : Blk) (i : Nat),
       targetOf (pg.toNat * 0x1000 + 0x01C) = .reg b i 0x01C) ∧
    (∃ (s : State) (req : Requester) (pg : BitVec 16) (v : Word) (b : Blk) (i : Nat),
       targetOf (pg.toNat * 0x1000 + 0x008) = .reg b i 0x008 ∧ b ∈ [Blk.pw, .ck, .pl, .rn, .module] ∧
       s.dev.get (R.LOCK b) i = 1) ∧
    (∃ (s : State) (req : Requester) (addr : BitVec 48) (v : DWord) (b : Blk) (i off : Nat) (f : Fld),
       addr.toNat % 4 = 0 ∧ targetOf addr.toNat = .reg b i off ∧ 0x040 ≤ off ∧
       mgmtWrite req b i off (low 32 v.toNat) s.perm s.dev = none ∧
       blockWrite req none b i off (low 32 v.toNat) s.perm s.dev = none ∧
       s.dev.outOfRange b i off (low 32 v.toNat) = false ∧ s.dev.get (R.LOCK b) i = 1 ∧ f ∈ b.fields i ∧ f.kind = .rwl) :=
  ⟨⟨st z, mgr, 0x010, 1, .pw, 0, by decide +kernel⟩,
   ⟨st (z.set (R.LOCK .pw) 1), mgr, 0x010, 4, .pw, 0, by decide +kernel⟩,
   ⟨st (z.set (R.LOCK .rn) 1), mgr, 0x5304C, 5, .rn, 0, 0x04C, R.RN_RESEED, by decide +kernel⟩⟩

theorem witness_UnassignedPagesReadZero :
    (∃ (s : State) (req : Requester) (addr : BitVec 48),
       addr.toNat < 0x02000000 ∧ managerPage (addr.toNat / 0x1000) = none) ∧
    (∃ (s : State) (req : Requester) (addr : BitVec 48) (size : Nat) (v : DWord),
       addr.toNat < 0x02000000 ∧ managerPage (addr.toNat / 0x1000) = none) ∧
    (∃ (s : State) (req : Requester) (addr : BitVec 48) (v : DWord),
       addr.toNat < 0x02000000 ∧ addr.toNat % 4 = 0 ∧ managerPage (addr.toNat / 0x1000) = none) :=
  ⟨⟨st z, mgr, 0x1FFF000, by decide +kernel⟩,
   ⟨st z, mgr, 0x1FFF001, 8, 5, by decide +kernel⟩,
   ⟨st z, mgr, 0x1FFF000, 5, by decide +kernel⟩⟩

theorem witness_AccessesAreServed :
    (∃ (s : State) (h : Header) (op : AccessOp) (payload : Bytes) (isl : Island) (x : Option Xing) (u : FlitUnit)
        (quads : List (Fin 4)) (stamp : Nat),
       let a : Access := ⟨op, h.addr, 4, payload, ⟨h.origin, h.bay, isl⟩, h.src, h.dst,
         if op = .posted then .none else .requester, none, none⟩
       h.access = some op ∧ h.addr % 4 = 0 ∧ (s.dev.countFlits quads h.len).Open s.perm a) ∧
    (∃ (s : State) (addr : BitVec 26) (write : Bool) (v : DWord) (stream : Option (Fin 4)) (pasid : Option (BitVec 20))
        (tag src dst : Nat) (req : Requester),
       let a : Access := { tlpAccess addr.toNat write 4 v.toNat (pasid.map BitVec.toNat) tag src dst with req := req }
       s.dev.face.perst = false ∧ s.dev.on R.HF_LINK_UP = true ∧ s.dev.unsecured stream = false ∧
       s.dev.power.stage = .running ∧ addr.toNat % 4 = 0 ∧
       (0x02000000 ≤ addr.toNat ∧ addr.toNat < 0x03000000 ∧ req = ⟨.bay, bits addr.toNat 23 16, .host⟩ ∨
         ¬ (0x02000000 ≤ addr.toNat ∧ addr.toNat < 0x03000000) ∧
         ∃ k, s.dev.controller = some k ∧ req = ⟨.supervisor, 0, keystoneIsland k⟩) ∧
       s.dev.Open s.perm a) ∧
    (∃ (s : State) (h : FrameHdr) (reqId : Word) (op : Byte) (addr : BitVec 48) (v : Word) (src dst : Nat) (c : Session)
        (req : Requester),
       let a : Access := ⟨if op.toNat = 0 then .read else .write, addr.toNat, 4, if op.toNat = 0 then [] else leBytes 4 v.toNat,
         req, src, dst, .mgmt h.session reqId.toNat, none, none⟩
       Tab.look s.dev.face.sessions h.session = some c ∧ h.pid = c.pid ∧ s.dev.bound c.pid = some c.target ∧ op.toNat ≤ 1 ∧
       addr.toNat % 4 = 0 ∧
       (c.target ≠ 256 ∧ 0x02000000 ≤ addr.toNat ∧ addr.toNat < 0x03000000 ∧ bits addr.toNat 23 16 = c.target ∧
         req = ⟨.bay, c.target, .network⟩ ∨
         c.target = 256 ∧ addr.toNat < 0x03000000 ∧ ∃ k, s.dev.controller = some k ∧ req = ⟨.supervisor, 0, keystoneIsland k⟩) ∧
       s.dev.Open s.perm a) ∧
    (∃ (s : State) (op : AccessOp) (addr : BitVec 48) (v : DWord) (x : Option Xing) (src dst stamp : Nat),
       let d : Dev := { s.dev with life := { s.dev.life with tap := .dbgAccess } }
       let a : Access := ⟨op, addr.toNat, 4, if op = .write ∨ op = .posted then leBytes 4 v.toNat else [], ⟨.debug, 0, .debug⟩,
         src, dst, if op = .posted then .none else .tap, none, none⟩
       s.dev.tapPermits s.perm .dbgAccess = true ∧ addr.toNat % 4 = 0 ∧ d.Open s.perm a) :=
  ⟨⟨st z, rd 0x40064, .read, [], .management, none, .none, [], 0, by decide +kernel, by decide +kernel,
    open_of (by decide +kernel) (by decide +kernel)⟩,
   ⟨st (ctl (running { z with face := { z.face with perst := false } }) |>.set R.HF_LINK_UP 1), 0x40064, true, 5, none,
    none, 0, 0, 0, ⟨.supervisor, 0, keystoneIsland 0⟩, by decide +kernel, by decide +kernel, by decide +kernel,
    by decide +kernel, by decide +kernel, .inr ⟨by decide +kernel, 0, by decide +kernel, rfl⟩,
    open_of (by decide +kernel) (by decide +kernel)⟩,
   ⟨st (ctl (withSes z 256)), fh, 1, 1, 0x40064, 5, 0, 0, ses 256, ⟨.supervisor, 0, keystoneIsland 0⟩, by decide +kernel,
    by decide +kernel, by decide +kernel, by decide +kernel, by decide +kernel, .inr ⟨by decide +kernel,
    by decide +kernel, 0, by decide +kernel, rfl⟩, open_of (by decide +kernel) (by decide +kernel)⟩,
   ⟨st (((z.set R.LG_ACT_CFG_EN 1 3 0).set R.LG_ACT_CFG_LOG2_SIZE 48 3 0).set R.LG_ACT_PERM_DBG_XWR 7 3 0), .read,
    0x40064, 0, none, 0, 0, 0, by decide +kernel, by decide +kernel, open_of (by decide +kernel) (by decide +kernel)⟩⟩

theorem witness_MessagesAreCarried :
    (∃ (s : State) (h : Header) (payload : Bytes) (size : Nat) (isl : Island) (gate : Option (Fin 40)) (quads : List
        (Fin 4)) (stamp : Nat),
       h.access = none) ∧
    (∃ (s : State) (h : Header) (op : AccessOp) (payload : Bytes) (size : Nat) (isl : Island) (g : Fin 40)
        (x : Option Xing) (u : FlitUnit) (quads : List (Fin 4)) (stamp : Nat),
       let a : Access := ⟨op, h.addr, size, payload, ⟨h.origin, h.bay, isl⟩, h.src, h.dst,
         if op = .posted then .none else .requester, none, some ⟨some g.val, h, x, .none⟩⟩
       h.access = some op ∧ 28 ≤ g.val ∧ g.val ≤ 31 ∧ (s.dev.countFlits quads h.len).Open s.perm a) ∧
    (∃ (s : State) (h : Header) (payload : Bytes) (size : Nat) (isl : Island) (gate : Option (Fin 40)) (x : Xing)
        (u : FlitUnit) (quads : List (Fin 4)) (stamp : Nat),
       h.cls = 2 ∧ h.op = 5 ∧ s.dev.fenced x = false ∧ (s.dev.xing x).stalled = false ∧ s.dev.stopped x.rx = false) :=
  ⟨⟨st z, { (default : Header) with cls := 1 }, [1, 2], 2, .corbel, none, [0, 3], 0, by decide +kernel⟩,
   ⟨st z, { (rd 0x800000000) with op := 1 }, .write, [1, 2], 2, .corbel, 28, none, .none, [0], 0, by decide +kernel,
    by decide +kernel, by decide +kernel, open_of (by decide +kernel) (by decide +kernel)⟩,
   ⟨st z, { (default : Header) with cls := 2, op := 5 }, [], 0, .corbel, none, xg 3, .none, [], 0, by decide +kernel⟩⟩

theorem witness_CrossingsStallAndRefuse :
    (∃ (s : State) (x : Xing),
       s.dev.fenced x = false ∧ (s.dev.xing x).stalled = false ∧ x.rx ≠ 15) ∧
    (∃ (s : State) (x : Xing),
       s.dev.fenced x = false ∧ (s.dev.xing x).stalled = false) ∧
    (∃ (s : State) (x : Xing) (u : FlitUnit),
       s.dev.fenced x = false ∧ (s.dev.xing x).stalled = true) ∧
    (∃ (s : State) (x : Xing) (u : FlitUnit),
       s.dev.fenced x = true) ∧
    (∃ (s : State) (x : Xing),
       (s.dev.xing x).stalled = true ∧ s.dev.stopped x.rx = false ∧ x.rx ≠ 15 ∧ xingDomains x = []) ∧
    (∃ (s : State) (x : Xing),
       (s.dev.xing x).stalled = true ∧ s.dev.stopped x.rx = false ∧ x.rx ≠ 15) ∧
    (∃ s : State,
       s.dev.wires.demand = true ∧ s.dev.demandStalled = false) ∧
    (∃ s : State,
       s.dev.wires.demand = true ∧ s.dev.demandStalled = true) :=
  ⟨⟨st z, xg 14, by decide +kernel⟩,
   ⟨st z, xg 15, by decide +kernel⟩,
   ⟨st (z.setXing ⟨xg 3, true, 0, [], 0⟩), xg 3, .none, by decide +kernel⟩,
   ⟨st (z.set R.PW_DOM_STATUS_FENCED 1 0 26), ⟨7, 5, 9, some (.vs, 0)⟩, .engine 0, by decide +kernel⟩,
   ⟨st (z.setXing ⟨xg 3, true, 0, [], 0⟩), xg 3, by decide +kernel⟩,
   ⟨st (z.setXing ⟨⟨7, 5, 9, some (.vs, 0)⟩, true, 0, [], 0⟩), ⟨7, 5, 9, some (.vs, 0)⟩, by decide +kernel⟩,
   ⟨st { z with wires := { z.wires with demand := true } }, by decide +kernel⟩,
   ⟨st ({ z with wires := { z.wires with demand := true } }.setXing ⟨demandXing, true, 0, [], 0⟩), by decide +kernel⟩⟩

theorem witness_ClocksStopAndRestart :
    (∃ (s : State) (n : Fin 19),
       s.dev.stopped n = false) ∧
    (∃ (s : State) (n : Fin 19),
       s.dev.stopped n = true) ∧
    (∃ (s : State) (n : Fin 19),
       s.dev.stopped n = true ∧ (n.val = 4 → (∀ c, s.dev.core c = Core.idle) ∧ ∀ h, s.dev.hash h = Core.idle) ∧
       (n.val = 5 → ∀ e, s.dev.engine e = Core.idle) ∧ (∀ y ∈ s.dev.wires.xings, y.xing.rx = n → y.stalled = true)) ∧
    (∃ s : State,
       (∀ y ∈ s.dev.wires.xings, y.xing.rx ≠ 15)) ∧
    (∃ (s : State) (x : Xing) (a : Access) (rest : List Access) (n : Nat),
       x.rx = 15 ∧ s.dev.wires.xings.filter (fun y => y.xing.rx == 15) = [⟨x, false, n, a :: rest, 0⟩]) :=
  ⟨⟨st z, 18, by decide +kernel⟩,
   ⟨st { z with wires := { z.wires with stoppedClocks := [0] } }, 0, by decide +kernel⟩,
   ⟨st { z with wires := { z.wires with stoppedClocks := [4] } }, 4, by decide +kernel, fun _ => ⟨fun _ => rfl,
    fun _ => rfl⟩, fun h => absurd h (by decide), by decide +kernel⟩,
   ⟨st z, by decide +kernel⟩,
   ⟨st (z.setXing ⟨xg 15, false, 0, [default], 0⟩), xg 15, default, [], 0, by decide +kernel⟩⟩

theorem witness_GatesCommitWhole :
    (∃ (s : State) (req : Requester) (g : Fin 40) (v : Word) (n : BitVec 16),
       v.toNat.testBit 0 = true ∧ s.dev.on (R.LOCK .lg) g = false ∧ s.dev.drain g = none ∧
       (∀ r < 16, (s.dev.region g false r).bad = false)) ∧
    (∃ (s : State) (req : Requester) (g : Fin 40) (v : Word) (n : BitVec 16),
       v.toNat.testBit 0 = true ∧ s.dev.on (R.LOCK .lg) g = false ∧ (s.dev.drain g).isSome = true) ∧
    (∃ (s : State) (req : Requester) (g : Fin 40) (v : Word) (n : BitVec 16) (r : Nat),
       v.toNat.testBit 0 = true ∧ s.dev.on (R.LOCK .lg) g = false ∧ s.dev.drain g = none ∧ r < 16 ∧
       (s.dev.region g false r).bad = true) ∧
    (∃ (s : State) (g : Fin 40) (clocks stamp : Nat) (late : Bool),
       s.dev.drain g = some ⟨[], late⟩ ∧ s.dev.inflightAt g = 0) ∧
    (∃ (s : State) (g : Fin 40) (held : List Access),
       s.dev.drain g = some ⟨held, false⟩) :=
  ⟨⟨st z, mgr, 39, 1, 0xFFFF, by decide +kernel⟩,
   ⟨st { z with gates := [(0, ⟨[], false⟩)] }, mgr, 0, 1, 0, by decide +kernel⟩,
   ⟨st ((z.set R.LG_RGN_CFG_EN 1 2 15).set R.LG_RGN_CFG_LOG2_SIZE 11 2 15), mgr, 2, 1, 0, 15, by decide +kernel⟩,
   ⟨st { z with gates := [(5, ⟨[], true⟩)] }, 5, 4000, 0, true, by decide +kernel⟩,
   ⟨st { z with gates := [(5, ⟨[default], false⟩)] }, 5, [default], by decide +kernel⟩⟩

theorem witness_GateRefusalsChangeNoTarget :
    (∃ (s : State) (h : Header) (op : AccessOp) (payload : Bytes) (size : Nat) (isl : Island) (x : Option Xing)
        (u : FlitUnit) (quads : List (Fin 4)) (stamp g : Nat),
       let a : Access := ⟨op, h.addr, size, payload, ⟨h.origin, h.bay, isl⟩, h.src, h.dst,
         if op = .posted then .none else .requester, none, none⟩
       let d0 := s.dev.countFlits quads h.len
       h.access = some op ∧ h.origin ≠ .debug ∧ (size ≠ 8 ∨ h.addr % 8 ≠ 0) ∧ gateOf h.addr = some g ∧ d0.drain g = none ∧
       (d0.gateDecide s.perm g a).1 ≠ 0) ∧
    (∃ (s : State) (h : Header) (op : AccessOp) (payload : Bytes) (size : Nat) (isl : Island) (x : Option Xing)
        (u : FlitUnit) (quads : List (Fin 4)) (stamp g : Nat) (held : List Access),
       let d0 := s.dev.countFlits quads h.len
       h.access = some op ∧ (size ≠ 8 ∨ h.addr % 8 ≠ 0) ∧ gateOf h.addr = some g ∧ d0.drain g = some ⟨held, false⟩) :=
  ⟨⟨st z, { (rd 0x40064) with origin := .bay }, .read, [], 4, .corbel, none, .none, [], 0, 3, by decide +kernel⟩,
   ⟨st { z with gates := [(3, ⟨[], false⟩)] }, { (rd 0x40064) with op := 2 }, .posted, [1, 2, 3, 4], 4, .corbel, none,
    .none, [], 0, 3, [], by decide +kernel⟩⟩

theorem witness_RequestsAreAdmittedFromSessionsAndRings :
    (∃ (s : State) (h : FrameHdr) (f : ReqFrag) (c : Session) (l : List Tlv),
       Tab.look s.dev.face.sessions h.session = some c ∧ h.pid = c.pid ∧ s.dev.bound c.pid = some c.target ∧
       c.target < 256 ∧ (s.dev.partials h.session).find? (fun q => q.reqId == f.reqId) = none ∧ f.ok = true ∧
       f.fragCount = 1 ∧ f.data.length = f.tlvLen ∧ parseTlvs (f.data.length + 1) f.data = some l ∧
       s.dev.admitFault s.perm.lcState (s.dev.workLevel s.perm.level) c.target f.func f.deadline (some l) = none ∧
       s.dev.queueRoom c.target = true) ∧
    (∃ (s : State) (h : FrameHdr) (f : ReqFrag) (c : Session) (st : Status),
       Tab.look s.dev.face.sessions h.session = some c ∧ h.pid = c.pid ∧ s.dev.bound c.pid = some c.target ∧
       c.target < 256 ∧ c.sent + 1 < 2 ^ 64 ∧ (s.dev.partials h.session).find? (fun q => q.reqId == f.reqId) = none ∧
       f.ok = true ∧ f.fragCount = 1 ∧ f.data.length = f.tlvLen ∧
       (s.dev.admitFault s.perm.lcState (s.dev.workLevel s.perm.level) c.target f.func f.deadline
         (parseTlvs (f.data.length + 1) f.data) = some st ∨
         s.dev.admitFault s.perm.lcState (s.dev.workLevel s.perm.level) c.target f.func f.deadline
         (parseTlvs (f.data.length + 1) f.data) = none ∧ s.dev.queueRoom c.target = false ∧ st = .queueFull) ∧
       st ≠ .ok) ∧
    (∃ (s : State) (h : FrameHdr) (f : ReqFrag) (c : Session),
       Tab.look s.dev.face.sessions h.session = some c ∧
       (s.dev.partials h.session).find? (fun q => q.reqId == f.reqId) = none ∧ f.ok = true ∧ 1 < f.fragCount ∧
       ((s.dev.partials h.session).filter (fun q => !q.ended)).length < 64) ∧
    (∃ (s : State) (h : FrameHdr) (reqId : Nat) (c : Session) (q : Partial),
       Tab.look s.dev.face.sessions h.session = some c ∧
       (s.dev.partials h.session).find? (fun x => x.reqId == reqId) = some q ∧ q.ended = false ∧ c.target < 256 ∧
       c.sent + 1 < 2 ^ 64) ∧
    (∃ (s : State) (o : Fin 256) (ring : Fin 4) (reqId func deadline tlvLen outAddr outLen : Nat) (tlvs : Bytes)
        (l : List Tlv),
       s.dev.mayFetch o ring = true ∧ s.dev.on R.HQ_CFG_KIND o ring = false ∧
       (s.dev.on R.HF_IDE_CTL = false ∨ s.dev.secureStream = true) ∧
       s.dev.bound (s.dev.get R.HQ_PASID o ring) = some o.val ∧ tlvLen = tlvs.length ∧ tlvLen ≤ 61440 ∧
       parseTlvs (tlvs.length + 1) tlvs = some l ∧
       s.dev.admitFault s.perm.lcState (s.dev.workLevel s.perm.level) o func deadline (some l) = none ∧
       s.dev.queueRoom o = true) ∧
    (∃ (s : State) (o : Fin 257) (ring : Fin 4) (x : HostDesc) (t : Nat),
       s.dev.mayFetch o ring = true ∧
       (match x with | .bulk .. => true | .func .. => false) = s.dev.on R.HQ_CFG_KIND o ring ∧
       (s.dev.on R.HF_IDE_CTL = false ∨ s.dev.secureStream = true) ∧ s.dev.bound (s.dev.get R.HQ_PASID o ring) = some t ∧
       t ≠ o.val) ∧
    (∃ (s : State) (o : Fin 257) (ring : Fin 4) (x : HostDesc),
       s.dev.mayFetch o ring = false) :=
  ⟨⟨st ((withSes z 3).set (R.CTRL_ENABLE .by) 1 3) (lc 4), fh, ⟨9, 0x0302, 0, 1, 1000000, 8, [0, 1, 0, 4, 0, 0, 0, 1]⟩,
    ses 3, [⟨1, [0, 0, 0, 1]⟩], by decide +kernel⟩,
   ⟨st ((withSes z 3).set (R.CTRL_ENABLE .by) 1 3) (lc 4), fh, ⟨9, 0x0301, 0, 1, 1000001, 0, []⟩, ses 3, .tlvMissing,
    by decide +kernel⟩,
   ⟨st (withSes z 3), fh, ⟨9, 0x0301, 7, 8, 0, 61440, [1]⟩, ses 3, by decide +kernel⟩,
   ⟨st { (withSes z 255) with face := { (withSes z 255).face with partials := [(1, [{ (default : Partial) with reqId := 9 }])] } },
    fh, 9, ses 255, { (default : Partial) with reqId := 9 }, by decide +kernel⟩,
   ⟨st (ring3 3 3) (lc 4), 3, 1, 9, 0x0302, 0, 8, 0, 64, [0, 1, 0, 4, 0, 0, 0, 1], [⟨1, [0, 0, 0, 1]⟩], by decide +kernel⟩,
   ⟨st (ring3 3 4) (lc 4), 3, 1, .func 9 0x0301 0 0 0 64 true [], 4, by decide +kernel⟩,
   ⟨st z, 256, 3, .bulk default [] [] [], by decide +kernel⟩⟩

theorem witness_CyclesRunAndRequestsExpire :
    (∃ s : State,
       s.dev.sched.time % 512 ≠ 0 ∧ s.dev.sched.presented = [] ∧ s.dev.sched.failures = [] ∧ s.dev.sched.queues = [] ∧
       s.dev.sched.ctxs = [] ∧ s.dev.sched.resetDue = [] ∧ s.dev.eng.bulkWait = [] ∧ s.dev.workLevel s.perm.level < 2) ∧
    (∃ (s : State) (b : Nat) (r : Request) (c : Nat),
       s.dev.sched.time % 512 ≠ 0 ∧ s.dev.sched.presented = [] ∧ s.dev.sched.failures = [] ∧
       s.dev.sched.queues = [(b, [r])] ∧ s.dev.sched.ctxs = [] ∧ s.dev.sched.resetDue = [] ∧ s.dev.eng.bulkWait = [] ∧
       s.dev.workLevel s.perm.level < 2 ∧ b < 256 ∧ s.dev.sched.owners.getD (2 * (s.dev.sched.time % 512)) 256 = b ∧
       s.dev.sched.time < r.deadline ∧ s.dev.on (R.CTRL_ENABLE .by) b = true ∧ s.dev.on R.STATUS_RESETTING b = false ∧
       s.dev.pinAbsent b = false ∧ (guardedFunc r.func && s.dev.govShut b) = false ∧ 0 < s.dev.eff R.BY_CTX_MAX b ∧
       s.dev.pickCtx (s.dev.runGroups b r.func) = some c ∧ s.dev.floorLocked (ctxGroup c) r.func = false) ∧
    (∃ (s : State) (x : Completion) (y : Ctx) (c : Session) (id : Nat) (src : Client),
       s.dev.sched.time % 512 ≠ 0 ∧ s.dev.sched.presented = [x] ∧ s.dev.sched.failures = [] ∧ s.dev.sched.queues = [] ∧
       s.dev.sched.ctxs = [(x.ctx, y)] ∧ s.dev.sched.resetDue = [] ∧ s.dev.eng.bulkWait = [] ∧
       s.dev.workLevel s.perm.level < 2 ∧ y.req = some x.req ∧ s.dev.entryGen x.req.bay x.req.entry = x.req.entryGen ∧
       s.dev.get R.BY_GEN_GEN x.req.bay = x.req.gen ∧ x.req.via = .session id src ∧
       Tab.look s.dev.face.sessions id = some c ∧ c.sent + 100000 < 2 ^ 64 ∧ (encodeTlvs x.out).length ≤ 61440) ∧
    (∃ s : State,
       (∀ e ∈ s.dev.sched.queues, ∀ r ∈ e.2, s.dev.sched.time < r.deadline) ∧
       (∀ e ∈ s.dev.sched.ctxs, ∀ r, e.2.req = some r → s.dev.sched.time < r.deadline)) ∧
    (∃ (s : State) (r : Request) (c : Session) (id : Nat) (src : Client),
       (s.dev.sched.queues.flatMap (·.2)).filter (fun q => q.deadline ≤ s.dev.sched.time) = [r] ∧
       (∀ e ∈ s.dev.sched.ctxs, ∀ q, e.2.req = some q → s.dev.sched.time < q.deadline) ∧ r.via = .session id src ∧
       Tab.look s.dev.face.sessions id = some c ∧ c.sent + 1 < 2 ^ 64) ∧
    (∃ (s : State) (r : Request) (k : Nat) (x : Ctx) (c : Session) (id : Nat) (src : Client),
       (∀ e ∈ s.dev.sched.queues, ∀ q ∈ e.2, s.dev.sched.time < q.deadline) ∧ s.dev.sched.ctxs = [(k, x)] ∧
       x.req = some r ∧ r.deadline ≤ s.dev.sched.time ∧ r.via = .session id src ∧
       Tab.look s.dev.face.sessions id = some c ∧ c.sent + 1 < 2 ^ 64) :=
  ⟨⟨st { z with sched := { z.sched with time := 511 } }, by decide +kernel⟩,
   ⟨st cyc, 3, rq 0x0141, 0, by decide +kernel⟩,
   ⟨st { (withSes z 3) with sched := { z.sched with time := 1, presented := [⟨rq 0x0141, 5, true, .ok, [⟨1, [1]⟩]⟩], ctxs := [(5, { Ctx.empty with req := some (rq 0x0141) })] } },
    ⟨rq 0x0141, 5, true, .ok, [⟨1, [1]⟩]⟩, { Ctx.empty with req := some (rq 0x0141) }, ses 3, 1, default,
    by decide +kernel⟩,
   ⟨st { z with sched := { z.sched with time := 99, queues := [(3, [rq 0x0141])] } }, by decide +kernel,
    by intro e h; cases h⟩,
   ⟨st { (withSes z 3) with sched := { z.sched with time := 100, queues := [(3, [rq 0x0141])] } }, rq 0x0141, ses 3, 1,
    default, by decide +kernel, (by intro e h; cases h), by decide +kernel⟩,
   ⟨st { (withSes z 3) with sched := { z.sched with time := 100, ctxs := [(5, { Ctx.empty with req := some (rq 0x0141) })] } },
    rq 0x0141, 5, { Ctx.empty with req := some (rq 0x0141) }, ses 3, 1, default, by decide +kernel⟩⟩

theorem witness_CoursesFollowTheShares :
    (∃ s : State,
       s.dev.sched.time % 512 = 0 ∧ s.dev.sched.courseDone ≠ some s.dev.sched.time) ∧
    (∃ s : State,
       (s.dev.sched.time % 512 ≠ 0 ∨ s.dev.sched.courseDone = some s.dev.sched.time)) :=
  ⟨⟨st { z with sched := { z.sched with time := 512 } }, by decide +kernel⟩,
   ⟨st { z with sched := { z.sched with time := 511 } }, by decide +kernel⟩⟩

theorem witness_PinnedGroupsStayEnabled :
    ∃ (s : State) (req : Requester) (g : Fin 16) (v : Word) (i : Image) (b : Nat),
      v.toNat.testBit 16 = false ∧ s.dev.on R.SC_GROUP_DISPATCH_EN 0 g = true ∧ Tab.look s.dev.sched.progs g = some i ∧
      b < 256 ∧ s.dev.pins b i.version = true ∧
      (∀ h < 16, h ≠ g.val → s.dev.on R.SC_GROUP_DISPATCH_EN 0 h = true → s.dev.groupVersion h ≠ some i.version) :=
  ⟨st pin3, mgr, 15, 0, ⟨2, 1, []⟩, 255, by decide +kernel, by decide +kernel, by decide +kernel, by decide +kernel,
   by decide +kernel, by decide +kernel⟩

theorem witness_GroupsAndStagedRegisters :
    (∃ (s : State) (req : Requester) (g : Fin 16) (v : Word),
       v.toNat.testBit 16 = true ∧ s.dev.on R.SC_GROUP_DISPATCH_EN 0 g = false ∧ (s.dev.groupVersion g).isSome = true) ∧
    (∃ (s : State) (req : Requester) (g : Fin 16) (v : Word),
       v.toNat.testBit 16 = false ∧ s.dev.on R.SC_GROUP_DISPATCH_EN 0 g = true ∧ s.dev.lastPinned g = false) ∧
    (∃ (s : State) (g : Fin 16) (i : Image),
       s.dev.on R.SC_GROUP_DISPATCH_EN 0 g = false ∧ s.dev.groupEmpty g = true) ∧
    (∃ (s : State) (req : Requester) (v : Word),
       v.toNat % 256 ≤ 128) ∧
    (∃ (s : State) (req : Requester) (v : Word),
       128 < v.toNat % 256) :=
  ⟨⟨st { z with sched := { z.sched with progs := [(15, ⟨2, 1, []⟩)] } }, mgr, 15, 0x10000, by decide +kernel⟩,
   ⟨st (z.set R.SC_GROUP_DISPATCH_EN 1 0 0), mgr, 0, 0, by decide +kernel⟩,
   ⟨st z, 0, ⟨2, 1, []⟩, by decide +kernel⟩,
   ⟨st z, mgr, 128, by decide +kernel⟩,
   ⟨st z, mgr, 129, by decide +kernel⟩⟩

theorem witness_SteeringKeepsSecrets :
    ∃ (u : Usage) (m : Option ModeOfUse) (session : Bool) (op : CipherOp) (dest : Dest),
      cipherDest u m session op = some dest :=
  ⟨.p0, some .d, false, ⟨.handle 1, .decrypt, .pinBlock 0 .none, .regs 0 1, .pinLane⟩, .pinLane, by decide +kernel⟩

theorem witness_MicroopsReachTheirUnits :
    (∃ (s : State) (c : Fin 512) (op : CipherOp) (r : Request) (u : Usage) (a : Alg) (m : Option ModeOfUse)
        (val : Bytes) (session : Bool) (d1 : Dev) (dest : Dest),
       s.dev.Runs c r ∧ op.fits = true ∧ s.dev.microKey c r op.key = (.key u a m val session, d1) ∧
       (cipherDest u m session op).bind (unwrapDest (s.dev.ctx c) op) = some dest ∧ op.mode ≠ .hmac256 ∧
       op.mode ≠ .hmac512) ∧
    (∃ (s : State) (c : Fin 512) (op : CipherOp) (r : Request) (u : Usage) (a : Alg) (m : Option ModeOfUse)
        (val : Bytes) (session : Bool) (d1 : Dev) (dest : Dest) (h : Nat),
       s.dev.Runs c r ∧ op.fits = true ∧ s.dev.microKey c r op.key = (.key u a m val session, d1) ∧
       (cipherDest u m session op).bind (unwrapDest (s.dev.ctx c) op) = some dest ∧
       (op.mode = .hmac256 ∨ op.mode = .hmac512) ∧ s.dev.workLevel s.perm.level < 2 ∧ s.dev.eng.hashWait = [] ∧ h < 16 ∧
       s.dev.hashUsable h = true ∧ (s.dev.hash h).isIdle = true) ∧
    (∃ (s : State) (c : Fin 512) (op : CipherOp) (r : Request) (st : Status),
       s.dev.Runs c r ∧
       (op.fits = false ∧ st = .inputRange ∨ op.fits = true ∧ (s.dev.microKey c r op.key).1 = .refused st ∨
         op.fits = true ∧ st = .keyUsage ∧ ∃ u a m val session, (s.dev.microKey c r op.key).1 = .key u a m val session ∧
         (cipherDest u m session op).bind (unwrapDest (s.dev.ctx c) op) = none)) ∧
    (∃ (s : State) (c : Fin 512) (f : HashFn) (src : Src) (dest : MicroDest) (n h : Nat) (r : Request) (out : Bytes),
       s.dev.Runs c r ∧ src.plain = true ∧ src.fits = true ∧ runHash f ((s.dev.ctx c).read src) = some out ∧
       (dest = .reg n ∨ dest = .buf n) ∧ s.dev.workLevel s.perm.level < 2 ∧ s.dev.eng.hashWait = [] ∧ h < 16 ∧
       s.dev.hashUsable h = true ∧ (s.dev.hash h).isIdle = true) ∧
    (∃ (s : State) (c : Fin 512) (f : HashFn) (src : Src) (dest : MicroDest) (r : Request),
       s.dev.Runs c r ∧ src.plain = false) ∧
    (∃ (s : State) (c : Fin 512) (op : PinOp) (dest : Fin 32) (r : Request),
       s.dev.Runs c r ∧ s.dev.eng.pinWait = [] ∧ s.dev.on R.RN_STATUS_FAIL = false ∧
       (match op with
         | .verifyPvv _ | .pvv | .cvv _ | .verifyCvv _ => True
         | .translate fi fo => ∃ i o, formatIndex fi = some i ∧ formatIndex fo = some o ∧ (s.dev.ctx c).permits i o = true
         | .pvvData _ pan k => panOk (asciiDigits ((s.dev.ctx c).read pan)) = true ∧ k ≤ 6
         | .generate n fo => (s.dev.ctx c).pinMin ≤ n ∧ n ≤ (s.dev.ctx c).pinMax ∧ formatIndex fo ≠ none
         | .verifyOffset _ _ h _ | .offset _ _ h => ∃ o d1, s.dev.pinTable c r h = (.keys [o], d1)) ∧
       (∃ l < 24, Tab.look s.dev.eng.pinLanes l = none)) :=
  ⟨⟨st (runs z (rq 0x0101) laneCtx), 5, ⟨.lane 2 16, .encrypt, .ecb, .regs 30 2, .reg 30⟩, rq 0x0101, .d0, .aes, none,
    rep 16, false, runs z (rq 0x0101) laneCtx, .reg 30, by unfold Dev.Runs; decide +kernel⟩,
   ⟨st (runs z (rq 0x0101) laneCtx), 5, ⟨.lane 3 32, .mac 32, .hmac256, .regs 0 1, .reg 4⟩, rq 0x0101, .m7, .hmac, none,
    rep 32, false, runs z (rq 0x0101) laneCtx, .reg 4, 15, by unfold Dev.Runs; decide +kernel⟩,
   ⟨st (runs z (rq 0x0101)), 5, ⟨.lane 2 16, .encrypt, .ecb, .regs 31 2, .reg 30⟩, rq 0x0101, .inputRange, ⟨rfl, rfl⟩,
    .inl ⟨by decide +kernel, rfl⟩⟩,
   ⟨st (runs z (rq 0x0101)), 5, .sha256, .buf 65535 1, .buf 0, 0, 15, rq 0x0101, sha256 [0],
    by unfold Dev.Runs; decide +kernel⟩,
   ⟨st (runs z (rq 0x0101)), 5, .sha256, .lane 0 8, .reg 0, rq 0x0101, by unfold Dev.Runs; decide +kernel⟩,
   ⟨st { runs z (rq 0x0101) with eng := { z.eng with pinLanes := (List.range 23).map fun k => (k, default) } }, 5, .pvv,
    31, rq 0x0101, ⟨rfl, rfl⟩, by decide +kernel, by decide +kernel, trivial, ⟨23, by decide +kernel⟩⟩⟩

theorem witness_MicroopsOnKeysAndTheVault :
    (∃ (s : State) (c : Fin 512) (h : Nat) (r : Request) (l : List Obj) (d1 : Dev),
       s.dev.Runs c r ∧ s.dev.handleFault r.bay h = none ∧ s.dev.cacheBusy r.bay [h] = false ∧
       s.dev.cached r.bay h = true ∧ s.dev.loadHandle c r h = (.keys l, d1)) ∧
    (∃ (s : State) (c : Fin 512) (h : Nat) (r : Request) (i : Instr),
       s.dev.Runs c r ∧ (i = .microopKey c (.load h) ∨ i = .microopKey c (.unwrap h) ∨ i = .microopVault c (.read h)) ∧
       s.dev.handleFault r.bay h = none ∧ s.dev.cacheBusy r.bay [h] = false ∧ s.dev.cached r.bay h = false) ∧
    (∃ (s : State) (c : Fin 512) (h : Nat) (r : Request) (i : Instr) (st : Status),
       s.dev.Runs c r ∧ (i = .microopKey c (.load h) ∨ i = .microopKey c (.unwrap h) ∨ i = .microopVault c (.read h)) ∧
       s.dev.handleFault r.bay h = some st) ∧
    (∃ (s : State) (c : Fin 512) (lane len n slot : Nat) (a : Attrs) (r : Request) (l : Lane),
       s.dev.Runs c r ∧ Tab.look (s.dev.ctx c).lanes lane = some l ∧ l.secret = true ∧ a.type = .symmetric ∧
       algLen a.alg n = true ∧ (s.dev.ctx c).handles.length < 8 ∧ s.dev.nextSlot r.bay = some slot ∧
       s.dev.sessionRoom r.bay (s.dev.newObj a (derivedKey ((s.dev.ctx c).read (.lane lane len)) n)).entries = true) ∧
    (∃ (s : State) (n : Nat) (fromNand : Bool) (f : Fill) (o : Obj) (r : Request),
       s.dev.keys.fills[n]? = some f ∧ s.dev.lookup f.bay f.handle = .key o ∧ s.dev.loadFault o = none ∧ f.req = some r ∧
       (s.dev.ctx f.ctx).req = some r) ∧
    (∃ (s : State) (n : Nat) (fromNand : Bool) (f : Fill) (o : Obj) (r : Request) (st : Status),
       s.dev.keys.fills[n]? = some f ∧ s.dev.lookup f.bay f.handle = .key o ∧ s.dev.loadFault o = some st ∧
       f.req = some r ∧ (s.dev.ctx f.ctx).req = some r) ∧
    (∃ (s : State) (c : Fin 512) (first n : Nat) (r : Request),
       s.dev.Runs c r ∧ s.dev.on R.RN_STATUS_FAIL = false ∧ first + n ≤ 32) ∧
    (∃ (s : State) (c : Fin 512) (n len : Nat) (u : Usage) (a : Alg) (r : Request),
       s.dev.Runs c r ∧ s.dev.on R.RN_STATUS_FAIL = false ∧ n + (len + 31) / 32 ≤ 64 ∧ 0 < len) ∧
    (∃ (s : State) (c : Fin 512) (n len dest num : Nat) (a : Attrs) (r : Request) (l : Lane),
       s.dev.Runs c r ∧ Tab.look (s.dev.ctx c).lanes n = some l ∧ s.dev.nextObject r.bay = some num ∧ l.secret = false ∧
       l.usage = a.usage ∧ l.alg = a.alg ∧ a.type = .symmetric ∧ algLen a.alg len = true ∧
       ((s.dev.ctx c).read (.lane n len)).length = len ∧ (modesOf a.usage).contains a.mode = true ∧
       s.dev.rootPresent = true ∧
       s.dev.quotaRoom r.bay (s.dev.newObj a ((s.dev.ctx c).read (.lane n len))).quotaBytes = true ∧
       (s.dev.nonce (kekIndex r.bay)).ready = true ∧ (s.dev.nonce (kekIndex r.bay)).exhausted = false ∧
       s.dev.on R.RN_STATUS_FAIL = false ∧ dest < 32) :=
  ⟨⟨st cached1, 5, 1, rq 0x0101, [kD0], (cached1.loadHandle 5 (rq 0x0101) 1).2, by unfold Dev.Runs; decide +kernel⟩,
   ⟨st (vault (runs z (rq 0x0101)) [kD0]), 5, 1, rq 0x0101, .microopVault 5 (.read 1), by unfold Dev.Runs; decide +kernel⟩,
   ⟨st (vault (runs z (rq 0x0101)) [kD0]), 5, 2, rq 0x0101, .microopKey 5 (.unwrap 2), .keyHandle,
    by unfold Dev.Runs; decide +kernel⟩,
   ⟨st (runs z (rq 0x0101) secretCtx), 5, 2, 32, 32, 1, kD0.attrs, rq 0x0101, ⟨rep 32, .b2, .hmac, false, true⟩,
    by unfold Dev.Runs; decide +kernel⟩,
   ⟨st { vault (runs z (rq 0x0101)) [kD0] with keys := { (vault z [kD0]).keys with fills := [⟨5, some (rq 0x0101), 3, 1⟩] } },
    0, true, ⟨5, some (rq 0x0101), 3, 1⟩, kD0, rq 0x0101, by decide +kernel⟩,
   ⟨st { vault (runs z (rq 0x0101)) [kD0] with keys := { (vault z [{ kD0 with intact := false }]).keys with fills := [⟨5, some (rq 0x0101), 3, 1⟩] } },
    0, true, ⟨5, some (rq 0x0101), 3, 1⟩, { kD0 with intact := false }, rq 0x0101, .keyIntegrity, by decide +kernel⟩,
   ⟨st (runs z (rq 0x0101)), 5, 0, 32, rq 0x0101, by unfold Dev.Runs; decide +kernel⟩,
   ⟨st (runs z (rq 0x0101)), 5, 63, 32, .d0, .aes, rq 0x0101, by unfold Dev.Runs; decide +kernel⟩,
   ⟨st (vault (runs z (rq 0x0101) laneCtx) []), 5, 2, 16, 31, 1, kD0.attrs, rq 0x0101, ⟨rep 16, .d0, .aes, false, false⟩,
    by unfold Dev.Runs; decide +kernel⟩⟩

theorem witness_TokensReturnAndHashAndBulkRun :
    (∃ (s : State) (c : Fin 512),
       s.dev.eng.tokens.find? (fun t => t.ctx == c.val) = none) ∧
    (∃ (s : State) (c : Fin 512) (t : Token) (r : Request),
       s.dev.eng.tokens.find? (fun t => t.ctx == c.val) = some t ∧ (s.dev.ctx c).req = some r) ∧
    (∃ (s : State) (h : Fin 16) (j : Job),
       (s.dev.hash h).curJob = some j ∧ s.dev.stopped 4 = false ∧ s.dev.eng.hashWait = []) ∧
    (∃ (s : State) (c : Fin 128) (j : Job) (r : BulkRec) (i : Instr) (op : Nat) (out : Status × Bytes),
       (s.dev.core c).curJob = some j ∧ j.finish = .bulk r ∧ r.desc.op = op ∧ j.blocks = 0 ∧ s.dev.stopped 4 = false ∧
       (i = .bulkEncrypt c ∧ op = 1 ∧
         out = (.ok, (gcmEnc r.key r.iv r.aad r.pay).1 ++ (gcmEnc r.key r.iv r.aad r.pay).2) ∨
         i = .gmacGenerate c ∧ op = 3 ∧ out = (.ok, (gcmEnc r.key r.iv r.aad []).2) ∨
         i = .bulkDecrypt c ∧ op = 2 ∧ out = (match gcmDec r.key r.iv r.aad r.pay r.tag with
         | some pay => (.ok, pay) | none => (.verifyFailed, [])) ∨
         i = .gmacVerify c ∧ op = 4 ∧ out = (if (gcmEnc r.key r.iv r.aad []).2 = r.tag then (.ok, []) else (.verifyFailed, [])))) ∧
    (∃ key iv aad pay : Bytes,
       aesLen key.length = true ∧ iv.length = 12) :=
  ⟨⟨st z, 511, by decide +kernel⟩,
   ⟨st { runs z (rq 0x0101) with eng := { z.eng with tokens := [⟨5, some (rq 0x0101), .xingTimeout⟩] } }, 5, ⟨5,
    some (rq 0x0101), .xingTimeout⟩, rq 0x0101, by decide +kernel⟩,
   ⟨st { z with eng := { z.eng with hashes := [(15, busy jb)] } }, 15, jb, by decide +kernel⟩,
   ⟨st { z with eng := { z.eng with cores := [(127, busy bulkJob)] } }, 127, bulkJob, bulkRec, .gmacGenerate 127, 3, (.ok,
    (gcmEnc (rep 16) (rep 12) [] []).2), by decide +kernel, rfl, rfl, rfl, by decide +kernel, .inr (.inl ⟨rfl, rfl, rfl⟩)⟩,
   ⟨rep 24, rep 12, [], [7], by decide +kernel⟩⟩

theorem witness_CipherCoresClaimRunAndRelease :
    (∃ (s : State) (j : Job) (rest : List Job) (c : Nat),
       s.dev.workLevel s.perm.level < 2 ∧ s.dev.eng.ashWait = j :: rest ∧ s.dev.payCore = some c) ∧
    (∃ s : State,
       (2 ≤ s.dev.workLevel s.perm.level ∨ s.dev.eng.ashWait = [] ∨ s.dev.payCore = none)) ∧
    (∃ (s : State) (c : Fin 128) (j : Job),
       (s.dev.core c).curJob = some j ∧ s.dev.stopped 4 = false ∧ j.ran = true) ∧
    (∃ (s : State) (c : Fin 128) (b : Bool),
       ((s.dev.core c).curJob = none ∨ s.dev.stopped 4 = true)) ∧
    (∃ (s : State) (c : Fin 128) (j : Job) (st : Status),
       (s.dev.core c).curJob = some j ∧ s.dev.stopped 4 = false ∧
       s.dev.abortCause (s.dev.workLevel s.perm.level) j = some st) ∧
    (∃ (s : State) (c : Fin 128) (j : Job) (st : Status),
       (s.dev.core c).nextJob = some j ∧ s.dev.stopped 4 = false ∧
       s.dev.abortCause (s.dev.workLevel s.perm.level) j = some st) ∧
    (∃ (s : State) (h : Fin 16) (j : Job) (st : Status),
       (s.dev.hash h).curJob = some j ∧ s.dev.stopped 4 = false ∧
       s.dev.abortCause (s.dev.workLevel s.perm.level) j = some st ∧ s.dev.eng.hashWait = []) ∧
    (∃ (s : State) (c : Fin 128) (b : Bool),
       (∀ j, (s.dev.core c).curJob = some j →
         s.dev.abortCause (s.dev.workLevel s.perm.level) j = none)) :=
  ⟨⟨st { z with eng := { z.eng with ashWait := [jb] } }, jb, [], ((z.payCore).getD 128), by decide +kernel⟩,
   ⟨st z, by decide +kernel⟩,
   ⟨st { z with eng := { z.eng with cores := [(0, busy jb)] } }, 0, jb, by decide +kernel⟩,
   ⟨st z, 127, true, by decide +kernel⟩,
   ⟨st { z with eng := { z.eng with cores := [(127, busy { jb with abort := true })] } }, 127, { jb with abort := true },
    .aborted, by decide +kernel⟩,
   ⟨st { z with eng := { z.eng with cores := [(127, { Core.idle with nextJob := some { jb with gen := 1 } })] } }, 127,
    { jb with gen := 1 }, .aborted, by decide +kernel⟩,
   ⟨st { z with eng := { z.eng with hashes := [(0, busy jb)] } } (lvl 2), 0, jb, .aborted, by decide +kernel⟩,
   ⟨st z, 0, true, by intro j h; cases h⟩⟩

theorem witness_PinFunctionsTakeOneStep :
    (∃ (s : State) (c : Fin 512) (r : Request) (ks : List Obj),
       s.dev.LaneFree ∧ s.dev.on R.RN_STATUS_FAIL = false ∧
       s.dev.Ready c 0x0101 r [panFault (r.digits 3), formatFault (r.num 1) (some (r.tlv 4)), formatFault (r.num 2) none,
         r.keyForm 0 true, r.keyForm 1 false, failIf (!(s.dev.ctx c).permits ((formatIndex (r.num 1)).getD 0)
         ((formatIndex (r.num 2)).getD 0)) .translationDenied]
         [r.wantPin 0 (r.num 1), r.want 1 (p0Fits (r.num 2) true)] [] ks) ∧
    (∃ (s : State) (c : Fin 512) (r : Request) (ks : List Obj),
       s.dev.LaneFree ∧
       s.dev.Ready c 0x0110 r [panFault (r.digits 2), formatFault (r.num 1) (some (r.tlv 3)), checkFault (r.num 5) (r.tlv 4),
         digitsFault (r.digits 6) (r.num 5), r.keyForm 0 true, r.keyForm 1 false, r.keyForm 2 false]
         [r.wantPin 0 (r.num 1), r.want 1 (verifyKeyFits .v1 .verify), r.want 2 dectabFits] [] ks) ∧
    (∃ (s : State) (c : Fin 512) (r : Request) (ks : List Obj),
       s.dev.LaneFree ∧
       s.dev.Ready c 0x0111 r [panFault (r.digits 2), formatFault (r.num 1) (some (r.tlv 3)), failIf (r.num 4 > 6) .inputRange,
         digitsFault (r.digits 5) 4, r.keyForm 0 true, r.keyForm 1 false]
         [r.wantPin 0 (r.num 1), r.want 1 (verifyKeyFits .v2 .verify)] [] ks) ∧
    (∃ (s : State) (c : Fin 512) (r : Request) (ks : List Obj),
       s.dev.LaneFree ∧ s.dev.on R.RN_STATUS_FAIL = false ∧
       s.dev.Ready c 0x0120 r [panFault (r.digits 5), formatFault (r.num 4) none, checkFault (r.num 2) (r.tlv 6),
         failIf (r.num 1 < (s.dev.ctx c).pinMin || r.num 1 > (s.dev.ctx c).pinMax || r.num 1 < r.num 2 || r.num 3 > 1)
         .inputRange, r.keyForm 0 false, r.keyForm 1 false, r.keyForm 2 true]
         [r.want 0 (verifyKeyFits .v1 .gen), r.want 1 dectabFits, r.want 2 (p0Fits (r.num 4) true)] [] ks) ∧
    (∃ (s : State) (c : Fin 512) (r : Request) (ks : List Obj),
       s.dev.LaneFree ∧
       s.dev.Ready c 0x0121 r [panFault (r.digits 2), formatFault (r.num 1) (some (r.tlv 3)), checkFault (r.num 5) (r.tlv 4),
         r.keyForm 0 true, r.keyForm 1 false, r.keyForm 2 false]
         [r.wantPin 0 (r.num 1), r.want 1 (verifyKeyFits .v1 .gen), r.want 2 dectabFits] [] ks) ∧
    (∃ (s : State) (c : Fin 512) (r : Request) (ks : List Obj),
       s.dev.LaneFree ∧
       s.dev.Ready c 0x0122 r [panFault (r.digits 2), formatFault (r.num 1) (some (r.tlv 3)), failIf (r.num 4 > 6) .inputRange,
         r.keyForm 0 true, r.keyForm 1 false]
         [r.wantPin 0 (r.num 1), r.want 1 (verifyKeyFits .v2 .gen)] [] ks) ∧
    (∃ (s : State) (c : Fin 512) (r : Request) (ks : List Obj),
       s.dev.LaneFree ∧ s.dev.on R.RN_STATUS_FAIL = false ∧
       s.dev.Ready c 0x0123 r [panFault (r.digits 3), formatFault (r.num 2) none,
         failIf (r.num 1 < (s.dev.ctx c).pinMin || r.num 1 > (s.dev.ctx c).pinMax || r.num 4 > 6) .inputRange,
         r.keyForm 0 false, r.keyForm 1 true]
         [r.want 0 (verifyKeyFits .v2 .gen), r.want 1 (p0Fits (r.num 2) true)] [] ks) ∧
    (∃ (s : State) (c : Fin 512) (r : Request) (ks : List Obj),
       s.dev.LaneFree ∧
       s.dev.Ready c 0x0130 r [panFault (r.digits 2), formatFault (r.num 1) (some (r.tlv 3)),
         formatFault (r.num 1) (some (r.tlv 4)), checkFault (r.num 6) (r.tlv 5), digitsFault (r.digits 7) (r.num 6),
         r.keyForm 0 true, r.keyForm 1 true, r.keyForm 2 false, r.keyForm 3 false]
         [r.wantPin 0 (r.num 1), r.wantPin 1 (r.num 1), r.want 2 (verifyKeyFits .v1 .both), r.want 3 dectabFits] [] ks) ∧
    (∃ (s : State) (c : Fin 512) (r : Request) (ks : List Obj),
       s.dev.LaneFree ∧
       s.dev.Ready c 0x0131 r [panFault (r.digits 2), formatFault (r.num 1) (some (r.tlv 3)),
         formatFault (r.num 1) (some (r.tlv 4)), failIf (r.num 5 > 6) .inputRange, digitsFault (r.digits 6) 4,
         r.keyForm 0 true, r.keyForm 1 true, r.keyForm 2 false]
         [r.wantPin 0 (r.num 1), r.wantPin 1 (r.num 1), r.want 2 (verifyKeyFits .v2 .both)] [] ks) ∧
    (∃ (s : State) (c : Fin 512) (r : Request) (ks : List Obj),
       s.dev.LaneFree ∧
       s.dev.Ready c 0x0150 r [panFault (r.digits 1), cvvFault r (r.num 4), r.keyForm 0 false]
         [r.want 0 (verifyKeyFits .c0 .gen)] [] ks) ∧
    (∃ (s : State) (c : Fin 512) (r : Request) (ks : List Obj),
       s.dev.LaneFree ∧
       s.dev.Ready c 0x0151 r [panFault (r.digits 1), cvvFault r (r.tlv 4).length, digitsFault (r.digits 4) (r.tlv 4).length,
         r.keyForm 0 false] [r.want 0 (verifyKeyFits .c0 .verify)] [] ks) :=
  ⟨⟨st (fn 0x0101 [(1, [0]), (2, [0]), (3, pan16), (4, rep 8)] [kP0, kP0]), 5, fr 0x0101 [(1, [0]), (2, [0]), (3, pan16),
    (4, rep 8)] 2, [kP0, kP0], by unfold Dev.Ready Dev.LaneFree Dev.Runs; decide +kernel⟩,
   ⟨st (fn 0x0110 [(1, [0]), (2, pan16), (3, rep 8), (4, rep 8), (5, [4]), (6, rep 4 0x39)] [kP0, kV1, kTab]), 5,
    fr 0x0110 [(1, [0]), (2, pan16), (3, rep 8), (4, rep 8), (5, [4]), (6, rep 4 0x39)] 3, [kP0, kV1, kTab],
    by unfold Dev.Ready Dev.LaneFree Dev.Runs; decide +kernel⟩,
   ⟨st (fn 0x0111 [(1, [3]), (2, pan16), (3, rep 8), (4, [6]), (5, rep 4 0x39)] [kP0, kV2]), 5, fr 0x0111 [(1, [3]), (2,
    pan16), (3, rep 8), (4, [6]), (5, rep 4 0x39)] 2, [kP0, kV2],
    by unfold Dev.Ready Dev.LaneFree Dev.Runs; decide +kernel⟩,
   ⟨st (fn 0x0120 [(1, [12]), (2, [12]), (3, [1]), (4, [0]), (5, pan16), (6, rep 8)] [kV1, kTab, kP0]), 5, fr 0x0120 [(1,
    [12]), (2, [12]), (3, [1]), (4, [0]), (5, pan16), (6, rep 8)] 3, [kV1, kTab, kP0],
    by unfold Dev.Ready Dev.LaneFree Dev.Runs; decide +kernel⟩,
   ⟨st (fn 0x0121 [(1, [1]), (2, pan16), (3, rep 8), (4, rep 8), (5, [12])] [kP0, kV1, kTab]), 5, fr 0x0121 [(1, [1]), (2,
    pan16), (3, rep 8), (4, rep 8), (5, [12])] 3, [kP0, kV1, kTab],
    by unfold Dev.Ready Dev.LaneFree Dev.Runs; decide +kernel⟩,
   ⟨st (fn 0x0122 [(1, [0]), (2, pan16), (3, rep 8), (4, [0])] [kP0, kV2]), 5, fr 0x0122 [(1, [0]), (2, pan16), (3,
    rep 8), (4, [0])] 2, [kP0, kV2], by unfold Dev.Ready Dev.LaneFree Dev.Runs; decide +kernel⟩,
   ⟨st (fn 0x0123 [(1, [4]), (2, [0]), (3, pan16), (4, [6])] [kV2, kP0]), 5, fr 0x0123 [(1, [4]), (2, [0]), (3, pan16),
    (4, [6])] 2, [kV2, kP0], by unfold Dev.Ready Dev.LaneFree Dev.Runs; decide +kernel⟩,
   ⟨st (fn 0x0130 [(1, [0]), (2, pan16), (3, rep 8), (4, rep 8), (5, rep 8), (6, [4]), (7, rep 4 0x30)] [kP0, kP0, kV1,
    kTab]), 5, fr 0x0130 [(1, [0]), (2, pan16), (3, rep 8), (4, rep 8), (5, rep 8), (6, [4]), (7, rep 4 0x30)] 4, [kP0,
    kP0, kV1, kTab], by unfold Dev.Ready Dev.LaneFree Dev.Runs; decide +kernel⟩,
   ⟨st (fn 0x0131 [(1, [0]), (2, pan16), (3, rep 8), (4, rep 8), (5, [6]), (6, rep 4 0x30)] [kP0, kP0, kV2]), 5,
    fr 0x0131 [(1, [0]), (2, pan16), (3, rep 8), (4, rep 8), (5, [6]), (6, rep 4 0x30)] 3, [kP0, kP0, kV2],
    by unfold Dev.Ready Dev.LaneFree Dev.Runs; decide +kernel⟩,
   ⟨st (fn 0x0150 [(1, pan16), (2, rep 4 0x30), (3, rep 3 0x31), (4, [5])] [kC0]), 5, fr 0x0150 [(1, pan16), (2,
    rep 4 0x30), (3, rep 3 0x31), (4, [5])] 1, [kC0], by unfold Dev.Ready Dev.LaneFree Dev.Runs; decide +kernel⟩,
   ⟨st (fn 0x0151 [(1, pan16), (2, rep 4 0x30), (3, rep 3 0x31), (4, rep 3 0x35)] [kC0]), 5, fr 0x0151 [(1, pan16), (2,
    rep 4 0x30), (3, rep 3 0x31), (4, rep 3 0x35)] 1, [kC0], by unfold Dev.Ready Dev.LaneFree Dev.Runs; decide +kernel⟩⟩

theorem witness_PinFieldsHoldTheirPin :
    (∃ (f lo hi : Nat) (pin fill : List Nat),
       formatIndex f ≠ none ∧ 4 ≤ pin.length ∧ pin.length ≤ 12 ∧ (∀ x ∈ pin, x < 10)) ∧
    (∃ (f lo hi : Nat) (pin fill : List Nat), ∃ x,
       formatIndex f ≠ none ∧ 4 ≤ pin.length ∧ pin.length ≤ 12 ∧ (∀ x ∈ pin, x < 10) ∧ x ∈ pinField f pin fill) ∧
    (∃ (natural pin offset : List Nat) (len : Nat),
       (∀ x ∈ natural, x < 10) ∧ (∀ x ∈ pin, x < 10) ∧ (∀ x ∈ offset, x < 10)) :=
  ⟨⟨4, 4, 12, [0, 1, 2, 3, 4, 5, 6, 7, 8, 9, 0, 1], [], by decide +kernel⟩,
   ⟨3, 4, 12, [0, 9, 2, 3], [], 3, by decide +kernel⟩,
   ⟨[1, 2, 3, 9], [1, 2, 3, 4], [0, 0, 0, 5], 4, by decide +kernel⟩⟩

theorem witness_PublicFaultsEndAFunction :
    (∃ (s : State) (c : Fin 512) (r : Request) (i : Instr) (func tag : Nat),
       s.dev.Runs c r ∧ r.func = func ∧ s.dev.cacheBusy r.bay r.handles = false ∧ panOk (r.digits tag) = false ∧
       (i, func, tag) ∈ [(Instr.pinTranslation c, 0x0101, 3), (.pinVerifyOffset c, 0x0110, 2), (.pinVerifyPvv c, 0x0111, 2),
         (.pinOffsetGeneration c, 0x0120, 5), (.offsetFromChosenPin c, 0x0121, 2), (.pvvFromChosenPin c, 0x0122, 2),
         (.randomPinPvvGeneration c, 0x0123, 3), (.pinChangeOffset c, 0x0130, 2), (.pinChangePvv c, 0x0131, 2),
         (.cvvGeneration c, 0x0150, 1), (.cvvVerification c, 0x0151, 1), (.arqcVerification c, 0x0220, 1),
         (.arqcVerifyArpcGeneration c, 0x0221, 1), (.arpcGeneration c, 0x0222, 1), (.issuerScriptMac c, 0x0223, 1),
         (.issuerScriptEncryption c, 0x0224, 1), (.ff1Tokenization c, 0x0240, 1), (.ff1Detokenization c, 0x0241, 1),
         (.vaultTokenization c, 0x0242, 1), (.vaultDetokenization c, 0x0243, 1), (.vaultTokenRetirement c, 0x0244, 1)]) ∧
    (∃ (s : State) (c : Fin 512) (r : Request) (i : Instr) (func : Nat),
       s.dev.Runs c r ∧ r.func = func ∧ s.dev.cacheBusy r.bay r.handles = true ∧ r.bay < 256 ∧
       (i, func) ∈ [(Instr.pinTranslation c, 0x0101), (.macGeneration c, 0x0140), (.dukptDataDecryption c, 0x0210),
         (.arqcVerification c, 0x0220), (.keyBlockExport c, 0x0231), (.ff1Tokenization c, 0x0240), (.ecdh c, 0x0503)]) ∧
    (∃ (s : State) (c : Fin 512) (r : Request) (o : Obj) (n : Nat),
       s.dev.Runs c r ∧ r.func = 0x0150 ∧ s.dev.cacheBusy r.bay r.handles = false ∧
       firstFault [panFault (r.digits 1), cvvFault r (r.num 4), r.keyForm 0 false] = none ∧
       (s.dev.resolve c r.bay [r.want 0 (verifyKeyFits .c0 .gen)] []).1 = .keys [o] ∧ s.dev.payCore = some n ∧
       s.dev.stopped 4 = true) ∧
    (∃ (s : State) (c : Fin 512) (r : Request) (o : Obj),
       s.dev.Runs c r ∧ r.func = 0x0150 ∧ s.dev.cacheBusy r.bay r.handles = false ∧
       firstFault [panFault (r.digits 1), cvvFault r (r.num 4), r.keyForm 0 false] = none ∧
       (s.dev.resolve c r.bay [r.want 0 (verifyKeyFits .c0 .gen)] []).1 = .keys [o] ∧ s.dev.payCore = none) :=
  ⟨⟨st (runs z (rq 0x0101 [⟨3, rep 11 0x31⟩])), 5, rq 0x0101 [⟨3, rep 11 0x31⟩], .pinTranslation 5, 0x0101, 3,
    by unfold Dev.Runs; decide +kernel⟩,
   ⟨st ((fn 0x0101 [] [kP0]).setEff R.KC_BAY_QUOTA 0 0 3), 5, fr 0x0101 [] 1, .pinTranslation 5, 0x0101,
    by unfold Dev.Runs; decide +kernel⟩,
   ⟨st { fn 0x0150 [(1, pan16), (2, rep 4 0x30), (3, rep 3 0x31), (4, [5])] [kC0] with wires := { z.wires with stoppedClocks := [4] } },
    5, fr 0x0150 [(1, pan16), (2, rep 4 0x30), (3, rep 3 0x31), (4, [5])] 1, kC0, 13, by unfold Dev.Runs; decide +kernel⟩,
   ⟨st ((fn 0x0150 [(1, pan16), (2, rep 4 0x30), (3, rep 3 0x31), (4,
    [5])] [kC0]).setEff R.SC_CORE_SPLIT_PAY_CORES 0 |>.setEff R.SC_CORE_SPLIT_PAY_BORROW 0), 5, fr 0x0150 [(1, pan16), (2,
    rep 4 0x30), (3, rep 3 0x31), (4, [5])] 1, kC0, by unfold Dev.Runs; decide +kernel⟩⟩

theorem witness_MacAndDukptFunctionsAnswer :
    (∃ (s : State) (c : Fin 512) (r : Request) (ks : List Obj),
       s.dev.Ready c 0x0140 r [macFault (r.num 1) (r.num 2) (r.num 3) (r.tlv 4), r.keyForm 0 true] [r.wantMac (r.num 1) true] []
         ks ∧
       macKeyFault (r.num 1) (r.num 3) (ks.getD 0 default) = none) ∧
    (∃ (s : State) (c : Fin 512) (r : Request) (ks : List Obj),
       s.dev.Ready c 0x0141 r [macFault (r.num 1) (r.num 2) (r.tlv 3).length (r.tlv 4),
         failIf ((r.tlv 3).length < (s.dev.ctx c).macMin) .macLength, r.keyForm 0 true] [r.wantMac (r.num 1) false] [] ks ∧
       macKeyFault (r.num 1) (r.tlv 3).length (ks.getD 0 default) = none) ∧
    (∃ (s : State) (c : Fin 512) (r : Request),
       s.dev.Runs c r ∧ r.func = 0x0141 ∧ s.dev.cacheBusy r.bay r.handles = false ∧
       macFault (r.num 1) (r.num 2) (r.tlv 3).length (r.tlv 4) = none ∧ (r.tlv 3).length < (s.dev.ctx c).macMin) ∧
    (∃ (s : State) (c : Fin 512) (r : Request) (ks : List Obj),
       s.dev.Ready c 0x0210 r [dukptDataFault r] [wantBdk r] [] ks) ∧
    (∃ (s : State) (c : Fin 512) (r : Request) (ks : List Obj),
       let i := nonceIndex r.bay (r.handle 1)
       s.dev.Ready c 0x0211 r [dukptDataFault r, r.keyForm 1 false] [wantBdk r, { handle := r.handle 1, fits := d0Fits }] [i] ks ∧
       s.dev.NonceFree i) ∧
    (∃ (s : State) (c : Fin 512) (r : Request) (b k ik : Obj) (key : Bytes) (bFits : Obj → Bool)
        (bForm : Obj → Option Status),
       let id := r.tlv 1
       let aes := decide (id.length = 8)
       bFits = (fun o => o.attrs.usage = .b0 && (bdkFits o .aes || bdkFits o .tdes)) ∧
       bForm = (fun o => if decide (o.attrs.alg = .aes) ≠ aes then some .ksnFormat
         else if o.attrs.keySetId ≠ [] ∧ id.take o.attrs.keySetId.length ≠ o.attrs.keySetId then some .bdkMismatch else none) ∧
       s.dev.Ready c 0x0212 r [failIf (id.length ≠ 8 && id.length ≠ 10) .ksnFormat, exportFault (r.num 2), r.keyForm 0 false,
         r.keyForm 1 false] [{ handle := r.handle 0, fits := bFits, after := bForm },
         { handle := r.handle 1, fits := kbpkFits [.k1] true }] [] [b, k] ∧
       key = (if aes then aesInitialKey b.key id else tdesInitialKey b.key id) ∧
       ik = { b with key := key, attrs := { b.attrs with
         usage := .b1, mode := .x, keySetId := if aes then [] else ksnBase id, initialKeyId := if aes then id else ksnBase id } } ∧
       exportRefusal k ik = none ∧ s.dev.on R.RN_STATUS_FAIL = false) :=
  ⟨⟨st (fn 0x0140 [(1, [3]), (2, [0]), (3, [16]), (4, [])] [kM6]), 5, fr 0x0140 [(1, [3]), (2, [0]), (3, [16]), (4,
    [])] 1, [kM6], by unfold Dev.Ready Dev.Runs; decide +kernel⟩,
   ⟨st (fn 0x0141 [(1, [3]), (2, [0]), (3, rep 4), (4, [])] [kM6]), 5, fr 0x0141 [(1, [3]), (2, [0]), (3, rep 4), (4,
    [])] 1, [kM6], by unfold Dev.Ready Dev.Runs; decide +kernel⟩,
   ⟨st (runs z (rq 0x0141 (tv [(1, [3]), (2, [0]), (3, rep 4), (4, [])])) { Ctx.empty with policy := [0, 0, 5] }), 5,
    rq 0x0141 (tv [(1, [3]), (2, [0]), (3, rep 4), (4, [])]), by unfold Dev.Runs; decide +kernel⟩,
   ⟨st (fn 0x0210 [(1, rep 11 0 ++ [1]), (2, [2]), (3, rep 16), (4, rep 16)] [kB0]), 5, fr 0x0210 [(1, rep 11 0 ++ [1]),
    (2, [2]), (3, rep 16), (4, rep 16)] 1, [kB0], by unfold Dev.Ready Dev.Runs; decide +kernel⟩,
   ⟨st (fn 0x0211 [(1, rep 11 0 ++ [1]), (2, [2]), (3, rep 16), (4, rep 16)] [kB0, kD0]), 5, fr 0x0211 [(1,
    rep 11 0 ++ [1]), (2, [2]), (3, rep 16), (4, rep 16)] 2, [kB0, kD0],
    by unfold Dev.Ready Dev.NonceFree Dev.Runs; decide +kernel⟩,
   ⟨st (fn 0x0212 [(1, rep 8), (2, [3])] [kB0, sym .k1 .aes .b (rep 32)]), 5, fr 0x0212 [(1, rep 8), (2, [3])] 2, kB0,
    sym .k1 .aes .b (rep 32),
    { kB0 with key := aesInitialKey (rep 16) (rep 8), attrs := { kB0.attrs with usage := .b1, mode := .x, keySetId := [], initialKeyId := rep 8 } },
    aesInitialKey (rep 16) (rep 8), fun o => o.attrs.usage = .b0 && (bdkFits o .aes || bdkFits o .tdes),
    fun o => if decide (o.attrs.alg = .aes) ≠ true then some .ksnFormat else if o.attrs.keySetId ≠ [] ∧ (rep 8).take o.attrs.keySetId.length ≠ o.attrs.keySetId then some .bdkMismatch else none,
    rfl, rfl, by unfold Dev.Ready Dev.Runs; decide +kernel, rfl, by decide +kernel, by decide +kernel, by decide +kernel⟩⟩

theorem witness_EmvAndKeyBlockFunctionsAnswer :
    (∃ (s : State) (c : Fin 512) (r : Request) (o : Obj),
       s.dev.Ready c 0x0220 r [emvFault r, cryptogramFault r 6 false] [{ handle := r.handle 0, fits := emvFits .e0 }] [] [o]) ∧
    (∃ (s : State) (c : Fin 512) (r : Request) (o : Obj),
       s.dev.Ready c 0x0221 r [emvFault r, cryptogramFault r 8 true] [{ handle := r.handle 0, fits := emvFits .e0 }] [] [o]) ∧
    (∃ (s : State) (c : Fin 512) (r : Request) (o : Obj),
       s.dev.Ready c 0x0222 r [emvFault r, cryptogramFault r 8 true] [{ handle := r.handle 0, fits := emvFits .e0 }] [] [o]) ∧
    (∃ (s : State) (c : Fin 512) (r : Request) (o : Obj),
       s.dev.Ready c 0x0223 r [emvFault r, failIf ((r.tlv 4).length < 4 || (r.tlv 4).length > 255) .inputRange]
         [{ handle := r.handle 0, fits := emvFits .e2 }] [] [o]) ∧
    (∃ (s : State) (c : Fin 512) (r : Request) (o : Obj),
       s.dev.Ready c 0x0224 r [emvFault r, failIf ((r.tlv 4).length < 1 || (r.tlv 4).length > 240) .inputRange]
         [{ handle := r.handle 0, fits := emvFits .e1 }] [] [o]) ∧
    (∃ (s : State) (c : Fin 512) (r : Request) (h : KbHeader) (k : Obj) (fits : Obj → Bool) (key : Bytes) (n : Nat),
       fits = (fun o => kbpkFits [.k0, .k1] false o && o.attrs.alg = (if h.aes then .aes else .tdes)) ∧
       readKbHeader (r.tlv 1) = some h ∧
       s.dev.Ready c 0x0230 r [kbHeaderFault (r.tlv 1), kbOptionalFault h, r.keyForm 0 false]
         [{ handle := r.handle 0, fits := fits }] [kekIndex r.bay] [k] ∧
       (kbOpen (r.tlv 1) h k.key).toOption = some key ∧ importFault k h key = none ∧ s.dev.NonceFree (kekIndex r.bay) ∧
       (s.dev.resolve c r.bay [{ handle := r.handle 0, fits := fits }] [kekIndex r.bay]).2.nextObject r.bay = some n ∧
       (s.dev.resolve c r.bay [{ handle := r.handle 0, fits := fits }] [kekIndex r.bay]).2.quotaRoom r.bay
         (s.dev.newObj (importAttrs h) key).quotaBytes = true) ∧
    (∃ (s : State) (c : Fin 512) (r : Request) (h : KbHeader) (k : Obj) (fits : Obj → Bool) (st : Status),
       fits = (fun o => kbpkFits [.k0, .k1] false o && o.attrs.alg = (if h.aes then .aes else .tdes)) ∧
       readKbHeader (r.tlv 1) = some h ∧
       s.dev.Ready c 0x0230 r [kbHeaderFault (r.tlv 1), kbOptionalFault h, r.keyForm 0 false]
         [{ handle := r.handle 0, fits := fits }] [kekIndex r.bay] [k] ∧
       (match kbOpen (r.tlv 1) h k.key with | .error e => st = e | .ok key => importFault k h key = some st)) ∧
    (∃ (s : State) (c : Fin 512) (r : Request) (k o : Obj),
       s.dev.Ready c 0x0231 r [exportFault (r.num 1), r.keyForm 0 false, r.keyForm 1 false]
         [{ handle := r.handle 0, fits := kbpkFits [.k0, .k1] true }, { handle := r.handle 1, fits := subjectFits }] [] [k, o] ∧
       exportRefusal k o = none ∧ ((r.num 1).testBit 1 = true → o.attrs.alg ≠ .hmac) ∧ s.dev.on R.RN_STATUS_FAIL = false) ∧
    (∃ (s : State) (c : Fin 512) (r : Request) (k o : Obj) (st : Status),
       s.dev.Ready c 0x0231 r [exportFault (r.num 1), r.keyForm 0 false, r.keyForm 1 false]
         [{ handle := r.handle 0, fits := kbpkFits [.k0, .k1] true }, { handle := r.handle 1, fits := subjectFits }] [] [k, o] ∧
       exportRefusal k o = some st) ∧
    (∃ (s : State) (c : Fin 512) (r : Request) (o : Obj) (fits : Obj → Bool),
       fits = (fun o => subjectFits o && (o.attrs.alg = .aes || (o.attrs.alg = .tdes && r.num 1 == 0))) ∧
       s.dev.Ready c 0x0232 r [failIf (r.num 1 > 1) .inputRange, r.keyForm 0 false] [{ handle := r.handle 0, fits := fits }] []
         [o]) :=
  ⟨⟨st (fn 0x0220 [(1, pan16), (2, rep 2 0x30), (3, rep 2), (4, rep 1), (5, [15]), (6, rep 8)] [kE .e0]), 5,
    fr 0x0220 [(1, pan16), (2, rep 2 0x30), (3, rep 2), (4, rep 1), (5, [15]), (6, rep 8)] 1, kE .e0,
    by unfold Dev.Ready Dev.Runs; decide +kernel⟩,
   ⟨st (fn 0x0221 [(1, pan16), (2, rep 2 0x30), (3, rep 2), (4, rep 256), (5, [7]), (6, rep 2), (7, rep 8), (8,
    rep 8)] [kE .e0]), 5, fr 0x0221 [(1, pan16), (2, rep 2 0x30), (3, rep 2), (4, rep 256), (5, [7]), (6, rep 2), (7,
    rep 8), (8, rep 8)] 1, kE .e0, by unfold Dev.Ready Dev.Runs; decide +kernel⟩,
   ⟨st (fn 0x0222 [(1, pan16), (2, rep 2 0x30), (3, rep 2), (4, rep 1), (5, [8]), (6, rep 4), (7, []), (8,
    rep 8)] [kE .e0]), 5, fr 0x0222 [(1, pan16), (2, rep 2 0x30), (3, rep 2), (4, rep 1), (5, [8]), (6, rep 4), (7, []),
    (8, rep 8)] 1, kE .e0, by unfold Dev.Ready Dev.Runs; decide +kernel⟩,
   ⟨st (fn 0x0223 [(1, pan16), (2, rep 2 0x30), (3, rep 2), (4, rep 4)] [kE .e2]), 5, fr 0x0223 [(1, pan16), (2,
    rep 2 0x30), (3, rep 2), (4, rep 4)] 1, kE .e2, by unfold Dev.Ready Dev.Runs; decide +kernel⟩,
   ⟨st (fn 0x0224 [(1, pan16), (2, rep 2 0x30), (3, rep 2), (4, rep 240)] [kE .e1]), 5, fr 0x0224 [(1, pan16), (2,
    rep 2 0x30), (3, rep 2), (4, rep 240)] 1, kE .e1, by unfold Dev.Ready Dev.Runs; decide +kernel⟩,
   ⟨st (fn 0x0230 [(1, block1)] [kK0]), 5, fr 0x0230 [(1, block1)] 1, (readKbHeader block1).getD default, kK0, _, rep 32,
    2, rfl, by decide +kernel, by unfold Dev.Ready Dev.Runs; decide +kernel, by decide +kernel, by decide +kernel,
    by unfold Dev.NonceFree; decide +kernel, by decide +kernel, by decide +kernel⟩,
   ⟨st (fn 0x0230 [(1, block2)] [kK0]), 5, fr 0x0230 [(1, block2)] 1, (readKbHeader block2).getD default, kK0, _,
    .kbHeader, rfl, by decide +kernel, by unfold Dev.Ready Dev.Runs; decide +kernel, by simp only [block2_refused]⟩,
   ⟨st (fn 0x0231 [(1, [3])] [kK0, kD0]), 5, fr 0x0231 [(1, [3])] 2, kK0, kD0,
    by unfold Dev.Ready Dev.Runs; decide +kernel⟩,
   ⟨st (fn 0x0231 [(1, [0])] [kK0, sym .d0 .aes .b (rep 32) false]), 5, fr 0x0231 [(1, [0])] 2, kK0,
    sym .d0 .aes .b (rep 32) false, .kbExport, by unfold Dev.Ready Dev.Runs; decide +kernel⟩,
   ⟨st (fn 0x0232 [(1, [1])] [kM6]), 5, fr 0x0232 [(1, [1])] 1, kM6,
    fun o => subjectFits o && (o.attrs.alg = .aes || (o.attrs.alg = .tdes && (1 : Nat) == 0)), rfl,
    by unfold Dev.Ready Dev.Runs; decide +kernel⟩⟩

theorem witness_KeyManagementWritesRecords :
    (∃ (s : State) (c : Fin 512) (r : Request) (k : NewKey) (n : Nat),
       newKey r false = some k ∧ k.session = false ∧ r.tlv? 10 = none ∧
       s.dev.Ready c 0x0301 r [failIf (!s.dev.rootPresent) .rootAbsent] [] [kekIndex r.bay] [] ∧
       s.dev.NonceFree (kekIndex r.bay) ∧ s.dev.nextObject r.bay = some n ∧
       (∀ key : Bytes, key.length = k.len → s.dev.quotaRoom r.bay (s.dev.newObj k.attrs key).quotaBytes = true)) ∧
    (∃ (s : State) (c : Fin 512) (r : Request) (k : NewKey) (slot : Nat),
       newKey r false = some k ∧ k.session = true ∧ r.tlv? 10 = none ∧
       s.dev.Ready c 0x0301 r [failIf (!s.dev.rootPresent) .rootAbsent] [] [] [] ∧ s.dev.on R.RN_STATUS_FAIL = false ∧
       s.dev.nextSlot r.bay = some slot ∧ (s.dev.resolve c r.bay [] []).2.sessionRoom r.bay ((k.len + 63) / 64) = true) ∧
    (∃ (s : State) (c : Fin 512) (r : Request) (k : NewKey) (n : Nat),
       newKey r true = some k ∧ k.session = false ∧ (r.tlv? 10).isSome = true ∧ s.dev.authStands 10 r.bay = true ∧
       s.dev.Ready c 0x0301 r [failIf (!s.dev.rootPresent) .rootAbsent] [] [kekIndex r.bay] [] ∧
       s.dev.NonceFree (kekIndex r.bay) ∧ s.dev.nextObject r.bay = some n ∧
       (∀ key : Bytes, key.length = k.len → s.dev.quotaRoom r.bay (s.dev.newObj k.attrs key).quotaBytes = true)) ∧
    (∃ (s : State) (c : Fin 512) (r : Request) (k : NewKey),
       newKey r true = some k ∧ (r.tlv? 10).isSome = true ∧ s.dev.Runs c r ∧ r.func = 0x0301 ∧
       s.dev.cacheBusy r.bay r.handles = false ∧ s.dev.authStands 10 r.bay = false) ∧
    (∃ (s : State) (c : Fin 512) (r : Request) (o : Obj),
       bitOf (r.num 1) 31 = false ∧ s.dev.rootPresent = true ∧ s.dev.lookup r.bay (r.num 1) = .key o ∧
       s.dev.Ready c 0x0302 r [] [] [kekIndex r.bay] [] ∧ s.dev.NonceFree (kekIndex r.bay)) ∧
    (∃ (s : State) (c : Fin 512) (r : Request) (o : Obj),
       bitOf (r.num 1) 31 = true ∧ s.dev.rootPresent = true ∧ s.dev.lookup r.bay (r.num 1) = .key o ∧ s.dev.Runs c r ∧
       r.func = 0x0302 ∧ s.dev.cacheBusy r.bay r.handles = false) ∧
    (∃ (s : State) (c : Fin 512) (r : Request) (o : Obj) (a : Attrs),
       bitOf (r.num 1) 31 = false ∧ s.dev.rootPresent = true ∧ s.dev.lookup r.bay (r.num 1) = .key o ∧
       attrChange (s.dev.newestObj r.bay (r.num 1) o).attrs (r.tlv 2) = .to_ a ∧
       s.dev.Ready c 0x0303 r [] [] [kekIndex r.bay] [] ∧ s.dev.NonceFree (kekIndex r.bay)) ∧
    (∃ (s : State) (c : Fin 512) (r : Request) (o : Obj) (st : Status),
       s.dev.rootPresent = true ∧ s.dev.lookup r.bay (r.num 1) = .key o ∧ s.dev.Runs c r ∧ r.func = 0x0303 ∧
       s.dev.cacheBusy r.bay r.handles = false ∧
       (let x := if bitOf (r.num 1) 31 then o else s.dev.newestObj r.bay (r.num 1) o; attrChange x.attrs (r.tlv 2) = .refused ∧ st = .attrImmutable ∨ attrChange x.attrs (r.tlv 2) = .same ∧ st = .ok)) ∧
    (∃ (a b : Attrs) (v : Bytes),
       attrChange a v = .to_ b) :=
  ⟨⟨st (vault (runs z (rq 0x0301 newD0)) []), 5, rq 0x0301 newD0, (newKey (rq 0x0301 newD0) false).getD default, 1,
    by decide +kernel, by decide +kernel, by decide +kernel, by unfold Dev.Ready Dev.Runs; decide +kernel,
    by unfold Dev.NonceFree; decide +kernel, by decide +kernel,
    by intro key hk; simp only [Dev.newObj, Obj.quotaBytes, hk]; decide +kernel⟩,
   ⟨st (vault (runs z (rq 0x0301 (newD0 ++ [⟨9, [1]⟩]))) []), 5, rq 0x0301 (newD0 ++ [⟨9, [1]⟩]),
    (newKey (rq 0x0301 (newD0 ++ [⟨9, [1]⟩])) false).getD default, 1, by unfold Dev.Ready Dev.Runs; decide +kernel⟩,
   ⟨st (auth 10 3 (vault (runs z (rq 0x0301 (newD0 ++ [⟨10, [8, 4, 2, 2, 1]⟩]))) [])), 5, rq 0x0301 (newD0 ++ [⟨10, [8, 4,
    2, 2, 1]⟩]), (newKey (rq 0x0301 (newD0 ++ [⟨10, [8, 4, 2, 2, 1]⟩])) true).getD default, 1, by decide +kernel,
    by decide +kernel, by decide +kernel, by decide +kernel, by unfold Dev.Ready Dev.Runs; decide +kernel,
    by unfold Dev.NonceFree; decide +kernel, by decide +kernel,
    by intro key hk; simp only [Dev.newObj, Obj.quotaBytes, hk]; decide +kernel⟩,
   ⟨st (auth 10 2 (runs z (rq 0x0301 (newD0 ++ [⟨10, [8, 4, 2, 2, 1]⟩])))), 5, rq 0x0301 (newD0 ++ [⟨10, [8, 4, 2, 2,
    1]⟩]), (newKey (rq 0x0301 (newD0 ++ [⟨10, [8, 4, 2, 2, 1]⟩])) true).getD default, by unfold Dev.Runs; decide +kernel⟩,
   ⟨st (fn 0x0302 [(1, beBytes 4 1)] [kD0]), 5, fr 0x0302 [(1, beBytes 4 1)] 1, kD0,
    by unfold Dev.Ready Dev.NonceFree Dev.Runs; decide +kernel⟩,
   ⟨st { fn 0x0302 [(1, beBytes 4 (2 ^ 31 + 1))] [] with keys := { (vault z []).keys with sess := [(sessIndex 3 1, ⟨kD0, 0, 0⟩)] } },
    5, fr 0x0302 [(1, beBytes 4 (2 ^ 31 + 1))] 0, kD0, by unfold Dev.Runs; decide +kernel⟩,
   ⟨st (fn 0x0303 [(1, beBytes 4 1), (2, [2, 0, 0, 0, 9])] [kD0]), 5, fr 0x0303 [(1, beBytes 4 1), (2, [2, 0, 0, 0,
    9])] 1, kD0, { kD0.attrs with notAfter := 9 }, by unfold Dev.Ready Dev.NonceFree Dev.Runs; decide +kernel⟩,
   ⟨st (fn 0x0303 [(1, beBytes 4 1), (2, [1, 0x45])] [kD0]), 5, fr 0x0303 [(1, beBytes 4 1), (2, [1, 0x45])] 1, kD0, .ok,
    by decide +kernel, by decide +kernel, ⟨rfl, rfl⟩, by decide +kernel, by decide +kernel, .inr ⟨by decide +kernel, rfl⟩⟩,
   ⟨kD0.attrs, { kD0.attrs with exportable := false }, [1, 0x4E], by decide +kernel⟩⟩

theorem witness_TokensAreMadeAndFound :
    (∃ (s : State) (c : Fin 512) (r : Request) (o : Obj) (i : Instr) (func : Nat) (modes : List ModeOfUse)
        (out : List Nat × List Nat × List Nat → List Nat),
       (i = .ff1Tokenization c ∧ func = 0x0240 ∧ modes = [.e, .b] ∧
         panProfileFault o.profile ((r.digits 1).getD []) = none ∧ out = (fun u => joinToken o.profile u.1
         (ff1Enc o.key (ff1Tweak o.profile u.1 u.2.2 (r.tlv 2)) u.2.1) u.2.2) ∨
         i = .ff1Detokenization c ∧ func = 0x0241 ∧ modes = [.d, .b] ∧
         tokenProfileFault o.profile ((r.digits 1).getD []) = none ∧ out = (fun u => joinPan o.profile u.1
         (ff1Dec o.key (ff1Tweak o.profile u.1 u.2.2 (r.tlv 2)) u.2.1) u.2.2)) ∧
       s.dev.Ready c func r [failIf (!panOk (r.digits 1)) .panFormat, failIf ((r.tlv 2).length > 16) .inputRange,
         r.keyForm 0 false] [{ handle := r.handle 0, fits := tokenFits false modes }] [] [o]) ∧
    (∃ (key given : Bytes) (p : TokenProfile) (pan : List Nat),
       (∀ x ∈ pan, x < 10) ∧ panProfileFault p pan = none) ∧
    (∃ (s : State) (c : Fin 512) (r : Request) (o : Obj) (e : TokenEntry),
       s.dev.Ready c 0x0242 r
         [failIf (!panOk (r.digits 1)) .panFormat, failIf ((r.tlv 2).length > 16) .inputRange, r.keyForm 0 false]
         [{ handle := r.handle 0, fits := tokenFits true [.e, .d, .b] }] [vaultKeyIndex r.bay] [o] ∧
       panProfileFault o.profile ((r.digits 1).getD []) = none ∧ s.dev.livePan r.bay ((r.digits 1).getD []) = some e) ∧
    (∃ (s : State) (c : Fin 512) (r : Request) (o : Obj) (t : List Nat),
       s.dev.Ready c 0x0242 r
         [failIf (!panOk (r.digits 1)) .panFormat, failIf ((r.tlv 2).length > 16) .inputRange, r.keyForm 0 false]
         [{ handle := r.handle 0, fits := tokenFits true [.e, .d, .b] }] [vaultKeyIndex r.bay] [o] ∧
       panProfileFault o.profile ((r.digits 1).getD []) = none ∧ s.dev.livePan r.bay ((r.digits 1).getD []) = none ∧
       s.dev.keys.slots.any (fun x => x.bay == r.bay && x.pan == (r.digits 1).getD []) = false ∧
       t = joinToken o.profile (splitDigits o.profile ((r.digits 1).getD [])).1
         (drawNibbles (splitDigits o.profile ((r.digits 1).getD [])).2.1.length 10
         ((List.range (8 * (splitDigits o.profile ((r.digits 1).getD [])).2.1.length)).map
         (fun i => Config.freeByte (s.dev.free + i)))) (splitDigits o.profile ((r.digits 1).getD [])).2.2 ∧
       t ≠ (r.digits 1).getD [] ∧ s.dev.tokenTaken r.bay t = false ∧ s.dev.NonceFree (vaultKeyIndex r.bay) ∧
       (s.dev.resolve c r.bay [{ handle := r.handle 0, fits := tokenFits true [.e, .d, .b] }]
         [vaultKeyIndex r.bay]).2.quotaRoom r.bay 128 = true) ∧
    (∃ (s : State) (c : Fin 512) (r : Request) (o : Obj) (n : Nat) (e : TokenEntry),
       s.dev.Ready c 0x0243 r
         [failIf (!panOk (r.digits 1)) .panFormat, r.keyForm 0 false]
         [{ handle := r.handle 0, fits := tokenFits true [.e, .d, .b] }] [] [o] ∧
       tokenProfileFault o.profile ((r.digits 1).getD []) = none ∧
       s.dev.liveToken r.bay ((r.digits 1).getD []) = some (n, e) ∧ e.format ≤ s.dev.get R.KT_FLEET_FLOOR_FORMAT_MAX) ∧
    (∃ (s : State) (c : Fin 512) (r : Request) (o : Obj) (i : Instr) (func : Nat) (ivs : List Nat),
       (i = .vaultDetokenization c ∧ func = 0x0243 ∧ ivs = [] ∨
         i = .vaultTokenRetirement c ∧ func = 0x0244 ∧ ivs = [vaultKeyIndex r.bay]) ∧
       s.dev.Ready c func r [failIf (!panOk (r.digits 1)) .panFormat, r.keyForm 0 false]
         [{ handle := r.handle 0, fits := tokenFits true [.e, .d, .b] }] ivs [o] ∧
       tokenProfileFault o.profile ((r.digits 1).getD []) = none ∧ s.dev.liveToken r.bay ((r.digits 1).getD []) = none) ∧
    (∃ (s : State) (c : Fin 512) (r : Request) (o : Obj) (n : Nat) (e : TokenEntry),
       s.dev.Ready c 0x0244 r
         [failIf (!panOk (r.digits 1)) .panFormat, r.keyForm 0 false]
         [{ handle := r.handle 0, fits := tokenFits true [.e, .d, .b] }] [vaultKeyIndex r.bay] [o] ∧
       tokenProfileFault o.profile ((r.digits 1).getD []) = none ∧
       s.dev.liveToken r.bay ((r.digits 1).getD []) = some (n, e) ∧ e.format ≤ s.dev.get R.KT_FLEET_FLOOR_FORMAT_MAX ∧
       s.dev.NonceFree (vaultKeyIndex r.bay)) ∧
    (∃ (s : State) (c : Fin 512) (r : Request) (o : Obj) (e : TokenEntry),
       (s.dev.ctx c).req = some r ∧ c.val ∈ s.dev.keys.slotWait ∧
       s.dev.keys.slots.any (fun x => x.bay == r.bay && x.pan == (r.digits 1).getD []) = false ∧
       s.dev.lookup r.bay (r.handle 0) = .key o ∧ s.dev.livePan r.bay ((r.digits 1).getD []) = some e) ∧
    (∃ (s : State) (c : Fin 512) (r : Request),
       (s.dev.ctx c).req = some r ∧
       s.dev.keys.slots.any (fun x => x.bay == r.bay && x.pan == (r.digits 1).getD []) = true) :=
  ⟨⟨st (fn 0x0240 [(1, pan16), (2, rep 16)] [kTok false]), 5, fr 0x0240 [(1, pan16), (2, rep 16)] 1, kTok false,
    .ff1Tokenization 5, 0x0240, [.e, .b],
    fun u => joinToken (kTok false).profile u.1 (ff1Enc (kTok false).key (ff1Tweak (kTok false).profile u.1 u.2.2 (rep 16)) u.2.1) u.2.2,
    .inl ⟨rfl, rfl, rfl, by decide +kernel, rfl⟩, by unfold Dev.Ready Dev.Runs; decide +kernel⟩,
   ⟨rep 16, [], ⟨6, 4, 0, 0, false⟩, panDigits, by decide +kernel⟩,
   ⟨st (tokens (fn 0x0242 [(1, pan16), (2, rep 16)] [kTok true])), 5, fr 0x0242 [(1, pan16), (2, rep 16)] 1, kTok true,
    entry1, by unfold Dev.Ready Dev.Runs; decide +kernel⟩,
   by
     by_cases h : made panDigits = panDigits
     · exact ⟨st (drawing panB), 5, drawReq panB, kTok true, made panB, by unfold Dev.Ready Dev.Runs; decide +kernel, by decide +kernel, by decide +kernel, by decide +kernel, rfl, fun h2 => absurd (h.symm.trans h2) (by decide), rfl, by unfold Dev.NonceFree; decide +kernel, by decide +kernel⟩
     · exact ⟨st (drawing panDigits), 5, drawReq panDigits, kTok true, made panDigits, by unfold Dev.Ready Dev.Runs; decide +kernel, by decide +kernel, by decide +kernel, by decide +kernel, rfl, h, rfl, by unfold Dev.NonceFree; decide +kernel, by decide +kernel⟩,
   ⟨st (tokens (fn 0x0243 [(1, rep 16 0x32)] [kTok true])), 5, fr 0x0243 [(1, rep 16 0x32)] 1, kTok true, 1, entry1,
    by unfold Dev.Ready Dev.Runs; decide +kernel⟩,
   ⟨st (tokens (fn 0x0244 [(1, rep 16 0x33)] [kTok true])), 5, fr 0x0244 [(1, rep 16 0x33)] 1, kTok true,
    .vaultTokenRetirement 5, 0x0244, [vaultKeyIndex 3], by unfold Dev.Ready Dev.Runs; decide +kernel⟩,
   ⟨st (tokens (fn 0x0244 [(1, rep 16 0x32)] [kTok true])), 5, fr 0x0244 [(1, rep 16 0x32)] 1, kTok true, 1, entry1,
    by unfold Dev.Ready Dev.NonceFree Dev.Runs; decide +kernel⟩,
   ⟨st { tokens (fn 0x0242 [(1, pan16)] [kTok true]) with keys := { (tokens (fn 0x0242 [(1, pan16)] [kTok true])).keys with slotWait := [5] } },
    5, fr 0x0242 [(1, pan16)] 1, kTok true, entry1, by decide +kernel⟩,
   ⟨st { fn 0x0242 [(1, pan16)] [] with keys := { z.keys with slots := [⟨3, panDigits, [], 7, 0⟩] } }, 5, fr 0x0242 [(1,
    pan16)] 0, by decide +kernel⟩⟩

theorem witness_PublicKeyFunctionsSendTheirJob :
    (∃ (s : State) (c : Fin 512) (r : Request) (i : Instr) (func n : Nat) (ks : List Obj) (form : Option Status)
        (ws : List Want),
       (i, func, n) ∈ [(Instr.ecdsaSignature c, 0x0501, 2), (.ecdsaVerification c, 0x0502, 5), (.ecdh c, 0x0503, 1),
         (.ed25519Signature c, 0x0504, 1), (.ed25519Verification c, 0x0505, 3), (.rsaSignature c, 0x0506, 3),
         (.rsaVerification c, 0x0507, 6), (.rsaPublicOperation c, 0x0508, 3), (.mlKemEncapsulation c, 0x0509, 2),
         (.mlKemDecapsulation c, 0x050A, 1), (.mlDsaSignature c, 0x050B, 2), (.mlDsaVerification c, 0x050C, 5)] ∧
       form = (if (pkKeyKinds func).isSome then failIf ((r.tlv 0x0081).length ≠ 4) .inputRange else none) ∧
       ws = (if (pkKeyKinds func).isSome then [{ handle := r.handle 0, fits := pkFits func }] else []) ∧
       s.dev.Ready c func r [form] ws [] ks ∧ s.dev.on R.RN_STATUS_FAIL = false) ∧
    (∃ (s : State) (c : Fin 512) (r : Request) (a : Attrs) (session : Bool),
       newPkAttrs r = some (a, session) ∧
       s.dev.Ready c 0x050D r [failIf (!s.dev.rootPresent) .rootAbsent] [] (if session then [] else [kekIndex r.bay]) [] ∧
       s.dev.on R.RN_STATUS_FAIL = false) ∧
    (∃ (s : State) (c : Fin 512) (r : Request) (op : PkOp) (ks : List Obj) (dest : Dest),
       let x := pkRun op.func (ks.getD 0 default).pkKind (ks.getD 0 default).key (op.inputs.map (s.dev.ctx c).read)
         ((List.range (pkDraws op.func)).map (fun k => Config.freeByte (s.dev.free + k)))
       s.dev.Runs c r ∧ 0x0501 ≤ op.func ∧ op.func ≤ 0x050C ∧ op.inputs.all (fun x => x.fits && x.plain) = true ∧
       ((∃ o, op.dest = .buf o ∧ dest = .buf o) ∨ op.dest = .none ∧ dest = .none ∨
         (op.func = 0x0503 ∨ op.func = 0x0509 ∨ op.func = 0x050A) ∧ ∃ n, op.dest = .lane n ∧ dest = .secret n) ∧
       ((pkKeyKinds op.func).isNone = true ∧ ks = [] ∨ (pkKeyKinds op.func).isSome = true ∧
         s.dev.cacheBusy r.bay [op.key] = false ∧
         (s.dev.resolve c r.bay [{ handle := op.key, fits := pkFits op.func }]).1 = .keys ks) ∧
       s.dev.on R.RN_STATUS_FAIL = false) ∧
    (∃ (s : State) (c : Fin 512) (r : Request) (op : PkOp) (n : Nat),
       s.dev.Runs c r ∧ op.dest = .lane n ∧ op.func ≠ 0x0503 ∧ op.func ≠ 0x0509 ∧ op.func ≠ 0x050A) :=
  ⟨⟨st (fn 0x0502 [] []), 5, fr 0x0502 [] 0, .ecdsaVerification 5, 0x0502, 5, [], none, [], by decide +kernel, rfl, rfl,
    by unfold Dev.Ready Dev.Runs; decide +kernel, by decide +kernel⟩,
   ⟨st (fn 0x050D [(1, [1]), (5, [0x47])] []), 5, fr 0x050D [(1, [1]), (5, [0x47])] 0, ((newPkAttrs (fr 0x050D [(1, [1]),
    (5, [0x47])] 0)).map (·.1)).getD default, false, by unfold Dev.Ready Dev.Runs; decide +kernel⟩,
   ⟨st (runs z (rq 0x0101)), 5, rq 0x0101, ⟨0x050C, 0, [.regs 0 1], .buf 65535⟩, [], .buf 65535, ⟨rfl, rfl⟩,
    by decide +kernel, by decide +kernel, by decide +kernel, .inl ⟨65535, rfl, rfl⟩, .inl ⟨by decide +kernel, rfl⟩,
    by decide +kernel⟩,
   ⟨st (runs z (rq 0x0101)), 5, rq 0x0101, ⟨0x0502, 0, [], .lane 0⟩, 0, by unfold Dev.Runs; decide +kernel⟩⟩

theorem witness_VoussoirEnginesRunTheirJobs :
    (∃ (s : State) (e o : Nat) (j : Job),
       s.dev.workLevel s.perm.level < 2 ∧ (List.range 16).find? (fun k => s.dev.engineFree k) = some e ∧
       s.dev.grantOwner R.BY_VS_SHARE_EFFECTIVE s.dev.eng.vsPasses s.dev.eng.vsLast s.dev.vsOwners = some o ∧
       s.dev.eng.vsWait.find? (fun k => k.owner == o) = some j) ∧
    (∃ s : State,
       (2 ≤ s.dev.workLevel s.perm.level ∨ s.dev.eng.vsWait = [] ∨ ∀ k < 16, s.dev.engineFree k = false)) ∧
    (∃ (s : State) (e : Fin 16) (j : Job) (clocks : Nat),
       (s.dev.engine e).curJob = some j ∧ s.dev.stopped 5 = false ∧ (j.finish.counted = true → clocks = j.clocks)) ∧
    (∃ (s : State) (e : Fin 16) (j : Job) (clocks : Nat) (ecc : EccEvent),
       (s.dev.engine e).curJob = some j ∧ s.dev.stopped 5 = false ∧
       (j.finish.counted = true ∧ clocks ≠ j.clocks ∨ ecc = .uncorrectable)) ∧
    (∃ (s : State) (e : Fin 16) (j : Job) (clocks : Nat) (ecc : EccEvent),
       (s.dev.engine e).curJob = some j ∧ s.dev.stopped 5 = false) ∧
    (∃ (s : State) (e : Fin 16) (j : Job),
       (s.dev.engine e).curJob = some j ∧ s.dev.stopped 5 = false ∧
       (s.dev.abortCause (s.dev.workLevel s.perm.level) j).isSome = true) ∧
    (∃ (s : State) (e : Fin 16) (b : Bool),
       (∀ j, (s.dev.engine e).curJob = some j →
         s.dev.abortCause (s.dev.workLevel s.perm.level) j = none)) :=
  ⟨⟨st { (z.set R.VS_UCODE_STATUS_VALID 1 15).set R.VS_SERVICE_OFFLINE 0 15 with eng := { z.eng with vsWait := [jb] } },
    15, 3, jb, by decide +kernel⟩,
   ⟨st z, by decide +kernel⟩,
   ⟨st { z with eng := { z.eng with engines := [(15, busy jb)] } }, 15, jb, 0, by decide +kernel⟩,
   ⟨st { z with eng := { z.eng with engines := [(0, busy jb)] } }, 0, jb, 1, .none, by decide +kernel⟩,
   ⟨st { z with eng := { z.eng with engines := [(0, busy jb)] } }, 0, jb, 1, .uncorrectable, by decide +kernel⟩,
   ⟨st { z with eng := { z.eng with engines := [(0, busy { jb with abort := true })] } }, 0, { jb with abort := true },
    by decide +kernel⟩,
   ⟨st z, 0, true, by intro j h; cases h⟩⟩

theorem witness_MicrocodeAndBootRoutines :
    (∃ (s : State) (req : Requester) (e : Fin 16) (v : Word),
       v.toNat % 2 = 1 ∧ s.dev.on R.VS_UCODE_CTL e = false) ∧
    (∃ (s : State) (req : Requester) (e : Fin 16) (v : Word),
       (v.toNat % 2 = 0 ∨ s.dev.on R.VS_UCODE_CTL e = true)) ∧
    (∃ (s : State) (e : Fin 16) (u : Ucode),
       s.dev.on R.VS_UCODE_STATUS_LOADING e = true ∧ u.authentic = true ∧ s.dev.runsRelease u.release = true) ∧
    (∃ (s : State) (e : Fin 16) (u : Ucode),
       s.dev.on R.VS_UCODE_STATUS_LOADING e = true ∧ (u.authentic = false ∨ s.dev.runsRelease u.release = false)) ∧
    (∃ (s : State) (e : Fin 16) (u : Ucode),
       s.dev.on R.VS_UCODE_STATUS_LOADING e = false) ∧
    (∃ (s : State) (i : Instr) (out : Bytes),
       s.dev.bootFree = true ∧
       ((∃ root, s.dev.keys.root = some root ∧ i = .identityKeyDerivation ∧ out = identityPublic root) ∨
         (∃ m, i = .bootSha512 m ∧ out = sha512 m) ∨
         (∃ point m sig, i = .bootSignatureVerify point m sig ∧ out = [if (pkEcdsaVerify
         [[0x03#8], [0x03#8], sha512 m, [0x04#8] ++ point, sig]).status = .ok then 0x01#8 else 0x00#8]))) ∧
    (∃ (s : State) (i : Instr),
       s.dev.bootFree = false ∧
       (i = .identityKeyDerivation ∨ (∃ m, i = .bootSha512 m) ∨ ∃ point m sig, i = .bootSignatureVerify point m sig)) :=
  ⟨⟨st z, mgr, 15, 1, by decide +kernel⟩,
   ⟨st z, mgr, 15, 0xFFFFFFFE, by decide +kernel⟩,
   ⟨st (z.set R.VS_UCODE_STATUS_LOADING 1 15), 15, ⟨1, 0, 1, true⟩, by decide +kernel⟩,
   ⟨st (z.set R.VS_UCODE_STATUS_LOADING 1 15), 15, ⟨1, 1, 1, true⟩, by decide +kernel⟩,
   ⟨st z, 0, ⟨1, 1, 1, true⟩, by decide +kernel⟩,
   ⟨st (z.set R.VS_SERVICE_OFFLINE 1 0), .bootSha512 [], sha512 [], by decide +kernel, .inr (.inl ⟨[], rfl, rfl⟩)⟩,
   ⟨st (z.set R.VS_SERVICE_OFFLINE 0 0), .identityKeyDerivation, by decide +kernel, .inl rfl⟩⟩

theorem witness_PinUnitLanesAndGovernor :
    (∃ (s : State) (j : Job) (rest : List Job) (l : Nat),
       s.dev.eng.pinWait = j :: rest ∧ l < 24 ∧ Tab.look s.dev.eng.pinLanes l = none ∧
       (∀ k < l, Tab.look s.dev.eng.pinLanes k ≠ none)) ∧
    (∃ (s : State) (l : Fin 24) (j : Job) (r : Request),
       Tab.look s.dev.eng.pinLanes l = some j ∧ j.req = some r ∧ (s.dev.ctx j.ctx).req = some r) ∧
    (∃ (s : State) (l : Fin 24) (j : Job) (r : Request) (clocks : Nat),
       Tab.look s.dev.eng.pinLanes l = some j ∧ j.req = some r ∧ (s.dev.ctx j.ctx).req = some r ∧ clocks ≠ j.clocks) ∧
    (∃ s : State,
       s.dev.sched.time % 64000 = 0 ∧ s.dev.sched.time ≠ 0 ∧ s.dev.sched.govDone ≠ s.dev.sched.time) ∧
    (∃ s : State,
       (s.dev.sched.time % 64000 ≠ 0 ∨ s.dev.sched.time = 0 ∨ s.dev.sched.govDone = s.dev.sched.time)) ∧
    (∃ (s : State) (req : Requester) (reg : PnReg) (v : Word),
       let n := v.toNat
       let ok := match reg with
         | .limits => 4 ≤ bits n 12 8 ∧ bits n 12 8 ≤ 16 ∧ 4 ≤ bits n 3 0 ∧ bits n 3 0 ≤ 12 ∧ bits n 3 0 ≤ bits n 7 4 ∧
             bits n 7 4 ≤ 12
         | .gov => bits n 31 16 ≠ 0
         | .govCtl => True
       ok) ∧
    (∃ (s : State) (req : Requester) (reg : PnReg) (v : Word),
       let n := v.toNat
       let ok := match reg with
         | .limits => 4 ≤ bits n 12 8 ∧ bits n 12 8 ≤ 16 ∧ 4 ≤ bits n 3 0 ∧ bits n 3 0 ≤ 12 ∧ bits n 3 0 ≤ bits n 7 4 ∧
             bits n 7 4 ≤ 12
         | .gov => bits n 31 16 ≠ 0
         | .govCtl => True
       ¬ ok) ∧
    (∃ (s : State) (req : Requester) (v : Word),
       let b := s.dev.get R.PN_BAY_INDEX
       let sets := bits v.toNat 16 16 = 1 ∧ s.dev.get R.PN_BAY_XLATE_DOWNGRADE 0 b = 0
       (¬ sets ∨ s.dev.authStands 6 b = true)) ∧
    (∃ (s : State) (req : Requester) (v : Word),
       let b := s.dev.get R.PN_BAY_INDEX
       let sets := bits v.toNat 16 16 = 1 ∧ s.dev.get R.PN_BAY_XLATE_DOWNGRADE 0 b = 0
       sets ∧ s.dev.authStands 6 b = false) :=
  ⟨⟨st { z with eng := { z.eng with pinWait := [jb], pinLanes := (List.range 23).map fun k => (k, default) } }, jb, [],
    23, by decide +kernel⟩,
   ⟨st { runs z (rq 0x0141) with eng := { z.eng with pinLanes := [(23, jb)] } }, 23, jb, rq 0x0141, by decide +kernel⟩,
   ⟨st { runs z (rq 0x0141) with eng := { z.eng with pinLanes := [(0, jb)] } }, 0, jb, rq 0x0141, 1, by decide +kernel⟩,
   ⟨st { z with sched := { z.sched with time := 64000 } }, by decide +kernel⟩,
   ⟨st z, by decide +kernel⟩,
   ⟨st z, mgr, .limits, 0x04C4, ⟨by decide +kernel, by decide +kernel, by decide +kernel, by decide +kernel,
    by decide +kernel, by decide +kernel⟩⟩,
   ⟨st z, mgr, .gov, 0xFFFF, fun h => h rfl⟩,
   ⟨st z, mgr, 0xFFFF, by decide +kernel⟩,
   ⟨st z, mgr, 0x10000, by decide +kernel⟩⟩

theorem witness_KeyCacheSweepsAndQuotas :
    (∃ s : State,
       s.dev.on R.KC_REPOINT_SWEEPING = true) ∧
    (∃ s : State,
       s.dev.on R.KC_REPOINT_SWEEPING = false) ∧
    (∃ (s : State) (b : Fin 256) (w : ResetWait),
       Tab.look s.dev.sched.resets b = some w ∧ w.flushing = true) ∧
    (∃ s : State,
       s.dev.keys.flushing = true) ∧
    (∃ (s : State) (req : Requester) (bay : Fin 256) (v : Word),
       let sum := ((List.range 256).map (fun b => if b = bay.val then v.toNat % 2 ^ 19 else s.dev.get R.KC_BAY_QUOTA 0 b)).sum
       sum ≤ 258048) ∧
    (∃ (s : State) (req : Requester) (bay : Fin 256) (v : Word),
       let sum := ((List.range 256).map (fun b => if b = bay.val then v.toNat % 2 ^ 19 else s.dev.get R.KC_BAY_QUOTA 0 b)).sum
       258048 < sum) ∧
    (∃ (s : State) (req : Requester) (bay : Fin 256) (v : Word),
       let sum := ((List.range 256).map (fun b => if b = bay.val then v.toNat % 2 ^ 21 else s.dev.get R.VT_BAY_QUOTA 0 b)).sum
       sum ≤ s.dev.get R.VT_AREA) ∧
    (∃ (s : State) (req : Requester) (bay : Fin 256) (v : Word),
       let sum := ((List.range 256).map (fun b => if b = bay.val then v.toNat % 2 ^ 21 else s.dev.get R.VT_BAY_QUOTA 0 b)).sum
       s.dev.get R.VT_AREA < sum) :=
  ⟨⟨st (z.set R.KC_REPOINT_SWEEPING 1), by decide +kernel⟩,
   ⟨st z, by decide +kernel⟩,
   ⟨st { z with sched := { z.sched with resets := [(255, ⟨0, true⟩)] } }, 255, ⟨0, true⟩, by decide +kernel⟩,
   ⟨st { z with keys := { z.keys with flushing := true } }, by decide +kernel⟩,
   ⟨st z, mgr, 255, 1008, by decide +kernel⟩,
   ⟨st z, mgr, 255, 1009, by decide +kernel⟩,
   ⟨st (z.set R.VT_AREA 5), mgr, 255, 5, by decide +kernel⟩,
   ⟨st (z.set R.VT_AREA 5), mgr, 255, 6, by decide +kernel⟩⟩

theorem witness_ReservationsAndWritesBecomeDurable :
    (∃ (s : State) (n i c : Nat) (o : Obj) (r : Request),
       s.dev.keys.useWrites[n]? = some i ∧ Tab.look s.dev.keys.objs (objIndex (indexBay i) (i % 2 ^ 34)) = some o ∧
       s.dev.keys.waits = [⟨c, i, false⟩] ∧ (s.dev.ctx c).req = some r ∧ s.dev.bulkQueue (indexBay i) = []) ∧
    (∃ (s : State) (n i c : Nat) (x : Nonce) (r : Request),
       (s.dev.keys.nonces.filter (fun e => e.2.reserving))[n]? = some (i, x) ∧ s.dev.keys.waits = [⟨c, i, true⟩] ∧
       (s.dev.ctx c).req = some r) ∧
    (∃ (s : State) (n i c : Nat) (x : Nonce) (r : Request),
       (s.dev.keys.nonces.filter (fun e => e.2.reserving))[n]? = some (i, x) ∧ s.dev.keys.waits = [⟨c, i, true⟩] ∧
       (s.dev.ctx c).req = some r ∧ s.dev.bulkQueue (indexBay i) = []) ∧
    (∃ (s : State) (w : VaultWrite) (r : Request),
       s.dev.keys.writes = [w] ∧ w.req = some r ∧ w.whole = true ∧ (s.dev.ctx w.ctx).req = some r) :=
  ⟨⟨st useWait, 0, 3 * 2 ^ 34 + 1, 5, kD0, rq 0x0101, by decide +kernel⟩,
   ⟨st nonceWait, 0, kekIndex 3, 5, ⟨[], 1, 1, true, false⟩, rq 0x0101, by decide +kernel⟩,
   ⟨st nonceWait, 0, kekIndex 3, 5, ⟨[], 1, 1, true, false⟩, rq 0x0101, by decide +kernel⟩,
   ⟨st { runs z (rq 0x0101) with keys := { z.keys with writes := [⟨3, .object 1 kD0, 5, some (rq 0x0101), true, []⟩] } },
    ⟨3, .object 1 kD0, 5, some (rq 0x0101), true, []⟩, rq 0x0101, by decide +kernel⟩⟩

theorem witness_NoiseSourcesAndTheRoot :
    (∃ (s : State) (source : Fin 8) (test : Fin 2),
       (s.dev.get R.RN_STATUS_HEALTHY).testBit source = true) ∧
    (∃ (s : State) (source : Fin 8) (test : Fin 2),
       (s.dev.get R.RN_STATUS_HEALTHY).testBit source = false) ∧
    (∃ (s : State) (passed : Byte),
       s.dev.on R.RN_STATUS_STARTED = false) ∧
    (∃ (s : State) (errs : Option Nat × Option Nat) (e : Nat) (key share : Bytes),
       s.dev.get R.KT_STATUS_ROOT = 1 ∧ s.dev.helperOrder.findSome? (fun i => if i = 0 then errs.1 else errs.2) = some e ∧
       s.dev.referenceKey s.perm = some key ∧ s.dev.plinth.share = some share) ∧
    (∃ (s : State) (errs : Option Nat × Option Nat),
       s.dev.get R.KT_STATUS_ROOT = 1 ∧
       (s.dev.helperOrder.findSome? (fun i => if i = 0 then errs.1 else errs.2) = none ∨ s.dev.plinth.share = none ∨
         s.dev.referenceKey s.perm = none)) ∧
    (∃ (s : State) (errs : Option Nat × Option Nat),
       s.dev.get R.KT_STATUS_ROOT ≠ 1) :=
  ⟨⟨st (z.set R.RN_STATUS_HEALTHY 255), 7, 1, by decide +kernel⟩,
   ⟨st (z.set R.RN_STATUS_HEALTHY 127), 7, 0, by decide +kernel⟩,
   ⟨st z, 0xF0, by decide +kernel⟩,
   ⟨st (regen (rep 1)), (some 7, none), 7, rep 1, rep 32, by decide +kernel⟩,
   ⟨st (regen (rep 1)), (none, none), by decide +kernel⟩,
   ⟨st z, (none, none), by decide +kernel⟩⟩

theorem witness_KeyTreeCommandsUnderAuthorization :
    (∃ (s : State) (req : Requester),
       s.dev.authStands 4 = true) ∧
    (∃ (s : State) (req : Requester) (bay : Fin 256) (i : Instr),
       (i = .ktRaiseFloor req ∧ s.dev.authStands 4 = false ∨ i = .ktSetExternalIv req bay ∧ s.dev.authStands 5 bay = false)) ∧
    (∃ (s : State) (req : Requester) (bay : Fin 256) (i : Instr) (on : Bool) (o : Obj),
       (i = .ktSetExternalIv req bay ∧ on = true ∧ s.dev.authStands 5 bay = true ∨ i = .ktClearExternalIv bay ∧ on = false) ∧
       s.dev.rootPresent = true ∧ s.dev.lookup bay (s.dev.get R.KT_CMD_ARG) = .key o ∧ o.attrs.type = .symmetric ∧
       o.attrs.usage = .d0 ∧ o.attrs.alg = .aes) ∧
    (∃ (s : State) (req : Requester) (bay : Fin 256) (i : Instr) (st : Status),
       (i = .ktSetExternalIv req bay ∧ s.dev.authStands 5 bay = true ∨ i = .ktClearExternalIv bay) ∧
       (s.dev.rootPresent = false ∧ st = .rootAbsent ∨
         s.dev.rootPresent = true ∧ (∀ o, s.dev.lookup bay (s.dev.get R.KT_CMD_ARG) ≠ .key o) ∧ st = .keyHandle ∨
         s.dev.rootPresent = true ∧ st = .keyUsage ∧ ∃ o, s.dev.lookup bay (s.dev.get R.KT_CMD_ARG) = .key o ∧
         (o.attrs.type ≠ .symmetric ∨ o.attrs.usage ≠ .d0 ∨ o.attrs.alg ≠ .aes))) :=
  ⟨⟨st (auth 4 0 z), mgr, by decide +kernel⟩,
   ⟨st z, mgr, 255, .ktRaiseFloor mgr, .inl ⟨rfl, by decide +kernel⟩⟩,
   ⟨st (auth 5 3 ((vault z [kD0]).set R.KT_CMD_ARG 1)), mgr, 3, .ktSetExternalIv mgr 3, true, kD0, .inl ⟨rfl, rfl,
    by decide +kernel⟩, by decide +kernel, by decide +kernel, by decide +kernel, by decide +kernel, by decide +kernel⟩,
   ⟨st z, mgr, 255, .ktClearExternalIv 255, .rootAbsent, .inr rfl, .inl ⟨by decide +kernel, rfl⟩⟩⟩

theorem witness_BundlesExportAndRestore :
    (∃ (s : State) (req : Requester) (m n : Nat),
       s.dev.authStands 2 = true ∧ 2 ≤ m ∧ m ≤ n ∧ n ≤ 16 ∧ s.dev.on R.RN_STATUS_FAIL = false) ∧
    (∃ (s : State) (req : Requester) (i : Instr) (b : Bundle) (x y : Fin 256) (mf ch : Bool) (m n : Nat),
       s.dev.keys.bundle = none ∧
       (i = .backupKeyCreation req m n ∧ s.dev.authStands 2 = false ∨
         i = .bundleExport req x ∧ (s.dev.authStands 2 = false ∨ s.dev.sharesRead = false) ∨
         i = .bundleRestore req x y b mf ch ∧ (s.dev.authStands 3 = false ∨ s.dev.sharesRead = false))) ∧
    (∃ (s : State) (req : Requester) (i : Instr) (b : Bundle) (x y : Fin 256) (mf ch : Bool),
       s.dev.keys.bundle = none ∧ s.dev.sharesRead = true ∧
       (i = .bundleExport req x ∧ s.dev.authStands 2 = true ∧ s.perm.lcState ≠ 4 ∧ s.perm.lcState ≠ 5 ∨
         i = .bundleRestore req x y b mf ch ∧ s.dev.authStands 3 = true ∧ s.perm.lcState ≠ 3 ∧ s.perm.lcState ≠ 4)) ∧
    (∃ (s : State) (req : Requester) (src : Fin 256),
       s.dev.keys.bundle = none ∧ s.dev.authStands 2 = true ∧ s.dev.sharesRead = true ∧
       (s.perm.lcState = 4 ∨ s.perm.lcState = 5)) ∧
    (∃ (s : State) (b : BundleOp),
       s.dev.keys.bundle = some b ∧ b.op = 1 ∧ s.dev.on R.RN_STATUS_FAIL = false) ∧
    (∃ (s : State) (req : Requester) (src dst : Fin 256) (b : Bundle),
       s.dev.keys.bundle = none ∧ s.dev.authStands 3 = true ∧ s.dev.sharesRead = true ∧
       (s.perm.lcState = 3 ∨ s.perm.lcState = 4) ∧ s.dev.restoreFault dst b true true s.dev.cards.shareId = none) ∧
    (∃ (s : State) (req : Requester) (src dst : Fin 256) (b : Bundle) (mf ch : Bool) (st : Status),
       s.dev.keys.bundle = none ∧ s.dev.authStands 3 = true ∧ s.dev.sharesRead = true ∧
       (s.perm.lcState = 3 ∨ s.perm.lcState = 4) ∧ s.dev.restoreFault dst b mf ch s.dev.cards.shareId = some st) ∧
    (∃ (s : State) (b : BundleOp),
       s.dev.keys.bundle = some b ∧ b.op ≠ 1 ∧ b.committing = true) ∧
    (∃ (s : State) (b : BundleOp),
       s.dev.keys.bundle = some b) ∧
    (∃ s : State,
       s.dev.keys.bundle = none) :=
  ⟨⟨st (auth 2 0 z), mgr, 16, 16, by decide +kernel⟩,
   ⟨st z, mgr, .backupKeyCreation mgr 2 2, bundleOf [], 0, 0, false, false, 2, 2, rfl, .inl ⟨rfl, by decide +kernel⟩⟩,
   ⟨st (auth 2 0 (shares2 z)) (lc 3), mgr, .bundleExport mgr 255, bundleOf [], 255, 0, false, false, rfl,
    by decide +kernel, .inl ⟨rfl, by decide +kernel, by decide +kernel, by decide +kernel⟩⟩,
   ⟨st (auth 2 0 (shares2 z)) (lc 5), mgr, 255, by decide +kernel⟩,
   ⟨st (bundling 1 false), ⟨1, 3, 3, 0, false, []⟩, by decide +kernel⟩,
   ⟨st (auth 3 0 (shares2 (z.setEff R.VT_BAY_QUOTA 1 0 255))) (lc 3), mgr, 0, 255, bundleOf [⟨1, kD0⟩], by decide +kernel⟩,
   ⟨st (auth 3 0 (shares2 z)) (lc 4), mgr, 0, 255, bundleOf [], false, true, .bundleAuth, by decide +kernel⟩,
   ⟨st (bundling 2 true), ⟨2, 3, 3, 0, true, []⟩, by decide +kernel⟩,
   ⟨st (bundling 2 true), ⟨2, 3, 3, 0, true, []⟩, by decide +kernel⟩,
   ⟨st z, by decide +kernel⟩⟩

theorem witness_BayResourcesAndTheEventTail :
    (let total (s : State) (f : Fld) (bay v : Nat) : Nat :=
         ((List.range 256).map (fun b => if b = bay then v else s.dev.get f b)).sum
       ∃ (s : State) (req : Requester) (bay : Fin 256) (kind : Fin 3) (v : Word),
       let n := v.toNat % 2 ^ 11
       let f := match kind with | 0 => R.BY_SHARE_SHARE | 1 => R.BY_VS_SHARE_SHARE | 2 => R.BY_BULK_SHARE_SHARE
       n ≤ 1024 ∧ total s f bay n ≤ 1024) ∧
    (let total (s : State) (f : Fld) (bay v : Nat) : Nat :=
         ((List.range 256).map (fun b => if b = bay then v else s.dev.get f b)).sum
       ∃ (s : State) (req : Requester) (bay : Fin 256) (kind : Fin 3) (v : Word),
       let n := v.toNat % 2 ^ 11
       let f := match kind with | 0 => R.BY_SHARE_SHARE | 1 => R.BY_VS_SHARE_SHARE | 2 => R.BY_BULK_SHARE_SHARE
       ¬ (n ≤ 1024 ∧ total s f bay n ≤ 1024)) ∧
    (let total (s : State) (f : Fld) (bay v : Nat) : Nat :=
         ((List.range 256).map (fun b => if b = bay then v else s.dev.get f b)).sum
       ∃ (s : State) (req : Requester) (bay : Fin 256) (v : Word),
       let n := v.toNat % 2 ^ 17
       let ok := 64 ≤ n ∧ n ≤ 65536 ∧ total s R.BY_QUEUE bay n ≤ 1048576
       ok) ∧
    (let total (s : State) (f : Fld) (bay v : Nat) : Nat :=
         ((List.range 256).map (fun b => if b = bay then v else s.dev.get f b)).sum
       ∃ (s : State) (req : Requester) (bay : Fin 256) (v : Word),
       let n := v.toNat % 2 ^ 17
       let ok := 64 ≤ n ∧ n ≤ 65536 ∧ total s R.BY_QUEUE bay n ≤ 1048576
       ¬ ok) ∧
    (∃ (s : State) (req : Requester) (bay : Fin 256) (v : Word),
       let n := v.toNat % 2 ^ 10
       1 ≤ n ∧ n ≤ 512) ∧
    (∃ (s : State) (req : Requester) (bay : Fin 256) (v : Word),
       let n := v.toNat % 2 ^ 10
       ¬ (1 ≤ n ∧ n ≤ 512)) ∧
    (∃ (s : State) (req : Requester) (bay : Fin 256) (v : Word),
       let ahead := (v.toNat + 2 ^ 32 - s.dev.get R.BW_EV_TAIL bay) % 2 ^ 32
       let unread := (s.dev.get R.BW_EV_HEAD bay + 2 ^ 32 - s.dev.get R.BW_EV_TAIL bay) % 2 ^ 32
       ahead ≤ unread) ∧
    (∃ (s : State) (req : Requester) (bay : Fin 256) (v : Word),
       let ahead := (v.toNat + 2 ^ 32 - s.dev.get R.BW_EV_TAIL bay) % 2 ^ 32
       let unread := (s.dev.get R.BW_EV_HEAD bay + 2 ^ 32 - s.dev.get R.BW_EV_TAIL bay) % 2 ^ 32
       unread < ahead) :=
  ⟨⟨st z, mgr, 255, 2, 1024, by decide +kernel⟩,
   ⟨st z, mgr, 255, 2, 1025, by decide +kernel⟩,
   ⟨st z, mgr, 255, 65536, by decide +kernel⟩,
   ⟨st z, mgr, 255, 63, by decide +kernel⟩,
   ⟨st z, mgr, 255, 512, by decide +kernel⟩,
   ⟨st z, mgr, 255, 513, by decide +kernel⟩,
   ⟨st z, mgr, 255, 1, by decide +kernel⟩,
   ⟨st z, mgr, 255, 2, by decide +kernel⟩⟩

theorem witness_BayResetsEndABaysWork :
    (∃ (s : State) (bay : Fin 256) (v : Word),
       v.toNat.testBit 2 = true) ∧
    (∃ (s : State) (bay : Fin 256) (v : Word),
       v.toNat.testBit 2 = false) ∧
    (∃ (s : State) (req : Requester) (bay : Fin 256) (v : Word),
       v.toNat.testBit 0 = true ∧ s.dev.on R.CTRL_SELF_RESET_EN bay = true) ∧
    (∃ (s : State) (req : Requester) (bay : Fin 256) (v : Word),
       v.toNat.testBit 0 = true ∧ s.dev.on R.CTRL_SELF_RESET_EN bay = false) ∧
    (∃ (s : State) (bay : Fin 256),
       bay.val ∈ s.dev.sched.resetDue) ∧
    (∃ (s : State) (bay : Fin 256) (w : ResetWait),
       Tab.look s.dev.sched.resets bay = some w ∧ s.dev.unacked bay = 0) ∧
    (∃ (s : State) (bay : Fin 256) (w : ResetWait),
       Tab.look s.dev.sched.resets bay = some w ∧ s.dev.unacked bay ≠ 0 ∧ w.since + 12800 ≤ s.dev.sched.time) ∧
    (∃ (s : State) (bay : Fin 256) (w : ResetWait),
       Tab.look s.dev.sched.resets bay = some w ∧ s.dev.unacked bay ≠ 0 ∧ s.dev.sched.time < w.since + 12800) ∧
    (∃ (s : State) (bay : Fin 256) (w : ResetWait),
       Tab.look s.dev.sched.resets bay = some w ∧ s.dev.unacked bay ≠ 0) :=
  ⟨⟨st z, 255, 4, by decide +kernel⟩,
   ⟨st z, 255, 3, by decide +kernel⟩,
   ⟨st (z.set R.CTRL_SELF_RESET_EN 1 255), mgr, 255, 1, by decide +kernel⟩,
   ⟨st z, mgr, 255, 1, by decide +kernel⟩,
   ⟨st { z with sched := { z.sched with resetDue := [255] } }, 255, by decide +kernel⟩,
   ⟨st (resetting false 0), 255, ⟨0, false⟩, by decide +kernel⟩,
   ⟨st (resetting true 12800), 255, ⟨0, true⟩, by decide +kernel⟩,
   ⟨st (resetting true 12799), 255, ⟨0, true⟩, by decide +kernel⟩,
   ⟨st (resetting true 12799), 255, ⟨0, true⟩, by decide +kernel⟩⟩

theorem witness_PortsTrainAndFilterTheirFrames :
    (∃ (s : State) (req : Requester) (v : Word),
       let mode (g : Nat) : Nat := v.toNat / 4 ^ g % 4
       (∃ q < 4, ¬ (mode (2 * q) = 3 ↔ mode (2 * q + 1) = 3))) ∧
    (∃ (s : State) (req : Requester) (v : Word),
       let mode (g : Nat) : Nat := v.toNat / 4 ^ g % 4
       (∀ q < 4, mode (2 * q) = 3 ↔ mode (2 * q + 1) = 3)) ∧
    (∃ (s : State) (port : Fin 16) (losses : List Byte) (cable : Fin 32) (partner : BitVec 48),
       let g := port.val / 2
       let side := port.val % 2
       (s.dev.get R.NF_PORT_STATUS_TRAINING g).testBit side = true ∧ losses.length + 2 * side ≤ 4) ∧
    (∃ (s : State) (port : Fin 16),
       let g := port.val / 2
       let side := port.val % 2
       (s.dev.get R.NF_PORT_STATUS_LINK_UP g).testBit side = true) ∧
    (∃ (s : State) (x : EtherFrame) (corrected uncorrectable : Nat),
       let port := x.src.port
       let g := port / 2
       port < 16 ∧ (s.dev.get R.NF_PORT_STATUS_LINK_UP g).testBit (port % 2) = true ∧ s.dev.vlanOk port x.vlans = false) ∧
    (∃ (s : State) (x : EtherFrame) (corrected uncorrectable : Nat),
       let port := x.src.port
       let g := port / 2
       port < 16 ∧ (s.dev.get R.NF_PORT_STATUS_LINK_UP g).testBit (port % 2) = true ∧ s.dev.vlanOk port x.vlans = true ∧
       x.body = .other) ∧
    (∃ (s : State) (x : EtherFrame) (corrected uncorrectable : Nat),
       let port := x.src.port
       let g := port / 2
       port < 16 ∧ (s.dev.get R.NF_PORT_STATUS_LINK_UP g).testBit (port % 2) = true ∧ s.dev.vlanOk port x.vlans = true ∧
       x.body = .pause) ∧
    (∃ (s : State) (x : EtherFrame) (corrected uncorrectable : Nat),
       let port := x.src.port
       let g := port / 2
       ∃ ip v6,
       port < 16 ∧ (s.dev.get R.NF_PORT_STATUS_LINK_UP g).testBit (port % 2) = true ∧ s.dev.vlanOk port x.vlans = true ∧
       x.body = (if v6 then .neighbour ip else .arp ip) ∧ s.dev.ownAddress port v6 ip = true) ∧
    (∃ (s : State) (x : EtherFrame) (corrected uncorrectable : Nat),
       let port := x.src.port
       let g := port / 2
       ∃ ip v6,
       port < 16 ∧ (s.dev.get R.NF_PORT_STATUS_LINK_UP g).testBit (port % 2) = true ∧ s.dev.vlanOk port x.vlans = true ∧
       x.body = (if v6 then .neighbour ip else .arp ip) ∧ s.dev.ownAddress port v6 ip = false) ∧
    (∃ (s : State) (x : EtherFrame) (corrected uncorrectable : Nat),
       let port := x.src.port
       let g := port / 2
       ∃ u,
       port < 16 ∧ (s.dev.get R.NF_PORT_STATUS_LINK_UP g).testBit (port % 2) = true ∧ s.dev.vlanOk port x.vlans = true ∧
       x.body = .udp u ∧ ¬ (s.dev.udpOk port u = true ∧ u.formOk = true)) ∧
    (∃ (s : State) (x : EtherFrame) (corrected uncorrectable : Nat),
       let port := x.src.port
       let g := port / 2
       ∃ u,
       port < 16 ∧ (s.dev.get R.NF_PORT_STATUS_LINK_UP g).testBit (port % 2) = true ∧ s.dev.vlanOk port x.vlans = true ∧
       x.body = .udp u ∧ s.dev.udpOk port u = true ∧ u.formOk = true ∧ u.type ≠ 1 ∧ u.type ≠ 3 ∧
       (u.auth = false ∨ Tab.look s.dev.face.sessions u.session = none)) ∧
    (∃ (s : State) (x : EtherFrame) (corrected uncorrectable : Nat),
       let port := x.src.port
       let g := port / 2
       ∃ u, ∃ y,
       let new := y.high < u.seq ∨ (y.high ≤ u.seq + 1023 ∧ u.seq ∉ y.seen)
       port < 16 ∧ (s.dev.get R.NF_PORT_STATUS_LINK_UP g).testBit (port % 2) = true ∧ s.dev.vlanOk port x.vlans = true ∧
       x.body = .udp u ∧ s.dev.udpOk port u = true ∧ u.formOk = true ∧ u.type ≠ 1 ∧ u.type ≠ 3 ∧ u.auth = true ∧
       Tab.look s.dev.face.sessions u.session = some y ∧ ¬ new) ∧
    (∃ (s : State) (x : EtherFrame) (corrected uncorrectable : Nat),
       let port := x.src.port
       let g := port / 2
       ∃ u, ∃ y,
       let new := y.high < u.seq ∨ (y.high ≤ u.seq + 1023 ∧ u.seq ∉ y.seen)
       port < 16 ∧ (s.dev.get R.NF_PORT_STATUS_LINK_UP g).testBit (port % 2) = true ∧ s.dev.vlanOk port x.vlans = true ∧
       x.body = .udp u ∧ s.dev.udpOk port u = true ∧ u.formOk = true ∧ u.type ≠ 1 ∧ u.type ≠ 3 ∧ u.auth = true ∧
       Tab.look s.dev.face.sessions u.session = some y ∧ new) :=
  ⟨⟨st z, mgr, 3, by decide +kernel⟩,
   ⟨st z, mgr, 0xF00F, by decide +kernel⟩,
   ⟨st (z.set R.NF_PORT_STATUS_TRAINING 3 7), 15, [1, 2], 31, 5, by decide +kernel⟩,
   ⟨st (z.set R.NF_PORT_STATUS_LINK_UP 3 7), 15, by decide +kernel⟩,
   ⟨st port15, { at15 .other with vlans := [1, 2] }, 1, 1, by decide +kernel⟩,
   ⟨st port15, at15 .other, 1, 1, by decide +kernel⟩,
   ⟨st port15, at15 .pause, 1, 1, by decide +kernel⟩,
   ⟨st port15, at15 (.arp 9), 1, 1, 9, false, by decide +kernel⟩,
   ⟨st port15, at15 (.neighbour 9), 1, 1, 9, true, by decide +kernel⟩,
   ⟨st port15, at15 (.udp { dg 1 with checksum := .bad }), 1, 1, { dg 1 with checksum := .bad }, by decide +kernel⟩,
   ⟨st port15, at15 (.udp (dg 1)), 1, 1, dg 1, by decide +kernel⟩,
   ⟨st port15s, at15 (.udp (dg 976)), 1, 1, dg 976, { ses 3 with high := 2000, seen := [2000, 977] }, by decide +kernel⟩,
   ⟨st port15s, at15 (.udp (dg 978)), 1, 1, dg 978, { ses 3 with high := 2000, seen := [2000, 977] }, by decide +kernel⟩⟩

theorem witness_HandshakesOpenSessions :
    (∃ (s : State) (x : Hello),
       x.nonce.length = 32 ∧ x.point.length = 97 ∧ x.kemKey.length = 1184 ∧ s.dev.workLevel s.perm.level < 2 ∧
       s.dev.face.sessions.length ≤ 65536 ∧ s.dev.face.handshakes.length < 4096 ∧ s.dev.on R.RN_STATUS_FAIL = false) ∧
    (∃ (s : State) (x : Hello),
       x.nonce.length = 32 ∧ x.point.length = 97 ∧ x.kemKey.length = 1184 ∧ s.dev.workLevel s.perm.level < 2 ∧
       s.dev.face.sessions.length ≤ 65536 ∧ 4096 ≤ s.dev.face.handshakes.length) ∧
    (∃ (s : State) (session : Word) (h : Handshake) (root : Bytes),
       Tab.look s.dev.face.handshakes session.toNat = some h ∧ h.stage = .jobs ∧
       s.dev.handshakeBusy session.toNat = false ∧ s.dev.workLevel s.perm.level < 2 ∧ h.failed ≠ .ok) ∧
    (∃ (s : State) (session : Word) (h : Handshake) (root : Bytes),
       Tab.look s.dev.face.handshakes session.toNat = some h ∧ h.stage = .jobs ∧
       s.dev.handshakeBusy session.toNat = false ∧ s.dev.workLevel s.perm.level < 2 ∧ h.failed = .ok ∧
       s.dev.keys.root = none) ∧
    (∃ (s : State) (session : Word) (h : Handshake) (root : Bytes), ∃ k,
       Tab.look s.dev.face.handshakes session.toNat = some h ∧ h.stage = .jobs ∧
       s.dev.handshakeBusy session.toNat = false ∧ s.dev.workLevel s.perm.level < 2 ∧ h.failed = .ok ∧
       s.dev.keys.root = some root ∧ s.dev.on R.RN_STATUS_FAIL = false ∧ p384.pointForm h.pointC = true ∧
       (p384.decode h.pointC).isSome = true ∧ kemSet 0x21 = some k ∧ h.kemKeyC.length = k.ekLen ∧
       kemKeyOk k h.kemKeyC = true) ∧
    (∃ (s : State) (src : Client) (session : Word) (auth : Bool) (c : ClientCert),
       (∀ h, Tab.look s.dev.face.handshakes session.toNat = some h → h.stage ≠ .helloSent ∨ auth = false)) ∧
    (∃ (s : State) (src : Client) (session : Word) (auth : Bool) (c : ClientCert), ∃ h, ∃ st,
       Tab.look s.dev.face.handshakes session.toNat = some h ∧ h.stage = .helloSent ∧ auth = true ∧
       s.dev.workLevel s.perm.level < 2 ∧ s.dev.finishFault h c = some st) ∧
    (∃ (s : State) (src : Client) (session : Word) (auth : Bool) (c : ClientCert), ∃ h, ∃ t,
       Tab.look s.dev.face.handshakes session.toNat = some h ∧ h.stage = .helloSent ∧ auth = true ∧
       s.dev.workLevel s.perm.level < 2 ∧ s.dev.finishFault h c = none ∧ s.dev.bound h.pid = some t) ∧
    (∃ (s : State) (session : Word) (h : Handshake),
       Tab.look s.dev.face.handshakes session.toNat = some h ∧ h.stage = .helloSent) ∧
    (∃ (s : State) (h : FrameHdr) (session : Word) (x : Session),
       Tab.look s.dev.face.sessions h.session = some x) ∧
    (∃ (s : State) (h : FrameHdr) (session : Word) (x : Session),
       Tab.look s.dev.face.sessions session.toNat = some x) ∧
    (∃ (s : State) (h : FrameHdr) (session : Word) (x : Session),
       Tab.look s.dev.face.sessions session.toNat = none) :=
  ⟨⟨st z, hello, by decide +kernel⟩,
   ⟨st { z with face := { z.face with handshakes := (List.range 4096).map fun i => (i, hand .jobs) } }, hello,
    by decide +kernel⟩,
   ⟨st { z with face := { z.face with handshakes := [(5, { hand .jobs with failed := .sessionAuth })] } }, 5,
    { hand .jobs with failed := .sessionAuth }, [], by decide +kernel⟩,
   ⟨st (withHand .jobs z), 5, hand .jobs, [], by decide +kernel⟩,
   ⟨st (withHand .jobs (vault z [])), 5, hand .jobs, rep 32, ⟨3, 2, 10, 4⟩, by decide +kernel⟩,
   ⟨st z, default, 5, true, cert true, fun h hh => by cases hh⟩,
   ⟨st (withHand .helloSent z), default, 5, true, cert false, hand .helloSent, .certInvalid, by decide +kernel⟩,
   ⟨st (anchored (withHand .helloSent z)), default, 5, true, cert true, hand .helloSent, 3, by decide +kernel⟩,
   ⟨st (withHand .helloSent z), 5, hand .helloSent, by decide +kernel⟩,
   ⟨st (withSes z 255), fh, 1, ses 255, by decide +kernel⟩,
   ⟨st (withSes z 255), fh, 1, ses 255, by decide +kernel⟩,
   ⟨st z, fh, 1, ses 255, by decide +kernel⟩⟩

theorem witness_StreamsCarryRecordsAndEvents :
    (∃ (s : State) (h : FrameHdr) (reqId : Nat) (x : Session),
       let full := 64 ≤ (s.dev.face.streams.filter (fun e => e.2.session == h.session)).length ∨ 16384 ≤ s.dev.face.streams.length
       Tab.look s.dev.face.sessions h.session = some x ∧ x.sent + 1 < 2 ^ 64 ∧ full) ∧
    (∃ (s : State) (h : FrameHdr) (reqId : Nat) (x : Session),
       let full := 64 ≤ (s.dev.face.streams.filter (fun e => e.2.session == h.session)).length ∨ 16384 ≤ s.dev.face.streams.length
       Tab.look s.dev.face.sessions h.session = some x ∧ x.sent + 1 < 2 ^ 64 ∧ ¬ full) ∧
    (∃ (s : State) (h : FrameHdr) (stream : Nat) (x : Stream),
       Tab.look s.dev.face.streams stream = some x ∧ x.session = h.session) ∧
    (∃ (s : State) (h : FrameHdr) (stream : Nat) (x : Stream),
       Tab.look s.dev.face.streams stream = some x ∧ x.session ≠ h.session) ∧
    (∃ (s : State) (h : FrameHdr) (q : BulkPiece) (y : Session) (x : Stream),
       let old := x.reasm.find? (fun r => r.number == q.number)
       let r0 : Reasm := old.getD ⟨q.number, none, [], none⟩
       let r1 : Reasm := ⟨r0.number, if q.desc.isSome then q.desc else r0.desc, Tab.put r0.pieces q.offset q.data,
         if q.last then some (q.offset + q.data.length) else r0.last⟩
       let bad := piecesOverlap r0.pieces q.offset q.data.length || r1.broken
       Tab.look s.dev.face.sessions h.session = some y ∧ Tab.look s.dev.face.streams q.stream = some x ∧
       x.session = h.session ∧ q.data.length ≤ 8192 ∧ q.data ≠ [] ∧
       (old.isSome = true ∨ (s.dev.recordBusy q.stream q.number = false ∧ x.closing = false ∧ x.reasm.length < 4)) ∧
       bad = false ∧ r1.whole = false) ∧
    (∃ (s : State) (h : FrameHdr) (q : BulkPiece) (y : Session) (x : Stream),
       let old := x.reasm.find? (fun r => r.number == q.number)
       let r0 : Reasm := old.getD ⟨q.number, none, [], none⟩
       let r1 : Reasm := ⟨r0.number, if q.desc.isSome then q.desc else r0.desc, Tab.put r0.pieces q.offset q.data,
         if q.last then some (q.offset + q.data.length) else r0.last⟩
       let bad := piecesOverlap r0.pieces q.offset q.data.length || r1.broken
       Tab.look s.dev.face.sessions h.session = some y ∧ Tab.look s.dev.face.streams q.stream = some x ∧
       x.session = h.session ∧ q.data.length ≤ 8192 ∧ q.data ≠ [] ∧
       (old.isSome = true ∨ (s.dev.recordBusy q.stream q.number = false ∧ x.closing = false ∧ x.reasm.length < 4)) ∧
       bad = false ∧ r1.whole = true ∧ s.perm.lcState = 4 ∧ s.dev.workLevel s.perm.level < 2 ∧
       (256 ≤ x.owner ∨ s.dev.bayOpen x.owner = true)) ∧
    (∃ (s : State) (h : FrameHdr) (q : BulkPiece) (y : Session) (x : Stream),
       let old := x.reasm.find? (fun r => r.number == q.number)
       let r0 : Reasm := old.getD ⟨q.number, none, [], none⟩
       let r1 : Reasm := ⟨r0.number, if q.desc.isSome then q.desc else r0.desc, Tab.put r0.pieces q.offset q.data,
         if q.last then some (q.offset + q.data.length) else r0.last⟩
       let bad := piecesOverlap r0.pieces q.offset q.data.length || r1.broken
       Tab.look s.dev.face.sessions h.session = some y ∧ Tab.look s.dev.face.streams q.stream = some x ∧
       x.session = h.session ∧ q.data.length ≤ 8192 ∧ q.data ≠ [] ∧
       (old.isSome = true ∨ (s.dev.recordBusy q.stream q.number = false ∧ x.closing = false ∧ x.reasm.length < 4)) ∧
       bad = true) ∧
    (∃ (s : State) (stream number : Nat) (x : Stream) (y : Session) (r : Reasm),
       Tab.look s.dev.face.streams stream = some x ∧ Tab.look s.dev.face.sessions x.session = some y ∧
       x.reasm.find? (fun r => r.number == number) = some r) ∧
    (∃ (s : State) (session : Word) (x : Session) (i : EvItem) (l : List EvItem),
       Tab.look s.dev.face.sessions session.toNat = some x ∧ x.unsent = i :: l ∧ x.sent + 1 < 2 ^ 64) :=
  ⟨⟨st (streams 64 ⟨1, 3, false, []⟩), fh, 9, ses 3, by decide +kernel⟩,
   ⟨st (streams 63 ⟨1, 3, false, []⟩), fh, 9, ses 3, by decide +kernel⟩,
   ⟨st (streams 1 ⟨1, 3, false, []⟩), fh, 0x8000, ⟨1, 3, false, []⟩, by decide +kernel⟩,
   ⟨st (streams 1 ⟨2, 3, false, []⟩), fh, 0x8000, ⟨2, 3, false, []⟩, by decide +kernel⟩,
   ⟨st (streams 1 ⟨1, 3, false, []⟩), fh, ⟨0x8000, 1, 0, false, none, rep 8192⟩, ses 3, ⟨1, 3, false, []⟩,
    by decide +kernel⟩,
   ⟨st (streams 1 ⟨1, 3, false, []⟩) (lc 4), fh, ⟨0x8000, 1, 0, true, some desc1, [7]⟩, ses 3, ⟨1, 3, false, []⟩,
    by decide +kernel⟩,
   ⟨st (streams 1 ⟨1, 3, false, []⟩), fh, ⟨0x8000, 1, 0, true, some desc1, [7, 7]⟩, ses 3, ⟨1, 3, false, []⟩,
    by decide +kernel⟩,
   ⟨st (streams 1 ⟨1, 3, false, [⟨1, none, [(0, [7])], none⟩]⟩), 0x8000, 1, ⟨1, 3, false, [⟨1, none, [(0, [7])], none⟩]⟩,
    ses 3, ⟨1, none, [(0, [7])], none⟩, by decide +kernel⟩,
   ⟨st { z with face := { z.face with sessions := [(1, { ses 3 with unsent := [.ring default] })] } }, 1,
    { ses 3 with unsent := [.ring default] }, .ring default, [], by decide +kernel⟩⟩

theorem witness_RingsDoorbellsAndTheLink :
    (∃ (s : State) (owner : Fin 257) (ring : Fin 4) (pasid : Option (BitVec 20)) (v : Word),
       let own := s.dev.get R.HQ_PASID owner ring
       (∃ x, pasid = some x ∧ x.toNat ≠ own)) ∧
    (∃ (s : State) (owner : Fin 257) (ring : Fin 4) (pasid : Option (BitVec 20)) (v : Word),
       let own := s.dev.get R.HQ_PASID owner ring
       let n := v.toNat % 2 ^ 16
       (∀ x, pasid = some x → x.toNat = own) ∧ 2 ^ s.dev.get R.HQ_CFG_LOG2_SIZE owner ring ≤ n) ∧
    (∃ (s : State) (owner : Fin 257) (ring : Fin 4) (pasid : Option (BitVec 20)) (v : Word),
       let own := s.dev.get R.HQ_PASID owner ring
       let n := v.toNat % 2 ^ 16
       (∀ x, pasid = some x → x.toNat = own) ∧ n < 2 ^ s.dev.get R.HQ_CFG_LOG2_SIZE owner ring) ∧
    (∃ (s : State) (owner : Fin 257) (ring : Fin 4) (pasid : Option (BitVec 20)) (v : Word),
       let own := s.dev.get R.HQ_PASID owner ring
       let n := v.toNat % 2 ^ 16
       (∀ x, pasid = some x → x.toNat = own) ∧ n < 2 ^ s.dev.get R.HQ_CFG_LOG2_SIZE owner ring ∧
       (s.dev.bound own = none ∨ s.dev.bound own = some owner.val)) ∧
    (∃ (s : State) (owner : Fin 257) (ring : Fin 4) (pasid : Option (BitVec 20)) (v : Word),
       let own := s.dev.get R.HQ_PASID owner ring
       let n := v.toNat % 2 ^ 16
       let h := s.dev.hostRing owner ring
       ∃ t,
       (∀ x, pasid = some x → x.toNat = own) ∧ n < 2 ^ s.dev.get R.HQ_CFG_LOG2_SIZE owner ring ∧ s.dev.bound own = some t ∧
       t ≠ owner.val ∧ (s.dev.setHostRing owner ring { h with tail := n }).mayFetch owner ring = true) ∧
    (∃ (s : State) (owner : Fin 257) (ring : Fin 4) (v : Word),
       let en := s.dev.on R.HQ_CFG_EN owner ring
       en = true ∧ v.toNat.testBit 31 = false) ∧
    (∃ (s : State) (owner : Fin 257) (ring : Fin 4) (v : Word),
       let en := s.dev.on R.HQ_CFG_EN owner ring
       let run := s.dev.on R.HQ_STATUS_RUNNING owner ring
       ((en = true ∧ v.toNat.testBit 31 = true) ∨ (en = false ∧ run = true))) ∧
    (∃ (s : State) (owner : Fin 257) (ring : Fin 4) (v : Word),
       let en := s.dev.on R.HQ_CFG_EN owner ring
       let run := s.dev.on R.HQ_STATUS_RUNNING owner ring
       let size := v.toNat / 2 ^ 16 % 32
       en = false ∧ run = false ∧ (size < 6 ∨ 16 < size)) ∧
    (∃ (s : State) (owner : Fin 257) (ring : Fin 4) (v : Word),
       let en := s.dev.on R.HQ_CFG_EN owner ring
       let run := s.dev.on R.HQ_STATUS_RUNNING owner ring
       let size := v.toNat / 2 ^ 16 % 32
       en = false ∧ run = false ∧ 6 ≤ size ∧ size ≤ 16) ∧
    (∃ (s : State) (owner : Fin 257) (ring : Fin 4),
       (s.dev.hostRing owner ring).unsignalled ≠ 0) ∧
    (∃ (s : State) (control : Option (Bool × Bool)),
       s.dev.face.perst = false ∧ s.dev.power.main = true ∧ s.dev.configReady = false) ∧
    (∃ (s : State) (control : Option (Bool × Bool)),
       s.dev.face.perst = false ∧ s.dev.power.main = true ∧ s.dev.configReady = true) ∧
    (∃ (s : State) (speed : Fin 6) (width : Fin 17),
       s.dev.face.perst = false ∧ s.dev.power.main = true ∧ s.dev.on R.HF_LINK_UP = false) ∧
    (∃ s : State,
       s.dev.on R.HF_LINK_UP = true) ∧
    (∃ (s : State) (hint : Word) (verified : Bool) (key : Bytes),
       s.dev.on R.HF_LINK_UP = true ∧ s.dev.face.psk = some (hint.toNat, key)) ∧
    (∃ (s : State) (stream : Fin 4) (m : IdeMsg), ∃ key,
       s.dev.face.spdm = true ∧ m = .keyProg key) ∧
    (∃ (s : State) (stream : Fin 4) (m : IdeMsg),
       s.dev.face.spdm = true ∧ m = .keySetGo ∧ s.dev.get R.HF_IDE_STATUS 0 stream = 1) ∧
    (∃ (s : State) (stream : Fin 4) (m : IdeMsg),
       s.dev.face.spdm = true ∧ m = .keySetStop) ∧
    (∃ (s : State) (stream : Fin 4) (m : IdeMsg),
       (s.dev.face.spdm = false ∨ (m = .keySetGo ∧ s.dev.get R.HF_IDE_STATUS 0 stream ≠ 1))) :=
  ⟨⟨st z, 256, 3, some 1, 0, ⟨1, rfl, by decide +kernel⟩⟩,
   ⟨st z, 256, 3, none, 64, fun _ h => (by cases h), by decide +kernel⟩,
   ⟨st z, 256, 3, some 0, 63, fun x h => (by cases h; decide +kernel), by decide +kernel⟩,
   ⟨st z, 256, 3, some 0, 63, fun x h => (by cases h; decide +kernel), by decide +kernel, by decide +kernel⟩,
   ⟨st (ring3 3 4), 3, 1, none, 1, 4, fun _ h => (by cases h), by decide +kernel, by decide +kernel, by decide +kernel,
    by decide +kernel⟩,
   ⟨st (z.set R.HQ_CFG_EN 1 256 3), 256, 3, 0, by decide +kernel⟩,
   ⟨st (z.set R.HQ_CFG_EN 1 256 3), 256, 3, 0x80000000, by decide +kernel⟩,
   ⟨st z, 256, 3, 0x50000, by decide +kernel⟩,
   ⟨st z, 256, 3, 0x80100000, by decide +kernel⟩,
   ⟨st { z with face := { z.face with rings := [(256 * 4 + 3, ⟨0, 0, 0, 1, 0⟩)] } }, 256, 3, by decide +kernel⟩,
   ⟨st { z with face := { z.face with perst := false }, power := { z.power with main := true } }, none, by decide +kernel⟩,
   ⟨st (running { z with face := { z.face with perst := false } }), some (true, false), by decide +kernel⟩,
   ⟨st (running { z with face := { z.face with perst := false } }), 5, 16, by decide +kernel⟩,
   ⟨st (msix 0), by decide +kernel⟩,
   ⟨st { msix 0 with face := { z.face with psk := some (9, rep 48) } }, 9, true, rep 48, by decide +kernel⟩,
   ⟨st { z with face := { z.face with spdm := true } }, 3, .keyProg (rep 32), rep 32, by decide +kernel⟩,
   ⟨st { (z.set R.HF_IDE_STATUS 1 0 3) with face := { z.face with spdm := true } }, 3, .keySetGo, by decide +kernel⟩,
   ⟨st { z with face := { z.face with spdm := true } }, 3, .keySetStop, by decide +kernel⟩,
   ⟨st { z with face := { z.face with spdm := true } }, 3, .keySetGo, by decide +kernel⟩⟩

theorem witness_VectorsAreMappedMaskedAndSent :
    (∃ (s : State) (vec : Fin 512),
       let held (i : Nat) : Prop := i ∈ s.dev.log.irqHeld ∧ s.dev.get R.IC_MAP_VECTOR 0 i = vec ∧ s.dev.on R.IC_MAP_ENABLE 0 i = true
       let goes : Prop := s.dev.msiReady = true ∧ s.dev.log.funcMask = false ∧
         ∃ i, held i ∧ (i < 256 → s.dev.on R.HQ_VEC_MASK i = false)
       goes) ∧
    (∃ (s : State) (vec : Fin 512),
       let held (i : Nat) : Prop := i ∈ s.dev.log.irqHeld ∧ s.dev.get R.IC_MAP_VECTOR 0 i = vec ∧ s.dev.on R.IC_MAP_ENABLE 0 i = true
       let goes : Prop := s.dev.msiReady = true ∧ s.dev.log.funcMask = false ∧
         ∃ i, held i ∧ (i < 256 → s.dev.on R.HQ_VEC_MASK i = false)
       ¬ goes) ∧
    (∃ (s : State) (v : Word),
       let i := s.dev.get R.IC_INDEX
       (s.dev.on R.IC_MAP_ENABLE 0 i = true ∨ v.toNat.testBit 31 = false)) ∧
    (∃ (s : State) (v : Word),
       let i := s.dev.get R.IC_INDEX
       s.dev.on R.IC_MAP_ENABLE 0 i = false ∧ v.toNat.testBit 31 = true ∧ s.dev.irqAsserted i = false) ∧
    (∃ (s : State) (v : Word),
       let i := s.dev.get R.IC_INDEX
       let vec := v.toNat % 512
       s.dev.on R.IC_MAP_ENABLE 0 i = false ∧ v.toNat.testBit 31 = true ∧ s.dev.irqAsserted i = true ∧
       i ∈ s.dev.log.irqHeld ∧ s.dev.msiReady = true ∧ s.dev.vecMasked i vec = false) :=
  ⟨⟨st ((msix 300).set R.IC_MAP_VECTOR 511 0 300), 511, ⟨by decide +kernel, by decide +kernel, 300, ⟨by decide +kernel,
    by decide +kernel, by decide +kernel⟩, fun h => absurd h (by decide)⟩⟩,
   ⟨st z, 511, fun h => absurd h.1 (by decide +kernel)⟩,
   ⟨st z, 511, by decide +kernel⟩,
   ⟨st ((z.set R.IC_INDEX 511).set R.IC_MAP_ENABLE 0 0 511), 0x800001FF, by decide +kernel⟩,
   ⟨st ((((msix 356).set R.IC_INDEX 356).set R.IC_MAP_ENABLE 0 0 356).set R.TM_FIRED_LO 1), 0x800001FF, by decide +kernel⟩⟩

theorem witness_CardsActivateAndComeAndGo :
    (let powered (s : State) (i : Fin 2) : Prop := 2 ≤ s.dev.get R.CD_STATE_STATE i ∧ s.dev.get R.CD_STATE_STATE i ≤ 4
       ∃ (s : State) (i : Fin 2),
       ¬ powered s i ∧ s.dev.power.stage = .running ∧ (s.dev.card i).detect = true) ∧
    (let powered (s : State) (i : Fin 2) : Prop := 2 ≤ s.dev.get R.CD_STATE_STATE i ∧ s.dev.get R.CD_STATE_STATE i ≤ 4
       ∃ (s : State) (i : Fin 2),
       ¬ powered s i ∧ s.dev.power.stage = .running ∧ (s.dev.card i).detect = false) ∧
    (let powered (s : State) (i : Fin 2) : Prop := 2 ≤ s.dev.get R.CD_STATE_STATE i ∧ s.dev.get R.CD_STATE_STATE i ≤ 4
       ∃ (s : State) (i : Fin 2),
       powered s i ∧ s.dev.on R.CD_STATE_SESSION i = (s.dev.card i).session.isSome) ∧
    (let awaits (s : State) (i : Fin 2) : Prop := s.dev.get R.CD_STATE_STATE i = 2 ∧ (s.dev.card i).retryClass = false ∧
         (s.dev.card i).retryPps = false ∧ (s.dev.card i).pps = none
       ∃ (s : State) (i : Fin 2) (a : Atr),
       awaits s i ∧ a.usable = false) ∧
    (let awaits (s : State) (i : Fin 2) : Prop := s.dev.get R.CD_STATE_STATE i = 2 ∧ (s.dev.card i).retryClass = false ∧
         (s.dev.card i).retryPps = false ∧ (s.dev.card i).pps = none
       ∃ (s : State) (i : Fin 2) (a : Atr),
       let cls := s.dev.get R.CD_STATE_CLASS_USED i
       let mayB := cls = 1 ∧ s.dev.get R.CD_CTL_CLASS i = 0
       awaits s i ∧ a.usable = true ∧ a.classOk cls = false ∧ mayB) ∧
    (let awaits (s : State) (i : Fin 2) : Prop := s.dev.get R.CD_STATE_STATE i = 2 ∧ (s.dev.card i).retryClass = false ∧
         (s.dev.card i).retryPps = false ∧ (s.dev.card i).pps = none
       ∃ (s : State) (i : Fin 2) (a : Atr),
       let cls := s.dev.get R.CD_STATE_CLASS_USED i
       let mayB := cls = 1 ∧ s.dev.get R.CD_CTL_CLASS i = 0
       awaits s i ∧ a.usable = true ∧ a.classOk cls = false ∧ ¬ mayB) ∧
    (let awaits (s : State) (i : Fin 2) : Prop := s.dev.get R.CD_STATE_STATE i = 2 ∧ (s.dev.card i).retryClass = false ∧
         (s.dev.card i).retryPps = false ∧ (s.dev.card i).pps = none
       ∃ (s : State) (i : Fin 2) (a : Atr),
       let cls := s.dev.get R.CD_STATE_CLASS_USED i
       awaits s i ∧ a.usable = true ∧ a.classOk cls = true) ∧
    (let awaits (s : State) (i : Fin 2) : Prop := s.dev.get R.CD_STATE_STATE i = 2 ∧ (s.dev.card i).retryClass = false ∧
         (s.dev.card i).retryPps = false ∧ (s.dev.card i).pps = none
       ∃ (s : State) (i : Fin 2) (a : Atr),
       let cls := s.dev.get R.CD_STATE_CLASS_USED i
       let mayB := cls = 1 ∧ s.dev.get R.CD_CTL_CLASS i = 0
       awaits s i ∧ mayB) ∧
    (let awaits (s : State) (i : Fin 2) : Prop := s.dev.get R.CD_STATE_STATE i = 2 ∧ (s.dev.card i).retryClass = false ∧
         (s.dev.card i).retryPps = false ∧ (s.dev.card i).pps = none
       ∃ (s : State) (i : Fin 2) (a : Atr),
       let cls := s.dev.get R.CD_STATE_CLASS_USED i
       let mayB := cls = 1 ∧ s.dev.get R.CD_CTL_CLASS i = 0
       awaits s i ∧ ¬ mayB) ∧
    (let awaits (s : State) (i : Fin 2) : Prop := s.dev.get R.CD_STATE_STATE i = 2 ∧ (s.dev.card i).retryClass = false ∧
         (s.dev.card i).retryPps = false ∧ (s.dev.card i).pps = none
       ∃ (s : State) (i : Fin 2) (a : Atr),
       awaits s i) ∧
    (∃ (s : State) (i : Fin 2),
       (s.dev.card i).retryClass = true) ∧
    (∃ (s : State) (i : Fin 2),
       (s.dev.card i).retryPps = true) ∧
    (∃ (s : State) (i : Fin 2),
       (s.dev.card i).pps.isSome = true ∧ (s.dev.card i).noPps = true) ∧
    (∃ (s : State) (i : Fin 2),
       (s.dev.card i).pps.isSome = true ∧ (s.dev.card i).noPps = false) ∧
    (∃ (s : State) (i : Fin 2),
       s.dev.get R.CD_STATE_STATE i = 3 ∧ (s.dev.card i).exchange = none ∧ s.dev.get R.CD_PARAM_CLOCK_STOP i ≠ 0) ∧
    (let powered (s : State) (i : Fin 2) : Prop := 2 ≤ s.dev.get R.CD_STATE_STATE i ∧ s.dev.get R.CD_STATE_STATE i ≤ 4
       ∃ (s : State) (i : Fin 2) (mv current : BitVec 16),
       ¬ powered s i) ∧
    (let powered (s : State) (i : Fin 2) : Prop := 2 ≤ s.dev.get R.CD_STATE_STATE i ∧ s.dev.get R.CD_STATE_STATE i ≤ 4
       ∃ (s : State) (i : Fin 2) (mv current : BitVec 16),
       let cls := s.dev.get R.CD_STATE_CLASS_USED i
       let outside := 3 ≤ s.dev.get R.CD_STATE_STATE i ∧
         ¬ (if cls = 1 then 1710 ≤ mv.toNat ∧ mv.toNat ≤ 1890 else 2850 ≤ mv.toNat ∧ mv.toNat ≤ 3150)
       let bad := if outside then (s.dev.card i).vccBad + 1 else 0
       let trip := (if cls = 1 then 3500 else 6000) < current.toNat
       powered s i ∧ (s.dev.card i).retryClass = false ∧ (s.dev.card i).retryPps = false ∧ ¬ trip ∧ bad ≤ 10) ∧
    (let powered (s : State) (i : Fin 2) : Prop := 2 ≤ s.dev.get R.CD_STATE_STATE i ∧ s.dev.get R.CD_STATE_STATE i ≤ 4
       ∃ (s : State) (i : Fin 2) (mv current : BitVec 16),
       let cls := s.dev.get R.CD_STATE_CLASS_USED i
       let outside := 3 ≤ s.dev.get R.CD_STATE_STATE i ∧
         ¬ (if cls = 1 then 1710 ≤ mv.toNat ∧ mv.toNat ≤ 1890 else 2850 ≤ mv.toNat ∧ mv.toNat ≤ 3150)
       let bad := if outside then (s.dev.card i).vccBad + 1 else 0
       let trip := (if cls = 1 then 3500 else 6000) < current.toNat
       powered s i ∧ (s.dev.card i).retryClass = false ∧ (s.dev.card i).retryPps = false ∧ (trip ∨ 10 < bad)) ∧
    (∃ (s : State) (i : Fin 2),
       (s.dev.card i).detect = true) ∧
    (∃ (s : State) (i : Fin 2),
       (s.dev.card i).detect = false) :=
  ⟨⟨st (running (cardAt 1 idleCard)), 1, by decide +kernel⟩,
   ⟨st (running (cardAt 0 CardIf.idle)), 1, by decide +kernel⟩,
   ⟨st (cardAt 4 idleCard), 1, by decide +kernel⟩,
   ⟨st (cardAt 2 idleCard), 1, { atr with intact := false }, by decide +kernel⟩,
   ⟨st ((cardAt 2 idleCard).set R.CD_STATE_CLASS_USED 1 1), 1, { atr with clock := some (0, 2) }, by decide +kernel⟩,
   ⟨st ((cardAt 2 idleCard).set R.CD_STATE_CLASS_USED 2 1), 1, { atr with clock := some (0, 4) }, by decide +kernel⟩,
   ⟨st ((cardAt 2 idleCard).set R.CD_STATE_CLASS_USED 1 1), 1, atr, by decide +kernel⟩,
   ⟨st ((cardAt 2 idleCard).set R.CD_STATE_CLASS_USED 1 1), 1, atr, by decide +kernel⟩,
   ⟨st ((cardAt 2 idleCard).set R.CD_STATE_CLASS_USED 2 1), 1, atr, by decide +kernel⟩,
   ⟨st (cardAt 2 idleCard), 1, atr, by decide +kernel⟩,
   ⟨st (cardAt 2 { idleCard with retryClass := true }), 1, by decide +kernel⟩,
   ⟨st (cardAt 2 { idleCard with retryPps := true }), 1, by decide +kernel⟩,
   ⟨st (cardAt 2 { idleCard with pps := some 0x12, noPps := true }), 1, by decide +kernel⟩,
   ⟨st (cardAt 2 { idleCard with pps := some 0x12 }), 1, by decide +kernel⟩,
   ⟨st ((cardAt 3 idleCard).set R.CD_PARAM_CLOCK_STOP 1 1), 1, by decide +kernel⟩,
   ⟨st (cardAt 1 idleCard), 1, 1800, 0, by decide +kernel⟩,
   ⟨st ((cardAt 3 { idleCard with vccBad := 9 }).set R.CD_STATE_CLASS_USED 1 1), 1, 1709, 3500, by decide +kernel⟩,
   ⟨st ((cardAt 3 { idleCard with vccBad := 10 }).set R.CD_STATE_CLASS_USED 1 1), 1, 1709, 0, by decide +kernel⟩,
   ⟨st (cardAt 3 idleCard), 1, by decide +kernel⟩,
   ⟨st z, 1, by decide +kernel⟩⟩

theorem witness_CardCommandsAndCeremonies :
    (let commands (req : Requester) (i : Fin 2) (v : Word) : List Instr := [.cardOpenSession req i v, .cardReadSlot req i v,
         .cardVerify req i v, .cardWriteShare req i v, .cardProtectSlot req i v, .cardWake req i v, .cardClose req i v]
       ∃ (s : State) (req : Requester) (i : Fin 2) (v : Word), ∃ c,
       c ∈ commands req i v ∧ req.origin ≠ .supervisor) ∧
    (let commands (req : Requester) (i : Fin 2) (v : Word) : List Instr := [.cardOpenSession req i v, .cardReadSlot req i v,
         .cardVerify req i v, .cardWriteShare req i v, .cardProtectSlot req i v, .cardWake req i v, .cardClose req i v]
       ∃ (s : State) (req : Requester) (i : Fin 2) (v : Word), ∃ c,
       c ∈ commands req i v ∧ req.origin = .supervisor ∧ s.dev.on R.CD_CMD_STATUS_BUSY i = true) ∧
    (let commands (req : Requester) (i : Fin 2) (v : Word) : List Instr := [.cardOpenSession req i v, .cardReadSlot req i v,
         .cardVerify req i v, .cardWriteShare req i v, .cardProtectSlot req i v, .cardWake req i v, .cardClose req i v]
       ∃ (s : State) (req : Requester) (i : Fin 2) (v : Word), ∃ c,
       c ∈ commands req i v ∧ req.origin = .supervisor ∧ s.dev.on R.CD_CMD_STATUS_BUSY i = false ∧
       v.toNat / 256 % 256 ≤ 15 ∧ s.dev.on R.CD_STATE_PRESENT i = false) ∧
    (∃ (s : State) (req : Requester) (i : Fin 2) (v : Word),
       let slot := v.toNat / 256 % 256
       req.origin = .supervisor ∧ s.dev.on R.CD_CMD_STATUS_BUSY i = false ∧ slot ≤ 15 ∧
       s.dev.on R.CD_STATE_PRESENT i = true ∧ s.dev.get R.CD_STATE_STATE i = 3) ∧
    (∃ (s : State) (req : Requester) (i : Fin 2) (v : Word),
       let slot := v.toNat / 256 % 256
       ∃ x,
       req.origin = .supervisor ∧ s.dev.on R.CD_CMD_STATUS_BUSY i = false ∧ slot ≤ 15 ∧
       s.dev.on R.CD_STATE_PRESENT i = true ∧ s.dev.get R.CD_STATE_STATE i = 3 ∧ (s.dev.card i).session = some x) ∧
    (∃ (s : State) (req : Requester) (i : Fin 2) (v : Word),
       let slot := v.toNat / 256 % 256
       let arg := v.toNat / 65536
       ∃ x,
       req.origin = .supervisor ∧ s.dev.on R.CD_CMD_STATUS_BUSY i = false ∧ slot ≤ 15 ∧
       s.dev.on R.CD_STATE_PRESENT i = true ∧ s.dev.get R.CD_STATE_STATE i = 3 ∧ (s.dev.card i).session = some x ∧
       16 ≤ arg ∧ arg ≤ 128) ∧
    (∃ (s : State) (req : Requester) (i : Fin 2) (v : Word),
       let slot := v.toNat / 256 % 256
       let arg := v.toNat / 65536
       ∃ x, ∃ k,
       req.origin = .supervisor ∧ s.dev.on R.CD_CMD_STATUS_BUSY i = false ∧ slot ≤ 15 ∧
       s.dev.on R.CD_STATE_PRESENT i = true ∧ s.dev.get R.CD_STATE_STATE i = 3 ∧ (s.dev.card i).session = some x ∧
       s.dev.cards.backup = some k ∧ s.dev.get R.CD_CER_STATUS_STATE = 3 ∧ 1 ≤ arg ∧ arg ≤ k.n) ∧
    (∃ (s : State) (req : Requester) (i : Fin 2) (v : Word),
       let slot := v.toNat / 256 % 256
       ∃ x,
       req.origin = .supervisor ∧ s.dev.on R.CD_CMD_STATUS_BUSY i = false ∧ slot ≤ 15 ∧
       s.dev.on R.CD_STATE_PRESENT i = true ∧ (s.dev.get R.CD_STATE_STATE i = 3 ∨ s.dev.get R.CD_STATE_STATE i = 4) ∧
       (s.dev.card i).session = some x) ∧
    (∃ (s : State) (i : Fin 2) (x : CardExchange), ∃ (id hash : Nat) (e : RosterEntry),
       (s.dev.card i).exchange = some x ∧ (s.dev.card i).pps = none ∧ (s.dev.card i).detect = true ∧ x.op = 1 ∧
       s.dev.cards.roster.find? (fun e => e.keyHash == hash && e.cardId == id) = some e) ∧
    (∃ (s : State) (i : Fin 2) (x : CardExchange), ∃ (y : SlotImage) (c : CardSession),
       (s.dev.card i).exchange = some x ∧ (s.dev.card i).pps = none ∧ (s.dev.card i).detect = true ∧ x.op = 2 ∧
       (s.dev.card i).session = some c ∧ y.crcOk = true) ∧
    (∃ (s : State) (i : Fin 2) (x : CardExchange), ∃ (y : SlotImage) (c : CardSession),
       (s.dev.card i).exchange = some x ∧ (s.dev.card i).pps = none ∧ (s.dev.card i).detect = true ∧ x.op = 2 ∧
       (s.dev.card i).session = some c ∧ y.crcOk = false) ∧
    (∃ (s : State) (i : Fin 2) (x : CardExchange), ∃ (y : SlotImage) (c : CardSession),
       (s.dev.card i).exchange = some x ∧ (s.dev.card i).pps = none ∧ (s.dev.card i).detect = true ∧ x.op = 4 ∧
       x.sent = false ∧ (s.dev.card i).session = some c ∧ y.crcOk = true ∧ y.flags % 4 = 0) ∧
    (∃ (s : State) (i : Fin 2) (x : CardExchange), ∃ (n : Nat) (c : CardSession),
       (s.dev.card i).exchange = some x ∧ (s.dev.card i).pps = none ∧ (s.dev.card i).detect = true ∧ x.op = 4 ∧
       x.sent = true ∧ (s.dev.card i).session = some c) ∧
    (∃ (s : State) (i : Fin 2) (x : CardExchange), ∃ overrun : Bool,
       (s.dev.card i).exchange = some x ∧ (s.dev.card i).pps = none ∧ (s.dev.card i).detect = true ∧ x.resynchs = 0 ∧
       x.tries < s.dev.get R.CD_T1_RETRY i) ∧
    (∃ (s : State) (i : Fin 2) (x : CardExchange),
       (s.dev.card i).exchange = some x ∧ (s.dev.card i).pps = none ∧ (s.dev.card i).detect = true) ∧
    (∃ (s : State) (req : Requester) (v : Word),
       s.dev.get R.CD_CER_STATUS_STATE ≠ 0) ∧
    (∃ (s : State) (req : Requester) (v : Word),
       let cls := v.toNat / 256 % 256
       let m := s.dev.threshold cls
       s.dev.get R.CD_CER_STATUS_STATE = 0 ∧ 1 ≤ cls ∧ cls ≤ 10 ∧ m ≠ 0 ∧ m < 32 ∧ s.perm.level < 2) ∧
    (∃ (s : State) (req : Requester) (v : Word),
       let cls := v.toNat / 256 % 256
       let m := s.dev.threshold cls
       s.dev.get R.CD_CER_STATUS_STATE = 0 ∧ s.perm.level < 2 ∧ (cls < 1 ∨ 10 < cls ∨ m = 0)) ∧
    (∃ (s : State) (req : Requester),
       let state := s.dev.get R.CD_CER_STATUS_STATE
       (state = 1 ∨ state = 2)) ∧
    (∃ (s : State) (req : Requester),
       let state := s.dev.get R.CD_CER_STATUS_STATE
       state = 1) ∧
    (∃ (s : State) (req : Requester),
       let state := s.dev.get R.CD_CER_STATUS_STATE
       state = 2) :=
  ⟨⟨st z, ⟨.debug, 0, .debug⟩, 1, 0, .cardClose ⟨.debug, 0, .debug⟩ 1 0, by decide +kernel⟩,
   ⟨st (z.set R.CD_CMD_STATUS_BUSY 1 1), mgr, 1, 0, .cardWake mgr 1 0, by decide +kernel⟩,
   ⟨st z, mgr, 1, 0xF00, .cardVerify mgr 1 0xF00, by decide +kernel⟩,
   ⟨st (present1 (cardAt 3 sesCard)), mgr, 1, 0xF00, by decide +kernel⟩,
   ⟨st (present1 (cardAt 3 sesCard)), mgr, 1, 0x800F00, cardSes, by decide +kernel⟩,
   ⟨st (present1 (cardAt 3 sesCard)), mgr, 1, 0x800F00, cardSes, by decide +kernel⟩,
   ⟨st (present1 (withBackup (cardAt 3 sesCard))), mgr, 1, 0x100F00, cardSes, ⟨[], 2, 16, rep 32, rep 32, []⟩,
    by decide +kernel⟩,
   ⟨st (present1 (cardAt 4 sesCard)), mgr, 1, 0xF00, cardSes, by decide +kernel⟩,
   ⟨st (busyCard 1 false), 1, exch 1 false, 9, 8, ⟨9, 8, 1⟩, by decide +kernel⟩,
   ⟨st (busyCard 2 false), 1, exch 2 false, slot0 true, cardSes, by decide +kernel⟩,
   ⟨st (busyCard 2 false), 1, exch 2 false, slot0 false, cardSes, by decide +kernel⟩,
   ⟨st (busyCard 4 false), 1, exch 4 false, slot0 true, cardSes, by decide +kernel⟩,
   ⟨st (busyCard 4 true), 1, exch 4 true, 6, cardSes, by decide +kernel⟩,
   ⟨st (busyCard 4 true), 1, exch 4 true, true, by decide +kernel⟩,
   ⟨st (busyCard 4 true), 1, exch 4 true, by decide +kernel⟩,
   ⟨st (z.set R.CD_CER_STATUS_STATE 1), mgr, 0x0A00, by decide +kernel⟩,
   ⟨st { z with cards := { z.cards with thresholds := [(10, 16)] } }, mgr, 0x0A00, by decide +kernel⟩,
   ⟨st z, mgr, 0x0B00, by decide +kernel⟩,
   ⟨st (z.set R.CD_CER_STATUS_STATE 1), mgr, by decide +kernel⟩,
   ⟨st (z.set R.CD_CER_STATUS_STATE 1), mgr, by decide +kernel⟩,
   ⟨st (z.set R.CD_CER_STATUS_STATE 2), mgr, by decide +kernel⟩⟩

theorem witness_TamperSourcesCountFireAndErase :
    (∃ (s : State) (source : Fin 42) (stamp : Nat) (reading : Word) (level : Bool),
       let counts := s.dev.watched s.perm source = true ∧ ¬ (level = true ∧ source.val ∈ s.dev.plinth.asserted)
       ¬ counts) ∧
    (∃ (s : State) (source : Fin 42) (stamp : Nat) (reading : Word) (level : Bool),
       let c := s.dev.sourceEff source
       let l := Tab.get s.dev.plinth.stamps source [] ++ [stamp]
       let fires := c.1 ≤ l.length ∧
         s.dev.inWindow ((l.drop (l.length - c.1)).headD stamp) stamp (c.2.2.1 * unitUs c.2.1) = true
       let counts := s.dev.watched s.perm source = true ∧ ¬ (level = true ∧ source.val ∈ s.dev.plinth.asserted)
       counts ∧ ¬ fires) ∧
    (∃ (s : State) (source : Fin 42) (stamp : Nat) (reading : Word) (level : Bool),
       let c := s.dev.sourceEff source
       let l := Tab.get s.dev.plinth.stamps source [] ++ [stamp]
       let fires := c.1 ≤ l.length ∧
         s.dev.inWindow ((l.drop (l.length - c.1)).headD stamp) stamp (c.2.2.1 * unitUs c.2.1) = true
       let counts := s.dev.watched s.perm source = true ∧ ¬ (level = true ∧ source.val ∈ s.dev.plinth.asserted)
       counts ∧ fires ∧ s.dev.power.main = true) ∧
    (∃ (s : State) (t0 t1 t2 : Int) (stamp : Nat),
       s.dev.mgmtOn = true) ∧
    (∃ (s : State) (differs : BitVec 4) (stamp : Nat),
       s.dev.mgmtOn = true) ∧
    (∃ s : State,
       s.perm.level = 4 ∧ s.perm.shareErased = false ∧ s.dev.wires.demand = false) ∧
    (∃ (s : State) (req : Requester) (v : Word),
       s.dev.on (R.LOCK .tm) = true) ∧
    (∃ (s : State) (req : Requester) (v : Word),
       let source := s.dev.get R.TM_SRC_INDEX
       let n := v.toNat / 2 ^ 24
       let u := v.toNat / 2 ^ 22 % 4
       let w := v.toNat / 2 ^ 8 % 2 ^ 14
       let r := v.toNat % 8
       let wrong := n = 0 ∨ u = 3 ∨ w = 0 ∨ 10000 < w ∨ 4 < r ∨ r < lowestResponse source
       s.dev.on (R.LOCK .tm) = false ∧ wrong) ∧
    (∃ (s : State) (req : Requester) (v : Word),
       let source := s.dev.get R.TM_SRC_INDEX
       let old := s.dev.sourceCfg source
       let n := v.toNat / 2 ^ 24
       let u := v.toNat / 2 ^ 22 % 4
       let w := v.toNat / 2 ^ 8 % 2 ^ 14
       let r := v.toNat % 8
       let wrong := n = 0 ∨ u = 3 ∨ w = 0 ∨ 10000 < w ∨ 4 < r ∨ r < lowestResponse source
       let looser := (s.perm.lcState = 3 ∨ s.perm.lcState = 4) ∧
         (r < old.2.2.2 ∨ old.1 < n ∨ w * unitUs u < old.2.2.1 * unitUs old.2.1)
       s.dev.on (R.LOCK .tm) = false ∧ ¬ wrong ∧ looser) ∧
    (∃ (s : State) (req : Requester) (v : Word),
       let source := s.dev.get R.TM_SRC_INDEX
       let old := s.dev.sourceCfg source
       let n := v.toNat / 2 ^ 24
       let u := v.toNat / 2 ^ 22 % 4
       let w := v.toNat / 2 ^ 8 % 2 ^ 14
       let r := v.toNat % 8
       let wrong := n = 0 ∨ u = 3 ∨ w = 0 ∨ 10000 < w ∨ 4 < r ∨ r < lowestResponse source
       let looser := (s.perm.lcState = 3 ∨ s.perm.lcState = 4) ∧
         (r < old.2.2.2 ∨ old.1 < n ∨ w * unitUs u < old.2.2.1 * unitUs old.2.1)
       s.dev.on (R.LOCK .tm) = false ∧ ¬ wrong ∧ ¬ looser) ∧
    (∃ (s : State) (v : Word),
       v.toNat / 256 % 256 ≠ 0x5A) ∧
    (∃ (s : State) (v : Word),
       v.toNat / 256 % 256 = 0x5A ∧ 1 < s.perm.lcState) ∧
    (∃ (s : State) (v : Word),
       let source := v.toNat % 64
       let can := (6 ≤ source ∧ source ≤ 9) ∨ (34 ≤ source ∧ source ≤ 36)
       v.toNat / 256 % 256 = 0x5A ∧ s.perm.lcState ≤ 1 ∧ ¬ can) ∧
    (∃ (s : State) (v : Word),
       let source := v.toNat % 64
       let can := (6 ≤ source ∧ source ≤ 9) ∨ (34 ≤ source ∧ source ≤ 36)
       v.toNat / 256 % 256 = 0x5A ∧ s.perm.lcState ≤ 1 ∧ can ∧ s.dev.life.standing ≠ some (3, source)) ∧
    (∃ (s : State) (v : Word),
       let source := v.toNat % 64
       let can := (6 ≤ source ∧ source ≤ 9) ∨ (34 ≤ source ∧ source ≤ 36)
       v.toNat / 256 % 256 = 0x5A ∧ s.perm.lcState ≤ 1 ∧ can ∧ s.dev.life.standing = some (3, source)) ∧
    (∃ (s : State) (source : Nat),
       s.dev.life.fusing = some source) :=
  ⟨⟨st (running z) { lc 3 with fuses := [36] }, 36, 0, 0, true, by decide +kernel⟩,
   ⟨st ((running z).set R.TM_SRC_CFG_N 2 0 41), 41, 0, 0, false, by decide +kernel⟩,
   ⟨st (running z), 41, 0, 0, true, by decide +kernel⟩,
   ⟨st (running z), -181, 461, 381, 0, by decide +kernel⟩,
   ⟨st (running z), 15, 0, by decide +kernel⟩,
   ⟨st z (lvl 4), by decide +kernel⟩,
   ⟨st (z.set (R.LOCK .tm) 1), mgr, 0, by decide +kernel⟩,
   ⟨st z, mgr, 0, by decide +kernel⟩,
   ⟨st (z.set R.TM_SRC_INDEX 7) (lc 3), mgr, 0xFF000100, by decide +kernel⟩,
   ⟨st (z.set R.TM_SRC_INDEX 7) (lc 1), mgr, 0xFF000100, by decide +kernel⟩,
   ⟨st z, 0, by decide +kernel⟩,
   ⟨st z (lc 2), 0x5A24, by decide +kernel⟩,
   ⟨st z (lc 1), 0x5A0A, by decide +kernel⟩,
   ⟨st z (lc 1), 0x5A24, by decide +kernel⟩,
   ⟨st { z with life := { z.life with standing := some (3, 36) } } (lc 1), 0x5A24, by decide +kernel⟩,
   ⟨st { z with life := { z.life with fusing := some 36 } } (lc 1), 36, by decide +kernel⟩⟩

theorem witness_CornerstoneRecordsAreLinkedAndRead :
    (∃ (s : State) (b : CsBody) (rest : List CsBody),
       s.dev.cs.buffer = b :: rest ∧ s.dev.power.main = true ∧ s.dev.cs.durable.length < 8388608) ∧
    (∃ (s : State) (b : CsBody) (rest : List CsBody),
       s.dev.cs.buffer = b :: rest ∧ (s.dev.power.main = false ∨ 8388608 ≤ s.dev.cs.durable.length)) ∧
    (∃ (s : State) (n : Nat),
       s.dev.cs.reading = some n) :=
  ⟨⟨st { running z with cs := { z.cs with buffer := [default] } }, default, [], by decide +kernel⟩,
   ⟨st { z with cs := { z.cs with buffer := [default] } }, default, [], by decide +kernel⟩,
   ⟨st { z with cs := { z.cs with reading := some 5 } }, 5, by decide +kernel⟩⟩

theorem witness_LifeCycleTransitionsRunTheirSteps :
    (∃ (s : State) (v : Word),
       v.toNat.testBit 0 = false) ∧
    (∃ (s : State) (v : Word),
       let target := v.toNat / 256 % 8
       ∃ st,
       v.toNat.testBit 0 = true ∧ s.dev.lcFault s.perm target = some st) ∧
    (∃ (s : State) (v : Word),
       let target := v.toNat / 256 % 8
       v.toNat.testBit 0 = true ∧ s.dev.lcFault s.perm target = none) ∧
    (∃ (s : State) (ok : Bool) (t : Transition) (k : Nat), ∃ st,
       s.dev.life.transition = some t ∧ s.perm.nextStep t.target = some k ∧
       (s.dev.lcStep s.perm t.target k ok).1 = some st) ∧
    (∃ (s : State) (ok : Bool) (t : Transition) (k : Nat),
       s.dev.life.transition = some t ∧ s.perm.nextStep t.target = some k ∧ (s.dev.lcStep s.perm t.target k ok).1 = none) ∧
    (∃ (s : State) (ok : Bool) (t : Transition) (k : Nat),
       s.dev.life.transition = some t ∧ s.perm.nextStep t.target = some k ∧ k < 5 ∧ (t.target = 6 ∨ t.target = 7)) :=
  ⟨⟨st z, 0x0700, by decide +kernel⟩,
   ⟨st z, 1, .lcTarget, by decide +kernel⟩,
   ⟨st { z with life := { z.life with standing := some (1, 7) } }, 0x0701, by decide +kernel⟩,
   ⟨st { z with life := { z.life with transition := some ⟨1, 0⟩ } } { Perm.reset with otp := [(1, 15)] }, false, ⟨1, 0⟩,
    0, .lcPrecheck, by decide +kernel⟩,
   ⟨st { z with life := { z.life with transition := some ⟨1, 0⟩ } } { Perm.reset with otp := [(1, 15)] }, true, ⟨1, 0⟩, 0,
    by decide +kernel⟩,
   ⟨st { z with life := { z.life with transition := some ⟨7, 0⟩ } } { lc 4 with otp := [(0, 2 ^ 16 - 1), (7, 0xFF)] },
    true, ⟨7, 0⟩, 4, by decide +kernel⟩⟩

theorem witness_TokensAndTheDebugPort :
    (∃ (s : State) (req : Requester) (v : Word),
       v.toNat.testBit 0 = true ∧ s.dev.on R.RN_STATUS_FAIL = false) ∧
    (∃ (s : State) (v : Word),
       v.toNat.testBit 0 = true ∧ s.dev.on R.LC_TOKEN_STATUS_BUSY = false) ∧
    (∃ (s : State) (v : Word),
       (v.toNat.testBit 0 = false ∨ s.dev.on R.LC_TOKEN_STATUS_BUSY = true)) ∧
    (∃ (s : State) (signed : Bool) (c : TokenCheck),
       s.dev.life.checking = some c ∧ c.live = false) ∧
    (∃ (s : State) (signed : Bool) (c : TokenCheck),
       s.dev.life.checking = some c ∧ c.live = true ∧ signed = false) ∧
    (∃ (s : State) (signed : Bool) (c : TokenCheck), ∃ st,
       s.dev.life.checking = some c ∧ s.dev.tokenCheck s.perm c signed = .inl st) ∧
    (∃ (s : State) (signed : Bool) (c : TokenCheck), ∃ purpose what,
       s.dev.life.checking = some c ∧ s.dev.tokenCheck s.perm c signed = .inr (.stands purpose what)) ∧
    (∃ (s : State) (signed : Bool) (c : TokenCheck), ∃ scope seconds,
       s.dev.life.checking = some c ∧ s.dev.tokenCheck s.perm c signed = .inr (.debug scope seconds)) ∧
    (∃ (s : State) (v : Word) (scope : Nat),
       s.dev.life.session = some scope) ∧
    (∃ (s : State) (v : Word) (scope : Nat),
       s.dev.life.session = some scope ∧ v.toNat.testBit 0 = true) ∧
    (∃ (s : State) (v : Word) (scope : Nat),
       s.dev.life.session = some scope ∧ v.toNat.testBit 0 = false) ∧
    (∃ (s : State) (stamp : Nat) (c : Instr) (i : TapIns),
       (c, i) ∈ [(Instr.tapIdcode stamp, TapIns.idcode),
         (.tapBypass stamp, .bypass), (.tapSamplePreload stamp, .samplePreload), (.tapExtest stamp, .extest),
         (.tapIntest stamp, .intest)] ∧
       (i = .idcode ∨ i = .bypass ∨ (s.dev.debugScope s.perm).testBit 6 = true)) ∧
    (∃ (s : State) (stamp : Nat) (c : Instr) (i : TapIns),
       (c, i) ∈ [(Instr.tapIdcode stamp, TapIns.idcode),
         (.tapBypass stamp, .bypass), (.tapSamplePreload stamp, .samplePreload), (.tapExtest stamp, .extest),
         (.tapIntest stamp, .intest)] ∧
       i ≠ .idcode ∧ i ≠ .bypass ∧ (s.dev.debugScope s.perm).testBit 6 = false) :=
  ⟨⟨st z, mgr, 1, by decide +kernel⟩,
   ⟨st z, 1, by decide +kernel⟩,
   ⟨st z, 0, by decide +kernel⟩,
   ⟨st { z with life := { z.life with checking := some ⟨false, []⟩ } }, true, ⟨false, []⟩, by decide +kernel⟩,
   ⟨st { z with life := { z.life with checking := some ⟨true, []⟩ } }, false, ⟨true, []⟩, by decide +kernel⟩,
   ⟨st { z with life := { z.life with checking := some ⟨false, []⟩ } }, true, ⟨false, []⟩, .challengeAbsent, rfl, rfl⟩,
   ⟨st (submitted 1 7 0 0), true, check1, 1, 7, rfl, token_stands⟩,
   ⟨st (submitted 2 0 7 86400) (lc 1), true, check1, 7, 86400, rfl, token_debugs⟩,
   ⟨st { z with life := { z.life with session := some 5 } }, 1, 5, by decide +kernel⟩,
   ⟨st { z with life := { z.life with session := some 5 } }, 1, 5, by decide +kernel⟩,
   ⟨st { z with life := { z.life with session := some 5 } }, 0, 5, by decide +kernel⟩,
   ⟨st z, 0, .tapIntest 0, .intest, by simp, .inr (.inr (by decide +kernel))⟩,
   ⟨st z (lc 2), 0, .tapIntest 0, .intest, by simp, by decide, by decide, by decide +kernel⟩⟩

theorem witness_KeystonesCompareFailAndSwitch :
    (let st (d : Dev) (u : Nat) : Nat := d.get R.KS_STATUS_STATE u
       ∃ (s : State) (digest : DWord) (standby : List DWord) (stamp : Nat),
       (∀ u < 2, st s.dev u ≠ 4)) ∧
    (let st (d : Dev) (u : Nat) : Nat := d.get R.KS_STATUS_STATE u
       ∃ (s : State) (digest : DWord) (standby : List DWord) (stamp : Nat) (c : Fin 2),
       let u := 1 - c.val
       st s.dev c = 4 ∧ st s.dev u ≠ 3 ∧ st s.dev u ≠ 4) ∧
    (let st (d : Dev) (u : Nat) : Nat := d.get R.KS_STATUS_STATE u
       ∃ (s : State) (digest : DWord) (standby : List DWord) (stamp : Nat) (c : Fin 2),
       let u := 1 - c.val
       let old := s.dev.pair.digests
       st s.dev c = 4 ∧ st s.dev u = 3 ∧ standby = [] ∧ old.length < 4096) ∧
    (let st (d : Dev) (u : Nat) : Nat := d.get R.KS_STATUS_STATE u
       ∃ (s : State) (digest : DWord) (standby : List DWord) (stamp : Nat) (c : Fin 2),
       let u := 1 - c.val
       let old := s.dev.pair.digests
       st s.dev c = 4 ∧ st s.dev u = 3 ∧ standby = [digest] ∧ old = []) ∧
    (let st (d : Dev) (u : Nat) : Nat := d.get R.KS_STATUS_STATE u
       ∃ (s : State) (digest : DWord) (standby : List DWord) (stamp : Nat) (c : Fin 2),
       let u := 1 - c.val
       let old := s.dev.pair.digests
       ∃ x,
       st s.dev c = 4 ∧ st s.dev u = 3 ∧ standby = [x] ∧ x ≠ digest ∧ old = []) ∧
    (let st (d : Dev) (u : Nat) : Nat := d.get R.KS_STATUS_STATE u
       ∃ (s : State) (digest : DWord) (standby : List DWord) (stamp : Nat) (c : Fin 2),
       let u := 1 - c.val
       let old := s.dev.pair.digests
       st s.dev c = 4 ∧ st s.dev u = 3 ∧ standby = [] ∧ old.length = 4096) ∧
    (let st (d : Dev) (u : Nat) : Nat := d.get R.KS_STATUS_STATE u
       ∃ (s : State) (aMortar aWire bMortar bWire : Bool) (stamp : Nat),
       let beats (u : Nat) : Prop := 2 ≤ st s.dev u ∧ st s.dev u ≤ 4
       let next (f : Fld) (u : Nat) (seen : Bool) : Nat := if seen then 0 else min 15 (s.dev.get f u + 1)
       let m (u : Nat) : Nat := next R.KS_STATUS_MISS_MORTAR u (if u = 0 then aMortar else bMortar)
       let w (u : Nat) : Nat := next R.KS_STATUS_MISS_WIRE u (if u = 0 then aWire else bWire)
       let silent (u : Nat) : Prop := beats u ∧ 4 ≤ m u ∧ 4 ≤ w u
       (∀ u < 2, ¬ silent u)) ∧
    (let st (d : Dev) (u : Nat) : Nat := d.get R.KS_STATUS_STATE u
       ∃ (s : State) (aMortar aWire bMortar bWire : Bool) (stamp : Nat),
       let beats (u : Nat) : Prop := 2 ≤ st s.dev u ∧ st s.dev u ≤ 4
       let next (f : Fld) (u : Nat) (seen : Bool) : Nat := if seen then 0 else min 15 (s.dev.get f u + 1)
       let m (u : Nat) : Nat := next R.KS_STATUS_MISS_MORTAR u (if u = 0 then aMortar else bMortar)
       let w (u : Nat) : Nat := next R.KS_STATUS_MISS_WIRE u (if u = 0 then aWire else bWire)
       let silent (u : Nat) : Prop := beats u ∧ 4 ≤ m u ∧ 4 ≤ w u
       ∃ u,
       u < 2 ∧ silent u ∧ ¬ silent (1 - u) ∧ st s.dev u ≠ 4) ∧
    (let st (d : Dev) (u : Nat) : Nat := d.get R.KS_STATUS_STATE u
       ∃ (s : State) (aMortar aWire bMortar bWire : Bool) (stamp : Nat),
       let beats (u : Nat) : Prop := 2 ≤ st s.dev u ∧ st s.dev u ≤ 4
       let next (f : Fld) (u : Nat) (seen : Bool) : Nat := if seen then 0 else min 15 (s.dev.get f u + 1)
       let m (u : Nat) : Nat := next R.KS_STATUS_MISS_MORTAR u (if u = 0 then aMortar else bMortar)
       let w (u : Nat) : Nat := next R.KS_STATUS_MISS_WIRE u (if u = 0 then aWire else bWire)
       let silent (u : Nat) : Prop := beats u ∧ 4 ≤ m u ∧ 4 ≤ w u
       ∃ u,
       u < 2 ∧ silent u ∧ ¬ silent (1 - u) ∧ st s.dev u = 4 ∧ st s.dev (1 - u) = 3) ∧
    (let st (d : Dev) (u : Nat) : Nat := d.get R.KS_STATUS_STATE u
       ∃ (s : State) (u : Fin 2) (stamp : Nat),
       (st s.dev u = 0 ∨ st s.dev u = 5)) ∧
    (let st (d : Dev) (u : Nat) : Nat := d.get R.KS_STATUS_STATE u
       ∃ (s : State) (u : Fin 2) (stamp : Nat),
       st s.dev u ≠ 0 ∧ st s.dev u ≠ 4 ∧ st s.dev u ≠ 5) ∧
    (let st (d : Dev) (u : Nat) : Nat := d.get R.KS_STATUS_STATE u
       ∃ (s : State) (u : Fin 2) (stamp : Nat),
       let other := 1 - u.val
       st s.dev u = 4 ∧ st s.dev other = 3) ∧
    (let st (d : Dev) (u : Nat) : Nat := d.get R.KS_STATUS_STATE u
       ∃ (s : State) (u : Fin 2) (stamp : Nat),
       let other := 1 - u.val
       st s.dev u = 4 ∧ st s.dev other ≠ 3) :=
  ⟨⟨st z, 0, [], 0, by decide +kernel⟩,
   ⟨st (ctl z), 0, [], 0, 0, by decide +kernel⟩,
   ⟨st { ksPair 3 with pair := { z.pair with digests := List.replicate 4095 (1, 1) } }, 0, [], 0, 0, by decide +kernel⟩,
   ⟨st (ksPair 3), 5, [5], 0, 0, by decide +kernel⟩,
   ⟨st (ksPair 3), 5, [6], 0, 0, 6, by decide +kernel⟩,
   ⟨st { ksPair 3 with pair := { z.pair with digests := List.replicate 4096 (1, 1) } }, 0, [], 0, 0, by decide +kernel⟩,
   ⟨st (ksPair 3), false, false, false, false, 0, by decide +kernel⟩,
   ⟨st (missed 1 (ksPair 2)), true, true, false, false, 0, 1, by decide +kernel⟩,
   ⟨st (missed 0 (ksPair 3)), false, false, true, true, 0, 0, by decide +kernel⟩,
   ⟨st z, 1, 0, by decide +kernel⟩,
   ⟨st (ksPair 2), 1, 0, by decide +kernel⟩,
   ⟨st (ksPair 3), 0, 0, by decide +kernel⟩,
   ⟨st (ksPair 2), 0, 0, by decide +kernel⟩⟩

theorem witness_KeystonesRestartAndHandOver :
    (let st (d : Dev) (u : Nat) : Nat := d.get R.KS_STATUS_STATE u
       ∃ (s : State) (u : Fin 2),
       let x := s.dev.unit u
       let may := (st s.dev u = 5 ∨ (st s.dev u = 0 ∧ s.dev.get R.KS_STATUS_CAUSE u ≠ 0)) ∧ x.noAuto = false ∧
         (x.failTimes.filter (fun t => s.dev.pair.windows < t + 36000000)).length < 3
       may) ∧
    (let st (d : Dev) (u : Nat) : Nat := d.get R.KS_STATUS_STATE u
       ∃ (s : State) (u : Fin 2),
       let x := s.dev.unit u
       let may := (st s.dev u = 5 ∨ (st s.dev u = 0 ∧ s.dev.get R.KS_STATUS_CAUSE u ≠ 0)) ∧ x.noAuto = false ∧
         (x.failTimes.filter (fun t => s.dev.pair.windows < t + 36000000)).length < 3
       ¬ may) ∧
    (∃ (s : State) (req : Requester) (u : Fin 2) (v : Word),
       v.toNat.testBit 0 = false) ∧
    (let st (d : Dev) (u : Nat) : Nat := d.get R.KS_STATUS_STATE u
       ∃ (s : State) (req : Requester) (u : Fin 2) (v : Word),
       v.toNat.testBit 0 = true ∧ st s.dev u = 4) ∧
    (let st (d : Dev) (u : Nat) : Nat := d.get R.KS_STATUS_STATE u
       ∃ (s : State) (req : Requester) (u : Fin 2) (v : Word),
       v.toNat.testBit 0 = true ∧ st s.dev u ≠ 4) ∧
    (let st (d : Dev) (u : Nat) : Nat := d.get R.KS_STATUS_STATE u
       ∃ (s : State) (u : Fin 2) (img : FwImage),
       st s.dev u = 1 ∧ img.signed = false) ∧
    (let st (d : Dev) (u : Nat) : Nat := d.get R.KS_STATUS_STATE u
       ∃ (s : State) (u : Fin 2) (img : FwImage),
       let c := 1 - u.val
       st s.dev u = 1 ∧ img.signed = true ∧ st s.dev c ≠ 4) ∧
    (let st (d : Dev) (u : Nat) : Nat := d.get R.KS_STATUS_STATE u
       ∃ (s : State) (u : Fin 2) (img : FwImage),
       let c := 1 - u.val
       let fits := img.pairMin ≤ s.dev.get R.KS_FW_RELEASE c ∧ s.dev.get R.KS_FW_PAIR_MIN c ≤ img.release
       st s.dev u = 1 ∧ img.signed = true ∧ st s.dev c = 4 ∧ fits) ∧
    (let st (d : Dev) (u : Nat) : Nat := d.get R.KS_STATUS_STATE u
       ∃ (s : State) (u : Fin 2) (img : FwImage),
       let c := 1 - u.val
       let fits := img.pairMin ≤ s.dev.get R.KS_FW_RELEASE c ∧ s.dev.get R.KS_FW_PAIR_MIN c ≤ img.release
       st s.dev u = 1 ∧ img.signed = true ∧ st s.dev c = 4 ∧ ¬ fits) ∧
    (let st (d : Dev) (u : Nat) : Nat := d.get R.KS_STATUS_STATE u
       ∃ (s : State) (u : Fin 2),
       st s.dev u = 2 ∧ st s.dev (1 - u.val) = 4) ∧
    (let st (d : Dev) (u : Nat) : Nat := d.get R.KS_STATUS_STATE u
       ∃ (s : State) (req : Requester) (c : Fin 2),
       st s.dev c = 4 ∧ st s.dev (1 - c.val) ≠ 4 ∧ st s.dev (1 - c.val) = 3) ∧
    (let st (d : Dev) (u : Nat) : Nat := d.get R.KS_STATUS_STATE u
       ∃ (s : State) (req : Requester) (c : Fin 2),
       st s.dev c = 4 ∧ st s.dev (1 - c.val) ≠ 4 ∧ st s.dev (1 - c.val) ≠ 3) ∧
    (let st (d : Dev) (u : Nat) : Nat := d.get R.KS_STATUS_STATE u
       ∃ (s : State) (c : Fin 2),
       let u := 1 - c.val
       let reverts := s.dev.pair.revert = true ∧ u = 0
       let due := st s.dev u = 3 ∧ (reverts ∨ s.dev.on R.KS_PAIR_CTL_SWITCH = true)
       st s.dev c = 4 ∧ due) ∧
    (let st (d : Dev) (u : Nat) : Nat := d.get R.KS_STATUS_STATE u
       ∃ (s : State) (c : Fin 2),
       let u := 1 - c.val
       let reverts := s.dev.pair.revert = true ∧ u = 0
       let due := st s.dev u = 3 ∧ (reverts ∨ s.dev.on R.KS_PAIR_CTL_SWITCH = true)
       st s.dev c = 4 ∧ ¬ due ∧ st s.dev u ≠ 4) ∧
    (let st (d : Dev) (u : Nat) : Nat := d.get R.KS_STATUS_STATE u
       ∃ s : State,
       let n := (s.dev.pair.reverts.filter (fun t => s.dev.pair.windows < t + 36000000)).length
       s.dev.on R.KS_PAIR_CTL_AUTO_REVERT = true ∧ st s.dev 0 = 3 ∧ st s.dev 1 = 4 ∧
       s.dev.on R.KS_PAIR_STATUS_HOLD = false ∧ n < 3) ∧
    (let st (d : Dev) (u : Nat) : Nat := d.get R.KS_STATUS_STATE u
       ∃ s : State,
       let n := (s.dev.pair.reverts.filter (fun t => s.dev.pair.windows < t + 36000000)).length
       s.dev.on R.KS_PAIR_CTL_AUTO_REVERT = true ∧ st s.dev 0 = 3 ∧ st s.dev 1 = 4 ∧
       s.dev.on R.KS_PAIR_STATUS_HOLD = false ∧ 3 ≤ n) :=
  ⟨⟨st { z.set R.KS_STATUS_STATE 5 1 with pair := { z.pair with b := { KUnit.off with failTimes := [0, 0] } } }, 1,
    by decide +kernel⟩,
   ⟨st { z.set R.KS_STATUS_STATE 5 1 with pair := { z.pair with b := { KUnit.off with failTimes := [0, 0, 0] } } }, 1,
    by decide +kernel⟩,
   ⟨st z, mgr, 1, 2, by decide +kernel⟩,
   ⟨st (ctl z), mgr, 0, 1, by decide +kernel⟩,
   ⟨st (ksPair 5), mgr, 1, 3, by decide +kernel⟩,
   ⟨st (ksPair 1), 1, ⟨1, 1, 1, false⟩, by decide +kernel⟩,
   ⟨st (z.set R.KS_STATUS_STATE 1 1), 1, ⟨1, 1, 1, true⟩, by decide +kernel⟩,
   ⟨st (ksPair 1), 1, ⟨1, 1, 0, true⟩, by decide +kernel⟩,
   ⟨st (ksPair 1), 1, ⟨1, 1, 1, true⟩, by decide +kernel⟩,
   ⟨st (ksPair 2), 1, by decide +kernel⟩,
   ⟨st (ksPair 3), mgr, 0, by decide +kernel⟩,
   ⟨st (ksPair 2), mgr, 0, by decide +kernel⟩,
   ⟨st { ksBack with pair := { z.pair with revert := true } }, 1, by decide +kernel⟩,
   ⟨st (ksPair 3), 0, by decide +kernel⟩,
   ⟨st { ksBack with pair := { z.pair with reverts := [0, 0] } }, by decide +kernel⟩,
   ⟨st { ksBack with pair := { z.pair with reverts := [0, 0, 0] } }, by decide +kernel⟩⟩

theorem witness_StartsPowerUpAndLosses :
    (∃ s : State,
       s.dev.power.main = false) ∧
    (∃ s : State,
       s.dev.power.main = true) ∧
    (∃ (s : State) (f : StartFindings) (stamp : Nat) (c : Instr),
       s.dev.power.main = true ∧
       (c = .startAttempt f stamp ∧ s.dev.power.stage = .window ∧ s.dev.life.transition = none ∨
         c = .startRetry f stamp ∧ s.dev.power.stage = .waiting) ∧
       s.perm.lcFinding = .normal ∧ s.perm.lcState ≠ 7 ∧ f.faultA = none ∧ f.tables = true ∧ f.mounts = true ∧
       f.image.signed = true ∧ f.lowest ≤ f.image.release ∧ s.dev.power.floorCopy ≤ f.image.formatMax ∧
       (∀ r ∈ s.dev.keys.floorRecord, r.1 ≤ f.image.formatMax) ∧ f.faultB = none ∧ (f.starts.1 || f.starts.2) = true) ∧
    (∃ (s : State) (f : StartFindings) (stamp : Nat) (c : Instr),
       s.dev.power.main = true ∧
       (c = .startAttempt f stamp ∧ s.dev.power.stage = .window ∧ s.dev.life.transition = none ∨
         c = .startRetry f stamp ∧ s.dev.power.stage = .waiting) ∧
       s.perm.lcFinding = .normal ∧ s.perm.lcState ≠ 7 ∧ f.faultA.isSome = true) ∧
    (∃ (s : State) (f : StartFindings) (stamp : Nat) (c : Instr),
       s.dev.power.main = true ∧
       (c = .startAttempt f stamp ∧ s.dev.power.stage = .window ∧ s.dev.life.transition = none ∨
         c = .startRetry f stamp ∧ s.dev.power.stage = .waiting) ∧
       s.perm.lcFinding = .normal ∧ s.perm.lcState ≠ 7 ∧ f.faultA = none ∧ f.tables = false) ∧
    (∃ (s : State) (f : StartFindings) (stamp : Nat) (c : Instr),
       s.dev.power.main = true ∧
       (c = .startAttempt f stamp ∧ s.dev.power.stage = .window ∧ s.dev.life.transition = none ∨
         c = .startRetry f stamp ∧ s.dev.power.stage = .waiting) ∧
       s.perm.lcFinding = .normal ∧ s.perm.lcState = 7) ∧
    (∃ (s : State) (f : StartFindings) (stamp : Nat) (c : Instr), ∃ t,
       s.dev.power.main = true ∧
       (c = .startAttempt f stamp ∧ s.dev.power.stage = .window ∧ s.dev.life.transition = none ∨
         c = .startRetry f stamp ∧ s.dev.power.stage = .waiting) ∧
       s.perm.lcFinding = .resume t) ∧
    (∃ (s : State) (f : StartFindings) (stamp : Nat) (c : Instr),
       s.dev.power.main = true ∧
       (c = .startAttempt f stamp ∧ s.dev.power.stage = .window ∧ s.dev.life.transition = none ∨
         c = .startRetry f stamp ∧ s.dev.power.stage = .waiting) ∧
       s.perm.lcFinding = .held) ∧
    (∃ (s : State) (f : StartFindings) (e : Nat) (key share : Bytes),
       s.dev.power.stage = .running ∧ s.dev.power.rootRetry = true ∧ s.perm.shareErased = false ∧ 2 ≤ s.perm.lcState ∧
       s.perm.lcState ≤ 5 ∧ s.dev.helperOrder.findSome? (fun i => if i = 0 then f.errs.1 else f.errs.2) = some e ∧
       s.dev.referenceKey s.perm = some key ∧ s.dev.plinth.share = some share) ∧
    (∃ (s : State) (writes stamp : Nat),
       s.dev.power.main = true ∧ s.dev.power.dip = true) ∧
    (∃ (s : State) (writes stamp : Nat),
       (s.dev.power.main = false ∨ s.dev.power.dip = false)) ∧
    (∃ (s : State) (up : Bool) (stamp : Nat),
       s.dev.power.aux = up) ∧
    (∃ (s : State) (up : Bool) (stamp : Nat),
       s.dev.power.aux ≠ up ∧ (up = true ∨ s.dev.power.main = true)) ∧
    (∃ (s : State) (up : Bool) (stamp : Nat),
       s.dev.power.aux = true ∧ up = false ∧ s.dev.power.main = false) :=
  ⟨⟨st { z with plinth := { z.plinth with pending := 2, pendingFired := [5, 40] } }, by decide +kernel⟩,
   ⟨st (running z), by decide +kernel⟩,
   ⟨st (starting .window), good, 0, .startAttempt good 0, by decide +kernel, .inl ⟨rfl, rfl, rfl⟩, by decide +kernel,
    by decide +kernel, by decide +kernel, by decide +kernel, by decide +kernel, by decide +kernel, by decide +kernel,
    by decide +kernel, by decide +kernel, by decide +kernel, by decide +kernel⟩,
   ⟨st (starting .waiting), { good with faultA := some 1 }, 0, .startRetry { good with faultA := some 1 } 0,
    by decide +kernel, .inr ⟨rfl, rfl⟩, by decide +kernel, by decide +kernel, by decide +kernel⟩,
   ⟨st (starting .waiting), { good with tables := false }, 0, .startRetry { good with tables := false } 0,
    by decide +kernel, .inr ⟨rfl, rfl⟩, by decide +kernel, by decide +kernel, by decide +kernel, by decide +kernel⟩,
   ⟨st (starting .window) (lc 7), good, 0, .startAttempt good 0, by decide +kernel, .inl ⟨rfl, rfl, rfl⟩,
    by decide +kernel, by decide +kernel⟩,
   ⟨st (starting .window) { Perm.reset with otp := [(7, 15)] }, good, 0, .startAttempt good 0, 7, by decide +kernel,
    .inl ⟨rfl, rfl, rfl⟩, by decide +kernel⟩,
   ⟨st (starting .window) { Perm.reset with otp := [(0, 2 ^ 28)] }, good, 0, .startAttempt good 0, by decide +kernel,
    .inl ⟨rfl, rfl, rfl⟩, by decide +kernel⟩,
   ⟨st { regen (rep 1) with power := { (starting .running).power with rootRetry := true } } (lc 5),
    { good with errs := (some 7, none) }, 7, rep 1, rep 32, by decide +kernel⟩,
   ⟨st { z with power := { (starting .running).power with dip := true } } (lc 3), 0, 0, by decide +kernel⟩,
   ⟨st (running z), 0, 0, by decide +kernel⟩,
   ⟨st z, false, 0, by decide +kernel⟩,
   ⟨st { z with power := { (starting .running).power with aux := true } }, false, 0, by decide +kernel⟩,
   ⟨st { z with power := { z.power with aux := true } }, false, 0, by decide +kernel⟩⟩

theorem witness_DomainsPlansAndSupplies :
    (∃ (s : State) (req : Requester),
       let i := s.dev.get R.PW_DOM_INDEX
       (i = 48 ∨ 80 ≤ i)) ∧
    (let dom (d : Dev) (i : Nat) : Nat := d.get R.PW_DOM_STATUS_STATE 0 i
       ∃ (s : State) (req : Requester),
       let i := s.dev.get R.PW_DOM_INDEX
       i ≠ 48 ∧ i < 80 ∧ dom s.dev i ≠ 0 ∧ dom s.dev i ≠ 4) ∧
    (let dom (d : Dev) (i : Nat) : Nat := d.get R.PW_DOM_STATUS_STATE 0 i
       ∃ (s : State) (req : Requester),
       let i := s.dev.get R.PW_DOM_INDEX
       i ≠ 48 ∧ i < 80 ∧ (dom s.dev i = 0 ∨ dom s.dev i = 4)) ∧
    (let dom (d : Dev) (i : Nat) : Nat := d.get R.PW_DOM_STATUS_STATE 0 i
       ∃ (s : State) (req : Requester),
       let i := s.dev.get R.PW_DOM_INDEX
       i ≠ 48 ∧ i < 80 ∧ dom s.dev i = 0) ∧
    (let dom (d : Dev) (i : Nat) : Nat := d.get R.PW_DOM_STATUS_STATE 0 i
       ∃ (s : State) (req : Requester),
       let i := s.dev.get R.PW_DOM_INDEX
       i < 80 ∧ dom s.dev i ≠ 0 ∧ s.dev.mayOff i = false) ∧
    (let dom (d : Dev) (i : Nat) : Nat := d.get R.PW_DOM_STATUS_STATE 0 i
       ∃ (s : State) (req : Requester),
       let i := s.dev.get R.PW_DOM_INDEX
       i < 80 ∧ dom s.dev i ≠ 0 ∧ s.dev.mayOff i = true) ∧
    (let dom (d : Dev) (i : Nat) : Nat := d.get R.PW_DOM_STATUS_STATE 0 i
       ∃ (s : State) (i : Fin 80) (mv : Nat),
       dom s.dev i = 2) ∧
    (let dom (d : Dev) (i : Nat) : Nat := d.get R.PW_DOM_STATUS_STATE 0 i
       ∃ (s : State) (i : Fin 80) (mv : Nat),
       dom s.dev i ≠ 2) ∧
    (∃ s : State,
       s.dev.power.stage = .running) ∧
    (∃ (s : State) (x : PlanItem),
       s.dev.power.stage = .running ∧ s.dev.power.measuring = true ∧ (∃ u < 2, s.dev.get R.KS_STATUS_STATE u = 4) ∧
       x.island < 16) ∧
    (∃ (s : State) (main aux iin power ballast : Nat),
       (s.dev.power.main = true ∨ s.dev.power.aux = true)) ∧
    (∃ (s : State) (addr : Word),
       (s.dev.power.main || s.dev.power.aux) = true) ∧
    (∃ (s : State) (cmd : Byte) (addr : Word),
       (s.dev.power.main || s.dev.power.aux) = false ∨ cmd ≠ 1) :=
  ⟨⟨st (z.set R.PW_DOM_INDEX 48), mgr, by decide +kernel⟩,
   ⟨st (dom 79 2), mgr, by decide +kernel⟩,
   ⟨st (dom 79 4), mgr, by decide +kernel⟩,
   ⟨st (dom 79 0), mgr, by decide +kernel⟩,
   ⟨st (dom 48 2), mgr, by decide +kernel⟩,
   ⟨st ((dom 0 2).set R.KS_STATUS_STATE 5 0), mgr, by decide +kernel⟩,
   ⟨st (dom 79 2), 79, 0, by decide +kernel⟩,
   ⟨st (dom 79 4), 79, 0, by decide +kernel⟩,
   ⟨st (running z), by decide +kernel⟩,
   ⟨st { ctl z with power := { (starting .running).power with measuring := true } }, ⟨15, 0, 0, 0, 0⟩, by decide +kernel⟩,
   ⟨st (running z), 11400, 3300, 0, 0, 0, by decide +kernel⟩,
   ⟨st (running z), 0, by decide +kernel⟩,
   ⟨st (running z), 2, 0, by decide +kernel⟩⟩

theorem witness_RecorderAndCountersKeepTheirCounts :
    (∃ (s : State) (m : Mark) (l : List Mark),
       s.dev.log.markBuf = m :: l ∧ s.dev.on R.EV_STATUS_MOUNTED = true) ∧
    (∃ (s : State) (m : Mark) (l : List Mark),
       s.dev.log.markBuf = m :: l ∧ s.dev.on R.EV_STATUS_MOUNTED = false) ∧
    (∃ (s : State) (req : Requester) (v : Word),
       v.toNat.testBit 0 = false) ∧
    (∃ (s : State) (req : Requester) (v : Word),
       let may := s.dev.on R.EV_STATUS_FULL = true ∧ s.dev.archived + 1 = s.dev.log.markNext ∧ s.dev.authStands 8 = true
       v.toNat.testBit 0 = true ∧ ¬ may) ∧
    (∃ (s : State) (req : Requester) (v : Word),
       let may := s.dev.on R.EV_STATUS_FULL = true ∧ s.dev.archived + 1 = s.dev.log.markNext ∧ s.dev.authStands 8 = true
       v.toNat.testBit 0 = true ∧ may ∧ s.dev.on R.EV_STATUS_MOUNTED = true) ∧
    (∃ (s : State) (plinth : Bool) (seq : Nat), ∃ m,
       s.dev.log.markRead = some (plinth, seq) ∧
       (plinth = false ∧ s.dev.log.markBase ≤ seq ∧ seq < s.dev.log.markNext ∧
         (s.dev.log.markMain ++ s.dev.log.markBuf).find? (fun m => m.seq == seq) = some m ∨
         plinth = true ∧ seq < s.dev.log.plinthNext ∧ m.seq = seq ∧
         Tab.look s.dev.log.plinthMarks (if seq < 256 then seq else 256 + seq % 256) = some m)) ∧
    (∃ (s : State) (plinth : Bool) (seq : Nat),
       s.dev.log.markRead = some (plinth, seq) ∧ plinth = false ∧ (seq < s.dev.log.markBase ∨ s.dev.log.markNext ≤ seq)) ∧
    (∃ (s : State) (plinth : Bool) (seq : Nat),
       s.dev.log.markRead = some (plinth, seq) ∧ plinth = false ∧ s.dev.log.markBase ≤ seq ∧ seq < s.dev.log.markNext ∧
       (∀ m ∈ s.dev.log.markMain ++ s.dev.log.markBuf, m.seq ≠ seq)) ∧
    (∃ (s : State) (o : Occ),
       s.dev.log.acc = [o] ∧ o.level = false ∧
       (∀ k < 64, s.dev.on R.PC_SEL_LEVEL 0 k = false ∧ Tab.get s.dev.log.counters k 0 + o.weight < 2 ^ 48)) ∧
    (∃ s : State,
       s.dev.on R.PC_CTL_FREEZE = true) ∧
    (∃ s : State,
       s.dev.on R.PC_CTL_SNAPSHOT = true ∧ (∀ e ∈ s.dev.log.counters, e.1 < 64)) :=
  ⟨⟨st { z.set R.EV_STATUS_MOUNTED 1 with log := { z.log with markBuf := [mark0] } }, mark0, [], by decide +kernel⟩,
   ⟨st { z with log := { z.log with markBuf := [mark0] } }, mark0, [], by decide +kernel⟩,
   ⟨st z, mgr, 0, by decide +kernel⟩,
   ⟨st z, mgr, 1, by decide +kernel⟩,
   ⟨st { auth 8 0 ((z.set R.EV_STATUS_FULL 1).set R.EV_STATUS_MOUNTED 1) with log := { z.log with markNext := 1 } }, mgr,
    1, by decide +kernel⟩,
   ⟨st { z with log := { z.log with markMain := [mark0], markNext := 1, markRead := some (false, 0) } }, false, 0, mark0,
    by decide +kernel, .inl ⟨rfl, by decide +kernel, by decide +kernel, by decide +kernel⟩⟩,
   ⟨st { z with log := { z.log with markRead := some (false, 0) } }, false, 0, by decide +kernel⟩,
   ⟨st { z with log := { z.log with markNext := 1, markRead := some (false, 0) } }, false, 0, by decide +kernel⟩,
   ⟨st { z with log := { z.log with acc := [⟨1, none, 0, 1, 0, false⟩] } }, ⟨1, none, 0, 1, 0, false⟩, by decide +kernel⟩,
   ⟨st (z.set R.PC_CTL_FREEZE 1), by decide +kernel⟩,
   ⟨st (z.set R.PC_CTL_SNAPSHOT 1), by decide +kernel⟩⟩

end Sys2Proof.Tests
end

namespace Sys2Proof.Machine

/-! # Register writes, reads, LOCK and the state after reset

What REGISTER_WRITE, RC_READ, LOCK_WRITE and SOFT_RESET do to the register file (R7, R9, R38, R41), and what every register
field holds at reset. -/

/-! ## The commands that carry one access -/

/-- REGISTER_WRITE completes with what its write leaves. -/
theorem completes_registerWrite {req : Requester} {addr : BitVec 48} {size : Nat} {v : DWord} {s : State}
    {P : Perm → Dev → Prop}
    (h : P (registerWrite req addr.toNat size v.toNat s.perm s.dev).1
      (registerWrite req addr.toNat size v.toNat s.perm s.dev).2) :
    Completes (.registerWrite req addr size v) s P := ⟨_, rfl, rfl, h⟩

/-- RC_READ completes with what its read leaves, and the permanent state stays. -/
theorem completes_rcRead {req : Requester} {addr : BitVec 48} {s : State} {P : Perm → Dev → Prop}
    (h : P s.perm (rcRead req addr.toNat s.perm s.dev)) : Completes (.rcRead req addr) s P := ⟨_, rfl, rfl, h⟩

/-- A write of a header register reaches the page that its index names. -/
theorem headerWrite_reg {req : Requester} {pg off v : Nat} {b : Blk} {i o : Nat} {p : Perm} {d : Dev}
    (ht : targetOf (pg * 0x1000 + off) = .reg b i o) : headerWrite pg off v req p d = d.writeReg p req none b i o v := by
  simp only [headerWrite, ht]

/-- LOCK_WRITE to a register page writes that page's LOCK, and the permanent state stays. -/
theorem completes_lockWrite {req : Requester} {pg : BitVec 16} {v : Word} {s : State} {b : Blk} {i : Nat}
    {P : Perm → Dev → Prop} (ht : targetOf (pg.toNat * 0x1000 + 0x01C) = .reg b i 0x01C)
    (h : P s.perm (s.dev.writeLock b i v.toNat)) : Completes (.lockWrite req pg v) s P := by
  have hw : headerWrite pg.toNat 0x01C v.toNat req s.perm s.dev = (s.perm, s.dev.writeLock b i v.toNat) := by
    rw [headerWrite_reg ht, Dev.writeReg, if_neg (targetOf_header (by decide) ht)]; rfl
  exact ⟨_, rfl, rfl, by simpa only [hw] using h⟩

/-- SOFT_RESET of a register page writes that page's CTRL, and the permanent state stays. -/
theorem completes_softReset {req : Requester} {pg : BitVec 16} {v : Word} {s : State} {b : Blk} {i : Nat}
    {P : Perm → Dev → Prop} (ht : targetOf (pg.toNat * 0x1000 + 0x008) = .reg b i 0x008)
    (h : P s.perm (s.dev.writeCtrl b i v.toNat)) : Completes (.softReset req pg v) s P := by
  have hw : headerWrite pg.toNat 0x008 v.toNat req s.perm s.dev = (s.perm, s.dev.writeCtrl b i v.toNat) := by
    rw [headerWrite_reg ht, Dev.writeReg, if_neg (targetOf_header (by decide) ht)]; rfl
  exact ⟨_, rfl, rfl, by simpa only [hw] using h⟩

/-! ## A register without an action of its own -/

/-- A word written to a register without an action, within the ranges of its fields, writes every field by its type. -/
theorem Dev.writeReg_plain {req : Requester} {pasid : Option Nat} {b : Blk} {i off v : Nat} {p : Perm} {d : Dev}
    (ho : 0x040 ≤ off) (hm : mgmtWrite req b i off v p d = none) (hb : blockWrite req pasid b i off v p d = none)
    (hr : d.outOfRange b i off v = false) :
    d.writeReg p req pasid b i off v = (p, d.writeFields b i off v (fun _ => true)) := by
  have h : ¬ off < 0x040 ∧ off ≠ 0x008 ∧ off ≠ 0x014 ∧ off ≠ 0x018 ∧ off ≠ 0x01C := by omega
  simp [Dev.writeReg, Dev.plainWrite, h, hm, hb, hr]

/-- An aligned REGISTER_WRITE of 4 bytes to such a register. -/
theorem registerWrite_plain {req : Requester} {addr v : Nat} {b : Blk} {i off : Nat} {p : Perm} {d : Dev}
    (ha : addr % 4 = 0) (ht : targetOf addr = .reg b i off) (ho : 0x040 ≤ off)
    (hm : mgmtWrite req b i off (low 32 v) p d = none) (hb : blockWrite req none b i off (low 32 v) p d = none)
    (hr : d.outOfRange b i off (low 32 v) = false) :
    registerWrite req addr 4 v p d = (p, d.writeFields b i off (low 32 v) (fun _ => true)) := by
  simp [registerWrite, ha, Dev.writeAt, ht, Dev.writeReg_plain ho hm hb hr]

/-- A write of another size or alignment is dropped, and only its record is left (R38). -/
theorem registerWrite_partial {req : Requester} {addr size v : Nat} {p : Perm} {d : Dev}
    (h4 : ¬ (size = 4 ∧ addr % 4 = 0)) (h8 : ¬ (size = 8 ∧ addr % 8 = 0)) :
    registerWrite req addr size v p d = (p, d.partialWrite req addr size) := by
  simp only [registerWrite, h4, h8, if_false]

/-- A dropped write does no more than report. -/
theorem Dev.partialWrite_reported (d : Dev) (req : Requester) (addr size : Nat) :
    Dev.Reported (fun _ => False) d (d.partialWrite req addr size) := by
  unfold Dev.partialWrite
  split <;> exact (Dev.Reported.refl d).mark _ _ _ _ _ _ _

/-- On an assigned page the record is EV_REG_PARTIAL. -/
theorem Dev.partialWrite_mapped {req : Requester} {addr size : Nat} {d : Dev}
    (h : targetOf (addr - addr % 4) ≠ .unmapped) : ∃ isl : Island, d.partialWrite req addr size =
      d.mark .regPartial isl 0 (low 32 addr) (bits addr 47 32) size req.param := by
  unfold Dev.partialWrite
  split
  case h_1 b _ _ _ => exact ⟨b.island, rfl⟩
  case h_2 => exact ⟨.corbel, rfl⟩
  case h_3 hu => exact absurd hu h

/-- On an unassigned page the record is EV_REG_UNMAPPED (log entry 39). -/
theorem Dev.partialWrite_unmapped {req : Requester} {addr size : Nat} {d : Dev}
    (h : targetOf (addr - addr % 4) = .unmapped) :
    d.partialWrite req addr size =
      d.mark .regUnmapped .management 0 (low 32 addr) (bits addr 47 32) size req.param := by
  simp only [Dev.partialWrite, h]

/-! ## Writing the fields of a register -/

/-- A change of the register file alone leaves the work. -/
theorem Dev.SameWork.of_regs {d e : Dev} (h : e = { d with regs := e.regs }) : d.SameWork e := by
  rw [h]; exact ⟨rfl, rfl, rfl, rfl, rfl, rfl, rfl, rfl, rfl, rfl, rfl, rfl, rfl⟩

/-- A write of a register's fields changes the register file alone. -/
theorem Dev.writeFields_regs (d : Dev) (b : Blk) (i off v : Nat) (sel : Fld → Bool) :
    d.writeFields b i off v sel = { d with regs := (d.writeFields b i off v sel).regs } := by
  rw [Dev.writeFields_parts]; exact Dev.foldWrites_regs _ _ _ _

/-- A write leaves every place of the register file that no field of the register holds. -/
theorem Dev.writeFields_look {d : Dev} {b : Blk} {i off : Nat} {sel : Fld → Bool} (v : Nat) {key : Nat}
    (h : ∀ e ∈ d.parts b i off sel, e.1.key i e.2 ≠ key) :
    Tab.look (d.writeFields b i off v sel).regs.vals key = Tab.look d.regs.vals key := by
  rw [Dev.writeFields_parts]; exact Dev.foldWrites_look _ _ _ _ _ h

/-- A write leaves every other page. -/
theorem Dev.writeFields_page {d : Dev} {b : Blk} {i off : Nat} {sel : Fld → Bool} (v : Nat) {key : Nat}
    (h : key / 0x20000000 ≠ b.page i) :
    Tab.look (d.writeFields b i off v sel).regs.vals key = Tab.look d.regs.vals key := by
  apply Dev.writeFields_look
  rintro e he rfl
  obtain ⟨hf, -, -, hk⟩ := Dev.parts_mem he
  exact h (Blk.key_page hf hk)

/-- A writable field that stands once in the register and takes effect at once holds its bits of the word. -/
theorem Dev.writeFields_get_one {d : Dev} {b : Blk} {i off : Nat} {f : Fld} (v : Nat) (ho : 0x040 ≤ off)
    (hf : f ∈ b.fields i) (hoff : f.off = off) (hrep : f.rep = .one) (hs : f.staged = false) (hw : d.writable f i = true) :
    (d.writeFields b i off v (fun _ => true)).get f i = f.of v 0 := by
  have hmem : (f, 0) ∈ d.parts b i off (fun _ => true) := by
    simp [Dev.parts, Dev.repsOf, hf, hrep, hoff]
  rw [Dev.writeFields_parts]
  refine Dev.foldWrites_get _ b i v f 0 d (fun e he => ?_) hf (by decide) hmem hs hw
  obtain ⟨hef, -, -, hek⟩ := Dev.parts_mem he
  exact ⟨hef, hek, Dev.parts_off he ho⟩

/-- A field that is no LOCK stands elsewhere than LOCK. -/
theorem R.LOCK_key_ne {b : Blk} {i k : Nat} {g : Fld} (hg : g ∈ b.fields i) (hk : k < 0x1000) (hne : g ≠ R.LOCK b) :
    g.key i k ≠ (R.LOCK b).key i 0 := by
  intro h
  have hb := Blk.bounds b g (b.fields_sub i g hg)
  have hplace := (Fld.key_inj g (R.LOCK b) i i k 0 ⟨hb.1, hb.2.1⟩
    ⟨by show 0x01C < 0x1000; decide, by show 0 < 32; decide⟩ hk (by decide) h).2.1
  exact hne (List.inj_on_of_nodup_map b.places (b.fields_sub i g hg) (by simp [R.headerFields]) hplace)

/-- While LOCK is 1 a write by field types leaves an RWL field. -/
theorem Dev.writeField_locked {d : Dev} {f : Fld} {i : Nat} (k v : Nat) (hk : f.kind = .rwl)
    (hl : d.on (R.LOCK f.blk) i = true) : d.writeField f i k v = d := by
  simp [Dev.writeField, Dev.writable, hk, hl]

/-- While LOCK is 1 a write of fields other than LOCK leaves every RWL field of the page (R41). -/
theorem Dev.foldWrites_locked {l : List (Fld × Nat)} {b : Blk} {i : Nat} (v : Nat) {f : Fld} {k : Nat} {d : Dev}
    (hl : ∀ e ∈ l, e.1 ∈ b.fields i ∧ e.2 < 0x1000 ∧ e.1 ≠ R.LOCK b) (hf : f ∈ b.fields i) (hk : k < 0x1000)
    (hrwl : f.kind = .rwl) (hlock : d.on (R.LOCK b) i = true) :
    (l.foldl (fun a e => a.writeField e.1 i e.2 v) d).get f i k = d.get f i k := by
  induction l generalizing d with
  | nil => rfl
  | cons e l ih =>
    obtain ⟨hef, hek, hne⟩ := hl e (by simp)
    have hstay : (d.writeField e.1 i e.2 v).on (R.LOCK b) i = true := by
      unfold Dev.on at hlock ⊢
      rwa [Dev.get_congr (Dev.writeField_look _ _ _ _ _ _ (R.LOCK_key_ne hef hek hne))]
    rw [List.foldl_cons, ih (fun x hx => hl x (List.mem_cons_of_mem _ hx)) hstay]
    by_cases hkey : e.1.key i e.2 = f.key i k
    · obtain ⟨rfl, rfl⟩ := Blk.key_inj hef hf hek hk hkey
      rw [Dev.writeField_locked _ _ hrwl (by rw [(Blk.bounds b _ (b.fields_sub i _ hf)).2.2]; exact hlock)]
    · exact Dev.get_congr (Dev.writeField_look _ _ _ _ _ _ hkey)

/-- While LOCK is 1 a register from 0x040 on keeps its RWL fields, and so does every other register of the page. -/
theorem Dev.writeFields_locked {d : Dev} {b : Blk} {i off : Nat} {sel : Fld → Bool} {f : Fld} {k : Nat} (v : Nat)
    (ho : 0x040 ≤ off) (hlock : d.get (R.LOCK b) i = 1) (hf : f ∈ b.fields i) (hrwl : f.kind = .rwl) (hk : k < 0x1000) :
    (d.writeFields b i off v sel).get f i k = d.get f i k := by
  rw [Dev.writeFields_parts]
  refine Dev.foldWrites_locked v (fun e he => ?_) hf hk hrwl (by simp [Dev.on, hlock])
  obtain ⟨hef, -, -, hek⟩ := Dev.parts_mem he
  exact ⟨hef, hek, Dev.parts_off he ho⟩

/-- Settles O4: the write is the fold of its register's fields by their types, and one of another size or alignment is its
record alone. -/
theorem registerWritesSetFieldsOrAreDropped : Obligations.RegisterWritesSetFieldsOrAreDropped := by
  constructor
  · intro s req addr v b i off f ha ht ho hm hb hr hf hoff hrep hs hw
    apply completes_registerWrite
    rw [registerWrite_plain ha ht ho hm hb hr]
    have hregs := Dev.writeFields_regs s.dev b i off (low 32 v.toNat) (fun _ => true)
    exact ⟨rfl, Dev.writeFields_get_one _ ho hf hoff hrep hs hw, Dev.SameWork.of_regs hregs,
      by rw [hregs], by rw [hregs], fun key hkey => Dev.writeFields_page _ hkey⟩
  · intro s req addr size v h4 h8
    apply completes_registerWrite
    rw [registerWrite_partial h4 h8]
    exact ⟨rfl, Dev.partialWrite_reported _ _ _ _, Dev.partialWrite_mapped, Dev.partialWrite_unmapped⟩

/-! ## Reading a register -/

/-- The RC fields of the register are 0 after they are cleared, each in the repetition that stands in it (R9). -/
theorem Dev.clearRc_zero {d : Dev} {b : Blk} {i off : Nat} {f : Fld} {k : Nat} (hf : f ∈ b.fields i) (hrc : f.kind = .rc)
    (hrep : k ∈ d.repsOf f off) (hk : k < 0x1000) : (d.clearRc b i off).get f i k = 0 := by
  have hmem : (f, k) ∈ d.parts b i off (fun f => f.kind = .rc) := by simp [Dev.parts, hf, hrc, hrep]
  rw [Dev.clearRc_parts]
  refine Dev.clear_zero _ i f k d hmem (fun e he hkey => ?_)
  obtain ⟨hef, -, -, hek⟩ := Dev.parts_mem he
  obtain ⟨h1, h2⟩ := Blk.key_inj hef hf hek hk hkey
  exact Prod.ext h1 h2

/-- Every other field of the page, and every other repetition of an RC field, keeps its value. -/
theorem Dev.clearRc_keep {d : Dev} {b : Blk} {i off : Nat} {f : Fld} {k : Nat} (hf : f ∈ b.fields i) (hk : k < 0x1000)
    (h : f.kind ≠ .rc ∨ k ∉ d.repsOf f off) : (d.clearRc b i off).get f i k = d.get f i k := by
  rw [Dev.clearRc_parts]
  refine Dev.get_congr (Dev.clear_look _ _ _ _ (fun e he hkey => ?_))
  obtain ⟨hef, hsel, hrep, hek⟩ := Dev.parts_mem he
  obtain ⟨h1, h2⟩ := Blk.key_inj hef hf hek hk hkey
  rw [h1] at hsel hrep
  rw [h2] at hrep
  exact h.elim (fun hne => hne (by simpa using hsel)) (fun hno => hno hrep)

/-- RC_READ of a register sends the register's value. -/
theorem rcRead_reg {req : Requester} {addr : Nat} {b : Blk} {i off : Nat} {p : Perm} {d : Dev}
    (ht : targetOf (addr - addr % 4) = .reg b i off) :
    rcRead req addr p d = (d.readReg p b i off).2.send (.answer req addr ⟨.ok, d.word p b i off⟩) := by
  simp only [rcRead, Dev.readAt, ht]; rfl

/-- What a field of the page reads as after a read of a register: what clearing and latching leave. -/
theorem Dev.readReg_get (d : Dev) (p : Perm) (b : Blk) (i off : Nat) (f : Fld) (k : Nat) :
    (d.readReg p b i off).2.get f i k = ((d.clearRc b i off).latch b i off).get f i k := rfl

/-- A read of a register sends nothing of itself. -/
theorem Dev.readReg_outbox (d : Dev) (p : Perm) (b : Blk) (i off : Nat) : (d.readReg p b i off).2.outbox = d.outbox := by
  show ((d.clearRc b i off).latch b i off).outbox = d.outbox
  rw [Dev.latch_regs, Dev.clearRc_parts, Dev.clear_regs]

/-- Settles O5: the read answers, clears the RC fields of its register, and latches fields of SC, KS and EV alone, none of
them RC. -/
theorem readAnswersAndClears : Obligations.ReadAnswersAndClears := by
  intro s req addr b i off ht
  apply completes_rcRead
  rw [rcRead_reg ht]
  refine ⟨rfl, by rw [Dev.send_outbox, Dev.readReg_outbox], ?_, ?_, ?_⟩
  · intro f hf hrc k hrep hk
    rw [Dev.send_get, Dev.readReg_get, Dev.latch_rc _ b i off f k (b.fields_sub i f hf) hk hrc (targetOf_single ht)]
    exact Dev.clearRc_zero hf hrc hrep hk
  · intro f hf hrc hsc hks hev k hk
    rw [Dev.send_get, Dev.readReg_get, Dev.latch_get _ b i off f k ⟨hsc, hks, hev⟩]
    exact Dev.clearRc_keep hf hk (.inl hrc)
  · intro f hf hrc k hk hrep hsc hks hev
    rw [Dev.send_get, Dev.readReg_get, Dev.latch_get _ b i off f k ⟨hsc, hks, hev⟩]
    exact Dev.clearRc_keep hf hk (.inr hrep)

/-! ## LOCK and the soft reset -/

/-- A number that a filter by numbers keeps is listed as before. -/
theorem Tab.look_filter {α : Type} (t : Tab α) (keep : Nat → Bool) (k : Nat) (h : keep k = true) :
    Tab.look (t.filter (fun e => keep e.1)) k = Tab.look t k := by
  induction t with
  | nil => rfl
  | cons e r ih =>
    obtain ⟨a, x⟩ := e
    by_cases ha : a = k
    · subst ha; simp [Tab.look, h]
    · by_cases hkeep : keep a = true <;> simp [Tab.look, hkeep, ha, ih]

/-- A soft reset leaves the fields that it keeps (R41). -/
theorem Dev.resetPage_kept {d : Dev} {b : Blk} {i : Nat} {f : Fld} (h : f ∈ d.softKept b i) :
    (d.resetPage b i).get f i = d.get f i := by
  apply Dev.get_congr
  apply Tab.look_filter _ (fun key => keyPage key ≠ b.page i ||
    ((d.softKept b i).map (fun f => f.key i 0 / 0x1000)).contains (key / 0x1000))
  have hmem : f.key i 0 / 0x1000 ∈ (d.softKept b i).map (fun f => f.key i 0 / 0x1000) := List.mem_map_of_mem h
  simp only [List.contains_iff_mem.mpr hmem, Bool.or_true]

/-- Sending the messages that can be sent changes IC_MSGS alone among the registers. -/
theorem Dev.flushAll_look (d : Dev) (key : Nat) (h : R.IC_MSGS.key 0 0 ≠ key) :
    Tab.look d.flushAll.regs.vals key = Tab.look d.regs.vals key := by
  unfold Dev.flushAll
  generalize (d.log.irqHeld.map (fun i => d.get R.IC_MAP_VECTOR 0 i)).dedup = l
  induction l generalizing d with
  | nil => rfl
  | cons v l ih =>
    rw [List.foldl_cons, ih]
    unfold Dev.flushVec
    split
    · exact Dev.look_set _ _ _ _ _ _ h
    · rfl

/-- The pages whose work a soft reset has nothing to abort in. -/
theorem Dev.abortBlock_idle {d : Dev} {b : Blk} (i : Nat) (h : b ∈ [Blk.pw, .ck, .pl, .rn, .module]) :
    d.abortBlock b i = d := by
  simp only [List.mem_cons, List.not_mem_nil, or_false] at h
  rcases h with rfl | rfl | rfl | rfl | rfl <;> rfl

/-- A soft reset of such a page keeps LOCK (R41). -/
theorem Dev.softReset_lock {d : Dev} {b : Blk} (i : Nat) (h : b ∈ [Blk.pw, .ck, .pl, .rn, .module]) :
    (d.softReset b i).get (R.LOCK b) i = d.get (R.LOCK b) i := by
  have hlock : (R.LOCK b).off < 0x40 ∧ (R.LOCK b).lo < 32 := ⟨by show 0x01C < 0x40; decide, by show 0 < 32; decide⟩
  calc (d.softReset b i).get (R.LOCK b) i
      = ((d.abortBlock b i).resetPage b i).get (R.LOCK b) i :=
        Dev.get_congr (Dev.flushAll_look _ _ (R.msgs_key _ _ hlock))
    _ = (d.resetPage b i).get (R.LOCK b) i := by rw [Dev.abortBlock_idle i h]
    _ = d.get (R.LOCK b) i := Dev.resetPage_kept (by simp [Dev.softKept])

/-- A write of a register at another offset keeps LOCK. -/
theorem Dev.writeFields_lock {d : Dev} {b : Blk} {i off : Nat} {sel : Fld → Bool} (v : Nat) (ho : off ≠ 0x01C) :
    (d.writeFields b i off v sel).get (R.LOCK b) i = d.get (R.LOCK b) i := by
  refine Dev.get_congr (Dev.writeFields_look _ (fun e he => ?_))
  obtain ⟨hef, -, hrep, hek⟩ := Dev.parts_mem he
  refine R.LOCK_key_ne hef hek (fun hlock => ?_)
  have hno : d.repsOf (R.LOCK b) off = [] := if_neg (fun h => ho h.symm)
  rw [hlock, hno] at hrep
  exact List.not_mem_nil hrep

/-- A write of CTRL of such a page keeps LOCK. -/
theorem Dev.writeCtrl_lock {d : Dev} {b : Blk} {i : Nat} (v : Nat) (h : b ∈ [Blk.pw, .ck, .pl, .rn, .module]) :
    (d.writeCtrl b i v).get (R.LOCK b) i = d.get (R.LOCK b) i := by
  have hbw : b ≠ .bw := by rintro rfl; exact absurd h (by decide)
  have hby : b ≠ .by := by rintro rfl; exact absurd h (by decide)
  simp only [Dev.writeCtrl, hbw, hby, if_false]
  split
  · rw [Dev.softReset_lock i h, Dev.writeFields_lock v (by decide)]
  · exact Dev.writeFields_lock v (by decide)

/-- LOCK_WRITE: bit 0 of the word sets LOCK, and a 0 leaves it. -/
theorem Dev.writeLock_get (d : Dev) (b : Blk) (i v : Nat) :
    (d.writeLock b i v).get (R.LOCK b) i = if v.testBit 0 then 1 else d.get (R.LOCK b) i := by
  unfold Dev.writeLock bitOf
  split
  · exact Dev.get_set_self d (R.LOCK b) 1 i 0
  · rfl

/-- LOCK_WRITE changes the register file alone. -/
theorem Dev.writeLock_regs (d : Dev) (b : Blk) (i v : Nat) :
    { d with regs := (d.writeLock b i v).regs } = d.writeLock b i v := by
  unfold Dev.writeLock; split <;> rfl

/-- LOCK_WRITE changes no other field. -/
theorem Dev.writeLock_look (d : Dev) (b : Blk) (i v key : Nat) (h : key ≠ (R.LOCK b).key i 0) :
    Tab.look (d.writeLock b i v).regs.vals key = Tab.look d.regs.vals key := by
  unfold Dev.writeLock
  split
  · exact Dev.look_set _ _ _ _ _ _ h.symm
  · rfl

/-- Settles O7: LOCK_WRITE sets LOCK alone, the soft reset keeps it, and while it is 1 the fold of a plain write passes
every RWL field by. -/
theorem lockStaysSet : Obligations.LockStaysSet := by
  refine ⟨?_, ?_, ?_⟩
  · intro s req pg v b i ht
    exact completes_lockWrite ht ⟨rfl, Dev.writeLock_get _ _ _ _, Dev.writeLock_regs _ _ _ _,
      fun key hkey => Dev.writeLock_look _ _ _ _ _ hkey⟩
  · intro s req pg v b i ht hb hlock
    exact completes_softReset ht ⟨rfl, (Dev.writeCtrl_lock _ hb).trans hlock⟩
  · intro s req addr v b i off f ha ht ho hm hb hr hlock hf hrwl
    apply completes_registerWrite
    rw [registerWrite_plain ha ht ho hm hb hr]
    exact fun k hk => Dev.writeFields_locked _ ho hlock hf hrwl hk

/-! ## The state after reset -/

/-- A field outside IC_MAP.VECTOR and TM_SRC_CFG has one reset value for all its repetitions, that of its table. -/
theorem Fld.resetAt_eq_reset {f : Fld} (k : Nat) (hic : f.blk = .ic → ¬ (f.off = 0x044 ∧ f.lo = 0))
    (htm : f.blk = .tm → f.off ≠ 0x050) : f.resetAt k = f.reset := by
  unfold Fld.resetAt
  split
  case h_1 hb => exact if_neg (hic hb)
  case h_2 hb => exact if_neg (htm hb)
  case h_3 => rfl

/-- At reset the register file lists nothing, so a field reads as its reset value cut to its width. -/
theorem State.reset_get (f : Fld) (i k : Nat) : State.reset.dev.get f i k = f.resetAt k % f.bound := rfl

/-- A field with one reset value for all its repetitions holds it in every page of its kind. -/
theorem State.reset_get_table {f : Fld} (i k : Nat) (hic : f.blk = .ic → ¬ (f.off = 0x044 ∧ f.lo = 0))
    (htm : f.blk = .tm → f.off ≠ 0x050) : State.reset.dev.get f i k = f.reset % f.bound := by
  rw [State.reset_get, Fld.resetAt_eq_reset k hic htm]

/-- Settles O60: nothing is listed at reset, so every field reads as its table's value, and every group is empty. -/
theorem resetHoldsTheSpecsValues : Obligations.ResetHoldsTheSpecsValues := by
  refine ⟨rfl, rfl, fun f i k => ⟨State.reset_get f i k, rfl⟩, ?tables, ?vectors, ?sources, rfl, rfl, rfl, rfl, rfl, rfl,
    rfl, rfl, rfl, rfl, rfl, rfl⟩
  case tables =>
    intro e he i k
    have h : (e.1.blk = .ic → ¬ (e.1.off = 0x044 ∧ e.1.lo = 0)) ∧ (e.1.blk = .tm → e.1.off ≠ 0x050) ∧
        e.1.reset % e.1.bound = e.2 := by
      revert e; decide
    obtain ⟨hic, htm, hval⟩ := h
    exact (State.reset_get_table i k hic htm).trans hval
  case vectors =>
    intro i hi
    have hwide : 500 ≤ R.IC_MAP_VECTOR.bound := by decide
    exact Nat.mod_eq_of_lt (show i < R.IC_MAP_VECTOR.bound by omega)
  case sources => decide

end Sys2Proof.Machine

namespace Sys2Proof.Machine

/-! # Register fields: staged writes, block events and refusals -/

/-! ## Commands that change no permanent state -/

/-- A command whose meaning leaves the permanent state completes with what it leaves of the rest. -/
theorem completes_after {c : Instr} {s : State} {f : Dev → Dev} {P : Perm → Dev → Prop} (hc : exec c s = s.after f)
    (h : P s.perm (f s.dev)) : Completes c s P := ⟨_, hc, rfl, h⟩

/-- The same for a meaning that reads the permanent state. -/
theorem completes_afterWith {c : Instr} {s : State} {f : Perm → Dev → Dev} {P : Perm → Dev → Prop}
    (hc : exec c s = s.afterWith f) (h : P s.perm (f s.perm s.dev)) : Completes c s P := ⟨_, hc, rfl, h⟩

/-- The same for a meaning that may change the permanent state. -/
theorem completes_afterPerm {c : Instr} {s : State} {f : Perm → Dev → Perm × Dev} {P : Perm → Dev → Prop}
    (hc : exec c s = s.afterPerm f) (h : P (f s.perm s.dev).1 (f s.perm s.dev).2) : Completes c s P := ⟨_, hc, rfl, h⟩

/-! ## Staged fields (R42) -/

/-- A staged field shows the value written, cut to its width. -/
@[simp] theorem Dev.stage_get_self (d : Dev) (f : Fld) (v i k : Nat) : (d.stage f v i k).get f i k = v % f.bound :=
  Dev.get_set_self d f v i k

theorem Dev.stage_look (d : Dev) (f : Fld) (v i k key : Nat) (h : f.key i k ≠ key) :
    Tab.look (d.stage f v i k).regs.vals key = Tab.look d.regs.vals key := Dev.look_set d f v i k key h

theorem Dev.stage_get_ne (d : Dev) (f g : Fld) (v i k j l : Nat) (h : f.key i k ≠ g.key j l) :
    (d.stage f v i k).get g j l = d.get g j l := Dev.get_set_ne d f g v i k j l h

theorem Dev.stage_staged (d : Dev) (f : Fld) (v i k : Nat) : f.key i k ∈ (d.stage f v i k).regs.staged :=
  List.mem_cons_self

/-- What staging a value leaves: the field shows it at once, it is marked for the next course boundary, and nothing else
changes. -/
def State.Stages (s : State) (f : Fld) (v i k : Nat) (p : Perm) (d : Dev) : Prop :=
  p = s.perm ∧ d.get f i k = v ∧ f.key i k ∈ d.regs.staged ∧ d.regs.eff = s.dev.regs.eff ∧
    { s.dev with regs := d.regs } = d ∧
    ∀ key, key ≠ f.key i k → Tab.look d.regs.vals key = Tab.look s.dev.regs.vals key

theorem completes_stage {c : Instr} {s : State} {g : Dev → Dev} {f : Fld} {v i k : Nat} (hc : exec c s = s.after g)
    (hg : g s.dev = s.dev.stage f v i k) (hv : v < f.bound) :
    Completes c s (s.Stages f v i k) := by
  refine completes_after hc ⟨rfl, ?_⟩
  rw [hg]
  exact ⟨(s.dev.stage_get_self f v i k).trans (Nat.mod_eq_of_lt hv), s.dev.stage_staged f v i k, rfl, rfl,
    fun key hkey => s.dev.stage_look f v i k key hkey.symm⟩

/-! ## Block events and refusals (R39, R568) -/

/-- A page that is neither EV's nor IC's. -/
def Blk.apart (b : Blk) (i : Nat) : Prop := b.page i ≠ 0x040 ∧ b.page i ≠ 0x042

theorem Blk.apart_raw {b : Blk} {i : Nat} (h : b.apart i) : ¬ markKey ((R.INT_RAW b).key i 0) :=
  markKey_false (R.INT_RAW b) i 0 h.1 h.2 (show 0x010 < 0x1000 by decide) (show 0 < 32 by decide) (by decide)

/-- A raised interrupt bit is set. -/
theorem Dev.raiseInt_bit (d : Dev) {b : Blk} {i n : Nat} (h : b.apart i) (hn : n < 32) :
    ((d.raiseInt b i n).get (R.INT_RAW b) i).testBit n = true := by
  rw [Dev.raiseInt_raw d b i n (Blk.apart_raw h), Nat.testBit_mod_two_pow]
  simp [hn, Nat.testBit_or]

/-- A block event reports, and writes INT_RAW of its page. -/
theorem Dev.blockEvent_reported (d : Dev) (b : Blk) (i n : Nat) :
    Dev.Reported (fun key => key = (R.INT_RAW b).key i 0) d (d.blockEvent b i n) :=
  (Dev.Reported.refl d).blockEvent b i n (.inr rfl)

/-- A latched block event shows in INT_RAW. -/
theorem Dev.blockEvent_bit (d : Dev) {b : Blk} {i n : Nat} (h : b.apart i) (hn : n < 32) :
    ((d.blockEvent b i n).get (R.INT_RAW b) i).testBit n = true := by
  have hraise := d.raiseInt_bit h hn
  unfold Dev.blockEvent
  dsimp only
  split
  · rwa [((Dev.Reported.refl (own := fun _ => False) _).mark _ _ _ _ _ _ _).get _ _ _ (Blk.apart_raw h) (fun x => x)]
  · exact hraise

/-- A field at another offset than INT_RAW of a page apart keeps its value at a block event of its page. -/
theorem Dev.blockEvent_get (d : Dev) {b : Blk} {f : Fld} {i k j n : Nat} (hf : ¬ markKey (f.key j k))
    (hraw : f.key j k ≠ (R.INT_RAW b).key i 0) : (d.blockEvent b i n).get f j k = d.get f j k :=
  (d.blockEvent_reported b i n).get f j k hf hraw

theorem Status.code_lt (st : Status) : st.code < 2 ^ 16 := by cases st <;> decide

/-- A refusal shows its status in ERR_INFO of the page (R39). -/
theorem Dev.err_code (d : Dev) {b : Blk} {i : Nat} (req : Requester) (st : Status) (h : b.apart i) :
    (d.err b i req st).get (R.ERR_CODE b) i = st.code := by
  have hoff : (R.ERR_CODE b).off < 0x1000 ∧ (R.ERR_CODE b).lo < 32 :=
    ⟨show 0x024 < 0x1000 by decide, show 0 < 32 by decide⟩
  have hraw : (R.ERR_CODE b).key i 0 ≠ (R.INT_RAW b).key i 0 :=
    Fld.key_ne_of_off _ _ _ _ _ _ (show 0x024 ≠ 0x010 by decide) hoff.1 hoff.2 (by decide)
      (show 0x010 < 0x1000 by decide) (show 0 < 32 by decide) (by decide)
  unfold Dev.err
  rw [Dev.blockEvent_get _ (markKey_false _ i 0 h.1 h.2 hoff.1 hoff.2 (by decide)) hraw, Dev.get_set_self]
  exact Nat.mod_eq_of_lt st.code_lt

/-- A refusal does no more than report, in INT_RAW and ERR_INFO of the page. -/
theorem Dev.err_reported (d : Dev) (b : Blk) (i : Nat) (req : Requester) (st : Status) :
    Dev.Reported reportKey d (d.err b i req st) := (Dev.Reported.refl d).err b i req st (fun _ h => h)

/-- What a refusal leaves: ERR_INFO shows its status, and nothing but a report has happened. -/
def State.Refuses (s : State) (b : Blk) (i : Nat) (st : Status) (p : Perm) (d : Dev) : Prop :=
  p = s.perm ∧ d.get (R.ERR_CODE b) i = st.code ∧ s.dev.Reported (fun key => reportKey key) d

theorem completes_err {c : Instr} {s : State} {g : Dev → Dev} {b : Blk} {i : Nat} {req : Requester} {st : Status}
    (hc : exec c s = s.after g) (hg : g s.dev = s.dev.err b i req st) (h : b.apart i) :
    Completes c s (s.Refuses b i st) := by
  refine completes_after hc ⟨rfl, ?_⟩
  rw [hg]
  exact ⟨s.dev.err_code req st h, s.dev.err_reported b i req st⟩

/-! ## Writing register fields alone -/

/-- Only register fields of a set have been written. -/
def Dev.WritesFields (own : Nat → Prop) (d e : Dev) : Prop :=
  ∃ t : Tab Nat, (∀ key, ¬ own key → Tab.look t key = Tab.look d.regs.vals key) ∧
    e = { d with regs := { d.regs with vals := t } }

section
variable {own : Nat → Prop} {a b c : Dev}

theorem Dev.WritesFields.refl (d : Dev) : Dev.WritesFields own d d := ⟨d.regs.vals, fun _ _ => rfl, rfl⟩

theorem Dev.WritesFields.trans (h : Dev.WritesFields own a b) (g : Dev.WritesFields own b c) :
    Dev.WritesFields own a c := by
  obtain ⟨t, ht, rfl⟩ := h
  obtain ⟨u, hu, rfl⟩ := g
  exact ⟨u, fun key hk => (hu key hk).trans (ht key hk), rfl⟩

theorem Dev.WritesFields.set (h : Dev.WritesFields own a b) (f : Fld) (v : Nat) {i k : Nat} (hf : own (f.key i k)) :
    Dev.WritesFields own a (b.set f v i k) :=
  h.trans ⟨_, fun _ hk => Dev.look_set b f v i k _ (fun e => hk (e ▸ hf)), rfl⟩

theorem Dev.WritesFields.ite (p : Prop) [Decidable p] (h : Dev.WritesFields own a b) (g : Dev.WritesFields own a c) :
    Dev.WritesFields own a (if p then b else c) := by split <;> assumption

/-- A fold of such writes over a list writes no more. -/
theorem Dev.WritesFields.foldl {α : Type} {l : List α} {f : Dev → α → Dev} (h : Dev.WritesFields own a b)
    (hf : ∀ x ∈ l, ∀ d, Dev.WritesFields own d (f d x)) : Dev.WritesFields own a (l.foldl f b) := by
  induction l generalizing b with
  | nil => exact h
  | cons x l ih => exact ih (h.trans (hf x (by simp) b)) (fun y hy => hf y (by simp [hy]))

/-- A field outside the set keeps its value. -/
theorem Dev.WritesFields.get (h : Dev.WritesFields own a b) {f : Fld} {i k : Nat} (hf : ¬ own (f.key i k)) :
    b.get f i k = a.get f i k := by
  obtain ⟨t, ht, rfl⟩ := h
  exact Dev.get_congr (ht _ hf)

end


/-! # Courses: the stride procedure and the boundary (R42, R59, R60) -/

/-! ## The stride procedure (R60) -/

/-- What a granted slot does to the owners: the granted one's credit falls by one and its pass rises by its stride. -/
def StrideOwner.spend (owner : Nat) (o : StrideOwner) : StrideOwner :=
  if o.owner = owner then { o with credit := o.credit - 1, pass := o.pass + o.stride } else o

theorem assignSlots_succ (n : Nat) (l : List StrideOwner) :
    assignSlots (n + 1) l = match bestOwner l with
      | none => []
      | some b => b.owner :: assignSlots n (l.map (StrideOwner.spend b.owner)) := rfl

@[simp] theorem StrideOwner.spend_owner (w : Nat) (o : StrideOwner) : (o.spend w).owner = o.owner := by
  unfold StrideOwner.spend; split <;> rfl

theorem StrideOwner.spend_credit (w : Nat) (o : StrideOwner) :
    (o.spend w).credit = if o.owner = w then o.credit - 1 else o.credit := by
  unfold StrideOwner.spend; split <;> rfl

/-- A slot leaves the owners' numbers. -/
theorem StrideOwner.map_spend_owner (w : Nat) (l : List StrideOwner) :
    (l.map (StrideOwner.spend w)).map StrideOwner.owner = l.map StrideOwner.owner := by
  simp [Function.comp_def]

/-- The owners that still have credit (R60). -/
def creditors (l : List StrideOwner) : List StrideOwner := l.filter (fun o => o.credit > 0)

/-- A slot goes to an owner with credit, if there is one. -/
theorem bestOwner_cases (l : List StrideOwner) :
    (creditors l = [] ∧ bestOwner l = none) ∨ ∃ b ∈ creditors l, bestOwner l = some b := by
  unfold bestOwner
  change (creditors l = [] ∧ (creditors l).foldl _ none = none) ∨ ∃ b ∈ creditors l, (creditors l).foldl _ none = some b
  induction creditors l using List.reverseRecOn with
  | nil => exact .inl ⟨rfl, rfl⟩
  | append_singleton m o ih =>
    right
    rw [List.foldl_append, List.foldl_cons, List.foldl_nil]
    obtain ⟨-, h⟩ | ⟨b, hb, h⟩ := ih <;> rw [h]
    · exact ⟨o, by simp, rfl⟩
    · dsimp only
      split
      · exact ⟨o, by simp, rfl⟩
      · exact ⟨b, by simp [hb], rfl⟩

theorem mem_creditors {l : List StrideOwner} {b : StrideOwner} : b ∈ creditors l ↔ b ∈ l ∧ 0 < b.credit := by
  simp [creditors]

/-- Without an owner with credit all credits are 0. -/
theorem sum_credit_eq_zero {l : List StrideOwner} (h : creditors l = []) : (l.map StrideOwner.credit).sum = 0 := by
  rw [List.sum_eq_zero_iff]
  simpa [creditors, List.filter_eq_nil_iff] using h

/-- A granted slot takes one credit from the sum. -/
theorem sum_credit_spend {l : List StrideOwner} {b : StrideOwner} (hb : b ∈ l) (hc : 0 < b.credit)
    (hn : (l.map StrideOwner.owner).Nodup) :
    ((l.map (StrideOwner.spend b.owner)).map StrideOwner.credit).sum + 1 = (l.map StrideOwner.credit).sum := by
  induction l with
  | nil => exact absurd hb (List.not_mem_nil)
  | cons o l ih =>
    obtain ⟨hno, hn⟩ := List.nodup_cons.mp hn
    simp only [List.map_cons, List.sum_cons, StrideOwner.spend_credit]
    rcases List.mem_cons.mp hb with rfl | hb
    · have hsame : l.map (StrideOwner.spend b.owner) = l :=
        (List.map_congr_left fun x hx => if_neg fun (e : x.owner = b.owner) =>
          hno (e ▸ List.mem_map_of_mem hx)).trans l.map_id
      rw [hsame, if_pos rfl]; omega
    · have hne : o.owner ≠ b.owner := fun h => hno (h ▸ List.mem_map_of_mem hb)
      rw [if_neg hne]
      have := ih hb hn
      omega

/-- The stride procedure gives out every credit: each owner gets as many slots as its credit (R60). -/
theorem assignSlots_counts (n : Nat) {l : List StrideOwner} (hn : (l.map StrideOwner.owner).Nodup)
    (hs : (l.map StrideOwner.credit).sum = n) :
    (assignSlots n l).length = n ∧ ∀ o ∈ l, (assignSlots n l).count o.owner = o.credit := by
  induction n generalizing l with
  | zero =>
    refine ⟨rfl, fun o ho => ?_⟩
    have h0 : o.credit = 0 := List.sum_eq_zero_iff.mp hs _ (List.mem_map_of_mem ho)
    rw [h0]; rfl
  | succ n ih =>
    rw [assignSlots_succ]
    obtain ⟨hnone, -⟩ | ⟨b, hb, h⟩ := bestOwner_cases l
    · rw [sum_credit_eq_zero hnone] at hs; exact absurd hs (by omega)
    · obtain ⟨hbl, hc⟩ := mem_creditors.mp hb
      have hrest := sum_credit_spend hbl hc hn
      obtain ⟨hlen, hcount⟩ := ih (l := l.map (StrideOwner.spend b.owner))
        (by rwa [StrideOwner.map_spend_owner]) (by omega)
      simp only [h]
      refine ⟨by rw [List.length_cons, hlen], fun o ho => ?_⟩
      have hco := hcount _ (List.mem_map_of_mem ho)
      rw [StrideOwner.spend_owner, StrideOwner.spend_credit] at hco
      rw [List.count_cons, hco]
      by_cases hown : o.owner = b.owner
      · have hob : o = b := List.inj_on_of_nodup_map hn ho hbl hown
        subst hob
        simp; omega
      · have hne : ¬ b.owner = o.owner := fun e => hown e.symm
        simp [hown, hne]

/-- Only listed owners get slots. -/
theorem assignSlots_mem {n w : Nat} {l : List StrideOwner} (h : w ∈ assignSlots n l) : w ∈ l.map StrideOwner.owner := by
  induction n generalizing l with
  | zero => exact absurd h (List.not_mem_nil)
  | succ n ih =>
    rw [assignSlots_succ] at h
    obtain ⟨-, hb⟩ | ⟨b, hb, hbest⟩ := bestOwner_cases l
    · rw [hb] at h; exact absurd h (List.not_mem_nil)
    · rw [hbest] at h
      rcases List.mem_cons.mp h with rfl | h
      · exact List.mem_map_of_mem (mem_creditors.mp hb).1
      · simpa only [StrideOwner.map_spend_owner] using ih h

/-- The entries above 0 of a list hold its whole sum. -/
theorem sum_filter_pos (l : List (Nat × Nat)) : ((l.filter (fun e => e.2 > 0)).map (·.2)).sum = (l.map (·.2)).sum := by
  induction l with
  | nil => rfl
  | cons e l ih =>
    by_cases h : e.2 > 0
    · simp [h, ih]
    · have h0 : e.2 = 0 := by omega
      simp [h0, ih]

/-- The shares of the bays, those above 0, by bay. -/
def sharesOf (share : Nat → Nat) : List (Nat × Nat) :=
  ((List.range 256).map (fun b => (b, share b))).filter (fun e => e.2 > 0)

theorem Dev.sharesInEffect_eq (d : Dev) (f : Fld) : d.sharesInEffect f = sharesOf (fun b => d.get f b) := rfl

theorem mem_sharesOf {share : Nat → Nat} {e : Nat × Nat} :
    e ∈ sharesOf share ↔ e.1 < 256 ∧ e.2 = share e.1 ∧ 0 < e.2 := by
  simp only [sharesOf, List.mem_filter, List.mem_map, List.mem_range, decide_eq_true_eq]
  constructor
  · rintro ⟨⟨b, hb, rfl⟩, h⟩; exact ⟨hb, rfl, h⟩
  · rintro ⟨hb, h, hpos⟩; exact ⟨⟨e.1, hb, by rw [← h]⟩, hpos⟩

theorem sharesOf_sum (share : Nat → Nat) : ((sharesOf share).map (·.2)).sum = ((List.range 256).map share).sum := by
  rw [sharesOf, sum_filter_pos, List.map_map]; rfl

theorem sharesOf_nodup (share : Nat → Nat) : ((sharesOf share).map (·.1)).Nodup := by
  have hall : (((List.range 256).map (fun b => (b, share b))).map (·.1)).Nodup := by
    simpa [List.map_map, Function.comp_def] using List.nodup_range
  exact hall.sublist (List.filter_sublist.map _)

/-- The owners of a course for the bays' shares, with the pseudo-owner of what the shares leave (R60). -/
def courseStriders (share : Nat → Nat) : List StrideOwner :=
  ((sharesOf share ++ [(unowned, 1024 - ((List.range 256).map share).sum)]).filter (fun e => e.2 > 0)).map
    (fun e => ⟨e.1, e.2, strideOf e.2, strideOf e.2⟩)

theorem courseOwners_eq (share : Nat → Nat) : courseOwners (sharesOf share) = assignSlots 1024 (courseStriders share) := by
  unfold courseOwners courseStriders
  rw [← List.sum_eq_foldl, sharesOf_sum]

theorem courseStriders_nodup (share : Nat → Nat) : ((courseStriders share).map StrideOwner.owner).Nodup := by
  have hall : ((sharesOf share ++ [(unowned, 1024 - ((List.range 256).map share).sum)]).map (·.1)).Nodup := by
    rw [List.map_append, List.nodup_append]
    refine ⟨sharesOf_nodup share, List.nodup_singleton _, fun a ha b hb => ?_⟩
    obtain ⟨e, he, rfl⟩ := List.mem_map.mp ha
    have hlt := (mem_sharesOf.mp he).1
    simp only [List.map_cons, List.map_nil, List.mem_singleton, unowned] at hb
    omega
  rw [courseStriders, List.map_map]
  exact hall.sublist (List.filter_sublist.map _)

theorem courseStriders_sum {share : Nat → Nat} (h : ((List.range 256).map share).sum ≤ 1024) :
    ((courseStriders share).map StrideOwner.credit).sum = 1024 := by
  rw [courseStriders, List.map_map]
  change ((List.filter _ _).map Prod.snd).sum = 1024
  rw [sum_filter_pos, List.map_append, List.sum_append, sharesOf_sum]
  simp only [List.map_cons, List.map_nil, List.sum_cons, List.sum_nil]
  omega

/-- R60: where the shares leave room for all, a course has 1,024 slots, and each bay owns exactly its share of them. -/
theorem courseOwners_counts {share : Nat → Nat} (h : ((List.range 256).map share).sum ≤ 1024) :
    (courseOwners (sharesOf share)).length = 1024 ∧
      ∀ b < 256, (courseOwners (sharesOf share)).count b = share b := by
  rw [courseOwners_eq]
  obtain ⟨hlen, hcount⟩ := assignSlots_counts 1024 (courseStriders_nodup share) (courseStriders_sum h)
  refine ⟨hlen, fun b hb => ?_⟩
  by_cases hpos : 0 < share b
  · refine hcount ⟨b, share b, strideOf (share b), strideOf (share b)⟩ (List.mem_map.mpr ⟨(b, share b), ?_, rfl⟩)
    have hmem : (b, share b) ∈ sharesOf share := mem_sharesOf.mpr ⟨hb, rfl, hpos⟩
    exact List.mem_filter.mpr ⟨List.mem_append_left _ hmem, decide_eq_true hpos⟩
  · have hzero : share b = 0 := by omega
    rw [hzero, List.count_eq_zero]
    intro hmem
    obtain ⟨o, ho, hown⟩ := List.mem_map.mp (assignSlots_mem hmem)
    obtain ⟨e, he, rfl⟩ := List.mem_map.mp ho
    obtain ⟨he, hepos⟩ := List.mem_filter.mp he
    rcases List.mem_append.mp he with he | he
    · obtain ⟨-, heq, -⟩ := mem_sharesOf.mp he
      simp only at hown
      simp only [decide_eq_true_eq] at hepos
      rw [hown] at heq; omega
    · rw [List.mem_singleton] at he
      subst he
      simp only [unowned] at hown
      omega


/-! ## The course boundary (R42, R59, R219) -/

/-- Putting a staged key in effect: its value in effect is what the register shows. -/
theorem Dev.applyKey_look (d : Dev) (key : Nat) : ∃ t : Tab Nat,
    (∀ k, Tab.look t k = if k = key then Tab.look d.regs.vals k else Tab.look d.regs.eff k) ∧
      d.applyKey key = { d with regs := { d.regs with eff := t } } := by
  unfold Dev.applyKey
  cases h : Tab.look d.regs.vals key with
  | none =>
    refine ⟨_, fun k => ?_, rfl⟩
    rw [Tab.look_del]
    by_cases hk : key = k
    · subst hk; simp [h]
    · simp [hk, Ne.symm hk]
  | some v =>
    refine ⟨_, fun k => ?_, rfl⟩
    rw [Tab.look_put]
    by_cases hk : key = k
    · subst hk; simp [h]
    · simp [hk, Ne.symm hk]

/-- Putting the staged keys in effect, one after another, puts those in effect and no other. -/
theorem Dev.applyKeys_look (l : List Nat) (d : Dev) : ∃ t : Tab Nat,
    (∀ k, Tab.look t k = if k ∈ l then Tab.look d.regs.vals k else Tab.look d.regs.eff k) ∧
      l.foldl (fun a k => a.applyKey k) d = { d with regs := { d.regs with eff := t } } := by
  induction l generalizing d with
  | nil => exact ⟨d.regs.eff, fun k => by simp, rfl⟩
  | cons key l ih =>
    obtain ⟨t, ht, hd⟩ := d.applyKey_look key
    obtain ⟨u, hu, he⟩ := ih (d.applyKey key)
    rw [hd] at hu he
    refine ⟨u, fun k => ?_, by rw [List.foldl_cons, hd, he]⟩
    rw [hu k]
    by_cases hl : k ∈ l
    · simp [hl]
    · simp [hl, ht k]

/-- Every register field but SC_COURSE. -/
def notCourse (key : Nat) : Prop := key ≠ R.SC_COURSE.key 0 0

/-- A field at another offset is not SC_COURSE. -/
theorem notCourse_of_off {f : Fld} {i k : Nat} (h : f.off ≠ 0x048) (ho : f.off < 0x1000) (hl : f.lo < 32)
    (hk : k < 0x1000) : notCourse (f.key i k) :=
  Fld.key_ne_of_off f R.SC_COURSE i k 0 0 h ho hl hk (by decide) (by decide) (by decide)

theorem notCourse_epoch (b : Blk) (i : Nat) : notCourse ((R.EPOCH b).key i 0) :=
  notCourse_of_off (show 0x020 ≠ 0x048 by decide) (show 0x020 < 0x1000 by decide) (show 0 < 32 by decide) (by decide)

/-- The end of the boundary: a raised floor, the count of courses, and the slots' owners. -/
def Dev.closeBoundary (e : Dev) : Dev :=
  let d6 := e.applyFloor.bumpWrap R.SC_COURSE
  { d6 with sched := { d6.sched with
      groupNext := [], owners := courseOwners (d6.sharesInEffect R.BY_SHARE_EFFECTIVE), courseDone := some d6.sched.time } }

/-- Between the staged values' taking effect and the end of the boundary only register fields other than SC_COURSE are
written: EPOCH, the shares and the core split shown, and governor levels. -/
theorem Dev.courseBoundary_steps (d : Dev) : ∃ e : Dev,
    Dev.WritesFields notCourse
      (d.regs.staged.foldl (fun a k => a.applyKey k) { d with regs := { d.regs with staged := [] } }) e ∧
      d.courseBoundary = e.closeBoundary := by
  refine ⟨_, ?_, rfl⟩
  dsimp only
  refine Dev.WritesFields.ite _ (Dev.WritesFields.foldl ?split fun b hb a => ?level) ?split
  case level =>
    have hb : b < 0x1000 := lt_trans (List.mem_range.mp hb) (by decide)
    exact Dev.WritesFields.ite _ ((Dev.WritesFields.refl a).set _ _ (notCourse_of_off (by decide) (by decide) (by decide) hb))
      (.refl a)
  case split =>
    refine Dev.WritesFields.set ?_ _ _ (notCourse_of_off (by decide) (by decide) (by decide) (by decide))
    refine Dev.WritesFields.foldl ?_ fun x _ a => ?_
    · exact Dev.WritesFields.foldl (.refl _) fun x _ a => (Dev.WritesFields.refl a).set _ _ (notCourse_epoch _ _)
    · exact (((Dev.WritesFields.refl a).set _ _ (notCourse_of_off (by decide) (by decide) (by decide) (by decide))).set _ _
        (notCourse_of_off (by decide) (by decide) (by decide) (by decide))).set _ _
          (notCourse_of_off (by decide) (by decide) (by decide) (by decide))

/-- A raised floor that takes effect is no longer due; it shows in the KT page. -/
theorem Dev.applyFloor_writes (d : Dev) :
    Dev.WritesFields notCourse { d with keys := { d.keys with floorNext := none } } d.applyFloor := by
  unfold Dev.applyFloor
  split
  case h_1 h =>
    have hsame : { d with keys := { d.keys with floorNext := none } } = d := by rw [← h]
    rw [hsame]; exact .refl d
  case h_2 f h =>
    exact ((Dev.WritesFields.refl _).set _ _ (notCourse_of_off (by decide) (by decide) (by decide) (by decide))).set _ _
      (notCourse_epoch _ _)

/-- What the end of the boundary writes: SC_COURSE rises, the floor is no longer due, and the slots go to their owners as the
shares in effect say (R60). -/
theorem Dev.closeBoundary_eq (e : Dev) : ∃ (t : Tab Nat) (owners : List Nat),
    e.closeBoundary = { e with
      regs := { e.regs with vals := t }
      sched := { e.sched with owners := owners, groupNext := [], courseDone := some e.sched.time }
      keys := { e.keys with floorNext := none } } ∧
    e.closeBoundary.get R.SC_COURSE = (e.get R.SC_COURSE + 1) % R.SC_COURSE.bound ∧
    owners = courseOwners (sharesOf (fun b => e.closeBoundary.get R.BY_SHARE_EFFECTIVE b)) := by
  have hcourse : e.applyFloor.get R.SC_COURSE = e.get R.SC_COURSE := e.applyFloor_writes.get (fun h => h rfl)
  have hget (f : Fld) (i : Nat) : e.closeBoundary.get f i = (e.applyFloor.bumpWrap R.SC_COURSE).get f i :=
    Dev.get_congr rfl
  obtain ⟨t, -, hfloor⟩ := e.applyFloor_writes
  refine ⟨e.closeBoundary.regs.vals, e.closeBoundary.sched.owners, ?_, ?_, ?_⟩
  · unfold Dev.closeBoundary
    dsimp only
    generalize courseOwners _ = owners
    rw [hfloor]; rfl
  · rw [hget, Dev.bumpWrap, hcourse, Dev.get_set_self]
  · simp only [hget, ← Dev.sharesInEffect_eq]
    simp only [Dev.closeBoundary]

/-- The boundary as a whole: register fields, the staged values in effect, and the course's own state. -/
theorem Dev.courseBoundary_eq (d : Dev) : ∃ (t u : Tab Nat) (owners : List Nat),
    d.courseBoundary = { d with
      regs := ⟨t, u, []⟩
      sched := { d.sched with owners := owners, groupNext := [], courseDone := some d.sched.time }
      keys := { d.keys with floorNext := none } } ∧
    (∀ k, Tab.look u k = if k ∈ d.regs.staged then Tab.look d.regs.vals k else Tab.look d.regs.eff k) ∧
    d.courseBoundary.get R.SC_COURSE = (d.get R.SC_COURSE + 1) % R.SC_COURSE.bound ∧
    owners = courseOwners (sharesOf (fun b => d.courseBoundary.get R.BY_SHARE_EFFECTIVE b)) := by
  obtain ⟨e, he, hb⟩ := d.courseBoundary_steps
  obtain ⟨u, hu, hkeys⟩ := Dev.applyKeys_look d.regs.staged { d with regs := { d.regs with staged := [] } }
  rw [hkeys] at he
  have hcourse : e.get R.SC_COURSE = d.get R.SC_COURSE := he.get (fun h => h rfl)
  obtain ⟨t, owners, hclose, hcount, howners⟩ := e.closeBoundary_eq
  rw [hb, ← hcourse]
  refine ⟨t, u, owners, ?_, hu, hcount, howners⟩
  obtain ⟨v, -, rfl⟩ := he
  exact hclose

/-- Settles O17: the staged keys and no other take effect, the rest of the boundary writes register fields alone, and the
stride procedure gives each owner its credit. -/
theorem coursesFollowTheShares : Obligations.CoursesFollowTheShares := by
  constructor
  · intro s htime hdone
    have hstep : s.dev.courseStep = s.dev.courseBoundary := if_pos ⟨htime, hdone⟩
    obtain ⟨t, u, owners, hb, heff, hcourse, howners⟩ := s.dev.courseBoundary_eq
    rw [hb] at hcourse howners
    refine ⟨_, rfl, rfl, ?_⟩
    rw [hstep, hb]
    refine ⟨rfl, rfl, fun f i k => ?_, rfl, hcourse, rfl, fun hsum => ?_⟩
    · show (Tab.look u (f.key i k)).getD (f.resetAt k) % f.bound = _
      rw [heff]
      split <;> rfl
    · show owners.length = 1024 ∧ ∀ b < 256, owners.count b = _
      rw [howners]
      exact courseOwners_counts hsum
  · intro s h
    have hstep : s.dev.courseStep = s.dev := if_neg (by tauto)
    exact ⟨_, rfl, rfl, rfl, hstep⟩


/-! # Bay resources and the event ring's tail (R308, R311, R312, R338) -/

/-- The sum over the bays of a field, one bay's value replaced. -/
def Dev.bayTotal (d : Dev) (f : Fld) (bay v : Nat) : Nat :=
  ((List.range 256).map (fun b => if b = bay then v else d.get f b)).sum

theorem Dev.stageBay_eq (d : Dev) (req : Requester) (f : Fld) (bay v lowest highest limit : Nat) :
    d.stageBay req f bay v lowest highest limit =
      if lowest ≤ v ∧ v ≤ highest ∧ d.bayTotal f bay v ≤ limit then d.stage f v bay else d.err .by bay req .inputRange := by
  have hsum : ((List.range 256).map (fun b => if b = bay then v else d.get f b)).foldl (· + ·) 0 = d.bayTotal f bay v :=
    List.sum_eq_foldl.symm
  unfold Dev.stageBay
  rw [hsum]
  by_cases h : lowest ≤ v ∧ v ≤ highest ∧ d.bayTotal f bay v ≤ limit
  · rw [if_pos h, if_neg (by omega)]
  · rw [if_neg h, if_pos (by omega)]

/-- Context limits never pass their sum limit: a field of 10 bits holds less than 1,024 in each bay. -/
theorem Dev.bayTotal_ctx_le (d : Dev) (bay : Nat) {v : Nat} (hv : v < 1024) :
    d.bayTotal R.BY_CTX_MAX bay v ≤ 256 * 1024 := by
  have hle : ∀ x ∈ (List.range 256).map (fun b => if b = bay then v else d.get R.BY_CTX_MAX b), x ≤ 1024 := by
    intro x hx
    obtain ⟨b, -, rfl⟩ := List.mem_map.mp hx
    have hget : d.get R.BY_CTX_MAX b < 1024 := Nat.mod_lt _ (by decide)
    split <;> omega
  calc d.bayTotal R.BY_CTX_MAX bay v ≤ _ • 1024 := List.sum_le_card_nsmul _ _ hle
    _ = 256 * 1024 := by rw [List.length_map, List.length_range, smul_eq_mul]

/-- The pages of the bays are apart from EV's and IC's. -/
theorem Blk.apart_by (i : Nat) : Blk.by.apart i := by
  simp only [Blk.apart, Blk.page, Blk.basePage, Blk.stride]; omega

theorem Blk.apart_bw (i : Nat) : Blk.bw.apart i := by
  simp only [Blk.apart, Blk.page, Blk.basePage, Blk.stride]; omega

/-- BW_EV_TAIL takes a value within the unread entries, and refuses any other (R338). -/
theorem bwEvTailWrite_eq (req : Requester) (bay v : Nat) (d : Dev) :
    bwEvTailWrite req bay v d =
      if (v + 2 ^ 32 - d.get R.BW_EV_TAIL bay) % 2 ^ 32 ≤ d.unread bay then d.set R.BW_EV_TAIL v bay
      else d.err .bw bay req .inputRange := rfl

/-- Settles O42: `stageBay` stages a value that fits and refuses any other, and the tail moves by one write. -/
theorem bayResourcesAndTheEventTail : Obligations.BayResourcesAndTheEventTail := by
  refine ⟨?shares, ?queue, ?contexts, ?tail⟩
  case shares =>
    intro s req bay kind v
    have hshare (kind : Fin 3) : (v.toNat % 2 ^ 11 ≤ 1024 ∧
          s.dev.bayTotal (shareField kind) bay (v.toNat % 2 ^ 11) ≤ 1024 →
        Completes (.byShareWrite req bay kind v) s (s.Stages (shareField kind) (v.toNat % 2 ^ 11) bay 0)) ∧
        (¬ (v.toNat % 2 ^ 11 ≤ 1024 ∧ s.dev.bayTotal (shareField kind) bay (v.toNat % 2 ^ 11) ≤ 1024) →
        Completes (.byShareWrite req bay kind v) s (s.Refuses .by bay .inputRange)) := by
      have hbound : v.toNat % 2 ^ 11 < (shareField kind).bound := by
        fin_cases kind <;> exact Nat.mod_lt _ (by decide)
      have hstage := Dev.stageBay_eq s.dev req (shareField kind) bay (v.toNat % 2 ^ 11) 0 1024 1024
      exact ⟨fun h => completes_stage rfl (hstage.trans (if_pos ⟨Nat.zero_le _, h⟩)) hbound,
        fun h => completes_err rfl (hstage.trans (if_neg fun hfits => h hfits.2)) (Blk.apart_by _)⟩
    fin_cases kind
    exacts [hshare 0, hshare 1, hshare 2]
  case queue =>
    intro s req bay v
    have hstage := Dev.stageBay_eq s.dev req R.BY_QUEUE bay (v.toNat % 2 ^ 17) 64 65536 1048576
    exact ⟨fun h => completes_stage rfl (hstage.trans (if_pos h)) (Nat.mod_lt _ (by decide)),
      fun h => completes_err rfl (hstage.trans (if_neg h)) (Blk.apart_by _)⟩
  case contexts =>
    intro s req bay v
    have hstage := Dev.stageBay_eq s.dev req R.BY_CTX_MAX bay (v.toNat % 2 ^ 10) 1 512 (256 * 1024)
    have hsum := s.dev.bayTotal_ctx_le bay (v := v.toNat % 2 ^ 10) (Nat.mod_lt _ (by decide))
    exact ⟨fun h => completes_stage rfl (hstage.trans (if_pos ⟨h.1, h.2, hsum⟩)) (Nat.mod_lt _ (by decide)),
      fun h => completes_err rfl (hstage.trans (if_neg fun hfits => h ⟨hfits.1, hfits.2.1⟩)) (Blk.apart_by _)⟩
  case tail =>
    intro s req bay v
    have htail := bwEvTailWrite_eq req bay v.toNat s.dev
    constructor
    · intro h
      refine completes_after rfl ⟨rfl, ?_⟩
      rw [htail.trans (if_pos h)]
      exact ⟨(Dev.get_set_self _ _ _ _ _).trans (Nat.mod_eq_of_lt v.isLt), rfl, rfl, rfl,
        fun key hkey => Dev.look_set _ _ _ _ _ _ hkey.symm⟩
    · intro h
      exact completes_err rfl (htail.trans (if_neg (Nat.not_le.mpr h))) (Blk.apart_bw _)


/-! # Groups, images and the staged registers of the SC page (R83, R86, R88, R89, R93) -/

/-- The page of a block with one page that is neither EV's nor IC's. -/
theorem Blk.apart_zero {b : Blk} (h : b ≠ .ev ∧ b ≠ .ic) : b.apart 0 := by
  obtain ⟨hev, hic⟩ := h
  cases b <;> simp_all [Blk.apart, Blk.page, Blk.basePage]

/-- The fields of SC_GROUP stand elsewhere than INT_RAW of the SC page and the EV and IC pages. -/
theorem groupKey_apart {f : Fld} (h : f.blk = .sc ∧ f.off = 0x080 ∧ f.lo < 32) (g : Fin 16) :
    ¬ markKey (f.key 0 g) ∧ f.key 0 g ≠ (R.INT_RAW .sc).key 0 0 := by
  obtain ⟨hb, ho, hl⟩ := h
  have hg : g.val < 0x1000 := by omega
  refine ⟨markKey_false f 0 g ?_ ?_ (by omega) hl hg, Fld.key_ne_of_off _ _ _ _ _ _ ?_ (by omega) hl hg (by decide)
    (by decide) (by decide)⟩
  · rw [hb]; decide
  · rw [hb]; decide
  · rw [ho]; decide

/-- Two fields of one register at different bits stand at different places. -/
theorem Fld.key_ne_of_lo {f g : Fld} {i j k l : Nat} (h : f.lo ≠ g.lo) (hf : f.lo < 32) (hg : g.lo < 32)
    (hk : k < 0x1000) (hl : l < 0x1000) : f.key i k ≠ g.key j l := by
  intro e
  have hflo := f.key_lo i k hf hk
  rw [e, g.key_lo j l hg hl] at hflo
  exact h hflo.symm

/-- Clearing DISPATCH_EN of an enabled group that strands no pin (R89). -/
theorem groupDispatchWrite_clear {req : Requester} {g v : Nat} {d : Dev} (hv : v.testBit 16 = false)
    (hon : d.on R.SC_GROUP_DISPATCH_EN 0 g = true) (hpin : d.lastPinned g = false) :
    groupDispatchWrite req g v d =
      let d2 : Dev := { d.set R.SC_GROUP_DISPATCH_EN 0 0 g with
        sched := { d.sched with groupNext := d.sched.groupNext.filter (· ≠ g) } }
      if d.groupEmpty g then d2.blockEvent .sc 0 2 else d2 := by
  unfold groupDispatchWrite bitOf
  rw [if_neg (by simp [hv]), if_neg (by simp [hon]), if_neg (by simp [hpin])]
  rfl

/-- A load into a drained group that is not enabled (R83). -/
theorem programImageLoad_intact {g : Nat} {i : Image} {d : Dev} (hoff : d.on R.SC_GROUP_DISPATCH_EN 0 g = false)
    (hempty : d.groupEmpty g = true) :
    programImageLoad g i true d =
      (({ d with sched := { d.sched with progs := Tab.put d.sched.progs g i } }).set R.SC_GROUP_VERSION i.version 0
        g).refreshFormats := by
  simp [programImageLoad, hoff, hempty]

theorem programImageLoad_broken {g : Nat} {i : Image} {d : Dev} (hoff : d.on R.SC_GROUP_DISPATCH_EN 0 g = false)
    (hempty : d.groupEmpty g = true) :
    programImageLoad g i false d =
      ((({ d with sched := { d.sched with progs := Tab.del d.sched.progs g } }).set R.SC_GROUP_VERSION 0 0
        g).refreshFormats).mark .progIntegrity .corbel 0 g i.version := by
  simp [programImageLoad, hoff, hempty]

/-- KT_FLEET_FLOOR.FORMAT_MAX is no field of SC_GROUP. -/
theorem Dev.refreshFormats_get (d : Dev) {f : Fld} (h : f.off = 0x080 ∧ f.lo < 32) (g : Fin 16) :
    d.refreshFormats.get f 0 g = d.get f 0 g := by
  obtain ⟨ho, hl⟩ := h
  exact Dev.get_set_ne _ _ _ _ _ _ _ _ (Fld.key_ne_of_off _ _ _ _ _ _ (by rw [ho]; decide) (by decide) (by decide)
    (by decide) (by omega) hl (by omega))

/-- Settles O19: each write is the sets and stages of its register, and what a report adds touches no SC_GROUP field. -/
theorem groupsAndStagedRegisters : Obligations.GroupsAndStagedRegisters := by
  refine ⟨?enable, ?disable, ?load, ?broken, ?mode, ?split, ?refused, ?pin⟩
  case enable =>
    intro s req g v hv hoff hsome
    have hwrite : groupDispatchWrite req g v.toNat s.dev = { s.dev.set R.SC_GROUP_DISPATCH_EN 1 0 g with
        sched := { s.dev.sched with groupNext := s.dev.sched.groupNext ++ [g.val] } } := by
      simp [groupDispatchWrite, bitOf, hv, hoff, Option.isNone_iff_eq_none, ← Option.isSome_iff_ne_none, hsome]
    refine completes_after rfl ⟨rfl, ?_⟩
    rw [hwrite]
    have hon : (s.dev.set R.SC_GROUP_DISPATCH_EN 1 0 g).on R.SC_GROUP_DISPATCH_EN 0 g = true := by
      simp only [Dev.on, Dev.get_set_self]; decide
    exact ⟨hon, rfl, fun key hkey => Dev.look_set _ _ _ _ _ _ hkey.symm⟩
  case disable =>
    intro s req g v hv hon hpin
    refine completes_after rfl ⟨rfl, ?_⟩
    rw [groupDispatchWrite_clear hv hon hpin]
    have hoff : (s.dev.set R.SC_GROUP_DISPATCH_EN 0 0 g).on R.SC_GROUP_DISPATCH_EN 0 g = false := by
      simp only [Dev.on, Dev.get_set_self]; decide
    obtain ⟨hmark, hraw⟩ := groupKey_apart (f := R.SC_GROUP_DISPATCH_EN) (by decide) g
    have hsame : ({ s.dev with sched := { s.dev.sched with
        groupNext := s.dev.sched.groupNext.filter (· ≠ g.val) } }).SameWork { s.dev.set R.SC_GROUP_DISPATCH_EN 0 0 g with
        sched := { s.dev.sched with groupNext := s.dev.sched.groupNext.filter (· ≠ g.val) } } :=
      Dev.SameWork.of_regs rfl
    dsimp only
    split
    · refine ⟨?_, fun _ => Dev.blockEvent_bit _ (Blk.apart_zero (by decide)) (by decide),
        hsame.trans (Dev.blockEvent_reported _ _ _ _).work⟩
      unfold Dev.on
      rw [Dev.blockEvent_get _ hmark hraw]
      exact hoff
    · exact ⟨hoff, fun h => absurd h ‹_›, hsame⟩
  case load =>
    intro s g i hoff hempty
    refine completes_after rfl ⟨rfl, ?_⟩
    rw [programImageLoad_intact hoff hempty]
    refine ⟨?_, ?_, fun h hne => ?_, rfl⟩
    · show Tab.look (Tab.put _ _ _) _ = _
      simp
    · rw [Dev.refreshFormats_get _ (by decide), Dev.get_set_self]
    · show Tab.look (Tab.put _ _ _) _ = _
      simp [hne.symm]
  case broken =>
    intro s g i hoff hempty
    refine completes_after rfl ⟨rfl, ?_⟩
    rw [programImageLoad_broken hoff hempty]
    have hrep := (Dev.Reported.refl (own := fun _ => False) (Dev.refreshFormats (({ s.dev with
      sched := { s.dev.sched with progs := Tab.del s.dev.sched.progs g } }).set R.SC_GROUP_VERSION 0 0 g))).mark
        .progIntegrity .corbel 0 g i.version 0 0
    obtain ⟨hmark, -⟩ := groupKey_apart (f := R.SC_GROUP_DISPATCH_EN) (by decide) g
    refine ⟨?_, ?_, _, rfl⟩
    · rw [hrep.work.sched]
      show Tab.look (Tab.del _ _) _ = _
      simp
    · unfold Dev.on at hoff ⊢
      rw [hrep.get _ _ _ hmark (fun x => x), Dev.refreshFormats_get _ (by decide), Dev.get_set_ne]
      · exact hoff
      · exact Fld.key_ne_of_lo (by decide) (by decide) (by decide) (by omega) (by omega)
  case mode =>
    intro s v
    exact completes_after rfl ⟨rfl, (Dev.stage_get_self s.dev R.SC_MODE (low 1 v.toNat) 0 0).trans (Nat.mod_mod _ _), rfl,
      Dev.stage_staged _ _ _ _ _, rfl⟩
  case split =>
    intro s req v hv
    have hwrite : coreSplitWrite req v.toNat s.dev = (s.dev.stage R.SC_CORE_SPLIT_PAY_BORROW
        (bits v.toNat 16 16)).stage R.SC_CORE_SPLIT_PAY_CORES (low 8 v.toNat) := if_neg (Nat.not_lt.mpr hv)
    refine completes_after rfl ⟨rfl, ?_⟩
    rw [hwrite]
    refine ⟨?_, ?_, rfl, Dev.stage_staged _ _ _ _ _, rfl⟩
    · exact (Dev.stage_get_self _ _ _ _ _).trans (Nat.mod_mod _ _)
    · rw [Dev.stage_get_ne _ _ _ _ _ _ _ _ (Fld.key_ne_of_lo (by decide) (by decide) (by decide) (by decide) (by decide))]
      exact (Dev.stage_get_self _ _ _ _ _).trans (Nat.mod_mod _ _)
  case refused =>
    intro s req v hv
    exact completes_after rfl ⟨rfl, if_pos hv⟩
  case pin =>
    intro s v
    have hindex : s.dev.get R.SC_PIN_INDEX < 0x1000 := lt_trans (Nat.mod_lt _ (by decide)) (by decide)
    refine completes_after rfl ⟨rfl, (Dev.stage_get_self _ _ _ _ _).trans (Nat.mod_mod _ _), ?_, rfl, rfl⟩
    rw [pinDataWrite, Dev.stage_get_ne _ _ _ _ _ _ _ _ (Fld.key_ne_of_lo (by decide) (by decide) (by decide) hindex hindex)]
    exact (Dev.stage_get_self _ _ _ _ _).trans (Nat.mod_mod _ _)


/-! # Sweeps, flushes and quotas (R196, R199, R200, R223) -/

/-- A draw from a DRBG writes the DRBGs, the count of free bytes, and RN_RESEEDS (R210, R211). -/
theorem Dev.drbgDraw_writes {d : Dev} {i n : Nat} {r : Bytes × Dev} (h : d.drbgDraw i n = some r) :
    ∃ (t : Tab Nat) (g : Tab Drbg) (m : Nat),
      (∀ key, key ≠ R.RN_RESEEDS.key 0 0 → Tab.look t key = Tab.look d.regs.vals key) ∧
      r.2 = { d with regs := { d.regs with vals := t }, keys := { d.keys with drbgs := g }, free := m } := by
  unfold Dev.drbgDraw at h
  dsimp only at h
  split at h
  · cases h
  · cases h
    split
    · exact ⟨_, _, _, fun key hkey => Dev.look_set _ _ _ _ _ _ hkey.symm, rfl⟩
    · split <;> exact ⟨d.regs.vals, _, _, fun _ _ => rfl, rfl⟩

/-- A sweep's start draws a mask and sets SWEEPING; the cache's entries and a sweep that is due stay (R199). -/
theorem Dev.startSweep_writes (d : Dev) :
    ({ d with keys := d.startSweep.keys, free := d.startSweep.free }).SameWork d.startSweep ∧
    d.startSweep.keys.cache = d.keys.cache ∧ d.startSweep.keys.sweepDue = d.keys.sweepDue ∧
    ∀ key, key ≠ R.RN_RESEEDS.key 0 0 → key ≠ R.KC_REPOINT_SWEEPING.key 0 0 →
      Tab.look d.startSweep.regs.vals key = Tab.look d.regs.vals key := by
  unfold Dev.startSweep
  dsimp only
  split
  case h_1 b e h =>
    obtain ⟨t, g, m, ht, he⟩ := Dev.drbgDraw_writes h
    dsimp only at he
    have hvals : e.regs.vals = t := by rw [he]
    refine ⟨?_, by rw [he]; rfl, by rw [he]; rfl, fun key hrn hkc => ?_⟩
    · rw [he]; exact Dev.SameWork.of_regs rfl
    · rw [Dev.look_set e _ _ _ _ _ hkc.symm, hvals, ht key hrn]
  case h_2 => exact ⟨Dev.SameWork.of_regs rfl, rfl, rfl, fun key _ hkc => Dev.look_set d _ _ _ _ _ hkc.symm⟩

theorem Dev.startSweep_sweeping (d : Dev) : d.startSweep.on R.KC_REPOINT_SWEEPING = true := by
  unfold Dev.startSweep Dev.on
  rw [Dev.get_set_self]; decide

/-- The end of a sweep that no other follows (R199). -/
theorem repointSweepEnd_last {d : Dev} (h : d.on R.KC_REPOINT_SWEEPING = true) (hdue : d.keys.sweepDue = false) :
    repointSweepEnd d = (d.set R.KC_REPOINT_SWEEPING 0).bumpWrap R.KC_SWEEPS := by
  simp [repointSweepEnd, h, hdue]

/-- The end of a sweep that a late one follows (R199). -/
theorem repointSweepEnd_late {d : Dev} (h : d.on R.KC_REPOINT_SWEEPING = true) (hdue : d.keys.sweepDue = true) :
    repointSweepEnd d = (({ (d.set R.KC_REPOINT_SWEEPING 0).bumpWrap R.KC_SWEEPS with
      keys := { d.keys with sweepDue := false } }).startSweep).blockEvent .kc 0 2 := by
  simp [repointSweepEnd, h, hdue]

/-- KC_SWEEPS and KC_REPOINT stand at places of their own. -/
theorem sweepKeys : R.KC_REPOINT_SWEEPING.key 0 0 ≠ R.KC_SWEEPS.key 0 0 ∧
    R.KC_SWEEPS.key 0 0 ≠ R.RN_RESEEDS.key 0 0 := by decide

/-- A block event of the KC page leaves its fields outside INT_RAW. -/
theorem Dev.kcEvent_get (d : Dev) {f : Fld} (n : Nat) (h : f.blk = .kc ∧ f.off < 0x1000 ∧ f.lo < 32 ∧ f.off ≠ 0x010) :
    (d.blockEvent .kc 0 n).get f = d.get f := by
  obtain ⟨hb, ho, hl, hraw⟩ := h
  refine Dev.blockEvent_get d (markKey_false f 0 0 ?_ ?_ ho hl (by decide))
    (Fld.key_ne_of_off _ _ _ _ _ _ hraw ho hl (by decide) (by decide) (by decide) (by decide))
  · rw [hb]; decide
  · rw [hb]; decide

/-- The count of sweeps after a sweep's end. -/
theorem Dev.sweeps_counted (d : Dev) : ((d.set R.KC_REPOINT_SWEEPING 0).bumpWrap R.KC_SWEEPS).get R.KC_SWEEPS =
    (d.get R.KC_SWEEPS + 1) % R.KC_SWEEPS.bound := by
  rw [Dev.bumpWrap, Dev.get_set_self, Dev.get_set_ne _ _ _ _ _ _ _ _ sweepKeys.1]

/-- KC_BAY_QUOTA_WRITE with its sum as a sum. -/
theorem kcBayQuotaWrite_eq (req : Requester) (bay v : Nat) (d : Dev) :
    kcBayQuotaWrite req bay v d =
      if 258048 < ((List.range 256).map (fun b => if b = bay then v % 2 ^ 19 else d.get R.KC_BAY_QUOTA 0 b)).sum then
        d.err .kc 0 req .inputRange
      else d.stage R.KC_BAY_QUOTA (v % 2 ^ 19) 0 bay := by
  rw [List.sum_eq_foldl]; rfl

theorem vtBayQuotaWrite_eq (req : Requester) (bay v : Nat) (d : Dev) :
    vtBayQuotaWrite req bay v d =
      if d.get R.VT_AREA < ((List.range 256).map (fun b => if b = bay then v % 2 ^ 21 else d.get R.VT_BAY_QUOTA 0 b)).sum
      then d.err .vt 0 req .inputRange
      else d.stage R.VT_BAY_QUOTA (v % 2 ^ 21) 0 bay := by
  rw [List.sum_eq_foldl]; rfl

/-- A finished flush sets FLUSH_DONE, and does no more than report. -/
theorem Dev.flushDone_spec (d : Dev) : ((d.blockEvent .kc 0 3).get (R.INT_RAW .kc)).testBit 3 = true ∧
    d.Reported (fun key => reportKey key) (d.blockEvent .kc 0 3) :=
  ⟨d.blockEvent_bit (Blk.apart_zero (by decide)) (by decide),
    (d.blockEvent_reported .kc 0 3).mono (fun _ h => h ▸ reportKey_raw .kc 0)⟩

/-- Settles O36: a sweep's start writes the DRBG and SWEEPING, a flush's end is a block event, and a quota is staged or
refused by the sum. -/
theorem keyCacheSweepsAndQuotas : Obligations.KeyCacheSweepsAndQuotas := by
  refine ⟨?due, ?ends, ?idle, ?flushBay, ?flushAll, ?cacheQuota, ?vaultQuota⟩
  case due =>
    intro s
    by_cases h : s.dev.on R.KC_REPOINT_SWEEPING = true
    · refine completes_after rfl ⟨rfl, ?_⟩
      rw [repointSweep, if_pos h, if_pos h]
      exact ⟨h, rfl⟩
    · refine completes_after rfl ⟨rfl, ?_⟩
      rw [repointSweep, if_neg h, if_neg h]
      refine ⟨s.dev.startSweep_sweeping, ?_⟩
      obtain ⟨hwork, hcache, hdue, -⟩ := s.dev.startSweep_writes
      exact ⟨hcache, hdue, hwork⟩
  case ends =>
    intro s h
    refine completes_after rfl ⟨rfl, ?_⟩
    cases hdue : s.dev.keys.sweepDue with
    | false =>
      rw [repointSweepEnd_last h hdue]
      refine ⟨s.dev.sweeps_counted, ?_, hdue, rfl, fun hd => Bool.noConfusion hd, Dev.SameWork.of_regs rfl⟩
      unfold Dev.on
      rw [Dev.bumpWrap, Dev.get_set_ne _ _ _ _ _ _ _ _ sweepKeys.1.symm, Dev.get_set_self]; decide
    | true =>
      rw [repointSweepEnd_late h hdue]
      obtain ⟨hwork, hcache, hdone, hlook⟩ := Dev.startSweep_writes { (s.dev.set R.KC_REPOINT_SWEEPING 0).bumpWrap R.KC_SWEEPS
        with keys := { s.dev.keys with sweepDue := false } }
      have hsweeping := Dev.startSweep_sweeping { (s.dev.set R.KC_REPOINT_SWEEPING 0).bumpWrap R.KC_SWEEPS with
        keys := { s.dev.keys with sweepDue := false } }
      have hcount : Dev.get _ R.KC_SWEEPS = _ := (Dev.get_congr (hlook _ sweepKeys.2 sweepKeys.1.symm)).trans
        s.dev.sweeps_counted
      generalize Dev.startSweep _ = e at *
      have hrep := (e.blockEvent_reported .kc 0 2).work
      refine ⟨?_, ?_, by rw [hrep.keys, hdone], by rw [hrep.keys, hcache],
        fun _ => e.blockEvent_bit (Blk.apart_zero (by decide)) (by decide), ?_⟩
      · rw [e.kcEvent_get 2 (by decide), hcount]
      · unfold Dev.on at hsweeping ⊢
        rw [e.kcEvent_get 2 (by decide)]
        exact hsweeping
      · rw [hrep.keys, hrep.free]
        exact (Dev.SameWork.of_regs rfl).trans (hwork.trans hrep)
  case idle =>
    intro s h
    exact completes_after rfl ⟨rfl, if_pos (by simp [h])⟩
  case flushBay =>
    intro s b w hw hrun
    refine completes_after rfl ⟨rfl, ?_⟩
    have hflush : keyCacheFlushDone (some b) s.dev = Dev.blockEvent { s.dev with
        sched := { s.dev.sched with resets := Tab.put s.dev.sched.resets b { w with flushing := false } } } .kc 0 3 := by
      simp only [keyCacheFlushDone, hw, hrun, if_true]
    obtain ⟨hbit, hrep⟩ := Dev.flushDone_spec { s.dev with
      sched := { s.dev.sched with resets := Tab.put s.dev.sched.resets b { w with flushing := false } } }
    rw [hflush, hrep.work.sched]
    exact ⟨by simp, hbit, hrep⟩
  case flushAll =>
    intro s h
    refine completes_after rfl ⟨rfl, ?_⟩
    rw [keyCacheFlushDone, if_pos h]
    exact Dev.flushDone_spec _
  case cacheQuota =>
    intro s req bay v
    have hwrite := kcBayQuotaWrite_eq req bay v.toNat s.dev
    exact ⟨fun h => completes_stage rfl (hwrite.trans (if_neg (Nat.not_lt.mpr h))) (Nat.mod_lt _ (by decide)),
      fun h => completes_err rfl (hwrite.trans (if_pos h)) (Blk.apart_zero (by decide))⟩
  case vaultQuota =>
    intro s req bay v
    have hwrite := vtBayQuotaWrite_eq req bay v.toNat s.dev
    exact ⟨fun h => completes_stage rfl (hwrite.trans (if_neg (Nat.not_lt.mpr h))) (Nat.mod_lt _ (by decide)),
      fun h => completes_err rfl (hwrite.trans (if_pos h)) (Blk.apart_zero (by decide))⟩


/-! # Crossings and clocks (R29 to R35, R253, R523) -/

/-! ## What a crossing holds -/

theorem Dev.xing_self (d : Dev) (x : Xing) : (d.xing x).xing = x := by
  unfold Dev.xing
  cases h : d.wires.xings.find? (fun s => s.xing == x) with
  | none => rfl
  | some s => exact eq_of_beq (List.find?_some (p := fun s : XingState => s.xing == x) h)

/-- A crossing holds what was put in place. -/
theorem Dev.xing_setXing (d : Dev) (s : XingState) : (d.setXing s).xing s.xing = s := by
  have hnone : (d.wires.xings.filter (fun o => o.xing ≠ s.xing)).find? (fun o => o.xing == s.xing) = none := by
    simp [List.find?_eq_none]
  unfold Dev.xing Dev.setXing
  dsimp only
  split
  case isTrue h => rw [hnone]; exact h.symm
  case isFalse h => rw [List.find?_append, hnone]; simp

/-- What a crossing holds stands in the list of crossings alone. -/
theorem Dev.xing_congr {d e : Dev} (h : e.wires.xings = d.wires.xings) (x : Xing) : e.xing x = d.xing x := by
  unfold Dev.xing; rw [h]

/-- The crossings of one receiving domain are found among the crossings of that domain. -/
theorem Dev.xing_of_domain {d : Dev} {x : Xing} {s : XingState} (hs : s.xing = x)
    (h : d.wires.xings.filter (fun y => y.xing.rx == x.rx) = [s]) : d.xing x = s := by
  have hfind : d.wires.xings.find? (fun y => y.xing == x) =
      (d.wires.xings.filter (fun y => y.xing.rx == x.rx)).find? (fun y => y.xing == x) := by
    rw [List.find?_filter]
    congr 1
    funext y
    by_cases hy : y.xing = x <;> simp [hy]
  rw [Dev.xing, hfind, h]
  simp [hs]

/-! ## Clocks (R253, R523) -/

/-- A unit that holds nothing has nothing to apply or to wipe. -/
theorem Dev.coreRealign_idle {d : Dev} {c : Nat} (lvl : Nat) (h : d.core c = Core.idle) : d.coreRealign lvl c = d := by
  simp [Dev.coreRealign, h, Core.idle, Lock.free]

theorem Dev.hashRealign_idle {d : Dev} {k : Nat} (lvl : Nat) (h : d.hash k = Core.idle) : d.hashRealign lvl k = d := by
  simp [Dev.hashRealign, h, Core.idle, Lock.free]

theorem Dev.engineRealign_idle {d : Dev} {e : Nat} (lvl : Nat) (h : d.engine e = Core.idle) :
    d.engineRealign lvl e = d := by
  simp [Dev.engineRealign, h, Core.idle, Lock.free]

/-- A group of Ashlar whose units hold nothing stays. -/
theorem Dev.wipeAshlar_idle {d : Dev} {g : Nat} (lvl : Nat) (hg : g < 8) (hc : ∀ c, d.core c = Core.idle)
    (hh : ∀ k, d.hash k = Core.idle) : d.wipeDomain lvl (18 + g) = d := by
  rw [Dev.wipeDomain, if_pos (by omega)]
  dsimp only
  rw [List.foldl_fixed' (fun c => d.coreRealign_idle lvl (hc _)), Dev.hashRealign_idle lvl (hh _),
    Dev.hashRealign_idle lvl (hh _)]

/-- An engine that holds nothing stays. -/
theorem Dev.wipeEngine_idle {d : Dev} {e : Nat} (lvl : Nat) (he : e < 16) (h : ∀ e, d.engine e = Core.idle) :
    d.wipeDomain lvl (26 + e) = d := by
  rw [Dev.wipeDomain, if_neg (by omega), if_pos (by omega), Dev.engineRealign_idle lvl (h _)]

/-- A fold whose steps over its list's members leave a state leaves it. -/
theorem foldl_fixed_of_mem {α β : Type} {f : α → β → α} {a : α} {l : List β} (h : ∀ x ∈ l, f a x = a) :
    l.foldl f a = a := by
  induction l with
  | nil => rfl
  | cons x l ih => rw [List.foldl_cons, h x (by simp), ih (fun y hy => h y (by simp [hy]))]

/-- The units of a domain that hold nothing stay at its restart (R253, R295). -/
theorem Dev.restartUnits_idle {d : Dev} {n : Nat} (lvl : Nat)
    (h4 : n = 4 → (∀ c, d.core c = Core.idle) ∧ ∀ k, d.hash k = Core.idle) (h5 : n = 5 → ∀ e, d.engine e = Core.idle) :
    d.restartUnits lvl n = d := by
  unfold Dev.restartUnits
  split
  case isTrue h =>
    obtain ⟨hc, hh⟩ := h4 h
    refine foldl_fixed_of_mem (fun g hg => ?_)
    rw [Dev.wipeAshlar_idle lvl (List.mem_range.mp hg) hc hh, ite_self]
  case isFalse =>
    split
    case isTrue h =>
      refine foldl_fixed_of_mem (fun e he => ?_)
      rw [Dev.wipeEngine_idle lvl (List.mem_range.mp he) (h5 h), ite_self]
    case isFalse => rfl

/-- A clock that restarts, where no unit has to wipe and no crossing holds anything for it. -/
theorem clockRestart_idle {n : Nat} {p : Perm} {d : Dev} (hstop : d.stopped n = true)
    (h4 : n = 4 → (∀ c, d.core c = Core.idle) ∧ ∀ k, d.hash k = Core.idle) (h5 : n = 5 → ∀ e, d.engine e = Core.idle)
    (hx : ∀ y ∈ d.wires.xings, y.xing.rx = n → y.stalled = true) : clockRestart n p d =
      (p, ({ d with wires := { d.wires with stoppedClocks := d.wires.stoppedClocks.filter (· ≠ n) } }).set
        R.CK_DOM_STATUS_RUNNING 1 0 n) := by
  have hnone : d.wires.xings.filter (fun y => y.xing.rx == n && !y.stalled && n ≠ 15) = [] := by
    rw [List.filter_eq_nil_iff]
    intro y hy
    by_cases hrx : y.xing.rx = n
    · simp [hx y hy hrx]
    · simp [hrx]
  rw [clockRestart, if_neg (by simp [hstop])]
  dsimp only
  rw [Dev.restartUnits_idle]
  · exact congrArg (List.foldl _ _) hnone
  · exact h4
  · exact h5

/-- Settles O12: a stop and a restart write the list of stopped clocks and the domain's status fields, and a tick takes up
the one full mailbox. -/
theorem clocksStopAndRestart : Obligations.ClocksStopAndRestart := by
  refine ⟨?stop, ?again, ?restart, ?tick, ?mailbox⟩
  case stop =>
    intro s n h
    have hstop : clockStop n s.dev = (({ s.dev with wires := { s.dev.wires with
        stoppedClocks := n.val :: s.dev.wires.stoppedClocks } }).set R.CK_DOM_STATUS_RUNNING 0 0 n).bumpWrap
          R.CK_DOM_STATUS_STOPS 0 n := if_neg (by simp [h])
    have hn : n.val < 0x1000 := by omega
    have hkeys : R.CK_DOM_STATUS_RUNNING.key 0 n ≠ R.CK_DOM_STATUS_STOPS.key 0 n :=
      Fld.key_ne_of_lo (by decide) (by decide) (by decide) hn hn
    refine completes_after rfl ⟨rfl, ?_⟩
    rw [hstop]
    refine ⟨fun m => List.contains_cons, ?_, ?_, rfl, rfl, fun key hrun hstops => ?_⟩
    · rw [Dev.bumpWrap, Dev.get_set_ne _ _ _ _ _ _ _ _ hkeys.symm, Dev.get_set_self]; rfl
    · rw [Dev.bumpWrap, Dev.get_set_self, Dev.get_set_ne _ _ _ _ _ _ _ _ hkeys]; rfl
    · rw [Dev.bumpWrap, Dev.look_set _ _ _ _ _ _ hstops.symm, Dev.look_set _ _ _ _ _ _ hrun.symm]
  case again =>
    intro s n h
    exact completes_after rfl ⟨rfl, if_pos h⟩
  case restart =>
    intro s n h h4 h5 hx
    have hrestart := clockRestart_idle (p := s.perm) h h4 h5 hx
    refine completes_afterPerm rfl ?_
    rw [hrestart]
    refine ⟨rfl, fun m => ?_, Dev.get_set_self _ _ _ _ _, rfl, rfl, fun key hkey => Dev.look_set _ _ _ _ _ _ hkey.symm⟩
    show (s.dev.wires.stoppedClocks.filter (· ≠ n.val)).contains m = (m != n.val && s.dev.wires.stoppedClocks.contains m)
    rw [Bool.eq_iff_iff]
    simp [and_comm]
  case tick =>
    intro s h
    have hnone : s.dev.wires.xings.filter (fun y => y.xing.rx == 15) = [] := by
      rw [List.filter_eq_nil_iff]
      exact fun y hy => by simp [h y hy]
    refine completes_afterPerm rfl ?_
    rw [plinthTick, hnone]
    exact ⟨rfl, rfl⟩
  case mailbox =>
    intro s x a rest n hrx hone
    have hxing : ({ s.dev with plinth := { s.dev.plinth with tick := (s.dev.plinth.tick + 1) % 2 ^ 15 } }).xing x =
        ⟨x, false, n, a :: rest, 0⟩ := Dev.xing_of_domain rfl (by rw [hrx]; exact hone)
    refine completes_afterPerm rfl ?_
    rw [plinthTick, hone]
    simp only [List.foldl_cons, List.foldl_nil, Bool.false_eq_true, if_false, hxing]


/-! # The front command, unassigned pages, interrupt bits and soft resets (R23, R40, R41, R44) -/

/-- Settles O1: both clauses are the two cases of `step`. -/
theorem stepRunsTheFrontCommand : Obligations.StepRunsTheFrontCommand := by
  refine ⟨fun c s => rfl, fun s h => ?_⟩
  unfold step
  rw [h]

/-! ## Unassigned pages (R44) -/

/-- An address of an unassigned page of the manager window leads nowhere. -/
theorem targetOf_unassigned {addr : Nat} (h : addr < 0x02000000) (hpage : managerPage (addr / 0x1000) = none) :
    targetOf addr = .unmapped := by
  have h3 : ¬ 0x03000000 ≤ addr := by omega
  have h2 : ¬ 0x02000000 ≤ addr := by omega
  simp [targetOf, h2, h3, hpage]

/-- A write to an unassigned page is dropped with its record. -/
theorem Dev.writeAt_unassigned {d : Dev} {p : Perm} {req : Requester} {pasid : Option Nat} {addr v : Nat}
    (h : targetOf addr = .unmapped) : d.writeAt p req pasid addr v =
      (p, d.mark .regUnmapped .management 0 (low 32 addr) (bits addr 47 32) 4 req.param) := by
  simp only [Dev.writeAt, h]

/-- Every write of a REGISTER_WRITE to an unassigned page, whole, split or partial, does no more than report. -/
theorem registerWrite_unassigned (req : Requester) {addr : Nat} (size v : Nat) (p : Perm) (d : Dev)
    (h : addr < 0x02000000) (hpage : managerPage (addr / 0x1000) = none) :
    (registerWrite req addr size v p d).1 = p ∧
      Dev.Reported (fun _ => False) d (registerWrite req addr size v p d).2 := by
  have hlow := targetOf_unassigned h hpage
  unfold registerWrite
  split
  case isTrue => rw [Dev.writeAt_unassigned hlow]; exact ⟨rfl, (Dev.Reported.refl d).mark _ _ _ _ _ _ _⟩
  case isFalse =>
    split
    case isTrue h8 =>
      have hhigh : targetOf (addr + 4) = .unmapped :=
        targetOf_unassigned (by omega) (by rwa [show (addr + 4) / 0x1000 = addr / 0x1000 by omega])
      rw [Dev.writeAt_unassigned hlow]
      dsimp only
      rw [Dev.writeAt_unassigned hhigh]
      dsimp only
      exact ⟨rfl, ((Dev.Reported.refl d).mark _ _ _ _ _ _ _).mark _ _ _ _ _ _ _⟩
    case isFalse => exact ⟨rfl, d.partialWrite_reported _ _ _⟩

/-- Settles O8: the address leads nowhere, so a read gives 0 and a write is its record. -/
theorem unassignedPagesReadZero : Obligations.UnassignedPagesReadZero := by
  refine ⟨?read, ?size, ?word⟩
  case read =>
    intro s req addr h hpage
    have ht : targetOf (addr.toNat - addr.toNat % 4) = .unmapped :=
      targetOf_unassigned (by omega) (by rwa [show (addr.toNat - addr.toNat % 4) / 0x1000 = addr.toNat / 0x1000 by omega])
    refine completes_rcRead ⟨rfl, ?_⟩
    simp only [rcRead, Dev.readAt, ht]
  case size =>
    intro s req addr size v h hpage
    exact completes_registerWrite (registerWrite_unassigned req size v.toNat s.perm s.dev h hpage)
  case word =>
    intro s req addr v h h4 hpage
    apply completes_registerWrite
    rw [registerWrite, if_pos ⟨rfl, h4⟩, Dev.writeAt_unassigned (targetOf_unassigned h hpage)]
    exact ⟨rfl, rfl⟩

/-! ## INT_PENDING (R40) -/

/-- INT_PENDING_WRITE to a register page writes that page's INT_PENDING, and the permanent state stays. -/
theorem completes_intPendingWrite {req : Requester} {pg : BitVec 16} {v : Word} {s : State} {b : Blk} {i : Nat}
    {P : Perm → Dev → Prop} (ht : targetOf (pg.toNat * 0x1000 + 0x018) = .reg b i 0x018)
    (h : P s.perm (s.dev.writePending b i v.toNat)) : Completes (.intPendingWrite req pg v) s P := by
  have hw : headerWrite pg.toNat 0x018 v.toNat req s.perm s.dev = (s.perm, s.dev.writePending b i v.toNat) := by
    rw [headerWrite_reg ht, Dev.writeReg, if_neg (targetOf_header (by decide) ht)]; rfl
  exact ⟨_, rfl, rfl, by simpa only [hw] using h⟩

/-- Where an IRQ stays asserted its vector is marked again; INT_RAW and INT_ENABLE are as the write left them. -/
theorem Dev.writePending_get (d : Dev) (b : Blk) (i v : Nat) {f : Fld} (h : f.off < 0x040 ∧ f.lo < 32) :
    (d.writePending b i v).get f i =
      (d.set (R.INT_RAW b) (d.get (R.INT_RAW b) i - (d.get (R.INT_RAW b) i &&& low 32 v)) i).get f i := by
  unfold Dev.writePending
  exact Dev.get_congr (Dev.markIrqs_look _ _ _ _ (R.msgs_key f i h))

/-- A 1 written to INT_PENDING clears the bit in INT_RAW (R40). -/
theorem Dev.writePending_raw (d : Dev) (b : Blk) (i v n : Nat) (hv : v < 2 ^ 32) :
    ((d.writePending b i v).get (R.INT_RAW b) i).testBit n = ((d.get (R.INT_RAW b) i).testBit n && !v.testBit n) := by
  have hraw : d.get (R.INT_RAW b) i < (R.INT_RAW b).bound := Nat.mod_lt _ (Nat.two_pow_pos _)
  rw [Dev.writePending_get _ _ _ _ ⟨show 0x010 < 0x040 by decide, show 0 < 32 by decide⟩, Dev.get_set_self,
    Nat.mod_eq_of_lt (by omega), testBit_sub_and, low, Nat.mod_eq_of_lt hv]

/-- Clearing interrupt bits is a report in INT_RAW of the page. -/
theorem Dev.writePending_reported (d : Dev) (b : Blk) (i v : Nat) :
    Dev.Reported (fun key => key = (R.INT_RAW b).key i 0) d (d.writePending b i v) := by
  have hset (v : Nat) : Dev.Reported (fun key => key = (R.INT_RAW b).key i 0) d (d.set (R.INT_RAW b) v i) :=
    (Dev.Reported.refl d).set _ _ _ _ (.inr rfl)
  unfold Dev.writePending
  refine (hset _).trans (Dev.Reported.foldl _ _ (fun a n => ?_) _)
  exact .ite _ ((Dev.Reported.refl a).markIrq n) (Dev.Reported.refl a)

/-! ## SOFT_RESET (R41) -/

/-- A number that a filter by numbers drops is not listed. -/
theorem Tab.look_filter_dropped {α : Type} (t : Tab α) (keep : Nat → Bool) (k : Nat) (h : keep k = false) :
    Tab.look (t.filter (fun e => keep e.1)) k = none := by
  induction t with
  | nil => rfl
  | cons e r ih =>
    obtain ⟨a, x⟩ := e
    by_cases ha : a = k
    · subst ha; simpa [h] using ih
    · by_cases hkeep : keep a = true <;> simp [Tab.look, hkeep, ha, ih]

/-- A page index lies within the pages of its kind. -/
theorem managerPage_lt {pg : Nat} {b : Blk} {i : Nat} (h : managerPage pg = some (b, i)) : i < b.pages := by
  unfold managerPage at h
  obtain ⟨c, hc, he⟩ := Option.map_eq_some_iff.mp h
  cases he
  have hpage := List.find?_some hc
  simp only [Bool.and_eq_true, decide_eq_true_eq] at hpage
  omega

/-- An address leads to page 0 of a kind with one page. -/
theorem targetOf_onePage {addr : Nat} {b : Blk} {i off : Nat} (h : targetOf addr = .reg b i off) (hb : b.pages = 1)
    (hf : b ≠ .hf) : i = 0 := by
  unfold targetOf at h
  dsimp only at h
  split at h
  · cases h
  · split at h
    · split at h
      case h_5 => split at h <;> cases h
      all_goals cases h; exact absurd hb (by decide)
    · split at h
      · cases h
      · split at h
        · cases h; exact absurd hb (by decide)
        · split at h
          · cases h; exact absurd hb (by decide)
          · cases h; exact absurd rfl hf
      · next b' i' _ hpage =>
        cases h
        have hlt := managerPage_lt hpage
        omega

/-- The pages whose soft reset has nothing to abort stand alone, apart from the faces' pages and from EV and IC. -/
theorem Blk.quiet {b : Blk} (h : b ∈ [Blk.pw, .ck, .pl, .rn, .module]) :
    b.pages = 1 ∧ b ≠ .hf ∧ b.page 0 ≠ 0x042 ∧ b ≠ .ic ∧ b ≠ .tm := by
  revert b; decide

/-- What a soft reset of such a page keeps are fields of the page. -/
theorem Dev.softKept_blk {d : Dev} {b : Blk} {i : Nat} (hb : b ∈ [Blk.pw, .ck, .pl, .rn, .module]) {g : Fld}
    (hg : g ∈ d.softKept b i) : g.blk = b := by
  have hlive : ∀ b ∈ [Blk.pw, .ck, .pl, .rn, .module], ∀ g ∈ liveFields b, g.blk = b := by decide
  simp only [Dev.softKept, List.mem_append, List.mem_cons, List.not_mem_nil, or_false] at hg
  obtain ((rfl | rfl) | hown) | hl := hg
  · rfl
  · rfl
  · split at hown
    · exact (Blk.bounds b g (List.mem_append_right _ (List.mem_filter.mp hown).1)).2.2
    · exact absurd hown List.not_mem_nil
  · exact hlive b hb g hl

/-- The fields of such a page return to the values of their table. -/
theorem Fld.resetAt_bound {b : Blk} {i : Nat} (hb : b ∈ [Blk.pw, .ck, .pl, .rn, .module]) {f : Fld}
    (hf : f ∈ b.fields i) (k : Nat) : f.resetAt k % f.bound = f.resetAt k := by
  have htable : ∀ b ∈ [Blk.pw, .ck, .pl, .rn, .module], ∀ f ∈ R.headerFields b ++ b.own, f.reset < f.bound := by
    decide +kernel
  obtain ⟨-, -, -, hic, htm⟩ := Blk.quiet hb
  have hblk := (Blk.bounds b f (b.fields_sub i f hf)).2.2
  rw [Fld.resetAt_eq_reset k (fun h => absurd (hblk.symm.trans h) hic) (fun h => absurd (hblk.symm.trans h) htm)]
  exact Nat.mod_eq_of_lt (htable b hb f (b.fields_sub i f hf))

/-- A field's place, without its repetition, decides the field's place in its page. -/
theorem Fld.key_place {f g : Fld} {i k l : Nat} (hblk : f.blk = g.blk) (hk : k < 0x1000) (hl : l < 0x1000)
    (h : f.key i k / 0x1000 = g.key i l / 0x1000) : f.place = g.place := by
  unfold Fld.key at h
  unfold Fld.place
  rw [hblk] at h
  omega

theorem keyPage_eq (key : Nat) : keyPage key = key / 0x20000000 := by
  unfold keyPage; omega

/-- A soft reset takes a field that does not stay out of the register file (R41). -/
theorem Dev.resetPage_look {d : Dev} {b : Blk} {i : Nat} {f : Fld} {k : Nat} (hb : b ∈ [Blk.pw, .ck, .pl, .rn, .module])
    (hf : f ∈ b.fields i) (hk : k < 0x1000) (hkept : ∀ g ∈ d.softKept b i, g.place ≠ f.place) :
    Tab.look (d.resetPage b i).regs.vals (f.key i k) = none := by
  apply Tab.look_filter_dropped _ (fun key => keyPage key ≠ b.page i ||
    ((d.softKept b i).map (fun f => f.key i 0 / 0x1000)).contains (key / 0x1000))
  have hpage : keyPage (f.key i k) = b.page i := (keyPage_eq _).trans (Blk.key_page hf hk)
  have hnot : f.key i k / 0x1000 ∉ (d.softKept b i).map (fun f => f.key i 0 / 0x1000) := by
    intro hmem
    obtain ⟨g, hg, he⟩ := List.mem_map.mp hmem
    have hblk := (Dev.softKept_blk hb hg).trans (Blk.bounds b f (b.fields_sub i f hf)).2.2.symm
    exact hkept g hg (Fld.key_place hblk (by decide) hk he)
  simp [hpage, hnot]

/-- A soft reset leaves what other pages hold. -/
theorem Dev.resetPage_other {d : Dev} {b : Blk} {i key : Nat} (h : key / 0x20000000 ≠ b.page i) :
    Tab.look (d.resetPage b i).regs.vals key = Tab.look d.regs.vals key := by
  apply Tab.look_filter _ (fun key => keyPage key ≠ b.page i ||
    ((d.softKept b i).map (fun f => f.key i 0 / 0x1000)).contains (key / 0x1000))
  simp [keyPage_eq, h]

/-- SOFT_RESET of such a page: CTRL's plain fields are written, the page is reset, and the messages that can be sent are
sent. -/
theorem Dev.writeCtrl_reset {d : Dev} {b : Blk} {i v : Nat} (hb : b ∈ [Blk.pw, .ck, .pl, .rn, .module])
    (hv : v.testBit 2 = true) : d.writeCtrl b i v =
      ((d.writeFields b i 0x008 v (fun f => f.kind = .rw)).resetPage b i).flushAll := by
  have hbw : b ≠ .bw := by rintro rfl; exact absurd hb (by decide)
  have hby : b ≠ .by := by rintro rfl; exact absurd hb (by decide)
  rw [Dev.writeCtrl, if_neg hbw]
  dsimp only
  rw [if_neg hby, if_pos (show bitOf v 2 = true from hv), Dev.softReset, Dev.abortBlock_idle i hb]

/-- Settles O6: INT_PENDING_WRITE masks INT_RAW, and a soft reset drops the page's entries of the register file but those
that it keeps. -/
theorem pendingBitsClearAndPagesReset : Obligations.PendingBitsClearAndPagesReset := by
  constructor
  · intro s req pg v b i ht
    have hraw (n : Nat) := s.dev.writePending_raw b i v.toNat n v.isLt
    refine completes_intPendingWrite ht ⟨rfl, hraw, fun n hn => ?_, s.dev.writePending_reported b i v.toNat⟩
    rw [Dev.pendingBits, Nat.testBit_and, hraw n, hn]
    simp
  · intro s req pg v b i ht hb hv
    obtain ⟨hone, hhf, hic, -, -⟩ := Blk.quiet hb
    obtain rfl := targetOf_onePage ht hone hhf
    refine completes_softReset ht ?_
    rw [Dev.writeCtrl_reset hb hv]
    have hctrl := s.dev.writeFields_regs b 0 0x008 v.toNat (fun f => f.kind = .rw)
    have hlock : Dev.softKept (s.dev.writeFields b 0 0x008 v.toNat (fun f => f.kind = .rw)) b 0 = s.dev.softKept b 0 := by
      unfold Dev.softKept Dev.on
      rw [Dev.writeFields_lock v.toNat (off := 0x008) (by decide)]
    refine ⟨rfl, ?_, fun f hf hkept k hk => ?_, fun key hpage hmark => ?_⟩
    · exact ((Dev.SameWork.of_regs hctrl).trans (Dev.SameWork.of_regs rfl)).trans
        (Dev.Reported.flushAll (own := fun _ => False) (Dev.Reported.refl _)).work
    · have hmsgs : R.IC_MSGS.key 0 0 ≠ f.key 0 k := by
        intro he
        have hpage := Blk.key_page hf hk
        rw [← he] at hpage
        exact hic (hpage.symm.trans (by decide))
      rw [Dev.get_congr (Dev.flushAll_look _ _ hmsgs), Dev.get, Dev.resetPage_look hb hf hk (by rwa [hlock])]
      exact Fld.resetAt_bound hb hf k
    · have hmsgs : R.IC_MSGS.key 0 0 ≠ key := by rintro rfl; exact hmark icKey_msgs
      rw [Dev.flushAll_look _ _ hmsgs, Dev.resetPage_other hpage, Dev.writeFields_page _ hpage]


/-! # Crossings that stall and refuse (R29 to R35) -/

/-! ## Answers to what waited at a crossing (R31, R38) -/

/-- A field of the network pages or of a page above them. Among them are the counts of frames (R374). -/
def networkKey (key : Nat) : Prop := 0x400 ≤ key / 0x20000000

/-- Between two states accesses have ended at crossings: the work stays but for the wires and the free bytes drawn, and so
does every field outside the EV, the IC and the network pages. -/
structure Dev.Answers (d e : Dev) : Prop where
  work : ({ d with wires := e.wires, free := e.free }).SameWork e
  vals : ∀ key, ¬ markKey key → ¬ networkKey key → Tab.look e.regs.vals key = Tab.look d.regs.vals key

/-- The work stays but for the wires and the free bytes, over two steps. -/
theorem Dev.SameWork.wires_trans {a b c : Dev} (h : ({ a with wires := b.wires, free := b.free }).SameWork b)
    (g : ({ b with wires := c.wires, free := c.free }).SameWork c) :
    ({ a with wires := c.wires, free := c.free }).SameWork c :=
  ⟨g.sched.trans h.sched, rfl, g.eng.trans h.eng, g.keys.trans h.keys, g.cards.trans h.cards, g.plinth.trans h.plinth,
    g.cs.trans h.cs, g.life.trans h.life, g.gates.trans h.gates, g.pair.trans h.pair, g.power.trans h.power,
    g.hbm.trans h.hbm, rfl⟩

/-- A report leaves the work. -/
theorem Dev.Reported.wires_work {own : Nat → Prop} {a b : Dev} (h : Dev.Reported own a b) :
    ({ a with wires := b.wires, free := b.free }).SameWork b :=
  ⟨h.work.sched, rfl, h.work.eng, h.work.keys, h.work.cards, h.work.plinth, h.work.cs, h.work.life, h.work.gates,
    h.work.pair, h.work.power, h.work.hbm, rfl⟩

theorem Dev.Answers.refl (d : Dev) : d.Answers d := ⟨.refl d, fun _ _ _ => rfl⟩

/-- A change of the wires, of the free bytes, of the sessions and of what is sent. -/
theorem Dev.Answers.of_wires (d : Dev) (w : Wires) (f : Face) (n : Nat) (o : List Output) :
    d.Answers { d with wires := w, face := f, free := n, outbox := o } :=
  ⟨⟨rfl, rfl, rfl, rfl, rfl, rfl, rfl, rfl, rfl, rfl, rfl, rfl, rfl⟩, fun _ _ _ => rfl⟩

theorem Dev.Answers.trans {a b c : Dev} (h : a.Answers b) (g : b.Answers c) : a.Answers c :=
  ⟨h.work.wires_trans g.work, fun key hm hn => (g.vals key hm hn).trans (h.vals key hm hn)⟩

/-- A field of the network pages is counted up. -/
theorem Dev.Answers.bumpSat (d : Dev) (f : Fld) (i n : Nat) (h : networkKey (f.key i 0)) : d.Answers (d.bumpSat f i 0 n) :=
  ⟨⟨rfl, rfl, rfl, rfl, rfl, rfl, rfl, rfl, rfl, rfl, rfl, rfl, rfl⟩,
    fun _ _ hn => Dev.look_set _ _ _ _ _ _ (fun he => hn (he ▸ h))⟩

theorem networkKey_tx (i : Nat) : networkKey (R.NF_PORT_TX.key i 0) := by
  rw [networkKey, Fld.key_page _ _ _ (by decide) (by decide) (by decide)]
  exact Nat.le_add_right 0x400 _

theorem Dev.Answers.respond (d : Dev) (a : Access) (st : Status) (n : Nat) : d.Answers (d.respond a st n) := by
  unfold Dev.respond
  split
  case h_1 => exact .refl d
  case h_2 => exact .refl d
  case h_3 => exact .of_wires _ _ _ _ _
  case h_4 => exact .of_wires _ _ _ _ _
  case h_5 session reqId _ =>
    split
    case h_1 => exact .bumpSat d R.NF_ORPHANED 0 1 (show 0x400 ≤ _ by decide)
    case h_2 s _ =>
      exact ((Dev.Answers.of_wires d _ _ _ _).trans (.bumpSat (d.nextFrame session s) R.NF_PORT_TX (s.src.port / 2) 1
        (networkKey_tx _))).trans (.of_wires _ _ _ _ _)
  case h_6 => exact .of_wires _ _ _ _ _

theorem Dev.Answers.joinHalf (d : Dev) (id : Nat) (up : Bool) (x : Answer) : d.Answers (d.joinHalf id up x) := by
  unfold Dev.joinHalf
  split
  case h_1 => exact .refl d
  case h_2 =>
    dsimp only
    split
    case h_1 =>
      exact (Dev.Answers.of_wires d _ _ _ _).trans (.respond _ _ _ _)
    case h_2 => exact .of_wires _ _ _ _ _

theorem Dev.Answers.answerTo (d : Dev) (a : Access) (st : Status) (n : Nat) : d.Answers (d.answerTo a st n) := by
  unfold Dev.answerTo
  split
  · exact .joinHalf _ _ _ _
  · exact .respond _ _ _ _

theorem Dev.Answers.answerLost (d : Dev) (a : Access) (st : Status) : d.Answers (d.answerLost a st) := by
  have hdraw : d.Answers (d.draw a.size).2 := .of_wires _ _ _ _ _
  unfold Dev.answerLost
  split
  · exact hdraw.trans (.answerTo _ _ _ _)
  · exact hdraw.trans (.answerTo _ _ _ _)
  · exact .answerTo _ _ _ _

/-- An answer leaves the crossings. -/
theorem Dev.respond_xings (d : Dev) (a : Access) (st : Status) (n : Nat) :
    (d.respond a st n).wires.xings = d.wires.xings := by
  unfold Dev.respond; (repeat' split) <;> rfl

theorem Dev.joinHalf_xings (d : Dev) (id : Nat) (up : Bool) (x : Answer) :
    (d.joinHalf id up x).wires.xings = d.wires.xings := by
  unfold Dev.joinHalf
  split
  case h_1 => rfl
  case h_2 =>
    dsimp only
    split
    case h_1 => exact Dev.respond_xings _ _ _ _
    case h_2 => rfl

theorem Dev.answerLost_xings (d : Dev) (a : Access) (st : Status) :
    (d.answerLost a st).wires.xings = d.wires.xings := by
  have hto (e : Dev) (n : Nat) : (e.answerTo a st n).wires.xings = e.wires.xings := by
    unfold Dev.answerTo
    split
    · exact Dev.joinHalf_xings _ _ _ _
    · exact Dev.respond_xings _ _ _ _
  unfold Dev.answerLost
  split
  · exact hto _ _
  · exact hto _ _
  · exact hto _ _

/-! ## Records and refusals at a crossing (R29, R33, R34) -/

theorem Dev.Reported.xingMark {own : Nat → Prop} {a b : Dev} (h : Dev.Reported own a b) (x : Xing) (ev : Event) (p3 : Nat) :
    Dev.Reported own a (b.xingMark x ev p3) := by
  unfold Dev.xingMark
  split
  · exact h.mark _ _ _ _ _ _ _
  · exact h.mark _ _ _ _ _ _ _

theorem Dev.Reported.xingInt {a b : Dev} (h : Dev.Reported reportKey a b) (x : Xing) :
    Dev.Reported reportKey a (b.xingInt x) := by
  unfold Dev.xingInt
  split
  · exact h.raiseInt _ _ _ (.inr (reportKey_raw _ _))
  · exact h

theorem Dev.Reported.clockInt {a b : Dev} (h : Dev.Reported reportKey a b) (n : Nat) :
    Dev.Reported reportKey a (b.clockInt n) := h.raiseInt _ _ _ (.inr (reportKey_raw _ _))

/-- A report leaves what the crossings hold. -/
theorem Dev.Reported.xing {own : Nat → Prop} {a b : Dev} (h : Dev.Reported own a b) (x : Xing) : b.xing x = a.xing x :=
  Dev.xing_congr (by rw [h.work.wires]) x

/-- A report after a change of the wires. -/
theorem Dev.Reported.of_wires {own : Nat → Prop} {a b : Dev} {w : Wires} (h : Dev.Reported own { a with wires := w } b) :
    Dev.Reported own { a with wires := b.wires } b := by rw [h.work.wires]; exact h

/-- The record made at a crossing, of which `Dev.xingMark` says the source. -/
theorem Dev.xingMark_reported (d : Dev) (x : Xing) (ev : Event) (p3 : Nat) :
    Dev.Reported reportKey d (d.xingMark x ev p3) := (Dev.Reported.refl d).xingMark x ev p3

theorem Dev.Answers.xingMark (d : Dev) (x : Xing) (ev : Event) (p3 : Nat) : d.Answers (d.xingMark x ev p3) := by
  have h := (Dev.Reported.refl (own := fun _ => False) d).xingMark x ev p3
  exact ⟨h.wires_work, fun key hm _ => h.regs.vals key (by simp [hm])⟩

/-- A refusal is counted at a crossing that is not fenced. -/
theorem Dev.xingRefuse_open {d : Dev} {x : Xing} (h : d.fenced x = false) : d.xingRefuse x =
    (d.setXing { d.xing x with refusals := min max32 ((d.xing x).refusals + 1) }).xingMark x .xingTimeout :=
  if_neg (by simp [h])

theorem Dev.xingRefuse_fenced {d : Dev} {x : Xing} (h : d.fenced x = true) :
    d.xingRefuse x = d.xingMark x .xingFenced := if_pos h

/-- A crossing holds what was put in place of what it held. -/
theorem Dev.xing_put (d e : Dev) (x : Xing) (stalled : Bool) (n k : Nat) (l : List Access) :
    (e.setXing ⟨(d.xing x).xing, stalled, n, l, k⟩).xing x = ⟨(d.xing x).xing, stalled, n, l, k⟩ := by
  rw [d.xing_self x]; exact e.xing_setXing _

/-- A refusal changes no more of the crossing than its count. -/
theorem Dev.xingRefuse_xing (d : Dev) (x : Xing) : ∃ n, (d.xingRefuse x).xing x = { d.xing x with refusals := n } := by
  cases h : d.fenced x with
  | true => exact ⟨_, by rw [Dev.xingRefuse_fenced h, (d.xingMark_reported x _ _).xing]⟩
  | false => exact ⟨_, by rw [Dev.xingRefuse_open h, (Dev.xingMark_reported _ x _ _).xing]; exact d.xing_put d x _ _ _ _⟩

theorem Dev.Answers.setXing (d : Dev) (s : XingState) : d.Answers (d.setXing s) := .of_wires _ _ _ _ _

theorem Dev.Answers.xingRefuse (d : Dev) (x : Xing) : d.Answers (d.xingRefuse x) := by
  cases h : d.fenced x with
  | true => rw [Dev.xingRefuse_fenced h]; exact .xingMark _ _ _ _
  | false => rw [Dev.xingRefuse_open h]; exact (Dev.Answers.setXing _ _).trans (.xingMark _ _ _ _)

/-- What waits behind a transaction that timed out meets a stalled crossing (R31): one refused access after the other. -/
theorem Dev.refuseAll_answers (d : Dev) (x : Xing) (l : List Access) :
    d.Answers (l.foldl (fun a w => (a.xingRefuse x).answerLost w .xingTimeout) d) := by
  induction l generalizing d with
  | nil => exact .refl d
  | cons w l ih => exact ((Dev.Answers.xingRefuse d x).trans (.answerLost _ _ _)).trans (ih _)

theorem Dev.refuseAll_xing (d : Dev) (x : Xing) (l : List Access) :
    ∃ n, (l.foldl (fun a w => (a.xingRefuse x).answerLost w .xingTimeout) d).xing x = { d.xing x with refusals := n } := by
  induction l generalizing d with
  | nil => exact ⟨_, rfl⟩
  | cons w l ih =>
    obtain ⟨n, hn⟩ := d.xingRefuse_xing x
    obtain ⟨m, hm⟩ := ih ((d.xingRefuse x).answerLost w .xingTimeout)
    exact ⟨m, by rw [List.foldl_cons, hm, Dev.xing_congr (Dev.answerLost_xings _ _ _), hn]⟩

/-! ## The transaction that times out (R31, R35) -/

/-- The place of the oldest access that the far side has not acknowledged. -/
def Xing.oldest (x : Xing) : Nat := if x.rx = 15 then 1 else 0

/-- Where no unit stands behind a crossing, the oldest access that has not been acknowledged ends. -/
theorem Dev.endTransaction_answers (d : Dev) (x : Xing) : d.Answers (d.endTransaction x .none) := by
  unfold Dev.endTransaction
  rw [if_neg (by simp [FlitUnit.page])]
  dsimp only
  split
  · exact .refl d
  · exact (Dev.Answers.setXing _ _).trans (.answerLost _ _ _)

theorem Dev.endTransaction_xing (d : Dev) (x : Xing) : (d.endTransaction x .none).xing x =
    { d.xing x with waiting := (d.xing x).waiting.eraseIdx x.oldest } := by
  unfold Dev.endTransaction
  rw [if_neg (by simp [FlitUnit.page])]
  dsimp only
  split
  case h_1 h =>
    have hnone : (d.xing x).waiting.eraseIdx x.oldest = (d.xing x).waiting :=
      List.eraseIdx_of_length_le (List.getElem?_eq_none_iff.mp h)
    rw [hnone]
  case h_2 => exact (Dev.xing_congr (Dev.answerLost_xings _ _ _) x).trans (d.xing_put d x _ _ _ _)

/-- A crossing that stalls holds what it held, and raises the far clock's interrupt (R33). -/
theorem Dev.xingStall_xing (d : Dev) (x : Xing) :
    (d.xingStall x).xing x = { d.xing x with stalled := true, refusals := 0 } := by
  have h : Dev.Reported reportKey (d.setXing { d.xing x with stalled := true, refusals := 0 }) (d.xingStall x) :=
    ((Dev.xingMark_reported _ x _ _).xingInt x).clockInt x.rx
  exact (h.xing x).trans (d.xing_put d x _ _ _ _)

theorem Dev.xingStall_work (d : Dev) (x : Xing) :
    ({ d with wires := (d.xingStall x).wires, free := (d.xingStall x).free }).SameWork (d.xingStall x) :=
  (Dev.Answers.setXing d { d.xing x with stalled := true, refusals := 0 }).work.wires_trans
    (((Dev.xingMark_reported _ x _ _).xingInt x).clockInt x.rx).wires_work

theorem ck_apart : Blk.ck.apart 0 := ⟨by decide, by decide⟩

/-- The interrupt of a clock domain shows in CK's INT_RAW (R17). -/
theorem Dev.xingStall_bit (d : Dev) {x : Xing} (h : x.rx < 19) :
    ((d.xingStall x).get (R.INT_RAW .ck)).testBit (x.rx + 1) = true := Dev.raiseInt_bit _ ck_apart (by omega)

theorem Dev.Answers.get_ck {d e : Dev} (h : d.Answers e) : e.get (R.INT_RAW .ck) = d.get (R.INT_RAW .ck) :=
  Dev.get_congr (h.vals _ (Blk.apart_raw ck_apart) (show ¬ 0x400 ≤ _ by decide))

/-- A crossing times out where no unit stands behind it: what waits behind the oldest access meets the stalled crossing. -/
theorem xingTimeout_stalls {d : Dev} {x : Xing} (hf : d.fenced x = false) (hs : (d.xing x).stalled = false) :
    (d.xingStall x).Answers (xingTimeout x .none d) ∧
    ∃ n, (xingTimeout x .none d).xing x =
      { d.xing x with stalled := true, refusals := n, waiting := (d.xing x).waiting.take x.oldest } := by
  have hend := Dev.endTransaction_answers (d.xingStall x) x
  have hxing := Dev.endTransaction_xing (d.xingStall x) x
  rw [Dev.xingStall_xing] at hxing
  rw [xingTimeout, if_neg (by simp [hf, hs])]
  generalize (d.xingStall x).endTransaction x .none = e at hend hxing
  dsimp only
  refine ⟨hend.trans ((Dev.Answers.setXing e _).trans (Dev.refuseAll_answers _ x _)), ?_⟩
  obtain ⟨n, hn⟩ := Dev.refuseAll_xing (e.setXing { e.xing x with waiting := (e.xing x).waiting.take x.oldest }) x
    ((e.xing x).waiting.drop x.oldest)
  have hput : (e.setXing { e.xing x with waiting := (e.xing x).waiting.take x.oldest }).xing x =
      { e.xing x with waiting := (e.xing x).waiting.take x.oldest } := e.xing_put e x _ _ _ _
  refine ⟨n, hn.trans ?_⟩
  rw [hput, hxing]
  dsimp only
  rw [List.take_eraseIdx_eq_take_of_le _ _ _ (le_refl _)]

/-! ## Crossings that realign (R33, R35) -/

/-- A crossing that realigns is cleared, and a record is made. -/
theorem Dev.xingResume_reported (d : Dev) (x : Xing) : Dev.Reported reportKey
    (d.setXing { d.xing x with stalled := false, refusals := 0, pulses := 0 }) (d.xingResume x) :=
  Dev.xingMark_reported _ x _ _

theorem Dev.xingResume_xing (d : Dev) (x : Xing) :
    (d.xingResume x).xing x = { d.xing x with stalled := false, refusals := 0, pulses := 0 } :=
  ((d.xingResume_reported x).xing x).trans (d.xing_put d x _ _ _ _)

/-- A stalled crossing whose far clock runs realigns, and the units behind it wipe (R253, R295). -/
theorem xingResumed_stalled {d : Dev} {x : Xing} (p : Perm) (hs : (d.xing x).stalled = true)
    (hc : d.stopped x.rx = false) (hrx : x.rx ≠ 15) : xingResumed x p d =
      (xingDomains x).foldl (fun a n => a.wipeDomain (d.workLevel p.level) n) (d.xingResume x) := by
  have hlevel : (d.xingResume x).workLevel p.level = d.workLevel p.level := by
    rw [Dev.workLevel, (d.xingResume_reported x).work.keys]; rfl
  rw [xingResumed, if_neg (by simp [hs, hc, hrx]), Dev.realignUnits, hlevel]

/-- The demand's crossing leads to no power domain, so it is never fenced. -/
theorem Dev.demand_fenced (d : Dev) : d.fenced demandXing = false := rfl

/-- Settles O11: a crossing's refusals and answers leave all but the wires, the free bytes and what reports hold, and a
refusal changes no more of the crossing than its count. -/
theorem crossingsStallAndRefuse : Obligations.CrossingsStallAndRefuse := by
  refine ⟨?unstable, ?timeout, ?stalled, ?fenced, ?resumed, ?wiped, ?delivered, ?held⟩
  case unstable =>
    intro s x hf hs hrx
    have hmark := ((s.dev.xingMark_reported x .xingUnstable 0).xingInt x)
    have hoff : x.oldest = 0 := if_neg hrx
    refine completes_after rfl ⟨rfl, ?_⟩
    rw [xingUnstable, if_neg (by simp [hf, hs, hrx])]
    refine ⟨?_, hmark.wires_work.wires_trans (Dev.endTransaction_answers _ x).work⟩
    rw [Dev.endTransaction_xing, hmark.xing, hoff, List.eraseIdx_zero]
  case timeout =>
    intro s x hf hs
    obtain ⟨hend, n, hx⟩ := xingTimeout_stalls hf hs
    refine completes_after rfl ⟨rfl, ?_⟩
    rw [hx]
    exact ⟨rfl, rfl, rfl, fun hrx => by rw [hend.get_ck]; exact s.dev.xingStall_bit hrx,
      s.dev.xingStall_work x |>.wires_trans hend.work⟩
  case stalled =>
    intro s x u hf hs
    refine completes_after rfl ⟨rfl, ?_⟩
    rw [xingTimeout, if_pos (.inr hs), Dev.xingRefuse_open hf]
    have hmark := Dev.xingMark_reported
      (s.dev.setXing { s.dev.xing x with refusals := min max32 ((s.dev.xing x).refusals + 1) }) x .xingTimeout 0
    exact ⟨(hmark.xing x).trans (s.dev.xing_put s.dev x _ _ _ _), hmark.of_wires⟩
  case fenced =>
    intro s x u hf
    refine completes_after rfl ⟨rfl, ?_⟩
    rw [xingTimeout, if_pos (.inl hf), Dev.xingRefuse_fenced hf]
  case resumed =>
    intro s x hs hc hrx hnone
    refine completes_afterWith rfl ⟨rfl, ?_⟩
    rw [xingResumed_stalled s.perm hs hc hrx, hnone]
    exact ⟨s.dev.xingResume_xing x, (s.dev.xingResume_reported x).of_wires⟩
  case wiped =>
    intro s x hs hc hrx
    exact completes_afterWith rfl ⟨rfl, xingResumed_stalled s.perm hs hc hrx⟩
  case delivered =>
    intro s hd hs
    refine completes_after rfl ⟨rfl, ?_⟩
    rw [demandResend, if_neg (by simp [hd]), if_neg (by simp [hs])]
  case held =>
    intro s hd hs
    have hmark := Dev.xingMark_reported (s.dev.setXing { s.dev.xing demandXing with
      refusals := min max32 ((s.dev.xing demandXing).refusals + 1) }) demandXing .xingTimeout 0
    refine completes_after rfl ⟨rfl, ?_⟩
    rw [demandResend, if_neg (by simp [hd]), if_pos hs, Dev.xingRefuse_open s.dev.demand_fenced]
    refine ⟨by rw [hmark.work.wires]; exact hd, ?_, hmark.of_wires⟩
    rw [Dev.demandStalled, hmark.xing]
    exact (congrArg XingState.stalled (s.dev.xing_put s.dev demandXing _ _ _ _)).trans hs


/-! # Accesses that nothing stops, and messages (R21, R38, R47, R353, R455, R461) -/

/-! ## On the way to the target -/

theorem Dev.passOn_free {d : Dev} {p : Perm} {a : Access} (h : a.xing = none) : d.passOn p a = d.perform p a := by
  rw [Dev.passOn, h]

/-- A clear crossing passes an access on. -/
theorem Dev.passOn_clear {d : Dev} {p : Perm} {a : Access} (h : ∀ x, a.xing = some x → d.Clear x) :
    d.passOn p a = d.perform p a := by
  cases hx : a.xing with
  | none => exact Dev.passOn_free hx
  | some x =>
    obtain ⟨hfenced, hstalled, hclock, hfirst, hsampled⟩ := h x hx
    rw [Dev.passOn, hx]
    dsimp only
    rw [if_neg (by simp [hfenced, hstalled]), if_neg (by simp [hclock, hfirst, hsampled])]

/-- An access that nothing stops takes place at its target. -/
theorem Dev.submit_open {d : Dev} {p : Perm} {a : Access} (h : d.Open p a) (stamp : Nat) :
    d.submit p a stamp = d.perform p a := by
  obtain ⟨hgate, hway⟩ := h
  cases hg : a.gate with
  | none => rw [Dev.submit, hg]; exact Dev.passOn_clear hway
  | some g =>
    obtain ⟨hdrain, hpermits⟩ := hgate g hg
    rw [Dev.submit, hg]
    dsimp only
    rw [hdrain]
    dsimp only
    rw [if_pos hpermits, Dev.passOn_clear hway]

/-- A word access that nothing stops is served. -/
theorem Dev.submitSplit_serves {d : Dev} {p : Perm} {a : Access} (hport : a.port = none) (hsize : a.size = 4)
    (haddr : a.addr % 4 = 0) (h : d.Open p a) (stamp : Nat) :
    d.Served p a (d.submitSplit p a stamp).1 (d.submitSplit p a stamp).2 := by
  have hwhole : a.size = 4 ∧ a.addr % 4 = 0 := ⟨hsize, haddr⟩
  have hserve : d.submitSplit p a stamp = d.registerAccess p a := by
    rw [Dev.submitSplit, if_neg (by simp [hsize]), Dev.submit_open h, Dev.perform, hport]
  rw [hserve, Dev.registerAccess, Dev.Served]
  cases a.op with
  | read => dsimp only; rw [if_pos hwhole]; exact ⟨rfl, rfl⟩
  | fetch => dsimp only; rw [if_pos hwhole]; exact ⟨rfl, rfl⟩
  | write => dsimp only; rw [if_pos hwhole]; exact ⟨rfl, rfl⟩
  | posted => dsimp only; rw [if_pos hwhole]; exact ⟨rfl, rfl⟩

/-! ## The faces (R21, R47, R353, R455) -/

/-- A Mortar message that asks for an access is one, to the page at its address or to the port of its gate. -/
theorem mortarMessage_access {h : Header} {op : AccessOp} (hop : h.access = some op) (payload : Bytes) (size : Nat)
    (isl : Island) (gate : Option Nat) (x : Option Xing) (u : FlitUnit) (quads : List (Fin 4)) (stamp : Nat) (p : Perm)
    (d : Dev) : mortarMessage h payload size isl gate x u quads stamp p d =
      (d.countFlits quads h.len).submitSplit p ⟨op, h.addr, size, payload, ⟨h.origin, h.bay, isl⟩, h.src, h.dst,
        if op = .posted then .none else .requester, none,
        if gate.isSome then some ⟨gate, h, x, .none⟩ else none⟩ stamp := by
  rw [mortarMessage, hop]

/-- The controlling Keystone carries a manager access out. -/
theorem Dev.managerAccess_controlled {d : Dev} {k : Nat} (hk : d.controller = some k) (p : Perm) (a : Access)
    (face : Island) :
    d.managerAccess p a face = d.submitSplit p { a with req := ⟨.supervisor, 0, keystoneIsland k⟩ } 0 := by
  rw [Dev.managerAccess, hk]

/-- A TLP to BAR0 of a running module: the host face stamps one to a bay window with its bay, and a Keystone carries out any
other (R46, R47). -/
theorem bar0Access_running {d : Dev} {a : Access} {stream : Option (Fin 4)} {req : Requester} (p : Perm)
    (hperst : d.face.perst = false) (hlink : d.on R.HF_LINK_UP = true) (hsec : d.unsecured stream = false)
    (hrun : d.power.stage = .running)
    (hreq : (0x02000000 ≤ a.addr ∧ a.addr < 0x03000000) ∧ req = ⟨.bay, bits a.addr 23 16, .host⟩ ∨
      ¬ (0x02000000 ≤ a.addr ∧ a.addr < 0x03000000) ∧
        ∃ k, d.controller = some k ∧ req = ⟨.supervisor, 0, keystoneIsland k⟩) :
    bar0Access a stream p d = d.submitSplit p { a with req := req } 0 := by
  rw [bar0Access, if_neg (by simp [hperst, hlink]), if_neg (by simp [hsec]), hrun]
  dsimp only
  obtain ⟨hbay, rfl⟩ | ⟨hbay, k, hk, rfl⟩ := hreq
  · rw [if_pos hbay]
  · rw [if_neg hbay, Dev.managerAccess_controlled hk]

/-- A management frame of a bound session: the network face stamps one to the session's own bay window, and a Keystone
carries out one of the manager's session (R49, R353). -/
theorem mgmtRequest_bound {d : Dev} {h : FrameHdr} {c : Session} {req : Requester} {op addr : Nat}
    (reqId v src dst : Nat) (p : Perm) (hsession : Tab.look d.face.sessions h.session = some c) (hpid : h.pid = c.pid)
    (hbound : d.bound c.pid = some c.target) (hop : op ≤ 1)
    (hreach : c.target ≠ 256 ∧ 0x02000000 ≤ addr ∧ addr < 0x03000000 ∧ bits addr 23 16 = c.target ∧
        req = ⟨.bay, c.target, .network⟩ ∨
      c.target = 256 ∧ addr < 0x03000000 ∧ ∃ k, d.controller = some k ∧ req = ⟨.supervisor, 0, keystoneIsland k⟩) :
    mgmtRequest h reqId op addr v src dst p d = d.submitSplit p ⟨if op = 0 then .read else .write, addr, 4,
      if op = 0 then [] else leBytes 4 v, req, src, dst, .mgmt h.session reqId, none, none⟩ 0 := by
  rw [mgmtRequest, hsession]
  dsimp only
  rw [if_neg (by simp [hpid]), if_neg (by simp [hbound]), if_neg (by omega)]
  obtain ⟨hbay, hlow, hhigh, hbits, rfl⟩ | ⟨hman, hhigh, k, hk, rfl⟩ := hreach
  · rw [if_neg (by simp [managerTarget, hbay, hlow, hhigh, hbits]), if_neg (show ¬ c.target = managerTarget from hbay)]
  · rw [if_neg (by simp [managerTarget, hman, hhigh]), if_pos (show c.target = managerTarget from hman),
      Dev.managerAccess_controlled hk]

/-- An access of the debug master to a register page, where the state permits the instruction. -/
theorem tapDbgAccess_permitted {p : Perm} {d : Dev} (hpermits : d.tapPermits p .dbgAccess = true) (op : AccessOp)
    (addr size v : Nat) (x : Option Xing) (src dst stamp : Nat) :
    tapDbgAccess op addr size v none x src dst stamp p d =
      Dev.submitSplit { d with life := { d.life with tap := .dbgAccess } } p ⟨op, addr, size,
        if op = .write ∨ op = .posted then leBytes size v else [], ⟨.debug, 0, .debug⟩, src, dst,
        if op = .posted then .none else .tap, none, none⟩ stamp := by
  have hselect : tapSelect .dbgAccess stamp p d = (p, { d with life := { d.life with tap := .dbgAccess } }) :=
    if_pos hpermits
  have hdata : (match op with | .write | .posted => leBytes size v | _ => []) =
      if op = .write ∨ op = .posted then leBytes size v else [] := by cases op <;> rfl
  unfold tapDbgAccess
  rw [hselect, if_neg (by simp [hpermits]), ← hdata]
  rfl

/-- Settles O9: each face makes the access it stands for and submits it, and a word access that nothing stops is served. -/
theorem accessesAreServed : Obligations.AccessesAreServed := by
  refine ⟨?mortar, ?bar0, ?mgmt, ?tap⟩
  case mortar =>
    intro s h op payload isl x u quads stamp hop haddr a hopen
    refine completes_afterPerm rfl ?_
    rw [mortarMessage_access hop]
    exact Dev.submitSplit_serves rfl rfl haddr hopen stamp
  case bar0 =>
    intro s addr write v stream pasid tag src dst req hperst hlink hsec hrun haddr hreq a hopen
    refine completes_afterPerm rfl ?_
    rw [bar0Access_running s.perm hperst hlink hsec hrun (hreq.imp_left fun ⟨hlow, hhigh, h⟩ => ⟨⟨hlow, hhigh⟩, h⟩)]
    exact Dev.submitSplit_serves rfl rfl haddr hopen 0
  case mgmt =>
    intro s h reqId op addr v src dst c req hsession hpid hbound hop haddr hreach a hopen
    refine completes_afterPerm rfl ?_
    rw [mgmtRequest_bound reqId.toNat v.toNat src dst s.perm hsession hpid hbound hop hreach]
    exact Dev.submitSplit_serves rfl rfl haddr hopen 0
  case tap =>
    intro s op addr v x src dst stamp hpermits haddr d a hopen
    refine completes_afterPerm rfl ?_
    rw [Option.map_none, tapDbgAccess_permitted hpermits]
    exact Dev.submitSplit_serves rfl rfl haddr hopen stamp


/-! # Messages of the Mortar, and the bytes of HBM (R21, R30, R461, R542) -/

/-! ## What counting events leaves (R542) -/

/-- A counted event changes what the counters hold alone. -/
theorem Dev.occur_log (d : Dev) (code : Nat) (bay : Option Nat) (qual weight : Nat) :
    ∃ l, d.occur code bay qual weight = { d with log := l } := by
  unfold Dev.occur
  split
  · exact ⟨d.log, rfl⟩
  · exact ⟨_, rfl⟩

theorem Dev.countFlits_log (d : Dev) (quads : List (Fin 4)) (n : Nat) :
    ∃ l, d.countFlits quads n = { d with log := l } := by
  unfold Dev.countFlits
  induction quads generalizing d with
  | nil => exact ⟨d.log, rfl⟩
  | cons q quads ih =>
    obtain ⟨l, hl⟩ := d.occur_log 0x0A0 none q.val (max 1 n)
    obtain ⟨m, hm⟩ := ih { d with log := l }
    exact ⟨m, by rw [List.foldl_cons, hl, hm]⟩

/-- The work does not depend on what the counters hold and on what is sent. -/
theorem Dev.SameWork.of_log (d : Dev) (l : Rec) (o : List Output) : d.SameWork { d with log := l, outbox := o } :=
  ⟨rfl, rfl, rfl, rfl, rfl, rfl, rfl, rfl, rfl, rfl, rfl, rfl, rfl⟩

/-! ## The bytes of HBM (R461) -/

/-- The bytes of a list, written one after the other, stand in their order. -/
theorem Memory.get_fold_zipIdx (b : Bytes) (m : Tab Byte) (addr start i : Nat) (hi : i < b.length) :
    Tab.get ((b.zipIdx start).foldl (fun t e => Tab.set t (addr + e.2) 0 e.1) m) (addr + (start + i)) 0 = b.getD i 0 := by
  induction b generalizing m start i with
  | nil => exact absurd hi (by simp)
  | cons x b ih =>
    rw [List.zipIdx_cons, List.foldl_cons]
    cases i with
    | zero =>
      rw [Memory.get_fold, Tab.get_set]
      · exact if_pos rfl
      · intro e he
        have := List.le_snd_of_mem_zipIdx he
        omega
    | succ i =>
      rw [show start + (i + 1) = start + 1 + i by omega, ih _ _ _ (Nat.lt_of_succ_lt_succ hi)]
      rfl

/-- A byte after a write of bytes. -/
theorem Memory.get_write_eq (m : Tab Byte) (addr n : Nat) (b : Bytes) : Tab.get (Memory.write m addr b) n 0 =
    if addr ≤ n ∧ n < addr + b.length then b.getD (n - addr) 0 else Tab.get m n 0 := by
  split
  case isTrue h =>
    have hplace : addr + (0 + (n - addr)) = n := by omega
    have hget := Memory.get_fold_zipIdx b m addr 0 (n - addr) (by omega)
    rwa [hplace] at hget
  case isFalse h => exact Memory.get_write _ _ _ _ (by omega)

/-- An HBM access reads its bytes, or writes them, and changes nothing else but its answer and what the counters hold. -/
theorem Dev.hbmAccess_effect (d : Dev) (g : Nat) {a : Access}
    (hreply : a.reply = if a.op = .posted then .none else .requester) :
    ∃ l m o, d.hbmAccess g a = { d with log := l, hbm := m, outbox := o } ∧
      (∀ n, Tab.get m n 0 =
        if (a.op = .write ∨ a.op = .posted) ∧ a.addr ≤ n ∧ n < a.addr + a.data.length then a.data.getD (n - a.addr) 0
        else Tab.get d.hbm n 0) ∧
      (a.op = .read → o = d.outbox ++ [.answer a.req a.addr ⟨.ok, leNat (d.hbmBytes a.addr a.size)⟩]) := by
  obtain ⟨l, hl⟩ := d.occur_log 0x0B0 none (g - 28) ((a.size + 63) / 64)
  unfold Dev.hbmAccess Dev.answerTo Dev.respond
  rw [hl, hreply]
  cases hop : a.op with
  | read => exact ⟨l, d.hbm, _, rfl, fun n => by simp, fun _ => rfl⟩
  | fetch => exact ⟨l, d.hbm, _, rfl, fun n => by simp, by simp⟩
  | write => exact ⟨l, _, _, rfl, fun n => (Memory.get_write_eq _ _ _ _).trans (by simp), by simp⟩
  | posted => exact ⟨l, _, d.outbox, rfl, fun n => (Memory.get_write_eq _ _ _ _).trans (by simp), by simp⟩

/-! ## Messages -/

/-- A pulse at a crossing that nothing stops goes to the far side at once (R30). -/
theorem Dev.xingPulse_clear {d : Dev} {x : Xing} (hf : d.fenced x = false) (hs : (d.xing x).stalled = false)
    (hc : d.stopped x.rx = false) : d.xingPulse x = d := by
  rw [Dev.xingPulse, if_neg (by simp [hf]), if_pos (by simp [hs, hc])]

/-- Settles O10: a message to a plain port is sent on, an HBM access takes place at its port, and a pulse at a clear
crossing leaves the state. -/
theorem messagesAreCarried : Obligations.MessagesAreCarried := by
  refine ⟨?message, ?hbm, ?pulse⟩
  case message =>
    intro s h payload size isl gate quads stamp hop
    refine completes_afterPerm rfl ?_
    rw [mortarMessage, hop]
    dsimp only
    rw [Dev.passOn_free rfl]
    exact ⟨rfl, rfl⟩
  case hbm =>
    intro s h op payload size isl g x u quads stamp hop hlow hhigh a hopen
    have hserve : mortarMessage h payload size isl (some g.val) x u quads stamp s.perm s.dev =
        (s.perm, (s.dev.countFlits quads h.len).hbmAccess g a) := by
      rw [mortarMessage_access hop, Dev.submitSplit, if_neg (by simp)]
      exact (Dev.submit_open hopen stamp).trans (congrArg (Prod.mk s.perm) (if_pos ⟨hlow, hhigh⟩))
    obtain ⟨l, hl⟩ := s.dev.countFlits_log quads h.len
    obtain ⟨l', m, o, heq, hbytes, hanswer⟩ := Dev.hbmAccess_effect { s.dev with log := l } g (a := a) rfl
    refine completes_afterPerm rfl ?_
    rw [Option.map_some, hserve, hl, heq]
    exact ⟨rfl, Dev.SameWork.of_log { s.dev with hbm := m } l' o, rfl, rfl, hbytes, hanswer⟩
  case pulse =>
    intro s h payload size isl gate x u quads stamp hcls hop hf hs hc
    have hnone : h.access = none := if_pos (by simp [hcls])
    obtain ⟨l, hl⟩ := s.dev.countFlits_log quads h.len
    refine completes_afterPerm rfl ?_
    rw [mortarMessage, hnone]
    dsimp only
    rw [if_pos ⟨hcls, hop⟩, hl]
    exact ⟨rfl, Dev.xingPulse_clear hf hs hc⟩

end Sys2Proof.Machine

namespace Sys2Proof.Machine

/-! # Binding commands (R304, R305) and groups that hold a pinned version (R88) -/

/-! ## The end of a binding command -/

/-- The places a binding command of a target writes: its status register, and what a report writes. -/
def bindKey (target : Option (Fin 256)) (key : Nat) : Prop :=
  match target with
  | some b => reportKey key ∨ key = R.BY_BIND_STATUS_STATUS.key b 0 ∨ key = R.BY_BIND_STATUS_BUSY.key b 0 ∨
      key = R.BY_BIND_STATUS_BOUND.key b 0
  | none => reportKey key ∨ key = R.NF_MGR_BIND_STATUS_STATUS.key 0 0 ∨ key = R.NF_MGR_BIND_STATUS_BUSY.key 0 0 ∨
      key = R.NF_MGR_BIND_STATUS_BOUND.key 0 0

theorem Dev.onlyBinds_iff {d e : Dev} {target : Option (Fin 256)} : d.OnlyBinds e target ↔
    Dev.Reported (bindKey target) { d with sched := { d.sched with bindings := e.sched.bindings } } e := by
  cases target <;> exact Iff.rfl

/-- The end of a bay's binding command. -/
theorem Dev.bindEnd_bay (d : Dev) (b : Fin 256) (st : Status) : d.bindEnd (targetNum (some b)) st =
    ((d.set R.BY_BIND_STATUS_STATUS st.code b).set R.BY_BIND_STATUS_BUSY 0 b).raiseInt .by b 4 := if_pos b.isLt

/-- The end of a binding command writes its status register and reports. -/
theorem Dev.bindEnd_reported (d : Dev) (target : Option (Fin 256)) (st : Status) :
    Dev.Reported (bindKey target) d (d.bindEnd (targetNum target) st) := by
  cases target with
  | none =>
    exact ((Dev.Reported.refl d).set R.NF_MGR_BIND_STATUS_STATUS st.code 0 0 (.inr (.inr (.inl rfl)))).set
      R.NF_MGR_BIND_STATUS_BUSY 0 0 0 (.inr (.inr (.inr (.inl rfl))))
  | some b =>
    rw [Dev.bindEnd_bay]
    exact (((Dev.Reported.refl d).set R.BY_BIND_STATUS_STATUS st.code b 0 (.inr (.inr (.inl rfl)))).set
      R.BY_BIND_STATUS_BUSY 0 b 0 (.inr (.inr (.inr (.inl rfl))))).raiseInt .by b 4 (.inr (.inl (reportKey_raw _ _)))

/-- Bit 4 of a BY page's INT_RAW is no field of BIND_STATUS. -/
theorem Dev.raiseInt_bindStatus (d : Dev) {f : Fld} (h : f.blk = .by ∧ f.off = 0x06C ∧ f.lo < 32) (b : Fin 256) :
    (d.raiseInt .by b 4).get f b = d.get f b := by
  obtain ⟨hblk, hoff, hlo⟩ := h
  refine ((Dev.Reported.refl (own := reportKey) d).raiseInt .by b 4 (.inr (reportKey_raw _ _))).get f b 0
    (markKey_false f b 0 ?_ ?_ (by omega) hlo (by decide)) (reportKey_false f b 0 ?_ ?_ (by omega) hlo (by decide))
  · rw [hblk]; exact (Blk.apart_by b).1
  · rw [hblk]; exact (Blk.apart_by b).2
  · rw [hoff]; decide
  · rw [hoff]; decide

/-- A binding command's end shows its status. -/
theorem Dev.bindEnd_shown (d : Dev) (target : Option (Fin 256)) (st : Status) :
    (d.bindEnd (targetNum target) st).BindShown target st := by
  have hstatus (e : Dev) (f g : Fld) (i : Nat) (hwidth : f.bound = 2 ^ 16) (hne : g.key i 0 ≠ f.key i 0) :
      ((e.set f st.code i).set g 0 i).get f i = st.code := by
    rw [Dev.get_set_ne _ _ _ _ _ _ _ _ hne, Dev.get_set_self, hwidth]
    exact Nat.mod_eq_of_lt st.code_lt
  have hbusy (e : Dev) (g : Fld) (i : Nat) : (e.set g 0 i).on g i = false := by
    rw [Dev.on, Dev.get_set_self, Nat.zero_mod]; rfl
  cases target with
  | none => exact ⟨hstatus d _ R.NF_MGR_BIND_STATUS_BUSY 0 rfl (by decide), hbusy _ _ _⟩
  | some b =>
    rw [Dev.bindEnd_bay]
    refine ⟨?_, ?_, Dev.raiseInt_bit _ (Blk.apart_by b) (by decide)⟩
    · rw [Dev.raiseInt_bindStatus _ (by decide)]
      exact hstatus d _ _ b rfl (Fld.key_ne_of_lo (by decide) (by decide) (by decide) (by decide) (by decide))
    · rw [Dev.on, Dev.raiseInt_bindStatus _ (by decide)]
      exact hbusy _ _ _

/-- What a binding command leaves whose end comes after a change of the binding table alone. -/
theorem Dev.bindEnd_of_table (d : Dev) (t : Tab Nat) (target : Option (Fin 256)) (st : Status) :
    let e := ({ d with sched := { d.sched with bindings := t } }).bindEnd (targetNum target) st
    e.BindShown target st ∧ (∀ q, e.bound q = Tab.look t q) ∧ d.OnlyBinds e target := by
  have hrep := Dev.bindEnd_reported { d with sched := { d.sched with bindings := t } } target st
  refine ⟨Dev.bindEnd_shown _ _ _, fun q => by rw [Dev.bound, hrep.work.sched], ?_⟩
  rw [Dev.onlyBinds_iff, hrep.work.sched]
  exact hrep

/-! ## The table of R305 -/

/-- BIND of an unbound identifier. -/
theorem bind_unbound {target pid : Nat} {d : Dev} (h : d.bound pid = none) : bind target pid d =
    if d.sched.bindings.length < 4096 then
      ({ d with sched := { d.sched with bindings := Tab.put d.sched.bindings pid target } }).bindEnd target .ok
    else d.bindEnd target .bindFull := by
  rw [bind, h]
  dsimp only
  by_cases hroom : d.sched.bindings.length < 4096
  · rw [if_neg (by omega), if_pos hroom]
  · rw [if_pos (by omega), if_neg hroom]

theorem bind_bound {target pid t : Nat} {d : Dev} (h : d.bound pid = some t) :
    bind target pid d = d.bindEnd target (if t = target then .ok else .pidBound) := by rw [bind, h]

theorem unbind_unbound {target pid : Nat} {d : Dev} (h : d.bound pid = none) :
    unbind target pid d = d.bindEnd target .pidUnbound := by rw [unbind, h]

theorem unbind_bound {target pid t : Nat} {d : Dev} (h : d.bound pid = some t) : unbind target pid d =
    if t = target then
      ({ d with sched := { d.sched with bindings := Tab.del d.sched.bindings pid } }).bindEnd target .ok
    else d.bindEnd target .pidBound := by rw [unbind, h]

/-- The answer of BIND_QUERY stands in BOUND of the target's status register. -/
theorem bindQuery_bound (d : Dev) (target : Option (Fin 256)) (pid : Nat) :
    let e := bindQuery (targetNum target) pid d
    match target with
    | some b => e.on R.BY_BIND_STATUS_BOUND b = decide (d.bound pid = some (targetNum target))
    | none => e.on R.NF_MGR_BIND_STATUS_BOUND = decide (d.bound pid = some (targetNum target)) := by
  have hon (e : Dev) (f : Fld) (i : Nat) (q : Bool) (hf : f.bound = 2) : (e.set f (b2n q) i).on f i = q := by
    rw [Dev.on, Dev.get_set_self, hf]; cases q <;> rfl
  have hshown : b2n (d.bound pid == some (targetNum target)) = b2n (decide (d.bound pid = some (targetNum target))) :=
    congrArg b2n (by rw [Bool.eq_iff_iff]; simp)
  dsimp only
  unfold bindQuery
  rw [hshown]
  cases target with
  | none =>
    show ((Dev.set (Dev.set _ _ _ 0 0) _ _ 0 0).get R.NF_MGR_BIND_STATUS_BOUND 0 0 == 1) = _
    rw [Dev.get_set_ne _ _ _ _ _ _ _ _ (by decide), Dev.get_set_ne _ _ _ _ _ _ _ _ (by decide)]
    exact hon d _ 0 _ rfl
  | some b =>
    have hne {f g : Fld} (h : f.lo ≠ g.lo ∧ f.lo < 32 ∧ g.lo < 32) : f.key b 0 ≠ g.key b 0 :=
      Fld.key_ne_of_lo h.1 h.2.1 h.2.2 (by decide) (by decide)
    dsimp only
    rw [Dev.bindEnd_bay, Dev.on, Dev.raiseInt_bindStatus _ (by decide), Dev.get_set_ne _ _ _ _ _ _ _ _ (hne (by decide)),
      Dev.get_set_ne _ _ _ _ _ _ _ _ (hne (by decide)), if_pos (show targetNum (some b) < 256 from b.isLt)]
    exact hon d _ b _ rfl

/-- BIND_QUERY does no more than write its status register and report. -/
theorem bindQuery_reported (d : Dev) (target : Option (Fin 256)) (pid : Nat) :
    Dev.Reported (bindKey target) d (bindQuery (targetNum target) pid d) := by
  refine Dev.Reported.trans ?_ (Dev.bindEnd_reported _ target .ok)
  cases target with
  | none => exact (Dev.Reported.refl d).set R.NF_MGR_BIND_STATUS_BOUND _ 0 0 (.inr (.inr (.inr (.inr rfl))))
  | some b =>
    rw [if_pos (show targetNum (some b) < 256 from b.isLt)]
    exact (Dev.Reported.refl d).set R.BY_BIND_STATUS_BOUND _ b 0 (.inr (.inr (.inr (.inr rfl))))

/-- Settles O41: each row of the table changes the binding table or leaves it, and then shows its status. -/
theorem bindingCommandsFollowTheirTable : Obligations.BindingCommandsFollowTheirTable := by
  intro s target pid
  have hkept (st : Status) := s.dev.bindEnd_of_table s.dev.sched.bindings target st
  refine ⟨completes_after rfl ⟨rfl, ?bind⟩, completes_after rfl ⟨rfl, ?unbind⟩, completes_after rfl ⟨rfl, ?query⟩⟩
  case bind =>
    cases hwas : s.dev.bound pid.toNat with
    | some t =>
      rw [bind_bound hwas]
      obtain ⟨hshown, hbound, honly⟩ := hkept (if t = targetNum target then .ok else .pidBound)
      exact ⟨hshown, fun q => (hbound q).trans (by simp [Dev.bound]), honly⟩
    | none =>
      rw [bind_unbound hwas]
      by_cases hroom : s.dev.sched.bindings.length < 4096
      · obtain ⟨hshown, hbound, honly⟩ := s.dev.bindEnd_of_table
          (Tab.put s.dev.sched.bindings pid.toNat (targetNum target)) target .ok
        rw [if_pos hroom]
        refine ⟨by simpa only [if_pos hroom] using hshown, fun q => (hbound q).trans ?_, honly⟩
        simp [Dev.bound, hroom, eq_comm]
      · obtain ⟨hshown, hbound, honly⟩ := hkept .bindFull
        rw [if_neg hroom]
        exact ⟨by simpa only [if_neg hroom] using hshown, fun q => (hbound q).trans (by simp [Dev.bound, hroom]), honly⟩
  case unbind =>
    cases hwas : s.dev.bound pid.toNat with
    | none =>
      rw [unbind_unbound hwas]
      obtain ⟨hshown, hbound, honly⟩ := hkept .pidUnbound
      exact ⟨hshown, fun q => (hbound q).trans (by simp [Dev.bound]), honly⟩
    | some t =>
      rw [unbind_bound hwas]
      by_cases hown : t = targetNum target
      · obtain ⟨hshown, hbound, honly⟩ := s.dev.bindEnd_of_table (Tab.del s.dev.sched.bindings pid.toNat) target .ok
        rw [if_pos hown]
        refine ⟨by simpa only [if_pos hown] using hshown, fun q => (hbound q).trans ?_, honly⟩
        simp [Dev.bound, hown, eq_comm]
      · obtain ⟨hshown, hbound, honly⟩ := hkept .pidBound
        rw [if_neg hown]
        exact ⟨by simpa only [if_neg hown] using hshown, fun q => (hbound q).trans (by simp [Dev.bound, hown]), honly⟩
  case query =>
    have hrep := bindQuery_reported s.dev target pid.toNat
    refine ⟨Dev.bindEnd_shown _ _ _, bindQuery_bound s.dev target pid.toNat, hrep.work.sched, ?_⟩
    rw [Dev.onlyBinds_iff, hrep.work.sched]
    exact hrep

/-! ## Pinned groups (R88) -/

/-- The last enabled group that holds a version some bay pins. -/
theorem Dev.lastPinned_of_pin {d : Dev} {g b : Nat} {i : Image} (hon : d.on R.SC_GROUP_DISPATCH_EN 0 g = true)
    (himage : Tab.look d.sched.progs g = some i) (hb : b < 256) (hpin : d.pins b i.version = true)
    (hothers : ∀ h < 16, h ≠ g → d.on R.SC_GROUP_DISPATCH_EN 0 h = true → d.groupVersion h ≠ some i.version) :
    d.lastPinned g = true := by
  have hversion : d.groupVersion g = some i.version := by rw [Dev.groupVersion, himage]; rfl
  have hpinned : (List.range 256).any (fun b => d.pins b i.version) = true :=
    List.any_eq_true.mpr ⟨b, List.mem_range.mpr hb, hpin⟩
  have halone : (List.range 16).any (fun h => h != g && d.on R.SC_GROUP_DISPATCH_EN 0 h &&
      d.groupVersion h == some i.version) = false := by
    rw [List.any_eq_false]
    intro h hh
    have := hothers h (List.mem_range.mp hh)
    simp only [Bool.and_eq_true, bne_iff_ne, beq_iff_eq]
    exact fun ⟨⟨hne, hen⟩, hsame⟩ => this hne hen hsame
  rw [Dev.lastPinned, hversion]
  dsimp only
  rw [hon, hpinned, halone]
  rfl

/-- Settles O18: the write is refused, and a refusal leaves SC_GROUP. -/
theorem pinnedGroupsStayEnabled : Obligations.PinnedGroupsStayEnabled := by
  intro s req g v i b hv hon himage hb hpin hothers
  have hwrite : groupDispatchWrite req g v.toNat s.dev = s.dev.err .sc 0 req .policyDenied := by
    unfold groupDispatchWrite bitOf
    rw [if_neg (by simp [hv]), if_neg (by simp [hon]), if_pos (Dev.lastPinned_of_pin hon himage hb hpin hothers)]
  refine completes_after rfl ⟨rfl, ?_⟩
  rw [hwrite]
  have hrep := s.dev.err_reported .sc 0 req .policyDenied
  refine ⟨?_, s.dev.err_code req .policyDenied (Blk.apart_zero (by decide)), hrep⟩
  rw [Dev.on, hrep.get _ _ _ (groupKey_apart (by decide) g).1 (reportKey_false _ _ _ (by decide) (by decide)
    (by decide) (by decide) (by omega))]
  exact hon

end Sys2Proof.Machine

namespace Sys2Proof.Machine

/-! # Admission (R51 to R57, R72, R351, R361, R366, R367) -/

/-! ## Counting (R339, R542) -/

/-- Between two states events have been counted: only the accumulators of the counters and register fields of a set have
changed. -/
def Dev.Counts (own : Nat → Prop) (d e : Dev) : Prop :=
  ∃ (t : Tab Nat) (l : List Occ), (∀ key, ¬ own key → Tab.look t key = Tab.look d.regs.vals key) ∧
    e = { d with regs := { d.regs with vals := t }, log := { d.log with acc := l } }

section
variable {own : Nat → Prop} {a b c : Dev}

theorem Dev.Counts.refl (d : Dev) : Dev.Counts own d d := ⟨_, _, fun _ _ => rfl, rfl⟩

theorem Dev.Counts.trans (h : Dev.Counts own a b) (g : Dev.Counts own b c) : Dev.Counts own a c := by
  obtain ⟨t, l, ht, rfl⟩ := h
  obtain ⟨u, m, hu, rfl⟩ := g
  exact ⟨u, m, fun key hk => (hu key hk).trans (ht key hk), rfl⟩

theorem Dev.Counts.mono {more : Nat → Prop} (h : Dev.Counts own a b) (hm : ∀ key, own key → more key) :
    Dev.Counts more a b := by
  obtain ⟨t, l, ht, rfl⟩ := h
  exact ⟨t, l, fun key hk => ht key (fun ho => hk (hm key ho)), rfl⟩

theorem Dev.Counts.occur (h : Dev.Counts own a b) (code : Nat) (bay : Option Nat) (q w : Nat) :
    Dev.Counts own a (b.occur code bay q w) := by
  unfold Dev.occur
  split
  · exact h
  · exact h.trans ⟨_, _, fun _ _ => rfl, rfl⟩

theorem Dev.Counts.holds (h : Dev.Counts own a b) (code : Nat) (bay : Option Nat) (q : Nat) :
    Dev.Counts own a (b.holds code bay q) := by
  unfold Dev.holds
  split
  · exact h
  · exact h.trans ⟨_, _, fun _ _ => rfl, rfl⟩

theorem Dev.Counts.set (h : Dev.Counts own a b) (f : Fld) (v i k : Nat) (hf : own (f.key i k)) :
    Dev.Counts own a (b.set f v i k) :=
  h.trans ⟨_, _, fun _ hk => Dev.look_set b f v i k _ (fun e => hk (e ▸ hf)), rfl⟩

theorem Dev.Counts.countBay (h : Dev.Counts own a b) (bay k n : Nat) (hf : own (R.BY_CNT.key bay k)) :
    Dev.Counts own a (b.countBay bay k n) := by
  unfold Dev.countBay
  split
  · exact h
  · exact h.set R.BY_CNT _ bay k hf

theorem Dev.Counts.ite (p : Prop) [Decidable p] (h : Dev.Counts own a b) (g : Dev.Counts own a c) :
    Dev.Counts own a (if p then b else c) := by split <;> assumption

/-- A counted event, on its own. -/
theorem Dev.occur_counts (d : Dev) (code : Nat) (bay : Option Nat) (q w : Nat) : Dev.Counts own d (d.occur code bay q w) :=
  (Dev.Counts.refl d).occur code bay q w

/-- A field outside the set keeps its value. -/
theorem Dev.Counts.get (h : Dev.Counts own a b) {f : Fld} {i k : Nat} (hf : ¬ own (f.key i k)) :
    b.get f i k = a.get f i k := by
  obtain ⟨t, l, ht, rfl⟩ := h
  exact Dev.get_congr (ht _ hf)

theorem Dev.Counts.work (h : Dev.Counts own a b) : a.SameWork b := by
  obtain ⟨t, l, ht, rfl⟩ := h
  exact ⟨rfl, rfl, rfl, rfl, rfl, rfl, rfl, rfl, rfl, rfl, rfl, rfl, rfl⟩

theorem Dev.Counts.face (h : Dev.Counts own a b) : b.face = a.face := by
  obtain ⟨t, l, ht, rfl⟩ := h; rfl

theorem Dev.Counts.outbox (h : Dev.Counts own a b) : b.outbox = a.outbox := by
  obtain ⟨t, l, ht, rfl⟩ := h; rfl

end

/-! ## Interrupts and messages (R528 to R530) -/

/-- Between two states vectors have been marked or their messages sent: only IC_MSGS among the register fields, the held
markings and what is sent have changed. -/
def Dev.Signals (d e : Dev) : Prop :=
  ∃ (t : Tab Nat) (l : List Nat) (o : List Output),
    (∀ key, key ≠ R.IC_MSGS.key 0 0 → Tab.look t key = Tab.look d.regs.vals key) ∧
    e = { d with regs := { d.regs with vals := t }, log := { d.log with irqHeld := l }, outbox := d.outbox ++ o }

section
variable {a b c : Dev}

theorem Dev.Signals.refl (d : Dev) : d.Signals d :=
  ⟨d.regs.vals, d.log.irqHeld, [], fun _ _ => rfl, by rw [List.append_nil]⟩

theorem Dev.Signals.trans (h : a.Signals b) (g : b.Signals c) : a.Signals c := by
  obtain ⟨t, l, o, ht, rfl⟩ := h
  obtain ⟨u, m, p, hu, rfl⟩ := g
  exact ⟨u, m, o ++ p, fun key hk => (hu key hk).trans (ht key hk), by rw [← List.append_assoc]⟩

theorem Dev.markIrq_signals (d : Dev) (irq : Nat) : d.Signals (d.markIrq irq) := by
  unfold Dev.markIrq
  dsimp only
  split
  · split
    · exact ⟨_, _, _, fun key hk => Dev.look_set _ _ _ _ _ _ hk.symm, rfl⟩
    · exact ⟨d.regs.vals, _, [], fun _ _ => rfl, by rw [List.append_nil]⟩
  · exact .refl d

theorem Dev.markRisen_signals (before d : Dev) (l : List Nat) : d.Signals (Dev.markRisen before d l) := by
  unfold Dev.markRisen
  induction l generalizing d with
  | nil => exact .refl d
  | cons i l ih =>
    refine Dev.Signals.trans ?_ (ih _)
    dsimp only
    split
    · exact d.markIrq_signals i
    · exact .refl d

theorem Dev.Signals.face (h : a.Signals b) : b.face = a.face := by
  obtain ⟨t, l, o, -, rfl⟩ := h; rfl

theorem Dev.Signals.outbox (h : a.Signals b) : ∃ o, b.outbox = a.outbox ++ o := by
  obtain ⟨t, l, o, -, rfl⟩ := h; exact ⟨o, rfl⟩

end

/-- A raised interrupt bit is written, and its IRQs are marked. -/
theorem Dev.raiseInt_signals (d : Dev) (b : Blk) (i n : Nat) :
    (d.set (R.INT_RAW b) (d.get (R.INT_RAW b) i ||| 2 ^ n) i).Signals (d.raiseInt b i n) := Dev.markRisen_signals _ _ _

/-! ## Delivery (R54, R77, R350, R366) -/

/-- What is not the block's work: the registers, the reporting channels, the faces and what is sent. -/
theorem Dev.SameWork.of_parts (d : Dev) (r : RegFile) (l : Rec) (f : Face) (o : List Output) :
    d.SameWork { d with regs := r, log := l, face := f, outbox := o } :=
  ⟨rfl, rfl, rfl, rfl, rfl, rfl, rfl, rfl, rfl, rfl, rfl, rfl, rfl⟩

theorem Dev.SameWork.set {d e : Dev} (h : d.SameWork e) (f : Fld) (v i k : Nat) : d.SameWork (e.set f v i k) :=
  h.trans (.of_parts _ _ _ _ _)

theorem Dev.SameWork.bumpSat {d e : Dev} (h : d.SameWork e) (f : Fld) (i k n : Nat) : d.SameWork (e.bumpSat f i k n) :=
  h.trans (.of_parts _ _ _ _ _)

theorem Dev.SameWork.send {d e : Dev} (h : d.SameWork e) (o : Output) : d.SameWork (e.send o) :=
  h.trans (.of_parts _ _ _ _ _)

theorem Dev.SameWork.occur {d e : Dev} (h : d.SameWork e) (code : Nat) (bay : Option Nat) (q w : Nat) :
    d.SameWork (e.occur code bay q w) := h.trans (Dev.occur_counts (own := fun _ => False) e code bay q w).work

theorem Dev.SameWork.countBay {d e : Dev} (h : d.SameWork e) (bay k n : Nat) : d.SameWork (e.countBay bay k n) :=
  h.trans ((Dev.Counts.refl (own := fun _ => True) e).countBay bay k n trivial).work

theorem Dev.SameWork.raiseInt {d e : Dev} (h : d.SameWork e) (b : Blk) (i n : Nat) : d.SameWork (e.raiseInt b i n) :=
  h.trans ((Dev.Reported.refl (own := fun _ => True) e).raiseInt b i n (.inr trivial)).work

theorem Dev.SameWork.blockEvent {d e : Dev} (h : d.SameWork e) (b : Blk) (i n : Nat) : d.SameWork (e.blockEvent b i n) :=
  h.trans (e.blockEvent_reported b i n).work

theorem Dev.SameWork.setHostRing {d e : Dev} (h : d.SameWork e) (o r : Nat) (x : HostRing) :
    d.SameWork (e.setHostRing o r x) := h.trans (.of_parts _ _ _ _ _)

theorem Dev.SameWork.ite {d a b : Dev} (p : Prop) [Decidable p] (h : d.SameWork a) (g : d.SameWork b) :
    d.SameWork (if p then a else b) := by split <;> assumption

theorem Dev.SameWork.ringComplete {d e : Dev} (h : d.SameWork e) (owner ring epoch reqId : Nat) (st : Status) (n : Nat)
    (iv : Bytes) : d.SameWork (e.ringComplete owner ring epoch reqId st n iv) := by
  unfold Dev.ringComplete Dev.raiseCompletion
  dsimp only
  have hentry := ((h.send (.ringEntry owner ring (e.get R.HQ_STATUS_CPL_TAIL owner ring) reqId st
    (e.get R.HQ_STATUS_PHASE owner ring) n iv)).set R.HQ_STATUS_CPL_TAIL
    ((e.get R.HQ_STATUS_CPL_TAIL owner ring + 1) % 2 ^ e.get R.HQ_CFG_LOG2_SIZE owner ring) owner ring)
  have hrunning := (Dev.SameWork.ite (e.get R.HQ_STATUS_CPL_TAIL owner ring + 1 = 2 ^ e.get R.HQ_CFG_LOG2_SIZE owner ring)
    (hentry.set R.HQ_STATUS_PHASE (1 - e.get R.HQ_STATUS_PHASE owner ring) owner ring) hentry).set R.HQ_STATUS_RUNNING
    (b2n (e.on R.HQ_CFG_EN owner ring || (e.hostRing owner ring).inflight - 1 ≠ 0)) owner ring
  exact .ite _ (h.bumpSat _ _ _ _) (.ite _ (.ite _ ((hrunning.setHostRing _ _ _).raiseInt _ _ _)
    ((hrunning.setHostRing _ _ _).raiseInt _ _ _)) (hrunning.setHostRing _ _ _))

/-- A delivery leaves the block's work. -/
theorem Dev.SameWork.deliver {d e : Dev} (h : d.SameWork e) (via : Via) (reqId : Nat) (st : Status) (out : List Tlv) :
    d.SameWork (e.deliver via reqId st out) := by
  unfold Dev.deliver
  cases via with
  | session id src =>
    dsimp only
    split
    case h_1 => exact h.bumpSat _ _ _ _
    case h_2 c hc =>
      have hend : d.SameWork (e.endSession id) := by
        rw [Dev.endSession, hc]
        exact (h.trans (.of_parts e e.regs e.log _ e.outbox)).blockEvent _ _ _
      exact .ite _ (hend.bumpSat _ _ _ _) (((h.trans (.of_parts e e.regs e.log _ e.outbox)).bumpSat _ _ _ _).send _)
  | ring owner ring epoch outAddr outLen =>
    exact .ite _ (h.ringComplete _ _ _ _ _ _ _) (.ite _ (h.ringComplete _ _ _ _ _ _ _)
      ((h.send _).ringComplete _ _ _ _ _ _ _))

/-- A response to a live session whose numbers are not used up: it is numbered, counted and sent. -/
theorem Dev.deliver_live {d : Dev} {id : Nat} {src : Client} {c : Session} {st : Status} {out : List Tlv} (reqId : Nat)
    (hs : Tab.look d.face.sessions id = some c) {n : Nat}
    (hn : n = max 1 (((encodeTlvs (if st = .ok then out else [])).length + 8943) / 8944)) (hsent : c.sent + n < 2 ^ 64) :
    d.deliver (.session id src) reqId st out = ((d.nextFrame id c n).countTx src n).send
      (.response src id (c.sent + 1) reqId st (if st = .ok then out else [])) := by
  subst hn
  unfold Dev.deliver
  dsimp only
  rw [hs]
  exact if_neg (Nat.not_le.mpr hsent)

/-- A response without output takes one frame. -/
theorem Dev.deliver_empty {d : Dev} {id : Nat} {src : Client} {c : Session} (st : Status) (reqId : Nat)
    (hs : Tab.look d.face.sessions id = some c) (hsent : c.sent + 1 < 2 ^ 64) :
    d.deliver (.session id src) reqId st [] = ((d.nextFrame id c 1).countTx src 1).send
      (.response src id (c.sent + 1) reqId st []) := by
  have hout : (if st = .ok then ([] : List Tlv) else []) = [] := ite_self _
  rw [Dev.deliver_live reqId hs (n := 1) (by rw [hout]; rfl) hsent, hout]

/-! ## The queue entry of a request (R51, R53, R57) -/

/-- The request that a face admits. -/
def Dev.admitted (d : Dev) (via : Via) (bay reqId func deadline : Nat) (tlvs : List Tlv) : Request :=
  ⟨via, reqId, bay, d.get R.BY_GEN_GEN bay, func, tlvs,
    d.sched.time + 64 * (if deadline = 0 then d.get R.BY_DEADLINE bay else deadline), d.freeEntry bay,
    d.entryGen bay (d.freeEntry bay)⟩

/-- An entry is free: there are more numbers than entries in use. -/
theorem Dev.freeEntry_unused (d : Dev) (bay : Nat) : d.freeEntry bay ∉ d.entriesUsed bay := by
  unfold Dev.freeEntry
  dsimp only
  cases hfind : (List.range ((d.entriesUsed bay).length + 1)).find? (fun e => !(d.entriesUsed bay).contains e) with
  | some e =>
    have hfree := List.find?_some hfind
    simpa [List.contains_iff_mem] using hfree
  | none =>
    have hall : List.range ((d.entriesUsed bay).length + 1) ⊆ d.entriesUsed bay := fun e he => by
      simpa [List.contains_iff_mem] using List.find?_eq_none.mp hfind e he
    have hlen := (List.subperm_of_subset List.nodup_range hall).length_le
    rw [List.length_range] at hlen
    omega

@[simp] theorem Dev.queue_setQueue (d : Dev) (bay b : Nat) (q : List Request) :
    (d.setQueue bay q).queue b = if bay = b then q else d.queue b := Tab.get_set _ _ _ _ _

/-- What an admission leaves: the request stands at the end of its bay's queue, and is counted. -/
theorem Dev.enqueue_counts (d : Dev) (via : Via) (bay reqId func deadline : Nat) (tlvs : List Tlv) (host : Bool) :
    Dev.Counts (fun key => key = R.BY_CNT.key bay 4)
      (d.setQueue bay (d.queue bay ++ [d.admitted via bay reqId func deadline tlvs]))
      (d.enqueue via bay reqId func deadline tlvs host) :=
  (Dev.Counts.countBay (own := fun key => key = R.BY_CNT.key bay 4) (Dev.Counts.refl _) bay 4 1 rfl).occur _ _ _ _

/-- A request that passes its checks and finds room is admitted. -/
theorem Dev.admitRequest_admits {d : Dev} {lc lvl bay func deadline : Nat} {l : List Tlv} (via : Via) (reqId : Nat)
    (host : Bool) (hfault : d.admitFault lc lvl bay func deadline (some l) = none) (hroom : d.queueRoom bay = true) :
    d.admitRequest lc lvl via bay reqId func deadline (some l) host = d.enqueue via bay reqId func deadline l host := by
  unfold Dev.admitRequest
  rw [hfault]
  exact if_pos hroom

/-- What a refusal of a request of a live session leaves: its answer is sent, and the work stays. -/
theorem Dev.refuse_answers {d e : Dev} {id : Nat} {c : Session} (src : Client) (bay reqId : Nat) (host : Bool) (st : Status)
    (hwork : d.SameWork e) (hs : Tab.look e.face.sessions id = some c) (hsent : c.sent + 1 < 2 ^ 64) :
    d.SameWork (e.refuse (.session id src) bay reqId host st) ∧
      (e.refuse (.session id src) bay reqId host st).face.partials = e.face.partials ∧
      .response src id (c.sent + 1) reqId st [] ∈ (e.refuse (.session id src) bay reqId host st).outbox := by
  have hcounted : Dev.Counts (fun _ => True) e ((e.countBay bay 5).occur 0x011 (some bay) (b2n host)) :=
    ((Dev.Counts.refl e).countBay bay 5 1 trivial).occur _ _ _ _
  have hlive : Tab.look ((e.countBay bay 5).occur 0x011 (some bay) (b2n host)).face.sessions id = some c := by
    rw [hcounted.face]; exact hs
  refine ⟨((hwork.countBay _ _ _).occur _ _ _ _).deliver _ _ _ _, ?_⟩
  rw [Dev.refuse, Dev.deliver_empty st reqId hlive hsent]
  exact ⟨by rw [Dev.send_face, Dev.countTx, Dev.bumpSat_face, Dev.nextFrame, hcounted.face], by simp [Dev.send]⟩

/-! ## Requests of sessions (R351, R361) -/

theorem completes_requestFragment {s : State} {h : FrameHdr} {f : ReqFrag} {P : Perm → Dev → Prop}
    (hp : P s.perm (requestFragment s.perm.lcState (s.dev.workLevel s.perm.level) h f s.dev)) :
    Completes (.requestFragment h f) s P := ⟨_, rfl, rfl, hp⟩

/-- A request of one fragment is whole. -/
theorem requestFragment_whole {lc lvl : Nat} {h : FrameHdr} {f : ReqFrag} {d : Dev} {c : Session}
    (hs : Tab.look d.face.sessions h.session = some c)
    (hnew : (d.partials h.session).find? (fun q => q.reqId == f.reqId) = none) (hok : f.ok = true) (hone : f.fragCount = 1) :
    requestFragment lc lvl h f d = d.sessionRequest lc lvl h c h.pid f f.data := by
  rw [requestFragment, hs]
  dsimp only
  rw [hnew]
  dsimp only
  rw [if_neg (by simp [hok]), if_pos hone]

/-- The first of several fragments is kept. -/
theorem requestFragment_first {lc lvl : Nat} {h : FrameHdr} {f : ReqFrag} {d : Dev} {c : Session}
    (hs : Tab.look d.face.sessions h.session = some c)
    (hnew : (d.partials h.session).find? (fun q => q.reqId == f.reqId) = none) (hok : f.ok = true) (hmany : 1 < f.fragCount)
    (hroom : ((d.partials h.session).filter (fun q => !q.ended)).length < 64) :
    requestFragment lc lvl h f d = d.setPartials h.session (d.partials h.session ++
      [⟨f.reqId, f.func, f.fragCount, f.deadline, f.tlvLen, h.pid, [(f.frag, f.data)], false⟩]) := by
  rw [requestFragment, hs]
  dsimp only
  rw [hnew]
  dsimp only
  rw [if_neg (by simp [hok]), if_neg (by omega), if_neg (by omega)]

/-- A whole request of a session whose identifier is bound to its bay goes on to admission. -/
theorem Dev.sessionRequest_bound {d : Dev} {lc lvl : Nat} {h : FrameHdr} {f : ReqFrag} {c : Session} (hpid : h.pid = c.pid)
    (hbound : d.bound c.pid = some c.target) (hbay : c.target < 256) (hok : f.ok = true) (hlen : f.data.length = f.tlvLen) :
    d.sessionRequest lc lvl h c h.pid f f.data = d.admitRequest lc lvl (.session h.session h.src) c.target f.reqId f.func
      f.deadline (parseTlvs (f.data.length + 1) f.data) false := by
  have hmax : f.tlvLen ≤ 61440 := by
    unfold ReqFrag.ok at hok
    simp only [Bool.and_eq_true, decide_eq_true_eq] at hok
    exact hok.2
  rw [Dev.sessionRequest, if_neg (by simp [hpid]), if_neg (by simp [hbound]), if_neg (by omega), if_neg (by omega)]

theorem Dev.partials_setPartials (d : Dev) (id : Nat) (l : List Partial) : (d.setPartials id l).partials id = l := by
  rw [Dev.partials, Dev.setPartials, Tab.get_set, if_pos rfl]

/-- A request that is refused by a check, or that finds no room, is answered with the status. -/
theorem Dev.admitRequest_refuses {d : Dev} {lc lvl bay reqId func deadline id : Nat} {src : Client} {tlvs : Option (List Tlv)}
    {host : Bool} {st : Status} {c : Session} (hs : Tab.look d.face.sessions id = some c) (hsent : c.sent + 1 < 2 ^ 64)
    (hwhy : d.admitFault lc lvl bay func deadline tlvs = some st ∨
      d.admitFault lc lvl bay func deadline tlvs = none ∧ d.queueRoom bay = false ∧ st = .queueFull) :
    let e := d.admitRequest lc lvl (.session id src) bay reqId func deadline tlvs host
    d.SameWork e ∧ .response src id (c.sent + 1) reqId st [] ∈ e.outbox := by
  have hrefuse (e : Dev) (t : Status) (hwork : d.SameWork e) (hse : Tab.look e.face.sessions id = some c) :
      d.SameWork (e.refuse (.session id src) bay reqId host t) ∧
        .response src id (c.sent + 1) reqId t [] ∈ (e.refuse (.session id src) bay reqId host t).outbox := by
    obtain ⟨hw, -, hsend⟩ := Dev.refuse_answers src bay reqId host t hwork hse hsent
    exact ⟨hw, hsend⟩
  unfold Dev.admitRequest
  obtain hfault | ⟨hnone, hroom, rfl⟩ := hwhy
  · rw [hfault]
    exact hrefuse d st (.refl d) hs
  · rw [hnone]
    cases tlvs with
    | none =>
      unfold Dev.admitFault at hnone
      split at hnone <;> exact absurd hnone (by simp)
    | some l =>
      dsimp only
      rw [if_neg (by simp [hroom])]
      refine hrefuse _ _ ((Dev.SameWork.refl d).raiseInt _ _ _) ?_
      rw [(Dev.raiseInt_signals _ _ _ _).face]; exact hs

/-! ## Descriptors of ring pairs (R366, R367) -/

/-- A field of a ring's page and one of a BY page stand at different places. -/
theorem ringKey_ne_by {f g : Fld} (h : f.blk = .hq ∧ f.off < 0x1000 ∧ f.lo < 32)
    (hg : g.blk = .by ∧ g.off < 0x1000 ∧ g.lo < 32)
    {o b k l : Nat} (hb : b < 256) (hk : k < 0x1000) (hl : l < 0x1000) : f.key o k ≠ g.key b l := by
  obtain ⟨hblk, hoff, hlo⟩ := h
  obtain ⟨hblk', hoff', hlo'⟩ := hg
  intro he
  have hpage := f.key_page o k hoff hlo hk
  rw [he, g.key_page b l hoff' hlo' hl, hblk, hblk'] at hpage
  simp only [Blk.page, Blk.basePage, Blk.stride] at hpage
  omega

/-- A field of a ring's page is no field of the EV and IC pages. -/
theorem ringKey_mark {f : Fld} (h : f.blk = .hq ∧ f.off < 0x1000 ∧ f.lo < 32) (o : Nat) {k : Nat} (hk : k < 0x1000) :
    ¬ markKey (f.key o k) := by
  obtain ⟨hblk, hoff, hlo⟩ := h
  refine markKey_false f o k ?_ ?_ hoff hlo hk <;> rw [hblk] <;> simp only [Blk.page, Blk.basePage, Blk.stride] <;> omega

theorem completes_descriptorFetch {s : State} {o : Fin 257} {ring : Fin 4} {x : HostDesc} {P : Perm → Dev → Prop}
    (hp : P s.perm (descriptorFetch s.perm.lcState (s.dev.workLevel s.perm.level) o ring x s.dev)) :
    Completes (.descriptorFetch o ring x) s P := ⟨_, rfl, rfl, hp⟩

/-- Taking a descriptor writes HQ_HEAD and the ring's host-face state, and counts. -/
theorem Dev.fetched_counts (d : Dev) (owner ring : Nat) : Dev.Counts (fun _ => False)
    ((d.set R.HQ_HEAD ((d.get R.HQ_HEAD owner ring + 1) % 2 ^ d.get R.HQ_CFG_LOG2_SIZE owner ring) owner ring).setHostRing
      owner ring { d.hostRing owner ring with inflight := (d.hostRing owner ring).inflight + 1 })
    (d.fetched owner ring) := Dev.occur_counts _ _ _ _ _

theorem Dev.hostRing_setHostRing (d : Dev) (o r : Nat) (x : HostRing) : (d.setHostRing o r x).hostRing o r = x := by
  rw [Dev.hostRing, Dev.setHostRing, Tab.get_set, if_pos rfl]

theorem Dev.fetched_work (d : Dev) (owner ring : Nat) : d.SameWork (d.fetched owner ring) :=
  (((Dev.SameWork.refl d).set _ _ _ _).setHostRing _ _ _).occur _ _ _ _

/-- Taking a descriptor leaves the fields of the BY pages and the values in effect. -/
theorem Dev.fetched_get (d : Dev) {f : Fld} (hf : f.blk = .by ∧ f.off < 0x1000 ∧ f.lo < 32) (owner : Nat) (ring : Fin 4)
    {b : Nat} (hb : b < 256) : (d.fetched owner ring).get f b = d.get f b := by
  rw [(d.fetched_counts owner ring).get (fun x => x)]
  exact Dev.get_set_ne _ _ _ _ _ _ _ _ (ringKey_ne_by (by decide) hf hb (by omega) (by decide))

theorem Dev.fetched_eff (d : Dev) (owner ring : Nat) : (d.fetched owner ring).regs.eff = d.regs.eff := by
  obtain ⟨t, l, -, he⟩ := d.fetched_counts owner ring
  rw [he]; rfl

/-- Entries and queues are the scheduler's. -/
theorem Dev.SameWork.queue {d e : Dev} (h : d.SameWork e) (b : Nat) : e.queue b = d.queue b := by
  rw [Dev.queue, h.sched]; rfl

theorem Dev.SameWork.entriesUsed {d e : Dev} (h : d.SameWork e) (b : Nat) : e.entriesUsed b = d.entriesUsed b := by
  rw [Dev.entriesUsed, h.queue, h.sched]; rfl

/-- Work that stays but for the queues. -/
theorem Dev.SameWork.queues {d e : Dev} (h : d.SameWork e) (q : Tab (List Request)) :
    ({ d with sched := { d.sched with queues := q } }).SameWork { e with sched := { e.sched with queues := q } } :=
  ⟨by rw [h.sched], h.wires, h.eng, h.keys, h.cards, h.plinth, h.cs, h.life, h.gates, h.pair, h.power, h.hbm, h.free⟩

/-- The checks and the room of a bay are the same after a descriptor has been taken. -/
theorem Dev.fetched_admitFault (d : Dev) (lc lvl : Nat) (o : Fin 256) (ring : Fin 4) (func deadline : Nat)
    (tlvs : Option (List Tlv)) : (d.fetched o ring).admitFault lc lvl o func deadline tlvs =
      d.admitFault lc lvl o func deadline tlvs := by
  unfold Dev.admitFault Dev.bayOpen Dev.on
  rw [d.fetched_get (by decide) o ring o.isLt, d.fetched_get (by decide) o ring o.isLt]

theorem Dev.fetched_queueRoom (d : Dev) (o : Fin 256) (ring : Fin 4) :
    (d.fetched o ring).queueRoom o = d.queueRoom o := by
  unfold Dev.queueRoom Dev.eff
  rw [(d.fetched_work o ring).entriesUsed, d.fetched_eff]

/-- A function descriptor of a ring whose PASID is bound to its bay goes on to admission. -/
theorem descriptorFetch_func {d : Dev} {lc lvl : Nat} {o : Fin 256} {ring : Fin 4}
    (reqId func deadline outAddr outLen : Nat) {tlvs : Bytes} (hfetch : d.mayFetch o ring = true)
    (hkind : d.on R.HQ_CFG_KIND o ring = false) (hide : d.on R.HF_IDE_CTL = false ∨ d.secureStream = true)
    (hbound : d.bound (d.get R.HQ_PASID o ring) = some o.val) (hlen : tlvs.length ≤ 61440) :
    descriptorFetch lc lvl o ring (.func reqId func deadline tlvs.length outAddr outLen true tlvs) d =
      (d.fetched o ring).admitRequest lc lvl (.ring o ring (d.hostRing o ring).epoch outAddr outLen) o reqId func deadline
        (parseTlvs (tlvs.length + 1) tlvs) true := by
  have hide' : (d.on R.HF_IDE_CTL && !d.secureStream) = false := by
    obtain h | h := hide <;> simp [h]
  have ho := o.isLt
  unfold descriptorFetch
  dsimp only
  rw [if_neg (by simp [hfetch, hkind]), if_neg (by simp [hide']), hbound, if_neg (by simp), if_neg (by simp),
    if_neg (by omega), if_neg (by simp; omega)]

/-- A PASID bound elsewhere halts the ring and is recorded. -/
theorem descriptorFetch_elsewhere {d : Dev} {lc lvl o ring t : Nat} {x : HostDesc} (hfetch : d.mayFetch o ring = true)
    (hkind : (match x with | .bulk .. => true | .func .. => false) = d.on R.HQ_CFG_KIND o ring)
    (hide : d.on R.HF_IDE_CTL = false ∨ d.secureStream = true) (hbound : d.bound (d.get R.HQ_PASID o ring) = some t)
    (hne : t ≠ o) : descriptorFetch lc lvl o ring x d = (d.haltRing o ring).ringPasidError o := by
  have hide' : (d.on R.HF_IDE_CTL && !d.secureStream) = false := by
    obtain h | h := hide <;> simp [h]
  unfold descriptorFetch
  cases x with
  | func =>
    dsimp only at hkind ⊢
    rw [if_neg (by simp [hfetch, ← hkind]), if_neg (by simp [hide']), hbound, if_pos (by simp [hne])]
  | bulk =>
    dsimp only at hkind ⊢
    rw [if_neg (by simp [hfetch, ← hkind]), if_neg (by simp [hide']), hbound, if_pos (by simp [hne])]

/-- The record of a PASID that is bound elsewhere reports. -/
theorem Dev.ringPasidError_reported (d : Dev) (owner : Nat) : Dev.Reported reportKey d (d.ringPasidError owner) := by
  unfold Dev.ringPasidError
  split
  · exact Dev.err_reported _ _ _ _ _
  · exact Dev.err_reported _ _ _ _ _

theorem Dev.raiseHalted_reported (d : Dev) (owner : Nat) : Dev.Reported reportKey d (d.raiseHalted owner) := by
  unfold Dev.raiseHalted
  split
  · exact (Dev.Reported.refl d).raiseInt _ _ _ (.inr (reportKey_raw _ _))
  · exact (Dev.Reported.refl d).raiseInt _ _ _ (.inr (reportKey_raw _ _))

/-- Settles O15: a request that passes its checks is appended to its bay's queue, any other is answered, and each face's
part before admission leaves what admission reads. -/
theorem requestsAreAdmittedFromSessionsAndRings : Obligations.RequestsAreAdmittedFromSessionsAndRings := by
  refine ⟨⟨?queued, ?refuse, ?first, ?timeout⟩, ?ring, ?halt, ?idle⟩
  case queued =>
    intro s h f c l hs hpid hbound hbay hnew hok hone hlen hparse hfault hroom
    have hmeaning : requestFragment s.perm.lcState (s.dev.workLevel s.perm.level) h f s.dev =
        s.dev.enqueue (.session h.session h.src) c.target f.reqId f.func f.deadline l false := by
      rw [requestFragment_whole hs hnew hok hone, Dev.sessionRequest_bound hpid hbound hbay hok hlen, hparse,
        Dev.admitRequest_admits _ _ _ hfault hroom]
    refine completes_requestFragment ⟨rfl, ?_⟩
    rw [hmeaning]
    obtain ⟨t, acc, ht, he⟩ := s.dev.enqueue_counts (.session h.session h.src) c.target f.reqId f.func f.deadline l false
    rw [he]
    refine ⟨⟨s.dev.admitted (.session h.session h.src) c.target f.reqId f.func f.deadline l, ?_, rfl, rfl, rfl, rfl, rfl,
      rfl, rfl, rfl, s.dev.freeEntry_unused c.target⟩, fun b hb => ?_, rfl, ht⟩
    · exact (Dev.queue_setQueue _ _ _ _).trans (if_pos rfl)
    · exact (Dev.queue_setQueue _ _ _ _).trans (if_neg hb.symm)
  case refuse =>
    intro s h f c st hs hpid hbound hbay hsent hnew hok hone hlen hwhy _
    refine completes_requestFragment ⟨rfl, ?_⟩
    rw [requestFragment_whole hs hnew hok hone, Dev.sessionRequest_bound hpid hbound hbay hok hlen]
    obtain ⟨hwork, hanswer⟩ := Dev.admitRequest_refuses (reqId := f.reqId) (src := h.src) (host := false) hs hsent hwhy
    exact ⟨hwork.sched, hanswer, hwork⟩
  case first =>
    intro s h f c hs hnew hok hmany hroom
    refine completes_requestFragment ⟨rfl, ?_⟩
    rw [requestFragment_first hs hnew hok hmany hroom]
    exact ⟨rfl, Dev.partials_setPartials _ _ _⟩
  case timeout =>
    intro s h reqId c q hs hq hlive hbay hsent
    have hmeaning : reassemblyTimeout h reqId s.dev = (s.dev.setPartials h.session
        ((s.dev.partials h.session).filter (fun x => x.reqId ≠ reqId))).refuse (.session h.session h.src) c.target reqId
        false .reassembly := by
      rw [reassemblyTimeout, hs, hq]
      dsimp only
      rw [if_neg (by simp [hlive]), Dev.refuseFragments, if_pos hbay]
    refine completes_after rfl ⟨rfl, ?_⟩
    rw [hmeaning]
    obtain ⟨hwork, hpartials, hanswer⟩ := Dev.refuse_answers (e := s.dev.setPartials h.session
      ((s.dev.partials h.session).filter (fun x => x.reqId ≠ reqId))) h.src c.target reqId false .reassembly
      (.of_parts s.dev s.dev.regs s.dev.log _ s.dev.outbox) hs hsent
    exact ⟨hwork, by rw [Dev.partials, hpartials]; exact Dev.partials_setPartials _ _ _, hanswer⟩
  case ring =>
    intro s o ring reqId func deadline tlvLen outAddr outLen tlvs l x hfetch hkind hide hbound hlen hmax hparse hfault hroom
    subst hlen
    have hmeaning : descriptorFetch s.perm.lcState (s.dev.workLevel s.perm.level) o ring x s.dev =
        (s.dev.fetched o ring).enqueue (.ring o ring (s.dev.hostRing o ring).epoch outAddr outLen) o reqId func deadline l
          true := by
      rw [descriptorFetch_func _ _ _ _ _ hfetch hkind hide hbound hmax, hparse, Dev.admitRequest_admits]
      · rw [Dev.fetched_admitFault]; exact hfault
      · rw [Dev.fetched_queueRoom]; exact hroom
    refine completes_descriptorFetch ⟨rfl, ?_⟩
    show _ ∧ _
    rw [hmeaning]
    have hwork := s.dev.fetched_work o ring
    have hcounts := (s.dev.fetched o ring).enqueue_counts (.ring o ring (s.dev.hostRing o ring).epoch outAddr outLen) o reqId
      func deadline l true
    have hqueue (b : Nat) := hcounts.work.queue b
    refine ⟨⟨(s.dev.fetched o ring).admitted (.ring o ring (s.dev.hostRing o ring).epoch outAddr outLen) o reqId func
      deadline l, ?_, rfl, rfl, rfl, rfl, rfl, ?_, ?_⟩, fun b hb => ?_, ?_, ?_, ?_⟩
    · rw [hqueue, Dev.queue_setQueue, if_pos rfl, hwork.queue]
    · exact s.dev.fetched_get (by decide) o ring o.isLt
    · rw [← s.dev.fetched_get (f := R.BY_DEADLINE) (by decide) o ring o.isLt, ← hwork.sched]; rfl
    · rw [hqueue, Dev.queue_setQueue, if_neg hb.symm, hwork.queue]
    · rw [hcounts.get (ringKey_ne_by (by decide) (by decide) o.isLt (by omega) (by decide))]
      exact ((s.dev.fetched_counts o ring).get (fun x => x)).trans (Dev.get_set_self _ _ _ _ _)
    · rw [Dev.hostRing, hcounts.face]
      exact (congrArg (fun y : Face => Tab.get y.rings _ _) (s.dev.fetched_counts o ring).face).trans
        (Dev.hostRing_setHostRing _ _ _ _)
    · rw [hcounts.work.sched]
      exact (hwork.queues _).trans hcounts.work
  case halt =>
    intro s o ring x t hfetch hkind hide hbound hne
    refine completes_descriptorFetch ⟨rfl, ?_⟩
    rw [descriptorFetch_elsewhere hfetch hkind hide hbound hne]
    have hhalted : Dev.Reported reportKey (s.dev.set R.HQ_STATUS_HALTED 1 o ring)
        ((s.dev.haltRing o ring).ringPasidError o) :=
      (Dev.raiseHalted_reported _ _).trans (Dev.ringPasidError_reported _ _)
    refine ⟨?_, ?_, (Dev.SameWork.of_regs rfl).trans hhalted.work, (Dev.SameFace.of_eq (a := s.dev)
      (b := s.dev.set R.HQ_STATUS_HALTED 1 o ring) rfl).trans
      hhalted.face⟩
    · rw [Dev.on, hhalted.get _ _ _ (ringKey_mark (by decide) _ (by omega))
        (reportKey_false _ _ _ (by decide) (by decide) (by decide) (by decide) (by omega)), Dev.get_set_self]
      decide
    · rw [hhalted.get _ _ _ (ringKey_mark (by decide) _ (by omega))
        (reportKey_false _ _ _ (by decide) (by decide) (by decide) (by decide) (by omega))]
      exact Dev.get_set_ne _ _ _ _ _ _ _ _ (Fld.key_ne_of_off _ _ _ _ _ _ (by decide) (by decide) (by decide) (by omega)
        (by decide) (by decide) (by omega))
  case idle =>
    intro s o ring x hfetch
    refine completes_descriptorFetch ⟨rfl, ?_⟩
    exact if_pos (by simp [hfetch])

end Sys2Proof.Machine

namespace Sys2Proof.Machine

/-! # The scheduler cycle and the end of a request (R54, R57, R59, R66, R71 to R77) -/

/-! ## What is sent stays sent -/

/-- What the block has sent has only been added to. -/
def Dev.Sends (d e : Dev) : Prop := d.outbox <+: e.outbox

section
variable {a b c : Dev}

theorem Dev.Sends.refl (d : Dev) : d.Sends d := List.prefix_rfl

theorem Dev.Sends.trans (h : a.Sends b) (g : b.Sends c) : a.Sends c := List.IsPrefix.trans h g

theorem Dev.Sends.mem (h : a.Sends b) {o : Output} (ho : o ∈ a.outbox) : o ∈ b.outbox := List.IsPrefix.mem ho h

theorem Dev.Sends.of_eq (h : b.outbox = a.outbox) : a.Sends b := by rw [Dev.Sends, h]

theorem Dev.Sends.ite (p : Prop) [Decidable p] (h : a.Sends b) (g : a.Sends c) : a.Sends (if p then b else c) := by
  split <;> assumption

theorem Dev.Sends.set (h : a.Sends b) (f : Fld) (v i k : Nat) : a.Sends (b.set f v i k) := h

theorem Dev.Sends.raiseInt (h : a.Sends b) (k : Blk) (i n : Nat) : a.Sends (b.raiseInt k i n) := by
  obtain ⟨o, ho⟩ := (b.raiseInt_signals k i n).outbox
  exact h.trans ⟨o, ho.symm⟩

theorem Dev.Sends.queueItems (h : a.Sends b) (sel : Session → Bool) (x : EvItem) : a.Sends (b.queueItems sel x) :=
  .ite _ h h

theorem Dev.Sends.notifyMark (h : a.Sends b) (m : Mark) (plinth : Bool) : a.Sends (b.notifyMark m plinth) := by
  unfold Dev.notifyMark
  have hraised := Dev.Sends.ite (bitOf (b.get R.EV_NOTIFY) m.island.code) (h.raiseInt .ev 0 2) h
  exact .ite _ (hraised.queueItems _ _) hraised

theorem Dev.Sends.repeatMain (h : a.Sends b) : a.Sends b.repeatMain := by
  unfold Dev.repeatMain
  dsimp only
  split <;> exact h

theorem Dev.Sends.markPlinthNew (h : a.Sends b) (m : Mark) : a.Sends (b.markPlinthNew m) :=
  Dev.Sends.notifyMark (b := { b with log := { b.log with
    plinthMarks := Tab.put b.log.plinthMarks (plinthSlot b.log.plinthNext) { m with seq := b.log.plinthNext }
    plinthNext := b.log.plinthNext + 1 } }) h _ _

theorem Dev.Sends.markPlinth (h : a.Sends b) (m : Mark) : a.Sends (b.markPlinth m) := by
  unfold Dev.markPlinth
  dsimp only
  split
  · exact .ite _ h (h.markPlinthNew m)
  · exact h.markPlinthNew m

theorem Dev.Sends.markMainNew (h : a.Sends b) (m : Mark) : a.Sends (b.markMainNew m) := by
  unfold Dev.markMainNew
  dsimp only
  refine Dev.Sends.notifyMark ?_ _ _
  have hadd : a.Sends { b with log := { b.log with
      markBuf := b.log.markBuf ++ [{ m with seq := b.log.markNext }], markNext := b.log.markNext + 1 } } := h
  have hnear := Dev.Sends.ite (b.log.markNext - b.log.markBase = 62914559)
    ((hadd.set R.EV_STATUS_NEAR_FULL 1 0 0).raiseInt .ev 0 3) hadd
  exact .ite _ ((hnear.set R.EV_STATUS_FULL 1 0 0).raiseInt .ev 0 4) hnear

theorem Dev.Sends.markDiverted (h : a.Sends b) (m : Mark) : a.Sends (b.markDiverted m) := by
  unfold Dev.markDiverted
  refine Dev.Sends.markPlinth ?_ m
  dsimp only
  split
  · exact h
  · exact Dev.Sends.raiseInt (b := { b.bumpSat R.EV_LOST with
      log := { (b.bumpSat R.EV_LOST).log with lostEpisode := true } }) h _ _ _

theorem Dev.Sends.markOnce (h : a.Sends b) (ev : Event) (isl : Island) (u p0 p1 p2 p3 : Nat) :
    a.Sends (b.markOnce ev isl u p0 p1 p2 p3) := by
  unfold Dev.markOnce
  dsimp only
  refine .ite _ (h.markPlinth _) ?_
  split
  · exact .ite _ h.repeatMain (.ite _ (h.markDiverted _) (h.markMainNew _))
  · exact .ite _ (h.markDiverted _) (h.markMainNew _)

theorem Dev.Sends.frameDropped (h : a.Sends b) : a.Sends b.frameDropped := (h.raiseInt _ _ _).markOnce _ _ _ _ _ _ _

theorem Dev.Sends.mark (h : a.Sends b) (ev : Event) (isl : Island) (u p0 p1 p2 p3 : Nat) :
    a.Sends (b.mark ev isl u p0 p1 p2 p3) := by
  unfold Dev.mark
  have honce := h.markOnce ev isl u p0 p1 p2 p3
  exact .ite _ honce (.ite _ honce.frameDropped honce.frameDropped.frameDropped)

theorem Dev.Sends.blockEvent (h : a.Sends b) (k : Blk) (i n : Nat) : a.Sends (b.blockEvent k i n) :=
  .ite _ ((h.raiseInt k i n).mark _ _ _ _ _ _ _) (h.raiseInt k i n)

end

/-! ## The end of a request (R54, R57, R66, R73, R74, R77) -/

theorem Tab.set_single {α : Type} [DecidableEq α] (k : Nat) (y d v : α) :
    Tab.set [(k, y)] k d v = if v = d then [] else [(k, v)] := by
  simp [Tab.set, Tab.put, Tab.del]

theorem Dev.ctx_setCtx (d : Dev) (c k : Nat) (x : Ctx) : (d.setCtx c x).ctx k = if c = k then x else d.ctx k :=
  Tab.get_set _ _ _ _ _

/-- Looking for a drained group reports. -/
theorem Dev.checkDrained_reported (d : Dev) (c : Nat) : Dev.Reported reportKey d (d.checkDrained c) :=
  .ite _ ((Dev.Reported.refl d).blockEvent _ _ _ (.inr (reportKey_raw _ _))) (.refl d)

theorem Dev.checkDrained_sends (d : Dev) (c : Nat) : d.Sends (d.checkDrained c) :=
  .ite _ ((Dev.Sends.refl d).blockEvent _ _ _) (.refl d)

/-- Stopping a context's jobs writes the engines and the context's count of what is outstanding. -/
theorem Dev.stopJobs_shape (d : Dev) (c : Nat) : ∃ (n : Nat) (g : Eng), g.bulkWait = d.eng.bulkWait ∧
    d.stopJobs c = ({ d with eng := g }).setCtx c { d.ctx c with outstanding := n } :=
  ⟨_, _, by rfl, rfl⟩

/-- Letting go of a request stops its jobs, drops its waits and its tokens, and empties the context. -/
theorem Dev.clearCtx_eq (d : Dev) (c : Nat) : ∃ (m : Nat) (t : CtxState), d.clearCtx c =
    Dev.checkDrained (Dev.setCtx { d.stopJobs c with
      keys := { (d.stopJobs c).keys with
        waits := (d.stopJobs c).keys.waits.filter (fun w => w.ctx ≠ c)
        slotWait := (d.stopJobs c).keys.slotWait.filter (· ≠ c)
        fills := (d.stopJobs c).keys.fills.filter (fun f => f.ctx ≠ c) }
      eng := { (d.stopJobs c).eng with tokens := (d.stopJobs c).eng.tokens.filter (fun t => t.ctx ≠ c) } } c
      { Ctx.empty with outstanding := m, state := t }) c := ⟨_, _, rfl⟩

/-- What letting go of a request leaves (R66): of the scheduler all but the context, which holds nothing but its count of
what is outstanding; the bulk records that wait; and the registers but for what a drained group reports. -/
theorem Dev.clearCtx_shape (d : Dev) (c : Nat) : ∃ (n m : Nat) (t : CtxState),
    (d.clearCtx c).sched = { d.sched with
      ctxs := Tab.set (Tab.set d.sched.ctxs c Ctx.empty { d.ctx c with outstanding := n }) c Ctx.empty
        { Ctx.empty with outstanding := m, state := t } } ∧
    (d.clearCtx c).eng.bulkWait = d.eng.bulkWait ∧ d.Sends (d.clearCtx c) ∧
    d.SameRegs (d.clearCtx c) (fun key => markKey key ∨ reportKey key) := by
  obtain ⟨n, g, hg, hstop⟩ := d.stopJobs_shape c
  obtain ⟨m, t, hclear⟩ := d.clearCtx_eq c
  rw [hstop] at hclear
  rw [hclear]
  have hrep (e : Dev) := e.checkDrained_reported c
  refine ⟨n, m, t, (hrep _).work.sched, (congrArg Eng.bulkWait (hrep _).work.eng).trans hg,
    Dev.Sends.trans ?_ (Dev.checkDrained_sends _ c), (hrep _).regs.vals, (hrep _).regs.eff, (hrep _).regs.staged⟩
  exact .of_eq rfl

/-- The end of a request of a live session (R54, R57): its response, its entry's next generation, and counts. -/
theorem Dev.endRequest_live {d : Dev} {r : Request} {id : Nat} {src : Client} {c : Session} {st : Status} {out : List Tlv}
    (owned : Bool) (hvia : r.via = .session id src) (hs : Tab.look d.face.sessions id = some c) {n : Nat}
    (hn : n = max 1 (((encodeTlvs (if st = .ok then out else [])).length + 8943) / 8944)) (hsent : c.sent + n < 2 ^ 64) :
    Dev.Counts (fun key => ∃ k < 8, key = R.BY_CNT.key r.bay k)
      ((((d.nextFrame id c n).countTx src n).send (.response src id (c.sent + 1) r.reqId st
        (if st = .ok then out else []))).retireEntry r.bay r.entry)
      (d.endRequest r owned st out) := by
  have hended : Dev.Counts (fun key => ∃ k < 8, key = R.BY_CNT.key r.bay k) ((d.deliver r.via r.reqId st out).retireEntry r.bay
      r.entry) (d.endRequest r owned st out) :=
    .ite _ (((Dev.Counts.refl _).occur _ _ _ _).countBay _ _ _ ⟨_, by split <;> decide, rfl⟩ |>.occur _ _ _ _)
      ((Dev.Counts.refl _).occur _ _ _ _)
  rwa [hvia, Dev.deliver_live r.reqId hs hn hsent] at hended

/-- The end of a request leaves the work but for its entry's generation. -/
theorem Dev.endRequest_work (d : Dev) (r : Request) (owned : Bool) (st : Status) (out : List Tlv) :
    (d.retireEntry r.bay r.entry).SameWork (d.endRequest r owned st out) := by
  unfold Dev.endRequest
  have hdeliver := (Dev.SameWork.refl d).deliver r.via r.reqId st out
  have hretire : (d.retireEntry r.bay r.entry).SameWork ((d.deliver r.via r.reqId st out).retireEntry r.bay r.entry) := by
    unfold Dev.retireEntry Dev.entryGen
    rw [hdeliver.sched]
    exact ⟨rfl, hdeliver.wires, hdeliver.eng, hdeliver.keys, hdeliver.cards, hdeliver.plinth, hdeliver.cs, hdeliver.life,
      hdeliver.gates, hdeliver.pair, hdeliver.power, hdeliver.hbm, hdeliver.free⟩
  exact .ite _ (((hretire.occur _ _ _ _).countBay _ _ _).occur _ _ _ _) (hretire.occur _ _ _ _)

theorem Dev.entryGen_retireEntry (d : Dev) (bay entry : Nat) :
    (d.retireEntry bay entry).entryGen bay entry = (d.entryGen bay entry + 1) % 256 := by
  rw [Dev.entryGen, Dev.retireEntry, Tab.get_set, if_pos rfl]

/-- A field of a register page that the end of a request in a context leaves (R54, R57, R89, R95). -/
def spared (f : Fld) (i : Nat) : Prop :=
  (f.off ≠ 0x064 ∧ f.off ≠ 0x080 ∧ f.off ≠ 0x058 ∧ f.off ≠ 0x010 ∧ f.off ≠ 0x024 ∧ f.off < 0x1000 ∧ f.lo < 32) ∧
    f.blk.page i ≠ 0x040 ∧ f.blk.page i ≠ 0x042

theorem spared.not_reported {f : Fld} {i : Nat} (h : spared f i) : ¬ (markKey (f.key i 0) ∨ reportKey (f.key i 0)) := by
  obtain ⟨⟨-, -, -, hraw, herr, hoff, hlo⟩, hev, hic⟩ := h
  exact fun ho => ho.elim (markKey_false f i 0 hev hic hoff hlo (by decide))
    (reportKey_false f i 0 hraw herr hoff hlo (by decide))

/-- A response of a live session, its count and its entry leave the fields that are spared. -/
theorem Dev.endRequest_get {d : Dev} {r : Request} {id : Nat} {src : Client} {c : Session} {st : Status} {out : List Tlv}
    (owned : Bool) (hvia : r.via = .session id src) (hs : Tab.look d.face.sessions id = some c) {n : Nat}
    (hn : n = max 1 (((encodeTlvs (if st = .ok then out else [])).length + 8943) / 8944)) (hsent : c.sent + n < 2 ^ 64)
    {f : Fld} {i : Nat} (hf : spared f i) : (d.endRequest r owned st out).get f i = d.get f i := by
  obtain ⟨⟨htx, hcnt, -, -, -, hoff, hlo⟩, -⟩ := hf
  rw [(Dev.endRequest_live owned hvia hs hn hsent).get]
  · exact Dev.get_set_ne _ _ _ _ _ _ _ _ (Fld.key_ne_of_off _ _ _ _ _ _ htx.symm (by decide) (by decide) (by decide) hoff
      hlo (by decide))
  · rintro ⟨k, hk, he⟩
    exact Fld.key_ne_of_off _ _ _ _ _ _ hcnt hoff hlo (by decide) (by decide) (by decide) (by omega) he

/-- Ending a request in a context before the context lets go of it: the request's end, CB_RETIRED, and CTX_FAULT. -/
def Dev.retired (d : Dev) (c : Nat) (r : Request) (owned : Bool) (st : Status) (out : List Tlv) : Dev :=
  let e := (d.endRequest r owned st out).bumpWrap R.CB_RETIRED (c / 8)
  if st = .engineFault ∨ st = .xingTimeout then e.raiseInt .cb (c / 8) 2 else e

theorem Dev.retired_reported (d : Dev) (c : Nat) (r : Request) (owned : Bool) (st : Status) (out : List Tlv) :
    Dev.Reported (fun key => reportKey key ∨ key = R.CB_RETIRED.key (c / 8) 0) (d.endRequest r owned st out)
      (d.retired c r owned st out) := by
  have hbump := (Dev.Reported.refl (own := fun key => reportKey key ∨ key = R.CB_RETIRED.key (c / 8) 0)
    (d.endRequest r owned st out)).bumpWrap R.CB_RETIRED (c / 8) 0 1 (.inr (.inr rfl))
  exact .ite _ (hbump.raiseInt _ _ _ (.inr (.inl (reportKey_raw _ _)))) hbump

theorem Dev.retired_sends (d : Dev) (c : Nat) (r : Request) (owned : Bool) (st : Status) (out : List Tlv) :
    (d.endRequest r owned st out).Sends (d.retired c r owned st out) := by
  have hbump := (Dev.Sends.refl (d.endRequest r owned st out)).set R.CB_RETIRED
    ((d.endRequest r owned st out).get R.CB_RETIRED (c / 8) + 1) (c / 8) 0
  exact .ite _ (hbump.raiseInt _ _ _) hbump

/-- A context that holds the request lets go of it. -/
theorem Dev.endCtx_held {d : Dev} {c : Nat} {r : Request} (owned : Bool) (st : Status) (out : List Tlv)
    (hreq : (d.ctx c).req = some r) : d.endCtx c r owned st out = (d.retired c r owned st out).clearCtx c := by
  have hctxs : (d.retired c r owned st out).sched.ctxs = d.sched.ctxs := by
    rw [(d.retired_reported c r owned st out).work.sched, (d.endRequest_work r owned st out).sched]; rfl
  have hheld : ((d.retired c r owned st out).ctx c).req = some r := by rw [Dev.ctx, hctxs]; exact hreq
  exact if_pos hheld

/-- The end of the request of a context for a live session: the context is let go, the answer sent, the entry's generation
raised, and the spared fields stay. -/
structure Dev.EndsLive (d e : Dev) (c : Nat) (r : Request) (answer : Output) : Prop where
  ctxs : ∃ (n m : Nat) (t : CtxState), e.sched = { (d.retireEntry r.bay r.entry).sched with
    ctxs := Tab.set (Tab.set d.sched.ctxs c Ctx.empty { d.ctx c with outstanding := n }) c Ctx.empty
      { Ctx.empty with outstanding := m, state := t } }
  bulk : e.eng.bulkWait = d.eng.bulkWait
  sent : answer ∈ e.outbox
  regs : ∀ f i, spared f i → e.get f i = d.get f i

theorem Dev.endCtx_live {d : Dev} {k : Nat} {r : Request} {id : Nat} {src : Client} {c : Session} {st : Status}
    {out : List Tlv} (owned : Bool) (hvia : r.via = .session id src) (hs : Tab.look d.face.sessions id = some c) {n : Nat}
    (hn : n = max 1 (((encodeTlvs (if st = .ok then out else [])).length + 8943) / 8944)) (hsent : c.sent + n < 2 ^ 64)
    (hreq : (d.ctx k).req = some r) : d.EndsLive (d.endCtx k r owned st out) k r
      (.response src id (c.sent + 1) r.reqId st (if st = .ok then out else [])) := by
  have hretired := d.retired_reported k r owned st out
  have hend := (d.endRequest_work r owned st out).trans hretired.work
  obtain ⟨n', m, t, hclear, hbulk, hsends, hregs⟩ := (d.retired k r owned st out).clearCtx_shape k
  rw [Dev.endCtx_held owned st out hreq]
  refine ⟨⟨n', m, t, ?_⟩, hbulk.trans (by rw [hend.eng]; rfl), ?_, fun f i hf => ?_⟩
  · rw [hclear, Dev.ctx, hend.sched]; rfl
  · refine hsends.mem ((d.retired_sends k r owned st out).mem ?_)
    rw [(Dev.endRequest_live owned hvia hs hn hsent).outbox]
    exact List.mem_append_right _ (List.mem_singleton_self _)
  · rw [hregs.get f i 0 hf.not_reported, ← Dev.endRequest_get owned hvia hs hn hsent hf]
    refine hretired.regs.get f i 0 fun ho => ?_
    obtain hmark | hreport | he := ho
    · exact hf.not_reported (.inl hmark)
    · exact hf.not_reported (.inr hreport)
    · obtain ⟨⟨-, -, hcb, -, -, hoff, hlo⟩, -⟩ := hf
      exact Fld.key_ne_of_off _ _ _ _ _ _ hcb hoff hlo (by decide) (by decide) (by decide) (by decide) he

/-- The context that a request has ended in. -/
theorem Dev.EndsLive.ctx {d e : Dev} {c : Nat} {r : Request} {answer : Output} (h : d.EndsLive e c r answer) :
    (e.ctx c).req = none ∧ (e.ctx c).lanes = [] ∧ (e.ctx c).regs = [] := by
  obtain ⟨n, m, t, hsched⟩ := h.ctxs
  have hctx : e.ctx c = { Ctx.empty with outstanding := m, state := t } := by
    rw [Dev.ctx, hsched]
    exact (Tab.get_set _ _ _ _ _).trans (if_pos rfl)
  rw [hctx]
  exact ⟨rfl, rfl, rfl⟩

end Sys2Proof.Machine

namespace Sys2Proof.Machine

/-! ## Steps of a cycle that find nothing to do (R59) -/

/-- Nothing waits in any queue. -/
def Dev.Unqueued (d : Dev) : Prop := ∀ b, d.queue b = []

theorem Dev.Unqueued.counts {own : Nat → Prop} {d e : Dev} (h : d.Unqueued) (hc : Dev.Counts own d e) : e.Unqueued :=
  fun b => (hc.work.queue b).trans (h b)

/-- Within a course no refill of the governors is due: 512 divides 64,000. -/
theorem Dev.govRefill_within {d : Dev} (h : d.sched.time % 512 ≠ 0) : d.govRefill = d := by
  refine if_neg (fun hdue => h ?_)
  obtain ⟨hmod, -⟩ := hdue
  omega

theorem Dev.govApply_none {d : Dev} (h : d.sched.failures = []) : d.govApply = d := by
  unfold Dev.govApply
  rw [h]
  show { d with sched := { d.sched with failures := [] } } = d
  rw [← h]

theorem Dev.courseStep_within {d : Dev} (h : d.sched.time % 512 ≠ 0) : d.courseStep = d := if_neg (fun hb => h hb.1)

theorem Dev.resetStep_none {d : Dev} (h : d.sched.resetDue = []) : d.resetStep = d := by
  unfold Dev.resetStep
  rw [h]; rfl

/-- The queued requests whose deadline is reached (R74). -/
def Dev.dueQueued (d : Dev) : List Request := (d.sched.queues.flatMap (·.2)).filter (fun r => r.deadline ≤ d.sched.time)

/-- The contexts' requests whose deadline is reached (R74). -/
def Dev.dueHeld (d : Dev) : List (Nat × Request) := d.sched.ctxs.filterMap (fun e => match e.2.req with
  | some r => if r.deadline ≤ d.sched.time then some (e.1, r) else none
  | none => none)

theorem Dev.expireAll_eq (d : Dev) :
    d.expireAll = d.dueHeld.foldl (fun a e => a.expireCtx e.1 e.2) (d.dueQueued.foldl (fun a r => a.expireQueued r) d) := rfl

theorem Dev.dueQueued_none {d : Dev} (h : ∀ e ∈ d.sched.queues, ∀ r ∈ e.2, d.sched.time < r.deadline) :
    d.dueQueued = [] := by
  refine List.filter_eq_nil_iff.mpr fun r hr => ?_
  obtain ⟨e, he, hr⟩ := List.mem_flatMap.mp hr
  simpa using h e he r hr

theorem Dev.dueHeld_none {d : Dev} (h : ∀ e ∈ d.sched.ctxs, ∀ r, e.2.req = some r → d.sched.time < r.deadline) :
    d.dueHeld = [] := by
  refine List.filterMap_eq_nil_iff.mpr fun e he => ?_
  cases hreq : e.2.req with
  | none => rfl
  | some r => exact if_neg (Nat.not_le.mpr (h e he r hreq))

/-- Nothing has reached its deadline. -/
theorem Dev.expireAll_none {d : Dev} (hq : ∀ e ∈ d.sched.queues, ∀ r ∈ e.2, d.sched.time < r.deadline)
    (hc : ∀ e ∈ d.sched.ctxs, ∀ r, e.2.req = some r → d.sched.time < r.deadline) : d.expireAll = d := by
  rw [Dev.expireAll_eq, Dev.dueQueued_none hq, Dev.dueHeld_none hc]
  rfl

/-- With nothing queued no bay takes a lent slot (R61). -/
theorem Dev.lend_counts {own : Nat → Prop} {d : Dev} (h : d.Unqueued) : Dev.Counts own d d.lend := by
  have hnone : d.lentBay = none := by
    refine List.find?_eq_none.mpr fun b _ => ?_
    simp [h b]
  unfold Dev.lend
  split
  · rw [hnone]; exact d.occur_counts _ _ _ _
  · exact d.occur_counts _ _ _ _

/-- With nothing queued a slot is only counted (R61, R546). -/
theorem Dev.fillSlot_counts {d : Dev} (h : d.Unqueued) (slot : Nat) :
    Dev.Counts (fun key => ∃ b, key = R.BY_CNT.key b 2) d (d.fillSlot slot) := by
  unfold Dev.fillSlot
  dsimp only
  split
  · have hcount := ((d.occur_counts 0x002 (some (d.sched.owners.getD slot unowned)) 0x1F 1).countBay
      (own := fun key => ∃ b, key = R.BY_CNT.key b 2) (d.sched.owners.getD slot unowned) 2 1 ⟨_, rfl⟩).occur 0x005
      (some (d.sched.owners.getD slot unowned)) 0x1F 1
    rw [if_pos (by rw [Dev.queue, Dev.occur_sched]; exact List.isEmpty_iff.mpr (h _))]
    exact hcount.trans (Dev.lend_counts (h.counts hcount))
  · exact Dev.lend_counts h

/-- No record waits: the bulk step finds nothing to check, to reserve or to grant (R64). -/
theorem Dev.bulkStep_none {d : Dev} (h : d.eng.bulkWait = []) (lvl : Nat) : d.bulkStep lvl = d := by
  have hnonces : d.bulkNonces = [] := by rw [Dev.bulkNonces, h]; rfl
  have hgrant : d.bulkGrantOne = none := by
    have howner (f : Fld) (t : Tab Nat) (n : Nat) : d.grantOwner f t n [] = none :=
      List.find?_eq_none.mpr (fun o _ => by simp)
    unfold Dev.bulkGrantOne
    rw [h, List.map_nil, List.filter_nil]
    dsimp only
    rw [howner]
    cases d.bulkCore <;> rfl
  unfold Dev.bulkStep
  rw [h]
  dsimp only [List.foldl_nil]
  rw [hnonces]
  dsimp only [List.foldl_nil]
  rw [Dev.bulkGrant, hgrant]
  exact ite_self _

theorem Dev.holdCtxs_counts {own : Nat → Prop} (d : Dev) : Dev.Counts own d d.holdCtxs := by
  unfold Dev.holdCtxs
  have hfold (l : Tab Ctx) (e : Dev) : Dev.Counts own e (l.foldl (fun a e => match e.2.req with
      | some r => a.holds 0x020 (some r.bay) (ctxGroup e.1)
      | none => a) e) := by
    induction l generalizing e with
    | nil => exact .refl e
    | cons x l ih =>
      refine Dev.Counts.trans ?_ (ih _)
      dsimp only
      split
      · exact (Dev.Counts.refl e).holds _ _ _
      · exact .refl e
  exact hfold _ d

/-- The end of a cycle: the time is one more. -/
def Dev.tick (d : Dev) : Dev := { d with sched := { d.sched with time := d.sched.time + 1 } }

theorem Dev.SameWork.tick {d e : Dev} (h : d.SameWork e) : d.tick.SameWork e.tick :=
  ⟨congrArg (fun x : Sched => { x with time := x.time + 1 }) h.sched, h.wires, h.eng, h.keys, h.cards, h.plinth, h.cs,
    h.life, h.gates, h.pair, h.power, h.hbm, h.free⟩

/-- A cycle within a course with no failure, no reset due and no bulk record waiting: the completions, the deadlines and
the two slots (R59). -/
theorem schedulerCycle_within {d : Dev} {lvl : Nat} (htime : d.sched.time % 512 ≠ 0) (hfail : d.sched.failures = [])
    (hlvl : lvl < 2) : schedulerCycle lvl d =
      ((((d.retireAll.expireAll.courseStep.resetStep.fillSlots.bulkStep lvl).occur 0x001).holdCtxs).tick) := by
  unfold schedulerCycle
  dsimp only
  rw [Dev.govRefill_within htime, Dev.govApply_none hfail, if_neg (by omega), if_neg (by omega)]
  rfl

theorem Dev.retireAll_none {d : Dev} (h : d.sched.presented = []) : d.retireAll = d := by
  unfold Dev.retireAll
  rw [h]
  show { d with sched := { d.sched with presented := [] } } = d
  rw [← h]

/-- What a cycle does after its completions when nothing is queued, no context holds a request, and no boundary, reset or
record is due: it counts. -/
theorem Dev.restOfCycle_counts {d : Dev} {lvl : Nat} (htime : d.sched.time % 512 ≠ 0) (hq : d.sched.queues = [])
    (hc : ∀ e ∈ d.sched.ctxs, e.2.req = none) (hreset : d.sched.resetDue = []) (hbulk : d.eng.bulkWait = []) :
    Dev.Counts (fun key => ∃ b, key = R.BY_CNT.key b 2) d
      ((((d.expireAll.courseStep.resetStep.fillSlots.bulkStep lvl).occur 0x001).holdCtxs)) := by
  have hexpire : d.expireAll = d := Dev.expireAll_none (by simp [hq]) (fun e he r hr => by simp [hc e he] at hr)
  rw [hexpire, Dev.courseStep_within htime, Dev.resetStep_none hreset]
  have hunqueued : d.Unqueued := fun b => by rw [Dev.queue, hq]; rfl
  have hfirst := Dev.fillSlot_counts hunqueued (2 * (d.sched.time % 512))
  have hslots : Dev.Counts (fun key => ∃ b, key = R.BY_CNT.key b 2) d d.fillSlots :=
    hfirst.trans (Dev.fillSlot_counts (hunqueued.counts hfirst) _)
  rw [Dev.bulkStep_none (by rw [hslots.work.eng, hbulk])]
  exact (hslots.occur _ _ _ _).trans (Dev.holdCtxs_counts _)

/-! ## Dispatch (R61, R71) -/

/-- The state that an offered slot is dispatched in: the oldest request of a bay that may use it, and the context of R71. -/
structure Dev.Dispatches (d : Dev) (b : Nat) (r : Request) (rest : List Request) (c : Nat) : Prop where
  queue : d.queue b = r :: rest
  enabled : d.on (R.CTRL_ENABLE .by) b = true
  quiet : d.on R.STATUS_RESETTING b = false
  image : d.pinAbsent b = false
  governor : (guardedFunc r.func && d.govShut b) = false
  room : d.ctxHeld b < d.eff R.BY_CTX_MAX b
  pick : d.pickCtx (d.runGroups b r.func) = some c
  format : d.floorLocked (ctxGroup c) r.func = false

/-- The context that an offered request of a bay runs in (R66, R71, R132). -/
def Dev.dispatched (d : Dev) (b : Nat) (r : Request) (owned : Bool) : Ctx :=
  { Ctx.empty with
    state := .running, req := some r, owned := owned
    policy := [d.eff R.PN_BAY_XLATE_PERMIT 0 b, d.eff R.PN_BAY_XLATE_DOWNGRADE 0 b, d.eff R.PN_BAY_LIMITS_MAC_MIN 0 b,
      d.eff R.PN_BAY_LIMITS_PIN_MIN 0 b, d.eff R.PN_BAY_LIMITS_PIN_MAX 0 b] }

/-- The offered request leaves the queue and runs in the context. -/
theorem Dev.Dispatches.offer {d : Dev} {b : Nat} {r : Request} {rest : List Request} {c : Nat} (h : d.Dispatches b r rest c)
    (owned : Bool) : d.offer b owned =
      (((d.setQueue b rest).setCtx c (d.dispatched b r owned)).occur 0x020 (some b) (ctxGroup c), .used) := by
  obtain ⟨hqueue, henabled, hquiet, himage, hgov, hroom, hpick, hformat⟩ := h
  unfold Dev.offer
  rw [hqueue]
  dsimp only
  rw [if_neg (by simp [henabled, hquiet]), if_neg (by simp [himage]), if_neg (by simp [hgov]), if_neg (by omega), hpick]
  dsimp only
  rw [if_neg (by simp [hformat])]
  rfl

/-- The owner of a slot dispatches its oldest request in it. -/
theorem Dev.Dispatches.fillSlot {d : Dev} {b : Nat} {r : Request} {rest : List Request} {c : Nat}
    (h : d.Dispatches b r rest c) {slot : Nat} (hb : b < 256) (howner : d.sched.owners.getD slot unowned = b) :
    Dev.Counts (fun _ => False) ((d.setQueue b rest).setCtx c (d.dispatched b r true)) (d.fillSlot slot) := by
  obtain ⟨l, hl⟩ := d.occur_log 0x002 (some b) 0x1F 1
  have hoccur : (d.occur 0x002 (some b)).Dispatches b r rest c := by
    rw [hl]
    exact ⟨h.queue, h.enabled, h.quiet, h.image, h.governor, h.room, h.pick, h.format⟩
  have hslot : d.fillSlot slot = (((d.occur 0x002 (some b)).setQueue b rest).setCtx c
      ((d.occur 0x002 (some b)).dispatched b r true)).occur 0x020 (some b) (ctxGroup c) := by
    unfold Dev.fillSlot
    dsimp only
    rw [howner, if_pos hb, hoccur.queue, if_neg (by simp), hoccur.offer]
    rfl
  rw [hslot]
  refine Dev.Counts.occur ?_ _ _ _ _
  obtain ⟨t, acc, ht, he⟩ := d.occur_counts (own := fun _ => False) 0x002 (some b) 0x1F 1
  rw [he]
  exact ⟨t, acc, ht, rfl⟩

/-! ## The commands -/

theorem completes_schedulerCycle {s : State} {P : Perm → Dev → Prop}
    (h : P s.perm (schedulerCycle (s.dev.workLevel s.perm.level) s.dev)) : Completes .schedulerCycle s P := ⟨_, rfl, rfl, h⟩

/-- A cycle that dispatches the one queued request. -/
theorem schedulerCycle_dispatches {d : Dev} {b : Nat} {r : Request} {c lvl : Nat} (h : d.Dispatches b r [] c)
    (htime : d.sched.time % 512 ≠ 0) (hpresented : d.sched.presented = []) (hfail : d.sched.failures = [])
    (hq : d.sched.queues = [(b, [r])]) (hctxs : d.sched.ctxs = []) (hreset : d.sched.resetDue = [])
    (hbulk : d.eng.bulkWait = []) (hlvl : lvl < 2) (hb : b < 256)
    (howner : d.sched.owners.getD (2 * (d.sched.time % 512)) unowned = b) (hdue : d.sched.time < r.deadline) :
    ((d.setQueue b []).setCtx c (d.dispatched b r true)).tick.SameWork (schedulerCycle lvl d) := by
  have hexpire : d.expireAll = d := Dev.expireAll_none (by simpa [hq] using hdue) (by simp [hctxs])
  rw [schedulerCycle_within htime hfail hlvl, Dev.retireAll_none hpresented, hexpire, Dev.courseStep_within htime,
    Dev.resetStep_none hreset]
  have hfirst := h.fillSlot (slot := 2 * (d.sched.time % 512)) hb howner
  have hunqueued : ((d.setQueue b []).setCtx c (d.dispatched b r true)).Unqueued := by
    intro k
    rw [Dev.queue, Dev.setCtx, Dev.setQueue, hq, Tab.set_single, if_pos rfl]
    rfl
  have hslots : Dev.Counts (fun key => ∃ k, key = R.BY_CNT.key k 2)
      ((d.setQueue b []).setCtx c (d.dispatched b r true)) d.fillSlots :=
    (hfirst.mono (fun _ hf => hf.elim)).trans (Dev.fillSlot_counts (hunqueued.counts hfirst) _)
  rw [Dev.bulkStep_none (by rw [hslots.work.eng]; exact hbulk)]
  have hwork := ((hslots.occur 0x001 none 0x1F 1).trans (Dev.holdCtxs_counts _)).work
  exact hwork.tick

/-- A cycle that retires the one presented completion, whose entry and generation are current, counts besides. -/
theorem schedulerCycle_retires {d : Dev} {x : Completion} {y : Ctx} {c : Session} {id : Nat} {src : Client} {lvl : Nat}
    (htime : d.sched.time % 512 ≠ 0) (hpresented : d.sched.presented = [x]) (hfail : d.sched.failures = [])
    (hq : d.sched.queues = []) (hctxs : d.sched.ctxs = [(x.ctx, y)]) (hreset : d.sched.resetDue = [])
    (hbulk : d.eng.bulkWait = []) (hlvl : lvl < 2) (hreq : y.req = some x.req)
    (hentry : d.entryGen x.req.bay x.req.entry = x.req.entryGen) (hgen : d.get R.BY_GEN_GEN x.req.bay = x.req.gen)
    (hvia : x.req.via = .session id src) (hs : Tab.look d.face.sessions id = some c) {n : Nat}
    (hn : n = max 1 (((encodeTlvs (if x.status = .ok then x.out else [])).length + 8943) / 8944))
    (hsent : c.sent + n < 2 ^ 64) :
    ∃ e, Dev.EndsLive { d with sched := { d.sched with presented := [] } } e x.ctx x.req
        (.response src id (c.sent + 1) x.req.reqId x.status (if x.status = .ok then x.out else [])) ∧
      ∃ g, Dev.Counts (fun key => ∃ b, key = R.BY_CNT.key b 2) e g ∧ schedulerCycle lvl d = g.tick := by
  have hretire : d.retireAll = Dev.endCtx { d with sched := { d.sched with presented := [] } } x.ctx x.req x.owned x.status
      x.out := by
    unfold Dev.retireAll
    rw [hpresented]
    exact if_neg (not_or.mpr ⟨not_not.mpr hentry, not_not.mpr hgen⟩)
  have hheld : (Dev.ctx { d with sched := { d.sched with presented := [] } } x.ctx) = y := by
    show Tab.get d.sched.ctxs x.ctx Ctx.empty = y
    simp [hctxs, Tab.get, Tab.look]
  have hends := Dev.endCtx_live (d := { d with sched := { d.sched with presented := [] } }) (st := x.status) (out := x.out)
    x.owned hvia hs hn hsent (by rw [hheld]; exact hreq)
  refine ⟨_, hends, _, ?_, schedulerCycle_within htime hfail hlvl⟩
  rw [hretire]
  obtain ⟨n', m, t, hsched⟩ := hends.ctxs
  refine Dev.restOfCycle_counts ?_ ?_ ?_ ?_ (hends.bulk.trans hbulk)
  · rw [hsched]; exact htime
  · rw [hsched]; exact hq
  · rw [hsched]
    have hkept : ({ y with outstanding := n' } : Ctx) ≠ Ctx.empty := by
      intro he
      have := congrArg Ctx.req he
      rw [show ({ y with outstanding := n' } : Ctx).req = y.req from rfl, hreq] at this
      exact absurd this (by simp [Ctx.empty])
    dsimp only
    rw [hheld, hctxs, Tab.set_single, if_neg hkept, Tab.set_single]
    intro e he
    split at he
    · exact absurd he (by simp)
    · rw [List.mem_singleton.mp he]; rfl
  · rw [hsched]; exact hreset

/-- What expiry leaves of SC_EXPIRED. -/
theorem Dev.bumpSat_get_self (d : Dev) (f : Fld) (i k n : Nat) :
    (d.bumpSat f i k n).get f i k = min (f.bound - 1) (d.get f i k + n) := by
  rw [Dev.bumpSat, Dev.get_set_self]
  exact Nat.mod_eq_of_lt (lt_of_le_of_lt (min_le_left _ _) (Nat.sub_lt (Nat.two_pow_pos _) Nat.one_pos))

theorem spared_expired : spared R.SC_EXPIRED 0 := by unfold spared; decide

/-- Settles O16: outside its own step each part of a cycle counts, and a completion or an expiry is one end of a request. -/
theorem cyclesRunAndRequestsExpire : Obligations.CyclesRunAndRequestsExpire := by
  refine ⟨⟨?quiet, ?dispatch, ?retire⟩, ?none, ?queued, ?held⟩
  case quiet =>
    intro s htime hpresented hfail hq hctxs hreset hbulk hlvl
    refine completes_schedulerCycle ⟨rfl, ?_⟩
    rw [schedulerCycle_within htime hfail hlvl, Dev.retireAll_none hpresented]
    obtain ⟨t, l, ht, he⟩ := Dev.restOfCycle_counts (lvl := s.dev.workLevel s.perm.level) htime hq (by simp [hctxs]) hreset
      hbulk
    rw [he]
    exact ⟨rfl, fun key hkey => ht key (fun ⟨b, hb⟩ => hkey b hb)⟩
  case dispatch =>
    intro s b r c htime hpresented hfail hq hctxs hreset hbulk hlvl hb howner hdue henabled hquiet himage hgov hroom hpick
      hformat
    have hqueue : s.dev.queue b = [r] := by simp [Dev.queue, hq, Tab.get, Tab.look]
    have hwork := schedulerCycle_dispatches (d := s.dev) ⟨hqueue, henabled, hquiet, himage, hgov,
      by simpa [Dev.ctxHeld, hctxs, Tab.count] using hroom, hpick, hformat⟩ htime hpresented hfail hq hctxs hreset hbulk hlvl
      hb howner hdue
    have hctx : (schedulerCycle (s.dev.workLevel s.perm.level) s.dev).ctx c = s.dev.dispatched b r true := by
      rw [Dev.ctx, hwork.sched]
      exact (Dev.ctx_setCtx (s.dev.setQueue b []) c c (s.dev.dispatched b r true)).trans (if_pos rfl)
    refine completes_schedulerCycle ⟨rfl, ?_, ?_, ?_, ?_, ?_⟩
    · rw [hwork.queue]
      exact (s.dev.queue_setQueue b b []).trans (if_pos rfl)
    · rw [hctx]; rfl
    · rw [hctx]; rfl
    · rw [hctx]; rfl
    · rw [hwork.sched]; rfl
  case retire =>
    intro s x y c id src htime hpresented hfail hq hctxs hreset hbulk hlvl hreq hentry hgen hvia hs hsent hlen
    have hframes : ((encodeTlvs (if x.status = .ok then x.out else [])).length + 8943) / 8944 ≤ 7 := by
      split
      · omega
      · decide
    obtain ⟨e, hends, g, hcounts, hcycle⟩ := schedulerCycle_retires htime hpresented hfail hq hctxs hreset hbulk hlvl hreq
      hentry hgen hvia hs rfl (by omega)
    obtain ⟨n', m, t, hsched⟩ := hends.ctxs
    have hgsched : g.sched = e.sched := hcounts.work.sched
    refine completes_schedulerCycle ?_
    rw [hcycle]
    refine ⟨rfl, ?_, ?_, ?_, ?_⟩
    · show _ ∈ g.outbox
      rw [hcounts.outbox]; exact hends.sent
    · show Tab.get g.sched.entryGens _ _ = _
      rw [hgsched, hsched, ← hentry]
      exact Dev.entryGen_retireEntry _ _ _
    · show (Tab.get g.sched.ctxs _ _).req = none
      rw [hgsched]; exact hends.ctx.1
    · show g.sched.presented = []
      rw [hgsched, hsched]; rfl
  case none =>
    intro s hq hc
    exact completes_after rfl ⟨rfl, Dev.expireAll_none hq hc⟩
  case queued =>
    intro s r c id src hdue hheld hvia hs hsent
    have hexpire : s.dev.expireAll = s.dev.expireQueued r := by
      rw [Dev.expireAll_eq, Dev.dueHeld_none hheld, show s.dev.dueQueued = [r] from hdue]; rfl
    refine completes_after rfl ⟨rfl, ?_⟩
    rw [hexpire]
    have hs' : Tab.look (s.dev.setQueue r.bay ((s.dev.queue r.bay).filter (· ≠ r))).face.sessions id = some c := hs
    have hwork := ((s.dev.setQueue r.bay ((s.dev.queue r.bay).filter (· ≠ r))).endRequest_work r false .expired []).bumpSat
      R.SC_EXPIRED 0 0 1
    have hlive := Dev.endRequest_live (st := .expired) (out := []) false hvia hs' (n := 1) rfl hsent
    have hqueue (b : Nat) : (s.dev.expireQueued r).queue b =
        if r.bay = b then (s.dev.queue r.bay).filter (· ≠ r) else s.dev.queue b :=
      (hwork.queue b).trans (Dev.queue_setQueue _ _ _ _)
    refine ⟨(hqueue _).trans (if_pos rfl), fun b hb => (hqueue b).trans (if_neg hb.symm), hlive.outbox, ?_, ?_,
      rfl, hwork.wires, hwork.eng, hwork.keys, hwork.cards, hwork.plinth, hwork.cs, hwork.life, hwork.gates, hwork.pair,
      hwork.power, hwork.hbm, hwork.free⟩
    · rw [Dev.entryGen, show (s.dev.expireQueued r).sched = _ from hwork.sched]
      exact Dev.entryGen_retireEntry _ _ _
    · rw [Dev.expireQueued, Dev.bumpSat_get_self]
      rw [Dev.endRequest_get false hvia hs' (n := 1) rfl hsent spared_expired]
      rfl
  case held =>
    intro s r k x c id src hq hctxs hreq hdue hvia hs hsent
    have hheld : s.dev.dueHeld = [(k, r)] := by
      rw [Dev.dueHeld, hctxs]
      simp [hreq, hdue]
    have hexpire : s.dev.expireAll = s.dev.expireCtx k r := by
      rw [Dev.expireAll_eq, Dev.dueQueued_none hq, hheld]; rfl
    have hx : s.dev.ctx k = x := by simp [Dev.ctx, hctxs, Tab.get, Tab.look]
    have hends := Dev.endCtx_live (st := .expired) (out := []) (s.dev.ctx k).owned hvia hs (n := 1) rfl hsent
      (by rw [hx]; exact hreq)
    refine completes_after rfl ⟨rfl, ?_⟩
    rw [hexpire]
    refine ⟨hends.ctx.1, hends.ctx.2.1, hends.ctx.2.2, hends.sent, ?_⟩
    rw [Dev.expireCtx, Dev.bumpSat_get_self, hends.regs _ _ spared_expired]

end Sys2Proof.Machine

namespace Sys2Proof.Machine

/-! # The PIN unit's lanes, the governor and the PN writes (R97, R106, R119, R132, R133, R572) -/

/-! ## The step lanes (R572) -/

/-- The lowest free lane, where every lower one is taken. -/
theorem Dev.freeLane_lowest {d : Dev} {l : Nat} (hl : l < 24) (hfree : Tab.look d.eng.pinLanes l = none)
    (hlow : ∀ k < l, Tab.look d.eng.pinLanes k ≠ none) : d.freeLane = some l := by
  refine List.find?_range_eq_some.mpr ⟨by simp [hfree], List.mem_range.mpr hl, fun k hk => ?_⟩
  simpa [Option.isSome_iff_ne_none] using hlow k hk

theorem Dev.pinGrant_lowest {d : Dev} {j : Job} {rest : List Job} {l : Nat} (hwait : d.eng.pinWait = j :: rest)
    (hlane : d.freeLane = some l) : d.pinGrant =
      { d with eng := { d.eng with pinWait := rest, pinLanes := Tab.put d.eng.pinLanes l j } } := by
  rw [Dev.pinGrant, hwait, hlane]

/-! ## The end of a step (R92, R97, R106, R119) -/

/-- A lane whose step has ended is free. -/
def Dev.laneFreed (d : Dev) (lane : Nat) : Dev :=
  { d with eng := { d.eng with pinLanes := Tab.del d.eng.pinLanes lane } }

/-- A step that did not take its fixed length: counted, signalled and recorded (R97). -/
def Dev.stepLate (d : Dev) (j : Job) (clocks : Nat) : Dev :=
  ((d.bumpSat R.PN_TIME_FAULTS).raiseInt .pn 0 2).mark .pnTimeFault .key 0 j.bay j.func clocks j.clocks

/-- A step at its fixed length: counted, and its failure noted against its bay (R106, R119). -/
def Dev.stepCounted (d : Dev) (fails : Bool) (bay : Nat) : Dev :=
  let e := (d.bumpWrap R.PN_STEPS).occur 0x050 (some bay)
  if fails then { e with sched := { e.sched with failures := e.sched.failures ++ [bay] } } else e

/-- The ending of a job that is no whole function's. -/
def Job.partly (j : Job) : Prop := ∀ out, j.finish ≠ .whole out

/-- The context of a job keeps all but its count of what is outstanding and its state when the job is over. -/
theorem Dev.settle_ctx (d : Dev) (c : Nat) : ∃ (n : Nat) (t : CtxState),
    (d.settle c).ctx c = { d.ctx c with outstanding := n, state := t } :=
  ⟨_, _, (Dev.ctx_setCtx _ _ _ _).trans (if_pos rfl)⟩

theorem Dev.settle_kept (d : Dev) (c : Nat) : ((d.settle c).ctx c).req = (d.ctx c).req ∧
    ((d.settle c).ctx c).deferred = (d.ctx c).deferred ∧ ((d.settle c).ctx c).owned = (d.ctx c).owned := by
  obtain ⟨n, t, hctx⟩ := d.settle_ctx c
  rw [hctx]
  exact ⟨rfl, rfl, rfl⟩

section
variable {d : Dev} {l : Nat} {j : Job} {r : Request} (hlane : Tab.look d.eng.pinLanes l = some j)
  (hj : j.req = some r) (hctx : (d.ctx j.ctx).req = some r)
include hlane hj hctx

/-- A whole function's step that did not take its fixed length. -/
theorem Dev.pinStepEnd_whole_late {out : List Tlv} {clocks : Nat} (hfin : j.finish = .whole out) (hlate : clocks ≠ j.clocks) :
    d.pinStepEnd l clocks = (((d.laneFreed l).settle j.ctx).stepLate j clocks).finish j.ctx r .engineFault [] := by
  obtain ⟨hreq, -, -⟩ := (d.laneFreed l).settle_kept j.ctx
  have hheld : (((d.laneFreed l).settle j.ctx).ctx j.ctx).req = some r := hreq.trans hctx
  unfold Dev.laneFreed at hheld
  simp [Dev.pinStepEnd, Dev.laneFreed, Dev.stepLate, hlane, hj, hfin, hlate, hheld]

/-- A whole function's step at its fixed length. -/
theorem Dev.pinStepEnd_whole {out : List Tlv} (hfin : j.finish = .whole out) : d.pinStepEnd l j.clocks =
    (((d.laneFreed l).settle j.ctx).stepCounted (d.stepFails j) j.bay).finish j.ctx r
      ((d.ctx j.ctx).deferred.orElse j.status) out := by
  obtain ⟨hreq, hdef, -⟩ := (d.laneFreed l).settle_kept j.ctx
  have hheld : (((d.laneFreed l).settle j.ctx).ctx j.ctx).req = some r := hreq.trans hctx
  have hdeferred : (((d.laneFreed l).settle j.ctx).ctx j.ctx).deferred = (d.ctx j.ctx).deferred := hdef
  unfold Dev.laneFreed at hheld hdeferred
  simp [Dev.pinStepEnd, Dev.laneFreed, Dev.stepCounted, hlane, hj, hfin, hheld, hdeferred]

omit hctx in
/-- Another step that did not take its fixed length. -/
theorem Dev.pinStepEnd_partly_late {clocks : Nat} (hfin : j.partly) (hlate : clocks ≠ j.clocks) :
    d.pinStepEnd l clocks = ((d.laneFreed l).stepLate j clocks).jobToken j.ctx (some r) .engineFault := by
  unfold Job.partly at hfin
  simp [Dev.pinStepEnd, Dev.laneFreed, Dev.stepLate, hlane, hj, hlate]

/-- Another step at its fixed length. -/
theorem Dev.pinStepEnd_partly (hfin : j.partly) : d.pinStepEnd l j.clocks =
    ((((d.laneFreed l).stepCounted (d.stepFails j) j.bay).setCtx j.ctx { d.ctx j.ctx with
      deferred := (d.ctx j.ctx).deferred.orElse j.status }).applyDest j.ctx true j.dest j.out).jobToken j.ctx (some r) .ok := by
  have hsame : (d.laneFreed l).ctx j.ctx = d.ctx j.ctx := rfl
  unfold Job.partly at hfin
  unfold Dev.laneFreed at hsame
  simp [Dev.pinStepEnd, Dev.laneFreed, Dev.stepCounted, hlane, hj, hfin, hctx, hsame]

end

/-- The end of a late step, before its answer, reports and counts. -/
theorem Dev.stepLate_reported (d : Dev) (j : Job) (clocks : Nat) :
    Dev.Reported (fun key => reportKey key) (d.bumpSat R.PN_TIME_FAULTS) (d.stepLate j clocks) :=
  ((Dev.Reported.refl _).raiseInt .pn 0 2 (.inr (reportKey_raw _ _))).mark _ _ _ _ _ _ _

theorem Dev.stepLate_bit (d : Dev) (j : Job) (clocks : Nat) :
    ((d.stepLate j clocks).get (R.INT_RAW .pn)).testBit 2 = true := by
  have happart : Blk.pn.apart 0 := Blk.apart_zero (by decide)
  unfold Dev.stepLate
  rw [((Dev.Reported.refl (own := fun _ => False) _).mark _ _ _ _ _ _ _).get _ _ _ (Blk.apart_raw happart) id]
  exact Dev.raiseInt_bit _ happart (by decide)

theorem Dev.stepLate_count (d : Dev) (j : Job) (clocks : Nat) : (d.stepLate j clocks).get R.PN_TIME_FAULTS =
    min (R.PN_TIME_FAULTS.bound - 1) (d.get R.PN_TIME_FAULTS + 1) := by
  rw [(d.stepLate_reported j clocks).get _ _ _
    (markKey_false _ _ _ (by decide) (by decide) (by decide) (by decide) (by decide))
    (reportKey_false _ _ _ (by decide) (by decide) (by decide) (by decide) (by decide)), Dev.bumpSat_get_self]

theorem Dev.stepLate_work (d : Dev) (j : Job) (clocks : Nat) : d.SameWork (d.stepLate j clocks) :=
  ((Dev.SameWork.refl d).bumpSat _ _ _ _).trans (d.stepLate_reported j clocks).work

theorem Dev.stepCounted_sched (d : Dev) (fails : Bool) (bay : Nat) : (d.stepCounted fails bay).sched =
    { d.sched with failures := if fails then d.sched.failures ++ [bay] else d.sched.failures } := by
  cases fails <;> simp [Dev.stepCounted]

theorem Dev.stepCounted_eng (d : Dev) (fails : Bool) (bay : Nat) : (d.stepCounted fails bay).eng = d.eng := by
  cases fails <;> simp [Dev.stepCounted]

theorem Dev.stepCounted_count (d : Dev) (fails : Bool) (bay : Nat) :
    (d.stepCounted fails bay).get R.PN_STEPS = (d.get R.PN_STEPS + 1) % R.PN_STEPS.bound := by
  have hregs : (d.stepCounted fails bay).regs = (d.bumpWrap R.PN_STEPS).regs := by
    cases fails <;> simp [Dev.stepCounted]
  rw [Dev.get, hregs]
  exact Dev.get_set_self _ _ _ _ _

theorem Dev.get_eng (d : Dev) (g : Eng) (f : Fld) (i k : Nat) : ({ d with eng := g }).get f i k = d.get f i k := rfl

theorem Dev.ctx_eng (d : Dev) (g : Eng) (c : Nat) : ({ d with eng := g }).ctx c = d.ctx c := rfl

/-- A token of a job whose context still holds its request. -/
theorem Dev.jobToken_held {d : Dev} {c : Nat} {r : Request} (h : (d.ctx c).req = some r) (st : Status) :
    d.jobToken c (some r) st = { d with eng := { d.eng with tokens := d.eng.tokens ++ [⟨c, some r, st⟩] } } :=
  if_pos (by simp [h])

/-- An output leaves the request of its context and the status held back for it. -/
theorem Ctx.put_kept (x : Ctx) (pinUnit : Bool) (dest : Dest) (out : Bytes) :
    (x.put pinUnit dest out).req = x.req ∧ (x.put pinUnit dest out).deferred = x.deferred := by
  cases dest
  case pinLane => cases pinUnit <;> exact ⟨rfl, rfl⟩
  all_goals exact ⟨rfl, rfl⟩

/-- What the end of a step leaves of the lanes, whatever its count: its lane is free, the others stay. -/
def Dev.FreesLane (d e : Dev) (l : Nat) : Prop :=
  Tab.look e.eng.pinLanes l = none ∧ ∀ k, k ≠ l → Tab.look e.eng.pinLanes k = Tab.look d.eng.pinLanes k

theorem Dev.FreesLane.of_del {d e : Dev} {l : Nat} (h : e.eng.pinLanes = Tab.del d.eng.pinLanes l) : d.FreesLane e l := by
  rw [Dev.FreesLane, h]
  exact ⟨by simp, fun k hk => by simp [Ne.symm hk]⟩

/-- The context of an output. -/
theorem Dev.applyDest_ctx (d : Dev) (c : Nat) (x : Ctx) (pinUnit : Bool) (dest : Dest) (out : Bytes) :
    ((d.setCtx c x).applyDest c pinUnit dest out).ctx c = x.put pinUnit dest out := by
  rw [Dev.applyDest, Dev.ctx_setCtx, if_pos rfl, Dev.ctx_setCtx, if_pos rfl]

/-- Presenting a completion writes the context and the list of what is presented. -/
@[simp] theorem Dev.finish_get (d : Dev) (c : Nat) (r : Request) (st : Status) (out : List Tlv) (f : Fld) (i k : Nat) :
    (d.finish c r st out).get f i k = d.get f i k := rfl

@[simp] theorem Dev.finish_eng (d : Dev) (c : Nat) (r : Request) (st : Status) (out : List Tlv) :
    (d.finish c r st out).eng = d.eng := rfl

@[simp] theorem Dev.finish_failures (d : Dev) (c : Nat) (r : Request) (st : Status) (out : List Tlv) :
    (d.finish c r st out).sched.failures = d.sched.failures := rfl

@[simp] theorem Dev.finish_presented (d : Dev) (c : Nat) (r : Request) (st : Status) (out : List Tlv) :
    (d.finish c r st out).sched.presented =
      d.sched.presented ++ [⟨r, c, (d.ctx c).owned, st, if st = .ok then out else []⟩] := rfl

/-- What the end of a step at its fixed length leaves (R106, R119). -/
structure Dev.StepEnds (d e : Dev) (l : Nat) (j : Job) (r : Request) : Prop where
  lanes : d.FreesLane e l
  failures : e.sched.failures = if d.stepFails j then d.sched.failures ++ [j.bay] else d.sched.failures
  count : e.get R.PN_STEPS = (d.get R.PN_STEPS + 1) % R.PN_STEPS.bound
  partly : j.partly → e.eng.tokens = d.eng.tokens ++ [⟨j.ctx, some r, .ok⟩] ∧
    (e.ctx j.ctx).deferred = (d.ctx j.ctx).deferred.orElse j.status
  whole : ∀ out, j.finish = .whole out → e.sched.presented = d.sched.presented ++ [⟨r, j.ctx, (d.ctx j.ctx).owned,
    (d.ctx j.ctx).deferred.orElse j.status, if (d.ctx j.ctx).deferred.orElse j.status = .ok then out else []⟩]

/-- What the end of a step that did not take its fixed length leaves (R97). -/
structure Dev.StepFaults (d e : Dev) (l : Nat) (j : Job) (r : Request) : Prop where
  lanes : d.FreesLane e l
  bit : (e.get (R.INT_RAW .pn)).testBit 2 = true
  count : e.get R.PN_TIME_FAULTS = min (R.PN_TIME_FAULTS.bound - 1) (d.get R.PN_TIME_FAULTS + 1)
  failures : e.sched.failures = d.sched.failures
  partly : j.partly → e.eng.tokens = d.eng.tokens ++ [⟨j.ctx, some r, .engineFault⟩] ∧ e.ctx j.ctx = d.ctx j.ctx
  whole : ∀ out, j.finish = .whole out →
    e.sched.presented = d.sched.presented ++ [⟨r, j.ctx, (d.ctx j.ctx).owned, .engineFault, []⟩]

section
variable {d : Dev} {l : Nat} {j : Job} {r : Request} (hlane : Tab.look d.eng.pinLanes l = some j)
  (hj : j.req = some r) (hctx : (d.ctx j.ctx).req = some r)
include hlane hj hctx

theorem Dev.pinStepEnd_ends : d.StepEnds (d.pinStepEnd l j.clocks) l j r := by
  by_cases hwhole : ∃ out, j.finish = .whole out
  case pos =>
    obtain ⟨out, hfin⟩ := hwhole
    obtain ⟨-, -, howned⟩ := (d.laneFreed l).settle_kept j.ctx
    have hsched := ((d.laneFreed l).settle j.ctx).stepCounted_sched (d.stepFails j) j.bay
    have heng := ((d.laneFreed l).settle j.ctx).stepCounted_eng (d.stepFails j) j.bay
    rw [Dev.pinStepEnd_whole hlane hj hctx hfin]
    refine ⟨.of_del (by rw [Dev.finish_eng, heng]; rfl), by rw [Dev.finish_failures, hsched]; rfl,
      by rw [Dev.finish_get, Dev.stepCounted_count]; rfl, fun h => absurd hfin (h out), fun out' hfin' => ?_⟩
    obtain rfl : out = out' := JobEnd.whole.inj (hfin.symm.trans hfin')
    have howner : ((((d.laneFreed l).settle j.ctx).stepCounted (d.stepFails j) j.bay).ctx j.ctx).owned =
        (d.ctx j.ctx).owned := by rw [Dev.ctx, hsched]; exact howned
    rw [Dev.finish_presented, howner, hsched]
    rfl
  case neg =>
    have hpartly : j.partly := fun out hfin => hwhole ⟨out, hfin⟩
    obtain ⟨hreq, hdef⟩ := Ctx.put_kept { d.ctx j.ctx with deferred := (d.ctx j.ctx).deferred.orElse j.status } true
      j.dest j.out
    have hsched := (d.laneFreed l).stepCounted_sched (d.stepFails j) j.bay
    have heng := (d.laneFreed l).stepCounted_eng (d.stepFails j) j.bay
    have hctx' := Dev.applyDest_ctx ((d.laneFreed l).stepCounted (d.stepFails j) j.bay) j.ctx
      { d.ctx j.ctx with deferred := (d.ctx j.ctx).deferred.orElse j.status } true j.dest j.out
    rw [Dev.pinStepEnd_partly hlane hj hctx hpartly, Dev.jobToken_held (by rw [hctx', hreq]; exact hctx)]
    have htokens : ((d.laneFreed l).stepCounted (d.stepFails j) j.bay).eng.tokens = d.eng.tokens := by rw [heng]; rfl
    have hcount := (d.laneFreed l).stepCounted_count (d.stepFails j) j.bay
    refine ⟨.of_del (congrArg Eng.pinLanes heng), congrArg Sched.failures hsched, hcount,
      fun _ => ⟨congrArg (· ++ _) htokens, ?_⟩, fun out hfin => absurd hfin (hpartly out)⟩
    rw [Dev.ctx_eng, hctx', hdef]

theorem Dev.pinStepEnd_faults {clocks : Nat} (hlate : clocks ≠ j.clocks) :
    d.StepFaults (d.pinStepEnd l clocks) l j r := by
  by_cases hwhole : ∃ out, j.finish = .whole out
  case pos =>
    obtain ⟨out, hfin⟩ := hwhole
    obtain ⟨-, -, howned⟩ := (d.laneFreed l).settle_kept j.ctx
    have hwork := ((d.laneFreed l).settle j.ctx).stepLate_work j clocks
    rw [Dev.pinStepEnd_whole_late hlane hj hctx hfin hlate]
    refine ⟨.of_del (by rw [Dev.finish_eng, hwork.eng]; rfl), by rw [Dev.finish_get, Dev.stepLate_bit],
      by rw [Dev.finish_get, Dev.stepLate_count]; rfl, by rw [Dev.finish_failures, hwork.sched]; rfl,
      fun h => absurd hfin (h out), fun out' hfin' => ?_⟩
    have howner : ((((d.laneFreed l).settle j.ctx).stepLate j clocks).ctx j.ctx).owned = (d.ctx j.ctx).owned := by
      rw [Dev.ctx, hwork.sched]; exact howned
    rw [Dev.finish_presented, howner, hwork.sched]
    rfl
  case neg =>
    have hpartly : j.partly := fun out hfin => hwhole ⟨out, hfin⟩
    have hwork := (d.laneFreed l).stepLate_work j clocks
    have hsame : ((d.laneFreed l).stepLate j clocks).ctx j.ctx = d.ctx j.ctx := by rw [Dev.ctx, hwork.sched]; rfl
    rw [Dev.pinStepEnd_partly_late hlane hj hpartly hlate, Dev.jobToken_held (by rw [hsame]; exact hctx)]
    have htokens : ((d.laneFreed l).stepLate j clocks).eng.tokens = d.eng.tokens := by rw [hwork.eng]; rfl
    exact ⟨.of_del (congrArg Eng.pinLanes hwork.eng), by rw [Dev.get_eng, Dev.stepLate_bit],
      by rw [Dev.get_eng, Dev.stepLate_count]; rfl, congrArg Sched.failures hwork.sched,
      fun _ => ⟨congrArg (· ++ _) htokens, by rw [Dev.ctx_eng, hsame]⟩,
      fun out hfin => absurd hfin (hpartly out)⟩

end

/-! ## The refill of the governors (R119, R121) -/

theorem levelInt_bounds {x : Nat} (h : x < 2 ^ 32) : -2 ^ 31 ≤ levelInt x ∧ levelInt x < 2 ^ 31 := by
  unfold levelInt
  split <;> omega

theorem levelNat_lt (x : Int) : levelNat x < 2 ^ 32 := by
  unfold levelNat
  omega

/-- An integer of 32 bits is its level. -/
theorem levelInt_levelNat {x : Int} (h : -2 ^ 31 ≤ x ∧ x < 2 ^ 31) : levelInt (levelNat x) = x := by
  unfold levelInt levelNat
  split <;> omega

/-- The level of a bay after its refill. -/
def Dev.refilled (d : Dev) (b : Nat) : Int :=
  min (levelInt (d.get R.PN_BAY_GOV_LEVEL 0 b) +
      ((Tab.get d.sched.govAcc b 0 + d.eff R.PN_BAY_GOV_RATE 0 b) / 1000 : Nat))
    (max (levelInt (d.get R.PN_BAY_GOV_LEVEL 0 b)) (d.eff R.PN_BAY_GOV_BURST 0 b))

/-- What the accumulator of a bay holds after its refill. -/
def Dev.refilledAcc (d : Dev) (b : Nat) : Nat := (Tab.get d.sched.govAcc b 0 + d.eff R.PN_BAY_GOV_RATE 0 b) % 1000

theorem Dev.refilled_bounds (d : Dev) (b : Nat) : -2 ^ 31 ≤ d.refilled b ∧ d.refilled b < 2 ^ 31 := by
  have hlevel : d.get R.PN_BAY_GOV_LEVEL 0 b < 2 ^ 32 := Nat.mod_lt _ (by decide)
  have hburst : d.eff R.PN_BAY_GOV_BURST 0 b < 2 ^ 16 := Nat.mod_lt _ (by decide)
  have hbounds := levelInt_bounds hlevel
  unfold Dev.refilled
  omega

/-- The refill of one bay writes its level and its accumulator. -/
theorem Dev.refillBay_active {d : Dev} {b : Nat} (h : d.eff R.PN_BAY_GOV_CTL_EN 0 b = 1) : d.refillBay b =
    ({ d with sched := { d.sched with govAcc := Tab.set d.sched.govAcc b 0 (d.refilledAcc b) } }).set R.PN_BAY_GOV_LEVEL
      (levelNat (d.refilled b)) 0 b := if_pos h

theorem Dev.refillBay_inactive {d : Dev} {b : Nat} (h : d.eff R.PN_BAY_GOV_CTL_EN 0 b ≠ 1) : d.refillBay b = d := if_neg h

theorem levelKey_inj {a b : Nat} (h : R.PN_BAY_GOV_LEVEL.key 0 a = R.PN_BAY_GOV_LEVEL.key 0 b) : a = b :=
  Nat.add_left_cancel h

/-- The refill of the first n bays: each active one has its level and its accumulator raised, and nothing else changes. -/
structure Dev.Refilled (d e : Dev) (n : Nat) : Prop where
  active : ∀ b < n, d.eff R.PN_BAY_GOV_CTL_EN 0 b = 1 → levelInt (e.get R.PN_BAY_GOV_LEVEL 0 b) = d.refilled b ∧
    Tab.get e.sched.govAcc b 0 = d.refilledAcc b
  kept : ∀ b, n ≤ b ∨ d.eff R.PN_BAY_GOV_CTL_EN 0 b ≠ 1 → e.get R.PN_BAY_GOV_LEVEL 0 b = d.get R.PN_BAY_GOV_LEVEL 0 b ∧
    Tab.get e.sched.govAcc b 0 = Tab.get d.sched.govAcc b 0
  regs : d.SameRegs e (fun key => ∃ b, key = R.PN_BAY_GOV_LEVEL.key 0 b)
  rest : e = { d with regs := e.regs, sched := { d.sched with govAcc := e.sched.govAcc } }

theorem Dev.Refilled.zero (d : Dev) : d.Refilled d 0 :=
  ⟨fun _ h => absurd h (Nat.not_lt_zero _), fun _ _ => ⟨rfl, rfl⟩, .refl d _, rfl⟩

/-- The refill of the next bay. -/
theorem Dev.Refilled.succ {d e : Dev} {n : Nat} (h : d.Refilled e n) : d.Refilled (e.refillBay n) (n + 1) := by
  have heff (f : Fld) (b : Nat) : e.eff f 0 b = d.eff f 0 b := by rw [Dev.eff, h.regs.eff]; rfl
  obtain ⟨hlevel, hacc⟩ := h.kept n (.inl le_rfl)
  have hrefilled : e.refilled n = d.refilled n := by
    unfold Dev.refilled
    rw [hlevel, hacc, heff, heff]
  have hrefilledAcc : e.refilledAcc n = d.refilledAcc n := by
    unfold Dev.refilledAcc
    rw [hacc, heff]
  by_cases hen : d.eff R.PN_BAY_GOV_CTL_EN 0 n = 1
  case neg =>
    rw [Dev.refillBay_inactive (by rwa [heff])]
    refine ⟨fun b hb hon => h.active b ?_ hon, fun b hb => h.kept b ?_, h.regs, h.rest⟩
    · exact lt_of_le_of_ne (Nat.lt_succ_iff.mp hb) (fun he => hen (he ▸ hon))
    · exact hb.imp (fun hb => by omega) id
  case pos =>
    have hother (b : Nat) (hb : b ≠ n) : (e.refillBay n).get R.PN_BAY_GOV_LEVEL 0 b = e.get R.PN_BAY_GOV_LEVEL 0 b ∧
        Tab.get (e.refillBay n).sched.govAcc b 0 = Tab.get e.sched.govAcc b 0 := by
      rw [Dev.refillBay_active (by rwa [heff])]
      exact ⟨Dev.get_set_ne _ _ _ _ _ _ _ _ (fun he => hb (levelKey_inj he).symm),
        (Tab.get_set e.sched.govAcc _ _ _ _).trans (if_neg hb.symm)⟩
    have hself : levelInt ((e.refillBay n).get R.PN_BAY_GOV_LEVEL 0 n) = d.refilled n ∧
        Tab.get (e.refillBay n).sched.govAcc n 0 = d.refilledAcc n := by
      rw [Dev.refillBay_active (by rwa [heff]), Dev.get_set_self, hrefilled, hrefilledAcc]
      refine ⟨?_, (Tab.get_set e.sched.govAcc _ _ _ _).trans (if_pos rfl)⟩
      rw [show R.PN_BAY_GOV_LEVEL.bound = 2 ^ 32 from rfl, Nat.mod_eq_of_lt (levelNat_lt _)]
      exact levelInt_levelNat (d.refilled_bounds n)
    refine ⟨fun b hb hon => ?_, fun b hb => ?_, h.regs.trans ?_, ?_⟩
    · by_cases hbn : b = n
      · exact hbn ▸ hself
      · obtain ⟨hl, ha⟩ := hother b hbn
        rw [hl, ha]
        exact h.active b (by omega) hon
    · have hbn : b ≠ n := by
        rintro rfl
        exact hb.elim (by omega) (fun hoff => hoff hen)
      obtain ⟨hl, ha⟩ := hother b hbn
      rw [hl, ha]
      exact h.kept b (hb.imp (fun hb => by omega) id)
    · rw [Dev.refillBay_active (by rwa [heff])]
      exact ⟨fun key hkey => Dev.look_set _ _ _ _ _ _ (fun he => hkey ⟨n, he.symm⟩), rfl, rfl⟩
    · rw [Dev.refillBay_active (by rwa [heff]), h.rest]
      rfl

theorem Dev.refillBays (d : Dev) (n : Nat) : d.Refilled ((List.range n).foldl (fun a b => a.refillBay b) d) n := by
  induction n with
  | zero => exact .zero d
  | succ n ih =>
    rw [List.range_succ, List.foldl_append]
    exact ih.succ

/-- The refill of a cycle in which one is due and not yet made (R121). -/
theorem Dev.govRefill_due {d : Dev} (h : d.sched.time % 64000 = 0 ∧ d.sched.time ≠ 0 ∧ d.sched.govDone ≠ d.sched.time) :
    ({ d with sched := { d.sched with govDone := d.sched.time } }).Refilled d.govRefill 256 := by
  rw [show d.govRefill = _ from if_pos h]
  exact Dev.refillBays _ _

/-! ## Writes of the PN page (R132, R133) -/

/-- Stage values of fields of one repetition. -/
def Dev.stageAll (d : Dev) (l : List (Fld × Nat)) (b : Nat) : Dev := l.foldl (fun a f => a.stage f.1 f.2 0 b) d

theorem Dev.stage_staged_mono {d : Dev} {key : Nat} (h : key ∈ d.regs.staged) (f : Fld) (v i k : Nat) :
    key ∈ (d.stage f v i k).regs.staged := by
  by_cases hkey : key = f.key i k
  · exact hkey ▸ d.stage_staged f v i k
  · exact List.mem_cons_of_mem _ (List.mem_filter.mpr ⟨h, by simpa using hkey⟩)

/-- Staging values of distinct fields shows each of them, marks each of them, and leaves all the rest. -/
theorem Dev.stageAll_spec (d : Dev) (b : Nat) (l : List (Fld × Nat)) (hl : l.Pairwise (fun f g => f.1.key 0 b ≠ g.1.key 0 b)) :
    (∀ f ∈ l, (d.stageAll l b).get f.1 0 b = f.2 % f.1.bound ∧ f.1.key 0 b ∈ (d.stageAll l b).regs.staged) ∧
    (∀ key ∈ d.regs.staged, key ∈ (d.stageAll l b).regs.staged) ∧
    (d.stageAll l b).regs.eff = d.regs.eff ∧
    (∀ key, (∀ f ∈ l, key ≠ f.1.key 0 b) → Tab.look (d.stageAll l b).regs.vals key = Tab.look d.regs.vals key) ∧
    { d with regs := (d.stageAll l b).regs } = d.stageAll l b := by
  induction l generalizing d with
  | nil => exact ⟨by simp, fun _ h => h, rfl, fun _ _ => rfl, rfl⟩
  | cons f l ih =>
    obtain ⟨hf, hl⟩ := List.pairwise_cons.mp hl
    obtain ⟨hshown, hstaged, heff, hlook, hrest⟩ := ih (d.stage f.1 f.2 0 b) hl
    have hcons : d.stageAll (f :: l) b = (d.stage f.1 f.2 0 b).stageAll l b := rfl
    rw [hcons]
    refine ⟨fun g hg => ?_, fun key h => hstaged key (Dev.stage_staged_mono h _ _ _ _), heff, fun key hkey => ?_, hrest⟩
    · obtain rfl | hg := List.mem_cons.mp hg
      · refine ⟨?_, hstaged _ (Dev.stage_staged _ _ _ _ _)⟩
        rw [Dev.get_congr (hlook _ hf)]
        exact Dev.stage_get_self _ _ _ _ _
      · exact hshown g hg
    · rw [hlook key (fun g hg => hkey g (List.mem_cons_of_mem _ hg))]
      exact Dev.stage_look _ _ _ _ _ _ (hkey f List.mem_cons_self).symm

/-- A command that stages values of distinct fields of one repetition, each as wide as its field. -/
theorem completes_stageAll {c : Instr} {s : State} {g : Dev → Dev} {l : List (Fld × Nat)} {b : Nat}
    (hc : exec c s = s.after g) (hg : g s.dev = s.dev.stageAll l b)
    (hl : l.Pairwise (fun f g => f.1.key 0 b ≠ g.1.key 0 b)) (hv : ∀ f ∈ l, f.2 < f.1.bound) :
    Completes c s (fun p d => p = s.perm ∧ (∀ f ∈ l, d.get f.1 0 b = f.2 ∧ f.1.key 0 b ∈ d.regs.staged) ∧
      d.regs.eff = s.dev.regs.eff ∧
      (∀ key, (∀ f ∈ l, key ≠ f.1.key 0 b) → Tab.look d.regs.vals key = Tab.look s.dev.regs.vals key) ∧
      { s.dev with regs := d.regs } = d) := by
  obtain ⟨hshown, -, heff, hlook, hrest⟩ := s.dev.stageAll_spec b l hl
  refine completes_after hc ⟨rfl, ?_⟩
  rw [hg]
  refine ⟨fun f hf => ?_, heff, hlook, hrest⟩
  obtain ⟨hget, hstaged⟩ := hshown f hf
  exact ⟨hget.trans (Nat.mod_eq_of_lt (hv f hf)), hstaged⟩

theorem bits_lt (n hi lo : Nat) : bits n hi lo < 2 ^ (hi + 1 - lo) := Nat.mod_lt _ (Nat.two_pow_pos _)

/-- The fields of a PN register for bays and the values a write gives them (R132). -/
def pnFields (reg : PnReg) (n : Nat) : List (Fld × Nat) :=
  match reg with
  | .limits => [(R.PN_BAY_LIMITS_MAC_MIN, bits n 12 8), (R.PN_BAY_LIMITS_PIN_MAX, bits n 7 4),
      (R.PN_BAY_LIMITS_PIN_MIN, bits n 3 0)]
  | .gov => [(R.PN_BAY_GOV_BURST, bits n 31 16), (R.PN_BAY_GOV_RATE, bits n 15 0)]
  | .govCtl => [(R.PN_BAY_GOV_CTL_CVV, bits n 1 1), (R.PN_BAY_GOV_CTL_EN, bits n 0 0)]

/-- A write of a PN register for bays is in range (R132). -/
def pnInRange (reg : PnReg) (n : Nat) : Prop :=
  match reg with
  | .limits => 4 ≤ bits n 12 8 ∧ bits n 12 8 ≤ 16 ∧ 4 ≤ bits n 3 0 ∧ bits n 3 0 ≤ 12 ∧ bits n 3 0 ≤ bits n 7 4 ∧
      bits n 7 4 ≤ 12
  | .gov => bits n 31 16 ≠ 0
  | .govCtl => True

theorem pnBayWrite_inRange {reg : PnReg} {n : Nat} (req : Requester) (d : Dev) (h : pnInRange reg n) :
    pnBayWrite req reg n d = d.stageAll (pnFields reg n) d.pnBay := by
  cases reg with
  | limits =>
    obtain ⟨hmac, hmac16, hlo, hlo12, hle, hhi12⟩ := h
    exact if_neg (by omega)
  | gov => exact if_neg h
  | govCtl => rfl

theorem pnBayWrite_outOfRange {reg : PnReg} {n : Nat} (req : Requester) (d : Dev) (h : ¬ pnInRange reg n) :
    pnBayWrite req reg n d = d.err .pn 0 req .inputRange := by
  cases reg with
  | limits =>
    unfold pnInRange at h
    exact if_pos (by omega)
  | gov => exact if_pos (not_not.mp h)
  | govCtl => exact absurd trivial h

/-- The fields of one register at one repetition are told apart by their lowest bits. -/
theorem pnFields_apart (reg : PnReg) (n b : Nat) (hb : b < 0x1000) :
    (pnFields reg n).Pairwise (fun f g => f.1.key 0 b ≠ g.1.key 0 b) := by
  have hne {f g : Fld} (h : f.lo ≠ g.lo ∧ f.lo < 32 ∧ g.lo < 32) : f.key 0 b ≠ g.key 0 b :=
    Fld.key_ne_of_lo h.1 h.2.1 h.2.2 hb hb
  cases reg <;> simp only [pnFields, List.pairwise_cons, List.mem_cons, List.not_mem_nil, or_false, forall_eq_or_imp,
    forall_eq, false_imp_iff, implies_true, and_true, List.Pairwise.nil]
  case limits => exact ⟨⟨hne (by decide), hne (by decide)⟩, hne (by decide)⟩
  case gov => exact hne (by decide)
  case govCtl => exact hne (by decide)

theorem pnFields_lt (reg : PnReg) (n : Nat) : ∀ f ∈ pnFields reg n, f.2 < f.1.bound := by
  cases reg <;> simp only [pnFields, List.mem_cons, List.not_mem_nil, or_false, forall_eq_or_imp, forall_eq]
  case limits => exact ⟨bits_lt _ _ _, bits_lt _ _ _, bits_lt _ _ _⟩
  case gov => exact ⟨bits_lt _ _ _, bits_lt _ _ _⟩
  case govCtl => exact ⟨bits_lt _ _ _, bits_lt _ _ _⟩

/-- The fields of PN_BAY_XLATE and the values a write gives them (R133). -/
def xlateFields (n : Nat) : List (Fld × Nat) :=
  [(R.PN_BAY_XLATE_DOWNGRADE, bits n 16 16), (R.PN_BAY_XLATE_PERMIT, bits n 15 0)]

theorem xlateFields_apart (n b : Nat) (hb : b < 0x1000) :
    (xlateFields n).Pairwise (fun f g => f.1.key 0 b ≠ g.1.key 0 b) :=
  List.pairwise_pair.mpr (Fld.key_ne_of_lo (f := R.PN_BAY_XLATE_DOWNGRADE) (g := R.PN_BAY_XLATE_PERMIT) (by decide)
    (by decide) (by decide) hb hb)

theorem Dev.pnBay_lt (d : Dev) : d.pnBay < 0x1000 := lt_of_lt_of_le (Nat.mod_lt _ (by decide)) (by decide : _ ≤ 0x1000)

/-- A write sets PN_BAY_XLATE.DOWNGRADE of the selected bay (R133). -/
def Dev.setsDowngrade (d : Dev) (n : Nat) : Prop := bits n 16 16 = 1 ∧ d.get R.PN_BAY_XLATE_DOWNGRADE 0 d.pnBay = 0

theorem pnXlateWrite_plain {n : Nat} {d : Dev} (req : Requester) (h : ¬ d.setsDowngrade n) :
    pnXlateWrite req n d = d.stageAll (xlateFields n) d.pnBay := if_neg h

theorem pnXlateWrite_authorized {n : Nat} {d : Dev} (req : Requester) (h : d.setsDowngrade n)
    (hauth : d.authStands 6 d.pnBay = true) :
    pnXlateWrite req n d = (d.authStart.stageAll (xlateFields n) d.pnBay).authDone :=
  (if_pos h).trans (if_pos hauth)

theorem pnXlateWrite_refused {n : Nat} {d : Dev} (req : Requester) (h : d.setsDowngrade n)
    (hauth : d.authStands 6 d.pnBay = false) :
    pnXlateWrite req n d = (d.err .pn 0 req .policyDenied).blockEvent .pn 0 4 :=
  (if_pos h).trans (if_neg (by simp [hauth]))


/-! ## The end of a ceremony (R402, R405, R407) -/

/-- The place is one of the CD page. -/
def cardKey (key : Nat) : Prop := key / 0x20000000 = Blk.cd.page 0

theorem cardKey_status {f : Fld} (h : f.blk = .cd ∧ f.off < 0x1000 ∧ f.lo < 32) : cardKey (f.key 0 0) := by
  obtain ⟨hblk, hoff, hlo⟩ := h
  exact (f.key_page 0 0 hoff hlo (by decide)).trans (by rw [hblk])

/-- The registers of a ceremony that has ended. -/
def Dev.cerCleared (d : Dev) : Dev :=
  ((((d.set R.CD_CER_STATUS_STATE 0).set R.CD_CER_STATUS_CLASS 0).set R.CD_CER_STATUS_BAY 0).set R.CD_CER_STATUS_COUNT 0).set
    R.CD_CER_STATUS_M 0

theorem Dev.cerEnd_eq (d : Dev) (reason : Nat) : ∃ (s : Cards) (p0 p1 p2 : Nat), d.cerEnd reason =
    (({ d.cerCleared with cards := s }).mark .cerClosed .card 0 p0 p1 p2).raiseInt .cd 0 9 := ⟨_, _, _, _, rfl⟩

theorem Dev.cerEnd_reported (d : Dev) (reason : Nat) : ∃ s : Cards,
    Dev.Reported (fun key => reportKey key) { d.cerCleared with cards := s } (d.cerEnd reason) := by
  obtain ⟨s, p0, p1, p2, he⟩ := d.cerEnd_eq reason
  refine ⟨s, ?_⟩
  rw [he]
  exact ((Dev.Reported.refl _).mark _ _ _ _ _ _ _).raiseInt _ _ _ (.inr (reportKey_raw _ _))

/-- The end of a ceremony writes registers of the CD page alone, and reports. -/
theorem Dev.cerEnd_regs (d : Dev) (reason : Nat) :
    d.SameRegs (d.cerEnd reason) (fun key => markKey key ∨ reportKey key ∨ cardKey key) := by
  obtain ⟨s, hrep⟩ := d.cerEnd_reported reason
  have hset (e : Dev) (f : Fld) (hf : f.blk = .cd ∧ f.off < 0x1000 ∧ f.lo < 32) :
      e.SameRegs (e.set f 0) (fun key => markKey key ∨ reportKey key ∨ cardKey key) :=
    ⟨fun key hkey => Dev.look_set _ _ _ _ _ _ (fun he => hkey (.inr (.inr (he ▸ cardKey_status hf)))), rfl, rfl⟩
  have hcleared : d.SameRegs d.cerCleared (fun key => markKey key ∨ reportKey key ∨ cardKey key) :=
    ((((hset d R.CD_CER_STATUS_STATE (by decide)).trans (hset _ R.CD_CER_STATUS_CLASS (by decide))).trans
      (hset _ R.CD_CER_STATUS_BAY (by decide))).trans (hset _ R.CD_CER_STATUS_COUNT (by decide))).trans
      (hset _ R.CD_CER_STATUS_M (by decide))
  have hreport := hrep.regs.mono (more := fun key => markKey key ∨ reportKey key ∨ cardKey key) (fun key h => h.imp id .inl)
  exact ⟨fun key hkey => (hreport.vals key hkey).trans (hcleared.vals key hkey), hreport.eff, hreport.staged⟩

/-- A ceremony that has ended is IDLE. -/
theorem Dev.cerEnd_state (d : Dev) (reason : Nat) : (d.cerEnd reason).get R.CD_CER_STATUS_STATE = 0 := by
  obtain ⟨s, hrep⟩ := d.cerEnd_reported reason
  have hkept := hrep.get R.CD_CER_STATUS_STATE 0 0
    (markKey_false _ _ _ (by decide) (by decide) (by decide) (by decide) (by decide))
    (reportKey_false _ _ _ (by decide) (by decide) (by decide) (by decide) (by decide))
  have hcleared : d.cerCleared.get R.CD_CER_STATUS_STATE = 0 := by
    unfold Dev.cerCleared
    rw [Dev.get_set_ne _ _ _ _ _ _ _ _ (by decide), Dev.get_set_ne _ _ _ _ _ _ _ _ (by decide),
      Dev.get_set_ne _ _ _ _ _ _ _ _ (by decide), Dev.get_set_ne _ _ _ _ _ _ _ _ (by decide), Dev.get_set_self]
    rfl
  exact hkept.trans hcleared

/-- A place of the PN page that no report writes. -/
theorem pnKey_apart {f : Fld} {k : Nat} (h : f.blk = .pn ∧ f.off ≠ 0x010 ∧ f.off ≠ 0x024 ∧ f.off < 0x1000 ∧ f.lo < 32)
    (hk : k < 0x1000) : ¬ (markKey (f.key 0 k) ∨ reportKey (f.key 0 k) ∨ cardKey (f.key 0 k)) := by
  obtain ⟨hblk, hraw, herr, hoff, hlo⟩ := h
  have hpage := f.key_page 0 k hoff hlo hk
  rw [hblk] at hpage
  rintro (hmark | hreport | hcard)
  · exact markKey_false f 0 k (by rw [hblk]; decide) (by rw [hblk]; decide) hoff hlo hk hmark
  · exact reportKey_false f 0 k hraw herr hoff hlo hk hreport
  · exact absurd (hpage.symm.trans hcard) (by decide)

theorem xlateFields_pn (n : Nat) : ∀ f ∈ xlateFields n,
    f.1.blk = .pn ∧ f.1.off ≠ 0x010 ∧ f.1.off ≠ 0x024 ∧ f.1.off < 0x1000 ∧ f.1.lo < 32 := by
  simp only [xlateFields, List.mem_cons, List.not_mem_nil, or_false, forall_eq_or_imp, forall_eq]
  decide

/-- What an authorized setting of DOWNGRADE leaves: the fields of PN_BAY_XLATE are staged, and the ceremony has ended. -/
theorem pnXlateWrite_spent {n : Nat} {d : Dev} (req : Requester) (h : d.setsDowngrade n)
    (hauth : d.authStands 6 d.pnBay = true) :
    let e := pnXlateWrite req n d
    (∀ f ∈ xlateFields n, e.get f.1 0 d.pnBay = f.2 % f.1.bound ∧ f.1.key 0 d.pnBay ∈ e.regs.staged) ∧
      e.regs.eff = d.regs.eff ∧ e.get R.CD_CER_STATUS_STATE = 0 := by
  intro e
  obtain ⟨hshown, -, heff, hlook, -⟩ := d.authStart.stageAll_spec d.pnBay (xlateFields n) (xlateFields_apart n _ d.pnBay_lt)
  have hexecuting : (d.authStart.stageAll (xlateFields n) d.pnBay).get R.CD_CER_STATUS_STATE = 3 := by
    refine (Dev.get_congr (hlook _ fun f hf he => ?_)).trans (Dev.get_set_self _ _ _ _ _)
    exact pnKey_apart (xlateFields_pn n f hf) d.pnBay_lt
      (.inr (.inr (he ▸ cardKey_status (f := R.CD_CER_STATUS_STATE) (by decide))))
  have hend : e = (d.authStart.stageAll (xlateFields n) d.pnBay).cerEnd 0 :=
    (pnXlateWrite_authorized req h hauth).trans (if_pos hexecuting)
  have hregs := (d.authStart.stageAll (xlateFields n) d.pnBay).cerEnd_regs 0
  rw [hend]
  refine ⟨fun f hf => ?_, hregs.eff.trans heff, Dev.cerEnd_state _ _⟩
  obtain ⟨hget, hstaged⟩ := hshown f hf
  exact ⟨(hregs.get _ _ _ (pnKey_apart (xlateFields_pn n f hf) d.pnBay_lt)).trans hget, hregs.staged ▸ hstaged⟩

/-- What an accepted write of PN_BAY_XLATE leaves (R133, R401, R405). -/
theorem pnXlateWrite_accepted {n : Nat} {d : Dev} (req : Requester)
    (h : ¬ d.setsDowngrade n ∨ d.authStands 6 d.pnBay = true) :
    let e := pnXlateWrite req n d
    (∀ f ∈ xlateFields n, e.get f.1 0 d.pnBay = f.2 % f.1.bound ∧ f.1.key 0 d.pnBay ∈ e.regs.staged) ∧
      e.regs.eff = d.regs.eff ∧ (¬ d.setsDowngrade n → { d with regs := e.regs } = e) ∧
      (d.setsDowngrade n → e.get R.CD_CER_STATUS_STATE = 0) := by
  by_cases hsets : d.setsDowngrade n
  case pos =>
    obtain ⟨hshown, heff, hstate⟩ := pnXlateWrite_spent req hsets (h.resolve_left (not_not_intro hsets))
    exact ⟨hshown, heff, fun hplain => absurd hsets hplain, fun _ => hstate⟩
  case neg =>
    obtain ⟨hshown, -, heff, -, hrest⟩ := d.stageAll_spec d.pnBay (xlateFields n) (xlateFields_apart n _ d.pnBay_lt)
    rw [pnXlateWrite_plain req hsets]
    exact ⟨hshown, heff, fun _ => hrest, fun hs => absurd hs hsets⟩

/-- Settles O35: a lane's grant and a step's end case by case, the refill by a fold over the bays, and the writes of the PN
page as lists of staged fields. -/
theorem pinUnitLanesAndGovernor : Obligations.PinUnitLanesAndGovernor := by
  refine ⟨?grant, ?ends, ?faults, ?refill, ?idle, ?write, ?xlate⟩
  case grant =>
    intro s j rest l hwait hl hfree hlow
    exact completes_after rfl ⟨rfl, Dev.pinGrant_lowest hwait (Dev.freeLane_lowest hl hfree hlow)⟩
  case ends =>
    intro s l j r hlane hj hctx
    obtain ⟨⟨hfreed, hothers⟩, hfailures, hcount, hpartly, hwhole⟩ := Dev.pinStepEnd_ends hlane hj hctx
    exact completes_after (f := (·.pinStepEnd l j.clocks)) rfl ⟨rfl, hfreed, hothers, hfailures, hcount,
      fun hfin => hpartly (fun out h => JobEnd.noConfusion (hfin.symm.trans h)), hwhole⟩
  case faults =>
    intro s l j r clocks hlane hj hctx hlate
    obtain ⟨⟨hfreed, -⟩, hbit, hcount, hfailures, hpartly, hwhole⟩ := Dev.pinStepEnd_faults hlane hj hctx hlate
    exact completes_after (f := (·.pinStepEnd l clocks)) rfl ⟨rfl, hfreed, hbit, hcount, hfailures,
      fun hfin => hpartly (fun out h => JobEnd.noConfusion (hfin.symm.trans h)), hwhole⟩
  case refill =>
    intro s hmod hne hdone
    obtain ⟨hactive, hkept, hregs, hrest⟩ := Dev.govRefill_due ⟨hmod, hne, hdone⟩
    exact completes_after (f := (·.govRefill)) rfl ⟨rfl, hactive, fun b hb => hkept b (.inr hb),
      ⟨hregs.vals, hregs.eff, hregs.staged⟩, hrest.symm⟩
  case idle =>
    intro s h
    exact completes_after rfl ⟨rfl, if_neg (fun hdue => by tauto)⟩
  case write =>
    intro s req reg v
    have hstaged (h : pnInRange reg v.toNat) := completes_stageAll (c := .pnBayWrite req reg v) rfl
      (pnBayWrite_inRange req s.dev h) (pnFields_apart reg _ _ s.dev.pnBay_lt) (pnFields_lt reg _)
    have hrefused (h : ¬ pnInRange reg v.toNat) := completes_err (c := .pnBayWrite req reg v) rfl
      (pnBayWrite_outOfRange req s.dev h) (Blk.apart_zero (by decide))
    cases reg <;> exact ⟨hstaged, hrefused⟩
  case xlate =>
    intro s req v b sets
    have hfield (f : Fld × Nat) (hf : f ∈ xlateFields v.toNat) : f.2 % f.1.bound = f.2 := by
      simp only [xlateFields, List.mem_cons, List.not_mem_nil, or_false] at hf
      obtain rfl | rfl := hf <;> exact Nat.mod_eq_of_lt (bits_lt _ _ _)
    refine ⟨fun h => ?_, fun hsets hauth => ?_⟩
    · obtain ⟨hshown, heff, hplain, hspent⟩ := pnXlateWrite_accepted req h
      obtain ⟨hdown, hdownStaged⟩ := hshown (R.PN_BAY_XLATE_DOWNGRADE, _) List.mem_cons_self
      obtain ⟨hpermit, hpermitStaged⟩ := hshown (R.PN_BAY_XLATE_PERMIT, _) (List.mem_cons_of_mem _ List.mem_cons_self)
      exact completes_after (f := pnXlateWrite req v.toNat) rfl ⟨rfl, hdown.trans (hfield _ List.mem_cons_self),
        hpermit.trans (hfield _ (List.mem_cons_of_mem _ List.mem_cons_self)), hdownStaged, hpermitStaged, heff, hplain, hspent⟩
    · have happart : Blk.pn.apart 0 := Blk.apart_zero (by decide)
      refine completes_after (f := pnXlateWrite req v.toNat) rfl ⟨rfl, ?_⟩
      rw [pnXlateWrite_refused req hsets hauth]
      refine ⟨?_, Dev.blockEvent_bit _ happart (by decide),
        (s.dev.err_reported _ _ _ _).blockEvent _ _ _ (.inr (reportKey_raw _ _))⟩
      rw [Dev.blockEvent_get _ (markKey_false _ _ _ happart.1 happart.2 (by decide) (by decide) (by decide)) (by decide)]
      exact s.dev.err_code req .policyDenied happart

end Sys2Proof.Machine

namespace Sys2Proof.Machine

/-! # Bays beyond the 256 of the module

A state of the model holds the bay of a request as a natural number, and the number of a bay's register field among the
places of the register file is linear in the bay (`Fld.key`). The count of a bay of number 256 or more can therefore be a
register of another page. The obligations refuted here speak of every state, and in the states below the count of a request
changes the very register of which the statement says otherwise. -/

/-- A command that completes leaves what its meaning gives. -/
theorem Completes.after {c : Instr} {s : State} {f : Dev → Dev} {P : Perm → Dev → Prop} (h : Completes c s P)
    (hc : exec c s = s.after f) : P s.perm (f s.dev) := by
  obtain ⟨t, ht, -, hP⟩ := h
  rw [hc] at ht
  obtain rfl := Host.Outcome.next.inj ht
  exact hP

/-- The same for a meaning that reads the permanent state. -/
theorem Completes.afterWith {c : Instr} {s : State} {f : Perm → Dev → Dev} {P : Perm → Dev → Prop} (h : Completes c s P)
    (hc : exec c s = s.afterWith f) : P s.perm (f s.perm s.dev) := by
  obtain ⟨t, ht, -, hP⟩ := h
  rw [hc] at ht
  obtain rfl := Host.Outcome.next.inj ht
  exact hP

/-- The bay whose count stands at the place of a field of a later page. -/
def farBay (count f : Fld) (i : Nat) : Nat := f.key i 0 - count.key 0 0

/-- The block after reset, but that context 0 runs a request. -/
def Dev.running (r : Request) : Dev :=
  { Dev.reset with sched := { Dev.reset.sched with ctxs := [(0, { Ctx.empty with state := .running, req := some r })] } }

/-! ## A core's job whose new key finds no room -/

/-- A request of a bay whose count of refusals is a register. -/
def refusedRequest (f : Fld) : Request := { (default : Request) with bay := farBay R.KC_BAY_BUSY f 0 }

/-- A job that stores a session key. -/
def storingJob (f : Fld) : Job :=
  { (default : Job) with
    req := some (refusedRequest f)
    status := .ok
    finish := .store 0 0 { (default : Obj) with key := [0] } true [] }

/-- Context 0 runs the request, and the bay's cache holds nothing. -/
def Dev.roomless (f : Fld) : Dev := (Dev.running (refusedRequest f)).setEff R.KC_BAY_QUOTA 0 0 (farBay R.KC_BAY_BUSY f 0)

/-- Cipher core 0 runs the job. -/
def cipherStoreState : State :=
  ⟨[], Perm.reset, (Dev.roomless R.AS_JOBS).setCore 0 { Core.idle with curJob := some (storingJob R.AS_JOBS) }⟩

/-- Refutes O24: a job's end that finds no room for its new key counts a refusal of its bay, and the count of bay
`farBay R.KC_BAY_BUSY R.AS_JOBS 0` is AS_JOBS of core 0, which then counts the job twice. -/
theorem not_cipherCoresClaimRunAndRelease : ¬ Obligations.CipherCoresClaimRunAndRelease := by
  intro h
  obtain ⟨-, -, hends, -⟩ := h
  obtain ⟨-, -, -, -, -, -, hjobs, -⟩ := Completes.after (f := ashlarJobEnd 0 true)
    (hends cipherStoreState 0 (storingJob R.AS_JOBS) rfl rfl rfl) rfl
  exact absurd hjobs (by decide +kernel)

/-- Hash core 0 runs the job. -/
def hashStoreState : State :=
  ⟨[], Perm.reset, (Dev.roomless R.HS_JOBS).setHash 0 { Core.idle with curJob := some (storingJob R.HS_JOBS) }⟩

/-- Refutes O23: as for a cipher core, the refusal of a new key of bay `farBay R.KC_BAY_BUSY R.HS_JOBS 0` counts in HS_JOBS of
hash core 0. -/
theorem not_tokensReturnAndHashAndBulkRun : ¬ Obligations.TokensReturnAndHashAndBulkRun := by
  intro h
  obtain ⟨-, hends, -⟩ := h
  obtain ⟨-, -, -, hjobs, -⟩ := Completes.afterWith (f := fun p d => hashJobEndEvent (d.workLevel p.level) 0 true d)
    (hends hashStoreState 0 (storingJob R.HS_JOBS) rfl rfl rfl) rfl
  exact absurd hjobs (by decide +kernel)

/-! ## A resolved key that misses the cache -/

/-- A request of a bay whose count of cache misses is a register of page i of its kind. -/
def missingRequest (f : Fld) (i func : Nat) (tlvs : List Tlv) : Request :=
  { (default : Request) with bay := farBay R.KC_BAY_MISSES f i, func := func, tlvs := tlvs }

/-- A key of a usage. -/
def storedKey (u : Usage) (a : Alg) (m : ModeOfUse) : Obj :=
  { (default : Obj) with
    attrs := { (default : Attrs) with type := .symmetric, usage := u, alg := a, mode := m }
    key := List.replicate 16 1
    intact := true }

/-- Context 0 runs a request whose bay holds one object, number 1; the root is present. -/
def Dev.missing (r : Request) (o : Obj) : Dev :=
  let d := (Dev.running r).set R.KT_STATUS_ROOT 2
  { d with keys := { d.keys with objs := [(objIndex r.bay 1, o)] } }

/-- An ECDSA signature under object 1. -/
def ecdsaRequest : Request := missingRequest R.RN_STATUS_FAIL 0 0x0501 [⟨0x81, [0, 0, 0, 1]⟩]

def ecdsaKey : Obj :=
  { storedKey .d0 (.pk 1) .g with attrs := { (storedKey .d0 (.pk 1) .g).attrs with type := .privateKey } }

/-- The DRBG of the request's bay is due for a reseed. -/
def ecdsaState : State :=
  let d := Dev.missing ecdsaRequest ecdsaKey
  ⟨[], Perm.reset, { d with keys := { d.keys with drbgs := [(ecdsaRequest.bay, { Drbg.fresh with due := true })] } }⟩

/-- Refutes O32: the miss of the key counts in RN_STATUS, whose FAIL becomes 1, so that the DRBG that is due for a reseed
draws nothing, and no job is sent. -/
theorem not_publicKeyFunctionsSendTheirJob : ¬ Obligations.PublicKeyFunctionsSendTheirJob := by
  intro h
  obtain ⟨hsends, -⟩ := h
  obtain ⟨-, ⟨j, hwait, -⟩, -⟩ := Completes.after (f := pkFunction 0x0501 0) (hsends ecdsaState 0 ecdsaRequest
    (.ecdsaSignature 0) 0x0501 2 [ecdsaKey] none _ (by decide) (by decide) rfl ⟨⟨rfl, rfl⟩, rfl, by decide +kernel,
    by decide +kernel, by decide +kernel, by decide +kernel⟩ (by decide +kernel)) rfl
  have hnone : (pkFunction 0x0501 0 ecdsaState.dev).eng.vsWait = [] := by decide +kernel
  rw [hnone] at hwait
  exact absurd hwait (by simp)

/-- An HMAC micro-operation under object 1. -/
def hmacOp : CipherOp :=
  { (default : CipherOp) with kind := .mac 8, mode := .hmac256, key := .handle 1, src := .none, dest := .reg 0 }

def hmacRequest : Request := missingRequest R.HS_SERVICE_OFFLINE 0 0 []

def hmacKey : Obj := storedKey .m7 .hmac .c

/-- Every hash core but core 0 is offline. -/
def hmacState : State :=
  ⟨[], Perm.reset, (List.range 15).foldl (fun d h => d.set R.HS_SERVICE_OFFLINE 1 (h + 1)) (Dev.missing hmacRequest hmacKey)⟩

/-- Refutes O21: the miss of the key counts in HS_SERVICE of hash core 0, whose OFFLINE becomes 1, so that the HMAC finds no hash
core and waits. -/
theorem not_microopsReachTheirUnits : ¬ Obligations.MicroopsReachTheirUnits := by
  intro h
  obtain ⟨-, hhmac, -⟩ := h
  have hkey : (hmacState.dev.microKey 0 hmacRequest hmacOp.key).1 = .key .m7 .hmac (some .c) hmacKey.key false := by
    decide +kernel
  obtain ⟨-, hwait, -⟩ := Completes.afterWith (f := fun p d => cipherMicroop (d.workLevel p.level) 0 hmacOp d)
    (hhmac hmacState 0 hmacOp hmacRequest .m7 .hmac (some .c) hmacKey.key false _ (.reg 0) 0 ⟨rfl, rfl⟩ (by decide)
    (Prod.ext hkey rfl) (by decide +kernel) (.inl rfl) (by decide +kernel) rfl (by decide) (by decide +kernel) rfl) rfl
  exact absurd hwait (by decide +kernel)

end Sys2Proof.Machine

namespace Sys2Proof.Machine

/-! # What resolving keys leaves (R111, R190, R195 to R198) -/

/-- Between two states keys have been looked up for a context: the registers, the key island and the contexts have changed
alone, the context holds its request with what is outstanding, fills go on, and no key of a list has left the cache. -/
structure Dev.Resolves (c : Nat) (keep : List Nat) (d e : Dev) : Prop where
  shape : ∃ (t : Tab Nat) (k : Keys) (x : Tab Ctx),
    e = { d with regs := { d.regs with vals := t }, keys := k, sched := { d.sched with ctxs := x } }
  req : (e.ctx c).req = (d.ctx c).req
  outstanding : (e.ctx c).outstanding = (d.ctx c).outstanding
  fills : e.keys.fills = d.keys.fills
  cached : ∀ b, ∀ h ∈ keep, d.cached b h = true → e.cached b h = true

section
variable {c : Nat} {keep : List Nat} {d e g : Dev}

theorem Dev.Resolves.refl (d : Dev) : d.Resolves c keep d := ⟨⟨_, _, _, rfl⟩, rfl, rfl, rfl, fun _ _ _ h => h⟩

theorem Dev.Resolves.trans (h : d.Resolves c keep e) (k : e.Resolves c keep g) : d.Resolves c keep g := by
  refine ⟨?_, k.req.trans h.req, k.outstanding.trans h.outstanding, k.fills.trans h.fills,
    fun b i hi hc => k.cached b i hi (h.cached b i hi hc)⟩
  obtain ⟨t, x, m, rfl⟩ := h.shape
  obtain ⟨u, y, n, rfl⟩ := k.shape
  exact ⟨u, y, n, rfl⟩

theorem Dev.Resolves.eng (h : d.Resolves c keep e) : e.eng = d.eng := by
  obtain ⟨t, k, x, rfl⟩ := h.shape; rfl

theorem Dev.Resolves.presented (h : d.Resolves c keep e) : e.sched.presented = d.sched.presented := by
  obtain ⟨t, k, x, rfl⟩ := h.shape; rfl

/-- A change of the key island that leaves the fills and the cache. -/
theorem Dev.Resolves.of_keys (d : Dev) (k : Keys) (hf : k.fills = d.keys.fills) (hc : k.cache = d.keys.cache) :
    d.Resolves c keep { d with keys := k } :=
  ⟨⟨_, _, _, rfl⟩, rfl, rfl, hf, fun b h _ hcached => by rwa [Dev.cached, hc]⟩

/-- A change of the context that leaves its request and what is outstanding. -/
theorem Dev.Resolves.setCtx (d : Dev) {x : Ctx} (hr : x.req = (d.ctx c).req) (ho : x.outstanding = (d.ctx c).outstanding) :
    d.Resolves c keep (d.setCtx c x) := by
  have hctx : (d.setCtx c x).ctx c = x := (Dev.ctx_setCtx _ _ _ _).trans (if_pos rfl)
  exact ⟨⟨_, _, _, rfl⟩, by rw [hctx, hr], by rw [hctx, ho], rfl, fun _ _ _ h => h⟩

theorem Dev.Resolves.useNode (d : Dev) (owner purpose : Nat) : d.Resolves c keep (d.useNode owner purpose) := .of_keys d _ rfl rfl

/-- A count of a register field. -/
theorem Dev.Resolves.set (d : Dev) (f : Fld) (v i k : Nat) : d.Resolves c keep (d.set f v i k) :=
  ⟨⟨_, _, _, rfl⟩, rfl, rfl, rfl, fun _ _ _ h => h⟩

/-- Dropping an entry from the cache whose key is none of a list. -/
theorem Dev.Resolves.drop (d : Dev) {e : CacheEntry} (he : e.handle ∉ keep) :
    d.Resolves c keep { d with keys := { d.keys with cache := d.keys.cache.filter (· ≠ e) } } := by
  refine ⟨⟨_, _, _, rfl⟩, rfl, rfl, rfl, fun b h hh hcached => ?_⟩
  obtain ⟨x, hx, hkey⟩ := List.any_eq_true.mp hcached
  refine List.any_eq_true.mpr ⟨x, List.mem_filter.mpr ⟨hx, ?_⟩, hkey⟩
  have hhandle : x.handle = h := by simp only [Bool.and_eq_true, beq_iff_eq] at hkey; exact hkey.2
  simpa using fun hxe : x = e => he (hxe ▸ hhandle ▸ hh)

/-- Evicting entries leaves the keys of the request (R197). -/
theorem Dev.Resolves.evictFor (d : Dev) (bay n : Nat) : d.Resolves c keep (d.evictFor bay keep n) := by
  have hstep (e : CacheEntry) (a : Dev) (h : d.Resolves c keep a) : d.Resolves c keep
      (if a.cacheUsed bay + n > a.eff R.KC_BAY_QUOTA 0 bay ∧ a.evictable keep e then
        { a with keys := { a.keys with cache := a.keys.cache.filter (· ≠ e) } } else a) := by
    split
    next hevict =>
      refine h.trans (.drop a fun hkeep => ?_)
      have hevictable := hevict.2
      simp [Dev.evictable, hkeep] at hevictable
    next => exact h
  exact List.foldlRecOn _ _ (.refl d) (fun a h e _ => hstep e a h)

/-- A key comes into the cache (R197, R198). -/
theorem Dev.Resolves.cacheIn (d : Dev) (bay h size : Nat) : d.Resolves c keep (d.cacheIn bay keep h size) := by
  unfold Dev.cacheIn
  split
  next e he =>
    refine ⟨⟨_, _, _, rfl⟩, rfl, rfl, rfl, fun b k _ hcached => ?_⟩
    obtain ⟨x, hx, hkey⟩ := List.any_eq_true.mp hcached
    refine List.any_eq_true.mpr ⟨x, ?_, hkey⟩
    by_cases hxe : x = e <;> simp [hx, hxe]
  next =>
    have hadded : d.Resolves c keep { d.evictFor bay keep size with keys := { (d.evictFor bay keep size).keys with
        cache := (d.evictFor bay keep size).keys.cache ++ [⟨bay, h, size⟩] } } := by
      refine (Dev.Resolves.evictFor d bay size).trans ⟨⟨_, _, _, rfl⟩, rfl, rfl, rfl, fun b k _ hcached => ?_⟩
      obtain ⟨x, hx, hkey⟩ := List.any_eq_true.mp hcached
      exact List.any_eq_true.mpr ⟨x, List.mem_append_left _ hx, hkey⟩
    dsimp only
    split
    · exact hadded
    · exact hadded.trans (.set _ _ _ _ _)

theorem Dev.Resolves.consume (d : Dev) (bay h : Nat) (o : Obj) : d.Resolves c keep (d.consume bay h o) := by
  unfold Dev.consume Dev.setObj
  dsimp only
  split
  · exact .refl d
  · split
    · split
      · exact .of_keys d _ rfl rfl
      · exact .refl d
    · exact .of_keys d _ rfl rfl

theorem Dev.Resolves.useRow (d : Dev) (bay : Nat) (done : List Nat) (ws : List Want) :
    d.Resolves c keep (d.useRow bay done ws).2 := by
  induction ws generalizing d done with
  | nil => exact .refl d
  | cons w ws ih =>
    unfold Dev.useRow
    split
    next o _ =>
      split
      · split
        · exact .refl d
        · exact ih d done
      · split
        · exact .refl d
        · split
          · exact .consume d bay w.handle o
          · exact (Dev.Resolves.consume d bay w.handle o).trans (ih _ _)
    next => exact .refl d

theorem Dev.Resolves.of_useRow {bay : Nat} {ws : List Want} {p : Option Status} {done : List Nat}
    (heq : d.useRow bay done ws = (p, e)) : d.Resolves c keep e := by
  have hrow := Dev.Resolves.useRow (c := c) (keep := keep) d bay done ws
  rwa [heq] at hrow

theorem Dev.Resolves.waitReservation (d : Dev) (k bay : Nat) (handles nonces : List Nat) :
    d.Resolves c keep (d.waitReservation k bay handles nonces) := by
  have hnonces : d.Resolves c keep (nonces.foldl (fun a i => a.reserveNonce i) d) :=
    List.foldlRecOn _ _ (.refl d) (fun a h i _ => h.trans (.of_keys a _ rfl rfl))
  exact hnonces.trans (.of_keys _ _ rfl rfl)

/-- Resolving the keys of a context's request. -/
theorem Dev.Resolves.resolve (d : Dev) (bay : Nat) (ws : List Want) (ivs : List Nat) :
    d.Resolves c (ws.map (·.handle)) (d.resolve c bay ws ivs).2 := by
  unfold Dev.resolve
  split
  · exact .refl d
  · dsimp only
    split
    · exact .waitReservation d _ _ _ _
    · have hcache (l : List (Want × Obj)) : d.Resolves c (ws.map (·.handle))
          (l.foldl (fun a p => a.cacheIn bay (ws.map (·.handle)) p.1.handle p.2.entries) d) :=
        List.foldlRecOn _ _ (.refl d) (fun a h p _ => h.trans (.cacheIn a bay _ _))
      have hnode (a : Dev) (h : d.Resolves c (ws.map (·.handle)) a) (p : Bool) :
          d.Resolves c (ws.map (·.handle)) (if p then a.useNode bay 1 else a) := by
        cases p
        · exact h
        · exact h.trans (.useNode a bay 1)
      have hheld (a : Dev) (h : d.Resolves c (ws.map (·.handle)) a) (l : List Nat) :
          d.Resolves c (ws.map (·.handle)) (a.setCtx c { a.ctx c with handles := l }) :=
        h.trans (.setCtx (x := { a.ctx c with handles := l }) a rfl rfl)
      split
      next heq => exact (hheld _ (hnode _ (hcache _) _) _).trans (.of_useRow heq)
      next heq => exact (hheld _ (hnode _ (hcache _) _) _).trans (.of_useRow heq)

/-- Resolving a handle for a context (R65, R190). -/
theorem Dev.Resolves.loadHandle (d : Dev) (r : Request) (h : Nat) : d.Resolves c [h] (d.loadHandle c r h).2 := by
  unfold Dev.loadHandle
  dsimp only
  split
  · split <;> exact .refl d
  · split
    · exact .refl d
    · split
      · exact .refl d
      · have hres := Dev.Resolves.resolve (c := c) d r.bay [{ handle := h, fits := fun o => o.attrs.type ≠ .privateKey }] []
        split
        · exact hres.trans (.setCtx _ rfl rfl)
        · exact hres.trans (.setCtx _ rfl rfl)
        · exact hres

theorem Dev.Resolves.of_loadHandle {r : Request} {h : Nat} {p : Resolved} (heq : d.loadHandle c r h = (p, e)) :
    d.Resolves c [h] e := by
  have hload := Dev.Resolves.loadHandle (c := c) d r h
  rwa [heq] at hload

end

end Sys2Proof.Machine

namespace Sys2Proof.Machine

/-! # Public faults, a full cache, and the wait for a core (R63, R100, R111, R197, R253, R574) -/

/-! ## How a program runs -/

/-- A running request's program runs where the cache can hold its keys. -/
theorem Dev.runProgram_runs {d : Dev} {c func : Nat} {r : Request} (h : d.Runs c r) (hf : r.func = func)
    (hb : d.cacheBusy r.bay r.handles = false) (body : Request → Dev → Dev) : d.runProgram c func body = body r d := by
  unfold Dev.runProgram
  dsimp only
  rw [h.1]
  dsimp only
  rw [if_pos ⟨h.2, hf⟩, if_neg (by simp [hb])]

/-- It ends with ST_BUSY where the cache cannot (R197). -/
theorem Dev.runProgram_busy {d : Dev} {c func : Nat} {r : Request} (h : d.Runs c r) (hf : r.func = func)
    (hb : d.cacheBusy r.bay r.handles = true) (body : Request → Dev → Dev) :
    d.runProgram c func body = (d.refuseBusy r.bay).finish c r .busy [] := by
  unfold Dev.runProgram
  dsimp only
  rw [h.1]
  dsimp only
  rw [if_pos ⟨h.2, hf⟩, if_pos hb]

/-- The context of a presented completion waits for it to retire. -/
theorem Dev.finish_ctx (d : Dev) (c k : Nat) (r : Request) (st : Status) (out : List Tlv) :
    (d.finish c r st out).ctx k = if c = k then { d.ctx c with state := .waiting } else d.ctx k :=
  Dev.ctx_setCtx d c k { d.ctx c with state := .waiting }

/-- A completion presented at once ends the function, and serves no more than its context. -/
theorem Dev.finish_ends (d : Dev) (c : Nat) (r : Request) (st : Status) (out : List Tlv) :
    d.Ends (d.finish c r st out) c r st out := by
  have hself : (d.finish c r st out).ctx c = { d.ctx c with state := .waiting } := by
    rw [Dev.finish_ctx, if_pos rfl]
  refine ⟨rfl, rfl, by rw [hself], by rw [hself], fun k hk => ?_, rfl, ?_, fun _ _ => rfl, rfl, rfl⟩
  · rw [Dev.finish_ctx, if_neg hk.symm]
  · exact ⟨rfl, rfl, rfl, rfl, rfl, rfl, rfl, rfl, rfl, rfl, rfl, rfl, rfl⟩

/-- A program whose first check gives a status ends with it, before any key is resolved (R111). -/
theorem completes_firstFault {i : Instr} {s : State} {c : Nat} {r : Request} {f : Dev → Dev} {func : Nat} {st : Status}
    {x : Request → Option Status} {l : Request → Dev → List (Option Status)} {k : Request → Dev → Dev → Dev}
    (hrun : s.dev.Runs c r) (hfunc : r.func = func) (hbusy : s.dev.cacheBusy r.bay r.handles = false) (hx : x r = some st)
    (hi : exec i s = s.after f) (hf : ∀ d, f d = d.runProgram c func fun r d => d.checked c r (x r :: l r d) (k r d)) :
    Completes i s (fun p d => p = s.perm ∧ s.dev.Ends d c r st [] ∧ d.keys = s.dev.keys) := by
  have hends : f s.dev = s.dev.finish c r st [] := by
    rw [hf, Dev.runProgram_runs hrun hfunc hbusy, Dev.checked, firstFault, List.findSome?_cons, hx]
    rfl
  refine completes_after hi ⟨rfl, ?_⟩
  rw [hends]
  exact ⟨s.dev.finish_ends c r st [], rfl⟩

theorem panFault_bad {p : Option (List Nat)} (h : panOk p = false) : panFault p = some .panFormat := by
  rw [panFault, failIf, h]; rfl

theorem emvFault_bad {r : Request} (h : panOk (r.digits 1) = false) : emvFault r = some .panFormat := by
  have hpan : emvFault.panFault' (r.digits 1) = some .panFormat := panFault_bad h
  rw [emvFault, firstFault, List.findSome?_cons, hpan]
  rfl

/-- A program whose keys the cache cannot hold ends with ST_BUSY, which is counted (R197). -/
theorem completes_busy {i : Instr} {s : State} {c : Nat} {r : Request} {f : Dev → Dev} {func : Nat}
    {body : Request → Dev → Dev} (hrun : s.dev.Runs c r) (hfunc : r.func = func)
    (hbusy : s.dev.cacheBusy r.bay r.handles = true) (hi : exec i s = s.after f)
    (hf : ∀ d, f d = d.runProgram c func body) :
    Completes i s (fun p d => p = s.perm ∧
      d.sched.presented = s.dev.sched.presented ++ [⟨r, c, (s.dev.ctx c).owned, .busy, []⟩] ∧ d.eng = s.dev.eng ∧
      d.keys = s.dev.keys ∧
      d.get R.KC_BAY_BUSY 0 r.bay = min (R.KC_BAY_BUSY.bound - 1) (s.dev.get R.KC_BAY_BUSY 0 r.bay + 1)) := by
  refine completes_after hi ⟨rfl, ?_⟩
  rw [hf, Dev.runProgram_busy hrun hfunc hbusy, Dev.finish_presented, Dev.finish_eng, Dev.finish_get, Dev.refuseBusy,
    Dev.occur_sched, Dev.occur_eng, Dev.occur_get, Dev.bumpSat_get_self]
  refine ⟨?_, rfl, ?_, rfl⟩
  · rw [Dev.ctx, Dev.occur_sched]; rfl
  · exact Dev.occur_keys _ _ _ _ _

/-! ## The wait for a core (R63, R231, R253) -/

theorem Dev.withKeys_lacks {d : Dev} {c : Nat} {r : Request} {ws : List Want} {ivs : List Nat} {l : List Obj}
    (h : (d.resolve c r.bay ws ivs).1 = .keys l) (hs : d.coreServes r = false) (k : List Obj → Dev → Dev) :
    d.withKeys c r ws ivs k = d.coreLacks (d.resolve c r.bay ws ivs).2 c r := by
  unfold Dev.withKeys
  split
  next heq => rw [heq] at h; exact Resolved.noConfusion h
  next heq => rw [heq] at h; exact Resolved.noConfusion h
  next heq => rw [heq, if_neg (by simp [hs])]

theorem Request.coreNeed_cvv {r : Request} (h : r.func = 0x0150) : r.coreNeed = .cipher := by
  simp [Request.coreNeed, h]

/-- A CVV generation whose keys resolve and whose core does not serve. -/
theorem cvvGeneration_lacks {d : Dev} {c : Nat} {r : Request} {o : Obj} (hrun : d.Runs c r) (hfunc : r.func = 0x0150)
    (hbusy : d.cacheBusy r.bay r.handles = false)
    (hpublic : firstFault [panFault (r.digits 1), cvvFault r (r.num 4), r.keyForm 0 false] = none)
    (hkeys : (d.resolve c r.bay [r.want 0 (verifyKeyFits .c0 .gen)] []).1 = .keys [o]) (hs : d.coreServes r = false) :
    cvvGeneration c d = d.coreLacks (d.resolve c r.bay [r.want 0 (verifyKeyFits .c0 .gen)] []).2 c r := by
  unfold cvvGeneration
  rw [Dev.runProgram_runs hrun hfunc hbusy, Dev.checked, hpublic]
  exact Dev.withKeys_lacks hkeys hs _

/-- A claimed core holds the job. -/
theorem Core.claim_holds (x : Core) (j : Job) (n : Nat) : (x.claim j n).curJob = some j ∨ (x.claim j n).nextJob = some j := by
  unfold Core.claim
  split
  · exact .inl rfl
  · exact .inr rfl

theorem Dev.core_setCore (d : Dev) (n : Nat) (x : Core) : (d.setCore n x).core n = x :=
  (Tab.get_set _ _ _ _ _).trans (if_pos rfl)

theorem Dev.outstand_ctx (d : Dev) (c k : Nat) : (d.outstand c).ctx k =
    if c = k then { d.ctx c with outstanding := (d.ctx c).outstanding + 1, state := .waiting } else d.ctx k :=
  Dev.ctx_setCtx d c k { d.ctx c with outstanding := (d.ctx c).outstanding + 1, state := .waiting }

/-- A program whose cipher core cannot be claimed leaves the block as it was before its keys resolved. -/
theorem Dev.coreLacks_none {d e : Dev} {c : Nat} {r : Request} (hneed : r.coreNeed = .cipher) (h : d.payCore = none) :
    d.coreLacks e c r = d := by
  unfold Dev.coreLacks
  rw [hneed]
  dsimp only
  rw [h]

/-- A program that claims a cipher core behind a stopped clock waits for it. -/
theorem Dev.coreLacks_some {d e : Dev} {c n : Nat} {r : Request} (hneed : r.coreNeed = .cipher) (h : d.payCore = some n) :
    ∃ j : Job, j.req = some r ∧ d.coreLacks e c r =
      ((e.setCore n ((e.core n).claim j 1)).occur 0x031 (some r.bay) 0).outstand c := by
  refine ⟨{ microJob c r .none [] .ok 0 with finish := .whole [] }, rfl, ?_⟩
  unfold Dev.coreLacks
  rw [hneed]
  dsimp only
  rw [h]

/-- What a claim of a core for a program leaves. -/
theorem Dev.claimed_waits (d : Dev) (c n bay : Nat) (x : Core) :
    let e := ((d.setCore n x).occur 0x031 (some bay) 0).outstand c
    e.sched.presented = d.sched.presented ∧ (e.ctx c).state = .waiting ∧
      (e.ctx c).outstanding = (d.ctx c).outstanding + 1 ∧ e.core n = x := by
  intro e
  have hctx : ((d.setCore n x).occur 0x031 (some bay) 0).ctx c = d.ctx c := by
    rw [Dev.ctx, Dev.occur_sched]; rfl
  have hself : e.ctx c = { d.ctx c with outstanding := (d.ctx c).outstanding + 1, state := .waiting } := by
    rw [Dev.outstand_ctx, if_pos rfl, hctx]
  have hpresented : e.sched.presented = ((d.setCore n x).occur 0x031 (some bay) 0).sched.presented := rfl
  have hcores : e.core n = ((d.setCore n x).occur 0x031 (some bay) 0).core n := rfl
  refine ⟨by rw [hpresented, Dev.occur_sched, Dev.setCore_sched], by rw [hself], by rw [hself], ?_⟩
  rw [hcores, Dev.core, Dev.occur_eng]
  exact d.core_setCore n x

/-- Settles O27: the first check of each function, the cache's check before all of them, and the wait of `coreLacks`. -/
theorem publicFaultsEndAFunction : Obligations.PublicFaultsEndAFunction := by
  refine ⟨?pan, ?busy, ?claims, ?waits⟩
  case pan =>
    intro s c r i func tag hrun hfunc hbusy hpan hmem
    have hbad := panFault_bad hpan
    simp only [List.mem_cons, Prod.mk.injEq, List.not_mem_nil, or_false] at hmem
    obtain ⟨rfl, rfl, rfl⟩ | ⟨rfl, rfl, rfl⟩ | ⟨rfl, rfl, rfl⟩ | ⟨rfl, rfl, rfl⟩ | ⟨rfl, rfl, rfl⟩ | ⟨rfl, rfl, rfl⟩ |
      ⟨rfl, rfl, rfl⟩ | ⟨rfl, rfl, rfl⟩ | ⟨rfl, rfl, rfl⟩ | ⟨rfl, rfl, rfl⟩ | ⟨rfl, rfl, rfl⟩ | hmem := hmem
    iterate 11 exact completes_firstFault (x := fun r => panFault (r.digits _)) hrun hfunc hbusy hbad rfl (fun d => rfl)
    obtain ⟨rfl, rfl, rfl⟩ | ⟨rfl, rfl, rfl⟩ | ⟨rfl, rfl, rfl⟩ | ⟨rfl, rfl, rfl⟩ | ⟨rfl, rfl, rfl⟩ | hmem := hmem
    iterate 5 exact completes_firstFault (x := emvFault) hrun hfunc hbusy (emvFault_bad hpan) rfl (fun d => rfl)
    obtain ⟨rfl, rfl, rfl⟩ | ⟨rfl, rfl, rfl⟩ | ⟨rfl, rfl, rfl⟩ | ⟨rfl, rfl, rfl⟩ | ⟨rfl, rfl, rfl⟩ := hmem
    iterate 5 exact completes_firstFault (x := fun r => panFault (r.digits 1)) hrun hfunc hbusy hbad rfl (fun d => rfl)
  case busy =>
    intro s c r i func hrun hfunc hbusy _ hmem
    simp only [List.mem_cons, Prod.mk.injEq, List.not_mem_nil, or_false] at hmem
    obtain ⟨rfl, rfl⟩ | ⟨rfl, rfl⟩ | ⟨rfl, rfl⟩ | ⟨rfl, rfl⟩ | ⟨rfl, rfl⟩ | ⟨rfl, rfl⟩ | ⟨rfl, rfl⟩ := hmem
    all_goals exact completes_busy hrun hfunc hbusy rfl (fun d => rfl)
  case claims =>
    intro s c r o n hrun hfunc hbusy hpublic hkeys hcore hstopped
    have hneed := Request.coreNeed_cvv hfunc
    have hserves : s.dev.coreServes r = false := by simp [Dev.coreServes, hneed, hstopped]
    have hres := Dev.Resolves.resolve (c := c) s.dev r.bay [r.want 0 (verifyKeyFits .c0 .gen)] []
    obtain ⟨j, hj, hlacks⟩ := Dev.coreLacks_some (e := (s.dev.resolve c r.bay [r.want 0 (verifyKeyFits .c0 .gen)] []).2)
      (c := c) hneed hcore
    refine completes_after (f := cvvGeneration c) rfl ⟨rfl, ?_⟩
    rw [cvvGeneration_lacks hrun hfunc hbusy hpublic hkeys hserves, hlacks]
    obtain ⟨hpresented, hstate, houtstanding, hcoreHolds⟩ := Dev.claimed_waits
      (s.dev.resolve c r.bay [r.want 0 (verifyKeyFits .c0 .gen)] []).2 c n r.bay
      (((s.dev.resolve c r.bay [r.want 0 (verifyKeyFits .c0 .gen)] []).2.core n).claim j 1)
    exact ⟨hpresented.trans hres.presented, hstate, by rw [houtstanding, hres.outstanding], j, hj,
      by rw [hcoreHolds]; exact Core.claim_holds _ j 1⟩
  case waits =>
    intro s c r o hrun hfunc hbusy hpublic hkeys hcore
    have hneed := Request.coreNeed_cvv hfunc
    have hserves : s.dev.coreServes r = false := by simp [Dev.coreServes, hneed, hcore]
    refine completes_after (f := cvvGeneration c) rfl ⟨rfl, ?_⟩
    rw [cvvGeneration_lacks hrun hfunc hbusy hpublic hkeys hserves, Dev.coreLacks_none hneed hcore]

end Sys2Proof.Machine

namespace Sys2Proof.Machine

/-! # Micro-operations on keys, random bytes and the Vault (R68, R190, R198, R203, R210, R274) -/

/-! ## Byte strings in pieces -/

theorem chop_flatten {n : Nat} (f : Nat) (b : Bytes) (h : b.length ≤ n * f) : (chop n f b).flatten = b := by
  induction f generalizing b with
  | zero => simpa [chop] using (List.length_eq_zero_iff.mp (by omega)).symm
  | succ f ih =>
    unfold chop
    split
    next hb => simp [hb]
    next hb =>
      have hrest : (b.drop n).length ≤ n * f := by rw [List.length_drop, Nat.mul_succ] at *; omega
      rw [List.flatten_cons, ih _ hrest, List.take_append_drop]

theorem chop_length {n : Nat} (hn : 0 < n) (f : Nat) (b : Bytes) (h : b.length ≤ n * f) :
    (chop n f b).length = (b.length + (n - 1)) / n := by
  induction f generalizing b with
  | zero =>
    have hb : b.length = 0 := by omega
    rw [hb, Nat.zero_add, Nat.div_eq_of_lt (by omega)]
    rfl
  | succ f ih =>
    unfold chop
    split
    next hb =>
      subst hb
      exact (Nat.div_eq_of_lt (show 0 + (n - 1) < n by omega)).symm
    next hb =>
      have hpos : 0 < b.length := List.length_pos_iff.mpr hb
      have hrest : (b.drop n).length ≤ n * f := by rw [List.length_drop, Nat.mul_succ] at *; omega
      rw [List.length_cons, ih _ hrest, List.length_drop]
      by_cases hle : b.length ≤ n
      · rw [Nat.sub_eq_zero_of_le hle, Nat.zero_add, Nat.div_eq_of_lt (by omega),
          Nat.div_eq_of_lt_le (k := 1) (by omega) (by omega)]
      · rw [← Nat.add_div_right _ hn]
        congr 1
        omega

theorem chop_getD {n : Nat} (f : Nat) (b : Bytes) (h : b.length ≤ n * f) (i : Nat) :
    (chop n f b).getD i [] = (b.drop (n * i)).take n := by
  induction f generalizing b i with
  | zero =>
    obtain rfl : b = [] := List.length_eq_zero_iff.mp (by omega)
    simp [chop]
  | succ f ih =>
    unfold chop
    split
    next hb => simp [hb]
    next hb =>
      have hrest : (b.drop n).length ≤ n * f := by rw [List.length_drop, Nat.mul_succ] at *; omega
      cases i with
      | zero => simp
      | succ i =>
        rw [List.getD_cons_succ, ih _ hrest, List.drop_drop]
        congr 2
        ring

section
variable {n : Nat} (hn : 0 < n) (b : Bytes)
include hn

theorem pieces_fuel : b.length ≤ n * (b.length / n + 1) := (Nat.lt_mul_div_succ _ hn).le

theorem pieces_flatten : (pieces n b).flatten = b := chop_flatten _ b (pieces_fuel hn b)

theorem pieces_length : (pieces n b).length = (b.length + (n - 1)) / n := chop_length hn _ b (pieces_fuel hn b)

theorem pieces_getD (i : Nat) : (pieces n b).getD i [] = (b.drop (n * i)).take n := chop_getD _ b (pieces_fuel hn b) i

end

/-- A list is its elements in order. -/
theorem flatMap_getD (l : List Bytes) : (List.range l.length).flatMap (fun i => l.getD i []) = l.flatten := by
  rw [List.flatMap_def]
  congr 1
  refine List.ext_getElem (by simp) fun i h1 h2 => ?_
  simp [List.getElem?_eq_getElem h2]

/-! ## Writing consecutive places of a table -/

/-- General registers written in a row. -/
theorem setRow_look (t : Tab (BitVec 64)) (n m : Nat) (g : Nat → BitVec 64) (h : n + m ≤ 32) :
    let u := (List.range m).foldl (fun t i => if n + i < 32 then Tab.set t (n + i) 0 (g i) else t) t
    (∀ i < m, Tab.get u (n + i) 0 = g i) ∧ ∀ k, k < n ∨ n + m ≤ k → Tab.look u k = Tab.look t k := by
  induction m with
  | zero => exact ⟨fun i hi => absurd hi (Nat.not_lt_zero _), fun _ _ => rfl⟩
  | succ m ih =>
    obtain ⟨hset, hkept⟩ := ih (by omega)
    rw [List.range_succ, List.foldl_append]
    dsimp only [List.foldl_cons, List.foldl_nil]
    rw [if_pos (by omega)]
    refine ⟨fun i hi => ?_, fun k hk => ?_⟩
    · rw [Tab.get_set]
      split
      next he => rw [show i = m by omega]
      next he => exact hset i (by omega)
    · rw [Tab.look_set, if_neg (by omega)]
      exact hkept k (by omega)

/-- Lane registers written in a row. -/
theorem putRow_look (t : Tab Lane) (n m : Nat) (g : Nat → Lane) (h : n + m ≤ 64) :
    ∀ i < m, Tab.look ((List.range m).foldl (fun t i => if n + i < 64 then Tab.put t (n + i) (g i) else t) t) (n + i) =
      some (g i) := by
  induction m with
  | zero => exact fun i hi => absurd hi (Nat.not_lt_zero _)
  | succ m ih =>
    intro i hi
    rw [List.range_succ, List.foldl_append]
    dsimp only [List.foldl_cons, List.foldl_nil]
    rw [if_pos (by omega), Tab.look_put]
    split
    next he => rw [show i = m by omega]
    next he => exact ih (by omega) i (by omega)

/-! ## What a micro-operation leaves (R65, R68) -/

theorem Dev.micro_runs {d : Dev} {c : Nat} {r : Request} (h : d.Runs c r) (body : Request → Ctx → Dev → Dev) :
    d.micro c body = body r (d.ctx c) d := by
  unfold Dev.micro
  dsimp only
  rw [h.1]
  exact if_pos h.2

/-- A micro-operation that ends at once: its token is on its way to the context, which has one more outstanding. -/
structure Dev.Returns (d e : Dev) (c : Nat) (r : Request) (st : Status) : Prop where
  eng : e.eng = { d.eng with tokens := d.eng.tokens ++ [⟨c, some r, st⟩] }
  ctx : e.ctx c = { d.ctx c with outstanding := (d.ctx c).outstanding + 1, state := .waiting }
  keys : e.keys = d.keys
  free : e.free = d.free

theorem Dev.microEnds_returns {d : Dev} {c : Nat} {r : Request} (h : (d.ctx c).req = some r) (st : Status) :
    d.Returns (d.microEnds c r st) c r st := by
  have hself : (d.outstand c).ctx c = { d.ctx c with outstanding := (d.ctx c).outstanding + 1, state := .waiting } := by
    rw [Dev.outstand_ctx, if_pos rfl]
  have heq : d.microEnds c r st = { d.outstand c with eng :=
      { (d.outstand c).eng with tokens := (d.outstand c).eng.tokens ++ [⟨c, some r, st⟩] } } :=
    Dev.jobToken_held (by rw [hself]; exact h) st
  rw [heq]
  exact ⟨rfl, (Dev.ctx_eng _ _ _).trans hself, rfl, rfl⟩

/-- The three micro-operations that name a stored key by its handle. -/
def namesKey (c : Fin 512) (h : Nat) (i : Instr) : Prop :=
  i = .microopKey c (.load h) ∨ i = .microopKey c (.unwrap h) ∨ i = .microopVault c (.read h)

section
variable {s : State} {c : Fin 512} {h : Nat} {r : Request} (hrun : s.dev.Runs c r)
include hrun

/-- A handle that names no key returns row 5's status. -/
theorem completes_handleFault {i : Instr} {st : Status} (hi : namesKey c h i)
    (hfault : s.dev.handleFault r.bay h = some st) :
    Completes i s (fun p d => p = s.perm ∧ d = s.dev.microEnds c r st) := by
  obtain rfl | rfl | rfl := hi <;> refine completes_after rfl ⟨rfl, ?_⟩
  · simp [keyMicroop, Dev.micro_runs hrun, hfault]
  · simp [keyMicroop, Dev.micro_runs hrun, hfault]
  · simp [vaultMicroop, Dev.micro_runs hrun, hfault]

/-- A key that misses the cache starts a fill (R198). -/
theorem completes_fill {i : Instr} (hi : namesKey c h i) (hfault : s.dev.handleFault r.bay h = none)
    (hbusy : s.dev.cacheBusy r.bay [h] = false) (hmiss : s.dev.cached r.bay h = false) :
    Completes i s (fun p d => p = s.perm ∧ d = s.dev.startFill c r h) := by
  obtain rfl | rfl | rfl := hi <;> refine completes_after rfl ⟨rfl, ?_⟩
  · simp [keyMicroop, Dev.micro_runs hrun, hfault, hbusy, hmiss]
  · simp [keyMicroop, Dev.micro_runs hrun, hfault, hbusy, hmiss]
  · simp [vaultMicroop, Dev.micro_runs hrun, hfault, hbusy]

/-- A cached key that resolves is loaded. -/
theorem completes_load {l : List Obj} {d1 : Dev} (hfault : s.dev.handleFault r.bay h = none)
    (hbusy : s.dev.cacheBusy r.bay [h] = false) (hhit : s.dev.cached r.bay h = true)
    (hload : s.dev.loadHandle c r h = (.keys l, d1)) :
    Completes (.microopKey c (.load h)) s (fun p d => p = s.perm ∧ d = d1.microEnds c r .ok) := by
  refine completes_after rfl ⟨rfl, ?_⟩
  simp [keyMicroop, Dev.micro_runs hrun, hfault, hbusy, hhit, hload]

end

/-! ## Deriving a session key (R188, R192, R274) -/

/-- A key that comes into the cache leaves the session keys. -/
theorem Dev.cacheIn_sess (d : Dev) (bay : Nat) (keep : List Nat) (h size : Nat) :
    (d.cacheIn bay keep h size).keys.sess = d.keys.sess := by
  have hevict : (d.evictFor bay keep size).keys.sess = d.keys.sess := by
    unfold Dev.evictFor
    exact List.foldlRecOn (motive := fun a : Dev => a.keys.sess = d.keys.sess) _ _ rfl
      (fun a ha e _ => by split <;> exact ha)
  unfold Dev.cacheIn
  split
  · rfl
  · dsimp only
    split
    · exact hevict
    · exact hevict

theorem Dev.addSession_resolves {c : Nat} (d : Dev) (bay slot : Nat) (o : Obj) :
    d.Resolves c [] (d.addSession bay slot o) :=
  (Dev.Resolves.of_keys d { d.keys with
    sess := Tab.put d.keys.sess (sessIndex bay slot) ⟨o, d.plinth.powerSeq, d.get R.BY_GEN_GEN bay⟩
    lastSlot := Tab.put d.keys.lastSlot bay slot } rfl rfl).trans (.cacheIn _ bay _ o.entries)

theorem Dev.addSession_sess (d : Dev) (bay slot : Nat) (o : Obj) : (d.addSession bay slot o).keys.sess =
    Tab.put d.keys.sess (sessIndex bay slot) ⟨o, d.plinth.powerSeq, d.get R.BY_GEN_GEN bay⟩ := Dev.cacheIn_sess _ _ _ _ _

theorem keyMicroop_derive {d : Dev} {c lane len n slot : Nat} {a : Attrs} {r : Request} {l : Lane} (hrun : d.Runs c r)
    (hlane : Tab.look (d.ctx c).lanes lane = some l) (hsecret : l.secret = true) (htype : a.type = .symmetric)
    (hlen : algLen a.alg n = true) (hroom : (d.ctx c).handles.length < 8) (hslot : d.nextSlot r.bay = some slot)
    (hcache : d.sessionRoom r.bay (d.newObj a (derivedKey ((d.ctx c).read (.lane lane len)) n)).entries = true) :
    let d1 := d.addSession r.bay slot (d.newObj a (derivedKey ((d.ctx c).read (.lane lane len)) n))
    keyMicroop c (.derive lane len a n) d = (d1.setCtx c { d1.ctx c with handles := (d.ctx c).handles ++
      [sessionHandle d.plinth.powerSeq (d.get R.BY_GEN_GEN r.bay) slot] }).microEnds c r .ok := by
  unfold keyMicroop
  rw [Dev.micro_runs hrun]
  dsimp only
  rw [hlane]
  dsimp only
  rw [if_neg (by simp [hsecret]), if_neg (by simp [htype, hlen]; omega), hslot]
  exact if_pos hcache

end Sys2Proof.Machine

namespace Sys2Proof.Machine

/-! # Fills of the key cache, draws and writes of the Vault (R190, R198, R203, R210, R211) -/

/-! ## The end of a fill (R198) -/

theorem Dev.occur_acc (d : Dev) (code : Nat) (bay : Option Nat) (q w : Nat) :
    ∃ a, d.occur code bay q w = { d with log := { d.log with acc := a } } := by
  unfold Dev.occur
  split
  · exact ⟨d.log.acc, rfl⟩
  · exact ⟨_, rfl⟩

/-- The block once a fill has ended and been counted. -/
def Dev.fillEnded (d : Dev) (n : Nat) (a : List Occ) : Dev :=
  { d with keys := { d.keys with fills := d.keys.fills.eraseIdx n }, log := { d.log with acc := a } }

/-- The end of a fill takes it out and counts it. -/
theorem Dev.fillEnded_occur (d : Dev) (n : Nat) (fromNand : Bool) (bay : Nat) :
    let e : Dev := { d with keys := { d.keys with fills := d.keys.fills.eraseIdx n } }
    ∃ a, (if fromNand then e.occur 0x0C0 none 0 else e).occur 0x060 (some bay) (if fromNand then 1 else 0) =
      d.fillEnded n a := by
  intro e
  cases fromNand
  · exact e.occur_acc _ _ _ _
  · obtain ⟨a, ha⟩ := e.occur_acc 0x0C0 none 0 1
    obtain ⟨b, hb⟩ := Dev.occur_acc { e with log := { e.log with acc := a } } 0x060 (some bay) 1 1
    exact ⟨b, by rw [if_pos rfl, ha, if_pos rfl, hb]; rfl⟩

/-- A fill whose record does not load returns the status of row 6. -/
theorem keyCacheFill_fault {d : Dev} {n : Nat} {f : Fill} {o : Obj} {st : Status} (fromNand : Bool)
    (hfill : d.keys.fills[n]? = some f) (hlook : d.lookup f.bay f.handle = .key o) (hfault : d.loadFault o = some st) :
    ∃ a, keyCacheFill n fromNand d = (d.fillEnded n a).jobToken f.ctx f.req st := by
  obtain ⟨a, ha⟩ := d.fillEnded_occur n fromNand f.bay
  have hlook' : (d.fillEnded n a).lookup f.bay f.handle = .key o := hlook
  have hfault' : (d.fillEnded n a).loadFault o = some st := hfault
  refine ⟨a, ?_⟩
  unfold keyCacheFill
  rw [hfill]
  dsimp only
  rw [ha, hlook']
  dsimp only
  rw [hfault']

/-- A key that comes into the cache is there. -/
theorem Dev.cacheIn_cached (d : Dev) (bay : Nat) (keep : List Nat) (h size : Nat) :
    (d.cacheIn bay keep h size).cached bay h = true := by
  unfold Dev.cacheIn Dev.cached
  split
  next e he =>
    refine List.any_eq_true.mpr ⟨e, by simp, ?_⟩
    simpa using List.find?_some he
  next =>
    dsimp only
    split <;> simp [Dev.bumpSat, Dev.set]

/-- Only the scheduler and the engines differ. -/
def Dev.Reruns (d e : Dev) : Prop := ∃ (s : Sched) (g : Eng), e = { d with sched := s, eng := g }

theorem Dev.settle_reruns (d : Dev) (c : Nat) : d.Reruns (d.settle c) := ⟨_, _, rfl⟩

theorem Dev.jobToken_reruns (d : Dev) (c : Nat) (req : Option Request) (st : Status) : d.Reruns (d.jobToken c req st) := by
  unfold Dev.jobToken
  split
  · exact ⟨_, _, rfl⟩
  · exact d.settle_reruns c

/-- A fill whose record is sound brings its key into the cache, and a load goes on to its use check. -/
theorem keyCacheFill_sound {d : Dev} {n : Nat} {f : Fill} {o : Obj} {r : Request} (fromNand : Bool)
    (hfill : d.keys.fills[n]? = some f) (hlook : d.lookup f.bay f.handle = .key o) (hsound : d.loadFault o = none)
    (hreq : f.req = some r) (hheld : (d.ctx f.ctx).req = some r) :
    ∃ (a : List Occ) (e : Dev), (d.fillEnded n a).Resolves f.ctx [f.handle] e ∧ e.cached f.bay f.handle = true ∧
      e.Reruns (keyCacheFill n fromNand d) := by
  obtain ⟨a, ha⟩ := d.fillEnded_occur n fromNand f.bay
  have hlook' : (d.fillEnded n a).lookup f.bay f.handle = .key o := hlook
  have hsound' : (d.fillEnded n a).loadFault o = none := hsound
  have hheld' : ((d.fillEnded n a).ctx f.ctx).req = some r := hheld
  have hin := Dev.Resolves.cacheIn (c := f.ctx) (keep := [f.handle]) (d.fillEnded n a) f.bay f.handle o.entries
  have hfilled := hin.trans (.useNode _ f.bay 1)
  have hcached := Dev.cacheIn_cached (d.fillEnded n a) f.bay [f.handle] f.handle o.entries
  have hload := Dev.Resolves.loadHandle (c := f.ctx)
    (((d.fillEnded n a).cacheIn f.bay [f.handle] f.handle o.entries).useNode f.bay 1) r f.handle
  refine ⟨a, _, hfilled.trans hload, hload.cached _ _ (List.mem_singleton_self _) hcached, ?_⟩
  unfold keyCacheFill
  rw [hfill]
  dsimp only
  rw [ha, hlook']
  dsimp only
  rw [hsound']
  dsimp only
  rw [hreq]
  dsimp only
  rw [if_pos (hfilled.req.trans hheld')]
  split
  next heq => rw [heq]; exact Dev.jobToken_reruns _ _ _ _
  next heq => rw [heq]; exact ⟨_, _, rfl⟩
  next heq => rw [heq]; exact Dev.jobToken_reruns _ _ _ _

/-! ## Draws (R210, R211) -/

/-- The next n free bytes. -/
def Dev.freeBytes (d : Dev) (n : Nat) : Bytes := (List.range n).map (fun i => Config.freeByte (d.free + i))

/-- While the noise sources are healthy a draw succeeds: it takes the next free bytes, and changes the DRBG and its
counts alone. -/
theorem Dev.drbgDraw_healthy {d : Dev} (i n : Nat) (h : d.on R.RN_STATUS_FAIL = false) :
    ∃ (t : Tab Nat) (g : Tab Drbg), d.drbgDraw i n = some (d.freeBytes n,
      { d with regs := { d.regs with vals := t }, keys := { d.keys with drbgs := g }, free := d.free + n }) := by
  unfold Dev.drbgDraw
  dsimp only
  rw [if_neg (by simp [h])]
  split
  · exact ⟨_, _, rfl⟩
  · split <;> exact ⟨d.regs.vals, _, rfl⟩

theorem randMicroop_regs {d d1 : Dev} {c first n : Nat} {r : Request} {b : Bytes} (hrun : d.Runs c r)
    (h : first + n ≤ 32) (hdraw : d.drbgDraw r.bay (8 * n) = some (b, d1)) :
    randMicroop c (.regs first n) d = (d1.applyDest c false (.reg first) b).microEnds c r .ok := by
  unfold randMicroop
  rw [Dev.micro_runs hrun]
  dsimp only
  rw [if_pos h, hdraw]

theorem randMicroop_lane {d d1 : Dev} {c n len : Nat} {u : Usage} {a : Alg} {r : Request} {b : Bytes} (hrun : d.Runs c r)
    (h : n + (len + 31) / 32 ≤ 64) (hdraw : d.drbgDraw r.bay len = some (b, d1)) :
    randMicroop c (.lane n len u a) d = (d1.applyDest c false (.lane n u a false) b).microEnds c r .ok := by
  unfold randMicroop
  rw [Dev.micro_runs hrun]
  dsimp only
  rw [if_pos h, hdraw]

/-- What a draw sent to a context leaves: the engines have its token alone, and the context has its bytes. -/
theorem Dev.drawn_returns {d : Dev} {c : Nat} {r : Request} (hreq : (d.ctx c).req = some r) (t : Tab Nat) (g : Tab Drbg)
    (n : Nat) (dest : Dest) (b : Bytes) :
    let d1 : Dev := { d with regs := { d.regs with vals := t }, keys := { d.keys with drbgs := g }, free := d.free + n }
    let e := (d1.applyDest c false dest b).microEnds c r .ok
    e.eng = { d.eng with tokens := d.eng.tokens ++ [⟨c, some r, .ok⟩] } ∧ e.free = d.free + n ∧
      (e.ctx c).regs = ((d.ctx c).put false dest b).regs ∧ (e.ctx c).lanes = ((d.ctx c).put false dest b).lanes := by
  intro d1 e
  have hput : (d1.applyDest c false dest b).ctx c = (d.ctx c).put false dest b :=
    (Dev.ctx_setCtx _ _ _ _).trans (if_pos rfl)
  obtain ⟨heng, hctx, -, hfree⟩ := Dev.microEnds_returns (d := d1.applyDest c false dest b) (c := c) (r := r)
    (by rw [hput, (Ctx.put_kept _ _ _ _).1, hreq]) .ok
  rw [hput] at hctx
  exact ⟨heng, hfree, by rw [hctx], by rw [hctx]⟩

theorem Dev.freeBytes_length (d : Dev) (n : Nat) : (d.freeBytes n).length = n := by simp [Dev.freeBytes]

/-- Eight of the free bytes at a time. -/
theorem Dev.freeBytes_piece (d : Dev) {n i : Nat} (h : i < n) : ((d.freeBytes (8 * n)).drop (8 * i)).take 8 =
    (List.range 8).map (fun j => Config.freeByte (d.free + 8 * i + j)) := by
  refine List.ext_getElem ?_ fun k h1 h2 => ?_
  · simp only [List.length_take, List.length_drop, Dev.freeBytes_length, List.length_map, List.length_range]
    omega
  · simp [Dev.freeBytes, Nat.add_assoc]

/-- General registers written from bytes. -/
theorem Ctx.put_regs (x : Ctx) {first n : Nat} (h : first + n ≤ 32) {b : Bytes} (hb : b.length = 8 * n) :
    let y := x.put false (.reg first) b
    (∀ i < n, Tab.get y.regs (first + i) 0 = BitVec.ofNat 64 (beNat ((b.drop (8 * i)).take 8))) ∧
      ∀ k, k < first ∨ first + n ≤ k → Tab.look y.regs k = Tab.look x.regs k := by
  have hlen : (pieces 8 b).length = n := by
    rw [pieces_length (by decide), hb]
    omega
  obtain ⟨hset, hkept⟩ := setRow_look x.regs first n (fun i => BitVec.ofNat 64 (beNat ((pieces 8 b).getD i []))) h
  dsimp only [Ctx.put]
  rw [hlen]
  exact ⟨fun i hi => (hset i hi).trans (by rw [pieces_getD (by decide)]), hkept⟩

/-- Lane registers written from bytes, and their bytes read back. -/
theorem Ctx.put_lanes (x : Ctx) {n : Nat} {u : Usage} {a : Alg} {b : Bytes} (h : n + (b.length + 31) / 32 ≤ 64) :
    let y := x.put false (.lane n u a false) b
    (∀ i < (b.length + 31) / 32, Tab.look y.lanes (n + i) = some ⟨(pieces 32 b).getD i [], u, a, false, false⟩) ∧
      y.read (.lane n b.length) = b := by
  have hlen : (pieces 32 b).length = (b.length + 31) / 32 := pieces_length (by decide) b
  intro y
  have hlanes : ∀ i < (b.length + 31) / 32,
      Tab.look y.lanes (n + i) = some ⟨(pieces 32 b).getD i [], u, a, false, false⟩ := by
    rw [← hlen]
    exact putRow_look x.lanes n (pieces 32 b).length (fun i => ⟨(pieces 32 b).getD i [], u, a, false, false⟩)
      (by rw [hlen]; exact h)
  refine ⟨hlanes, ?_⟩
  have hread : (List.range ((b.length + 31) / 32)).flatMap (fun i =>
      match Tab.look y.lanes (n + i) with | some l => l.val | none => []) = b := by
    rw [← hlen]
    refine Eq.trans ?_ ((flatMap_getD (pieces 32 b)).trans (pieces_flatten (by decide) b))
    refine List.flatMap_congr fun i hi => ?_
    rw [hlanes i (by rw [← hlen]; exact List.mem_range.mp hi)]
  exact (congrArg (List.take b.length) hread).trans (List.take_length)

/-! ## Numbers as bytes -/

theorem foldl_be (a : Nat) (b : Bytes) :
    b.foldl (fun a x => a * 256 + x.toNat) a = a * 256 ^ b.length + beNat b := by
  unfold beNat
  induction b generalizing a with
  | nil => simp
  | cons x b ih =>
    rw [List.foldl_cons, List.foldl_cons, ih, ih (0 * 256 + x.toNat), List.length_cons, pow_succ]
    ring

theorem beNat_cons (x : Byte) (b : Bytes) : beNat (x :: b) = x.toNat * 256 ^ b.length + beNat b :=
  (foldl_be (0 * 256 + x.toNat) b).trans (by rw [Nat.zero_mul, Nat.zero_add])

theorem beNat_beBytes (n x : Nat) : beNat (beBytes n x) = x % 256 ^ n := by
  induction n with
  | zero => rw [pow_zero, Nat.mod_one]; rfl
  | succ n ih =>
    have hcons : beBytes (n + 1) x = BitVec.ofNat 8 (x / 256 ^ n) :: beBytes n x := by
      simp [beBytes, List.range_succ]
    have hlen : (beBytes n x).length = n := by simp [beBytes]
    rw [hcons, beNat_cons, ih, hlen, BitVec.toNat_ofNat, Nat.pow_succ 256 n, Nat.mod_mul]
    ring

/-! ## Vault writes (R203, R205, R240) -/

/-- An event of a bay's ring leaves the block's work (R336, R337). -/
theorem Dev.ringEvent_work (d : Dev) (bay : Nat) (event : Event) (p0 p1 : Nat) : d.SameWork (d.ringEvent bay event p0 p1) := by
  have hlog (e : Dev) (l : Rec) (h : d.SameWork e) : d.SameWork { e with log := l } := h.trans (.of_log e l e.outbox)
  have hqueued (l : Rec) (sel : Session → Bool) (x : EvItem) : d.SameWork (((({ d with log := l }).bumpWrap R.BW_EV_HEAD
      bay).raiseInt .bw bay 2).queueItems sel x) :=
    (((hlog d l (.refl d)).set _ _ _ _).raiseInt _ _ _).trans ((Dev.Reported.refl (own := fun _ => False) _).queueItems sel x).work
  have hdropped : d.SameWork ((d.bumpSat R.BW_EV_OVERFLOW bay).raiseInt .by bay 5) :=
    ((Dev.SameWork.refl d).set _ _ _ _).raiseInt _ _ _
  have hmarked (l : Rec) (ev : Event) (isl : Island) (u a b : Nat) : d.SameWork (({ (d.bumpSat R.BW_EV_OVERFLOW bay).raiseInt
      .by bay 5 with log := l }).mark ev isl u a b) :=
    (hlog _ l hdropped).trans ((Dev.Reported.refl (own := fun _ => False) _).mark _ _ _ _ _ _ _).work
  have hplaced (p q r : Prop) [Decidable p] [Decidable q] [Decidable r] (l m : Rec) (sel : Session → Bool) (x : EvItem)
      (u a b : Nat) := Dev.SameWork.ite p (.ite q (hqueued l sel x) ((hqueued l sel x).blockEvent .ic 0 2))
    (.ite r hdropped (hmarked m .bayRingFull .management u a b))
  unfold Dev.ringEvent
  dsimp only
  split
  · exact .ite _ ((hlog d _ (.refl d)).set _ _ _ _) (hplaced _ _ _ _ _ _ _ _ _ _)
  · exact hplaced _ _ _ _ _ _ _ _ _ _

/-- A counter once its next value is assigned under a salt: the next block is reserved while few values remain, and the last
value retires the key (R244 to R246). -/
def Nonce.assigned (x : Nonce) (salt : Bytes) : Nonce :=
  ⟨salt, x.next + 1, x.reservedTo, x.reserving || decide (x.reservedTo < x.next + 1 + 2 ^ 22) && decide (x.reservedTo < 2 ^ 64),
    decide (x.next + 1 = 2 ^ 64)⟩

/-- A counter that is ready and not exhausted assigns its next value (R240 to R246). -/
theorem Dev.takeIv_assigns {d : Dev} (bay : Nat) {i : Nat} (h : (d.nonce i).exhausted = false)
    (hfail : d.on R.RN_STATUS_FAIL = false) : ∃ (g : Tab Drbg) (x : Nonce) (m : Nat) (iv : Bytes),
      x.next = (d.nonce i).next + 1 ∧ (d.takeIv bay i).1 = .iv iv ∧
      ({ d with keys := { d.keys with drbgs := g, nonces := Tab.put d.keys.nonces i x }, free := m }).SameWork
        (d.takeIv bay i).2 := by
  obtain ⟨t, g, hdraw⟩ := Dev.drbgDraw_healthy internalDrbg 3 hfail
  have hmarked (e : Dev) (q : Prop) [Decidable q] (p : Nat) : e.SameWork
      (if q then (e.mark .nonceExhausted .key bay p).ringEvent bay .nonceExhausted p else e) :=
    .ite q (((Dev.Reported.refl (own := fun _ => False) e).mark _ _ _ _ _ _ _).work.trans (Dev.ringEvent_work _ _ _ _ _)) (.refl e)
  unfold Dev.takeIv
  dsimp only
  rw [if_neg (by simp [h]), hdraw]
  by_cases hsalt : (d.nonce i).salt = []
  · rw [if_pos hsalt]
    refine ⟨g, (d.nonce i).assigned (beBytes 4 (d.get R.AS_NONCE_NODE * 2 ^ 20 + beNat (d.freeBytes 3) % 2 ^ 20)), d.free + 3,
      _, rfl, rfl, ?_⟩
    dsimp only
    refine Dev.SameWork.trans ?_ (hmarked _ _ _)
    exact ⟨rfl, rfl, rfl, rfl, rfl, rfl, rfl, rfl, rfl, rfl, rfl, rfl, rfl⟩
  · rw [if_neg hsalt]
    refine ⟨d.keys.drbgs, (d.nonce i).assigned (d.nonce i).salt, d.free, _, rfl, rfl, ?_⟩
    dsimp only
    refine Dev.SameWork.trans ?_ (hmarked _ _ _)
    exact ⟨rfl, rfl, rfl, rfl, rfl, rfl, rfl, rfl, rfl, rfl, rfl, rfl, rfl⟩

/-- A write of an object whose KEK counter is ready is on its way. -/
theorem Dev.vaultWrite_object {d : Dev} {w : VaultWrite} {num : Nat} {o : Obj} (hitem : w.item = .object num o)
    (h : (d.nonce (kekIndex w.bay)).exhausted = false) (hfail : d.on R.RN_STATUS_FAIL = false) :
    ∃ e, d.vaultWrite w = (none, e) ∧ e.eng = d.eng ∧ e.sched = d.sched ∧ e.keys.writes = d.keys.writes ++ [w] ∧
      e.keys.objs = d.keys.objs ∧ (e.nonce (kekIndex w.bay)).next = (d.nonce (kekIndex w.bay)).next + 1 := by
  have hnode : ((d.useNode w.bay 1).nonce (kekIndex w.bay)).exhausted = false := h
  obtain ⟨g, x, m, iv, hnext, hiv, hwork⟩ := Dev.takeIv_assigns w.bay hnode hfail
  refine ⟨{ ((d.useNode w.bay 1).takeIv w.bay (kekIndex w.bay)).2 with
    keys := { ((d.useNode w.bay 1).takeIv w.bay (kekIndex w.bay)).2.keys with
      writes := ((d.useNode w.bay 1).takeIv w.bay (kekIndex w.bay)).2.keys.writes ++ [w] } },
    ?_, hwork.eng, hwork.sched, ?_, ?_, ?_⟩
  · unfold Dev.vaultWrite
    rw [hitem]
    dsimp only
    rw [hiv]
  · rw [hwork.keys]; rfl
  · rw [hwork.keys]; rfl
  · rw [Dev.nonce, hwork.keys]
    refine (congrArg Nonce.next ?_).trans hnext
    exact (Tab.get_put _ _ _ _ _).trans (if_pos rfl)

/-- A write of a lane register's key as a new record (R68, R203). -/
theorem vaultMicroop_write {d e : Dev} {c n len dest num : Nat} {a : Attrs} {r : Request} {l : Lane} (hrun : d.Runs c r)
    (hlane : Tab.look (d.ctx c).lanes n = some l) (hnum : d.nextObject r.bay = some num)
    (hl : l.secret = false ∧ l.usage = a.usage ∧ l.alg = a.alg ∧ a.type = .symmetric)
    (hkey : algLen a.alg len = true ∧ ((d.ctx c).read (.lane n len)).length = len ∧ (modesOf a.usage).contains a.mode = true)
    (hroot : d.rootPresent = true) (hroom : d.quotaRoom r.bay (d.newObj a ((d.ctx c).read (.lane n len))).quotaBytes = true)
    (hready : (d.nonce (kekIndex r.bay)).ready = true)
    (hwrite : ({ d with keys := { d.keys with lastObj := Tab.put d.keys.lastObj r.bay num } } : Dev).vaultWrite
      ⟨r.bay, .object num (d.newObj a ((d.ctx c).read (.lane n len))), c, some r, false, []⟩ = (none, e)) :
    vaultMicroop c (.write n len a dest) d = (e.applyDest c false (.reg dest) (beBytes 8 num)).outstand c := by
  obtain ⟨hsecret, husage, halg, htype⟩ := hl
  obtain ⟨hlen, hbytes, hmode⟩ := hkey
  unfold vaultMicroop
  rw [Dev.micro_runs hrun]
  dsimp only
  rw [hlane, hnum]
  dsimp only
  rw [if_neg (by simp [hsecret, husage, halg, htype]), if_neg (by simp only [hlen, hbytes, hmode]; simp), hroot,
    if_neg (by decide), hroom, if_neg (by decide), hready, if_neg (by decide), hwrite]

theorem beBytes_length (n x : Nat) : (beBytes n x).length = n := by simp [beBytes]

/-- A number of 8 bytes fills one general register. -/
theorem Ctx.put_number (x : Ctx) {dest : Nat} (h : dest < 32) (num : Nat) :
    Tab.get (x.put false (.reg dest) (beBytes 8 num)).regs dest 0 = BitVec.ofNat 64 num := by
  obtain ⟨hset, -⟩ := x.put_regs (n := 1) (first := dest) (by omega) (beBytes_length 8 num)
  refine (hset 0 Nat.one_pos).trans ?_
  rw [Nat.mul_zero, List.drop_zero, List.take_of_length_le (beBytes_length 8 num).le, beNat_beBytes]
  exact BitVec.eq_of_toNat_eq (by simp)

/-- Settles O22: the equation of each micro-operation, and what resolving keys, drawing and a Vault write leave. -/
theorem microopsOnKeysAndTheVault : Obligations.MicroopsOnKeysAndTheVault := by
  refine ⟨?load, ?fill, ?fault, ?derive, ?sound, ?unsound, ?regs, ?lane, ?write⟩
  case load =>
    intro s c h r l d1 hrun hfault hbusy hhit hload
    obtain ⟨t, ht, hpend, hperm, hdev⟩ := completes_load hrun hfault hbusy hhit hload
    have hres := Dev.Resolves.of_loadHandle hload
    obtain ⟨heng, hctx, hkeys, -⟩ := Dev.microEnds_returns (hres.req.trans hrun.1) .ok
    refine ⟨t, ht, hpend, hperm, ?_⟩
    rw [hdev]
    refine ⟨?_, hkeys, ?_, ?_⟩
    · rw [heng, hres.eng]
    · rw [hctx, hres.outstanding]
    · rw [hctx]
  case fill =>
    intro s c h r i hrun hi hfault hbusy hmiss
    obtain ⟨t, ht, hpend, hperm, hdev⟩ := completes_fill hrun hi hfault hbusy hmiss
    refine ⟨t, ht, hpend, hperm, ?_⟩
    rw [hdev]
    refine ⟨rfl, ?_, fun k hk => ?_⟩
    · exact congrArg Ctx.outstanding ((s.dev.outstand_ctx c c).trans (if_pos rfl))
    · exact (s.dev.outstand_ctx c k).trans (if_neg hk.symm)
  case fault =>
    intro s c h r i st hrun hi hfault
    obtain ⟨t, ht, hpend, hperm, hdev⟩ := completes_handleFault hrun hi hfault
    obtain ⟨heng, -, hkeys, -⟩ := Dev.microEnds_returns hrun.1 st
    refine ⟨t, ht, hpend, hperm, ?_⟩
    rw [hdev]
    exact ⟨heng, hkeys⟩
  case derive =>
    intro s c lane len n slot a r l hrun hlane hsecret htype hlen hroom hslot hcache
    have hderive := keyMicroop_derive hrun hlane hsecret htype hlen hroom hslot hcache
    have hsess := s.dev.addSession_sess r.bay slot (s.dev.newObj a (derivedKey ((s.dev.ctx c).read (.lane lane len)) n))
    have hres := Dev.addSession_resolves (c := c) s.dev r.bay slot
      (s.dev.newObj a (derivedKey ((s.dev.ctx c).read (.lane lane len)) n))
    refine completes_after (f := keyMicroop c (.derive lane len a n)) rfl ⟨rfl, ?_⟩
    rw [hderive]
    generalize s.dev.addSession r.bay slot (s.dev.newObj a (derivedKey ((s.dev.ctx c).read (.lane lane len)) n)) = e
      at hsess hres
    have hheld : (e.setCtx c { e.ctx c with handles := (s.dev.ctx c).handles ++
        [sessionHandle s.dev.plinth.powerSeq (s.dev.get R.BY_GEN_GEN r.bay) slot] }).ctx c = { e.ctx c with
          handles := (s.dev.ctx c).handles ++
            [sessionHandle s.dev.plinth.powerSeq (s.dev.get R.BY_GEN_GEN r.bay) slot] } := by
      rw [Dev.ctx_setCtx, if_pos rfl]
    obtain ⟨heng, hctx, hkeys, -⟩ := Dev.microEnds_returns (r := r) (by rw [hheld]; exact hres.req.trans hrun.1) .ok
    refine ⟨?_, ?_, ?_, ?_⟩
    · rw [heng, Dev.setCtx_eng, hres.eng]
    · rw [hkeys, Dev.setCtx_keys, hsess]
      exact ⟨_, (Tab.look_put _ _ _ _).trans (if_pos rfl), rfl, rfl⟩
    · intro i hi
      rw [hkeys, Dev.setCtx_keys, hsess]
      exact (Tab.look_put _ _ _ _).trans (if_neg hi.symm)
    · rw [hctx, hheld]
  case sound =>
    intro s n fromNand f o r hfill hlook hload hreq hheld
    obtain ⟨a, e, hres, hcached, x, g, hrun⟩ := keyCacheFill_sound fromNand hfill hlook hload hreq hheld
    refine completes_after (f := keyCacheFill n fromNand) rfl ⟨rfl, ?_⟩
    rw [hrun]
    refine ⟨hcached, hres.fills, ?_⟩
    obtain ⟨t, k, m, rfl⟩ := hres.shape
    exact ⟨rfl, rfl, rfl, rfl, rfl, rfl, rfl, rfl, rfl, rfl, rfl, rfl, rfl⟩
  case unsound =>
    intro s n fromNand f o r st hfill hlook hload hreq hheld
    obtain ⟨a, hfault⟩ := keyCacheFill_fault fromNand hfill hlook hload
    have hheld' : ((s.dev.fillEnded n a).ctx f.ctx).req = some r := hheld
    refine completes_after (f := keyCacheFill n fromNand) rfl ⟨rfl, ?_⟩
    rw [hfault, hreq, Dev.jobToken_held hheld']
    rfl
  case regs =>
    intro s c first n r hrun hfail hfirst
    obtain ⟨t, g, hdraw⟩ := Dev.drbgDraw_healthy r.bay (8 * n) hfail
    refine completes_after (f := randMicroop c (.regs first n)) rfl ⟨rfl, ?_⟩
    rw [randMicroop_regs hrun hfirst hdraw]
    obtain ⟨heng, hfree, hregs, -⟩ := Dev.drawn_returns hrun.1 t g (8 * n) (.reg first) (s.dev.freeBytes (8 * n))
    obtain ⟨hset, hkept⟩ := (s.dev.ctx c).put_regs hfirst (s.dev.freeBytes_length (8 * n))
    refine ⟨heng, hfree, fun i hi => ?_, fun k hk => ?_⟩
    · rw [hregs, hset i hi, Dev.freeBytes_piece _ hi]
    · rw [hregs, hkept k hk]
  case lane =>
    intro s c n len u a r hrun hfail hfits hpos
    obtain ⟨t, g, hdraw⟩ := Dev.drbgDraw_healthy r.bay len hfail
    refine completes_after (f := randMicroop c (.lane n len u a)) rfl ⟨rfl, ?_⟩
    rw [randMicroop_lane hrun hfits hdraw]
    obtain ⟨heng, -, -, hlanes⟩ := Dev.drawn_returns hrun.1 t g len (.lane n u a false) (s.dev.freeBytes len)
    obtain ⟨hput, hread⟩ := (s.dev.ctx c).put_lanes (n := n) (u := u) (a := a) (b := s.dev.freeBytes len)
      (by rwa [Dev.freeBytes_length])
    rw [Dev.freeBytes_length] at hput hread
    refine ⟨heng, ?_, ⟨(pieces 32 (s.dev.freeBytes len)).getD 0 [], u, a, false, false⟩, ?_, rfl, rfl, rfl, rfl⟩
    · rw [Ctx.read, hlanes]; exact hread
    · rw [hlanes]; exact hput 0 (by omega)
  case write =>
    intro s c n len dest num a r l hrun hlane hnum hsecret husage halg htype hlen hbytes hmode hroot hroom hready hlive hfail
      hdest
    obtain ⟨e, hqueued, heng, hsched, hwrites, hobjs, hnext⟩ := Dev.vaultWrite_object
      (d := { s.dev with keys := { s.dev.keys with lastObj := Tab.put s.dev.keys.lastObj r.bay num } })
      (w := ⟨r.bay, .object num (s.dev.newObj a ((s.dev.ctx c).read (.lane n len))), c, some r, false, []⟩) rfl hlive hfail
    refine completes_after (f := vaultMicroop c (.write n len a dest)) rfl ⟨rfl, ?_⟩
    rw [vaultMicroop_write hrun hlane hnum ⟨hsecret, husage, halg, htype⟩ ⟨hlen, hbytes, hmode⟩ hroot hroom hready hqueued]
    have hctx : ((e.applyDest c false (.reg dest) (beBytes 8 num)).outstand c).ctx c = { (s.dev.ctx c).put false (.reg dest)
        (beBytes 8 num) with outstanding := (s.dev.ctx c).outstanding + 1, state := .waiting } := by
      have hput : (e.applyDest c false (.reg dest) (beBytes 8 num)).ctx c = (s.dev.ctx c).put false (.reg dest)
          (beBytes 8 num) := by
        rw [Dev.applyDest, Dev.ctx_setCtx, if_pos rfl, Dev.ctx, hsched]; rfl
      rw [Dev.outstand_ctx, if_pos rfl, hput]
      rfl
    refine ⟨heng, ⟨_, hwrites, rfl, rfl, rfl, rfl⟩, ?_, hobjs, hnext⟩
    rw [hctx]
    exact (s.dev.ctx c).put_number hdest num

end Sys2Proof.Machine

namespace Sys2Proof.Machine

/-! # PIN fields and offsets (R98, R99, R104, R113) -/

/-! ## The parts of a PIN field -/

/-- The fill nibble at a place of a format's field (R99, R108). -/
def pinFill (f : Nat) (drawn : List Nat) (i : Nat) : Nat :=
  if f = 0 then 0xF else if f = 1 then drawn.getD i 0 % 16 else if f = 3 then 0xA + drawn.getD i 0 % 6 else 0xA

/-- What follows the PIN up to nibble 15. -/
def pinFills (f n : Nat) (drawn : List Nat) : List Nat := ((List.range 14).map (pinFill f drawn)).drop n

/-- The random half of a field of format 4. -/
def pinTail (f : Nat) (drawn : List Nat) : List Nat :=
  if f = 4 then (List.range 16).map (fun i => drawn.getD (14 + i) 0 % 16) else []

/-- The format and the length, the PIN, its fill, and the random half. -/
theorem pinField_eq (f : Nat) (pin drawn : List Nat) :
    pinField f pin drawn = f :: pin.length :: (pin ++ (pinFills f pin.length drawn ++ pinTail f drawn)) := by
  have hhead : pinField f pin drawn = if f = 4 then [f, pin.length] ++ pin ++ pinFills f pin.length drawn ++ pinTail 4 drawn
      else [f, pin.length] ++ pin ++ pinFills f pin.length drawn := rfl
  rw [hhead]
  split
  next hf => subst hf; simp
  next hf => simp [pinTail, hf]

theorem pinFills_length (f n : Nat) (drawn : List Nat) : (pinFills f n drawn).length = 14 - n := by simp [pinFills]

theorem pinTail_length (f : Nat) (drawn : List Nat) : (pinTail f drawn).length = if f = 4 then 16 else 0 := by
  unfold pinTail
  split <;> simp

/-- The formats of R98. -/
theorem formatIndex_ne_none {f : Nat} (h : formatIndex f ≠ none) : f = 0 ∨ f = 1 ∨ f = 3 ∨ f = 4 := by
  by_contra hf
  push Not at hf
  obtain ⟨h0, h1, h3, h4⟩ := hf
  exact h (by simp [formatIndex, h0, h1, h3, h4])

/-- The values that the fill of a format may take, which R104 checks. -/
def fillFits (f x : Nat) : Bool := if f = 0 then x == 0xF else if f = 3 then 0xA ≤ x else if f = 4 then x == 0xA else true

theorem pinFill_fits {f : Nat} (h : formatIndex f ≠ none) (drawn : List Nat) (i : Nat) : fillFits f (pinFill f drawn i) := by
  obtain rfl | rfl | rfl | rfl := formatIndex_ne_none h <;> simp [fillFits, pinFill]

theorem pinFill_lt (f : Nat) (drawn : List Nat) (i : Nat) : pinFill f drawn i < 16 := by
  unfold pinFill
  split_ifs <;> omega

/-- Every fill nibble is the fill of its place. -/
theorem mem_pinFills {f n x : Nat} {drawn : List Nat} (h : x ∈ pinFills f n drawn) : ∃ i, pinFill f drawn i = x := by
  obtain ⟨i, -, hi⟩ := List.mem_map.mp (List.mem_of_mem_drop h)
  exact ⟨i, hi⟩

theorem pinTail_lt {f x : Nat} {drawn : List Nat} (h : x ∈ pinTail f drawn) : x < 16 := by
  unfold pinTail at h
  split at h
  · obtain ⟨i, -, rfl⟩ := List.mem_map.mp h
    exact Nat.mod_lt _ (by decide)
  · exact absurd h List.not_mem_nil

section
variable {f : Nat} {pin : List Nat} (drawn : List Nat)

theorem pinField_length (hlen : pin.length ≤ 12) : (pinField f pin drawn).length = if f = 4 then 32 else 16 := by
  rw [pinField_eq]
  simp only [List.length_cons, List.length_append, pinFills_length, pinTail_length]
  split <;> omega

theorem pinField_lt (hf : formatIndex f ≠ none) (hlen : pin.length ≤ 12) (hpin : ∀ x ∈ pin, x < 10) :
    ∀ x ∈ pinField f pin drawn, x < 16 := by
  intro x hx
  rw [pinField_eq] at hx
  simp only [List.mem_cons, List.mem_append] at hx
  obtain rfl | rfl | hx | hx | hx := hx
  · obtain rfl | rfl | rfl | rfl := formatIndex_ne_none hf <;> decide
  · omega
  · have := hpin x hx
    omega
  · obtain ⟨i, rfl⟩ := mem_pinFills hx
    exact pinFill_lt f drawn i
  · exact pinTail_lt hx

/-- A field holds the PIN it was built from. -/
theorem pinDigits_pinField : pinDigits (pinField f pin drawn) = pin := by
  rw [pinField_eq]
  simp [pinDigits]

/-- The fill of a field, up to nibble 15. -/
theorem pinField_fills :
    (((pinField f pin drawn).take 16).drop 2).drop pin.length = pinFills f pin.length drawn := by
  have hfills : 14 - pin.length = (pinFills f pin.length drawn).length := (pinFills_length _ _ _).symm
  rw [pinField_eq, List.drop_take, List.drop_take, List.drop_succ_cons, List.drop_succ_cons, List.drop_zero, List.drop_left,
    hfills, List.take_left]

end

/-! ## The checks of R104 -/

/-- The checks of R104 in terms of the digits and the fill of a field. -/
theorem pinFieldStatus_eq (f : Nat) (field : List Nat) (lo hi : Nat) : pinFieldStatus f field lo hi =
    if field.getD 0 0 ≠ f ∨ field.getD 1 0 < 4 ∨ field.getD 1 0 > 12 ∨ !(pinDigits field).all (· < 10) ∨
      !(((field.take 16).drop 2).drop (field.getD 1 0)).all (fillFits f) then .pinFormat
    else if field.getD 1 0 < lo ∨ field.getD 1 0 > hi then .pinLength else .ok := by
  have hfill (l : List Nat) : (if f = 0 then l.all (· == 0xF) else if f = 3 then l.all (· ≥ 0xA)
      else if f = 4 then l.all (· == 0xA) else true) = l.all (fillFits f) := by
    unfold fillFits
    split_ifs <;> simp
  unfold pinFieldStatus
  dsimp only
  rw [hfill]
  rfl

/-- A field of a PIN of 4 to 12 digits passes the format checks, so that the limits alone decide. -/
theorem pinFieldStatus_pinField {f : Nat} {pin : List Nat} (drawn : List Nat) (lo hi : Nat) (hf : formatIndex f ≠ none)
    (hmin : 4 ≤ pin.length) (hmax : pin.length ≤ 12) (hpin : ∀ x ∈ pin, x < 10) :
    pinFieldStatus f (pinField f pin drawn) lo hi = if pin.length < lo ∨ hi < pin.length then .pinLength else .ok := by
  have hformat : (pinField f pin drawn).getD 0 0 = f := by rw [pinField_eq]; rfl
  have hcount : (pinField f pin drawn).getD 1 0 = pin.length := by rw [pinField_eq]; rfl
  have hdigits : pin.all (· < 10) = true := List.all_eq_true.mpr fun x hx => decide_eq_true (hpin x hx)
  have hfill : (pinFills f pin.length drawn).all (fillFits f) = true := List.all_eq_true.mpr fun x hx => by
    obtain ⟨i, rfl⟩ := mem_pinFills hx
    exact pinFill_fits hf drawn i
  rw [pinFieldStatus_eq, hformat, hcount, pinDigits_pinField, pinField_fills drawn, hdigits, hfill]
  exact if_neg (by simp; omega)

/-! ## Offsets (R113) -/

theorem getD_lt_ten {l : List Nat} (h : ∀ x ∈ l, x < 10) (i : Nat) : l.getD i 0 < 10 := by
  rw [List.getD_eq_getElem?_getD]
  by_cases hi : i < l.length
  · rw [List.getElem?_eq_getElem hi]
    exact h _ (List.getElem_mem hi)
  · rw [List.getElem?_eq_none (by omega)]
    decide

/-- An offset of as many digits as are checked is the one of R113 where each of its digits is. -/
theorem pinOffset_eq_iff (natural pin offset : List Nat) (len : Nat) : pinOffset natural pin len = offset ↔
    offset.length = len ∧ ∀ i < len, (pin.getD i 0 + 10 - natural.getD i 0) % 10 = offset.getD i 0 := by
  unfold pinOffset
  constructor
  · rintro rfl
    exact ⟨by simp, fun i hi => by simp [hi]⟩
  · rintro ⟨rfl, hdigit⟩
    refine List.ext_getElem (by simp) fun i _ hi => ?_
    have := hdigit i hi
    simp_all

/-- A difference modulo 10 of digits, as a sum. -/
theorem digit_sub_iff {a b c : Nat} (ha : a < 10) (hb : b < 10) (hc : c < 10) :
    (a + 10 - b) % 10 = c ↔ (b + c) % 10 = a := by omega

theorem offsetStatus_ok_iff (natural pin offset : List Nat) (len : Nat) :
    offsetStatus natural pin len (some offset) = .ok ↔ len ≤ pin.length ∧ pinOffset natural pin len = offset := by
  unfold offsetStatus
  split
  next h => simp; omega
  next h =>
    dsimp only
    split
    next ho => simp [ho]; omega
    next ho => simp [ho]

/-- Settles O26: a field is its five parts, which the checks of R104 read back, and an offset is accepted digit by digit. -/
theorem pinFieldsHoldTheirPin : Obligations.PinFieldsHoldTheirPin := by
  refine ⟨?field, ?offset⟩
  case field =>
    intro f lo hi pin fill hf hmin hmax hpin
    exact ⟨pinField_length fill hmax, pinField_lt fill hf hmax hpin, pinDigits_pinField fill,
      pinFieldStatus_pinField fill lo hi hf hmin hmax hpin⟩
  case offset =>
    intro natural pin offset len hnatural hpin hoffset
    have hdigit (i : Nat) := digit_sub_iff (getD_lt_ten hpin i) (getD_lt_ten hnatural i) (getD_lt_ten hoffset i)
    rw [offsetStatus_ok_iff, pinOffset_eq_iff]
    simp only [hdigit]

end Sys2Proof.Machine

namespace Sys2Proof.Machine

/-! # Functions whose keys' misses are the health of the noise sources

The keys of a function resolve before its random bytes are drawn, and the misses of the bay
`farBay R.KC_BAY_MISSES R.RN_STATUS_FAIL 0` count in RN_STATUS.FAIL. -/

/-- The reseed of a DRBG is due. -/
def Dev.reseedDue (d : Dev) (i : Nat) : Dev :=
  { d with keys := { d.keys with drbgs := [(i, { Drbg.fresh with due := true })] } }

/-! ## The translation of a PIN block -/

/-- A translation from format 0 to format 0 under object 1. -/
def translationRequest : Request :=
  missingRequest R.RN_STATUS_FAIL 0 0x0101 [⟨1, [0]⟩, ⟨2, [0]⟩, ⟨3, List.replicate 16 0x34⟩, ⟨4, List.replicate 8 0⟩,
    ⟨0x81, [0, 0, 0, 1]⟩, ⟨0x82, [0, 0, 0, 1]⟩]

def pinKey : Obj := storedKey .p0 .tdes .b

/-- The DRBG of the request's bay is due for a reseed. -/
def translationState : State :=
  ⟨[], Perm.reset, (Dev.missing translationRequest pinKey).reseedDue translationRequest.bay⟩

/-- Refutes O25: the miss of the PIN key makes FAIL 1, so that the DRBG that is due for a reseed gives no fill, and the
function ends with ST_ENTROPY_FAIL in place of a step. -/
theorem not_pinFunctionsTakeOneStep : ¬ Obligations.PinFunctionsTakeOneStep := by
  intro h
  obtain ⟨htranslation, -⟩ := h
  obtain ⟨-, out, ⟨-, hpresented, -⟩, -⟩ := Completes.after (f := pinTranslation 0)
    (htranslation translationState 0 translationRequest [pinKey, pinKey] ⟨rfl, 0, by decide, rfl⟩ (by decide +kernel)
      ⟨⟨rfl, rfl⟩, rfl, by decide +kernel, by decide +kernel, by decide +kernel, by decide +kernel⟩) rfl
  exact absurd hpresented (by decide +kernel)

/-! ## The translation of DUKPT data -/

/-- A translation of one block of AES data from the BDK, object 1, to the data key, object 2. -/
def dataRequest : Request :=
  missingRequest R.RN_STATUS_FAIL 0 0x0211 [⟨1, List.replicate 11 0 ++ [1]⟩, ⟨2, [2]⟩, ⟨3, List.replicate 16 0⟩,
    ⟨4, List.replicate 16 0⟩, ⟨0x81, [0, 0, 0, 1]⟩, ⟨0x82, [0, 0, 0, 2]⟩]

def baseKey : Obj := storedKey .b0 .aes .x

def dataKey : Obj := { storedKey .d0 .aes .e with key := List.replicate 32 1 }

/-- The block with both keys, the BDK in the cache, and with a value reserved for the data key, whose salt is not drawn. -/
def Dev.translating : Dev :=
  let d := Dev.missing dataRequest baseKey
  { d with keys := { d.keys with
    objs := d.keys.objs ++ [(objIndex dataRequest.bay 2, dataKey)]
    cache := [⟨dataRequest.bay, 1, 1⟩]
    nonces := [(nonceIndex dataRequest.bay 2, ⟨[], 0, 1, false, false⟩)] } }

/-- The internal DRBG, which draws salts, is due for a reseed. -/
def dataState : State := ⟨[], Perm.reset, Dev.translating.reseedDue internalDrbg⟩

/-- Refutes O28: the miss of the data key makes FAIL 1, so that the internal DRBG, due for a reseed, gives no salt, and the
translation ends with ST_ENTROPY_FAIL. -/
theorem not_macAndDukptFunctionsAnswer : ¬ Obligations.MacAndDukptFunctionsAnswer := by
  intro h
  obtain ⟨-, -, -, -, htranslation, -⟩ := h
  obtain ⟨-, salt, iv, -, -, -, -, hpresented, -⟩ := Completes.after (f := dukptDataTranslation 0)
    (htranslation dataState 0 dataRequest [baseKey, dataKey]
      ⟨⟨rfl, rfl⟩, rfl, by decide +kernel, by decide +kernel, by decide +kernel, by decide +kernel⟩
      ⟨by decide +kernel, by decide +kernel⟩) rfl
  have hok : (dukptDataTranslation 0 dataState.dev).sched.presented.map (·.status) = [.ok] :=
    congrArg (List.map (·.status)) hpresented
  exact absurd hok (by decide +kernel)

end Sys2Proof.Machine

namespace Sys2Proof.Machine

/-! # Key blocks and tokens whose keys' misses are the health of the noise sources

As for the functions above, the bay of the requests is `farBay R.KC_BAY_MISSES R.RN_STATUS_FAIL 0`: the miss of the key
that a function resolves makes RN_STATUS.FAIL 1, before the function draws. -/

/-! ## A key block that is exported -/

/-- Object 1 is exported under object 1, with no option. -/
def exportRequest : Request :=
  missingRequest R.RN_STATUS_FAIL 0 0x0231 [⟨1, [0]⟩, ⟨0x81, [0, 0, 0, 1]⟩, ⟨0x82, [0, 0, 0, 1]⟩]

/-- A key that protects key blocks and can be exported. -/
def wrappingKey : Obj :=
  let o := storedKey .k0 .aes .b
  { o with attrs := { o.attrs with exportable := true } }

/-- The DRBG of the request's bay, which pads the block, is due for a reseed. -/
def exportState : State := ⟨[], Perm.reset, (Dev.missing exportRequest wrappingKey).reseedDue exportRequest.bay⟩

/-- Refutes O29: the miss of the wrapping key makes FAIL 1, so that the DRBG that is due for a reseed gives no padding, and
the function ends with ST_ENTROPY_FAIL. -/
theorem not_emvAndKeyBlockFunctionsAnswer : ¬ Obligations.EmvAndKeyBlockFunctionsAnswer := by
  intro h
  obtain ⟨-, -, -, -, -, -, -, hexport, -⟩ := h
  obtain ⟨-, pad, -, hpresented, -⟩ := Completes.after (f := keyBlockExport 0)
    (hexport exportState 0 exportRequest wrappingKey wrappingKey
      ⟨⟨rfl, rfl⟩, rfl, by decide +kernel, by decide +kernel, by decide +kernel, by decide +kernel⟩
      (by decide +kernel) (by decide +kernel) (by decide +kernel)) rfl
  have hok : (keyBlockExport 0 exportState.dev).sched.presented.map (·.status) = [.ok] :=
    congrArg (List.map (·.status)) hpresented
  exact absurd hok (by decide +kernel)

/-! ## The retirement of a token -/

/-- A retirement of the token of sixteen zeros under object 1. -/
def retirementRequest : Request :=
  missingRequest R.RN_STATUS_FAIL 0 0x0244 [⟨1, List.replicate 16 0x30⟩, ⟨0x81, [0, 0, 0, 1]⟩]

/-- A key of vault mode, whose tokens keep no digit and have no check digit. -/
def vaultKey : Obj :=
  let o := storedKey .d0 .aes .b
  { o with attrs := { o.attrs with profile := some ⟨0, 0, 0, 0, true⟩ } }

/-- The live entry of the token. -/
def retiredEntry : TokenEntry := ⟨retirementRequest.bay, List.replicate 16 1, List.replicate 16 0, zeros 16, 0, 0, .live⟩

/-- The token's entry stands in the Vault, with a value reserved for the token-vault key, whose salt is not drawn; the
internal DRBG, which draws salts, is due for a reseed. -/
def retirementState : State :=
  let d := (Dev.missing retirementRequest vaultKey).reseedDue internalDrbg
  ⟨[], Perm.reset, { d with keys := { d.keys with
    entries := [(1, retiredEntry)]
    nonces := [(vaultKeyIndex retirementRequest.bay, ⟨[], 0, 1, false, false⟩)] } }⟩

/-- Refutes O31: the miss of the tokenization key makes FAIL 1, so that the internal DRBG, due for a reseed, gives no salt,
and the retirement ends with ST_ENTROPY_FAIL in place of a write of the entry. -/
theorem not_tokensAreMadeAndFound : ¬ Obligations.TokensAreMadeAndFound := by
  intro h
  obtain ⟨-, -, -, -, -, -, hretires, -⟩ := h
  obtain ⟨-, ⟨hwrites, -⟩, -⟩ := Completes.after (f := vaultTokenRetirement 0)
    (hretires retirementState 0 retirementRequest vaultKey 1 retiredEntry
      ⟨⟨rfl, rfl⟩, rfl, by decide +kernel, by decide +kernel, by decide +kernel, by decide +kernel⟩
      (by decide +kernel) (by decide +kernel) (by decide +kernel) ⟨by decide +kernel, by decide +kernel⟩) rfl
  have hnone : (vaultTokenRetirement 0 retirementState.dev).keys.writes = [] := by decide +kernel
  rw [hnone] at hwrites
  exact absurd hwrites (by simp)

end Sys2Proof.Machine

namespace Sys2Proof.Machine

/-! # Serving a request, step by step

What each part of a function's work leaves for `Dev.Serves`, and that the parts compose. -/

/-- The register fields that serving a request may write: those of reports, and the counts of reseeds, of cache misses and
of the bays' event rings. -/
def servedKey (key : Nat) : Prop :=
  markKey key ∨ reportKey key ∨ key = R.RN_RESEEDS.key 0 0 ∨
    ∃ b, key = R.KC_BAY_MISSES.key 0 b ∨ key = R.BW_EV_HEAD.key b 0 ∨ key = R.BW_EV_OVERFLOW.key b 0 ∨
      key = R.BW_EV_REPEAT_GEN.key b 0

section
variable {c : Nat} {d e f : Dev}

theorem Dev.Serves.trans (h : d.Serves e c) (g : e.Serves f c) : d.Serves f c := by
  refine ⟨g.req.trans h.req, fun k hk => (g.others k hk).trans (h.others k hk), ?_, ?_, ?_⟩
  · rw [← g.sched, ← h.sched]
  · have hw := h.work
    have gw := g.work
    exact ⟨rfl, gw.wires.trans hw.wires, rfl, rfl, gw.cards.trans hw.cards, gw.plinth.trans hw.plinth, gw.cs.trans hw.cs,
      gw.life.trans hw.life, gw.gates.trans hw.gates, gw.pair.trans hw.pair, gw.power.trans hw.power, gw.hbm.trans hw.hbm, rfl⟩
  · exact h.regs.trans g.regs

/-- A change of the engines, the key island, the free bytes drawn and what reports hold. -/
theorem Dev.Serves.of_work (hw : ({ d with eng := e.eng, keys := e.keys, free := e.free }).SameWork e)
    (hr : d.SameRegs e servedKey) : d.Serves e c := by
  have hctx (k : Nat) : e.ctx k = d.ctx k := by rw [Dev.ctx, hw.sched]; rfl
  refine ⟨by rw [hctx], fun k _ => hctx k, ?_, ?_, hr⟩
  · rw [hw.sched]
  · exact ⟨rfl, hw.wires, rfl, rfl, hw.cards, hw.plinth, hw.cs, hw.life, hw.gates, hw.pair, hw.power, hw.hbm, rfl⟩

theorem Dev.Serves.of_keys (d : Dev) (k : Keys) : d.Serves { d with keys := k } c :=
  .of_work (.of_parts _ _ _ _ _) ⟨fun _ _ => rfl, rfl, rfl⟩

theorem Dev.Serves.occur (d : Dev) (code : Nat) (bay : Option Nat) (q w : Nat) : d.Serves (d.occur code bay q w) c := by
  unfold Dev.occur
  split
  · exact .of_work (.refl _) (.refl _ _)
  · exact .of_work (.of_parts _ _ _ _ _) ⟨fun _ _ => rfl, rfl, rfl⟩

/-- A change of the context that keeps its request. -/
theorem Dev.Serves.setCtx (d : Dev) {x : Ctx} (hx : x.req = (d.ctx c).req) : d.Serves (d.setCtx c x) c :=
  ⟨by rw [Dev.ctx_setCtx, if_pos rfl, hx], fun k hk => by rw [Dev.ctx_setCtx, if_neg hk.symm], rfl,
    ⟨rfl, rfl, rfl, rfl, rfl, rfl, rfl, rfl, rfl, rfl, rfl, rfl, rfl⟩, fun _ _ => rfl, rfl, rfl⟩

theorem Dev.Serves.settle (d : Dev) : d.Serves (d.settle c) c := .setCtx d rfl

theorem Dev.Serves.outstand (d : Dev) : d.Serves (d.outstand c) c :=
  .setCtx (x := { d.ctx c with outstanding := (d.ctx c).outstanding + 1, state := .waiting }) d rfl

end

end Sys2Proof.Machine

namespace Sys2Proof.Machine

/-! # Reservations, Vault writes, purges and NAND refreshes that have become durable (R169, R190, R203, R207, R244, R521) -/

/-! ## The one waiter of a reservation (R190, R244) -/

/-- An owner without a waiting record has nothing to check. -/
theorem Dev.bulkCheckOwner_empty {d : Dev} {owner : Nat} (h : d.bulkQueue owner = []) (n : Nat) :
    d.bulkCheckOwner owner n = d := by
  cases n with
  | zero => rfl
  | succ n => rw [Dev.bulkCheckOwner, h]; rfl

/-- Nothing waits for a reservation any more. -/
def Dev.unwaited (d : Dev) : Dev := { d with keys := { d.keys with waits := [] } }

section
variable {d : Dev} {c i : Nat} {nonce : Bool} {r : Request} (hwait : d.keys.waits = [⟨c, i, nonce⟩])
include hwait

theorem Dev.waitersOf_only : d.waitersOf i nonce = [c] := by simp [Dev.waitersOf, hwait]

/-- The one waiter runs again. -/
theorem Dev.releaseWaits_only (hreq : (d.ctx c).req = some r) :
    d.releaseWaits i nonce = d.unwaited.setCtx c { d.ctx c with state := .running } := by
  have hnone : (d.keys.waits.filter fun w => !(w.index == i && w.nonce == nonce)) = [] := by simp [hwait]
  have hruns : (d.unwaited.keys.waits.any (fun w => w.ctx == c) || (d.unwaited.ctx c).req.isNone) = false := by
    rw [show d.unwaited.ctx c = d.ctx c from rfl, hreq]; rfl
  rw [Dev.releaseWaits, Dev.waitersOf_only hwait, hnone]
  exact if_neg (Bool.eq_false_iff.mp hruns)

/-- The one waiter of a reservation that fails ends with ST_NONCE_RESERVE, where no record waits for it. -/
theorem Dev.failNonce_only (hnonce : nonce = true) (hreq : (d.ctx c).req = some r) (hqueue : d.bulkQueue (indexBay i) = []) :
    d.failNonce i = d.unwaited.finish c r .nonceReserve [] := by
  subst hnonce
  have hnone : (d.keys.waits.filter fun w => !List.contains [c] w.ctx) = [] := by simp [hwait]
  have hheld : (d.unwaited.ctx c).req = some r := hreq
  have hkept : (d.unwaited.finish c r .nonceReserve []).bulkQueue (indexBay i) = [] := hqueue
  rw [Dev.failNonce, Dev.waitersOf_only hwait, hnone]
  simp only [List.foldl_cons, List.foldl_nil]
  rw [show ({ d with keys := { d.keys with waits := [] } } : Dev) = d.unwaited from rfl, hheld]
  dsimp only
  rw [Dev.bulkNonceHead, hkept]

end

/-- The record of a key with its next uses reserved. -/
def Obj.reserved (o : Obj) : Obj := { o with usesReserved := min 65536 o.usesLeft }

/-- The reservation of a key's next uses is durable. -/
def Dev.usesReserved (d : Dev) (i : Nat) (o : Obj) : Dev :=
  { d with keys := { d.keys with
    useWrites := d.keys.useWrites.filter (· ≠ i)
    objs := Tab.put d.keys.objs (objIndex (indexBay i) (i % 2 ^ 34)) o.reserved } }

/-- A durable use reservation covers the key's next uses, and releases its one waiter. -/
theorem useReservationDurable_only {d : Dev} {n i c : Nat} {o : Obj} {r : Request} (hwrite : d.keys.useWrites[n]? = some i)
    (hobj : Tab.look d.keys.objs (objIndex (indexBay i) (i % 2 ^ 34)) = some o) (hwait : d.keys.waits = [⟨c, i, false⟩])
    (hreq : (d.ctx c).req = some r) (hqueue : d.bulkQueue (indexBay i) = []) :
    useReservationDurable n d = (d.usesReserved i o).unwaited.setCtx c { d.ctx c with state := .running } := by
  have hrelease := Dev.releaseWaits_only (d := d.usesReserved i o) hwait hreq
  rw [useReservationDurable, hwrite]
  dsimp only
  rw [hobj]
  change ((d.usesReserved i o).releaseWaits i false).bulkCheckOwner _ _ = _
  rw [hrelease]
  refine Dev.bulkCheckOwner_empty ?_ _
  exact hqueue

section
variable {d : Dev} {n i c : Nat} {x : Nonce} {r : Request}
  (hcounter : (d.keys.nonces.filter (fun e => e.2.reserving))[n]? = some (i, x)) (hwait : d.keys.waits = [⟨c, i, true⟩])
  (hreq : (d.ctx c).req = some r)
include hcounter hwait hreq

/-- A durable nonce reservation covers the counter's next values, and releases its one waiter. -/
theorem nonceReservationDurable_only : nonceReservationDurable n true d =
    (d.setNonce i { x with reservedTo := min (2 ^ 64) (x.reservedTo + 2 ^ 24), reserving := false }).unwaited.setCtx c
      { d.ctx c with state := .running } := by
  rw [nonceReservationDurable, hcounter]
  exact Dev.releaseWaits_only (d := d.setNonce i _) hwait hreq

/-- A nonce reservation that fails ends its one waiter. -/
theorem nonceReservationDurable_fails (hqueue : d.bulkQueue (indexBay i) = []) : nonceReservationDurable n false d =
    (d.setNonce i { x with reserving := false }).unwaited.finish c r .nonceReserve [] := by
  rw [nonceReservationDurable, hcounter]
  exact Dev.failNonce_only (d := d.setNonce i _) hwait rfl hreq hqueue

end

/-! ## Vault writes (R169, R203) -/

/-- The one write on its way is durable: its contents are in place, and it is counted. -/
def Dev.switched (d : Dev) (w : VaultWrite) : Dev :=
  (({ d with keys := { d.keys with writes := [] } }).vaultApply w).occur 0x0C0 none 1

/-- Besides, a deleted key is out of the cache, and the pending slots of an entry are released. -/
def Dev.landed (d : Dev) (w : VaultWrite) : Dev :=
  match w.item with
  | .object h o => if o.deletedAt.isSome then (d.switched w).cacheOut w.bay h else d.switched w
  | .entry _ e => (d.switched w).releaseSlot e.bay e.pan

/-- A key that is taken out of the cache is not there. -/
theorem Dev.cached_cacheOut (d : Dev) (bay h : Nat) : (d.cacheOut bay h).cached bay h = false := by
  refine List.any_eq_false.mpr fun e he => ?_
  exact Bool.eq_false_iff.mp ((Bool.not_eq_true' _).mp (List.mem_filter.mp he).2)

theorem VaultWrite.sameItem_self (w : VaultWrite) : w.sameItem w = true := by
  unfold VaultWrite.sameItem
  cases w.item <;> simp

/-- A landing changes the key island, counts, and leaves no write on its way. -/
theorem Dev.landed_shape (d : Dev) (w : VaultWrite) : (d.landed w).keys.writes = [] ∧ (d.landed w).eng = d.eng ∧
    (d.landed w).sched = d.sched ∧ ∀ c, d.Serves (d.landed w) c := by
  have hkeys : ∃ k : Keys, k.writes = [] ∧ d.switched w = ({ d with keys := k } : Dev).occur 0x0C0 none 1 := by
    unfold Dev.switched Dev.vaultApply
    cases w.item
    · exact ⟨_, rfl, rfl⟩
    · exact ⟨_, rfl, rfl⟩
  obtain ⟨k, hk, hswitched⟩ := hkeys
  have hserves (c : Nat) : d.Serves (d.switched w) c := by
    rw [hswitched]
    exact (Dev.Serves.of_keys d k).trans (.occur _ _ _ _ _)
  have hkept : (d.switched w).keys.writes = [] ∧ (d.switched w).eng = d.eng ∧ (d.switched w).sched = d.sched := by
    rw [hswitched, Dev.occur_keys, Dev.occur_eng, Dev.occur_sched]
    exact ⟨hk, rfl, rfl⟩
  obtain ⟨hwrites, heng, hsched⟩ := hkept
  unfold Dev.landed
  cases w.item
  case object h o =>
    dsimp only
    split
    · exact ⟨hwrites, heng, hsched, fun c => (hserves c).trans (.of_keys _ _)⟩
    · exact ⟨hwrites, heng, hsched, hserves⟩
  case entry n e => exact ⟨hwrites, heng, hsched, fun c => (hserves c).trans (.of_keys _ _)⟩

/-- A durable object stands at its place; a deleted one is out of the cache. -/
theorem Dev.landed_object {d : Dev} {w : VaultWrite} {h : Nat} {o : Obj} (hitem : w.item = .object h o) :
    (∃ x, Tab.look (d.landed w).keys.objs (objIndex w.bay h) = some x ∧ x.attrs = o.attrs ∧ x.key = o.key ∧
      x.deletedAt = o.deletedAt ∧ x.format = o.format) ∧
    (∀ k, k ≠ objIndex w.bay h → Tab.look (d.landed w).keys.objs k = Tab.look d.keys.objs k) ∧
    (o.deletedAt.isSome = true → (d.landed w).cached w.bay h = false) ∧ (d.landed w).keys.entries = d.keys.entries := by
  have hput : ∃ x : Obj, (x.attrs = o.attrs ∧ x.key = o.key ∧ x.deletedAt = o.deletedAt ∧ x.format = o.format) ∧
      (d.switched w).keys = { d.keys with writes := [], objs := Tab.put d.keys.objs (objIndex w.bay h) x } := by
    unfold Dev.switched
    rw [Dev.occur_keys]
    unfold Dev.vaultApply
    rw [hitem]
    dsimp only
    split
    next old _ =>
      exact ⟨{ o with usesLeft := old.usesLeft, usesReserved := old.usesReserved }, ⟨rfl, rfl, rfl, rfl⟩, rfl⟩
    next => exact ⟨o, ⟨rfl, rfl, rfl, rfl⟩, rfl⟩
  obtain ⟨x, hx, hkeys⟩ := hput
  have hobjs : (d.landed w).keys.objs = Tab.put d.keys.objs (objIndex w.bay h) x ∧
      (d.landed w).keys.entries = d.keys.entries := by
    unfold Dev.landed
    rw [hitem]
    dsimp only
    split <;> simp [Dev.cacheOut, hkeys]
  rw [hobjs.1, hobjs.2]
  refine ⟨⟨x, by simp, hx⟩, fun k hk => by simp [hk.symm], fun hdeleted => ?_, rfl⟩
  unfold Dev.landed
  rw [hitem]
  dsimp only
  rw [if_pos hdeleted]
  exact Dev.cached_cacheOut _ _ _

/-- A durable entry stands at its place, and its PAN's pending slots are released. -/
theorem Dev.landed_entry {d : Dev} {w : VaultWrite} {n : Nat} {e : TokenEntry} (hitem : w.item = .entry n e) :
    (d.landed w).keys = { d.keys with
      writes := []
      entries := Tab.put d.keys.entries n e
      slots := d.keys.slots.filter (fun x => !(x.bay == e.bay && x.pan == e.pan)) } := by
  have hput : (d.switched w).keys = { d.keys with writes := [], entries := Tab.put d.keys.entries n e } := by
    unfold Dev.switched
    rw [Dev.occur_keys]
    unfold Dev.vaultApply
    rw [hitem]
  unfold Dev.landed
  rw [hitem]
  simp only [Dev.releaseSlot, hput]

/-- The one write on its way becomes durable, and the function that waits for it completes. -/
theorem Dev.writeDurable_only {d : Dev} {w : VaultWrite} {r : Request} (hwrites : d.keys.writes = [w])
    (hreq : w.req = some r) (hwhole : w.whole = true) (hheld : (d.ctx w.ctx).req = some r) :
    d.writeDurable 0 = ((d.landed w).settle w.ctx).finish w.ctx r .ok w.out := by
  have hkept : (((d.landed w).settle w.ctx).ctx w.ctx).req = some r := by
    rw [((d.landed w).settle_kept w.ctx).1, Dev.ctx, (d.landed_shape w).2.2.1]
    exact hheld
  unfold Dev.writeDurable
  simp only [hwrites, List.getElem?_cons_zero, Option.bind_some, List.find?_cons, VaultWrite.sameItem_self,
    List.erase_cons_head, hreq, hwhole, if_true]
  exact if_pos hkept

/-- What the durable write's function leaves: it has completed with ST_OK, and the landing's contents stay. -/
theorem Dev.writeDurable_completes {d : Dev} {w : VaultWrite} {r : Request} (hwrites : d.keys.writes = [w])
    (hreq : w.req = some r) (hwhole : w.whole = true) (hheld : (d.ctx w.ctx).req = some r) :
    (d.writeDurable 0).keys = (d.landed w).keys ∧ (d.writeDurable 0).eng = d.eng ∧
      (d.writeDurable 0).sched.presented = d.sched.presented ++ [⟨r, w.ctx, (d.ctx w.ctx).owned, .ok, w.out⟩] ∧
      d.Serves (d.writeDurable 0) w.ctx := by
  obtain ⟨-, heng, hsched, hserves⟩ := d.landed_shape w
  obtain ⟨-, -, howned⟩ := (d.landed w).settle_kept w.ctx
  have hpresented : ((d.landed w).settle w.ctx).sched.presented = d.sched.presented := by rw [← hsched]; rfl
  have hctx : (d.landed w).ctx w.ctx = d.ctx w.ctx := by rw [Dev.ctx, hsched]; rfl
  rw [Dev.writeDurable_only hwrites hreq hwhole hheld, Dev.finish_presented, hpresented, howned, hctx]
  exact ⟨rfl, heng, rfl, ((hserves _).trans (.settle _)).trans (Dev.finish_ends _ _ _ _ _).2.2.2⟩

/-! ## NAND refreshes (R223, R521) -/

/-- The readings of a refresh: the blocks rewritten, the scan's progress and days, and the wear. -/
def Dev.refreshed (d : Dev) (blocks progress days wear : Nat) : Dev :=
  ((d.bumpSat R.PL_NAND_REFRESHED 0 0 blocks).set R.PL_NAND (progress % 256 * 65536 + days % 65536)).set R.VT_WEAR wear

theorem nandRefresh_eq (blocks progress days wear : Nat) (d : Dev) : nandRefresh blocks progress days wear d =
    let e := d.refreshed blocks progress days wear
    if d.get R.VT_WEAR < 80 ∧ e.get R.VT_WEAR ≥ 80 then e.blockEvent .vt 0 3 else e := rfl

/-- The three readings stand at places of their own. -/
theorem nandKeys : R.PL_NAND.key 0 0 ≠ R.PL_NAND_REFRESHED.key 0 0 ∧ R.VT_WEAR.key 0 0 ≠ R.PL_NAND_REFRESHED.key 0 0 ∧
    R.VT_WEAR.key 0 0 ≠ R.PL_NAND.key 0 0 := by decide

section
variable (d : Dev) (blocks progress days wear : Nat)

theorem Dev.refreshed_count : (d.refreshed blocks progress days wear).get R.PL_NAND_REFRESHED =
    min (R.PL_NAND_REFRESHED.bound - 1) (d.get R.PL_NAND_REFRESHED + blocks) := by
  rw [Dev.refreshed, Dev.get_set_ne _ _ _ _ _ _ _ _ nandKeys.2.1, Dev.get_set_ne _ _ _ _ _ _ _ _ nandKeys.1]
  exact Dev.bumpSat_get_self _ _ _ _ _

theorem Dev.refreshed_scan (hp : progress ≤ 100) (hd : days < 65536) :
    (d.refreshed blocks progress days wear).get R.PL_NAND = progress * 65536 + days := by
  rw [Dev.refreshed, Dev.get_set_ne _ _ _ _ _ _ _ _ nandKeys.2.2, Dev.get_set_self]
  show (progress % 256 * 65536 + days % 65536) % 2 ^ 32 = _
  omega

theorem Dev.refreshed_wear (hw : wear < 256) : (d.refreshed blocks progress days wear).get R.VT_WEAR = wear := by
  rw [Dev.refreshed, Dev.get_set_self]
  exact Nat.mod_eq_of_lt hw

end

/-- The place of a reading of a refresh. -/
def nandKey (key : Nat) : Prop :=
  key = R.PL_NAND_REFRESHED.key 0 0 ∨ key = R.PL_NAND.key 0 0 ∨ key = R.VT_WEAR.key 0 0 ∨ reportKey key

/-- A refresh changes its readings, and reports. -/
theorem nandRefresh_reported (d : Dev) (blocks progress days wear : Nat) :
    Dev.Reported nandKey d (nandRefresh blocks progress days wear d) := by
  have hread : Dev.Reported nandKey d (d.refreshed blocks progress days wear) :=
    ((((Dev.Reported.refl d).bumpSat _ _ _ _ (.inr (.inl rfl))).set _ _ _ _ (.inr (.inr (.inl rfl)))).set _ _ _ _
      (.inr (.inr (.inr (.inl rfl)))))
  rw [nandRefresh_eq]
  exact .ite _ (hread.blockEvent _ _ _ (.inr (.inr (.inr (.inr (reportKey_raw _ _)))))) hread

/-- The wear's warning leaves the readings. -/
theorem nandRefresh_get (d : Dev) (blocks progress days wear : Nat) {f : Fld}
    (hf : (f.blk ≠ .ev ∧ f.blk ≠ .ic) ∧ f.off ≠ 0x010 ∧ f.off < 0x1000 ∧ f.lo < 32) :
    (nandRefresh blocks progress days wear d).get f = (d.refreshed blocks progress days wear).get f := by
  obtain ⟨hblk, hraw, hoff, hlo⟩ := hf
  obtain ⟨hev, hic⟩ := Blk.apart_zero hblk
  rw [nandRefresh_eq]
  dsimp only
  split
  · exact Dev.blockEvent_get _ (markKey_false _ _ _ hev hic hoff hlo (by decide))
      (Fld.key_ne_of_off _ _ _ _ _ _ hraw hoff hlo (by decide) (by decide) (by decide) (by decide))
  · rfl

/-- Settles O37: a durable reservation or write is one change of the key island and of the context that waits for it, a
purge filters the Vault's tables, and a refresh writes three registers. -/
theorem reservationsAndWritesBecomeDurable : Obligations.ReservationsAndWritesBecomeDurable := by
  refine ⟨?uses, ?nonce, ?fails, ?write, ?purge, ?refresh⟩
  case uses =>
    intro s n i c o r hwrite hobj hwait hreq hqueue
    refine completes_after (f := useReservationDurable n) rfl ⟨rfl, ?_⟩
    rw [useReservationDurable_only hwrite hobj hwait hreq hqueue]
    refine ⟨rfl, ?_, ?_, rfl, fun k hk => ?_, rfl⟩
    · rw [Dev.ctx_setCtx, if_pos rfl]
    · exact (Tab.look_put _ _ _ _).trans (if_pos rfl)
    · exact (Dev.ctx_setCtx _ _ _ _).trans (if_neg hk.symm)
  case nonce =>
    intro s n i c x r hcounter hwait hreq
    refine completes_after (f := nonceReservationDurable n true) rfl ⟨rfl, ?_⟩
    rw [nonceReservationDurable_only hcounter hwait hreq]
    refine ⟨rfl, ?_, ?_, fun k hk => ?_, fun k hk => ?_⟩
    · rw [Dev.ctx_setCtx, if_pos rfl]
    · exact (Tab.get_put _ _ _ _ _).trans (if_pos rfl)
    · exact (Tab.get_put _ _ _ _ _).trans (if_neg hk.symm)
    · exact (Dev.ctx_setCtx _ _ _ _).trans (if_neg hk.symm)
  case fails =>
    intro s n i c x r hcounter hwait hreq hqueue
    refine completes_after (f := nonceReservationDurable n false) rfl ⟨rfl, ?_⟩
    rw [nonceReservationDurable_fails hcounter hwait hreq hqueue]
    exact ⟨rfl, (Tab.get_put _ _ _ _ _).trans (if_pos rfl), rfl⟩
  case write =>
    intro s w r hwrites hreq hwhole hheld
    obtain ⟨hkeys, heng, hpresented, hserves⟩ := Dev.writeDurable_completes hwrites hreq hwhole hheld
    refine completes_after (f := (·.writeDurable 0)) rfl ⟨rfl, ?_, hpresented, ?_, heng, hserves⟩
    · rw [hkeys]; exact (s.dev.landed_shape w).1
    · split
      next h o hitem =>
        obtain ⟨hplace, hothers, hcached, hentries⟩ := Dev.landed_object (d := s.dev) hitem
        rw [Dev.cached, hkeys]
        exact ⟨hplace, hothers, hcached, hentries⟩
      next n e hitem =>
        rw [hkeys, Dev.landed_entry hitem]
        exact ⟨(Tab.look_put _ _ _ _).trans (if_pos rfl), rfl, fun k hk => (Tab.look_put _ _ _ _).trans (if_neg hk.symm), rfl⟩
  case purge =>
    intro s
    refine completes_after (f := retentionPurgeCheck) rfl ⟨rfl, ?_, ?_, rfl⟩
    · refine List.filter_congr fun e _ => ?_
      dsimp only
      cases e.2.deletedAt <;> rfl
    · refine List.filter_congr fun e _ => ?_
      dsimp only
      cases e.2.state <;> rfl
  case refresh =>
    intro s blocks progress days wear
    refine completes_after (f := nandRefresh blocks progress days.toNat wear.toNat) rfl ⟨rfl, ?_⟩
    rw [nandRefresh_get _ _ _ _ _ (f := R.PL_NAND_REFRESHED) (by decide), nandRefresh_get _ _ _ _ _ (f := R.PL_NAND) (by decide),
      nandRefresh_get _ _ _ _ _ (f := R.VT_WEAR) (by decide), Dev.refreshed_count,
      Dev.refreshed_scan _ _ _ _ _ (Nat.lt_succ_iff.mp progress.isLt) days.isLt, Dev.refreshed_wear _ _ _ _ _ wear.isLt]
    refine ⟨rfl, rfl, rfl, fun hlow hhigh => ?_, nandRefresh_reported _ _ _ _ _⟩
    rw [nandRefresh_eq]
    dsimp only
    rw [Dev.refreshed_wear _ _ _ _ _ wear.isLt, if_pos ⟨hlow, hhigh⟩]
    exact Dev.blockEvent_bit _ ⟨by decide, by decide⟩ (by decide)

end Sys2Proof.Machine

namespace Sys2Proof.Machine

/-! # Keys that are generated, deleted and changed (R161, R192 to R194, R203, R401, R405) -/

/-! ## A function without keys of its own -/

/-- A context that holds no key. -/
def Dev.keyless (d : Dev) (c : Nat) : Dev := d.setCtx c { d.ctx c with handles := [] }

/-- A function that names no key resolves none. -/
theorem Dev.resolve_nil {d : Dev} {c bay : Nat} {ivs : List Nat} {ks : List Obj} (h : (d.resolve c bay [] ivs).1 = .keys ks) :
    d.resolve c bay [] ivs = (.keys [], d.keyless c) := by
  unfold Dev.resolve at h ⊢
  have hrows : d.keyRows bay [] = none := rfl
  rw [hrows] at h ⊢
  dsimp only at h ⊢
  split
  next hwaits => rw [if_pos hwaits] at h; exact Resolved.noConfusion h
  next => rfl

theorem Dev.withKeys_keys {d : Dev} {c : Nat} {r : Request} {ws : List Want} {ivs : List Nat} {l : List Obj}
    (h : (d.resolve c r.bay ws ivs).1 = .keys l) (hs : d.coreServes r = true) (k : List Obj → Dev → Dev) :
    d.withKeys c r ws ivs k = k l (d.resolve c r.bay ws ivs).2 := by
  unfold Dev.withKeys
  split
  next heq => rw [heq] at h; exact Resolved.noConfusion h
  next heq => rw [heq] at h; exact Resolved.noConfusion h
  next heq => rw [heq] at h ⊢; rw [if_pos hs, Resolved.keys.inj h]

/-- A ready function without keys goes on in its context, which holds none. -/
theorem Dev.Ready.withKeys_nil {d : Dev} {c func : Nat} {r : Request} {checks : List (Option Status)} {ivs : List Nat}
    (h : d.Ready c func r checks [] ivs []) (k : List Obj → Dev → Dev) : d.withKeys c r [] ivs k = k [] (d.keyless c) := by
  obtain ⟨-, -, -, -, hkeys, hcore⟩ := h
  rw [Dev.withKeys_keys hkeys hcore, Dev.resolve_nil hkeys]

/-! ## Up to the end of a function -/

/-- A function has prepared its end: nothing has been sent to the engines or presented, and its context holds its request
with what is outstanding. -/
structure Dev.Prepares (d e : Dev) (c : Nat) : Prop where
  serves : d.Serves e c
  eng : e.eng = d.eng
  presented : e.sched.presented = d.sched.presented
  owned : (e.ctx c).owned = (d.ctx c).owned
  outstanding : (e.ctx c).outstanding = (d.ctx c).outstanding

section
variable {c : Nat} {d e f : Dev}

theorem Dev.Prepares.trans (h : d.Prepares e c) (g : e.Prepares f c) : d.Prepares f c :=
  ⟨h.serves.trans g.serves, g.eng.trans h.eng, g.presented.trans h.presented, g.owned.trans h.owned,
    g.outstanding.trans h.outstanding⟩

/-- A change of the key island, the free bytes drawn and what reports hold. -/
theorem Dev.Prepares.of_work (hw : ({ d with keys := e.keys, free := e.free }).SameWork e) (hr : d.SameRegs e servedKey) :
    d.Prepares e c := by
  have hctx : e.ctx c = d.ctx c := by rw [Dev.ctx, hw.sched]; rfl
  refine ⟨.of_work ?_ hr, hw.eng, by rw [hw.sched], by rw [hctx], by rw [hctx]⟩
  exact ⟨hw.sched, hw.wires, rfl, rfl, hw.cards, hw.plinth, hw.cs, hw.life, hw.gates, hw.pair, hw.power, hw.hbm, rfl⟩

theorem Dev.Prepares.of_keys (d : Dev) (k : Keys) : d.Prepares { d with keys := k } c :=
  .of_work (.of_parts _ _ _ _ _) ⟨fun _ _ => rfl, rfl, rfl⟩

theorem Dev.keyless_prepares (d : Dev) (c : Nat) : d.Prepares (d.keyless c) c := by
  have hctx : (d.keyless c).ctx c = { d.ctx c with handles := [] } := (Dev.ctx_setCtx _ _ _ _).trans (if_pos rfl)
  exact ⟨.setCtx (x := { d.ctx c with handles := [] }) d rfl, rfl, rfl, by rw [hctx], by rw [hctx]⟩

/-- The end of a function that has prepared it. -/
theorem Dev.Prepares.ends (h : d.Prepares e c) (r : Request) (st : Status) (out : List Tlv) :
    d.Ends (e.finish c r st out) c r st out := by
  obtain ⟨hpresented, heng, hstate, hserves⟩ := e.finish_ends c r st out
  rw [h.presented, h.owned] at hpresented
  exact ⟨hpresented, heng.trans h.eng, hstate, h.serves.trans hserves⟩

/-- A Vault write of a function that has prepared it. -/
theorem Dev.Prepares.writes (h : d.Prepares e c) (hw : e.keys.writes = d.keys.writes) {r : Request} {item : VaultItem}
    {out : List Tlv} (g : e.Writes f c r item out) : d.Writes f c r item out := by
  obtain ⟨hwrites, heng, hpresented, houtstanding, hstate, hserves⟩ := g
  rw [hw] at hwrites
  rw [h.outstanding] at houtstanding
  exact ⟨hwrites, heng.trans h.eng, hpresented.trans h.presented, houtstanding, hstate, h.serves.trans hserves⟩

end

/-! ## Vault writes and what they write of the registers (R203, R205, R240) -/

/-- The register fields, but those of records and messages, that the assignment of an IV may write: those of reports, and the
counts of reseeds and of the bays' event rings. -/
def countKey (key : Nat) : Prop :=
  reportKey key ∨ key = R.RN_RESEEDS.key 0 0 ∨
    ∃ b, key = R.BW_EV_HEAD.key b 0 ∨ key = R.BW_EV_OVERFLOW.key b 0 ∨ key = R.BW_EV_REPEAT_GEN.key b 0

/-- The register fields that the assignment of an IV may write. -/
def assignKey (key : Nat) : Prop := markKey key ∨ countKey key

theorem assignKey_served {key : Nat} (h : assignKey key) : servedKey key := by
  obtain h | h | h | ⟨b, h⟩ := h
  · exact .inl h
  · exact .inr (.inl h)
  · exact .inr (.inr (.inl h))
  · exact .inr (.inr (.inr ⟨b, .inr h⟩))

/-- A field of a page other than EV and IC, at an offset of its own, is not written by the assignment of an IV. -/
theorem not_assignKey {f : Fld} (h : (f.blk ≠ .ev ∧ f.blk ≠ .ic) ∧ f.off ∉ [0x010, 0x024, 0x050, 0x060, 0x068, 0x06C] ∧
    f.off < 0x1000 ∧ f.lo < 32) : ¬ assignKey (f.key 0 0) := by
  obtain ⟨hblk, hoff, hlt, hlo⟩ := h
  obtain ⟨hev, hic⟩ := Blk.apart_zero hblk
  simp only [List.mem_cons, List.not_mem_nil, not_or, or_false] at hoff
  obtain ⟨hraw, herr, hreseeds, hhead, hrepeat, hoverflow⟩ := hoff
  have hne (g : Fld) (i : Nat) (h : f.off ≠ g.off) (hg : g.off < 0x1000 ∧ g.lo < 32) : f.key 0 0 ≠ g.key i 0 :=
    Fld.key_ne_of_off _ _ _ _ _ _ h hlt hlo (by decide) hg.1 hg.2 (by decide)
  rintro (hmark | hreport | h | ⟨b, h | h | h⟩)
  · exact markKey_false f 0 0 hev hic hlt hlo (by decide) hmark
  · exact reportKey_false f 0 0 hraw herr hlt hlo (by decide) hreport
  · exact hne R.RN_RESEEDS 0 hreseeds (by decide) h
  · exact hne R.BW_EV_HEAD b hhead (by decide) h
  · exact hne R.BW_EV_OVERFLOW b hoverflow (by decide) h
  · exact hne R.BW_EV_REPEAT_GEN b hrepeat (by decide) h

/-- An event of a bay's ring writes the counts of the ring, and reports (R336, R337). -/
theorem Dev.ringEvent_regs (d : Dev) (bay : Nat) (event : Event) (p0 p1 : Nat) :
    d.SameRegs (d.ringEvent bay event p0 p1) assignKey := by
  have hhead : countKey (R.BW_EV_HEAD.key bay 0) := .inr (.inr ⟨bay, .inl rfl⟩)
  have hoverflow : countKey (R.BW_EV_OVERFLOW.key bay 0) := .inr (.inr ⟨bay, .inr (.inl rfl)⟩)
  have hrepeat : countKey (R.BW_EV_REPEAT_GEN.key bay 0) := .inr (.inr ⟨bay, .inr (.inr rfl)⟩)
  have hraw (k : Blk) (i : Nat) : countKey ((R.INT_RAW k).key i 0) := .inl (reportKey_raw k i)
  have hlogged (e : Dev) (l : Rec) : e.SameRegs { e with log := l } assignKey := ⟨fun _ _ => rfl, rfl, rfl⟩
  have hqueued (l : Rec) (sel : Session → Bool) (x : EvItem) : Dev.Reported countKey { d with log := l }
      (((({ d with log := l }).bumpWrap R.BW_EV_HEAD bay).raiseInt .bw bay 2).queueItems sel x) :=
    (((Dev.Reported.refl _).bumpWrap _ _ _ _ (.inr hhead)).raiseInt _ _ _ (.inr (hraw _ _))).queueItems _ _
  have hdropped : Dev.Reported countKey d ((d.bumpSat R.BW_EV_OVERFLOW bay).raiseInt .by bay 5) :=
    ((Dev.Reported.refl _).bumpSat _ _ _ _ (.inr hoverflow)).raiseInt _ _ _ (.inr (hraw _ _))
  have hplaced (p q r : Prop) [Decidable p] [Decidable q] [Decidable r] (l m : Rec) (sel : Session → Bool) (x : EvItem)
      (ev : Event) (isl : Island) (u a b : Nat) : d.SameRegs
      (if p then
        if q then (((({ d with log := l }).bumpWrap R.BW_EV_HEAD bay).raiseInt .bw bay 2).queueItems sel x)
        else (((({ d with log := l }).bumpWrap R.BW_EV_HEAD bay).raiseInt .bw bay 2).queueItems sel x).blockEvent .ic 0 2
      else
        if r then (d.bumpSat R.BW_EV_OVERFLOW bay).raiseInt .by bay 5
        else ({ (d.bumpSat R.BW_EV_OVERFLOW bay).raiseInt .by bay 5 with log := m }).mark ev isl u a b) assignKey := by
    split
    · exact (hlogged d l).trans (Dev.Reported.ite q (hqueued l sel x) ((hqueued l sel x).blockEvent _ _ _ (.inr (hraw _ _)))).regs
    · split
      · exact hdropped.regs
      · exact (hdropped.regs.trans (hlogged _ m)).trans ((Dev.Reported.refl (own := countKey) _).mark _ _ _ _ _ _ _).regs
  unfold Dev.ringEvent
  dsimp only
  split
  · split
    · exact (hlogged d _).trans ((Dev.Reported.refl (own := countKey) _).bumpWrap _ _ _ _ (.inr hrepeat)).regs
    · exact hplaced _ _ _ _ _ _ _ _ _ _ _ _
  · exact hplaced _ _ _ _ _ _ _ _ _ _ _ _

/-- The assignment of an IV changes the key island, the free bytes drawn, and fields of its own (R240 to R246). -/
theorem Dev.takeIv_regs (d : Dev) (bay i : Nat) : d.SameRegs (d.takeIv bay i).2 assignKey := by
  have hmarked (e : Dev) (q : Prop) [Decidable q] (p : Nat) : e.SameRegs
      (if q then (e.mark .nonceExhausted .key bay p).ringEvent bay .nonceExhausted p else e) assignKey := by
    split
    · exact (((Dev.Reported.refl (own := countKey) e).mark _ _ _ _ _ _ _).regs).trans (Dev.ringEvent_regs _ _ _ _ _)
    · exact .refl _ _
  have hnonce (e : Dev) (x : Nonce) : e.SameRegs (e.setNonce i x) assignKey := ⟨fun _ _ => rfl, rfl, rfl⟩
  unfold Dev.takeIv
  dsimp only
  split
  next => exact .refl _ _
  next =>
    split
    next => exact .refl _ _
    next salt e hsalt =>
      have hdrawn : d.SameRegs e assignKey := by
        split at hsalt
        next =>
          split at hsalt
          next b g hdraw =>
            obtain ⟨t, k, m, ht, hg⟩ := Dev.drbgDraw_writes hdraw
            cases hsalt
            dsimp only at hg
            rw [hg]
            exact ⟨fun key hkey => ht key fun h => hkey (.inr (.inr (.inl h))), rfl, rfl⟩
          next => cases hsalt
        next => cases hsalt; exact .refl _ _
      exact (hdrawn.trans (hnonce _ _)).trans (hmarked _ _ _)

/-- Only the registers of the two states matter. -/
theorem Dev.SameRegs.of_regs {d e f g : Dev} {own : Nat → Prop} (h : d.SameRegs e own) (hf : f.regs = d.regs)
    (hg : g.regs = e.regs) : f.SameRegs g own := by
  refine ⟨fun key hkey => ?_, ?_, ?_⟩ <;> rw [hf, hg]
  · exact h.vals key hkey
  · exact h.eff
  · exact h.staged

/-- A record's write that can take an IV is on its way, and what it leaves. -/
theorem Dev.vaultWrite_prepares {d : Dev} {w : VaultWrite} {num : Nat} {o : Obj} (hitem : w.item = .object num o)
    (hlive : (d.nonce (kekIndex w.bay)).exhausted = false) (hfail : d.on R.RN_STATUS_FAIL = false) :
    ∃ e, d.vaultWrite w = (none, e) ∧ e.keys.writes = d.keys.writes ++ [w] ∧ d.SameRegs e assignKey ∧ ∀ c, d.Prepares e c := by
  obtain ⟨g, x, m, iv, -, hiv, hwork⟩ := Dev.takeIv_assigns (d := d.useNode w.bay 1) w.bay hlive hfail
  have hregs : d.SameRegs ((d.useNode w.bay 1).takeIv w.bay (kekIndex w.bay)).2 assignKey :=
    (Dev.takeIv_regs (d.useNode w.bay 1) w.bay (kekIndex w.bay)).of_regs rfl rfl
  generalize htaken : (d.useNode w.bay 1).takeIv w.bay (kekIndex w.bay) = y at hiv hwork hregs
  refine ⟨{ y.2 with keys := { y.2.keys with writes := y.2.keys.writes ++ [w] } }, ?_, ?_, ?_, fun c => .of_work ?_ ?_⟩
  · unfold Dev.vaultWrite
    rw [hitem]
    dsimp only
    rw [htaken, hiv]
  · rw [hwork.keys]; rfl
  · exact hregs.of_regs rfl rfl
  · exact ⟨hwork.sched, hwork.wires, hwork.eng, rfl, hwork.cards, hwork.plinth, hwork.cs, hwork.life, hwork.gates, hwork.pair,
      hwork.power, hwork.hbm, rfl⟩
  · exact (hregs.mono fun _ => assignKey_served).of_regs rfl rfl

/-- A function that waits for its one Vault write. -/
theorem Dev.outstand_writes {d e : Dev} {c : Nat} (h : d.Prepares e c) {r : Request} {item : VaultItem} {out : List Tlv}
    (hw : e.keys.writes = d.keys.writes ++ [⟨r.bay, item, c, some r, true, out⟩]) : d.Writes (e.outstand c) c r item out := by
  have hctx : (e.outstand c).ctx c = { e.ctx c with outstanding := (e.ctx c).outstanding + 1, state := .waiting } := by
    rw [Dev.outstand_ctx, if_pos rfl]
  exact ⟨hw, h.eng, h.presented, by rw [hctx, ← h.outstanding], by rw [hctx], h.serves.trans (.outstand e)⟩

section
variable {d : Dev} {c n : Nat} {r : Request} {o : Obj} (hlive : (d.nonce (kekIndex r.bay)).exhausted = false)
  (hfail : d.on R.RN_STATUS_FAIL = false)
include hlive hfail

/-- A function that ends with a Vault write of an object waits for it (R203). -/
theorem Dev.writeAndWait_object (out : List Tlv) : d.Writes (d.writeAndWait c r (.object n o) out) c r (.object n o) out ∧
    d.SameRegs (d.writeAndWait c r (.object n o) out) assignKey := by
  obtain ⟨e, he, hwrites, hregs, hprepares⟩ := Dev.vaultWrite_prepares (d := d) (w := ⟨r.bay, .object n o, c, some r, true, out⟩)
    rfl hlive hfail
  unfold Dev.writeAndWait
  rw [he]
  exact ⟨Dev.outstand_writes (hprepares c) hwrites, hregs.of_regs rfl rfl⟩

/-- A new stored key is a Vault write under the next object number (R188, R193). -/
theorem Dev.createKey_stored (hnum : d.nextObject r.bay = some n) (hroom : d.quotaRoom r.bay o.quotaBytes = true)
    (out : Bytes → List Bytes) :
    d.Writes (d.createKey c r o false out) c r (.object n o) (outputs (out (beBytes 4 n))) ∧
      d.SameRegs (d.createKey c r o false out) assignKey := by
  have hnumbered := Dev.Prepares.of_keys (c := c) d { d.keys with lastObj := Tab.put d.keys.lastObj r.bay n }
  obtain ⟨hwrites, hregs⟩ := Dev.writeAndWait_object
    (d := { d with keys := { d.keys with lastObj := Tab.put d.keys.lastObj r.bay n } }) (c := c) (n := n) (o := o) hlive hfail
    (outputs (out (beBytes 4 n)))
  unfold Dev.createKey
  rw [hnum]
  dsimp only
  rw [if_neg Bool.false_ne_true, if_pos hroom]
  exact ⟨hnumbered.writes rfl hwrites, hregs.of_regs rfl rfl⟩

end

/-! ## Session keys (R188, R192, R193) -/

theorem Dev.evictFor_shape (d : Dev) (bay : Nat) (keep : List Nat) (n : Nat) : ∃ k : Keys, d.evictFor bay keep n = { d with keys := k } := by
  unfold Dev.evictFor
  refine List.foldlRecOn (motive := fun a : Dev => ∃ k : Keys, a = { d with keys := k }) _ _ ⟨d.keys, rfl⟩ fun a h e _ => ?_
  obtain ⟨k, rfl⟩ := h
  dsimp only
  split
  · exact ⟨_, rfl⟩
  · exact ⟨_, rfl⟩

/-- A key that comes into the cache changes the key island, and counts a miss. -/
theorem Dev.cacheIn_prepares (d : Dev) (c bay : Nat) (keep : List Nat) (h size : Nat) : d.Prepares (d.cacheIn bay keep h size) c := by
  obtain ⟨k, hk⟩ := d.evictFor_shape bay keep size
  unfold Dev.cacheIn
  split
  · exact .of_keys _ _
  · rw [hk]
    dsimp only
    split
    · exact .of_keys _ _
    · exact .of_work (.of_parts _ _ _ _ _)
        ⟨fun key hkey => Dev.look_set _ _ _ _ _ _ fun he => hkey (.inr (.inr (.inr ⟨bay, .inl he.symm⟩))), rfl, rfl⟩

theorem Dev.addSession_prepares (d : Dev) (c bay slot : Nat) (o : Obj) : d.Prepares (d.addSession bay slot o) c :=
  (Dev.Prepares.of_keys d _).trans (Dev.cacheIn_prepares _ _ _ _ _ _)

/-- A new session key is stored at once, and the function presents its handle. -/
theorem Dev.createKey_session {d : Dev} {c slot : Nat} {r : Request} {o : Obj} (hslot : d.nextSlot r.bay = some slot)
    (hroom : d.sessionRoom r.bay o.entries = true) (out : Bytes → List Bytes) : d.createKey c r o true out =
      (d.addSession r.bay slot o).finish c r .ok
        (outputs (out (beBytes 4 (sessionHandle d.plinth.powerSeq (d.get R.BY_GEN_GEN r.bay) slot)))) := by
  unfold Dev.createKey
  rw [hslot]
  exact if_pos hroom

/-! ## The generation of a key (R161, R193, R210) -/

/-- The bytes of a key are drawn: the DRBG, the free bytes drawn and RN_RESEEDS have changed. -/
structure Dev.Draws (d e : Dev) (n : Nat) : Prop where
  shape : ∃ (t : Tab Nat) (g : Tab Drbg),
    e = { d with regs := { d.regs with vals := t }, keys := { d.keys with drbgs := g }, free := d.free + n }
  vals : ∀ key, key ≠ R.RN_RESEEDS.key 0 0 → Tab.look e.regs.vals key = Tab.look d.regs.vals key

theorem Dev.drbgDraw_draws {d : Dev} (i n : Nat) (hfail : d.on R.RN_STATUS_FAIL = false) :
    ∃ e, d.drbgDraw i n = some (d.freeBytes n, e) ∧ d.Draws e n := by
  obtain ⟨t, g, hdraw⟩ := Dev.drbgDraw_healthy i n hfail
  obtain ⟨u, _, _, hu, heq⟩ := Dev.drbgDraw_writes hdraw
  have hvals : t = u := congrArg (fun e : Dev => e.regs.vals) heq
  subst hvals
  exact ⟨_, hdraw, ⟨t, g, rfl⟩, hu⟩

section
variable {d e : Dev} {n : Nat} (h : d.Draws e n)
include h

theorem Dev.Draws.get {f : Fld} {i : Nat} (hf : f.key i 0 ≠ R.RN_RESEEDS.key 0 0) : e.get f i = d.get f i :=
  Dev.get_congr (h.vals _ hf)

theorem Dev.Draws.prepares (c : Nat) : d.Prepares e c := by
  have hvals := h.vals
  obtain ⟨t, g, rfl⟩ := h.shape
  exact .of_work (.of_parts _ _ _ _ _) ⟨fun key hkey => hvals key fun he => hkey (.inr (.inr (.inl he))), rfl, rfl⟩

/-- A draw leaves the numbers, the quotas and the counters of the Vault's records. -/
theorem Dev.Draws.vault : e.keys.writes = d.keys.writes ∧ (∀ i, e.nonce i = d.nonce i) ∧
    (∀ bay, e.nextObject bay = d.nextObject bay) ∧ ∀ bay m, e.quotaRoom bay m = d.quotaRoom bay m := by
  obtain ⟨t, g, rfl⟩ := h.shape
  exact ⟨rfl, fun _ => rfl, fun _ => rfl, fun _ _ => rfl⟩

/-- A draw leaves the slots of session keys and the room of the cache. -/
theorem Dev.Draws.session : e.plinth = d.plinth ∧ (∀ bay, e.nextSlot bay = d.nextSlot bay) ∧
    ∀ bay m, e.sessionRoom bay m = d.sessionRoom bay m := by
  obtain ⟨t, g, rfl⟩ := h.shape
  exact ⟨rfl, fun _ => rfl, fun _ _ => rfl⟩

/-- A drawn key's record is the one that the block before the draw would make. -/
theorem Dev.Draws.newObj (a : Attrs) (key : Bytes) : e.newObj a key = d.newObj a key := by
  have hfloor : e.floor = d.floor := h.get (f := R.KT_FLEET_FLOOR_FLOOR) (i := 0) (by decide)
  obtain ⟨t, g, rfl⟩ := h.shape
  unfold Dev.newObj
  rw [hfloor]

end

/-- A key generation up to its draw: the key is stored under the next number or slot; with a token profile, the ceremony is
executing until then. -/
theorem keyGeneration_draws {d e : Dev} {c : Nat} {r : Request} {k : NewKey} {ivs : List Nat} {key : Bytes} {dual : Bool}
    (hdual : (r.tlv? 10).isSome = dual) (hauth : dual = true → d.authStands 10 r.bay = true) (hnew : newKey r dual = some k)
    (hivs : (if k.session then [] else [kekIndex r.bay]) = ivs)
    (hready : d.Ready c 0x0301 r [failIf (!d.rootPresent) .rootAbsent] [] ivs [])
    (hdraw : (if dual then (d.keyless c).authStart else d.keyless c).drbgDraw r.bay k.len = some (key, e)) :
    keyGeneration c d =
      let done := e.createKey c r (e.newObj k.attrs key) k.session (fun handle => [handle, storedCheck k.attrs.alg key])
      if dual then done.authDone else done := by
  obtain ⟨hrun, hfunc, hbusy, hpublic, -⟩ := id hready
  have hchecks : firstFault [failIf (dual && !d.authStands 10 r.bay) .policyDenied, failIf (!d.rootPresent) .rootAbsent] = none := by
    have hpermitted : (dual && !d.authStands 10 r.bay) = false := by
      cases dual
      · rfl
      · rw [hauth rfl]; rfl
    rw [hpermitted]
    exact hpublic
  unfold keyGeneration
  rw [Dev.runProgram_runs hrun hfunc hbusy]
  dsimp only
  rw [hdual, hnew]
  dsimp only
  rw [Dev.checked, hchecks]
  dsimp only
  rw [hivs, hready.withKeys_nil, hdraw]

/-- A key generation without a token profile. -/
theorem keyGeneration_plain {d e : Dev} {c : Nat} {r : Request} {k : NewKey} {ivs : List Nat} {key : Bytes} {session : Bool}
    (hplain : r.tlv? 10 = none) (hnew : newKey r false = some k) (hsession : k.session = session)
    (hivs : (if session then [] else [kekIndex r.bay]) = ivs)
    (hready : d.Ready c 0x0301 r [failIf (!d.rootPresent) .rootAbsent] [] ivs [])
    (hdraw : (d.keyless c).drbgDraw r.bay k.len = some (key, e)) : keyGeneration c d =
      e.createKey c r (e.newObj k.attrs key) session (fun handle => [handle, storedCheck k.attrs.alg key]) := by
  rw [← hsession] at hivs ⊢
  exact keyGeneration_draws (dual := false) (by rw [hplain]; rfl) nofun hnew hivs hready hdraw

/-- The ceremony of a key with a token profile is executing. -/
def Dev.spending (d : Dev) (c : Nat) : Dev := (d.keyless c).authStart

/-- Of the registers, the start of a covered operation writes CER_STATUS.STATE alone. -/
theorem Dev.spending_get (d : Dev) (c : Nat) {f : Fld} (h : R.CD_CER_STATUS_STATE.key 0 0 ≠ f.key 0 0) :
    (d.spending c).get f = d.get f := Dev.get_set_ne _ _ _ _ _ _ _ _ h

theorem Dev.spending_state (d : Dev) (c : Nat) : (d.spending c).get R.CD_CER_STATUS_STATE = 3 := Dev.get_set_self _ _ _ _ _

/-- A key generation with a token profile, under its authorization. -/
theorem keyGeneration_spends {d e : Dev} {c : Nat} {r : Request} {k : NewKey} {key : Bytes}
    (hprofile : (r.tlv? 10).isSome = true) (hauth : d.authStands 10 r.bay = true) (hnew : newKey r true = some k)
    (hsession : k.session = false)
    (hready : d.Ready c 0x0301 r [failIf (!d.rootPresent) .rootAbsent] [] [kekIndex r.bay] [])
    (hdraw : (d.spending c).drbgDraw r.bay k.len = some (key, e)) : keyGeneration c d = (e.createKey c r (e.newObj k.attrs key)
      false (fun handle => [handle, storedCheck k.attrs.alg key])).authDone := by
  rw [← hsession]
  exact keyGeneration_draws (dual := true) hprofile (fun _ => hauth) hnew (by rw [hsession]; rfl) hready hdraw

/-- A key generation with a token profile and without its authorization ends before any key is resolved (R161, R401). -/
theorem keyGeneration_denied {d : Dev} {c : Nat} {r : Request} {k : NewKey} (hprofile : (r.tlv? 10).isSome = true)
    (hnew : newKey r true = some k) (hrun : d.Runs c r) (hfunc : r.func = 0x0301)
    (hbusy : d.cacheBusy r.bay r.handles = false) (hauth : d.authStands 10 r.bay = false) :
    keyGeneration c d = d.finish c r .policyDenied [] := by
  have hdenied (l : List (Option Status)) :
      firstFault (failIf (true && !d.authStands 10 r.bay) .policyDenied :: l) = some .policyDenied := by rw [hauth]; rfl
  unfold keyGeneration
  rw [Dev.runProgram_runs hrun hfunc hbusy]
  dsimp only
  rw [hprofile, hnew]
  dsimp only
  rw [Dev.checked, hdenied]

/-- A covered operation that has ended ends its ceremony. -/
theorem Dev.authDone_executing {d : Dev} (h : d.get R.CD_CER_STATUS_STATE = 3) :
    d.authDone.get R.CD_CER_STATUS_STATE = 0 ∧ d.authDone.keys = d.keys := by
  rw [Dev.authDone, if_pos h]
  obtain ⟨s, hended⟩ := d.cerEnd_reported 0
  exact ⟨d.cerEnd_state 0, hended.work.keys⟩

/-! ## The deletion and the change of a key (R192 to R194) -/

theorem Dev.withObject_key {d : Dev} {r : Request} {o : Obj} (hroot : d.rootPresent = true)
    (hlook : d.lookup r.bay (r.num 1) = .key o) (c : Nat) (k : Nat → Obj → Dev → Dev) :
    d.withObject c r k = k (r.num 1) (if bitOf (r.num 1) 31 then o else d.newestObj r.bay (r.num 1) o) d := by
  unfold Dev.withObject
  simp only [hroot, hlook]
  rfl

section
variable {d : Dev} {c : Nat} {r : Request} {o : Obj} (hroot : d.rootPresent = true)
  (hlook : d.lookup r.bay (r.num 1) = .key o)
include hroot hlook

theorem keyDeletion_stored (hstored : bitOf (r.num 1) 31 = false) (hready : d.Ready c 0x0302 r [] [] [kekIndex r.bay] []) :
    keyDeletion c d = (d.keyless c).writeAndWait c r (.object (r.num 1)
      { d.newestObj r.bay (r.num 1) o with deletedAt := some d.plinth.seconds, format := d.floor }) [] := by
  obtain ⟨hrun, hfunc, hbusy, -⟩ := id hready
  unfold keyDeletion
  rw [Dev.runProgram_runs hrun hfunc hbusy, Dev.withObject_key hroot hlook, hstored, if_neg Bool.false_ne_true,
    if_neg Bool.false_ne_true, hready.withKeys_nil]
  rfl

theorem keyDeletion_session (hsession : bitOf (r.num 1) 31 = true) (hrun : d.Runs c r) (hfunc : r.func = 0x0302)
    (hbusy : d.cacheBusy r.bay r.handles = false) : keyDeletion c d =
      (({ d with keys := { d.keys with sess := Tab.del d.keys.sess (sessIndex r.bay (r.num 1 % 65536)) } } : Dev).cacheOut
        r.bay (r.num 1)).finish c r .ok [] := by
  unfold keyDeletion
  rw [Dev.runProgram_runs hrun hfunc hbusy, Dev.withObject_key hroot hlook, if_pos hsession]

theorem attributeChange_stored {a : Attrs} (hstored : bitOf (r.num 1) 31 = false)
    (hchange : attrChange (d.newestObj r.bay (r.num 1) o).attrs (r.tlv 2) = .to_ a)
    (hready : d.Ready c 0x0303 r [] [] [kekIndex r.bay] []) :
    attributeChange c d = (d.keyless c).writeAndWait c r (.object (r.num 1)
      { d.newestObj r.bay (r.num 1) o with attrs := a, format := d.floor }) [] := by
  obtain ⟨hrun, hfunc, hbusy, -⟩ := id hready
  unfold attributeChange
  rw [Dev.runProgram_runs hrun hfunc hbusy, Dev.withObject_key hroot hlook, hstored, if_neg Bool.false_ne_true, hchange]
  dsimp only
  rw [if_neg Bool.false_ne_true, hready.withKeys_nil]
  rfl

/-- A change that is refused, and one that changes nothing, end at once (R194). -/
theorem attributeChange_ends {st : Status} {x : Obj} (hx : (if bitOf (r.num 1) 31 then o else d.newestObj r.bay (r.num 1) o) = x)
    (hrun : d.Runs c r) (hfunc : r.func = 0x0303) (hbusy : d.cacheBusy r.bay r.handles = false)
    (hchange : attrChange x.attrs (r.tlv 2) = .refused ∧ st = .attrImmutable ∨ attrChange x.attrs (r.tlv 2) = .same ∧ st = .ok) :
    attributeChange c d = d.finish c r st [] := by
  unfold attributeChange
  rw [Dev.runProgram_runs hrun hfunc hbusy, Dev.withObject_key hroot hlook, hx]
  obtain ⟨hrefused, rfl⟩ | ⟨hsame, rfl⟩ := hchange
  · rw [hrefused]
  · rw [hsame]

end

/-- The changes that are permitted: EXPORTABLE and EXTERNAL_IV may be cleared, and Not after brought forward (R194). -/
theorem attrChange_permitted {a b : Attrs} {v : Bytes} (h : attrChange a v = .to_ b) :
    b = { a with exportable := false } ∨ b = { a with externalIv := false } ∨
      (∃ n, b = { a with notAfter := n } ∧ n ≠ 0 ∧ (a.notAfter = 0 ∨ n < a.notAfter)) := by
  have hto {x y : Attrs} (p : Prop) [Decidable p] (hp : (if p then Change.to_ x else .refused) = .to_ y) : y = x ∧ p := by
    split at hp
    next hcond => exact ⟨(Change.to_.inj hp).symm, hcond⟩
    next => cases hp
  have hvalue (p q : Prop) [Decidable p] [Decidable q] (z : Change)
      (hz : (if p then Change.refused else if q then .same else z) = .to_ b) : z = .to_ b := by
    split at hz
    next => cases hz
    next =>
      split at hz
      next => cases hz
      next => exact hz
  unfold attrChange at h
  dsimp only at h
  split at h
  next => exact .inl (hto _ (hvalue _ _ _ h)).1
  next =>
    obtain ⟨hb, hne, hless⟩ := hto _ (hvalue _ _ _ h)
    exact .inr (.inr ⟨_, hb, hne, hless⟩)
  next => exact .inr (.inl (hto _ (hvalue _ _ _ h)).1)
  next => cases h

/-- Settles O30: each function is its draw, its write or its end after an empty resolution, and what these leave composes. -/
theorem keyManagementWritesRecords : Obligations.KeyManagementWritesRecords := by
  refine ⟨?stored, ?session, ?profile, ?denied, ?deletes, ?erases, ?changes, ?unchanged, fun _ _ _ => attrChange_permitted⟩
  case stored =>
    intro s c r k n hnew hsession hplain hready hfree hnum hroom
    obtain ⟨hlive, hfail⟩ := hfree
    obtain ⟨e, hdraw, hdrawn⟩ := Dev.drbgDraw_draws (d := s.dev.keyless c) r.bay k.len hfail
    obtain ⟨hwrites, hnonce, hnext, hquota⟩ := hdrawn.vault
    have hstored := Dev.createKey_stored (d := e) (c := c) (r := r) (n := n) (o := s.dev.newObj k.attrs (s.dev.freeBytes k.len))
      (by rw [hnonce]; exact hlive) (by rw [Dev.on, hdrawn.get (by decide)]; exact hfail) (by rw [hnext]; exact hnum)
      (by rw [hquota]; exact hroom _ (Dev.freeBytes_length _ _))
      (fun handle => [handle, storedCheck k.attrs.alg (s.dev.freeBytes k.len)])
    refine completes_after (f := keyGeneration c) rfl ⟨rfl, s.dev.freeBytes k.len, rfl, ?_⟩
    rw [keyGeneration_plain hplain hnew hsession rfl hready hdraw, hdrawn.newObj]
    exact ((s.dev.keyless_prepares c).trans (hdrawn.prepares c)).writes hwrites hstored.1
  case session =>
    intro s c r k slot hnew hsession hplain hready hfail hslot hroom
    obtain ⟨e, hdraw, hdrawn⟩ := Dev.drbgDraw_draws (d := s.dev.keyless c) r.bay k.len hfail
    obtain ⟨hplinth, hnext, hcache⟩ := hdrawn.session
    have hgen : e.get R.BY_GEN_GEN r.bay = s.dev.get R.BY_GEN_GEN r.bay :=
      hdrawn.get (Fld.key_ne_of_off _ _ _ _ _ _ (by decide) (by decide) (by decide) (by decide) (by decide) (by decide) (by decide))
    obtain ⟨-, -, -, -, hkeys, -⟩ := id hready
    rw [Dev.resolve_nil hkeys] at hroom
    have hstored := Dev.createKey_session (d := e) (c := c) (r := r) (slot := slot)
      (o := s.dev.newObj k.attrs (s.dev.freeBytes k.len)) (by rw [hnext]; exact hslot)
      (by rw [hcache, Obj.entries, Dev.newObj, Dev.freeBytes_length]; exact hroom)
      (fun handle => [handle, storedCheck k.attrs.alg (s.dev.freeBytes k.len)])
    have hends : keyGeneration c s.dev = _ := (keyGeneration_plain hplain hnew hsession rfl hready hdraw).trans
      ((congrArg (fun o => e.createKey c r o true _) (hdrawn.newObj _ _)).trans hstored)
    refine completes_after (f := keyGeneration c) rfl ⟨rfl, s.dev.freeBytes k.len, ⟨s.dev.newObj k.attrs (s.dev.freeBytes k.len),
      e.plinth.powerSeq, e.get R.BY_GEN_GEN r.bay⟩, rfl, ?_, rfl, ?_⟩
    · rw [hends]
      exact (congrArg (Tab.look · _) (e.addSession_sess _ _ _)).trans ((Tab.look_put _ _ _ _).trans (if_pos rfl))
    · rw [hends, hgen, hplinth]
      exact (((s.dev.keyless_prepares c).trans (hdrawn.prepares c)).trans (e.addSession_prepares c _ _ _)).ends _ _ _
  case profile =>
    intro s c r k n hnew hsession hprofile hauth hready hfree hnum hroom
    obtain ⟨hlive, hfail⟩ := hfree
    obtain ⟨e, hdraw, hdrawn⟩ := Dev.drbgDraw_draws (d := s.dev.spending c) r.bay k.len
      (by rw [Dev.on, Dev.spending_get _ _ (by decide)]; exact hfail)
    obtain ⟨hwrites, hnonce, hnext, hquota⟩ := hdrawn.vault
    have hobj (key : Bytes) : e.newObj k.attrs key = s.dev.newObj k.attrs key := by
      have hfloor : (s.dev.spending c).floor = s.dev.floor := s.dev.spending_get c (by decide)
      rw [hdrawn.newObj, Dev.newObj, hfloor]
      rfl
    obtain ⟨hstored, hregs⟩ := Dev.createKey_stored (d := e) (c := c) (r := r) (n := n)
      (o := s.dev.newObj k.attrs (s.dev.freeBytes k.len)) (by rw [hnonce]; exact hlive)
      (by rw [Dev.on, hdrawn.get (by decide), Dev.spending_get _ _ (by decide)]; exact hfail) (by rw [hnext]; exact hnum)
      (by rw [hquota]; exact hroom _ (Dev.freeBytes_length _ _))
      (fun handle => [handle, storedCheck k.attrs.alg (s.dev.freeBytes k.len)])
    have hstate : (e.createKey c r (s.dev.newObj k.attrs (s.dev.freeBytes k.len)) false
        (fun handle => [handle, storedCheck k.attrs.alg (s.dev.freeBytes k.len)])).get R.CD_CER_STATUS_STATE = 3 := by
      rw [hregs.get _ _ _ (not_assignKey (by decide)), hdrawn.get (by decide), Dev.spending_state]
    obtain ⟨hidle, hkept⟩ := Dev.authDone_executing hstate
    have hends : keyGeneration c s.dev = _ := (keyGeneration_spends hprofile hauth hnew hsession hready hdraw).trans
      (congrArg (fun o => (e.createKey c r o false _).authDone) (hobj _))
    refine completes_after (f := keyGeneration c) rfl ⟨rfl, ?_⟩
    rw [hends]
    refine ⟨hidle, (congrArg Keys.writes hkept).trans (hstored.1.trans ?_)⟩
    rw [hwrites]
    rfl
  case denied =>
    intro s c r k hnew hprofile hrun hfunc hbusy hauth
    refine completes_after (f := keyGeneration c) rfl ⟨rfl, ?_⟩
    rw [keyGeneration_denied hprofile hnew hrun hfunc hbusy hauth]
    exact ⟨Dev.finish_ends _ _ _ _ _, rfl⟩
  case deletes =>
    intro s c r o hstored hroot hlook hready hfree
    refine completes_after (f := keyDeletion c) rfl ⟨rfl, ?_⟩
    rw [keyDeletion_stored hroot hlook hstored hready]
    exact (s.dev.keyless_prepares c).writes rfl (Dev.writeAndWait_object (d := s.dev.keyless c) hfree.1 hfree.2 _).1
  case erases =>
    intro s c r o hsession hroot hlook hrun hfunc hbusy
    refine completes_after (f := keyDeletion c) rfl ⟨rfl, ?_⟩
    rw [keyDeletion_session hroot hlook hsession hrun hfunc hbusy]
    refine ⟨((Dev.Prepares.of_keys _ _).trans (.of_keys _ _)).ends _ _ _, ?_, Dev.cached_cacheOut _ _ _, fun i hi => ?_⟩
    · exact (Tab.look_del _ _ _).trans (if_pos rfl)
    · exact (Tab.look_del _ _ _).trans (if_neg hi.symm)
  case changes =>
    intro s c r o a hstored hroot hlook hchange hready hfree
    refine completes_after (f := attributeChange c) rfl ⟨rfl, ?_⟩
    rw [attributeChange_stored hroot hlook hstored hchange hready]
    exact (s.dev.keyless_prepares c).writes rfl (Dev.writeAndWait_object (d := s.dev.keyless c) hfree.1 hfree.2 _).1
  case unchanged =>
    intro s c r o st hroot hlook hrun hfunc hbusy hchange
    refine completes_after (f := attributeChange c) rfl ⟨rfl, ?_⟩
    rw [attributeChange_ends hroot hlook rfl hrun hfunc hbusy hchange]
    exact ⟨Dev.finish_ends _ _ _ _ _, rfl⟩

end Sys2Proof.Machine

namespace Sys2Proof.Machine

/-! # Fields that stand apart

Two fields at different places of their pages have different keys, whichever pages these are. A chain of writes is then
read field by field. -/

/-- Two fields stand at different places of a page. -/
abbrev Fld.Parted (f g : Fld) : Prop :=
  (f.off ≠ g.off ∨ f.lo ≠ g.lo) ∧ (f.off < 0x1000 ∧ f.lo < 32) ∧ g.off < 0x1000 ∧ g.lo < 32

theorem Fld.Parted.key_ne {f g : Fld} (h : f.Parted g) (i j : Nat) : f.key i 0 ≠ g.key j 0 := by
  obtain ⟨hne, ⟨hfo, hfl⟩, hgo, hgl⟩ := h
  rcases hne with hoff | hlo
  · exact Fld.key_ne_of_off _ _ _ _ _ _ hoff hfo hfl (by decide) hgo hgl (by decide)
  · exact Fld.key_ne_of_lo hlo hfl hgl (by decide) (by decide)

theorem Dev.get_set_parted (d : Dev) {f g : Fld} (v i j : Nat) (h : f.Parted g) : (d.set f v i).get g j = d.get g j :=
  Dev.get_set_ne _ _ _ _ _ _ _ _ (h.key_ne i j)

theorem Dev.get_bumpWrap_parted (d : Dev) {f g : Fld} (i j n : Nat) (h : f.Parted g) :
    (d.bumpWrap f i 0 n).get g j = d.get g j := d.get_set_parted _ i j h

/-- A field stands outside the header's reporting registers. -/
abbrev Fld.Plain (f : Fld) : Prop := f.off ≠ 0x010 ∧ f.off ≠ 0x024 ∧ f.off < 0x1000 ∧ f.lo < 32

/-- A plain field of a page apart is none that a report writes. -/
theorem Fld.Plain.not_reported {f : Fld} (h : f.Plain) {i : Nat} (hi : f.blk.apart i) :
    ¬ markKey (f.key i 0) ∧ ¬ reportKey (f.key i 0) := by
  obtain ⟨hraw, herr, ho, hl⟩ := h
  exact ⟨markKey_false _ _ _ hi.1 hi.2 ho hl (by decide), reportKey_false _ _ _ hraw herr ho hl (by decide)⟩

/-- Reports leave a plain field of a page apart. -/
theorem Dev.Reported.get_plain {d e : Dev} (h : Dev.Reported reportKey d e) {f : Fld} {i : Nat} (hf : f.Plain)
    (hi : f.blk.apart i) : e.get f i = d.get f i :=
  h.get f i 0 (hf.not_reported hi).1 (hf.not_reported hi).2

theorem Dev.raiseInt_reported (d : Dev) (b : Blk) (i n : Nat) : Dev.Reported reportKey d (d.raiseInt b i n) :=
  (Dev.Reported.refl d).raiseInt _ _ _ (.inr (reportKey_raw _ _))

theorem Dev.mark_reported (own : Nat → Prop) (d : Dev) (ev : Event) (isl : Island) (u p0 p1 p2 p3 : Nat) :
    Dev.Reported own d (d.mark ev isl u p0 p1 p2 p3) := (Dev.Reported.refl d).mark _ _ _ _ _ _ _

/-- A record leaves the fields of the pages apart, INT_RAW with them. -/
theorem Dev.mark_get (d : Dev) (ev : Event) (isl : Island) (u p0 p1 p2 p3 : Nat) {f : Fld} {i : Nat} (hi : f.blk.apart i)
    (ho : f.off < 0x1000 ∧ f.lo < 32) : (d.mark ev isl u p0 p1 p2 p3).get f i = d.get f i :=
  (d.mark_reported (fun _ => False) ev isl u p0 p1 p2 p3).get f i 0 (markKey_false _ _ _ hi.1 hi.2 ho.1 ho.2 (by decide)) id

/-- An interrupt bit that is set stays set when another bit of its page is raised. -/
theorem Dev.raiseInt_bit_mono {d : Dev} {b : Blk} {i n : Nat} (m : Nat) (h : b.apart i) (hn : n < 32)
    (hd : (d.get (R.INT_RAW b) i).testBit n = true) : ((d.raiseInt b i m).get (R.INT_RAW b) i).testBit n = true := by
  rw [Dev.raiseInt_raw d b i m (Blk.apart_raw h), Nat.testBit_mod_two_pow]
  simp [hn, Nat.testBit_or, hd]

theorem Dev.blockEvent_bit_mono {d : Dev} {b : Blk} {i n : Nat} (m : Nat) (h : b.apart i) (hn : n < 32)
    (hd : (d.get (R.INT_RAW b) i).testBit n = true) : ((d.blockEvent b i m).get (R.INT_RAW b) i).testBit n = true := by
  have hraise := Dev.raiseInt_bit_mono m h hn hd
  unfold Dev.blockEvent
  dsimp only
  split
  · rwa [Dev.mark_get _ _ _ _ _ _ _ _ h ⟨show 0x010 < 0x1000 by decide, show 0 < 32 by decide⟩]
  · exact hraise

theorem Status.code_mod (st : Status) : st.code % 2 ^ 16 = st.code := Nat.mod_eq_of_lt st.code_lt

end Sys2Proof.Machine

namespace Sys2Proof.Machine

/-! # O34: microcode and the boot routines

Every step of a load is a chain of register writes. -/

theorem Blk.apart_vs (e : Nat) : Blk.vs.apart e := by
  simp [Blk.apart, Blk.page, Blk.basePage, Blk.stride]
  omega

/-- Reports leave the plain fields of an engine's page. -/
theorem Dev.Reported.get_vs {d e : Dev} (h : Dev.Reported reportKey d e) {f : Fld} (i : Nat) (hf : f.blk = .vs ∧ f.Plain) :
    e.get f i = d.get f i := h.get_plain hf.2 (by rw [hf.1]; exact Blk.apart_vs i)

theorem Dev.clearUcode_eq (d : Dev) (e : Nat) : ∃ v, d.clearUcode e =
    (((((d.set R.VS_UCODE_STATUS_VALID 0 e).set R.VS_UCODE_STATUS_STALE 0 e).set R.VS_UCODE_VERSION_RELEASE 0 e).set
      R.VS_UCODE_VERSION_VERSION 0 e).set R.VS_UCODE_FMAX 0 e).set R.KT_FLEET_FLOOR_FORMAT_MAX v := ⟨_, rfl⟩

/-- What a load that fails leaves, but for its report. -/
def Dev.ucodeFailed (d : Dev) (e : Nat) (st : Status) : Dev :=
  (((d.set R.VS_UCODE_CTL 0 e).set R.VS_UCODE_STATUS_LOADING 0 e).set R.VS_UCODE_STATUS_STATUS st.code e).clearUcode e

/-- What a load that ends with a valid image leaves, but for its report. -/
def Dev.ucodeLoaded (d : Dev) (e : Nat) (u : Ucode) : Dev :=
  (((((((d.set R.VS_UCODE_CTL 0 e).set R.VS_UCODE_STATUS_LOADING 0 e).set R.VS_UCODE_STATUS_STATUS Status.ok.code e).set
    R.VS_UCODE_STATUS_VALID 1 e).set R.VS_UCODE_VERSION_RELEASE u.release e).set
      R.VS_UCODE_VERSION_VERSION u.version e).set R.VS_UCODE_FMAX u.formatMax e).refreshFormats

theorem vsUcodeLoad_starts {d : Dev} {req : Requester} {e v : Nat} (hv : v % 2 = 1) (hidle : d.on R.VS_UCODE_CTL e = false)
    (h : req.origin = .supervisor ∧ d.on R.VS_SERVICE_OFFLINE e = true ∧ (d.engine e).isIdle = true) :
    vsUcodeLoad req e v d = ((d.clearUcode e).set R.VS_UCODE_CTL 1 e).set R.VS_UCODE_STATUS_LOADING 1 e := by
  obtain ⟨hreq, hoff, hfree⟩ := h
  simp [vsUcodeLoad, hv, hidle, hreq, hoff, hfree]

theorem vsUcodeLoad_denied {d : Dev} {req : Requester} {e v : Nat} (hv : v % 2 = 1) (hidle : d.on R.VS_UCODE_CTL e = false)
    (h : ¬ (req.origin = .supervisor ∧ d.on R.VS_SERVICE_OFFLINE e = true ∧ (d.engine e).isIdle = true)) :
    vsUcodeLoad req e v d = d.err .vs e req .policyDenied := by
  rw [vsUcodeLoad, if_neg (by simp [hv, hidle]), if_pos]
  by_contra hn
  simp only [ne_eq, Bool.not_eq_true', not_or, not_not, Bool.not_eq_false] at hn
  exact h hn

theorem vsUcodeLoadDone_loaded {d : Dev} {e : Nat} {u : Ucode} (hload : d.on R.VS_UCODE_STATUS_LOADING e = true)
    (hauth : u.authentic = true) (hrel : d.runsRelease u.release = true) :
    vsUcodeLoadDone e u d = (d.ucodeLoaded e u).raiseInt .vs e 4 := by
  simp [vsUcodeLoadDone, hload, hauth, hrel, Dev.ucodeLoaded]

theorem vsUcodeLoadDone_failed {d : Dev} {e : Nat} {u : Ucode} (hload : d.on R.VS_UCODE_STATUS_LOADING e = true)
    (h : u.authentic = false ∨ d.runsRelease u.release = false) :
    ∃ p0 p1, vsUcodeLoadDone e u d = ((d.ucodeFailed e (if u.authentic then .ucodeBinding else .ucodeAuth)).raiseInt .vs e 5).mark
      .vsUcodeFail .voussoir e p0 p1 := by
  cases hauth : u.authentic with
  | false => exact ⟨_, _, by simp [vsUcodeLoadDone, hload, hauth, Dev.ucodeFailed]; rfl⟩
  | true =>
    have hrel : d.runsRelease u.release = false := h.resolve_left (by simp [hauth])
    exact ⟨_, _, by simp [vsUcodeLoadDone, hload, hauth, hrel, Dev.ucodeFailed]; rfl⟩

theorem Dev.ucodeFailed_spec (d : Dev) (e : Nat) (st : Status) :
    (d.ucodeFailed e st).get R.VS_UCODE_STATUS_VALID e = 0 ∧ (d.ucodeFailed e st).get R.VS_UCODE_STATUS_LOADING e = 0 ∧
      (d.ucodeFailed e st).get R.VS_UCODE_FMAX e = 0 ∧ (d.ucodeFailed e st).get R.VS_UCODE_STATUS_STATUS e = st.code ∧
      d.SameWork (d.ucodeFailed e st) := by
  obtain ⟨v, hv⟩ := (((d.set R.VS_UCODE_CTL 0 e).set R.VS_UCODE_STATUS_LOADING 0 e).set R.VS_UCODE_STATUS_STATUS
    st.code e).clearUcode_eq e
  rw [Dev.ucodeFailed, hv]
  simp (disch := decide) only [Dev.get_set_parted, Dev.get_set_self]
  exact ⟨rfl, rfl, rfl, st.code_mod, .of_regs rfl⟩

theorem Dev.ucodeLoaded_spec (d : Dev) (e : Nat) (u : Ucode) :
    (d.ucodeLoaded e u).get R.VS_UCODE_STATUS_VALID e = 1 ∧ (d.ucodeLoaded e u).get R.VS_UCODE_STATUS_LOADING e = 0 ∧
      (d.ucodeLoaded e u).get R.VS_UCODE_CTL e = 0 ∧ (d.ucodeLoaded e u).get R.VS_UCODE_STATUS_STATUS e = Status.ok.code ∧
      (d.ucodeLoaded e u).get R.VS_UCODE_VERSION_RELEASE e = u.release % R.VS_UCODE_VERSION_RELEASE.bound ∧
      (d.ucodeLoaded e u).get R.VS_UCODE_VERSION_VERSION e = u.version % R.VS_UCODE_VERSION_VERSION.bound ∧
      (d.ucodeLoaded e u).get R.VS_UCODE_FMAX e = u.formatMax % R.VS_UCODE_FMAX.bound ∧ d.SameWork (d.ucodeLoaded e u) := by
  unfold Dev.ucodeLoaded Dev.refreshFormats
  simp (disch := decide) only [Dev.get_set_parted, Dev.get_set_self]
  exact ⟨rfl, rfl, rfl, Status.code_mod _, trivial, trivial, trivial, .of_regs rfl⟩

/-- Settles O34: a load is a chain of register writes and a report, and a boot routine writes its result. -/
theorem microcodeAndBootRoutines : Obligations.MicrocodeAndBootRoutines := by
  refine ⟨?starts, ?idle, ?loaded, ?failed, ?unloaded, ?boots, ?busy⟩
  case starts =>
    intro s req e v hv hidle
    refine completes_after (f := vsUcodeLoad req e v.toNat) rfl ⟨rfl, ?_⟩
    split
    next h =>
      obtain ⟨v, hclear⟩ := s.dev.clearUcode_eq e
      rw [vsUcodeLoad_starts hv hidle h, hclear]
      simp (disch := decide) only [Dev.on, Dev.get_set_parted, Dev.get_set_self]
      exact ⟨rfl, rfl, rfl, rfl, rfl, rfl⟩
    next h =>
      rw [vsUcodeLoad_denied hv hidle h]
      exact ⟨Dev.err_code _ _ _ (Blk.apart_vs _), Dev.err_reported _ _ _ _ _⟩
  case idle =>
    intro s req e v h
    exact completes_after (f := vsUcodeLoad req e v.toNat) rfl ⟨rfl, if_pos h⟩
  case loaded =>
    intro s e u hload hauth hrel
    refine completes_after (f := vsUcodeLoadDone e u) rfl ⟨rfl, ?_⟩
    obtain ⟨hvalid, hloading, hctl, hstatus, hrelease, hversion, hfmax, hwork⟩ := s.dev.ucodeLoaded_spec e u
    rw [vsUcodeLoadDone_loaded hload hauth hrel]
    simp (disch := decide) only [Dev.on, ((s.dev.ucodeLoaded e u).raiseInt_reported .vs e 4).get_vs, hvalid, hloading, hctl,
      hstatus, hrelease, hversion, hfmax]
    exact ⟨rfl, rfl, rfl, trivial, trivial, trivial, trivial, Dev.raiseInt_bit _ (Blk.apart_vs _) (by decide), hwork.raiseInt _ _ _⟩
  case failed =>
    intro s e u hload hfault
    obtain ⟨p0, p1, hends⟩ := vsUcodeLoadDone_failed hload hfault
    obtain ⟨hvalid, hloading, hfmax, hstatus, hwork⟩ :=
      s.dev.ucodeFailed_spec e (if u.authentic then .ucodeBinding else .ucodeAuth)
    refine completes_after (f := vsUcodeLoadDone e u) rfl ⟨rfl, ?_⟩
    have hreport := (((s.dev.ucodeFailed e (if u.authentic then .ucodeBinding else .ucodeAuth)).raiseInt_reported .vs e 5).mark
      .vsUcodeFail .voussoir e p0 p1 0 0)
    rw [hends]
    simp (disch := decide) only [Dev.on, hreport.get_vs, hvalid, hloading, hstatus, hfmax]
    refine ⟨rfl, rfl, trivial, trivial, ?_, hwork.trans hreport.work⟩
    rw [Dev.mark_get _ _ _ _ _ _ _ _ (Blk.apart_vs _) (by decide)]
    exact Dev.raiseInt_bit _ (Blk.apart_vs _) (by decide)
  case unloaded =>
    intro s e u hload
    exact completes_after (f := vsUcodeLoadDone e u) rfl ⟨rfl, if_pos (by rw [hload]; rfl)⟩
  case boots =>
    rintro s i out hfree (⟨root, hroot, rfl, rfl⟩ | ⟨m, rfl, rfl⟩ | ⟨point, m, sig, rfl, rfl⟩)
    · refine completes_after (f := identityKeyDerivation) rfl ⟨rfl, ?_⟩
      simp [identityKeyDerivation, hroot, hfree]
    · exact completes_after (f := bootSha512 m) rfl ⟨rfl, if_pos hfree⟩
    · exact completes_after (f := bootSignatureVerify point m sig) rfl ⟨rfl, if_pos hfree⟩
  case busy =>
    rintro s i hfree (rfl | ⟨m, rfl⟩ | ⟨point, m, sig, rfl⟩)
    · refine completes_after (f := identityKeyDerivation) rfl ⟨rfl, ?_⟩
      unfold identityKeyDerivation
      split <;> simp [hfree]
    · exact completes_after (f := bootSha512 m) rfl ⟨rfl, if_neg (by simp [hfree])⟩
    · exact completes_after (f := bootSignatureVerify point m sig) rfl ⟨rfl, if_neg (by simp [hfree])⟩

end Sys2Proof.Machine

namespace Sys2Proof.Machine

/-! # O38: the noise sources and the root

A failed source is a few register writes and a report; so is the end of a regeneration, with one write of the key island. -/

/-- The place of a register that the health tests write. -/
def noiseKey (key : Nat) : Prop :=
  key = R.RN_STATUS_HEALTHY.key 0 0 ∨ key = R.RN_STATUS_FAIL.key 0 0 ∨ key = R.RN_RCT_FAILS.key 0 0 ∨
    key = R.RN_APT_FAILS.key 0 0 ∨ reportKey key

/-- The number of sources that a word names healthy. -/
def healthyCount (w : Nat) : Nat := ((List.range 8).filter (fun i => w.testBit i)).length

/-- What a failed test counts and excludes, before its report (R209). -/
def Dev.excluded (d : Dev) (source test : Nat) : Dev :=
  (if test = 0 then d.bumpSat R.RN_RCT_FAILS else if test = 1 then d.bumpSat R.RN_APT_FAILS else d).set R.RN_STATUS_HEALTHY
    (if (d.get R.RN_STATUS_HEALTHY).testBit source then d.get R.RN_STATUS_HEALTHY - 2 ^ source else d.get R.RN_STATUS_HEALTHY)

theorem Dev.sourceFails_eq (d : Dev) (source test : Nat) : d.sourceFails source test =
    ((d.excluded source test).raiseInt .rn 0 2).mark .rnSourceFail .key source source test := rfl

theorem Dev.sourceFails_reported (d : Dev) (source test : Nat) :
    Dev.Reported reportKey (d.excluded source test) (d.sourceFails source test) :=
  (Dev.raiseInt_reported _ _ _ _).mark _ _ _ _ _ _ _

theorem Dev.excluded_noise (d : Dev) (source test : Nat) : Dev.Reported noiseKey d (d.excluded source test) := by
  have hr := Dev.Reported.refl (own := noiseKey) d
  refine Dev.Reported.set (.ite _ (hr.bumpSat _ _ _ _ ?_) (.ite _ (hr.bumpSat _ _ _ _ ?_) hr)) _ _ _ _ ?_
  · exact .inr (.inr (.inr (.inl rfl)))
  · exact .inr (.inr (.inr (.inr (.inl rfl))))
  · exact .inr (.inl rfl)

theorem Dev.excluded_healthy (d : Dev) (source test : Nat) : (d.excluded source test).get R.RN_STATUS_HEALTHY =
    if (d.get R.RN_STATUS_HEALTHY).testBit source then d.get R.RN_STATUS_HEALTHY - 2 ^ source
    else d.get R.RN_STATUS_HEALTHY := by
  have hlt : d.get R.RN_STATUS_HEALTHY < R.RN_STATUS_HEALTHY.bound := Nat.mod_lt _ (by decide)
  rw [Dev.excluded, Dev.get_set_self]
  refine Nat.mod_eq_of_lt ?_
  split
  · exact lt_of_le_of_lt (Nat.sub_le _ _) hlt
  · exact hlt

theorem Dev.sourceFails_healthy (d : Dev) (source test : Nat) : (d.sourceFails source test).get R.RN_STATUS_HEALTHY =
    if (d.get R.RN_STATUS_HEALTHY).testBit source then d.get R.RN_STATUS_HEALTHY - 2 ^ source
    else d.get R.RN_STATUS_HEALTHY := by
  rw [(d.sourceFails_reported source test).get_plain (by decide) (Blk.apart_zero (by decide)), Dev.excluded_healthy]

theorem Dev.sourceFails_bit (d : Dev) (source test : Nat) :
    ((d.sourceFails source test).get (R.INT_RAW .rn)).testBit 2 = true := by
  rw [Dev.sourceFails_eq, Dev.mark_get _ _ _ _ _ _ _ _ (Blk.apart_zero (by decide)) (by decide)]
  exact Dev.raiseInt_bit _ (Blk.apart_zero (by decide)) (by decide)

theorem Dev.sourceFails_noise (d : Dev) (source test : Nat) : Dev.Reported noiseKey d (d.sourceFails source test) :=
  (d.excluded_noise source test).trans ((d.sourceFails_reported source test).mono fun _ h => .inr (.inr (.inr (.inr h))))

/-- Each test has its counter. -/
theorem Dev.sourceFails_counts (d : Dev) (source : Nat) (test : Fin 2) :
    if test = 0 then (d.sourceFails source test).get R.RN_RCT_FAILS =
        min (R.RN_RCT_FAILS.bound - 1) (d.get R.RN_RCT_FAILS + 1)
    else (d.sourceFails source test).get R.RN_APT_FAILS = min (R.RN_APT_FAILS.bound - 1) (d.get R.RN_APT_FAILS + 1) := by
  have hreport := d.sourceFails_reported source test
  rw [hreport.get_plain (by decide) (Blk.apart_zero (by decide)), hreport.get_plain (by decide) (Blk.apart_zero (by decide))]
  unfold Dev.excluded
  rw [Dev.get_set_parted _ _ _ _ (by decide), Dev.get_set_parted _ _ _ _ (by decide)]
  match test with
  | 0 => exact Dev.bumpSat_get_self _ _ _ _ _
  | 1 => exact Dev.bumpSat_get_self _ _ _ _ _

/-! ## FAIL follows the healthy sources (R210) -/

theorem Dev.noiseFail_reported (d : Dev) : Dev.Reported reportKey
    (d.set R.RN_STATUS_FAIL (b2n (decide (healthyCount (d.get R.RN_STATUS_HEALTHY) < 4)))) d.noiseFail :=
  .ite _ ((Dev.Reported.refl _).blockEvent _ _ _ (.inr (reportKey_raw _ _))) (.refl _)

theorem Dev.noiseFail_noise (d : Dev) : Dev.Reported noiseKey d d.noiseFail :=
  ((Dev.Reported.refl d).set _ _ _ _ (.inr (.inr (.inl rfl)))).trans
    (d.noiseFail_reported.mono fun _ h => .inr (.inr (.inr (.inr h))))

theorem Dev.noiseFail_get (d : Dev) {f : Fld} (h : R.RN_STATUS_FAIL.Parted f ∧ f.Plain ∧ f.blk ≠ .ev ∧ f.blk ≠ .ic) :
    d.noiseFail.get f = d.get f := by
  rw [d.noiseFail_reported.get_plain h.2.1 (Blk.apart_zero h.2.2), Dev.get_set_parted _ _ _ _ h.1]

theorem Dev.noiseFail_fail (d : Dev) :
    d.noiseFail.on R.RN_STATUS_FAIL = decide (healthyCount (d.get R.RN_STATUS_HEALTHY) < 4) := by
  rw [Dev.on, d.noiseFail_reported.get_plain (by decide) (Blk.apart_zero (by decide)), Dev.get_set_self]
  cases decide (healthyCount (d.get R.RN_STATUS_HEALTHY) < 4) <;> rfl

/-- An interrupt bit that is set stays set while FAIL is refreshed. -/
theorem Dev.noiseFail_bit {d : Dev} {n : Nat} (hn : n < 32) (h : (d.get (R.INT_RAW .rn)).testBit n = true) :
    (d.noiseFail.get (R.INT_RAW .rn)).testBit n = true := by
  have hset (v : Nat) : ((d.set R.RN_STATUS_FAIL v).get (R.INT_RAW .rn)).testBit n = true := by
    rwa [Dev.get_set_parted _ _ _ _ (by decide)]
  unfold Dev.noiseFail
  dsimp only
  split
  · exact Dev.blockEvent_bit_mono _ (Blk.apart_zero (by decide)) hn (hset _)
  · exact hset _

/-! ## The start-up tests (R209) -/

/-- Sources that the word does not name healthy change nothing of it when their failures are recorded. -/
theorem Dev.failures_recorded (l : List Nat) {d : Dev} {w : Nat} (hw : d.get R.RN_STATUS_HEALTHY = w)
    (hl : ∀ i ∈ l, w.testBit i = false) :
    (l.foldl (fun a i => a.sourceFails i 2) d).get R.RN_STATUS_HEALTHY = w ∧
      (l.foldl (fun a i => a.sourceFails i 2) d).get R.RN_STATUS_STARTED = d.get R.RN_STATUS_STARTED ∧
      d.SameWork (l.foldl (fun a i => a.sourceFails i 2) d) := by
  induction l generalizing d with
  | nil => exact ⟨hw, rfl, .refl d⟩
  | cons i l ih =>
    have hkept : (d.sourceFails i 2).get R.RN_STATUS_HEALTHY = w := by
      rw [Dev.sourceFails_healthy, hw, hl i List.mem_cons_self]; rfl
    obtain ⟨hhealthy, hstarted, hwork⟩ := ih hkept fun k hk => hl k (List.mem_cons_of_mem _ hk)
    refine ⟨hhealthy, hstarted.trans ?_, (d.sourceFails_noise i 2).work.trans hwork⟩
    rw [(d.sourceFails_reported i 2).get_plain (by decide) (Blk.apart_zero (by decide))]
    exact Dev.get_set_parted _ _ _ _ (by decide)

/-! ## Reseeds (R210, R211) -/

theorem Dev.drbg_setDrbg (d : Dev) (i k : Nat) (x : Drbg) : (d.setDrbg i x).drbg k = if i = k then x else d.drbg k :=
  Tab.get_set _ _ _ _ _

/-! ## The root (R176, R177, R180) -/

/-- A failed root: no node exists, KT_STATUS shows 3, and IRQ bit 2 is raised. -/
theorem Dev.rootFail_spec (d : Dev) (cause errors : Nat) : (d.rootFail cause errors).get R.KT_STATUS_ROOT = 3 ∧
    (d.rootFail cause errors).keys = { d.keys with root := none, nodes := [] } ∧
    ((d.rootFail cause errors).get (R.INT_RAW .kt)).testBit 2 = true ∧
    ∀ f : Fld, R.KT_STATUS_ROOT.Parted f ∧ f.blk = .kt ∧ f.Plain → (d.rootFail cause errors).get f = d.get f := by
  have hapart : Blk.kt.apart 0 := Blk.apart_zero (by decide)
  have hreport : Dev.Reported reportKey (({ d with keys := { d.keys with root := none, nodes := [] } } : Dev).set
      R.KT_STATUS_ROOT 3) (d.rootFail cause errors) := (Dev.raiseInt_reported _ _ _ _).mark _ _ _ _ _ _ _
  refine ⟨?_, hreport.work.keys, ?_, fun f ⟨hparted, hblk, hplain⟩ => ?_⟩
  · rw [hreport.get_plain (by decide) hapart, Dev.get_set_self]; rfl
  · unfold Dev.rootFail
    rw [Dev.mark_get _ _ _ _ _ _ _ _ hapart (by decide)]
    exact Dev.raiseInt_bit _ hapart (by decide)
  · rw [hreport.get_plain hplain (by rw [hblk]; exact hapart), Dev.get_set_parted _ _ _ _ hparted]
    rfl

/-- The errors corrected are recorded, and above the threshold both copies are written anew (R180). -/
structure Dev.Enrols (d e : Dev) (n : Nat) : Prop where
  corrected : e.get R.KT_STATUS_CORRECTED = n % R.KT_STATUS_CORRECTED.bound
  nodes : e.keys.nodes = d.keys.nodes
  resuming : e.keys.resuming = d.keys.resuming
  anew : d.get R.KT_REENROL * 512 < n * 100 → e.on R.KT_STATUS_REENROLLED = true ∧
    e.keys.helpers.1.count = max d.keys.helpers.1.count d.keys.helpers.2.count + 1 ∧ e.keys.helpers.2 = e.keys.helpers.1

/-- Both helper copies written anew, before the record (R180). -/
def Dev.copiesAnew (d : Dev) (n : Nat) : Dev :=
  let count := max d.keys.helpers.1.count d.keys.helpers.2.count + 1
  (({ d.set R.KT_STATUS_CORRECTED n with
      keys := { d.keys with helpers := (⟨count, true⟩, ⟨count, true⟩) } } : Dev).set R.KT_STATUS_REENROLLED 1).bumpWrap
    R.PL_PUF_REENROLS

theorem Dev.reenrol_eq (d : Dev) (n : Nat) : d.reenrol n = if n * 100 > d.get R.KT_REENROL * 512 then
    (d.copiesAnew n).mark .pufReenrolled .key 0 n (max d.keys.helpers.1.count d.keys.helpers.2.count + 1)
    else d.set R.KT_STATUS_CORRECTED n := rfl

theorem Dev.reenrol_enrols (d : Dev) (n : Nat) : d.Enrols (d.reenrol n) n := by
  rw [Dev.reenrol_eq]
  split
  next =>
    have hreport := (d.copiesAnew n).mark_reported reportKey .pufReenrolled .key 0 n
      (max d.keys.helpers.1.count d.keys.helpers.2.count + 1) 0 0
    have hkeys := hreport.work.keys
    have hapart : Blk.kt.apart 0 := Blk.apart_zero (by decide)
    refine ⟨(hreport.get_plain (by decide) hapart).trans ?_, by rw [hkeys]; rfl, by rw [hkeys]; rfl,
      fun _ => ⟨beq_iff_eq.mpr ?_, ?_⟩⟩
    · exact (Dev.get_bumpWrap_parted _ _ _ _ (by decide)).trans
        ((Dev.get_set_parted _ _ _ _ (by decide)).trans (Dev.get_set_self _ _ _ _ _))
    · exact (hreport.get_plain (by decide) hapart).trans ((Dev.get_bumpWrap_parted _ _ _ _ (by decide)).trans
        (Dev.get_set_self _ _ _ _ _))
    · rw [hkeys]
      exact ⟨rfl, rfl⟩
  next h => exact ⟨Dev.get_set_self _ _ _ _ _, rfl, rfl, fun hn => absurd hn h⟩

/-- The key island as a regeneration begins to end, and the highest correction recorded (R176, R524). -/
def Dev.regenerated (d : Dev) (n : Nat) : Dev :=
  (({ d with keys := { d.keys with resuming := false } } : Dev).set R.PL_PUF_MAX_CORRECTED
    (max (d.get R.PL_PUF_MAX_CORRECTED) n)).reenrol n

theorem rootRegenerationDone_decoded {d : Dev} {p : Perm} {errs : Option Nat × Option Nat} {n : Nat}
    (hroot : d.get R.KT_STATUS_ROOT = 1)
    (hn : d.helperOrder.findSome? (fun i => if i = 0 then errs.1 else errs.2) = some n) :
    rootRegenerationDone errs p d = match d.referenceKey p, d.plinth.share with
      | none, _ => (d.regenerated n).rootFail 3 n
      | some _, none => (d.regenerated n).rootFail 2 n
      | some key, some share =>
        if identityPublic (quarryRoot share) = key then
          ({ d.regenerated n with keys := { (d.regenerated n).keys with root := some (quarryRoot share) } } : Dev).set
            R.KT_STATUS_ROOT 2
        else (d.regenerated n).rootFail 2 n := by
  unfold rootRegenerationDone
  rw [if_neg (by simp [hroot])]
  dsimp only
  rw [show Dev.helperOrder { d with keys := { d.keys with resuming := false } } = d.helperOrder from rfl, hn]
  rfl

theorem rootRegenerationDone_undecoded {d : Dev} {p : Perm} {errs : Option Nat × Option Nat}
    (hroot : d.get R.KT_STATUS_ROOT = 1)
    (hn : d.helperOrder.findSome? (fun i => if i = 0 then errs.1 else errs.2) = none) :
    rootRegenerationDone errs p d = ({ d with keys := { d.keys with resuming := false } } : Dev).rootFail 1 0 := by
  unfold rootRegenerationDone
  rw [if_neg (by simp [hroot])]
  dsimp only
  rw [show Dev.helperOrder { d with keys := { d.keys with resuming := false } } = d.helperOrder from rfl, hn]

/-- A regeneration's end leaves of the key island and of KT_STATUS what re-enrolment does. -/
theorem Dev.regenerated_enrols (d : Dev) (n : Nat) :
    Dev.Enrols { d with keys := { d.keys with resuming := false } } (d.regenerated n) n := by
  have h := Dev.reenrol_enrols (({ d with keys := { d.keys with resuming := false } } : Dev).set R.PL_PUF_MAX_CORRECTED
    (max (d.get R.PL_PUF_MAX_CORRECTED) n)) n
  refine ⟨h.corrected, h.nodes, h.resuming, fun hn => h.anew ?_⟩
  rwa [Dev.get_set_parted _ _ _ _ (by decide)]

/-- Settles O38: a failed source is excluded and counted, a reseed is one write of its DRBG, and the root's end is one
write of the key island under KT_STATUS. -/
theorem noiseSourcesAndTheRoot : Obligations.NoiseSourcesAndTheRoot := by
  refine ⟨?fails, ?unused, ?starts, ?reseeds, ?root, ?lost, ?other⟩
  case fails =>
    intro s source test hhealthy
    have hcounts := s.dev.sourceFails_counts source test
    refine completes_after (f := rnSourceFail source test) rfl ⟨rfl, ?_⟩
    have hends : rnSourceFail source test s.dev = (s.dev.sourceFails source test).noiseFail := if_pos hhealthy
    simp (disch := decide) only [hends, Dev.noiseFail_get, Dev.noiseFail_fail]
    refine ⟨?_, rfl, hcounts, Dev.noiseFail_bit (by decide) (Dev.sourceFails_bit _ _ _),
      (Dev.sourceFails_noise _ _ _).trans (Dev.noiseFail_noise _)⟩
    rw [Dev.sourceFails_healthy, if_pos hhealthy]
  case unused =>
    intro s source test hunused
    exact completes_after (f := rnSourceFail source test) rfl ⟨rfl, if_neg (by rw [bitOf, hunused]; decide)⟩
  case starts =>
    intro s passed hstarted
    have hset : ((s.dev.set R.RN_STATUS_STARTED 1).set R.RN_STATUS_HEALTHY passed.toNat).get R.RN_STATUS_HEALTHY =
      passed.toNat := (Dev.get_set_self _ _ _ _ _).trans (Nat.mod_eq_of_lt passed.isLt)
    obtain ⟨hhealthy, hkept, hwork⟩ := Dev.failures_recorded ((List.range 8).filter (fun i => !bitOf passed.toNat i)) hset
      (fun i hi => by simpa [bitOf] using (List.mem_filter.mp hi).2)
    refine completes_after (f := rnStartupTestDone passed.toNat) rfl ⟨rfl, ?_⟩
    unfold rnStartupTestDone
    rw [if_neg (by simp [hstarted])]
    dsimp only
    refine ⟨?_, (Dev.noiseFail_get _ (by decide)).trans hhealthy, ?_,
      (Dev.SameWork.of_regs rfl).trans (hwork.trans (Dev.noiseFail_noise _).work)⟩
    · rw [Dev.on, Dev.noiseFail_get _ (by decide), hkept, Dev.get_set_parted _ _ _ _ (by decide), Dev.get_set_self]
      rfl
    · rw [Dev.noiseFail_fail, hhealthy]
      rfl
  case reseeds =>
    intro s i
    refine completes_after (f := drbgReseed i) rfl ⟨rfl, ?_⟩
    unfold drbgReseed
    split
    next =>
      refine ⟨?_, fun k hk => (Dev.drbg_setDrbg _ _ _ _).trans (if_neg hk.symm), rfl⟩
      rw [Dev.drbg_setDrbg, if_pos rfl]
      exact ⟨rfl, rfl, rfl⟩
    next =>
      exact ⟨⟨(Dev.drbg_setDrbg _ _ _ _).trans (if_pos rfl), Dev.get_set_self _ _ _ _ _⟩,
        fun k hk => (Dev.drbg_setDrbg _ _ _ _).trans (if_neg hk.symm), rfl⟩
  case root =>
    intro s errs n key share hroot hn hkey hshare
    obtain ⟨hcorrected, hnodes, hresuming, hanew⟩ := s.dev.regenerated_enrols n
    refine completes_afterWith (f := rootRegenerationDone errs) rfl ⟨rfl, ?_⟩
    rw [rootRegenerationDone_decoded hroot hn, hkey, hshare]
    dsimp only
    split
    next hmatch =>
      refine ⟨⟨Dev.get_set_self _ _ _ _ _, rfl, hnodes⟩,
        (Dev.get_set_parted _ _ _ _ (by decide)).trans hcorrected, hresuming, fun h => ?_⟩
      rw [Dev.on, Dev.get_set_parted _ _ _ _ (by decide)]
      exact hanew h
    next hmatch =>
      obtain ⟨hfailed, hlost, hbit, hkept⟩ := (s.dev.regenerated n).rootFail_spec 2 n
      rw [Dev.on, hkept R.KT_STATUS_CORRECTED (by decide), hkept R.KT_STATUS_REENROLLED (by decide), hlost]
      exact ⟨⟨hfailed, rfl, rfl, hbit⟩, hcorrected, hresuming, hanew⟩
  case lost =>
    intro s errs hroot hwhy
    refine completes_afterWith (f := rootRegenerationDone errs) rfl ⟨rfl, ?_⟩
    have hfail (d : Dev) (cause n : Nat) : (d.rootFail cause n).get R.KT_STATUS_ROOT = 3 ∧
        (d.rootFail cause n).keys.root = none ∧ (d.rootFail cause n).keys.nodes = [] ∧
        ((d.rootFail cause n).get (R.INT_RAW .kt)).testBit 2 = true := by
      obtain ⟨hfailed, hlost, hbit, -⟩ := d.rootFail_spec cause n
      exact ⟨hfailed, congrArg Keys.root hlost, congrArg Keys.nodes hlost, hbit⟩
    cases hn : s.dev.helperOrder.findSome? (fun i => if i = 0 then errs.1 else errs.2) with
    | none =>
      rw [rootRegenerationDone_undecoded hroot hn]
      exact hfail _ _ _
    | some n =>
      rw [rootRegenerationDone_decoded hroot hn]
      cases hkey : s.dev.referenceKey s.perm with
      | none => exact hfail _ _ _
      | some key =>
        cases hshare : s.dev.plinth.share with
        | none => exact hfail _ _ _
        | some share => simp [hn, hkey, hshare] at hwhy
  case other =>
    intro s errs hroot
    exact completes_afterWith (f := rootRegenerationDone errs) rfl ⟨rfl, if_pos hroot⟩

end Sys2Proof.Machine

namespace Sys2Proof.Machine

/-! # O39: the commands of KT_CMD

Each ends with its status in KT_CMD_STATUS. What wraps a record anew changes counters, tree nodes and reports; what ends a
ceremony changes the CD page. -/

/-! ## Wrapping records anew (R182, R240) -/

/-- Values of nonce counters have been assigned and tree nodes used: of the key island only those have changed, and of the
registers only what such an assignment writes. -/
structure Dev.Assigns (d e : Dev) : Prop where
  work : ({ d with keys := e.keys, free := e.free }).SameWork e
  keys : e.keys = { d.keys with drbgs := e.keys.drbgs, nonces := e.keys.nonces, nodes := e.keys.nodes }
  regs : d.SameRegs e assignKey

theorem Dev.Assigns.refl (d : Dev) : d.Assigns d := ⟨.refl d, rfl, .refl _ _⟩

theorem Dev.Assigns.trans {a b c : Dev} (h : a.Assigns b) (g : b.Assigns c) : a.Assigns c := by
  refine ⟨⟨g.work.sched.trans h.work.sched, g.work.wires.trans h.work.wires, g.work.eng.trans h.work.eng, rfl,
    g.work.cards.trans h.work.cards, g.work.plinth.trans h.work.plinth, g.work.cs.trans h.work.cs,
    g.work.life.trans h.work.life, g.work.gates.trans h.work.gates, g.work.pair.trans h.work.pair,
    g.work.power.trans h.work.power, g.work.hbm.trans h.work.hbm, rfl⟩, ?_, h.regs.trans g.regs⟩
  refine g.keys.trans ?_
  rw [h.keys]

theorem Dev.Assigns.ite {d a b : Dev} (h : d.Assigns a) (p : Prop) [Decidable p] (g : d.Assigns b) :
    d.Assigns (if p then a else b) := by split <;> assumption

/-- A change of the counters, the nodes and the DRBG instances alone is one. -/
theorem Dev.Assigns.of_keys (d : Dev) (g : Tab Drbg) (n : Tab Nonce) (l : List (Nat × Nat)) :
    d.Assigns { d with keys := { d.keys with drbgs := g, nonces := n, nodes := l } } :=
  ⟨⟨rfl, rfl, rfl, rfl, rfl, rfl, rfl, rfl, rfl, rfl, rfl, rfl, rfl⟩, rfl, fun _ _ => rfl, rfl, rfl⟩

/-- What leaves the work and writes only fields of an assignment is one. -/
theorem Dev.Assigns.of_work {d e : Dev} (hw : d.SameWork e) (hr : d.SameRegs e assignKey) : d.Assigns e :=
  ⟨⟨hw.sched, hw.wires, hw.eng, rfl, hw.cards, hw.plinth, hw.cs, hw.life, hw.gates, hw.pair, hw.power, hw.hbm, rfl⟩,
    by rw [hw.keys], hr⟩

theorem Dev.Assigns.drbgDraw {d : Dev} {i n : Nat} {r : Bytes × Dev} (h : d.drbgDraw i n = some r) : d.Assigns r.2 := by
  obtain ⟨t, g, m, ht, hr⟩ := Dev.drbgDraw_writes h
  rw [hr]
  exact ⟨⟨rfl, rfl, rfl, rfl, rfl, rfl, rfl, rfl, rfl, rfl, rfl, rfl, rfl⟩, rfl,
    fun key hkey => ht key fun he => hkey (.inr (.inr (.inl he))), rfl, rfl⟩

theorem Dev.Assigns.exhausted (d : Dev) (q : Prop) [Decidable q] (bay p : Nat) :
    d.Assigns (if q then (d.mark .nonceExhausted .key bay p).ringEvent bay .nonceExhausted p else d) := by
  have hmark := d.mark_reported countKey .nonceExhausted .key bay p 0 0 0
  split
  · exact .of_work (hmark.work.trans (Dev.ringEvent_work _ _ _ _ _)) (hmark.regs.trans (Dev.ringEvent_regs _ _ _ _ _))
  · exact .refl d

theorem Dev.Assigns.takeIv (d : Dev) (bay i : Nat) : d.Assigns (d.takeIv bay i).2 := by
  unfold Dev.takeIv
  dsimp only
  split
  next => exact .refl d
  next =>
    split
    next => exact .refl d
    next salt e hsalt =>
      have hdrawn : d.Assigns e := by
        split at hsalt
        next =>
          split at hsalt
          next b g hdraw => cases hsalt; exact .drbgDraw hdraw
          next => cases hsalt
        next => cases hsalt; exact .refl d
      exact (hdrawn.trans (.of_keys e _ _ _)).trans (.exhausted _ _ _ _)

theorem Dev.Assigns.wrapMany (d : Dev) (bay index n : Nat) : d.Assigns (d.wrapMany bay index n) := by
  induction n generalizing d with
  | zero => exact .refl d
  | succ n ih =>
    refine Dev.Assigns.trans (b := if (d.nonce index).ready then d else d.setNonce index _) ?_
      ((Dev.Assigns.takeIv _ _ _).trans (ih _))
    split
    · exact .refl d
    · exact .of_keys d _ _ _

theorem Dev.Assigns.useNode (d : Dev) (owner purpose : Nat) : d.Assigns (d.useNode owner purpose) := .of_keys d _ _ _

/-- A field of a page apart that stands at none of its offsets is not written by the assignment of an IV. -/
theorem not_assignKey_at {f : Fld} {i : Nat} (hi : f.blk.apart i)
    (hf : f.off ∉ [0x010, 0x024, 0x050, 0x060, 0x068, 0x06C] ∧ f.off < 0x1000 ∧ f.lo < 32) : ¬ assignKey (f.key i 0) := by
  obtain ⟨hoff, hlt, hlo⟩ := hf
  simp only [List.mem_cons, List.not_mem_nil, not_or, or_false] at hoff
  obtain ⟨hraw, herr, hreseeds, hhead, hrepeat, hoverflow⟩ := hoff
  have hne (g : Fld) (j : Nat) (h : f.off ≠ g.off) (hg : g.off < 0x1000 ∧ g.lo < 32) : f.key i 0 ≠ g.key j 0 :=
    Fld.Parted.key_ne ⟨.inl h, ⟨hlt, hlo⟩, hg⟩ i j
  rintro (hmark | hreport | h | ⟨b, h | h | h⟩)
  · exact markKey_false f i 0 hi.1 hi.2 hlt hlo (by decide) hmark
  · exact reportKey_false f i 0 hraw herr hlt hlo (by decide) hreport
  · exact hne R.RN_RESEEDS 0 hreseeds (by decide) h
  · exact hne R.BW_EV_HEAD b hhead (by decide) h
  · exact hne R.BW_EV_OVERFLOW b hoverflow (by decide) h
  · exact hne R.BW_EV_REPEAT_GEN b hrepeat (by decide) h

theorem Dev.Assigns.get {d e : Dev} (h : d.Assigns e) {f : Fld} {i : Nat} (hi : f.blk.apart i)
    (hf : f.off ∉ [0x010, 0x024, 0x050, 0x060, 0x068, 0x06C] ∧ f.off < 0x1000 ∧ f.lo < 32) : e.get f i = d.get f i :=
  h.regs.get f i 0 (not_assignKey_at hi hf)

/-! ## The end of a ceremony (R402) -/

/-- The end of a covered operation changes the cards and the CD page, and reports. -/
theorem Dev.authDone_reported (d : Dev) : ∃ s : Cards, Dev.Reported cardKey { d with cards := s } d.authDone := by
  unfold Dev.authDone
  split
  · obtain ⟨s, p0, p1, p2, he⟩ := d.cerEnd_eq 0
    refine ⟨s, ?_⟩
    have hset (e : Dev) (f : Fld) (hf : f.blk = .cd ∧ f.off < 0x1000 ∧ f.lo < 32) : Dev.Reported cardKey e (e.set f 0) :=
      (Dev.Reported.refl e).set _ _ _ _ (.inr (cardKey_status hf))
    have hcleared : Dev.Reported cardKey { d with cards := s } { d.cerCleared with cards := s } :=
      ((((hset _ R.CD_CER_STATUS_STATE (by decide)).trans (hset _ R.CD_CER_STATUS_CLASS (by decide))).trans
        (hset _ R.CD_CER_STATUS_BAY (by decide))).trans (hset _ R.CD_CER_STATUS_COUNT (by decide))).trans
          (hset _ R.CD_CER_STATUS_M (by decide))
    rw [he]
    exact (hcleared.mark _ _ _ _ _ _ _).raiseInt _ _ _ (.inr (cardKey_status (f := R.INT_RAW .cd) (by decide)))
  · exact ⟨d.cards, .refl d⟩

/-- The end of a covered operation leaves the fields of the pages apart other than the CD page, their INT_RAW with them. -/
theorem Dev.authDone_get (d : Dev) {f : Fld} {i : Nat} (hi : f.blk.apart i) (hcard : f.blk.page i ≠ Blk.cd.page 0)
    (hf : f.off < 0x1000 ∧ f.lo < 32) : d.authDone.get f i = d.get f i := by
  obtain ⟨s, hrep⟩ := d.authDone_reported
  refine (hrep.get f i 0 (markKey_false _ _ _ hi.1 hi.2 hf.1 hf.2 (by decide)) fun hk => ?_).trans rfl
  exact hcard ((f.key_page i 0 hf.1 hf.2 (by decide)).symm.trans hk)

theorem Dev.authDone_work (d : Dev) : ∃ s : Cards, ({ d with cards := s }).SameWork d.authDone := by
  obtain ⟨s, hrep⟩ := d.authDone_reported
  exact ⟨s, hrep.work⟩

theorem Dev.authDone_get_kt (d : Dev) {f : Fld} (hf : f.blk = .kt ∧ f.off < 0x1000 ∧ f.lo < 32) :
    d.authDone.get f = d.get f := by
  obtain ⟨hblk, hplace⟩ := hf
  exact d.authDone_get (by rw [hblk]; exact Blk.apart_zero (by decide)) (by rw [hblk]; decide) hplace

/-! ## The end of a command of KT_CMD (R223, R224) -/

theorem Blk.apart_kt : Blk.kt.apart 0 := Blk.apart_zero (by decide)

theorem Dev.ktEnd_reported (d : Dev) (st : Status) : Dev.Reported reportKey
    ((d.set R.KT_CMD_STATUS_STATUS st.code).set R.KT_CMD_STATUS_BUSY 0) (d.ktEnd st) :=
  (Dev.Reported.refl _).blockEvent _ _ _ (.inr (reportKey_raw _ _))

theorem Dev.ktEnd_status (d : Dev) (st : Status) : (d.ktEnd st).get R.KT_CMD_STATUS_STATUS = st.code := by
  rw [(d.ktEnd_reported st).get_plain (by decide) Blk.apart_kt, Dev.get_set_parted _ _ _ _ (by decide), Dev.get_set_self]
  exact st.code_mod

theorem Dev.ktEnd_busy (d : Dev) (st : Status) : (d.ktEnd st).get R.KT_CMD_STATUS_BUSY = 0 := by
  rw [(d.ktEnd_reported st).get_plain (by decide) Blk.apart_kt, Dev.get_set_self]
  rfl

theorem Dev.ktEnd_bit (d : Dev) (st : Status) : ((d.ktEnd st).get (R.INT_RAW .kt)).testBit 3 = true :=
  Dev.blockEvent_bit _ Blk.apart_kt (by decide)

theorem Dev.ktEnd_work (d : Dev) (st : Status) : d.SameWork (d.ktEnd st) :=
  (Dev.SameWork.of_regs rfl).trans (d.ktEnd_reported st).work

/-- The end of a command leaves the other fields of the pages apart, ERR_INFO with them. -/
theorem Dev.ktEnd_get (d : Dev) (st : Status) {f : Fld} {i : Nat} (hi : f.blk.apart i)
    (hf : R.KT_CMD_STATUS_STATUS.Parted f ∧ R.KT_CMD_STATUS_BUSY.Parted f ∧ f.off ≠ 0x010) :
    (d.ktEnd st).get f i = d.get f i := by
  obtain ⟨hstatus, hbusy, hraw⟩ := hf
  have hplace : f.off < 0x1000 ∧ f.lo < 32 := hstatus.2.2
  unfold Dev.ktEnd
  rw [Dev.blockEvent_get _ (markKey_false _ _ _ hi.1 hi.2 hplace.1 hplace.2 (by decide)) (Fld.key_ne_of_off _ _ _ _ _ _ hraw
    hplace.1 hplace.2 (by decide) (by decide) (by decide) (by decide)), Dev.get_set_parted _ _ _ _ hbusy,
    Dev.get_set_parted _ _ _ _ hstatus]

/-- An authorized command has ended: KT_CMD_STATUS shows its status, and the authorization is spent. -/
theorem Dev.ktEnd_spent {d : Dev} (h : d.get R.CD_CER_STATUS_STATE = 3) (st : Status) :
    (d.ktEnd st).authDone.get R.KT_CMD_STATUS_STATUS = st.code ∧ (d.ktEnd st).authDone.get R.KT_CMD_STATUS_BUSY = 0 ∧
      ((d.ktEnd st).authDone.get (R.INT_RAW .kt)).testBit 3 = true ∧ (d.ktEnd st).authDone.get R.CD_CER_STATUS_STATE = 0 ∧
      (d.ktEnd st).authDone.keys = d.keys := by
  have hkept : (d.ktEnd st).get R.CD_CER_STATUS_STATE = 3 :=
    (d.ktEnd_get st (Blk.apart_zero (by decide)) (by decide)).trans h
  obtain ⟨hstate, hkeys⟩ := Dev.authDone_executing hkept
  simp (disch := decide) only [Dev.authDone_get_kt]
  exact ⟨d.ktEnd_status st, d.ktEnd_busy st, d.ktEnd_bit st, hstate, hkeys.trans (d.ktEnd_work st).keys⟩

/-! ## Raising the floor (R219) -/

/-- The raised floor is recorded for the next course boundary. -/
def Dev.floorRaised (d : Dev) (f : Nat) : Dev :=
  { d.authStart with
    keys := { d.keys with floorNext := some f, floorRecord := d.keys.floorRecord ++ [(f, d.plinth.seconds)] }
    power := { d.power with floorCopy := f } }

/-- The floor that a raise has to pass: the one recorded for the next boundary where there is one. -/
def Dev.presentFloor (d : Dev) : Nat := d.keys.floorNext.getD (d.get R.KT_FLEET_FLOOR_FLOOR)

theorem ktRaiseFloor_eq (req : Requester) (d : Dev) : ktRaiseFloor req d =
    if !d.authStands 4 then d.policyRefused .kt req
    else if d.get R.KT_CMD_ARG % 65536 ≤ d.presentFloor ∨ !d.formatReached (d.get R.KT_CMD_ARG % 65536) then
      d.ktEnd .floorUnsupported
    else ((d.floorRaised (d.get R.KT_CMD_ARG % 65536)).ktEnd .ok).authDone := rfl

theorem ktRaiseFloor_raises {d : Dev} (req : Requester) (hauth : d.authStands 4 = true)
    (h : d.presentFloor < d.get R.KT_CMD_ARG % 65536 ∧ d.formatReached (d.get R.KT_CMD_ARG % 65536) = true) :
    ktRaiseFloor req d = ((d.floorRaised (d.get R.KT_CMD_ARG % 65536)).ktEnd .ok).authDone := by
  rw [ktRaiseFloor_eq, if_neg (by simp [hauth]), if_neg (not_or.mpr ⟨not_le.mpr h.1, by simp [h.2]⟩)]

theorem ktRaiseFloor_unsupported {d : Dev} (req : Requester) (hauth : d.authStands 4 = true)
    (h : ¬ (d.presentFloor < d.get R.KT_CMD_ARG % 65536 ∧ d.formatReached (d.get R.KT_CMD_ARG % 65536) = true)) :
    ktRaiseFloor req d = d.ktEnd .floorUnsupported := by
  rw [ktRaiseFloor_eq, if_neg (by simp [hauth]), if_pos]
  rwa [Bool.not_eq_true', ← Bool.not_eq_true, ← not_lt, ← not_and_or]

theorem ktRaiseFloor_denied {d : Dev} (req : Requester) (hauth : d.authStands 4 = false) :
    ktRaiseFloor req d = d.policyRefused .kt req := by rw [ktRaiseFloor_eq, hauth]; rfl

theorem Dev.ktEnd_authStands (d : Dev) (st : Status) (cls bay : Nat) : (d.ktEnd st).authStands cls bay = d.authStands cls bay := by
  have hget (f : Fld) (hf : R.KT_CMD_STATUS_STATUS.Parted f ∧ R.KT_CMD_STATUS_BUSY.Parted f ∧ f.off ≠ 0x010)
      (hcard : f.blk = .cd) : (d.ktEnd st).get f = d.get f :=
    d.ktEnd_get st (by rw [hcard]; exact Blk.apart_zero (by decide)) hf
  unfold Dev.authStands
  rw [hget _ (by decide) rfl, hget _ (by decide) rfl, hget _ (by decide) rfl]

/-! ## A command without its class (R224) -/

theorem Dev.policyRefused_reported (d : Dev) (b : Blk) (req : Requester) :
    Dev.Reported reportKey d (d.policyRefused b req) :=
  (d.err_reported b 0 req .policyDenied).blockEvent _ _ _ (.inr (reportKey_raw _ _))

theorem Dev.policyRefused_shown (d : Dev) {b : Blk} (req : Requester) (hb : b.apart 0) :
    (d.policyRefused b req).get (R.ERR_CODE b) = Status.policyDenied.code ∧
      ((d.policyRefused b req).get (R.INT_RAW .kt)).testBit 4 = true := by
  refine ⟨?_, Dev.blockEvent_bit _ Blk.apart_kt (by decide)⟩
  unfold Dev.policyRefused
  rw [Dev.blockEvent_get _ (markKey_false _ _ _ hb.1 hb.2 (show 0x024 < 0x1000 by decide) (show 0 < 32 by decide) (by decide))
    (Fld.key_ne_of_off _ _ _ _ _ _ (show 0x024 ≠ 0x010 by decide) (show 0x024 < 0x1000 by decide) (show 0 < 32 by decide)
      (by decide) (show 0x010 < 0x1000 by decide) (show 0 < 32 by decide) (by decide))]
  exact Dev.err_code _ _ _ hb

/-! ## External IV (R194, R224) -/

/-- What a handle names depends on the stored objects, the session keys, the power sequence and the bay's generation. -/
theorem Dev.lookup_congr {d e : Dev} {bay : Nat} (h : Nat) (hplinth : e.plinth = d.plinth)
    (hgen : e.get R.BY_GEN_GEN bay = d.get R.BY_GEN_GEN bay) (hsess : e.keys.sess = d.keys.sess)
    (hobjs : e.keys.objs = d.keys.objs) : e.lookup bay h = d.lookup bay h := by
  unfold Dev.lookup
  rw [hplinth, hgen, hsess, hobjs]

theorem Dev.Assigns.lookup {d e : Dev} (h : d.Assigns e) (bay n : Nat) : e.lookup bay n = d.lookup bay n :=
  Dev.lookup_congr (d := d) n h.work.plinth (h.get (Blk.apart_by bay) (by decide)) (by rw [h.keys]) (by rw [h.keys])

theorem Dev.ktEnd_lookup (d : Dev) (st : Status) (bay n : Nat) : (d.ktEnd st).lookup bay n = d.lookup bay n :=
  Dev.lookup_congr n (d.ktEnd_work st).plinth (d.ktEnd_get st (Blk.apart_by bay) (by decide))
    (congrArg Keys.sess (d.ktEnd_work st).keys) (congrArg Keys.objs (d.ktEnd_work st).keys)

theorem Dev.authDone_lookup (d : Dev) {bay : Nat} (n : Nat) (hbay : bay < 256) : d.authDone.lookup bay n = d.lookup bay n := by
  obtain ⟨c, hwork⟩ := d.authDone_work
  refine Dev.lookup_congr n hwork.plinth (d.authDone_get (Blk.apart_by bay) ?_ (by decide)) (congrArg Keys.sess hwork.keys)
    (congrArg Keys.objs hwork.keys)
  show Blk.by.page bay ≠ Blk.cd.page 0
  simp only [Blk.page, Blk.basePage, Blk.stride]
  omega

theorem Dev.lookup_setObj {d : Dev} {bay h : Nat} {o o1 : Obj} (hlook : d.lookup bay h = .key o)
    (hdeleted : o1.deletedAt = o.deletedAt) (hpending : o1.restorePending = o.restorePending) :
    (d.setObj bay h o1).lookup bay h = .key o1 := by
  unfold Dev.lookup at hlook
  split at hlook
  next hsession =>
    split at hlook
    next => cases hlook
    next hfresh =>
      split at hlook
      next x hx =>
        have hput : d.setObj bay h o1 = { d with keys := { d.keys with
            sess := Tab.put d.keys.sess (sessIndex bay (h % 65536)) { x with obj := o1 } } } := by
          rw [Dev.setObj, if_pos hsession]
          dsimp only
          rw [hx]
        rw [hput]
        refine (if_pos hsession).trans ((if_neg hfresh).trans ?_)
        rw [Tab.look_put, if_pos rfl]
      next => cases hlook
  next hstored =>
    split at hlook
    next => cases hlook
    next hnumber =>
      split at hlook
      next x hx =>
        split at hlook
        next => cases hlook
        next hlive =>
          cases hlook
          rw [Dev.setObj, if_neg hstored]
          refine (if_neg hstored).trans ((if_neg hnumber).trans ?_)
          rw [Tab.look_put, if_pos rfl]
          dsimp only
          rw [hdeleted, hpending, if_neg hlive]
      next => cases hlook

theorem Dev.setObj_shape (d : Dev) (bay h : Nat) (o : Obj) : ∃ k : Keys, d.setObj bay h o = { d with keys := k } := by
  unfold Dev.setObj
  dsimp only
  split
  · split
    · exact ⟨_, rfl⟩
    · exact ⟨d.keys, rfl⟩
  · exact ⟨_, rfl⟩

/-- The record of a stored object is wrapped anew; a session key has none. -/
def Dev.rewrapped (d : Dev) (bay h : Nat) : Dev :=
  if bitOf h 31 then d else (d.useNode bay 1).wrapMany bay (kekIndex bay) 1

theorem Dev.Assigns.rewrapped (d : Dev) (bay h : Nat) : d.Assigns (d.rewrapped bay h) :=
  (Dev.Assigns.refl d).ite _ ((Dev.Assigns.useNode _ _ _).trans (.wrapMany _ _ _ _))

/-- The External IV of a key is written, its record wrapped anew (R194). -/
def Dev.externalIvSet (d : Dev) (bay h : Nat) (o : Obj) (on : Bool) : Dev :=
  ((if on then d.authStart else d).rewrapped bay h).setObj bay h
    { o with attrs := { o.attrs with externalIv := on }, format := d.floor }

section
variable {d : Dev} {bay : Nat} {o : Obj} (on : Bool)

theorem Dev.setExternalIv_absent (hroot : d.rootPresent = false) : d.setExternalIv bay on on = d.ktEnd .rootAbsent := by
  simp [Dev.setExternalIv, hroot]

theorem Dev.setExternalIv_unfound (hroot : d.rootPresent = true) (hlook : ∀ o, d.lookup bay (d.get R.KT_CMD_ARG) ≠ .key o) :
    d.setExternalIv bay on on = d.ktEnd .keyHandle := by
  unfold Dev.setExternalIv
  rw [hroot]
  cases hfound : d.lookup bay (d.get R.KT_CMD_ARG) with
  | key o => exact absurd hfound (hlook o)
  | none => simp [hfound]
  | stale => simp [hfound]

variable (hroot : d.rootPresent = true) (hlook : d.lookup bay (d.get R.KT_CMD_ARG) = .key o)
include hroot hlook

/-- The branches for a key that is found: its attributes, then the value it has already (R194, R224). -/
theorem Dev.setExternalIv_found : d.setExternalIv bay on on =
    if !(o.attrs.type = .symmetric && o.attrs.usage = .d0 && o.attrs.alg = .aes) then d.ktEnd .keyUsage
    else if o.attrs.externalIv = on then d.ktEnd .ok
    else if on then ((d.externalIvSet bay (d.get R.KT_CMD_ARG) o on).ktEnd .ok).authDone
    else (d.externalIvSet bay (d.get R.KT_CMD_ARG) o on).ktEnd .ok := by
  unfold Dev.setExternalIv
  rw [hroot]
  dsimp only
  rw [hlook]
  rfl

end

/-- The written key is found under its handle, with the new flag and in the floor's format. -/
theorem Dev.externalIvSet_lookup {d : Dev} {bay h : Nat} {o : Obj} (on : Bool)
    (hlook : d.lookup bay h = .key o) : (d.externalIvSet bay h o on).lookup bay h =
      .key { o with format := d.floor, attrs := { o.attrs with externalIv := on } } := by
  have hstart : (if on then d.authStart else d).lookup bay h = .key o := by
    split
    · exact (Dev.lookup_congr (d := d) (e := d.authStart) h rfl (Dev.get_set_parted _ _ _ _ (by decide)) rfl rfl).trans hlook
    · exact hlook
  have hwrap := Dev.Assigns.rewrapped (if on then d.authStart else d) bay h
  exact Dev.lookup_setObj ((hwrap.lookup bay h).trans hstart) rfl rfl

theorem Dev.externalIvSet_state (d : Dev) (bay h : Nat) (o : Obj) :
    (d.externalIvSet bay h o true).get R.CD_CER_STATUS_STATE = 3 := by
  have hwrap := (Dev.Assigns.rewrapped d.authStart bay h).get (f := R.CD_CER_STATUS_STATE) (i := 0)
    (Blk.apart_zero (by decide)) (by decide)
  obtain ⟨k, hobj⟩ := (d.authStart.rewrapped bay h).setObj_shape bay h
    { o with attrs := { o.attrs with externalIv := true }, format := d.floor }
  exact (congrArg (fun e : Dev => e.get R.CD_CER_STATUS_STATE) hobj).trans (hwrap.trans (Dev.get_set_self _ _ _ _ _))

/-- The two commands that write External IV differ in the value and in the authorization (R224). -/
theorem completes_externalIv {i : Instr} {s : State} {req : Requester} {bay : Fin 256} {on : Bool} {P : Perm → Dev → Prop}
    (hi : i = .ktSetExternalIv req bay ∧ on = true ∧ s.dev.authStands 5 bay = true ∨ i = .ktClearExternalIv bay ∧ on = false)
    (h : P s.perm (s.dev.setExternalIv bay on on)) : Completes i s P := by
  obtain ⟨rfl, rfl, hauth⟩ | ⟨rfl, rfl⟩ := hi
  · refine completes_after (f := ktSetExternalIv req bay) rfl ?_
    rwa [ktSetExternalIv, if_pos hauth]
  · exact completes_after (f := ktClearExternalIv bay) rfl h

/-- Settles O39: each command's end is a write of KT_CMD_STATUS and a report, and its one change stands before it. -/
theorem keyTreeCommandsUnderAuthorization : Obligations.KeyTreeCommandsUnderAuthorization := by
  refine ⟨?floor, ?denied, ?external, ?unfit, ?certificate⟩
  case floor =>
    intro s req hauth f present
    refine completes_after (f := ktRaiseFloor req) rfl ⟨rfl, ?_⟩
    by_cases h : present < f ∧ s.dev.formatReached f = true
    · obtain ⟨hstatus, hbusy, hbit, hstate, hkeys⟩ := Dev.ktEnd_spent (d := s.dev.floorRaised f) (Dev.get_set_self _ _ _ _ _) .ok
      obtain ⟨c, hwork⟩ := ((s.dev.floorRaised f).ktEnd .ok).authDone_work
      rw [ktRaiseFloor_raises req hauth h, if_pos h]
      refine ⟨by rw [Dev.on, hbusy]; rfl, hbit, ?_, by rw [hkeys]; rfl, by rw [hkeys]; rfl, ?_, hstatus, hstate⟩
      · rw [Dev.authDone_get_kt _ (by decide), Dev.ktEnd_get _ _ Blk.apart_kt (by decide)]
        exact Dev.get_set_parted _ _ _ _ (by decide)
      · exact congrArg Power.floorCopy (hwork.power.trans ((s.dev.floorRaised f).ktEnd_work .ok).power)
    · have hwork := s.dev.ktEnd_work .floorUnsupported
      rw [ktRaiseFloor_unsupported req hauth h, if_neg h]
      exact ⟨by rw [Dev.on, Dev.ktEnd_busy]; rfl, Dev.ktEnd_bit _ _, Dev.ktEnd_get _ _ Blk.apart_kt (by decide),
        Dev.ktEnd_status _ _, hwork.keys, hwork.power, (Dev.ktEnd_authStands _ _ _ _).symm⟩
  case denied =>
    intro s req bay i hi
    obtain ⟨hcode, hbit⟩ := s.dev.policyRefused_shown req Blk.apart_kt
    have hrefused := And.intro hcode (And.intro hbit (s.dev.policyRefused_reported .kt req))
    obtain ⟨rfl, hauth⟩ | ⟨rfl, hauth⟩ := hi
    · refine completes_after (f := ktRaiseFloor req) rfl ⟨rfl, ?_⟩
      rw [ktRaiseFloor_denied req hauth]
      exact hrefused
    · refine completes_after (f := ktSetExternalIv req bay) rfl ⟨rfl, ?_⟩
      rw [ktSetExternalIv, if_neg (by simp [hauth])]
      exact hrefused
  case external =>
    intro s req bay i on o hi hroot hlook htype husage halg
    refine completes_externalIv hi ⟨rfl, ?_⟩
    rw [Dev.setExternalIv_found on hroot hlook, if_neg (by simp [htype, husage, halg])]
    have hset := s.dev.externalIvSet_lookup on hlook
    by_cases hsame : o.attrs.externalIv = on
    · rw [if_pos hsame, if_pos hsame]
      exact ⟨Dev.ktEnd_status _ _, by rw [Dev.on, Dev.ktEnd_busy]; rfl, Dev.ktEnd_bit _ _, (Dev.ktEnd_work _ _).keys⟩
    rw [if_neg hsame, if_neg hsame]
    cases on with
    | true =>
      obtain ⟨hstatus, hbusy, hbit, hstate, -⟩ :=
        Dev.ktEnd_spent (s.dev.externalIvSet_state bay (s.dev.get R.KT_CMD_ARG) o) .ok
      rw [if_pos rfl]
      exact ⟨hstatus, by rw [Dev.on, hbusy]; rfl, hbit,
        (Dev.authDone_lookup _ _ bay.isLt).trans ((Dev.ktEnd_lookup _ _ _ _).trans hset), fun _ => hstate⟩
    | false =>
      rw [if_neg (by decide)]
      refine ⟨Dev.ktEnd_status _ _, by rw [Dev.on, Dev.ktEnd_busy]; rfl, Dev.ktEnd_bit _ _,
        (Dev.ktEnd_lookup _ _ _ _).trans hset, fun hclear => ?_⟩
      obtain ⟨-, h, -⟩ | ⟨h, -⟩ := hi
      · cases h
      · rw [h] at hclear; cases hclear
  case unfit =>
    intro s req bay i st hi hfault
    have hends (on : Bool) : s.dev.setExternalIv bay on on = s.dev.ktEnd st := by
      obtain ⟨hroot, rfl⟩ | ⟨hroot, hlook, rfl⟩ | ⟨hroot, rfl, o, hlook, hfit⟩ := hfault
      · exact Dev.setExternalIv_absent on hroot
      · exact Dev.setExternalIv_unfound on hroot hlook
      · rw [Dev.setExternalIv_found on hroot hlook, if_pos]
        simpa only [Bool.not_eq_true', Bool.and_eq_false_iff, decide_eq_false_iff_not, or_assoc] using hfit
    have hi' : ∃ on, i = .ktSetExternalIv req bay ∧ on = true ∧ s.dev.authStands 5 bay = true ∨
        i = .ktClearExternalIv bay ∧ on = false := by
      obtain ⟨h, hauth⟩ | h := hi
      · exact ⟨true, .inl ⟨h, rfl, hauth⟩⟩
      · exact ⟨false, .inr ⟨h, rfl⟩⟩
    obtain ⟨on, hon⟩ := hi'
    refine completes_externalIv hon ⟨rfl, ?_⟩
    rw [hends]
    exact ⟨Dev.ktEnd_status _ _, by rw [Dev.on, Dev.ktEnd_busy]; rfl, (Dev.ktEnd_work _ _).keys, Dev.ktEnd_work _ _⟩
  case certificate =>
    intro s req key signed n
    refine completes_afterWith (f := ktInstallCertificate req key signed) rfl ⟨rfl, ?_⟩
    have hended (d : Dev) (st : Status) : (d.ktEnd st).on R.KT_CMD_STATUS_BUSY = false ∧ (d.ktEnd st).keys = d.keys ∧
        (d.ktEnd st).get R.KT_CMD_STATUS_STATUS = st.code :=
      ⟨by rw [Dev.on, Dev.ktEnd_busy]; rfl, (Dev.ktEnd_work _ _).keys, Dev.ktEnd_status _ _⟩
    unfold ktInstallCertificate
    dsimp only
    by_cases hrange : n = 0 ∨ 2048 < n
    · rw [if_pos hrange, if_pos hrange]
      obtain ⟨hbusy, hkeys, hstatus⟩ := hended (Dev.err { s.dev with keys := { s.dev.keys with certWait := false } } .kt 0 req
        .inputRange) .inputRange
      have herr := (Dev.err_reported { s.dev with keys := { s.dev.keys with certWait := false } } .kt 0 req .inputRange).work.keys
      refine ⟨hbusy, by rw [hkeys, herr], hstatus, ?_, by rw [hkeys, herr]⟩
      rw [Dev.ktEnd_get _ _ Blk.apart_kt (by decide)]
      exact Dev.err_code _ _ _ Blk.apart_kt
    rw [if_neg hrange, if_neg hrange]
    by_cases hstate : s.perm.lcState ≠ 2
    · rw [if_pos hstate, if_pos hstate]
      obtain ⟨hbusy, hkeys, hstatus⟩ := hended { s.dev with keys := { s.dev.keys with certWait := false } } .lcState
      exact ⟨hbusy, by rw [hkeys], hstatus, by rw [hkeys]⟩
    rw [if_neg hstate, if_neg hstate]
    by_cases hrefused : s.dev.keys.certificate.isSome ∨ key.isNone ∨ key ≠ s.dev.keys.identity ∨ signed = false
    · rw [if_pos (by simpa using hrefused), if_pos hrefused]
      obtain ⟨hbusy, hkeys, hstatus⟩ := hended { s.dev with keys := { s.dev.keys with certWait := false } } .certRefused
      exact ⟨hbusy, by rw [hkeys], hstatus, by rw [hkeys]⟩
    · rw [if_neg (by simpa using hrefused), if_neg hrefused]
      obtain ⟨hbusy, hkeys, hstatus⟩ := hended (Dev.mark { s.dev with keys := { s.dev.keys with
        certWait := false
        certificate := some (s.dev.hbmBytes (s.dev.get R.KT_CERT_ADDR_LO + 2 ^ 32 * s.dev.get R.KT_CERT_ADDR_HI) n,
          key.getD []) } } .certInstalled .key 0 n) .ok
      rw [(Dev.mark_reported (fun _ => False) _ _ _ _ _ _ _ _).work.keys] at hkeys
      exact ⟨hbusy, by rw [hkeys], hstatus, by rw [hkeys]; rfl⟩

end Sys2Proof.Machine

namespace Sys2Proof.Machine

/-! # O40: backup keys and bundles

A bundle operation starts under its class and the shares read, and its end is one write of the key island and of the VT
page; between them records are sent, or written while they are hidden. -/

theorem Blk.apart_vt : Blk.vt.apart 0 := Blk.apart_zero (by decide)

/-! ## The backup key (R213) -/

/-- A backup key drawn, with its identifier and the coefficients of its sharing. -/
def BackupKey.drawn (m n : Nat) (b : Bytes) : BackupKey :=
  { id := b.take 8, m := m, n := n, key := (b.drop 8).take 32, coeffs := b.drop 40, written := [] }

theorem backupKeyCreation_denied {d : Dev} (req : Requester) (m n : Nat) (h : d.authStands 2 = false) :
    backupKeyCreation req m n d = d.policyRefused .vt req := if_pos (by rw [h]; rfl)

theorem backupKeyCreation_drawn {d : Dev} {m n : Nat} (req : Requester) (hauth : d.authStands 2 = true) (hm : 2 ≤ m)
    (hmn : m ≤ n) (hn : n ≤ 16) (hfail : d.on R.RN_STATUS_FAIL = false) : ∃ (t : Tab Nat) (g : Tab Drbg),
      (∀ key, key ≠ R.RN_RESEEDS.key 0 0 → Tab.look t key = Tab.look d.authStart.regs.vals key) ∧
      backupKeyCreation req m n d = { d.authStart with
        regs := { d.authStart.regs with vals := t }
        keys := { d.keys with drbgs := g }
        free := d.free + (8 + 32 * m)
        cards := { d.cards with backup := some (BackupKey.drawn m n (d.freeBytes (8 + 32 * m))) } } := by
  have hstart : d.authStart.on R.RN_STATUS_FAIL = false := by
    rw [Dev.on, Dev.authStart, Dev.get_set_parted _ _ _ _ (by decide)]; exact hfail
  obtain ⟨e, hdraw, ⟨t, g, rfl⟩, hvals⟩ := Dev.drbgDraw_draws internalDrbg (8 + 32 * m) hstart
  refine ⟨t, g, hvals, ?_⟩
  unfold backupKeyCreation
  rw [if_neg (by simp [hauth]), if_neg (by omega)]
  dsimp only
  rw [hdraw]
  rfl

/-- The key of a draw is its 32 bytes after the identifier. -/
theorem BackupKey.drawn_key (d : Dev) {m n : Nat} (hm : 2 ≤ m) : (BackupKey.drawn m n (d.freeBytes (8 + 32 * m))).key =
    (List.range 32).map (fun i => Config.freeByte (d.free + 8 + i)) := by
  refine List.ext_getElem ?_ fun k h1 h2 => ?_
  · simp only [BackupKey.drawn, List.length_take, List.length_drop, Dev.freeBytes_length, List.length_map, List.length_range]
    omega
  · simp [BackupKey.drawn, Dev.freeBytes, Nat.add_assoc]

theorem BackupKey.drawn_coeffs (d : Dev) {m n : Nat} (hm : 2 ≤ m) :
    (BackupKey.drawn m n (d.freeBytes (8 + 32 * m))).coeffs.length = 32 * (m - 1) := by
  simp only [BackupKey.drawn, List.length_drop, Dev.freeBytes_length]
  omega

/-! ## The start of a bundle operation (R215, R224, R441) -/

/-- A bundle operation under way, its authorization EXECUTING. -/
def Dev.bundleStarted (d : Dev) (op cls src dst : Nat) : Dev :=
  (((({ d.authStart with keys := { d.keys with bundle := some ⟨op, src, dst, cls, false, d.cards.shareId⟩ } } : Dev).set
    R.VT_BUNDLE_CTL_OP op).set R.VT_BUNDLE_CTL_SRC_BAY src).set R.VT_BUNDLE_CTL_DST_BAY dst).set R.VT_BUNDLE_STATUS_STATE 1

section
variable {p : Perm} {req : Requester} {op cls src dst : Nat} {states : List Nat} {d : Dev} (hnone : d.keys.bundle = none)
include hnone

theorem Dev.bundleStart_denied (h : d.authStands cls = false ∨ d.sharesRead = false) :
    d.bundleStart p req op cls src dst states = (d.policyRefused .vt req).set R.VT_BUNDLE_CTL_OP 0 := by
  unfold Dev.bundleStart
  rw [hnone, if_neg (by decide), if_pos (by simpa using h)]

variable (hauth : d.authStands cls = true) (hshares : d.sharesRead = true)
include hauth hshares

theorem Dev.bundleStart_wrongState (h : p.lcState ∉ states) :
    d.bundleStart p req op cls src dst states = (d.err .vt 0 req .lcState).set R.VT_BUNDLE_CTL_OP 0 := by
  unfold Dev.bundleStart
  rw [hnone, if_neg (by decide), if_neg (by simp [hauth, hshares]), if_pos (by simpa using h)]

theorem Dev.bundleStart_starts (h : p.lcState ∈ states) :
    d.bundleStart p req op cls src dst states = d.bundleStarted op cls src dst := by
  unfold Dev.bundleStart
  rw [hnone, if_neg (by decide), if_neg (by simp [hauth, hshares]), if_neg (by simpa using h)]
  rfl

end

/-- A restore that has not started goes no further. -/
theorem bundleRestore_stopped {p : Perm} {req : Requester} {src dst : Nat} {b : Bundle} {mf ch : Bool} {d : Dev}
    (h : (d.bundleStart p req 2 3 src dst [3, 4]).keys.bundle = none) :
    bundleRestore req src dst b mf ch p d = d.bundleStart p req 2 3 src dst [3, 4] := by
  unfold bundleRestore
  dsimp only
  rw [h]

/-- OP reads 0 after a refusal, which has done no more than report. -/
theorem Dev.Reported.opCleared {d e : Dev} (h : Dev.Reported reportKey d e) :
    Dev.Reported (fun key => key = R.VT_BUNDLE_CTL_OP.key 0 0 ∨ reportKey key) d (e.set R.VT_BUNDLE_CTL_OP 0) :=
  (h.mono fun _ hk => .inr hk).set _ _ _ _ (.inr (.inl rfl))

/-! ## The end of a bundle operation (R223) -/

/-- What the end of a bundle operation leaves: the operation is gone, the VT page shows its end, and its authorization is
spent. -/
structure Dev.BundleEnds (d e : Dev) (st : Status) : Prop where
  keys : e.keys = { d.keys with bundle := none }
  status : e.get R.VT_BUNDLE_STATUS_STATUS = st.code
  state : e.get R.VT_BUNDLE_STATUS_STATE = 3
  op : e.get R.VT_BUNDLE_CTL_OP = 0
  bit : (e.get (R.INT_RAW .vt)).testBit 2 = true
  spent : d.get R.CD_CER_STATUS_STATE = 3 → e.get R.CD_CER_STATUS_STATE = 0
  sends : d.Sends e

/-- The end of a bundle operation as the VT page shows it, before the report. -/
def Dev.bundleShown (d : Dev) (st : Status) : Dev :=
  ((({ d with keys := { d.keys with bundle := none } } : Dev).set R.VT_BUNDLE_STATUS_STATUS st.code).set
    R.VT_BUNDLE_STATUS_STATE 3).set R.VT_BUNDLE_CTL_OP 0

theorem Dev.authDone_get_vt (d : Dev) {f : Fld} (hf : f.blk = .vt ∧ f.off < 0x1000 ∧ f.lo < 32) :
    d.authDone.get f = d.get f := by
  obtain ⟨hblk, hplace⟩ := hf
  exact d.authDone_get (by rw [hblk]; exact Blk.apart_zero (by decide)) (by rw [hblk]; decide) hplace

theorem Dev.Sends.authDone {a b : Dev} (h : a.Sends b) : a.Sends b.authDone := by
  unfold Dev.authDone
  split
  · obtain ⟨s, p0, p1, p2, he⟩ := b.cerEnd_eq 0
    rw [he]
    exact Dev.Sends.raiseInt (Dev.Sends.mark (b := { b.cerCleared with cards := s }) h _ _ _ _ _ _ _) _ _ _
  · exact h

theorem Dev.bundleEnd_ends (d : Dev) (st : Status) : d.BundleEnds (d.bundleEnd st) st := by
  have hreport : Dev.Reported reportKey (d.bundleShown st) ((d.bundleShown st).blockEvent .vt 0 2) :=
    (Dev.Reported.refl _).blockEvent _ _ _ (.inr (reportKey_raw _ _))
  have hend : d.bundleEnd st = ((d.bundleShown st).blockEvent .vt 0 2).authDone := rfl
  obtain ⟨s, hwork⟩ := ((d.bundleShown st).blockEvent .vt 0 2).authDone_work
  have hget (f : Fld) (hf : f.blk = .vt ∧ f.Plain) : (d.bundleEnd st).get f = (d.bundleShown st).get f := by
    rw [hend, Dev.authDone_get_vt _ ⟨hf.1, hf.2.2.2⟩, hreport.get_plain hf.2 (by rw [hf.1]; exact Blk.apart_vt)]
  refine ⟨hwork.keys.trans hreport.work.keys, ?_, ?_, ?_, ?_, fun hstate => ?_, ?_⟩
  · rw [hget _ (by decide), Dev.bundleShown, Dev.get_set_parted _ _ _ _ (by decide), Dev.get_set_parted _ _ _ _ (by decide),
      Dev.get_set_self]
    exact st.code_mod
  · rw [hget _ (by decide), Dev.bundleShown, Dev.get_set_parted _ _ _ _ (by decide), Dev.get_set_self]
    rfl
  · rw [hget _ (by decide), Dev.bundleShown, Dev.get_set_self]
    rfl
  · rw [hend, Dev.authDone_get_vt _ (by decide)]
    exact Dev.blockEvent_bit _ Blk.apart_vt (by decide)
  · have hkept : ((d.bundleShown st).blockEvent .vt 0 2).get R.CD_CER_STATUS_STATE = 3 := by
      rw [hreport.get_plain (by decide) (Blk.apart_zero (by decide)), Dev.bundleShown, Dev.get_set_parted _ _ _ _ (by decide),
        Dev.get_set_parted _ _ _ _ (by decide), Dev.get_set_parted _ _ _ _ (by decide)]
      exact hstate
    rw [hend]
    exact (Dev.authDone_executing hkept).1
  · exact Dev.Sends.authDone (Dev.Sends.blockEvent (b := d.bundleShown st) (.refl d) _ _ _)

/-! ## The records of a restore (R214, R216) -/

/-- Entries put one after another: a place holds one of those put there, or what it held where none was. -/
theorem Tab.look_foldl_put {α β : Type} (f : β → Nat) (g : β → α) (l : List β) (t : Tab α) (k : Nat) :
    (∃ x ∈ l, f x = k ∧ Tab.look (l.foldl (fun t x => Tab.put t (f x) (g x)) t) k = some (g x)) ∨
      (∀ x ∈ l, f x ≠ k) ∧ Tab.look (l.foldl (fun t x => Tab.put t (f x) (g x)) t) k = Tab.look t k := by
  induction l generalizing t with
  | nil => exact .inr ⟨fun x hx => absurd hx List.not_mem_nil, rfl⟩
  | cons x l ih =>
    rw [List.foldl_cons]
    rcases ih (Tab.put t (f x) (g x)) with ⟨y, hy, hplace, hlook⟩ | ⟨hnone, hlook⟩
    · exact .inl ⟨y, List.mem_cons_of_mem _ hy, hplace, hlook⟩
    · rw [Tab.look_put] at hlook
      by_cases hx : f x = k
      · exact .inl ⟨x, List.mem_cons_self, hx, hlook.trans (if_pos hx)⟩
      · refine .inr ⟨fun y hy => ?_, hlook.trans (if_neg hx)⟩
        rcases List.mem_cons.mp hy with rfl | hmem
        · exact hx
        · exact hnone y hmem

/-- A record as a restore writes it, hidden until all appear (R216). -/
def Dev.restored (d : Dev) (i : BundleItem) : Obj :=
  { i.obj with format := d.floor, restorePending := true, usesReserved := 0, deletedAt := none }

/-- The records of a bundle stand hidden at their places, and no other record has changed. -/
theorem Dev.restoreWrite_spec (d : Dev) (dst : Nat) (b : Bundle) :
    (d.restoreWrite dst b).keys.objs =
        b.objects.foldl (fun t i => Tab.put t (objIndex dst i.handle) (d.restored i)) d.keys.objs ∧
      (d.restoreWrite dst b).keys.lastEntry = d.keys.lastEntry + b.entries.length := by
  have hwrap : d.Assigns (((((d.useNode dst 1).wrapMany dst (kekIndex dst) b.objects.length).useNode dst 2)).wrapMany dst
      (vaultKeyIndex dst) b.entries.length) :=
    ((((Dev.Assigns.useNode _ _ _).trans (.wrapMany _ _ _ _)).trans (.useNode _ _ _)).trans (.wrapMany _ _ _ _))
  have hobjs := congrArg Keys.objs hwrap.keys
  have hlast := congrArg Keys.lastEntry hwrap.keys
  exact ⟨congrArg (fun t => b.objects.foldl (fun t (i : BundleItem) =>
    Tab.put t (objIndex dst i.handle) (d.restored i)) t) hobjs,
    congrArg (· + b.entries.length) hlast⟩

/-- The checks of a restore read the key island, the quota in effect and KT_FLEET_FLOOR. -/
theorem Dev.restoreFault_started (d : Dev) (op cls src dst to_ : Nat) (b : Bundle) (mf ch : Bool) (id : Bytes) :
    (d.bundleStarted op cls src dst).restoreFault to_ b mf ch id = d.restoreFault to_ b mf ch id := by
  have hformat : (d.bundleStarted op cls src dst).get R.KT_FLEET_FLOOR_FORMAT_MAX = d.get R.KT_FLEET_FLOOR_FORMAT_MAX := by
    unfold Dev.bundleStarted
    simp (disch := decide) only [Dev.get_set_parted]
    exact Dev.get_set_parted _ _ _ _ (by decide)
  unfold Dev.restoreFault
  rw [hformat]
  rfl

theorem Dev.bundleStarted_bundle (d : Dev) (op cls src dst : Nat) : (d.bundleStarted op cls src dst).keys.bundle =
    some ⟨op, src, dst, cls, false, d.cards.shareId⟩ := rfl

theorem Dev.bundleStarted_state (d : Dev) (op cls src dst : Nat) :
    (d.bundleStarted op cls src dst).get R.CD_CER_STATUS_STATE = 3 := by
  unfold Dev.bundleStarted
  simp (disch := decide) only [Dev.get_set_parted]
  exact Dev.get_set_self _ _ _ _ _

section
variable {p : Perm} {req : Requester} {src dst : Nat} {b : Bundle} {mf ch : Bool} {d : Dev}
  (hstart : d.bundleStart p req 2 3 src dst [3, 4] = d.bundleStarted 2 3 src dst)
include hstart

theorem bundleRestore_fails {st : Status} (hfault : d.restoreFault dst b mf ch d.cards.shareId = some st) :
    bundleRestore req src dst b mf ch p d = (d.bundleStarted 2 3 src dst).bundleEnd st := by
  unfold bundleRestore
  dsimp only
  rw [hstart, Dev.bundleStarted_bundle]
  dsimp only
  rw [if_pos ⟨rfl, rfl⟩, Dev.restoreFault_started, hfault]

theorem bundleRestore_commits (hfault : d.restoreFault dst b mf ch d.cards.shareId = none) :
    bundleRestore req src dst b mf ch p d =
      ({ (d.bundleStarted 2 3 src dst).restoreWrite dst b with
        keys := { ((d.bundleStarted 2 3 src dst).restoreWrite dst b).keys with
          bundle := some ⟨2, src, dst, 3, true, d.cards.shareId⟩ } } : Dev).set R.VT_BUNDLE_STATUS_STATE 2 := by
  unfold bundleRestore
  dsimp only
  rw [hstart, Dev.bundleStarted_bundle]
  dsimp only
  rw [if_pos ⟨rfl, rfl⟩, Dev.restoreFault_started, hfault]

end

/-! ## The bundle that is sent (R214) -/

/-- A bundle that ends draws its identifier and is sent. -/
theorem bundleDone_sends {d : Dev} {b : BundleOp} (hbundle : d.keys.bundle = some b) (hop : b.op = 1)
    (hfail : d.on R.RN_STATUS_FAIL = false) : ∃ (e : Dev) (id cert : Bytes), d.Draws e 8 ∧
      bundleDone d = (e.send (.bundle (e.bundleOf b.src id b.backupId) cert)).bundleEnd .ok := by
  obtain ⟨e, hdraw, hdrawn⟩ := Dev.drbgDraw_draws internalDrbg 8 hfail
  refine ⟨e, d.freeBytes 8, (e.keys.certificate.map (·.1)).getD [], hdrawn, ?_⟩
  unfold bundleDone
  rw [hbundle]
  dsimp only
  rw [if_pos hop, hdraw]
  cases hcert : e.keys.certificate <;> simp only [hcert] <;> rfl

/-- The records of a bundle are those of the bay that are neither deleted nor hidden. -/
theorem Dev.mem_bundleOf {d : Dev} {bay n : Nat} {id backup : Bytes} {o : Obj}
    (h : (⟨n, o⟩ : BundleItem) ∈ (d.bundleOf bay id backup).objects) :
    ∃ k, (k, o) ∈ d.keys.objs ∧ k / 2 ^ 24 = bay ∧ o.deletedAt = none ∧ o.restorePending = false := by
  obtain ⟨⟨k, x⟩, hmem, hitem⟩ := List.mem_filterMap.mp h
  split at hitem
  next hlive =>
    obtain ⟨hbay, hdeleted, hpending⟩ := hlive
    cases hitem
    exact ⟨k, hmem, hbay, Option.isNone_iff_eq_none.mp hdeleted, by simpa using hpending⟩
  next => cases hitem

theorem Dev.mem_bundleOf_entries {d : Dev} {bay : Nat} {id backup : Bytes} {e : TokenEntry}
    (h : e ∈ (d.bundleOf bay id backup).entries) : e.bay = bay ∧ e.state = .live := by
  obtain ⟨x, hx, rfl⟩ := List.mem_map.mp h
  simpa using (List.mem_filter.mp hx).2

/-- Settles O40: a backup key is one draw, a refusal a report, and a bundle's end one write of the key island and of the VT
page. -/
theorem bundlesExportAndRestore : Obligations.BundlesExportAndRestore := by
  refine ⟨?backup, ?denied, ?state, ?starts, ?sent, ?restored, ?failed, ?commits, ?aborts, ?idle⟩
  case backup =>
    intro s req m n hauth hm hmn hn hfail
    obtain ⟨t, g, hvals, hdrawn⟩ := backupKeyCreation_drawn req hauth hm hmn hn hfail
    refine completes_after (f := backupKeyCreation req m n) rfl ⟨rfl, ?_⟩
    rw [hdrawn]
    refine ⟨⟨_, rfl, rfl, rfl, rfl, BackupKey.drawn_key _ hm, BackupKey.drawn_coeffs _ hm⟩, ?_,
      rfl, rfl, rfl, rfl, rfl, rfl, rfl, rfl, rfl, rfl, rfl, rfl, rfl⟩
    exact (Dev.get_congr (d := s.dev.authStart) (hvals _ (by decide))).trans (Dev.get_set_self _ _ _ _ _)
  case denied =>
    intro s req i b x y mf ch m n hnone hi
    have hrefused := s.dev.policyRefused_reported .vt req
    obtain ⟨hcode, hbit⟩ := s.dev.policyRefused_shown req Blk.apart_vt
    have hcleared : ((s.dev.policyRefused .vt req).set R.VT_BUNDLE_CTL_OP 0).get (R.ERR_CODE .vt) = Status.policyDenied.code ∧
        (((s.dev.policyRefused .vt req).set R.VT_BUNDLE_CTL_OP 0).get (R.INT_RAW .kt)).testBit 4 = true := by
      rw [Dev.get_set_parted _ _ _ _ (by decide), Dev.get_set_parted _ _ _ _ (by decide)]
      exact ⟨hcode, hbit⟩
    obtain ⟨rfl, hauth⟩ | ⟨rfl, hwhy⟩ | ⟨rfl, hwhy⟩ := hi
    · refine completes_after (f := backupKeyCreation req m n) rfl ⟨rfl, ?_⟩
      rw [backupKeyCreation_denied req m n hauth]
      exact ⟨hcode, hbit, hrefused.mono fun _ h => .inr h⟩
    · refine completes_afterWith (f := bundleExport req x) rfl ⟨rfl, ?_⟩
      rw [bundleExport, Dev.bundleStart_denied hnone hwhy]
      exact ⟨hcleared.1, hcleared.2, hrefused.opCleared⟩
    · refine completes_afterWith (f := bundleRestore req x y b mf ch) rfl ⟨rfl, ?_⟩
      have hstart := Dev.bundleStart_denied (p := s.perm) (req := req) (op := 2) (src := x) (dst := y) (states := [3, 4])
        hnone hwhy
      rw [bundleRestore_stopped, hstart]
      · exact ⟨hcleared.1, hcleared.2, hrefused.opCleared⟩
      · rw [hstart]
        exact (congrArg Keys.bundle hrefused.work.keys).trans hnone
  case state =>
    intro s req i b x y mf ch hnone hshares hi
    have hrefused := s.dev.err_reported .vt 0 req .lcState
    have hcode : ((s.dev.err .vt 0 req .lcState).set R.VT_BUNDLE_CTL_OP 0).get (R.ERR_CODE .vt) = Status.lcState.code := by
      rw [Dev.get_set_parted _ _ _ _ (by decide)]
      exact Dev.err_code _ _ _ Blk.apart_vt
    obtain ⟨rfl, hauth, h4, h5⟩ | ⟨rfl, hauth, h3, h4⟩ := hi
    · refine completes_afterWith (f := bundleExport req x) rfl ⟨rfl, ?_⟩
      rw [bundleExport, Dev.bundleStart_wrongState hnone hauth hshares (by simp [h4, h5])]
      exact ⟨hcode, hrefused.opCleared⟩
    · refine completes_afterWith (f := bundleRestore req x y b mf ch) rfl ⟨rfl, ?_⟩
      have hstart := Dev.bundleStart_wrongState (p := s.perm) (req := req) (op := 2) (src := x) (dst := y) (states := [3, 4])
        hnone hauth hshares (by simp [h3, h4])
      rw [bundleRestore_stopped, hstart]
      · exact ⟨hcode, hrefused.opCleared⟩
      · rw [hstart]
        exact (congrArg Keys.bundle hrefused.work.keys).trans hnone
  case starts =>
    intro s req src hnone hauth hshares hstate
    refine completes_afterWith (f := bundleExport req src) rfl ⟨rfl, ?_⟩
    rw [bundleExport, Dev.bundleStart_starts hnone hauth hshares (by simpa using hstate)]
    refine ⟨⟨_, rfl, rfl, rfl, rfl⟩, ?_, ?_, Dev.get_set_self _ _ _ _ _, Dev.bundleStarted_state _ _ _ _ _,
      rfl, rfl, rfl, rfl, rfl, rfl, rfl, rfl, rfl, rfl, rfl, rfl, rfl⟩
    · unfold Dev.bundleStarted
      simp (disch := decide) only [Dev.get_set_parted, Dev.get_set_self]
      rfl
    · unfold Dev.bundleStarted
      simp (disch := decide) only [Dev.get_set_parted, Dev.get_set_self]
      exact Nat.mod_eq_of_lt src.isLt
  case sent =>
    intro s b hbundle hop hfail
    obtain ⟨e, id, cert, hdrawn, hdone⟩ := bundleDone_sends hbundle hop hfail
    have hfloor : e.floor = s.dev.floor := hdrawn.get (by decide)
    have hends := (e.send (.bundle (e.bundleOf b.src id b.backupId) cert)).bundleEnd_ends .ok
    have hobjs : e.keys.objs = s.dev.keys.objs ∧ e.keys.entries = s.dev.keys.entries := by
      obtain ⟨t, g, rfl⟩ := hdrawn.shape
      exact ⟨rfl, rfl⟩
    refine completes_after (f := bundleDone) rfl ⟨rfl, ?_⟩
    rw [hdone]
    refine ⟨congrArg Keys.bundle hends.keys, (congrArg Keys.objs hends.keys).trans hobjs.1,
      (congrArg Keys.entries hends.keys).trans hobjs.2, hends.state, hends.op, hends.status, hends.bit,
      e.bundleOf b.src id b.backupId, cert, hends.sends.mem (by simp), rfl, hfloor, fun n o h => ?_,
      fun _ h => Dev.mem_bundleOf_entries h⟩
    rw [← hobjs.1]
    exact Dev.mem_bundleOf h
  case restored =>
    intro s req src dst b hnone hauth hshares hstate hfault
    have hstart := Dev.bundleStart_starts (p := s.perm) (req := req) (op := 2) (src := src) (dst := dst) (states := [3, 4])
      hnone hauth hshares (by simpa using hstate)
    obtain ⟨hobjs, hlast⟩ := (s.dev.bundleStarted 2 3 src dst).restoreWrite_spec dst b
    refine completes_afterWith (f := bundleRestore req src dst b true true) rfl ⟨rfl, ?_⟩
    rw [bundleRestore_commits hstart hfault]
    have hwritten := Tab.look_foldl_put (fun i : BundleItem => objIndex dst i.handle)
      (s.dev.bundleStarted 2 3 src dst).restored b.objects s.dev.keys.objs
    refine ⟨⟨_, rfl, rfl, rfl, rfl⟩, Dev.get_set_self _ _ _ _ _, fun i hi => ?_, fun k hk => ?_, hlast⟩
    · rcases hwritten (objIndex dst i.handle) with ⟨x, -, -, hlook⟩ | ⟨hnone, -⟩
      · exact ⟨_, (congrArg (Tab.look · _) hobjs).trans hlook, rfl⟩
      · exact absurd rfl (hnone i hi)
    · rcases hwritten k with ⟨x, hx, hplace, -⟩ | ⟨-, hlook⟩
      · exact absurd hplace.symm (hk x hx)
      · exact (congrArg (Tab.look · _) hobjs).trans hlook
  case failed =>
    intro s req src dst b mf ch st hnone hauth hshares hstate hfault
    have hstart := Dev.bundleStart_starts (p := s.perm) (req := req) (op := 2) (src := src) (dst := dst) (states := [3, 4])
      hnone hauth hshares (by simpa using hstate)
    have hends := (s.dev.bundleStarted 2 3 src dst).bundleEnd_ends st
    refine completes_afterWith (f := bundleRestore req src dst b mf ch) rfl ⟨rfl, ?_⟩
    rw [bundleRestore_fails hstart hfault]
    refine ⟨hends.keys.trans ?_, hends.status, hends.state, hends.op, hends.spent (Dev.bundleStarted_state _ _ _ _ _)⟩
    rw [← hnone]
    rfl
  case commits =>
    intro s b hbundle hop hcommit
    have hdone : bundleDone s.dev = s.dev.commitRestore.bundleEnd .ok := by
      unfold bundleDone
      rw [hbundle]
      exact (if_neg hop).trans (if_pos hcommit)
    have hends := s.dev.commitRestore.bundleEnd_ends .ok
    refine completes_after (f := bundleDone) rfl ⟨rfl, ?_⟩
    rw [hdone, hends.keys]
    exact ⟨rfl, rfl, hends.status, hends.state⟩
  case aborts =>
    intro s b hbundle
    have hdone : bundleAbort s.dev = s.dev.purgeRestore.bundleEnd .aborted := by rw [bundleAbort, hbundle]
    have hends := s.dev.purgeRestore.bundleEnd_ends .aborted
    refine completes_after (f := bundleAbort) rfl ⟨rfl, ?_⟩
    rw [hdone, hends.keys]
    exact ⟨rfl, rfl, rfl, hends.status, hends.op⟩
  case idle =>
    intro s hnone
    have hdone : bundleAbort s.dev = s.dev.set R.VT_BUNDLE_CTL_OP 0 := by rw [bundleAbort, hnone]
    refine completes_after (f := bundleAbort) rfl ⟨rfl, ?_⟩
    rw [hdone]
    exact ⟨rfl, Dev.get_set_self _ _ _ _ _⟩

end Sys2Proof.Machine

namespace Sys2Proof.Machine

/-! # O43: bay resets

A reset that is due is two register writes and a place in the queue; its end is a few register writes of the bay's pages, an
event of its ring and a record. Its action ends the bay's requests, and each end keeps what is stated to stay. -/

/-! ## What an event of a bay's ring can do (R336, R337) -/

/-- A new entry of a bay's ring, its interrupt raised and the entry queued for the events sessions. -/
def Dev.ringEntry (d : Dev) (bay : Nat) (l : Rec) (sel : Session → Bool) (x : EvItem) : Dev :=
  ((({ d with log := l }).bumpWrap R.BW_EV_HEAD bay).raiseInt .bw bay 2).queueItems sel x

/-- An event that a full ring drops. -/
def Dev.ringDropped (d : Dev) (bay : Nat) : Dev := (d.bumpSat R.BW_EV_OVERFLOW bay).raiseInt .by bay 5

/-- What an event of a bay's ring can do: a repeat raises a count, a new entry is written, and a full ring drops the event,
the first drop of an episode being recorded. -/
inductive Dev.RingStep (d : Dev) (bay : Nat) : Dev → Prop where
  | again (l : Rec) : d.RingStep bay (({ d with log := l }).bumpWrap R.BW_EV_REPEAT_GEN bay)
  | entry (l : Rec) (sel : Session → Bool) (x : EvItem) : d.RingStep bay (d.ringEntry bay l sel x)
  | unsent (l : Rec) (sel : Session → Bool) (x : EvItem) : d.RingStep bay ((d.ringEntry bay l sel x).blockEvent .ic 0 2)
  | dropped : d.RingStep bay (d.ringDropped bay)
  | full (l : Rec) (a b : Nat) : d.RingStep bay (({ d.ringDropped bay with log := l }).mark .bayRingFull .management bay a b)

theorem Dev.ringEvent_step (d : Dev) (bay : Nat) (event : Event) (p0 p1 : Nat) :
    d.RingStep bay (d.ringEvent bay event p0 p1) := by
  have hplaced (p q r : Prop) [Decidable p] [Decidable q] [Decidable r] (l m : Rec) (sel : Session → Bool) (x : EvItem)
      (a b : Nat) : d.RingStep bay
        (if p then if q then d.ringEntry bay l sel x else (d.ringEntry bay l sel x).blockEvent .ic 0 2
        else if r then d.ringDropped bay
        else ({ d.ringDropped bay with log := m }).mark .bayRingFull .management bay a b) := by
    split
    · split
      · exact .entry l sel x
      · exact .unsent l sel x
    · split
      · exact .dropped
      · exact .full m a b
  unfold Dev.ringEvent
  dsimp only
  split
  · split
    · exact .again _
    · exact hplaced _ _ _ _ _ _ _ _ _
  · exact hplaced _ _ _ _ _ _ _ _ _

theorem Dev.RingStep.face {d e : Dev} {bay : Nat} (h : d.RingStep bay e) : d.SameFace e := by
  have hlog (e : Dev) (l : Rec) : e.SameFace { e with log := l } := .of_eq rfl
  have hadd (l : Rec) (sel : Session → Bool) (x : EvItem) : d.SameFace (d.ringEntry bay l sel x) :=
    (hlog d l).trans (((Dev.Reported.refl (own := fun _ => True) _).bumpWrap _ _ _ _ (.inr trivial)).raiseInt _ _ _
      (.inr trivial) |>.queueItems sel x).face
  have hdrop : d.SameFace (d.ringDropped bay) :=
    (((Dev.Reported.refl (own := fun _ => True) d).bumpSat _ _ _ _ (.inr trivial)).raiseInt _ _ _ (.inr trivial)).face
  cases h with
  | again l => exact (hlog d l).trans (.of_eq rfl)
  | entry l sel x => exact hadd l sel x
  | unsent l sel x => exact (hadd l sel x).trans (Dev.blockEvent_reported _ _ _ _).face
  | dropped => exact hdrop
  | full l a b => exact (hdrop.trans (hlog _ l)).trans (Dev.mark_reported (fun _ => False) _ _ _ _ _ _ _ _).face

/-! ## Interrupts stay pending -/

/-- Every interrupt bit of a page that was set is set still. -/
def Dev.Latched (b : Blk) (i : Nat) (d e : Dev) : Prop :=
  ∀ n < 32, (d.get (R.INT_RAW b) i).testBit n = true → (e.get (R.INT_RAW b) i).testBit n = true

section
variable {b : Blk} {i : Nat} {d e f : Dev}

theorem Dev.Latched.trans (h : Dev.Latched b i d e) (g : Dev.Latched b i e f) : Dev.Latched b i d f :=
  fun n hn hd => g n hn (h n hn hd)

theorem Dev.Latched.of_get (h : e.get (R.INT_RAW b) i = d.get (R.INT_RAW b) i) : Dev.Latched b i d e :=
  fun n _ hd => by rw [h]; exact hd

theorem Dev.Latched.set (h : Dev.Latched b i d e) (g : Fld) (v j : Nat) (hg : g.off ≠ 0x010 ∧ g.off < 0x1000 ∧ g.lo < 32) :
    Dev.Latched b i d (e.set g v j) :=
  h.trans (.of_get (e.get_set_parted v j i ⟨.inl hg.1, hg.2, show 0x010 < 0x1000 by decide, show 0 < 32 by decide⟩))

theorem Dev.Latched.mark (h : Dev.Latched b i d e) (hi : b.apart i) (ev : Event) (isl : Island) (u p0 p1 p2 p3 : Nat) :
    Dev.Latched b i d (e.mark ev isl u p0 p1 p2 p3) :=
  h.trans (.of_get (e.mark_get ev isl u p0 p1 p2 p3 hi ⟨show 0x010 < 0x1000 by decide, show 0 < 32 by decide⟩))

/-- An interrupt of this page, or of another. -/
theorem Dev.Latched.raiseInt (h : Dev.Latched b i d e) (hi : b.apart i) (c : Blk) (j m : Nat)
    (hc : c = b ∧ j = i ∨ b.page i ≠ c.page j) : Dev.Latched b i d (e.raiseInt c j m) := by
  refine h.trans ?_
  rcases hc with ⟨rfl, rfl⟩ | hpage
  · exact fun n hn hd => Dev.raiseInt_bit_mono m hi hn hd
  · refine .of_get (((Dev.Reported.refl (own := fun key => key = (R.INT_RAW c).key j 0) e).raiseInt c j m (.inr rfl)).get _ _ _
      (Blk.apart_raw hi) fun he => hpage ?_)
    have hplace (b : Blk) (i : Nat) : (R.INT_RAW b).key i 0 / 0x20000000 = b.page i :=
      (R.INT_RAW b).key_page i 0 (show 0x010 < 0x1000 by decide) (show 0 < 32 by decide) (by decide)
    rw [← hplace b i, ← hplace c j, he]

theorem Dev.Latched.reported (hi : b.apart i) (h : Dev.Reported (fun _ => False) d e) : Dev.Latched b i d e :=
  .of_get (h.get _ _ _ (Blk.apart_raw hi) id)

end

/-- An event of a bay's ring raises interrupts of the bay's pages alone, and clears none. -/
theorem Dev.RingStep.latched {b : Blk} {i bay : Nat} {d e : Dev} (h : d.RingStep bay e) (hi : b.apart i)
    (hbw : Blk.bw = b ∧ bay = i ∨ b.page i ≠ Blk.bw.page bay) (hby : Blk.by = b ∧ bay = i ∨ b.page i ≠ Blk.by.page bay) :
    Dev.Latched b i d e := by
  have hlog (e : Dev) (l : Rec) : Dev.Latched b i e { e with log := l } := .of_get rfl
  have hadd (l : Rec) (sel : Session → Bool) (x : EvItem) : Dev.Latched b i d (d.ringEntry bay l sel x) :=
    (((hlog d l).set R.BW_EV_HEAD _ _ (by decide)).raiseInt hi .bw bay 2 hbw).trans
      (.reported hi ((Dev.Reported.refl _).queueItems sel x))
  have hdrop : Dev.Latched b i d (d.ringDropped bay) :=
    (Dev.Latched.set (.of_get rfl) R.BW_EV_OVERFLOW _ _ (by decide)).raiseInt hi .by bay 5 hby
  cases h with
  | again l => exact (hlog d l).set R.BW_EV_REPEAT_GEN _ _ (by decide)
  | entry l sel x => exact hadd l sel x
  | unsent l sel x =>
    refine (hadd l sel x).trans (.of_get ((Dev.blockEvent_reported _ _ _ _).get _ _ _ (Blk.apart_raw hi) fun he => ?_))
    exact Blk.apart_raw hi (by rw [he]; exact (icKey_raw (own := fun _ => False)).resolve_right id)
  | dropped => exact hdrop
  | full l a c => exact (hdrop.trans (hlog _ l)).mark hi _ _ _ _ _ _ _

/-- What an event of a ring and its record leave: the work, the faces, and the fields at other places than a ring's counts. -/
structure Dev.Announces (d e : Dev) : Prop where
  work : d.SameWork e
  regs : d.SameRegs e assignKey
  face : d.SameFace e

/-- An event of a bay's ring, and the record of it. -/
def Dev.announced (d : Dev) (bay : Nat) (event : Event) (p0 p1 : Nat) : Dev :=
  (d.ringEvent bay event p0 p1).mark event .corbel bay p0 p1

theorem Dev.announced_announces (d : Dev) (bay : Nat) (event : Event) (p0 p1 : Nat) :
    d.Announces (d.announced bay event p0 p1) := by
  have hmark := (d.ringEvent bay event p0 p1).mark_reported countKey event .corbel bay p0 p1 0 0
  exact ⟨(d.ringEvent_work _ _ _ _).trans hmark.work, (d.ringEvent_regs _ _ _ _).trans hmark.regs,
    (d.ringEvent_step _ _ _ _).face.trans hmark.face⟩

theorem Dev.announced_latched {b : Blk} {i bay : Nat} (d : Dev) (event : Event) (p0 p1 : Nat) (hi : b.apart i)
    (hbw : Blk.bw = b ∧ bay = i ∨ b.page i ≠ Blk.bw.page bay) (hby : Blk.by = b ∧ bay = i ∨ b.page i ≠ Blk.by.page bay) :
    Dev.Latched b i d (d.announced bay event p0 p1) :=
  ((d.ringEvent_step bay event p0 p1).latched hi hbw hby).mark hi _ _ _ _ _ _ _

/-! ## Quiet (R324, R325) -/

/-- The pages of a bay are not pages of a window. -/
theorem Blk.by_ne_bw {i : Nat} (hi : i < 256) (j : Nat) : Blk.by.page i ≠ Blk.bw.page j := by
  simp only [Blk.page, Blk.basePage, Blk.stride]; omega

/-- A field of a bay's page that is no report is none that a ring's event writes. -/
theorem not_assignKey_by {f : Fld} {i : Nat} (hblk : f.blk = .by) (hf : f.Plain) (hi : i < 256) : ¬ assignKey (f.key i 0) := by
  have hplace := f.key_page i 0 hf.2.2.1 hf.2.2.2 (by decide)
  rw [hblk] at hplace
  have hne (g : Fld) (j : Nat) (hg : g.off < 0x1000 ∧ g.lo < 32) (hpage : Blk.by.page i ≠ g.blk.page j) :
      f.key i 0 ≠ g.key j 0 := fun he => hpage (by rw [← hplace, he, g.key_page j 0 hg.1 hg.2 (by decide)])
  have hquiet := hf.not_reported (i := i) (by rw [hblk]; exact Blk.apart_by i)
  rintro (hmark | hreport | h | ⟨b, h | h | h⟩)
  · exact hquiet.1 hmark
  · exact hquiet.2 hreport
  · refine hne R.RN_RESEEDS 0 (by decide) ?_ h
    simp only [Blk.page, Blk.basePage, Blk.stride, R.RN_RESEEDS]; omega
  · exact hne R.BW_EV_HEAD b (by decide) (Blk.by_ne_bw hi b) h
  · exact hne R.BW_EV_OVERFLOW b (by decide) (Blk.by_ne_bw hi b) h
  · exact hne R.BW_EV_REPEAT_GEN b (by decide) (Blk.by_ne_bw hi b) h

/-- The registers and interrupts that show a bay quiet, before the event and its record. -/
def Dev.shownQuiet (d : Dev) (bay : Nat) (w : ResetWait) (forced : Bool) : Dev :=
  let us := min 255 ((d.sched.time - w.since + 63) / 64)
  let d0 : Dev := { d with sched := { d.sched with resets := Tab.del d.sched.resets bay } }
  let again := b2n (d.sched.resetDue.contains bay)
  let d1 := ((d0.set R.STATUS_RESETTING 0 bay).set (R.CTRL_SOFT_RESET .by) again bay).set R.BW_RESET again bay
  let d2 := (d1.set R.STATUS_QUIET_FORCED (b2n forced) bay).set R.BY_RESET_TIME us bay
  (d2.raiseInt .by bay 2).raiseInt .bw bay 3

theorem Dev.declareQuiet_eq (d : Dev) (bay : Nat) (w : ResetWait) (forced : Bool) : ∃ (event : Event) (p0 p1 : Nat),
    d.declareQuiet bay w forced = (d.shownQuiet bay w forced).announced bay event p0 p1 := by
  cases forced
  · exact ⟨.bayQuiet, _, _, rfl⟩
  · exact ⟨.bayQuietForced, _, _, rfl⟩

section
variable (d : Dev) (bay : Nat) (w : ResetWait) (forced : Bool)

theorem Dev.shownQuiet_work :
    ({ d with sched := { d.sched with resets := Tab.del d.sched.resets bay } }).SameWork (d.shownQuiet bay w forced) :=
  ((((((Dev.SameWork.refl _).set _ _ _ _).set _ _ _ _).set _ _ _ _).set _ _ _ _).set _ _ _ _ |>.raiseInt _ _ _).raiseInt
    _ _ _

theorem Dev.shownQuiet_face : d.SameFace (d.shownQuiet bay w forced) := by
  have hset (e : Dev) (f : Fld) (v i : Nat) : e.SameFace (e.set f v i) := .of_eq rfl
  refine Dev.SameFace.trans (.of_eq (b := _) ?_) ((Dev.raiseInt_reported _ _ _ _).trans (Dev.raiseInt_reported _ _ _ _)).face
  rfl

theorem Dev.shownQuiet_get {f : Fld} (hf : f.Plain) (hb : f.blk.apart bay) : (d.shownQuiet bay w forced).get f bay =
    Dev.get (((((d.set R.STATUS_RESETTING 0 bay).set (R.CTRL_SOFT_RESET .by) (b2n (d.sched.resetDue.contains bay)) bay).set
      R.BW_RESET (b2n (d.sched.resetDue.contains bay)) bay).set R.STATUS_QUIET_FORCED (b2n forced) bay).set R.BY_RESET_TIME
        (min 255 ((d.sched.time - w.since + 63) / 64)) bay) f bay :=
  ((Dev.raiseInt_reported _ _ _ _).trans (Dev.raiseInt_reported _ _ _ _)).get_plain hf hb

theorem Dev.shownQuiet_by (hbay : bay < 256) :
    ((d.shownQuiet bay w forced).get (R.INT_RAW .by) bay).testBit 2 = true :=
  Dev.Latched.raiseInt (.of_get rfl) (Blk.apart_by bay) .bw bay 3 (.inr (Blk.by_ne_bw hbay bay)) 2 (by decide)
    (Dev.raiseInt_bit _ (Blk.apart_by bay) (by decide))

theorem Dev.shownQuiet_bw : ((d.shownQuiet bay w forced).get (R.INT_RAW .bw) bay).testBit 3 = true :=
  Dev.raiseInt_bit _ (Blk.apart_bw bay) (by decide)

end

/-- The outcome of a bay reset that ends. -/
def Dev.Quiet (d : Dev) (bay : Nat) (w : ResetWait) (forced : Bool) (e : Dev) : Prop :=
  e.on R.STATUS_RESETTING bay = false ∧ Tab.look e.sched.resets bay = none ∧ e.on R.STATUS_QUIET_FORCED bay = forced ∧
    e.get R.BY_RESET_TIME bay = min 255 ((d.sched.time - w.since + 63) / 64) ∧
    e.on (R.CTRL_SOFT_RESET .by) bay = d.sched.resetDue.contains bay ∧ e.on R.BW_RESET bay = d.sched.resetDue.contains bay ∧
    (e.get (R.INT_RAW .by) bay).testBit 2 = true ∧ (e.get (R.INT_RAW .bw) bay).testBit 3 = true ∧
    (∀ k, k ≠ bay → Tab.look e.sched.resets k = Tab.look d.sched.resets k) ∧
    ({ d with sched := { d.sched with resets := e.sched.resets } }).SameWork e ∧ d.SameFace e

theorem Dev.declareQuiet_quiet (d : Dev) {bay : Nat} (w : ResetWait) (forced : Bool) (hbay : bay < 256) :
    d.Quiet bay w forced (d.declareQuiet bay w forced) := by
  obtain ⟨event, p0, p1, heq⟩ := d.declareQuiet_eq bay w forced
  have hsays := (d.shownQuiet bay w forced).announced_announces bay event p0 p1
  have hwork := (d.shownQuiet_work bay w forced).trans hsays.work
  have hby (f : Fld) (hf : f.blk = .by ∧ f.Plain) :
      ((d.shownQuiet bay w forced).announced bay event p0 p1).get f bay = (d.shownQuiet bay w forced).get f bay :=
    hsays.regs.get f bay 0 (not_assignKey_by hf.1 hf.2 hbay)
  have hself : ((d.shownQuiet bay w forced).announced bay event p0 p1).get R.BW_RESET bay =
      (d.shownQuiet bay w forced).get R.BW_RESET bay :=
    hsays.regs.get _ bay 0 (not_assignKey_at (Blk.apart_bw bay) (by decide))
  have hapart := Blk.apart_by bay
  have hresets : ((d.shownQuiet bay w forced).announced bay event p0 p1).sched.resets = Tab.del d.sched.resets bay := by
    rw [hwork.sched]
  rw [heq]
  refine ⟨?_, ?_, ?_, ?_, ?_, ?_, ?_, ?_, ?_, ?_, ?_⟩
  · rw [Dev.on, hby _ (by decide), d.shownQuiet_get _ _ _ (by decide) hapart]
    simp (disch := decide) only [Dev.get_set_parted, Dev.get_set_self]
    rfl
  · simp [hresets]
  · rw [Dev.on, hby _ (by decide), d.shownQuiet_get _ _ _ (by decide) hapart]
    simp (disch := decide) only [Dev.get_set_parted, Dev.get_set_self]
    cases forced <;> rfl
  · rw [hby _ (by decide), d.shownQuiet_get _ _ _ (by decide) hapart, Dev.get_set_self]
    exact Nat.mod_eq_of_lt (show min 255 _ < 2 ^ 8 by omega)
  · rw [Dev.on, hby _ (by decide), d.shownQuiet_get _ _ _ (by decide) hapart]
    simp (disch := decide) only [Dev.get_set_parted, Dev.get_set_self]
    cases d.sched.resetDue.contains bay <;> rfl
  · rw [Dev.on, hself, d.shownQuiet_get _ _ _ (by decide) (Blk.apart_bw bay)]
    simp (disch := decide) only [Dev.get_set_parted, Dev.get_set_self]
    cases d.sched.resetDue.contains bay <;> rfl
  · exact Dev.announced_latched _ event p0 p1 hapart (.inr (Blk.by_ne_bw hbay bay)) (.inl ⟨rfl, rfl⟩) 2 (by decide)
      (d.shownQuiet_by bay w forced hbay)
  · exact Dev.announced_latched _ event p0 p1 (Blk.apart_bw bay) (.inl ⟨rfl, rfl⟩) (.inr (Blk.by_ne_bw hbay bay).symm) 3
      (by decide) (d.shownQuiet_bw bay w forced)
  · intro k hk
    simp [hresets, Ne.symm hk]
  · rw [hresets]; exact hwork
  · exact (d.shownQuiet_face bay w forced).trans hsays.face

/-! ## A reset that is due (R320, R321) -/

/-- A reset is due: the bay stands last, and its two reset fields read 1. -/
def Dev.Due (d : Dev) (bay : Nat) (e : Dev) : Prop :=
  e.sched.resetDue = d.sched.resetDue.filter (· ≠ bay) ++ [bay] ∧ e.on (R.CTRL_SOFT_RESET .by) bay = true ∧
    e.on R.BW_RESET bay = true ∧
    { d with
      regs := e.regs
      sched := { d.sched with resetDue := e.sched.resetDue } } = e ∧
    ∀ key, key ≠ (R.CTRL_SOFT_RESET .by).key bay 0 → key ≠ R.BW_RESET.key bay 0 →
      Tab.look e.regs.vals key = Tab.look d.regs.vals key

theorem Dev.requestReset_due (d : Dev) (bay : Nat) : d.Due bay (d.requestReset bay) := by
  have hget (f : Fld) : (d.requestReset bay).get f bay =
      ((d.set (R.CTRL_SOFT_RESET .by) 1 bay).set R.BW_RESET 1 bay).get f bay := rfl
  refine ⟨rfl, ?_, ?_, rfl, fun key hsoft hself => ?_⟩
  · rw [Dev.on, hget]
    simp (disch := decide) only [Dev.get_set_parted, Dev.get_set_self]
    rfl
  · rw [Dev.on, hget, Dev.get_set_self]
    rfl
  · exact (Dev.look_set _ _ _ _ _ _ hself.symm).trans (Dev.look_set _ _ _ _ _ _ hsoft.symm)

/-! ## What the ends of a bay's work leave (R321, R322)

A request or a record that ends sends, counts and reports. Its ring, its session and its port may be anyone's, but none of
their registers stands in the page of a bay, where the generation does. -/

/-- The registers of the bays that hold a generation and a number of resets. -/
def genKey (key : Nat) : Prop := ∃ b < 256, key = R.BY_GEN_GEN.key b 0 ∨ key = R.BY_GEN_RESETS.key b 0

theorem not_genKey_of_off {f : Fld} {i k : Nat} (hf : f.off ≠ 0x05C ∧ f.off < 0x1000 ∧ f.lo < 32) (hk : k < 0x1000) :
    ¬ genKey (f.key i k) := by
  rintro ⟨b, -, he | he⟩
  · exact Fld.key_ne_of_off _ _ _ _ _ _ hf.1 hf.2.1 hf.2.2 hk (by decide) (by decide) (by decide) he
  · exact Fld.key_ne_of_off _ _ _ _ _ _ hf.1 hf.2.1 hf.2.2 hk (by decide) (by decide) (by decide) he

/-- The rings' pages stand above the bays' pages. -/
theorem not_genKey_hq {f : Fld} (hf : f.blk = .hq) (i k : Nat) : ¬ genKey (f.key i k) := by
  rintro ⟨b, hb, he⟩
  simp only [Fld.key, Blk.page, hf, Blk.basePage, Blk.stride, R.BY_GEN_GEN, R.BY_GEN_RESETS] at he
  omega

theorem not_genKey_mark {key : Nat} (h : markKey key) : ¬ genKey key := by
  rintro ⟨b, hb, he⟩
  simp only [markKey, Fld.key, Blk.page, Blk.basePage, Blk.stride, R.BY_GEN_GEN, R.BY_GEN_RESETS] at h he
  omega

theorem not_genKey_report {key : Nat} (h : reportKey key) : ¬ genKey key := by
  rintro ⟨b, hb, he⟩
  simp only [reportKey, Fld.key, Blk.page, Blk.basePage, Blk.stride, R.BY_GEN_GEN, R.BY_GEN_RESETS] at h he
  omega

/-- Every generation and every number of resets stays. -/
def Dev.SameGens (d e : Dev) : Prop := ∀ key, genKey key → Tab.look e.regs.vals key = Tab.look d.regs.vals key

section
variable {a b c : Dev}

theorem Dev.SameGens.refl (d : Dev) : d.SameGens d := fun _ _ => rfl

theorem Dev.SameGens.of_regs (h : b.regs = a.regs) : a.SameGens b := fun _ _ => by rw [h]

theorem Dev.SameGens.trans (h : a.SameGens b) (g : b.SameGens c) : a.SameGens c := fun key hk => (g key hk).trans (h key hk)

theorem Dev.SameGens.ite (p : Prop) [Decidable p] (h : a.SameGens b) (g : a.SameGens c) :
    a.SameGens (if p then b else c) := by split <;> assumption

theorem Dev.SameGens.send (h : a.SameGens b) (o : Output) : a.SameGens (b.send o) := h.trans (.of_regs rfl)

theorem Dev.SameGens.set (h : a.SameGens b) (f : Fld) (v i k : Nat) (hf : ¬ genKey (f.key i k)) : a.SameGens (b.set f v i k) :=
  h.trans fun key hk => b.look_set f v i k key fun he => hf (he ▸ hk)

theorem Dev.SameGens.reported (h : a.SameGens b) {own : Nat → Prop} (hr : Dev.Reported own b c)
    (hown : ∀ key, own key → ¬ genKey key) : a.SameGens c :=
  h.trans fun key hk => hr.regs.vals key fun ho => ho.elim not_genKey_mark (hown key) hk

theorem Dev.SameGens.raiseInt (h : a.SameGens b) (k : Blk) (i n : Nat) : a.SameGens (b.raiseInt k i n) :=
  h.reported (Dev.raiseInt_reported _ _ _ _) fun _ => not_genKey_report

theorem Dev.SameGens.blockEvent (h : a.SameGens b) (k : Blk) (i n : Nat) : a.SameGens (b.blockEvent k i n) :=
  h.reported ((Dev.blockEvent_reported b k i n).mono (more := reportKey) fun _ he => he ▸ reportKey_raw k i)
    fun _ => not_genKey_report

theorem Dev.SameGens.occur (h : a.SameGens b) (code : Nat) (bay : Option Nat) (q w : Nat) :
    a.SameGens (b.occur code bay q w) :=
  h.reported ((Dev.Reported.refl (own := fun _ => False) b).occur code bay q w) fun _ => False.elim

theorem Dev.SameGens.countBay (h : a.SameGens b) (bay n : Nat) {k : Nat} (hk : k < 0x1000) :
    a.SameGens (b.countBay bay k n) := by
  unfold Dev.countBay
  exact .ite _ h (h.set _ _ _ _ (not_genKey_of_off (by decide) hk))

theorem Dev.SameGens.ringComplete (h : a.SameGens b) (owner ring epoch reqId : Nat) (st : Status) (n : Nat) (iv : Bytes) :
    a.SameGens (b.ringComplete owner ring epoch reqId st n iv) := by
  have hcompletes (e : Dev) (he : a.SameGens e) (x : HostRing) :
      a.SameGens ((e.setHostRing owner ring x).raiseCompletion owner ring) := by
    have hset : a.SameGens (e.setHostRing owner ring x) := he.trans (.of_regs rfl)
    unfold Dev.raiseCompletion
    split <;> exact hset.raiseInt _ _ _
  unfold Dev.ringComplete
  dsimp only
  have hentry := (h.send (.ringEntry owner ring (b.get R.HQ_STATUS_CPL_TAIL owner ring) reqId st
    (b.get R.HQ_STATUS_PHASE owner ring) n iv)).set R.HQ_STATUS_CPL_TAIL
      ((b.get R.HQ_STATUS_CPL_TAIL owner ring + 1) % 2 ^ b.get R.HQ_CFG_LOG2_SIZE owner ring) owner ring (not_genKey_hq rfl _ _)
  have hrunning := (Dev.SameGens.ite (b.get R.HQ_STATUS_CPL_TAIL owner ring + 1 = 2 ^ b.get R.HQ_CFG_LOG2_SIZE owner ring)
    (hentry.set R.HQ_STATUS_PHASE (1 - b.get R.HQ_STATUS_PHASE owner ring) owner ring (not_genKey_hq rfl _ _)) hentry).set
      R.HQ_STATUS_RUNNING (b2n (b.on R.HQ_CFG_EN owner ring || (b.hostRing owner ring).inflight - 1 ≠ 0)) owner ring
      (not_genKey_hq rfl _ _)
  exact .ite _ (h.set _ _ _ _ (not_genKey_of_off (by decide) (by decide)))
    (.ite _ (hcompletes _ hrunning _) (hrunning.trans (.of_regs rfl)))

theorem Dev.SameGens.endSession (h : a.SameGens b) (id : Nat) : a.SameGens (b.endSession id) := by
  unfold Dev.endSession
  split
  · exact h
  · have hface (f : Face) : a.SameGens { b with face := f } := h.trans (.of_regs rfl)
    exact (hface _).blockEvent _ _ _

theorem Dev.SameGens.countTx (h : a.SameGens b) (x : Client) (n : Nat) : a.SameGens (b.countTx x n) :=
  h.set _ _ _ _ (not_genKey_of_off (by decide) (by decide))

theorem Dev.SameGens.deliver (h : a.SameGens b) (via : Via) (reqId : Nat) (st : Status) (out : List Tlv) :
    a.SameGens (b.deliver via reqId st out) := by
  have horphaned (e : Dev) (he : a.SameGens e) : a.SameGens (e.bumpSat R.NF_ORPHANED) :=
    he.set _ _ _ _ (not_genKey_of_off (by decide) (by decide))
  unfold Dev.deliver
  cases via with
  | session id src =>
    dsimp only
    split
    case h_1 => exact horphaned _ h
    case h_2 x _ =>
      have hnext (n : Nat) : a.SameGens (b.nextFrame id x n) := h.trans (.of_regs rfl)
      exact .ite _ (horphaned _ (h.endSession id)) (((hnext _).countTx src _).send _)
  | ring owner ring epoch addr len =>
    dsimp only
    exact .ite _ (h.ringComplete _ _ _ _ _ _ _) (.ite _ (h.ringComplete _ _ _ _ _ _ _)
      ((h.send _).ringComplete _ _ _ _ _ _ _))

theorem Dev.SameGens.endRequest (h : a.SameGens b) (r : Request) (owned : Bool) (st : Status) (out : List Tlv) :
    a.SameGens (b.endRequest r owned st out) := by
  have hretired : a.SameGens ((b.deliver r.via r.reqId st out).retireEntry r.bay r.entry) :=
    (h.deliver r.via r.reqId st out).trans (.of_regs rfl)
  have hended := hretired.occur 0x012 (some r.bay) 0x1F 1
  unfold Dev.endRequest
  exact .ite _ ((hended.countBay _ _ (by split <;> decide)).occur _ _ _ _) hended

theorem Dev.SameGens.bulkComplete (h : a.SameGens b) (r : BulkRec) {st : Status} (hst : st ≠ .ok) (out : Bytes) :
    a.SameGens (b.bulkComplete r st out) := by
  have hsweep (e : Dev) (he : a.SameGens e) : a.SameGens (e.sweepStream r.stream) := by
    unfold Dev.sweepStream
    split
    · split
      · exact he.trans (.of_regs rfl)
      · exact he
    · exact he
  unfold Dev.bulkComplete
  simp only [hst, if_false]
  split
  case h_1 id src _ =>
    refine hsweep _ ?_
    split
    case h_1 => exact h.set _ _ _ _ (not_genKey_of_off (by decide) (by decide))
    case h_2 x _ =>
      have hsent (n : Nat) : a.SameGens { b with face := { b.face with
        sessions := Tab.put b.face.sessions id { x with sent := x.sent + n } } } := h.trans (.of_regs rfl)
      exact ((hsent _).countTx _ _).send _
  case h_2 => exact (Dev.SameGens.ite _ (h.send _) h).ringComplete _ _ _ _ _ _ _

end

/-! ## The end of a bay's work -/

/-- What the ends of a bay's work leave: of the scheduler all but the contexts and the generations of the queue's entries, of
the key island all but what contexts wait for, the bulk records and PIN steps that wait, the cards, the life cycle, the Plinth,
the supply, and the bays' generations. -/
structure Dev.WorkEnds (d e : Dev) : Prop where
  sched : ∃ (t : Tab Ctx) (g : Tab Nat), e.sched = { d.sched with ctxs := t, entryGens := g }
  keys : e.keys = { d.keys with waits := e.keys.waits, slotWait := e.keys.slotWait, fills := e.keys.fills }
  bulk : e.eng.bulkWait = d.eng.bulkWait
  pin : e.eng.pinWait = d.eng.pinWait
  cards : e.cards = d.cards
  life : e.life = d.life
  plinth : e.plinth = d.plinth
  power : e.power = d.power
  gens : d.SameGens e

section
variable {a b c : Dev}

theorem Dev.WorkEnds.trans (h : a.WorkEnds b) (g : b.WorkEnds c) : a.WorkEnds c := by
  obtain ⟨t, m, hs⟩ := h.sched
  obtain ⟨t', m', hs'⟩ := g.sched
  exact ⟨⟨t', m', by rw [hs', hs]⟩, g.keys.trans (by rw [h.keys]), g.bulk.trans h.bulk, g.pin.trans h.pin,
    g.cards.trans h.cards, g.life.trans h.life, g.plinth.trans h.plinth, g.power.trans h.power, h.gens.trans g.gens⟩

theorem Dev.WorkEnds.of_work (h : a.SameWork b) (hg : a.SameGens b) : a.WorkEnds b :=
  ⟨⟨a.sched.ctxs, a.sched.entryGens, h.sched⟩, by rw [h.keys], by rw [h.eng], by rw [h.eng], h.cards, h.life, h.plinth,
    h.power, hg⟩

theorem Dev.WorkEnds.foldl {α : Type} (l : List α) (f : Dev → α → Dev) (h : ∀ (e : Dev) (x : α), x ∈ l → e.WorkEnds (f e x))
    (d : Dev) : d.WorkEnds (l.foldl f d) := by
  induction l generalizing d with
  | nil => exact .of_work (.refl d) (.refl d)
  | cons x l ih =>
    exact (h d x (List.mem_cons_self ..)).trans (ih (fun e y hy => h e y (List.mem_cons_of_mem _ hy)) _)

/-- A change of a context alone. -/
theorem Dev.WorkEnds.setCtx (d : Dev) (c : Nat) (x : Ctx) : d.WorkEnds (d.setCtx c x) :=
  ⟨⟨_, d.sched.entryGens, rfl⟩, rfl, rfl, rfl, rfl, rfl, rfl, rfl, .of_regs rfl⟩

theorem Dev.WorkEnds.endRequest (d : Dev) (r : Request) (owned : Bool) (st : Status) (out : List Tlv) :
    d.WorkEnds (d.endRequest r owned st out) := by
  have hwork := d.endRequest_work r owned st out
  exact ⟨⟨d.sched.ctxs, _, hwork.sched⟩, by rw [hwork.keys]; rfl, by rw [hwork.eng]; rfl, by rw [hwork.eng]; rfl, hwork.cards,
    hwork.life, hwork.plinth, hwork.power, (Dev.SameGens.refl d).endRequest r owned st out⟩

theorem Dev.WorkEnds.retired (d : Dev) (c : Nat) (r : Request) (owned : Bool) (st : Status) (out : List Tlv) :
    d.WorkEnds (d.retired c r owned st out) := by
  have hrep := d.retired_reported c r owned st out
  refine (Dev.WorkEnds.endRequest d r owned st out).trans (.of_work hrep.work ((Dev.SameGens.refl _).reported hrep ?_))
  rintro key (hreport | rfl)
  · exact not_genKey_report hreport
  · exact not_genKey_of_off (by decide) (by decide)

theorem Dev.WorkEnds.clearCtx (d : Dev) (c : Nat) : d.WorkEnds (d.clearCtx c) := by
  obtain ⟨m, t, hclear⟩ := d.clearCtx_eq c
  have hdrained (e : Dev) : e.WorkEnds (e.checkDrained c) :=
    .of_work (e.checkDrained_reported c).work ((Dev.SameGens.refl e).reported (e.checkDrained_reported c)
      fun _ => not_genKey_report)
  rw [hclear]
  refine Dev.WorkEnds.trans ?_ (hdrained _)
  exact ⟨⟨_, d.sched.entryGens, rfl⟩, rfl, rfl, rfl, rfl, rfl, rfl, rfl, .of_regs rfl⟩

theorem Dev.WorkEnds.endCtx (d : Dev) (c : Nat) (r : Request) (owned : Bool) (st : Status) (out : List Tlv) :
    d.WorkEnds (d.endCtx c r owned st out) := by
  have hretired := Dev.WorkEnds.retired d c r owned st out
  have hcases : d.endCtx c r owned st out = d.retired c r owned st out ∨
      d.endCtx c r owned st out = (d.retired c r owned st out).clearCtx c := by
    unfold Dev.endCtx
    exact (ite_eq_or_eq _ _ _).symm
  obtain heq | heq := hcases
  · rw [heq]; exact hretired
  · rw [heq]; exact hretired.trans (.clearCtx _ c)

theorem Dev.WorkEnds.settle (d : Dev) (c : Nat) : d.WorkEnds (d.settle c) := .setCtx d c _

theorem Dev.bulkComplete_work (d : Dev) (r : BulkRec) {st : Status} (hst : st ≠ .ok) (out : Bytes) :
    d.SameWork (d.bulkComplete r st out) := by
  have hsweep (e : Dev) (he : d.SameWork e) : d.SameWork (e.sweepStream r.stream) := by
    unfold Dev.sweepStream
    split
    · split
      · exact he.trans (.of_parts e e.regs e.log _ e.outbox)
      · exact he
    · exact he
  unfold Dev.bulkComplete
  simp only [hst, if_false]
  split
  case h_1 id src _ =>
    refine hsweep _ ?_
    split
    case h_1 => exact (Dev.SameWork.refl d).bumpSat _ _ _ _
    case h_2 => exact ((Dev.SameWork.of_parts d d.regs d.log _ d.outbox).bumpSat _ _ _ _).send _
  case h_2 => exact (Dev.SameWork.ite _ ((Dev.SameWork.refl d).send _) (.refl d)).ringComplete _ _ _ _ _ _ _

theorem Dev.WorkEnds.bulkComplete (d : Dev) (r : BulkRec) {st : Status} (hst : st ≠ .ok) (out : Bytes) :
    d.WorkEnds (d.bulkComplete r st out) :=
  .of_work (d.bulkComplete_work r hst out) ((Dev.SameGens.refl d).bulkComplete r hst out)

/-! ## The requests of the contexts -/

/-- A context holds a request after the end of a request in one of the contexts: it held it before, and it was not this
one. -/
theorem Dev.endCtx_req (d : Dev) (c k : Nat) (r x : Request) (owned : Bool) (st : Status) (out : List Tlv) :
    ((d.endCtx c r owned st out).ctx k).req = some x ↔ (d.ctx k).req = some x ∧ (k, x) ≠ (c, r) := by
  have hctxs : (d.retired c r owned st out).sched.ctxs = d.sched.ctxs := by
    rw [(d.retired_reported c r owned st out).work.sched, (d.endRequest_work r owned st out).sched]; rfl
  by_cases hheld : (d.ctx c).req = some r
  · obtain ⟨n, m, t, hsched, -⟩ := (d.retired c r owned st out).clearCtx_shape c
    rw [Dev.endCtx_held owned st out hheld, Dev.ctx, hsched]
    dsimp only
    rw [Tab.get_set, Tab.get_set, hctxs]
    by_cases hk : c = k
    · subst hk
      simp [hheld, Ctx.empty, eq_comm]
    · simp [hk, Ne.symm hk, Dev.ctx]
  · have hretired : ((d.retired c r owned st out).ctx c).req ≠ some r := by rw [Dev.ctx, hctxs]; exact hheld
    have hstays : d.endCtx c r owned st out = d.retired c r owned st out := if_neg hretired
    rw [hstays, Dev.ctx, hctxs, ← Dev.ctx]
    refine ⟨fun hx => ⟨hx, fun he => ?_⟩, And.left⟩
    obtain ⟨rfl, rfl⟩ := Prod.mk.inj he
    exact hheld hx

/-- The contexts whose requests are ended hold them no more, and the others hold theirs. -/
theorem Dev.endCtxs_req (l : List (Nat × Request)) (st : Status) (d : Dev) (k : Nat) (x : Request) :
    ((l.foldl (fun a e => a.endCtx e.1 e.2 (a.ctx e.1).owned st []) d).ctx k).req = some x ↔
      (d.ctx k).req = some x ∧ (k, x) ∉ l := by
  induction l generalizing d with
  | nil => simp
  | cons e l ih => rw [List.foldl_cons, ih, Dev.endCtx_req, List.mem_cons, not_or, and_assoc]

theorem Tab.mem_of_look {α : Type} {t : Tab α} {k : Nat} {v : α} (h : Tab.look t k = some v) : (k, v) ∈ t := by
  induction t with
  | nil => cases h
  | cons e t ih =>
    obtain ⟨j, w⟩ := e
    unfold Tab.look at h
    split at h
    · cases h; simp_all
    · exact List.mem_cons_of_mem _ (ih h)

end

/-- The requests of a bay that contexts hold, each with its context. -/
def Dev.heldBy (d : Dev) (bay : Nat) : List (Nat × Request) :=
  d.sched.ctxs.filterMap (fun e => match e.2.req with
    | some r => if r.bay = bay then some (e.1, r) else none
    | none => none)

theorem Dev.mem_heldBy {d : Dev} {bay c : Nat} {r : Request} (h : (d.ctx c).req = some r) :
    (c, r) ∈ d.heldBy bay ↔ r.bay = bay := by
  unfold Dev.heldBy
  rw [List.mem_filterMap]
  constructor
  · rintro ⟨⟨k, x⟩, -, he⟩
    dsimp only at he
    split at he
    · split at he
      · cases he; assumption
      · cases he
    · cases he
  · intro hbay
    have hlisted : ∃ x, Tab.look d.sched.ctxs c = some x ∧ x.req = some r := by
      unfold Dev.ctx Tab.get at h
      cases hx : Tab.look d.sched.ctxs c with
      | none => rw [hx] at h; cases h
      | some x => rw [hx] at h; exact ⟨x, rfl, h⟩
    obtain ⟨x, hx, hreq⟩ := hlisted
    exact ⟨(c, x), Tab.mem_of_look hx, by simp [hreq, hbay]⟩

/-- A bay's requests end: its queue is emptied, and its requests leave the contexts (R321). -/
structure Dev.RequestsEnd (d : Dev) (bay : Nat) (e : Dev) : Prop where
  ends : (d.setQueue bay []).WorkEnds e
  req : ∀ c r, (e.ctx c).req = some r ↔ (d.ctx c).req = some r ∧ r.bay ≠ bay

theorem Dev.endBayRequests_end (d : Dev) (bay : Nat) (st : Status) : d.RequestsEnd bay (d.endBayRequests bay st) := by
  have hqueued := Dev.WorkEnds.foldl (d.queue bay) (fun a r => a.endRequest r false st []) (fun e r _ => .endRequest e r _ _ _)
    (d.setQueue bay [])
  have hctxs (l : List Request) (e : Dev) :
      (l.foldl (fun a r => a.endRequest r false st []) e).sched.ctxs = e.sched.ctxs := by
    induction l generalizing e with
    | nil => rfl
    | cons r l ih => rw [List.foldl_cons, ih, (e.endRequest_work r false st []).sched]; rfl
  have hsame (c : Nat) :
      (((d.queue bay).foldl (fun a r => a.endRequest r false st []) (d.setQueue bay [])).ctx c).req = (d.ctx c).req := by
    rw [Dev.ctx, hctxs]; rfl
  refine ⟨hqueued.trans (.foldl _ _ (fun e x _ => .endCtx e _ _ _ _ _) _), fun c r => ?_⟩
  refine (Dev.endCtxs_req (Dev.heldBy _ bay) st _ c r).trans ?_
  rw [hsame c]
  refine and_congr_right fun hreq => not_congr (Dev.mem_heldBy ?_)
  rw [hsame c]; exact hreq

/-- What waits of a bay's PIN steps and bulk records is removed, and no context loses its request (R322). -/
structure Dev.WaitsEnd (d : Dev) (bay : Nat) (e : Dev) : Prop where
  ends : (({ d with eng := { d.eng with pinWait := d.eng.pinWait.filter (fun j => j.bay != bay) } }).setBulkQueue bay
    []).WorkEnds e
  req : ∀ c, (e.ctx c).req = (d.ctx c).req

theorem Dev.WorkEnds.setBulkQueue {a b : Dev} (h : a.WorkEnds b) (bay : Nat) (q : List BulkRec) :
    (a.setBulkQueue bay q).WorkEnds (b.setBulkQueue bay q) :=
  ⟨h.sched, h.keys, congrArg (fun t => Tab.set t bay [] q) h.bulk, h.pin, h.cards, h.life, h.plinth, h.power, h.gens⟩

theorem Dev.dropWaiting_end (d : Dev) (bay : Nat) {st : Status} (hst : st ≠ .ok) : d.WaitsEnd bay (d.dropWaiting bay st) := by
  have hsettled (l : List Job) (e : Dev) (c : Nat) : ((l.foldl (fun a j => a.settle j.ctx) e).ctx c).req = (e.ctx c).req := by
    induction l generalizing e with
    | nil => rfl
    | cons j l ih =>
      rw [List.foldl_cons, ih]
      by_cases hc : j.ctx = c
      · rw [← hc, (e.settle_kept j.ctx).1]
      · rw [Dev.settle, Dev.ctx_setCtx, if_neg hc]
  have hended (l : List BulkRec) (e : Dev) : (l.foldl (fun a r => a.bulkComplete r st []) e).sched = e.sched := by
    induction l generalizing e with
    | nil => rfl
    | cons r l ih => rw [List.foldl_cons, ih, (e.bulkComplete_work r hst []).sched]
  refine ⟨((Dev.WorkEnds.foldl _ _ (fun e j _ => .settle e j.ctx) _).setBulkQueue bay []).trans
    (.foldl _ _ (fun e r _ => .bulkComplete e r hst []) _), fun c => ?_⟩
  unfold Dev.dropWaiting Dev.ctx
  dsimp only
  rw [hended]
  exact hsettled _ _ c

/-! ## The action (R321) -/

/-- A bay's reset is due no more, and its generation and its number of resets rise. -/
def Dev.resetRaised (d : Dev) (bay : Nat) : Dev :=
  (({ d with sched := { d.sched with resetDue := d.sched.resetDue.filter (· ≠ bay) } } : Dev).bumpWrap R.BY_GEN_GEN bay).bumpWrap
    R.BY_GEN_RESETS bay

/-- A bay's reset that acts, before what it announces. -/
def Dev.resetActed (d : Dev) (bay : Nat) : Dev :=
  let d2 := (((d.resetRaised bay).endBayRequests bay .bayReset).dropWaiting bay .bayReset).resetKeyIsland bay
  let w : ResetWait := ⟨d2.sched.time, true⟩
  let d3 : Dev := { d2 with sched := { d2.sched with resets := Tab.put d2.sched.resets bay w } }
  d3.set R.STATUS_RESETTING 1 bay

theorem Dev.resetAction_eq (d : Dev) (bay : Nat) : ∃ p0 p1,
    d.resetAction bay = (d.resetActed bay).announced bay .bayReset p0 p1 := ⟨_, _, rfl⟩

/-- What a bay's reset that acts does and leaves. -/
structure Dev.Acted (d : Dev) (bay : Nat) (e : Dev) : Prop where
  sched : ∃ (t : Tab Ctx) (g : Tab Nat), e.sched = { d.sched with
    resetDue := d.sched.resetDue.filter (· ≠ bay)
    queues := Tab.set d.sched.queues bay [] []
    resets := Tab.put d.sched.resets bay ⟨d.sched.time, true⟩
    ctxs := t, entryGens := g }
  req : ∀ c r, (e.ctx c).req = some r ↔ (d.ctx c).req = some r ∧ r.bay ≠ bay
  bulk : e.eng.bulkWait = Tab.set d.eng.bulkWait bay [] []
  pin : e.eng.pinWait = d.eng.pinWait.filter (fun j => j.bay != bay)
  keys : e.keys.cache = d.keys.cache.filter (fun x => x.bay != bay) ∧
    e.keys.sess = d.keys.sess.filter (fun x => x.1 / 65536 != bay) ∧ e.keys.objs = d.keys.objs ∧
    e.keys.entries = d.keys.entries
  cards : e.cards = d.cards
  life : e.life = d.life
  plinth : e.plinth = d.plinth
  power : e.power = d.power
  gens : ((d.bumpWrap R.BY_GEN_GEN bay).bumpWrap R.BY_GEN_RESETS bay).SameGens e

theorem Dev.resetActed_acted (d : Dev) (bay : Nat) : d.Acted bay (d.resetActed bay) := by
  have hends := (d.resetRaised bay).endBayRequests_end bay .bayReset
  have hwaits := ((d.resetRaised bay).endBayRequests bay .bayReset).dropWaiting_end bay (st := .bayReset) (by decide)
  unfold Dev.resetActed
  dsimp only
  generalize (d.resetRaised bay).endBayRequests bay .bayReset = b at hends hwaits
  generalize b.dropWaiting bay .bayReset = e at hwaits
  obtain ⟨hends, hreq⟩ := hends
  obtain ⟨hwaits, hkept⟩ := hwaits
  obtain ⟨t, g, hsched⟩ := hends.sched
  obtain ⟨t', g', hsched'⟩ := hwaits.sched
  have hse : e.sched = { d.sched with
      resetDue := d.sched.resetDue.filter (· ≠ bay), queues := Tab.set d.sched.queues bay [] [], ctxs := t', entryGens := g' } :=
    hsched'.trans (congrArg (fun x : Sched => { x with ctxs := t', entryGens := g' }) hsched)
  have hke : e.keys = { d.keys with waits := e.keys.waits, slotWait := e.keys.slotWait, fills := e.keys.fills } :=
    hwaits.keys.trans (congrArg (fun x : Keys =>
      { x with waits := e.keys.waits, slotWait := e.keys.slotWait, fills := e.keys.fills }) hends.keys)
  refine ⟨⟨t', g', ?_⟩, fun c r => ?_, hwaits.bulk.trans (congrArg (fun x => Tab.set x bay [] []) hends.bulk),
    hwaits.pin.trans (congrArg (List.filter _) hends.pin), ⟨?_, ?_, ?_, ?_⟩, hwaits.cards.trans hends.cards,
    hwaits.life.trans hends.life, hwaits.plinth.trans hends.plinth, hwaits.power.trans hends.power, ?_⟩
  · show { e.sched with resets := Tab.put e.sched.resets bay ⟨e.sched.time, true⟩ } = _
    rw [hse]
  · exact (Iff.of_eq (congrArg (· = some r) (hkept c))).trans (hreq c r)
  · exact congrArg (fun k : Keys => k.cache.filter (fun x => x.bay != bay)) hke
  · exact congrArg (fun k : Keys => k.sess.filter (fun x => x.1 / 65536 != bay)) hke
  · exact (by rw [hke] : e.keys.objs = d.keys.objs)
  · exact (by rw [hke] : e.keys.entries = d.keys.entries)
  · refine Dev.SameGens.set (fun key hk => ?_) _ _ _ _ (not_genKey_of_off (by decide) (by decide))
    exact (hwaits.gens key hk).trans (hends.gens key hk)

theorem Dev.resetActed_resetting (d : Dev) (bay : Nat) : (d.resetActed bay).get R.STATUS_RESETTING bay = 1 :=
  Dev.get_set_self _ _ _ _ _

/-- The generations after the action. -/
theorem Dev.Acted.gen {d e : Dev} {bay : Nat} (h : d.Acted bay e) {k : Nat} (hk : k < 256) :
    e.get R.BY_GEN_GEN k = if k = bay then (d.get R.BY_GEN_GEN bay + 1) % 2 ^ 16 else d.get R.BY_GEN_GEN k := by
  have hgen : e.get R.BY_GEN_GEN k = ((d.bumpWrap R.BY_GEN_GEN bay).bumpWrap R.BY_GEN_RESETS bay).get R.BY_GEN_GEN k :=
    Dev.get_congr (h.gens _ ⟨k, hk, .inl rfl⟩)
  rw [hgen, Dev.get_bumpWrap_parted _ _ _ _ (by decide)]
  split
  next heq => subst heq; exact Dev.get_set_self _ _ _ _ _
  next hne =>
    refine Dev.get_set_ne _ _ _ _ _ _ _ _ fun he => hne ?_
    simp only [Fld.key, Blk.page, Blk.basePage, Blk.stride, R.BY_GEN_GEN] at he
    omega

theorem Dev.Acted.resets {d e : Dev} {bay : Nat} (h : d.Acted bay e) (hbay : bay < 256) :
    e.get R.BY_GEN_RESETS bay = (d.get R.BY_GEN_RESETS bay + 1) % R.BY_GEN_RESETS.bound := by
  have hresets : e.get R.BY_GEN_RESETS bay =
      ((d.bumpWrap R.BY_GEN_GEN bay).bumpWrap R.BY_GEN_RESETS bay).get R.BY_GEN_RESETS bay :=
    Dev.get_congr (h.gens _ ⟨bay, hbay, .inr rfl⟩)
  rw [hresets, ← d.get_bumpWrap_parted (f := R.BY_GEN_GEN) (g := R.BY_GEN_RESETS) bay bay 1 (by decide)]
  exact Dev.get_set_self _ _ _ _ _

theorem Dev.Acted.queue {d e : Dev} {bay : Nat} (h : d.Acted bay e) (k : Nat) :
    e.queue k = if k = bay then [] else d.queue k := by
  obtain ⟨t, g, hsched⟩ := h.sched
  rw [Dev.queue, hsched]
  simp only [Tab.get_set, Dev.queue, eq_comm]

theorem Dev.Acted.bulkQueue {d e : Dev} {bay : Nat} (h : d.Acted bay e) (k : Nat) :
    e.bulkQueue k = if k = bay then [] else d.bulkQueue k := by
  rw [Dev.bulkQueue, h.bulk]
  simp only [Tab.get_set, Dev.bulkQueue, eq_comm]

/-- What announces the reset leaves what its action did. -/
theorem Dev.Acted.announced {d e f : Dev} {bay : Nat} (h : d.Acted bay e) (hf : e.Announces f) : d.Acted bay f := by
  have hgens : e.SameGens f := by
    rintro key ⟨b, hb, rfl | rfl⟩
    · exact hf.regs.vals _ (not_assignKey_by rfl (by decide) hb)
    · exact hf.regs.vals _ (not_assignKey_by rfl (by decide) hb)
  obtain ⟨t, g, hs⟩ := h.sched
  have hw := hf.work
  refine ⟨⟨t, g, hw.sched.trans hs⟩, fun c r => ?_, by rw [hw.eng, h.bulk], by rw [hw.eng, h.pin], by rw [hw.keys]; exact h.keys,
    hw.cards.trans h.cards, hw.life.trans h.life, hw.plinth.trans h.plinth, hw.power.trans h.power, h.gens.trans hgens⟩
  have hctx : f.ctx c = e.ctx c := by rw [Dev.ctx, hw.sched]; rfl
  rw [hctx]
  exact h.req c r

theorem Dev.resetAction_acted (d : Dev) {bay : Nat} (hbay : bay < 256) :
    d.Acted bay (d.resetAction bay) ∧ (d.resetAction bay).on R.STATUS_RESETTING bay = true := by
  obtain ⟨p0, p1, heq⟩ := d.resetAction_eq bay
  have hsays := (d.resetActed bay).announced_announces bay .bayReset p0 p1
  rw [heq]
  refine ⟨(d.resetActed_acted bay).announced hsays, ?_⟩
  rw [Dev.on, hsays.regs.get _ bay 0 (not_assignKey_by rfl (by decide) hbay), d.resetActed_resetting]
  rfl

/-! ## The statement -/

theorem bayResetAction_acted {d : Dev} {bay : Nat} (hbay : bay < 256) (hdue : bay ∈ d.sched.resetDue) :
    d.Acted bay (bayResetAction bay d) ∧ (bayResetAction bay d).on R.STATUS_RESETTING bay = true := by
  have hacts : bayResetAction bay d = d.resetAction bay := if_pos (by simpa using hdue)
  rw [hacts]
  exact d.resetAction_acted hbay

section
variable {d : Dev} {bay : Nat} {w : ResetWait} (hw : Tab.look d.sched.resets bay = some w)
include hw

theorem bayQuiet_quiet (hun : d.unacked bay = 0) : bayQuiet bay d = d.declareQuiet bay w false := by
  simp [bayQuiet, hw, hun]

theorem bayQuiet_waits (hun : d.unacked bay ≠ 0) : bayQuiet bay d = d := by simp [bayQuiet, hw, hun]

theorem bayQuietForced_quiet (hun : d.unacked bay ≠ 0) (hlate : w.since + 12800 ≤ d.sched.time) :
    bayQuietForced bay d = d.declareQuiet bay w true := by simp [bayQuietForced, hw, hun, hlate]

theorem bayQuietForced_waits (hearly : d.sched.time < w.since + 12800) : bayQuietForced bay d = d := by
  simp [bayQuietForced, hw, Nat.not_le.mpr hearly]

end

/-- Settles O43: each end of a bay's work leaves the work of the other bays, and the pages of the bays. -/
theorem bayResetsEndABaysWork : Obligations.BayResetsEndABaysWork := by
  unfold Obligations.BayResetsEndABaysWork
  have hdue (i : Instr) (s : State) (bay : Nat) (f : Dev → Dev) (hi : exec i s = s.after f)
      (hf : f s.dev = s.dev.requestReset bay) : Completes i s (fun p d => p = s.perm ∧ s.dev.Due bay d) :=
    completes_after hi ⟨rfl, hf ▸ s.dev.requestReset_due bay⟩
  have hstays (i : Instr) (s : State) (f : Dev → Dev) (hi : exec i s = s.after f) (hf : f s.dev = s.dev) :
      Completes i s (fun p d => p = s.perm ∧ d = s.dev) := completes_after hi ⟨rfl, hf⟩
  refine ⟨fun s bay v hv => ?_, fun s bay v hv => ?_, fun s req bay v hv => ⟨fun hen => ?_, fun hen => ?_⟩,
    fun s bay hdue => ?_, fun s bay w hw hun => ?_, fun s bay w hw hun => ⟨fun hlate => ?_, fun hearly => ?_, ?_⟩⟩
  · exact hdue _ s bay (bayReset bay v.toNat) rfl (by simp [bayReset, bitOf, hv])
  · exact hstays _ s (bayReset bay v.toNat) rfl (by simp [bayReset, bitOf, hv])
  · exact hdue _ s bay (baySelfReset req bay v.toNat) rfl (by simp [baySelfReset, bitOf, hv, hen])
  · have hrefused : baySelfReset req bay v.toNat s.dev = s.dev.err .bw bay req .policyDenied := by
      simp [baySelfReset, bitOf, hv, hen]
    refine completes_after (f := baySelfReset req bay v.toNat) rfl ?_
    rw [hrefused]
    exact ⟨rfl, Dev.err_code _ _ _ (Blk.apart_bw _), Dev.err_reported _ _ _ _ _⟩
  · obtain ⟨hacted, hresetting⟩ := bayResetAction_acted bay.isLt hdue
    obtain ⟨t, g, hsched⟩ := hacted.sched
    refine completes_after (f := bayResetAction bay) rfl ⟨rfl, ?_, (hacted.gen bay.isLt).trans (if_pos rfl),
      hacted.resets bay.isLt, hresetting, ?_, (hacted.queue bay).trans (if_pos rfl), (hacted.bulkQueue bay).trans (if_pos rfl),
      fun j hj => ?_, fun c r hreq => ((hacted.req c r).mp hreq).2, fun c r hreq hne => (hacted.req c r).mpr ⟨hreq, hne⟩,
      fun k hk => ⟨(hacted.queue k).trans (if_neg hk), (hacted.bulkQueue k).trans (if_neg hk)⟩,
      fun k hk => (hacted.gen k.isLt).trans (if_neg fun he => hk (Fin.ext he)), hacted.keys.1, hacted.keys.2.1,
      hacted.keys.2.2.1, hacted.keys.2.2.2, hacted.cards, hacted.life, hacted.plinth, hacted.power⟩
    · simp [hsched]
    · simp [hsched]
    · rw [hacted.pin] at hj
      simpa using (List.mem_filter.mp hj).2
  · refine completes_after (f := bayQuiet bay) rfl ⟨rfl, ?_⟩
    rw [bayQuiet_quiet hw hun]
    exact (s.dev.declareQuiet_quiet w false bay.isLt)
  · refine completes_after (f := bayQuietForced bay) rfl ⟨rfl, ?_⟩
    rw [bayQuietForced_quiet hw hun hlate]
    exact (s.dev.declareQuiet_quiet w true bay.isLt)
  · exact hstays _ s (bayQuietForced bay) rfl (bayQuietForced_waits hw hearly)
  · exact hstays _ s (bayQuiet bay) rfl (bayQuiet_waits hw hun)

end Sys2Proof.Machine

namespace Sys2Proof.Machine

/-! # O54: tokens, the debug session and the TAP

A token check ends with writes of the LC page under the records of what it opens. What a refused instruction sets off may be
a tamper response; none of its effects touches the TAP or the count of refusals. -/

/-! ## A Cornerstone record (R434, R435) -/

/-- A Cornerstone record changes the buffer of records, and may report. -/
theorem Dev.csAdd_reported (d : Dev) (p : Perm) (kind source level p0 p1 p2 : Nat) : ∃ c : CsLog,
    Dev.Reported reportKey { d with cs := c } (d.csAdd p kind source level p0 p1 p2) := by
  have hraised (e : Dev) : Dev.Reported reportKey e (if d.mgmtOn then e.blockEvent .cs 0 4 else e) :=
    .ite _ ((Dev.Reported.refl e).blockEvent _ _ _ (.inr (reportKey_raw _ _))) (.refl e)
  unfold Dev.csAdd
  dsimp only
  split
  · split
    · exact ⟨_, .refl _⟩
    · split
      · exact ⟨_, hraised _⟩
      · exact ⟨_, .refl _⟩
  · exact ⟨_, .refl _⟩

/-! ## What no tamper response touches (R420) -/

/-- The TAP's instruction and the count of refusals of the debug port stay. -/
structure Dev.TapStays (d e : Dev) : Prop where
  tap : e.life.tap = d.life.tap
  refused : e.get R.DBG_REFUSED = d.get R.DBG_REFUSED

/-- The count of refusals stands below the fields of the pages above the DBG page. -/
theorem key_ne_refused {f : Fld} (hf : 0x021 < f.blk.basePage) (i k : Nat) : f.key i k ≠ R.DBG_REFUSED.key 0 0 := by
  have hplace : R.DBG_REFUSED.key 0 0 < 0x022 * 0x20000000 := by decide
  have hkey : f.blk.page i * 0x20000000 ≤ f.key i k := by unfold Fld.key; omega
  have hpage : 0x022 ≤ f.blk.page i := by unfold Blk.page; omega
  omega

section
variable {a b c : Dev}

theorem Dev.TapStays.refl (d : Dev) : d.TapStays d := ⟨rfl, rfl⟩

theorem Dev.TapStays.trans (h : a.TapStays b) (g : b.TapStays c) : a.TapStays c := ⟨g.tap.trans h.tap, g.refused.trans h.refused⟩

theorem Dev.TapStays.of_eq (hl : b.life.tap = a.life.tap) (hr : b.regs = a.regs) : a.TapStays b :=
  ⟨hl, by rw [Dev.get, Dev.get, hr]⟩

theorem Dev.TapStays.ite (p : Prop) [Decidable p] (h : a.TapStays b) (g : a.TapStays c) :
    a.TapStays (if p then b else c) := by split <;> assumption

theorem Dev.TapStays.foldl {α : Type} (l : List α) (f : Dev → α → Dev) (h : ∀ (e : Dev) (x : α), e.TapStays (f e x)) (d : Dev) :
    d.TapStays (l.foldl f d) := by
  induction l generalizing d with
  | nil => exact .refl d
  | cons x l ih => exact (h d x).trans (ih _)

theorem Dev.TapStays.set (h : a.TapStays b) (f : Fld) (v i k : Nat) (hf : 0x021 < f.blk.basePage) :
    a.TapStays (b.set f v i k) :=
  h.trans ⟨rfl, Dev.get_set_ne _ _ _ _ _ _ _ _ (key_ne_refused hf i k)⟩

theorem Dev.TapStays.reported (h : a.TapStays b) (hr : Dev.Reported reportKey b c) : a.TapStays c :=
  h.trans ⟨by rw [hr.work.life], hr.get_plain (by decide) (Blk.apart_zero (by decide))⟩

theorem Dev.TapStays.raiseInt (h : a.TapStays b) (k : Blk) (i n : Nat) : a.TapStays (b.raiseInt k i n) :=
  h.reported (Dev.raiseInt_reported _ _ _ _)

theorem Dev.TapStays.mark (h : a.TapStays b) (ev : Event) (isl : Island) (u p0 p1 p2 p3 : Nat) :
    a.TapStays (b.mark ev isl u p0 p1 p2 p3) := h.reported (Dev.mark_reported _ _ _ _ _ _ _ _ _)

theorem Dev.TapStays.csAdd (h : a.TapStays b) (p : Perm) (kind source level p0 p1 p2 : Nat) :
    a.TapStays (b.csAdd p kind source level p0 p1 p2) := by
  obtain ⟨x, hrep⟩ := b.csAdd_reported p kind source level p0 p1 p2
  exact (h.trans (.of_eq (b := { b with cs := x }) rfl rfl)).reported hrep

end

/-! ### Level 2: ceremonies and the debug session -/

theorem Dev.TapStays.cerEnd (d : Dev) (reason : Nat) : d.TapStays (d.cerEnd reason) := by
  obtain ⟨s, p0, p1, p2, he⟩ := d.cerEnd_eq reason
  have hcleared : d.TapStays d.cerCleared :=
    (((((Dev.TapStays.refl d).set _ _ _ _ (by decide)).set _ _ _ _ (by decide)).set _ _ _ _ (by decide)).set _ _ _ _
      (by decide)).set _ _ _ _ (by decide)
  rw [he]
  exact ((hcleared.trans (.of_eq (b := { d.cerCleared with cards := s }) rfl rfl)).mark _ _ _ _ _ _ _).raiseInt _ _ _

theorem Dev.TapStays.cardEnd (d : Dev) (i op slot : Nat) (st : Status) : d.TapStays (d.cardEnd i op slot st) := by
  have hstep (e : Dev) : e.TapStays (e.cerStep i op slot st) := .ite _ (.refl e) ((Dev.TapStays.refl e).mark _ _ _ _ _ _ _)
  have hfree : d.TapStays (d.setCard i { d.card i with exchange := none }) := .of_eq rfl rfl
  have hpin (e : Dev) : e.TapStays (e.clearPinBlock i) :=
    .foldl _ _ (fun e k => (Dev.TapStays.refl e).set R.CD_PINBLK 0 i k (by decide)) e
  have hdone (e : Dev) : e.TapStays e.authDone := .ite _ (.cerEnd e 0) (.refl e)
  have hstepped := hfree.trans (hstep _)
  have hshown := (((Dev.TapStays.ite (op = 3) (hstepped.trans (hpin _)) hstepped).set R.CD_CMD_STATUS_BUSY 0 i 0
    (by decide)).set R.CD_CMD_STATUS_STATUS st.code i 0 (by decide)).raiseInt .cd i 4
  exact .ite _ (hshown.trans (hdone _)) hshown

theorem Dev.TapStays.breakExchange (d : Dev) (i : Nat) (st : Status) : d.TapStays (d.breakExchange i st) := by
  have hdoubt (e : Dev) (id : Nat) (x : CardExchange) : e.TapStays (e.markInDoubt id x) := by
    have hlisted (s : Cards) : e.TapStays { e with cards := s } := .of_eq rfl rfl
    exact ((hlisted _).raiseInt _ _ _).mark _ _ _ _ _ _ _
  unfold Dev.breakExchange
  split
  · exact .refl d
  · exact .ite _ ((hdoubt d _ _).trans (.cardEnd _ _ _ _ _)) (.cardEnd _ _ _ _ _)

theorem Dev.TapStays.cerTamper (d : Dev) : d.TapStays d.cerTamper :=
  .ite _ (.refl d) ((Dev.TapStays.foldl _ _ (fun e i => .breakExchange e i .suspended) d).trans (.cerEnd _ 4))

/-- The registers of a debug session that is over. -/
def Dev.sessionCleared (d : Dev) : Dev :=
  ((({ d with life := { d.life with session := none } } : Dev).set R.DBG_STATUS_SESSION 0).set R.DBG_STATUS_SCOPE 0).set
    R.DBG_REMAIN 0

/-- The end of a debug session clears its registers, and is recorded (R456). -/
theorem Dev.dbgClose_open {d : Dev} {scope : Nat} (p : Perm) (reason : Nat) (h : d.life.session = some scope) :
    d.dbgClose p reason =
      ((d.sessionCleared.csAdd p 0x0C 0xFF p.level).mark .dbgClose .debug 0 scope reason).raiseInt .dbg 0 3 := by
  unfold Dev.dbgClose
  rw [h]
  rfl

theorem Dev.TapStays.dbgClose (d : Dev) (p : Perm) (reason : Nat) : d.TapStays (d.dbgClose p reason) := by
  cases h : d.life.session with
  | none =>
    have hnone : d.dbgClose p reason = d := by unfold Dev.dbgClose; rw [h]
    rw [hnone]
    exact .refl d
  | some scope =>
    rw [Dev.dbgClose_open p reason h]
    have hcleared : d.TapStays d.sessionCleared := by
      refine ⟨rfl, ?_⟩
      unfold Dev.sessionCleared
      simp (disch := decide) only [Dev.get_set_parted]
      rfl
    exact ((hcleared.csAdd _ _ _ _ _ _ _).mark _ _ _ _ _ _ _).raiseInt _ _ _

/-! ### Level 3: caches, sessions and keys -/

theorem Dev.TapStays.endSession (d : Dev) (id : Nat) : d.TapStays (d.endSession id) := by
  have hface (f : Face) : d.TapStays { d with face := f } := .of_eq rfl rfl
  unfold Dev.endSession
  split
  · exact .refl d
  · exact (hface _).reported ((Dev.Reported.refl _).blockEvent _ _ _ (.inr (reportKey_raw _ _)))

theorem Dev.TapStays.eraseIde (d : Dev) : d.TapStays d.eraseIde := by
  have hcleared := Dev.TapStays.foldl (List.range 4) (fun a s => a.set R.HF_IDE_STATUS 0 0 s)
    (fun e s => (Dev.TapStays.refl e).set R.HF_IDE_STATUS 0 0 s (by decide)) d
  have hface (e : Dev) (f : Face) (he : d.TapStays e) : d.TapStays { e with face := f } := he.trans (.of_eq rfl rfl)
  exact .ite _ ((hface _ _ hcleared).raiseInt _ _ _) (hface _ _ hcleared)

theorem Dev.TapStays.endSessions (d : Dev) : d.TapStays d.endSessions := .foldl _ _ (fun e i => .endSession e i) d

theorem Dev.TapStays.eraseDrbgs (d : Dev) : d.TapStays d.eraseDrbgs :=
  .foldl _ _ (fun e i => .of_eq (b := e.setDrbg i { Drbg.fresh with erased := true }) rfl rfl) d

theorem Dev.TapStays.zeroizeCache (d : Dev) : d.TapStays d.zeroizeCache := by
  have hkeys (e : Dev) (k : Keys) : e.TapStays { e with keys := k } := .of_eq rfl rfl
  have hface (e : Dev) (f : Face) : e.TapStays { e with face := f } := .of_eq rfl rfl
  have herased : d.TapStays d.eraseCaches.eraseDrbgs :=
    (Dev.TapStays.of_eq (a := d) (b := d.eraseCaches) rfl rfl).trans (.eraseDrbgs _)
  have hroot := (herased.trans (hkeys _ { d.eraseCaches.eraseDrbgs.keys with root := none, resuming := false })).set
    R.KT_STATUS_ROOT 0 0 0 (by decide)
  exact ((hroot.trans (.endSessions _)).trans (.eraseIde _)).trans (hface _ _)

/-! ### The levels and the firings (R420 to R423, R427) -/

theorem Dev.TapStays.levelEffect (d : Dev) (p : Perm) (k : Nat) : d.TapStays (d.levelEffect p k) :=
  .ite _ ((Dev.TapStays.cerTamper d).trans (.dbgClose _ _ _)) (.ite _ (.zeroizeCache d) (.ite _ (.of_eq rfl rfl) (.refl d)))

theorem Dev.TapStays.raiseLevel (d : Dev) (p : Perm) (new : Nat) : d.TapStays (d.raiseLevel p new).2 := by
  unfold Dev.raiseLevel
  split
  · exact .refl d
  · have hadded := (Dev.TapStays.refl d).csAdd { p with level := new } 0x02 0xFF new 0 0 0
    have hraised := Dev.TapStays.ite d.mgmtOn
      (hadded.reported ((Dev.Reported.refl _).blockEvent .tm 0 2 (.inr (reportKey_raw _ _)))) hadded
    exact hraised.trans (.foldl _ _ (fun e k => .levelEffect e _ k) _)

theorem Dev.TapStays.setFired (d : Dev) (s : Nat) : d.TapStays (d.setFired s) := by
  have hset := Dev.TapStays.ite (s < 32) ((Dev.TapStays.refl d).set R.TM_FIRED_LO (d.get R.TM_FIRED_LO ||| 2 ^ s) 0 0
    (by decide)) ((Dev.TapStays.refl d).set R.TM_FIRED_HI (d.get R.TM_FIRED_HI ||| 2 ^ (s - 32)) 0 0 (by decide))
  exact hset.reported ((Dev.Reported.refl _).markRisen d _)

theorem Dev.TapStays.fireCell (d : Dev) (p : Perm) (s lvl : Nat) : d.TapStays (d.fireCell p s lvl).2 := by
  have hpending (x : Plinth) : d.TapStays { d with plinth := x } := .of_eq rfl rfl
  unfold Dev.fireCell
  dsimp only
  generalize hd1 : ({ d with plinth := _ } : Dev) = d1
  have h1 : d.TapStays d1 := hd1 ▸ hpending _
  have h2 := Dev.TapStays.ite (lvl ≥ 1 ∧ d.power.aux) (h1.trans (.setFired d1 s)) h1
  generalize (if lvl ≥ 1 ∧ d.power.aux then d1.setFired s else d1) = d2 at h2
  split
  · exact h2.trans (.raiseLevel _ _ _)
  · split
    · exact h2.trans (.raiseLevel _ _ _)
    · exact h2

theorem Dev.TapStays.fire (d : Dev) (p : Perm) (s n reading : Nat) : d.TapStays (d.fire p s n reading).2 := by
  have hplinth (x : Plinth) : d.TapStays { d with plinth := x } := .of_eq rfl rfl
  unfold Dev.fire
  dsimp only
  generalize hd1 : Dev.csAdd _ p 0x01 s _ n reading = d1
  have h1 : d.TapStays d1 := hd1 ▸ ((hplinth _).set R.TM_SRC_FIRINGS _ 0 s (by decide)).csAdd p 0x01 s _ n reading 0
  refine Dev.TapStays.mark ?_ _ _ _ _ _ _ _
  split
  · refine Dev.TapStays.trans ?_ (.raiseLevel _ _ _)
    exact .ite _ (h1.trans (.setFired d1 s)) h1
  · exact h1.trans (.fireCell _ _ _ _)

theorem Dev.TapStays.countEvent (d : Dev) (p : Perm) (s stamp reading : Nat) :
    d.TapStays (d.countEvent p s stamp reading).2 := by
  have hplinth (x : Plinth) : d.TapStays { d with plinth := x } := .of_eq rfl rfl
  unfold Dev.countEvent
  dsimp only
  generalize hd1 : Dev.bumpSat _ R.TM_SRC_EVENTS 0 s = d1
  have h1 : d.TapStays d1 := hd1 ▸ (hplinth _).set R.TM_SRC_EVENTS _ 0 s (by decide)
  split
  · exact h1.trans (.fire _ _ _ _ _)
  · exact h1

/-- No event of a sensor touches the TAP or the count of refusals. -/
theorem Dev.TapStays.sensorEvent (d : Dev) (p : Perm) (s stamp reading : Nat) (level : Bool) :
    d.TapStays (d.sensorEvent p s stamp reading level).2 := by
  have hplinth (x : Plinth) : d.TapStays { d with plinth := x } := .of_eq rfl rfl
  unfold Dev.sensorEvent
  split
  · exact .refl d
  · dsimp only
    have h1 := Dev.TapStays.ite level (hplinth { d.plinth with asserted := d.plinth.asserted ++ [s] }) (.refl d)
    split
    · exact h1.trans (.countEvent _ _ _ _ _)
    · exact h1

/-! ## The TAP (R455, R458) -/

theorem tapSelect_permitted {d : Dev} {p : Perm} {i : TapIns} (stamp : Nat) (h : d.tapPermits p i = true) :
    tapSelect i stamp p d = (p, { d with life := { d.life with tap := i } }) := if_pos h

/-- An instruction that is not permitted selects BYPASS and is counted, whatever response it sets off. -/
theorem tapSelect_refused {d : Dev} {p : Perm} {i : TapIns} (stamp : Nat) (h : d.tapPermits p i = false) :
    (tapSelect i stamp p d).2.life.tap = .bypass ∧
      (tapSelect i stamp p d).2.get R.DBG_REFUSED = min (R.DBG_REFUSED.bound - 1) (d.get R.DBG_REFUSED + 1) := by
  have hrefused : tapSelect i stamp p d = ({ d with life := { d.life with tap := .bypass } } : Dev).debugRefused p stamp :=
    if_neg (by simp [h])
  have hstays := Dev.TapStays.sensorEvent (({ d with life := { d.life with tap := .bypass } } : Dev).bumpSat R.DBG_REFUSED) p 39
    stamp 0 false
  rw [hrefused]
  exact ⟨hstays.tap, hstays.refused.trans (Dev.bumpSat_get_self _ _ _ _ _)⟩

/-! ## Challenges and tokens (R453, R454) -/

theorem Dev.dropChallenge_live (d : Dev) : d.dropChallenge.on R.LC_CHAL_CTL_LIVE = false := by
  rw [Dev.on, Dev.dropChallenge, Dev.get_set_self]
  rfl

/-- The outcome of a token check: the check is over, with its status, and LC_TOKEN is raised. -/
structure Dev.CheckEnds (d : Dev) (st : Status) (e : Dev) : Prop where
  checking : e.life = { d.life with checking := none }
  busy : e.on R.LC_TOKEN_STATUS_BUSY = false
  status : e.get R.LC_TOKEN_STATUS_STATUS = st.code
  int : (e.get (R.INT_RAW .lc)).testBit 4 = true
  work : ({ d with life := e.life }).SameWork e
  kept : ∀ f i, f.Plain → f.blk.apart i → f.Parted R.LC_TOKEN_STATUS_BUSY → f.Parted R.LC_TOKEN_STATUS_STATUS →
    e.get f i = d.get f i

theorem Blk.apart_lc : Blk.lc.apart 0 := Blk.apart_zero (by decide)

theorem Blk.apart_dbg : Blk.dbg.apart 0 := Blk.apart_zero (by decide)

theorem Dev.tokenEnd_ends (d : Dev) (st : Status) : d.CheckEnds st (d.tokenEnd st) := by
  have hraise := (((({ d with life := { d.life with checking := none } } : Dev).set R.LC_TOKEN_STATUS_BUSY 0).set
    R.LC_TOKEN_STATUS_STATUS st.code)).raiseInt_reported .lc 0 4
  have hget (f : Fld) (i : Nat) (hf : f.Plain) (hi : f.blk.apart i) : (d.tokenEnd st).get f i =
      ((d.set R.LC_TOKEN_STATUS_BUSY 0).set R.LC_TOKEN_STATUS_STATUS st.code).get f i := hraise.get_plain hf hi
  refine ⟨hraise.work.life, ?_, ?_, Dev.raiseInt_bit _ Blk.apart_lc (by decide), ?_, fun f i hf hi hbusy hstatus => ?_⟩
  · rw [Dev.on, hget _ _ (by decide) Blk.apart_lc, Dev.get_set_parted _ _ _ _ (by decide), Dev.get_set_self]
    rfl
  · rw [hget _ _ (by decide) Blk.apart_lc, Dev.get_set_self]
    exact st.code_mod
  · have hlife := hraise.work.life
    have hwork := hraise.work
    exact ⟨hwork.sched, hwork.wires, hwork.eng, hwork.keys, hwork.cards, hwork.plinth, hwork.cs, rfl, hwork.gates, hwork.pair,
      hwork.power, hwork.hbm, hwork.free⟩
  · rw [hget _ _ hf hi, Dev.get_set_parted _ _ _ _ ⟨hstatus.1.imp Ne.symm Ne.symm, hstatus.2.2, hstatus.2.1⟩,
      Dev.get_set_parted _ _ _ _ ⟨hbusy.1.imp Ne.symm Ne.symm, hbusy.2.2, hbusy.2.1⟩]

/-- A token check leaves the interrupts of the DBG page. -/
theorem Dev.tokenEnd_latched (d : Dev) (st : Status) : Dev.Latched .dbg 0 d (d.tokenEnd st) := by
  have hfreed : Dev.Latched .dbg 0 d { d with life := { d.life with checking := none } } := .of_get rfl
  exact ((hfreed.set R.LC_TOKEN_STATUS_BUSY _ _ (by decide)).set R.LC_TOKEN_STATUS_STATUS _ _ (by decide)).raiseInt Blk.apart_dbg
    .lc 0 4 (.inr (by decide))

theorem tokenCheckDone_ends {d : Dev} {p : Perm} {c : TokenCheck} {signed : Bool} {st : Status}
    (hc : d.life.checking = some c) (h : d.tokenCheck p c signed = .inl st) : tokenCheckDone signed p d = d.tokenEnd st := by
  simp [tokenCheckDone, hc, h]

theorem tokenCheckDone_stands {d : Dev} {p : Perm} {c : TokenCheck} {signed : Bool} {purpose what : Nat}
    (hc : d.life.checking = some c) (h : d.tokenCheck p c signed = .inr (.stands purpose what)) : tokenCheckDone signed p d =
      (({ d with life := { d.life with standing := some (purpose, what) } } : Dev).set R.LC_TOKEN_STATUS_STANDING 1).tokenEnd
        .ok := by
  simp [tokenCheckDone, hc, h]

theorem tokenCheckDone_debug {d : Dev} {p : Perm} {c : TokenCheck} {signed : Bool} {scope seconds : Nat}
    (hc : d.life.checking = some c) (h : d.tokenCheck p c signed = .inr (.debug scope seconds)) :
    tokenCheckDone signed p d = (d.dbgOpen p scope seconds).tokenEnd .ok := by
  simp [tokenCheckDone, hc, h]

theorem Dev.tokenCheck_absent {d : Dev} {p : Perm} {c : TokenCheck} {signed : Bool} (h : c.live = false) :
    d.tokenCheck p c signed = .inl .challengeAbsent := if_pos (by simp [h])

theorem Dev.tokenCheck_unsigned {d : Dev} {p : Perm} {c : TokenCheck} (h : c.live = true) :
    d.tokenCheck p c false = .inl .authToken := by
  simp [Dev.tokenCheck, h]

/-- A debug token that checks opens at most one day (R454). -/
theorem Dev.tokenCheck_seconds {d : Dev} {p : Perm} {c : TokenCheck} {signed : Bool} {scope seconds : Nat}
    (h : d.tokenCheck p c signed = .inr (.debug scope seconds)) : seconds ≤ 86400 := by
  unfold Dev.tokenCheck at h
  dsimp only at h
  split_ifs at h
  · cases h
  · next hbounds _ _ =>
      cases h
      omega
  · cases h

/-! ## The debug session (R456) -/

theorem Dev.authDone_life (d : Dev) : d.authStart.authDone.life = d.life ∧ d.authStart.authDone.sched = d.sched ∧
    d.authStart.authDone.keys = d.keys := by
  obtain ⟨s, hwork⟩ := d.authStart.authDone_work
  exact ⟨hwork.life, hwork.sched, hwork.keys⟩

/-- The registers of a debug session that is open. -/
def Dev.sessionShown (d : Dev) (scope seconds : Nat) : Dev :=
  (((({ d with life := { d.life with session := some scope } } : Dev).set R.DBG_STATUS_SESSION 1).set R.DBG_STATUS_SCOPE
    scope).set R.DBG_REMAIN seconds).bumpWrap R.DBG_SESSIONS

theorem Dev.sessionShown_session (d : Dev) (scope seconds : Nat) :
    (d.sessionShown scope seconds).get R.DBG_STATUS_SESSION = 1 := by
  unfold Dev.sessionShown
  simp (disch := decide) only [Dev.get_bumpWrap_parted, Dev.get_set_parted, Dev.get_set_self]
  rfl

theorem Dev.sessionShown_remain (d : Dev) (scope seconds : Nat) :
    (d.sessionShown scope seconds).get R.DBG_REMAIN = seconds % 2 ^ 17 := by
  unfold Dev.sessionShown
  simp (disch := decide) only [Dev.get_bumpWrap_parted, Dev.get_set_self]
  rfl

theorem Dev.dbgOpen_eq (d : Dev) (p : Perm) (scope seconds : Nat) : d.dbgOpen p scope seconds =
    ((((if p.lcState = 4 then d.authStart.authDone else d).sessionShown scope seconds).csAdd p 0x0C 0xFF p.level).mark .dbgOpen
      .debug 0 scope seconds).raiseInt .dbg 0 2 := rfl

/-- A Cornerstone record, a record and an interrupt do no more than report. -/
theorem Dev.recorded_reported (d : Dev) (p : Perm) (ev : Event) (a b n : Nat) : ∃ c : CsLog,
    Dev.Reported reportKey { d with cs := c }
      (((d.csAdd p 0x0C 0xFF p.level).mark ev .debug 0 a b).raiseInt .dbg 0 n) := by
  obtain ⟨c, hrep⟩ := d.csAdd_reported p 0x0C 0xFF p.level 0 0 0
  exact ⟨c, (hrep.mark _ _ _ _ _ _ _).trans (Dev.raiseInt_reported _ _ _ _)⟩

/-- What a debug session that opens shows, and what it leaves. -/
structure Dev.Opens (d : Dev) (scope seconds : Nat) (e : Dev) : Prop where
  session : e.on R.DBG_STATUS_SESSION = true
  remain : e.get R.DBG_REMAIN = seconds % 2 ^ 17
  int : (e.get (R.INT_RAW .dbg)).testBit 2 = true
  life : e.life = { d.life with session := some scope }
  sched : e.sched = d.sched
  keys : e.keys = d.keys

theorem Dev.dbgOpen_opens (d : Dev) (p : Perm) (scope seconds : Nat) : d.Opens scope seconds (d.dbgOpen p scope seconds) := by
  rw [Dev.dbgOpen_eq]
  have hstart : ∃ e : Dev, (if p.lcState = 4 then d.authStart.authDone else d) = e ∧ e.life = d.life ∧ e.sched = d.sched ∧
      e.keys = d.keys := by
    split
    · exact ⟨_, rfl, d.authDone_life⟩
    · exact ⟨_, rfl, rfl, rfl, rfl⟩
  obtain ⟨e, he, hlife, hsched, hkeys⟩ := hstart
  rw [he]
  obtain ⟨c, hrep⟩ := (e.sessionShown scope seconds).recorded_reported p .dbgOpen scope seconds 2
  have hget (f : Fld) (hf : f.Plain) (hi : f.blk.apart 0) := hrep.get_plain hf hi
  refine ⟨?_, ?_, Dev.raiseInt_bit _ Blk.apart_dbg (by decide), ?_, hrep.work.sched.trans hsched, hrep.work.keys.trans hkeys⟩
  · rw [Dev.on, hget _ (by decide) Blk.apart_dbg]
    exact congrArg (· == 1) (e.sessionShown_session scope seconds)
  · rw [hget _ (by decide) Blk.apart_dbg]
    exact e.sessionShown_remain scope seconds
  · exact hrep.work.life.trans (congrArg (fun l : Life => { l with session := some scope }) hlife)

/-- A debug session is over: its registers are clear, and LC and CS alone have changed. -/
def Dev.Closes (d e : Dev) : Prop :=
  e.life = { d.life with session := none } ∧ e.on R.DBG_STATUS_SESSION = false ∧ e.get R.DBG_STATUS_SCOPE = 0 ∧
    e.get R.DBG_REMAIN = 0 ∧ (e.get (R.INT_RAW .dbg)).testBit 3 = true ∧ ({ d with life := e.life, cs := e.cs }).SameWork e

theorem Dev.dbgClose_closes {d : Dev} {scope : Nat} (p : Perm) (reason : Nat) (h : d.life.session = some scope) :
    d.Closes (d.dbgClose p reason) := by
  rw [Dev.dbgClose_open p reason h]
  obtain ⟨c, hrep⟩ := d.sessionCleared.recorded_reported p .dbgClose scope reason 3
  have hget (f : Fld) (hf : f.Plain) (hi : f.blk.apart 0) := hrep.get_plain hf hi
  have hwork := hrep.work
  refine ⟨hwork.life, ?_, ?_, ?_, Dev.raiseInt_bit _ Blk.apart_dbg (by decide), ?_⟩
  · rw [Dev.on, hget _ (by decide) Blk.apart_dbg]
    have hclear : d.sessionCleared.get R.DBG_STATUS_SESSION = 0 := by
      unfold Dev.sessionCleared
      simp (disch := decide) only [Dev.get_set_parted, Dev.get_set_self]
      rfl
    exact congrArg (· == 1) hclear
  · rw [hget _ (by decide) Blk.apart_dbg]
    have hclear : d.sessionCleared.get R.DBG_STATUS_SCOPE = 0 := by
      unfold Dev.sessionCleared
      simp (disch := decide) only [Dev.get_set_parted, Dev.get_set_self]
      rfl
    exact hclear
  · rw [hget _ (by decide) Blk.apart_dbg]
    exact Dev.get_set_self _ _ _ _ _
  · exact ⟨hwork.sched, hwork.wires, hwork.eng, hwork.keys, hwork.cards, hwork.plinth, rfl, rfl, hwork.gates, hwork.pair,
      hwork.power, hwork.hbm, hwork.free⟩

theorem tokenSubmit_starts {d : Dev} {v : Nat} (hv : v.testBit 0 = true) (hbusy : d.on R.LC_TOKEN_STATUS_BUSY = false) :
    tokenSubmit v d = ({ d.dropChallenge with life := { d.dropChallenge.life with
      checking := some ⟨d.life.challenge.isSome, d.life.challenge.getD []⟩ } } : Dev).set R.LC_TOKEN_STATUS_BUSY 1 :=
  if_neg (by simp [bitOf, hv, hbusy])

theorem tokenSubmit_dropped {d : Dev} {v : Nat} (h : v.testBit 0 = false ∨ d.on R.LC_TOKEN_STATUS_BUSY = true) :
    tokenSubmit v d = d := if_pos (by simpa [bitOf] using h)

theorem lcChallengeNew_draws {d : Dev} {v : Nat} (req : Requester) (hv : v.testBit 0 = true)
    (hfail : d.on R.RN_STATUS_FAIL = false) : ∃ e, d.Draws e 32 ∧ lcChallengeNew req v d =
      ({ e with life := { e.life with challenge := some (d.freeBytes 32) } } : Dev).set R.LC_CHAL_CTL_LIVE 1 := by
  obtain ⟨e, hdraw, hdraws⟩ := Dev.drbgDraw_draws internalDrbg 32 hfail
  exact ⟨e, hdraws, by simp [lcChallengeNew, bitOf, hv, hdraw]⟩

/-- The instructions that the debug port shifts in for the five commands, and what permits them (R455). -/
theorem tap_commands {s : State} {stamp : Nat} {c : Instr} {i : TapIns} (h : (c, i) ∈ [(Instr.tapIdcode stamp, TapIns.idcode),
    (.tapBypass stamp, .bypass), (.tapSamplePreload stamp, .samplePreload), (.tapExtest stamp, .extest),
    (.tapIntest stamp, .intest)]) : exec c s = s.afterPerm (tapSelect i stamp) ∧
      (s.dev.tapPermits s.perm i = true ↔ i = .idcode ∨ i = .bypass ∨ (s.dev.debugScope s.perm).testBit 6 = true) := by
  simp only [List.mem_cons, Prod.mk.injEq, List.not_mem_nil, or_false] at h
  rcases h with ⟨rfl, rfl⟩ | ⟨rfl, rfl⟩ | ⟨rfl, rfl⟩ | ⟨rfl, rfl⟩ | ⟨rfl, rfl⟩ <;>
    exact ⟨rfl, by simp [Dev.tapPermits, bitOf]⟩

/-! ## The statement -/

/-- Settles O54: tokens and debug sessions end in writes of the LC and the DBG page, and no tamper response that a refused
instruction sets off touches the TAP or the count of refusals. -/
theorem tokensAndTheDebugPort : Obligations.TokensAndTheDebugPort := by
  refine ⟨?new, ?expires, ?lapses, ?submit, ?check, ?closes, ?tap⟩
  case new =>
    intro s req v hv hfail
    obtain ⟨e, hdraws, heq⟩ := lcChallengeNew_draws req hv hfail
    obtain ⟨t, g, rfl⟩ := hdraws.shape
    refine completes_after (f := lcChallengeNew req v.toNat) rfl ⟨rfl, ?_⟩
    rw [heq]
    refine ⟨⟨s.dev.freeBytes 32, by simp [Dev.freeBytes], rfl⟩, ?_, .of_parts _ _ _ _ _⟩
    exact congrArg (· == 1) (Dev.get_set_self _ _ _ _ _)
  case expires => exact fun s => completes_after rfl ⟨rfl, s.dev.dropChallenge_live, rfl, rfl⟩
  case lapses =>
    intro s
    exact completes_after rfl ⟨rfl, congrArg (· == 1) (Dev.get_set_self _ _ _ _ _), rfl, rfl⟩
  case submit =>
    intro s v
    refine ⟨fun hv hbusy => ?_, fun hdrop => completes_after (f := tokenSubmit v.toNat) rfl ⟨rfl, tokenSubmit_dropped hdrop⟩⟩
    refine completes_after (f := tokenSubmit v.toNat) rfl ⟨rfl, ?_⟩
    rw [tokenSubmit_starts hv hbusy]
    refine ⟨congrArg (· == 1) (Dev.get_set_self _ _ _ _ _), ?_, rfl, rfl⟩
    rw [Dev.on, Dev.get_set_parted _ _ _ _ (by decide)]
    exact s.dev.dropChallenge_live
  case check =>
    intro s signed c hc
    have hends (d : Dev) (st : Status) : (d.tokenEnd st).life.checking = none ∧
        (d.tokenEnd st).on R.LC_TOKEN_STATUS_BUSY = false ∧ (d.tokenEnd st).get R.LC_TOKEN_STATUS_STATUS = st.code ∧
        ((d.tokenEnd st).get (R.INT_RAW .lc)).testBit 4 = true := by
      have h := d.tokenEnd_ends st
      exact ⟨by rw [h.checking], h.busy, h.status, h.int⟩
    have hstops {st : Status} (h : s.dev.tokenCheck s.perm c signed = .inl st) {P : Perm → Dev → Prop}
        (hP : P s.perm (s.dev.tokenEnd st)) : Completes (.tokenCheckDone signed) s P :=
      completes_afterWith (f := tokenCheckDone signed) rfl (by rwa [tokenCheckDone_ends hc h])
    refine ⟨fun hlive => ?_, fun hlive hsigned => ?_, fun st hst => ?_, fun purpose what hstands => ?_,
      fun scope seconds hdebug => ?_⟩
    · exact hstops (Dev.tokenCheck_absent hlive) ⟨rfl, hends _ _⟩
    · subst hsigned
      exact hstops (Dev.tokenCheck_unsigned hlive) ⟨rfl, hends _ _⟩
    · have h := s.dev.tokenEnd_ends st
      exact hstops hst ⟨⟨rfl, hends _ _⟩, h.checking, h.work⟩
    · refine completes_afterWith (f := tokenCheckDone signed) rfl ?_
      rw [tokenCheckDone_stands hc hstands]
      have h := (({ s.dev with life := { s.dev.life with standing := some (purpose, what) } } : Dev).set
        R.LC_TOKEN_STATUS_STANDING 1).tokenEnd_ends .ok
      refine ⟨⟨rfl, hends _ _⟩, ?_, h.checking, ?_⟩
      · rw [Dev.on, h.kept _ _ (by decide) Blk.apart_lc (by decide) (by decide)]
        exact congrArg (· == 1) (Dev.get_set_self _ _ _ _ _)
      · exact ⟨h.work.sched, h.work.wires, h.work.eng, h.work.keys, h.work.cards, h.work.plinth, h.work.cs, rfl, h.work.gates,
          h.work.pair, h.work.power, h.work.hbm, h.work.free⟩
    · refine completes_afterWith (f := tokenCheckDone signed) rfl ?_
      rw [tokenCheckDone_debug hc hdebug]
      have hopen := s.dev.dbgOpen_opens s.perm scope seconds
      have h := (s.dev.dbgOpen s.perm scope seconds).tokenEnd_ends .ok
      refine ⟨⟨rfl, hends _ _⟩, ?_, ?_, Dev.tokenEnd_latched _ _ 2 (by decide) hopen.int, ?_, h.work.sched.trans hopen.sched,
        h.work.keys.trans hopen.keys⟩
      · rw [Dev.on, h.kept _ _ (by decide) Blk.apart_dbg (by decide) (by decide)]
        exact hopen.session
      · rw [h.kept _ _ (by decide) Blk.apart_dbg (by decide) (by decide), hopen.remain]
        have hday := Dev.tokenCheck_seconds hdebug
        exact Nat.mod_eq_of_lt (by omega)
      · rw [h.checking, hopen.life]
  case closes =>
    intro s v scope hopen
    have hcloses (c : Instr) (f : Perm → Dev → Dev) (reason : Nat) (hc : exec c s = s.afterWith f)
        (hf : f s.perm s.dev = s.dev.dbgClose s.perm reason) : Completes c s (fun p d => p = s.perm ∧ s.dev.Closes d) :=
      completes_afterWith hc ⟨rfl, hf ▸ Dev.dbgClose_closes s.perm reason hopen⟩
    exact ⟨hcloses _ (fun p d => d.dbgClose p 0) 0 rfl rfl,
      fun hv => hcloses _ (dbgEnd v.toNat) 1 rfl (if_pos hv),
      fun hv => completes_afterWith (f := dbgEnd v.toNat) rfl ⟨rfl, if_neg (by simp [bitOf, hv])⟩⟩
  case tap =>
    intro s stamp c i hci
    obtain ⟨hexec, hpermits⟩ := tap_commands (s := s) hci
    refine ⟨fun h => completes_afterPerm hexec ?_, fun hid hby hbit => completes_afterPerm hexec ?_⟩
    · rw [tapSelect_permitted stamp (hpermits.mpr h)]
      exact ⟨rfl, rfl⟩
    · have hrefused : s.dev.tapPermits s.perm i = false := by
        rw [← Bool.not_eq_true, hpermits]
        simp [hid, hby, hbit]
      exact ⟨(tapSelect_ahead _ _ _ _).level, tapSelect_refused stamp hrefused⟩

end Sys2Proof.Machine

namespace Sys2Proof.Machine

/-! # O58: domains, plans and the supplies

A domain that loses its power or its regulation ends accesses and jobs. Their answers, counts and interrupts may be anyone's,
but none of their registers stands in the page of the supplies, where the domains are shown. -/

/-! ## What the end of a domain's work leaves (R34, R253, R254, R516) -/

/-- A register of the PW page. -/
def supplyKey (key : Nat) : Prop := key / 0x20000000 = 0x010

/-- The pages above the PW page. -/
theorem not_supplyKey_above {f : Fld} (hf : 0x010 < f.blk.basePage) (i k : Nat) : ¬ supplyKey (f.key i k) := by
  have hkey : f.blk.page i * 0x20000000 ≤ f.key i k := by unfold Fld.key; omega
  have hpage : 0x011 ≤ f.blk.page i := by unfold Blk.page; omega
  unfold supplyKey
  omega

/-- The pages of the two Keystones. -/
theorem not_supplyKey_ks {f : Fld} {u : Nat} (hf : f.blk = .ks ∧ f.off < 0x1000 ∧ f.lo < 32) (hu : u < 2) :
    ¬ supplyKey (f.key u 0) := by
  obtain ⟨hblk, ho, hl⟩ := hf
  rw [supplyKey, f.key_page u 0 ho hl (by decide), hblk]
  simp only [Blk.page, Blk.basePage, Blk.stride]
  omega

theorem supplyKey_pw {f : Fld} (hf : f.blk = .pw ∧ f.off < 0x1000 ∧ f.lo < 32) {k : Nat} (hk : k < 0x1000) :
    supplyKey (f.key 0 k) := by
  obtain ⟨hblk, ho, hl⟩ := hf
  rw [supplyKey, f.key_page 0 k ho hl hk, hblk]
  rfl

theorem supplyKey_not_mark {key : Nat} (h : supplyKey key) : ¬ markKey key := by
  unfold supplyKey at h
  unfold markKey
  omega

/-- The key island, the supplies and the registers of the PW page stay. -/
structure Dev.SupplyStays (d e : Dev) : Prop where
  keys : e.keys = d.keys
  power : e.power = d.power
  vals : ∀ key, supplyKey key → Tab.look e.regs.vals key = Tab.look d.regs.vals key

section
variable {a b c : Dev}

theorem Dev.SupplyStays.refl (d : Dev) : d.SupplyStays d := ⟨rfl, rfl, fun _ _ => rfl⟩

theorem Dev.SupplyStays.trans (h : a.SupplyStays b) (g : b.SupplyStays c) : a.SupplyStays c :=
  ⟨g.keys.trans h.keys, g.power.trans h.power, fun key hk => (g.vals key hk).trans (h.vals key hk)⟩

theorem Dev.SupplyStays.of_eq (hk : b.keys = a.keys) (hp : b.power = a.power) (hr : b.regs = a.regs) : a.SupplyStays b :=
  ⟨hk, hp, fun _ _ => by rw [hr]⟩

theorem Dev.SupplyStays.ite (p : Prop) [Decidable p] (h : a.SupplyStays b) (g : a.SupplyStays c) :
    a.SupplyStays (if p then b else c) := by split <;> assumption

theorem Dev.SupplyStays.foldl {α : Type} (l : List α) (f : Dev → α → Dev) (h : ∀ (e : Dev) (x : α), e.SupplyStays (f e x))
    (d : Dev) : d.SupplyStays (l.foldl f d) := by
  induction l generalizing d with
  | nil => exact .refl d
  | cons x l ih => exact (h d x).trans (ih _)

theorem Dev.SupplyStays.set (h : a.SupplyStays b) (f : Fld) (v i k : Nat) (hf : ¬ supplyKey (f.key i k)) :
    a.SupplyStays (b.set f v i k) :=
  h.trans ⟨rfl, rfl, fun key hk => b.look_set f v i k key fun he => hf (he ▸ hk)⟩

/-- A write of a page above. -/
theorem Dev.SupplyStays.setAbove (h : a.SupplyStays b) (f : Fld) (v i k : Nat) (hf : 0x010 < f.blk.basePage) :
    a.SupplyStays (b.set f v i k) := h.set f v i k (not_supplyKey_above hf i k)

theorem Dev.SupplyStays.send (h : a.SupplyStays b) (o : Output) : a.SupplyStays (b.send o) := h.trans (.of_eq rfl rfl rfl)

theorem Dev.SupplyStays.reported {own : Nat → Prop} (h : a.SupplyStays b) (hr : Dev.Reported own b c)
    (hown : ∀ key, own key → ¬ supplyKey key) : a.SupplyStays c :=
  h.trans ⟨hr.work.keys, hr.work.power,
    fun key hk => hr.regs.vals key fun ho => ho.elim (supplyKey_not_mark hk) fun ho => hown key ho hk⟩

theorem Dev.SupplyStays.raiseInt (h : a.SupplyStays b) (k : Blk) (i n : Nat) (hk : ¬ supplyKey ((R.INT_RAW k).key i 0)) :
    a.SupplyStays (b.raiseInt k i n) :=
  h.reported (own := fun key => key = (R.INT_RAW k).key i 0) ((Dev.Reported.refl b).raiseInt _ _ _ (.inr rfl))
    fun _ he => he ▸ hk

theorem Dev.SupplyStays.blockEvent (h : a.SupplyStays b) (k : Blk) (i n : Nat) (hk : ¬ supplyKey ((R.INT_RAW k).key i 0)) :
    a.SupplyStays (b.blockEvent k i n) :=
  h.reported (Dev.blockEvent_reported b k i n) fun _ he => he ▸ hk

theorem Dev.SupplyStays.mark (h : a.SupplyStays b) (ev : Event) (isl : Island) (u p0 p1 p2 p3 : Nat) :
    a.SupplyStays (b.mark ev isl u p0 p1 p2 p3) :=
  h.reported (Dev.mark_reported (fun _ => False) b ev isl u p0 p1 p2 p3) fun _ => False.elim

/-- The answers to what waited at a crossing. -/
theorem Dev.Answers.supplyStays (h : a.Answers b) : a.SupplyStays b :=
  ⟨h.work.keys, h.work.power, fun key hk => h.vals key (supplyKey_not_mark hk) (by
    unfold supplyKey at hk
    unfold networkKey
    omega)⟩

theorem Dev.SupplyStays.get (h : a.SupplyStays b) {f : Fld} (hf : f.blk = .pw ∧ f.off < 0x1000 ∧ f.lo < 32) {k : Nat}
    (hk : k < 0x1000) : b.get f 0 k = a.get f 0 k := Dev.get_congr (h.vals _ (supplyKey_pw hf hk))

/-! ### The end of a job (R239, R248 to R253, R291) -/

theorem Dev.SupplyStays.ringComplete (h : a.SupplyStays b) (owner ring epoch reqId : Nat) (st : Status) (n : Nat)
    (iv : Bytes) : a.SupplyStays (b.ringComplete owner ring epoch reqId st n iv) := by
  have hset (e : Dev) (he : a.SupplyStays e) (f : Fld) (v : Nat) (hf : 0x010 < f.blk.basePage) :
      a.SupplyStays (e.set f v owner ring) := he.setAbove _ _ _ _ hf
  have hcompletes (e : Dev) (he : a.SupplyStays e) (x : HostRing) :
      a.SupplyStays ((e.setHostRing owner ring x).raiseCompletion owner ring) := by
    have hring : a.SupplyStays (e.setHostRing owner ring x) := he.trans (.of_eq rfl rfl rfl)
    unfold Dev.raiseCompletion
    exact .ite _ (hring.raiseInt _ _ _ (not_supplyKey_above (by decide) _ _))
      (hring.raiseInt _ _ _ (not_supplyKey_above (by decide) _ _))
  have hentry := hset (b.send (.ringEntry owner ring (b.get R.HQ_STATUS_CPL_TAIL owner ring) reqId st
    (b.get R.HQ_STATUS_PHASE owner ring) n iv)) (h.send _) R.HQ_STATUS_CPL_TAIL
      ((b.get R.HQ_STATUS_CPL_TAIL owner ring + 1) % 2 ^ b.get R.HQ_CFG_LOG2_SIZE owner ring) (by decide)
  have hrunning := hset _ (.ite (b.get R.HQ_STATUS_CPL_TAIL owner ring + 1 = 2 ^ b.get R.HQ_CFG_LOG2_SIZE owner ring)
    (hset _ hentry R.HQ_STATUS_PHASE (1 - b.get R.HQ_STATUS_PHASE owner ring) (by decide)) hentry) R.HQ_STATUS_RUNNING
      (b2n (b.on R.HQ_CFG_EN owner ring || (b.hostRing owner ring).inflight - 1 ≠ 0)) (by decide)
  unfold Dev.ringComplete
  dsimp only
  exact .ite _ (h.setAbove _ _ _ _ (by decide))
    (.ite _ (hcompletes _ hrunning _) (hrunning.trans (.of_eq rfl rfl rfl)))

theorem Dev.SupplyStays.bulkComplete (h : a.SupplyStays b) (r : BulkRec) {st : Status} (hst : st ≠ .ok) (out : Bytes) :
    a.SupplyStays (b.bulkComplete r st out) := by
  have hsweep (e : Dev) (he : a.SupplyStays e) : a.SupplyStays (e.sweepStream r.stream) := by
    unfold Dev.sweepStream
    split
    · split
      · exact he.trans (.of_eq rfl rfl rfl)
      · exact he
    · exact he
  unfold Dev.bulkComplete
  simp only [hst, if_false]
  split
  case h_1 id src _ =>
    refine hsweep _ ?_
    split
    case h_1 => exact h.setAbove _ _ _ _ (by decide)
    case h_2 x _ =>
      have hsent (n : Nat) : a.SupplyStays { b with face := { b.face with
        sessions := Tab.put b.face.sessions id { x with sent := x.sent + n } } } := h.trans (.of_eq rfl rfl rfl)
      exact ((hsent _).setAbove R.NF_PORT_TX _ _ _ (by decide)).send _
  case h_2 => exact (Dev.SupplyStays.ite _ (h.send _) h).ringComplete _ _ _ _ _ _ _

theorem Dev.SupplyStays.jobToken (h : a.SupplyStays b) (n : Nat) (req : Option Request) (st : Status) :
    a.SupplyStays (b.jobToken n req st) := by
  unfold Dev.jobToken
  exact .ite _ (h.trans (.of_eq rfl rfl rfl)) (h.trans (.of_eq rfl rfl rfl))

theorem Dev.SupplyStays.clearSecret (h : a.SupplyStays b) (j : Job) : a.SupplyStays (b.clearSecret j) := by
  unfold Dev.clearSecret
  split
  · exact h.trans (.of_eq rfl rfl rfl)
  · exact h

/-- A job that fails returns nothing and stores nothing. -/
theorem Dev.SupplyStays.jobDone (h : a.SupplyStays b) (j : Job) {st : Status} (hst : st ≠ .ok) :
    a.SupplyStays (b.jobDone j st) := by
  have hsettle : a.SupplyStays (b.settle j.ctx) := h.trans (.of_eq rfl rfl rfl)
  have hfinish (r : Request) (out : List Tlv) : a.SupplyStays ((b.settle j.ctx).finish j.ctx r st out) :=
    hsettle.trans (.of_eq rfl rfl rfl)
  unfold Dev.jobDone
  simp only [hst, if_false, decide_false, Bool.false_and]
  split
  case h_1 => exact (Dev.SupplyStays.ite _ (h.clearSecret j) h).jobToken _ _ _
  case h_2 =>
    split
    · exact .ite _ (hfinish _ _) hsettle
    · exact h
  case h_3 =>
    split
    · exact .ite _ hsettle (hfinish _ _)
    · exact h
  case h_4 => exact h.bulkComplete _ hst _
  case h_5 =>
    split
    · exact h.trans (.of_eq rfl rfl rfl)
    · exact h
  case h_6 => exact h

/-- No cause to abort a job is ST_OK. -/
theorem Dev.abortCause_ne_ok {d : Dev} {lvl : Nat} {j : Job} {st : Status} (h : d.abortCause lvl j = some st) : st ≠ .ok := by
  unfold Dev.abortCause at h
  split at h
  · split at h <;> cases h <;> decide
  · split at h
    · split at h <;> cases h <;> decide
    · split at h <;> cases h
      decide

/-! ### Losing and wiping units (R230, R249, R253, R295, R516) -/

theorem Dev.SupplyStays.setCore (d : Dev) (n : Nat) (x : Core) : d.SupplyStays (d.setCore n x) := .of_eq rfl rfl rfl

theorem Dev.SupplyStays.setHash (d : Dev) (n : Nat) (x : Core) : d.SupplyStays (d.setHash n x) := .of_eq rfl rfl rfl

theorem Dev.SupplyStays.setEngine (d : Dev) (n : Nat) (x : Core) : d.SupplyStays (d.setEngine n x) := .of_eq rfl rfl rfl

theorem Dev.SupplyStays.loseBank (d : Dev) (n : Nat) (next : Bool) : d.SupplyStays (d.loseBank n next) := by
  unfold Dev.loseBank
  dsimp only
  split
  · exact .refl d
  · exact (setCore d _ _).jobDone _ (by decide)

theorem Dev.SupplyStays.loseHash (d : Dev) (n : Nat) : d.SupplyStays (d.loseHash n) := by
  unfold Dev.loseHash
  split
  · exact (setHash d _ _).jobDone _ (by decide)
  · exact .refl d

theorem Dev.SupplyStays.loseEngine (d : Dev) (n : Nat) : d.SupplyStays (d.loseEngine n) := by
  unfold Dev.loseEngine
  split
  · exact (setEngine d _ _).jobDone _ (by decide)
  · exact .refl d

theorem Dev.SupplyStays.loseDomain (d : Dev) (i : Nat) : d.SupplyStays (d.loseDomain i) := by
  have hcore (e : Dev) (k : Nat) : e.SupplyStays (e.loseCore k) := (loseBank e k false).trans (loseBank _ k true)
  unfold Dev.loseDomain
  exact .ite _ (((foldl _ _ (fun e k => hcore e _) d).trans (loseHash _ _)).trans (loseHash _ _))
    (.ite _ (loseEngine d _) (.refl d))

theorem Dev.SupplyStays.coreRealign (d : Dev) (lvl n : Nat) : d.SupplyStays (d.coreRealign lvl n) := by
  have habort (e : Dev) (next : Bool) (j : Job) {st : Status} (hst : st ≠ .ok) :
      e.SupplyStays (e.coreAborted n next j st) :=
    (((setCore e n _).setAbove R.AS_ABORTS _ _ _ (by decide)).blockEvent _ _ _
      (not_supplyKey_above (by decide) _ _)).jobDone _ hst
  have hone (e : Dev) (next : Bool) : e.SupplyStays
      (match if next then (e.core n).nextJob else (e.core n).curJob with
      | none =>
        if (if next then (e.core n).next else (e.core n).cur).state = 0 ∨ (e.core n).swept then e
        else e.setCore n ((e.core n).release next)
      | some j =>
        match e.abortCause lvl j with
        | some st => e.coreAborted n next j st
        | none => (e.setCore n ((e.core n).release next)).jobDone { j with out := [] } .xingTimeout) := by
    split
    · exact .ite _ (.refl e) (setCore e _ _)
    · split
      next hcause => exact habort _ _ _ (Dev.abortCause_ne_ok hcause)
      next => exact (setCore e _ _).jobDone _ (by decide)
  exact (hone d true).trans (hone _ false)

theorem Dev.SupplyStays.hashRealign (d : Dev) (lvl n : Nat) : d.SupplyStays (d.hashRealign lvl n) := by
  have hidle : d.SupplyStays (d.setHash n Core.idle) := setHash d n _
  unfold Dev.hashRealign
  split
  · exact .ite _ (.refl d) hidle
  · split
    next hcause =>
      exact (hidle.blockEvent _ _ _ (not_supplyKey_above (by decide) _ _)).jobDone _ (Dev.abortCause_ne_ok hcause)
    next => exact hidle.jobDone _ (by decide)

theorem Dev.SupplyStays.engineRealign (d : Dev) (lvl n : Nat) : d.SupplyStays (d.engineRealign lvl n) := by
  have hidle : d.SupplyStays (d.setEngine n Core.idle) := setEngine d n _
  have hcount (e : Dev) (he : d.SupplyStays e) (bay : Nat) : d.SupplyStays (e.countBay bay 7) := by
    unfold Dev.countBay
    exact .ite _ he (he.setAbove _ _ _ _ (by decide))
  have habort (j : Job) : d.SupplyStays (d.engineAborted n j) := by
    have hraised : d.SupplyStays ((((d.setEngine n Core.idle).bumpSat R.VS_ABORTS n).bumpWrap R.VS_JOBS n).raiseInt .vs n 3) :=
      ((hidle.setAbove _ _ _ _ (by decide)).setAbove _ _ _ _ (by decide)).raiseInt
        _ _ _ (not_supplyKey_above (by decide) _ _)
    exact (Dev.SupplyStays.ite _ hraised (hcount _ hraised _)).jobDone _ (by decide)
  unfold Dev.engineRealign
  split
  · exact .ite _ (.refl d) hidle
  · exact .ite _ (habort _) (hidle.jobDone _ (by decide))

theorem Dev.SupplyStays.wipeDomain (d : Dev) (lvl i : Nat) : d.SupplyStays (d.wipeDomain lvl i) := by
  unfold Dev.wipeDomain
  exact .ite _ (((foldl _ _ (fun e k => coreRealign e lvl _) d).trans (hashRealign _ _ _)).trans (hashRealign _ _ _))
    (.ite _ (engineRealign d _ _) (.refl d))

end

/-! ## The status of a domain (R34, R515, R516, R522) -/

/-- A field of PW_DOM_STATUS. -/
abbrev Fld.OfDomain (f : Fld) : Prop := f.blk = .pw ∧ f.off = 0x058 ∧ f.lo < 32

theorem Fld.OfDomain.place {f : Fld} (hf : f.OfDomain) : f.off < 0x1000 ∧ f.lo < 32 :=
  ⟨by rw [hf.2.1]; decide, hf.2.2⟩

/-- A write of another field of the status, or for another domain. -/
theorem Dev.get_set_domain {d : Dev} {f g : Fld} {v i k : Nat} (hf : f.OfDomain) (hg : g.OfDomain)
    (hi : i < 80) (hk : k < 80) (h : f.lo ≠ g.lo ∨ k ≠ i) : (d.set f v 0 i).get g 0 k = d.get g 0 k := by
  refine Dev.get_set_ne _ _ _ _ _ _ _ _ fun he => ?_
  obtain ⟨-, hplace, hik⟩ := Fld.key_inj f g 0 0 i k hf.place hg.place (by omega) (by omega) he
  obtain ⟨⟨-, hfo, -⟩, -, hgo, -⟩ := And.intro hf hg
  unfold Fld.place at hplace
  omega

/-- A report leaves the status of every domain. -/
theorem Dev.Reported.get_domain {d e : Dev} (h : Dev.Reported reportKey d e) {f : Fld} (hf : f.OfDomain) {k : Nat}
    (hk : k < 80) : e.get f 0 k = d.get f 0 k := by
  have hoff : f.off ≠ 0x010 ∧ f.off ≠ 0x024 := by rw [hf.2.1]; decide
  exact h.get f 0 k (supplyKey_not_mark (supplyKey_pw ⟨hf.1, hf.place⟩ (by omega)))
    (reportKey_false f 0 k hoff.1 hoff.2 hf.place.1 hf.place.2 (by omega))

theorem Dev.SupplyStays.get_domain {d e : Dev} (h : d.SupplyStays e) {f : Fld} (hf : f.OfDomain) {k : Nat} (hk : k < 80) :
    e.get f 0 k = d.get f 0 k := h.get ⟨hf.1, hf.place⟩ (by omega)

theorem Blk.apart_pw : Blk.pw.apart 0 := Blk.apart_zero (by decide)

theorem Dev.SupplyStays.raw {d e : Dev} (h : d.SupplyStays e) : e.get (R.INT_RAW .pw) = d.get (R.INT_RAW .pw) :=
  h.get (by decide) (by decide)

/-- A fence sets FENCED, and ends the accesses that wait at the domain's crossings. -/
theorem Dev.fence_stays (d : Dev) (i : Nat) : (d.set R.PW_DOM_STATUS_FENCED 1 0 i).SupplyStays (d.fence i) := by
  refine .foldl _ _ (fun e s => ?_) _
  have hend (x : Dev) (w : Access) : x.Answers ((x.xingMark s.xing .xingFenced).answerLost w .xingTimeout) :=
    (Dev.Answers.xingMark _ _ _ _).trans (.answerLost _ _ _)
  exact (Dev.Answers.setXing e _).supplyStays.trans (.foldl _ _ (fun x w => (hend x w).supplyStays) _)

/-! ### Faults (R516) -/

theorem domainFault_off {d : Dev} {i : Nat} (mv : Nat) (h : d.get R.PW_DOM_STATUS_STATE 0 i ≠ 2) : domainFault i mv d = d :=
  if_pos h

/-- What a fault shows, before the domain is fenced and its work ends. -/
def Dev.domainFaulted (d : Dev) (i mv : Nat) : Dev :=
  (((d.set R.PW_DOM_STATUS_STATE 4 0 i).set R.PW_DOM_STATUS_MV mv 0 i).mark .pwDomainFault .management i i mv).raiseInt .pw 0 3

theorem domainFault_on {d : Dev} {i : Nat} (mv : Nat) (h : d.get R.PW_DOM_STATUS_STATE 0 i = 2) :
    domainFault i mv d = ((d.domainFaulted i mv).fence i).loseDomain i := if_neg (not_not.mpr h)

theorem Dev.domainFaulted_reported (d : Dev) (i mv : Nat) : Dev.Reported reportKey
    ((d.set R.PW_DOM_STATUS_STATE 4 0 i).set R.PW_DOM_STATUS_MV mv 0 i) (d.domainFaulted i mv) :=
  (Dev.mark_reported _ _ _ _ _ _ _ _ _).trans (Dev.raiseInt_reported _ _ _ _)

/-- What a fault leaves (R34, R516). -/
structure Dev.FaultShown (d : Dev) (i mv : Nat) (e : Dev) : Prop where
  state : e.get R.PW_DOM_STATUS_STATE 0 i = 4
  mv : e.get R.PW_DOM_STATUS_MV 0 i = mv % 2 ^ 16
  fenced : e.on R.PW_DOM_STATUS_FENCED 0 i = true
  int : (e.get (R.INT_RAW .pw)).testBit 3 = true
  others : ∀ k < 80, k ≠ i → e.get R.PW_DOM_STATUS_STATE 0 k = d.get R.PW_DOM_STATUS_STATE 0 k
  power : e.power = d.power
  keys : e.keys = d.keys

theorem domainFault_shown {d : Dev} {i : Nat} (mv : Nat) (hi : i < 80) (h : d.get R.PW_DOM_STATUS_STATE 0 i = 2) :
    d.FaultShown i mv (domainFault i mv d) := by
  have hreport := d.domainFaulted_reported i mv
  have hends : ((d.domainFaulted i mv).set R.PW_DOM_STATUS_FENCED 1 0 i).SupplyStays (domainFault i mv d) := by
    rw [domainFault_on mv h]
    exact (Dev.fence_stays _ _).trans (.loseDomain _ _)
  have hget {f : Fld} (hf : f.OfDomain) {k : Nat} (hk : k < 80) (hne : R.PW_DOM_STATUS_FENCED.lo ≠ f.lo) :
      (domainFault i mv d).get f 0 k =
        ((d.set R.PW_DOM_STATUS_STATE 4 0 i).set R.PW_DOM_STATUS_MV mv 0 i).get f 0 k := by
    rw [hends.get_domain hf hk, Dev.get_set_domain (by decide) hf hi hk (.inl hne), hreport.get_domain hf hk]
  have hstate {k : Nat} (hk : k < 80) : (domainFault i mv d).get R.PW_DOM_STATUS_STATE 0 k =
      (d.set R.PW_DOM_STATUS_STATE 4 0 i).get R.PW_DOM_STATUS_STATE 0 k := by
    rw [hget (by decide) hk (by decide), Dev.get_set_domain (by decide) (by decide) hi hk (.inl (by decide))]
  refine ⟨?state, ?mv, ?fenced, ?int, fun k hk hne => ?others, hends.power.trans hreport.work.power,
    hends.keys.trans hreport.work.keys⟩
  case state => rw [hstate hi, Dev.get_set_self]; rfl
  case mv => rw [hget (by decide) hi (by decide), Dev.get_set_self]; rfl
  case fenced => rw [Dev.on, hends.get_domain (by decide) hi, Dev.get_set_self]; rfl
  case int =>
    have hne : R.PW_DOM_STATUS_FENCED.key 0 i ≠ (R.INT_RAW .pw).key 0 0 :=
      Fld.key_ne_of_off _ _ _ _ _ _ (by decide) (by decide) (by decide) (by omega) (by decide) (by decide) (by decide)
    rw [hends.raw, Dev.get_set_ne _ _ _ _ _ _ _ _ hne]
    exact Dev.raiseInt_bit _ Blk.apart_pw (by decide)
  case others => rw [hstate hk, Dev.get_set_domain (by decide) (by decide) hi hk (.inr hne)]

/-! ### Switching on (R515, R517) -/

section
variable {d : Dev} {i : Nat} (req : Requester) (p : Perm) (hindex : d.get R.PW_DOM_INDEX = i)
include hindex

/-- The Quarry PUF and the numbers without a domain are not switched on (R514, log entry 41). -/
theorem powerDomainOn_denied (hi : i = 48 ∨ 80 ≤ i) : powerDomainOn req p d = d.err .pw 0 req .policyDenied := by
  subst hindex
  exact if_pos hi

theorem powerDomainOn_busy (hi : i ≠ 48 ∧ i < 80) (h0 : d.get R.PW_DOM_STATUS_STATE 0 i ≠ 0)
    (h4 : d.get R.PW_DOM_STATUS_STATE 0 i ≠ 4) : powerDomainOn req p d = d := by
  subst hindex
  exact (if_neg (by omega)).trans (if_pos ⟨h0, h4⟩)

theorem powerDomainOn_on (hi : i ≠ 48 ∧ i < 80)
    (h : d.get R.PW_DOM_STATUS_STATE 0 i = 0 ∨ d.get R.PW_DOM_STATUS_STATE 0 i = 4) : powerDomainOn req p d =
      let e := ((d.set R.PW_DOM_STATUS_FENCED 0 0 i).set R.PW_DOM_STATUS_STATE 2 0 i).wipeDomain p.level i
      ({ e with power := { e.power with measuring := true } } : Dev).raiseInt .pw 0 2 := by
  subst hindex
  exact (if_neg (by omega)).trans (if_neg (by omega))

/-- What switching a domain on leaves. -/
theorem powerDomainOn_shown (hi : i ≠ 48 ∧ i < 80)
    (h : d.get R.PW_DOM_STATUS_STATE 0 i = 0 ∨ d.get R.PW_DOM_STATUS_STATE 0 i = 4) :
    let e := powerDomainOn req p d
    e.get R.PW_DOM_STATUS_STATE 0 i = 2 ∧ e.on R.PW_DOM_STATUS_FENCED 0 i = false ∧
      e.power = { d.power with measuring := true } ∧ (e.get (R.INT_RAW .pw)).testBit 2 = true ∧
      ∀ k < 80, k ≠ i → e.get R.PW_DOM_STATUS_STATE 0 k = d.get R.PW_DOM_STATUS_STATE 0 k := by
  rw [powerDomainOn_on req p hindex hi h]
  dsimp only
  have hwipe := Dev.SupplyStays.wipeDomain ((d.set R.PW_DOM_STATUS_FENCED 0 0 i).set R.PW_DOM_STATUS_STATE 2 0 i) p.level i
  generalize ((d.set R.PW_DOM_STATUS_FENCED 0 0 i).set R.PW_DOM_STATUS_STATE 2 0 i).wipeDomain p.level i = e at hwipe
  have hraise := Dev.raiseInt_reported { e with power := { e.power with measuring := true } } .pw 0 2
  have hget {f : Fld} (hf : f.OfDomain) {k : Nat} (hk : k < 80) :
      (({ e with power := { e.power with measuring := true } } : Dev).raiseInt .pw 0 2).get f 0 k =
        ((d.set R.PW_DOM_STATUS_FENCED 0 0 i).set R.PW_DOM_STATUS_STATE 2 0 i).get f 0 k :=
    (hraise.get_domain hf hk).trans (hwipe.get_domain hf hk)
  refine ⟨?state, ?fenced, ?power, Dev.raiseInt_bit _ Blk.apart_pw (by decide), fun k hk hne => ?others⟩
  case state => rw [hget (by decide) hi.2, Dev.get_set_self]; rfl
  case fenced =>
    rw [Dev.on, hget (by decide) hi.2, Dev.get_set_domain (by decide) (by decide) hi.2 hi.2 (.inl (by decide)),
      Dev.get_set_self]
    rfl
  case power => rw [hraise.work.power, hwipe.power]; rfl
  case others =>
    rw [hget (by decide) hk, Dev.get_set_domain (by decide) (by decide) hi.2 hk (.inr hne),
      Dev.get_set_domain (by decide) (by decide) hi.2 hk (.inr hne)]

end

/-! ### Switching off (R83, R254, R295, R484, R514, R515) -/

/-- The images that the module runs have changed: two fields of the key tree's and the engines' pages follow. -/
theorem Dev.imagesChanged_writes (d : Dev) : Dev.WritesFields (fun key => key = R.KT_FLEET_FLOOR_FORMAT_MAX.key 0 0 ∨
    ∃ e, key = R.VS_UCODE_STATUS_STALE.key e 0) d d.imagesChanged :=
  Dev.WritesFields.foldl ((Dev.WritesFields.refl d).set _ _ (.inl rfl)) fun e _ x =>
    (Dev.WritesFields.refl x).set _ _ (.inr ⟨e, rfl⟩)

theorem Dev.WritesFields.supplyStays {own : Nat → Prop} {d e : Dev} (h : Dev.WritesFields own d e)
    (hown : ∀ key, own key → ¬ supplyKey key) : d.SupplyStays e := by
  obtain ⟨t, ht, rfl⟩ := h
  exact ⟨rfl, rfl, fun key hk => ht key fun ho => hown key ho hk⟩

theorem Dev.SupplyStays.imagesChanged {d e : Dev} (h : d.SupplyStays e) : d.SupplyStays e.imagesChanged :=
  h.trans (e.imagesChanged_writes.supplyStays (by
    rintro _ (rfl | ⟨u, rfl⟩)
    · exact not_supplyKey_above (by decide) _ _
    · exact not_supplyKey_above (by decide) _ _))

/-- A field apart from those two. -/
theorem Dev.imagesChanged_get (d : Dev) {f : Fld} {i k : Nat} (ho : f.off ≠ 0x04C ∧ f.off ≠ 0x060 ∧ f.off < 0x1000)
    (hl : f.lo < 32) (hk : k < 0x1000) : d.imagesChanged.get f i k = d.get f i k := by
  refine d.imagesChanged_writes.get ?_
  rintro (he | ⟨u, he⟩)
  · exact Fld.key_ne_of_off _ _ _ _ _ _ ho.1 ho.2.2 hl hk (by decide) (by decide) (by decide) he
  · exact Fld.key_ne_of_off _ _ _ _ _ _ ho.2.1 ho.2.2 hl hk (by decide) (by decide) (by decide) he

/-- What putting a Keystone into a state writes, before its interrupt. -/
def Dev.ksPut (d : Dev) (u st : Nat) : Dev :=
  let d1 := ((d.set R.KS_STATUS_STATE st u).set R.KS_STATUS_CLAIM (claimOf u st) u).set R.KS_MATCHED_S 0 u
  let d2 := if st < 2 then (d1.set R.KS_FW_RELEASE 0 u).set R.KS_FW_PAIR_MIN 0 u else d1
  (if st < 2 ∨ st = 4 then d2.set R.KS_LAG 0 u else d2).showRole

theorem Dev.setKs_reported (d : Dev) (u st : Nat) : Dev.Reported (fun key => key = (R.INT_RAW .ks).key u 0) (d.ksPut u st)
    (d.setKs u st) := .ite _ (.refl _) ((Dev.Reported.refl _).raiseInt _ _ _ (.inr rfl))

/-- A register at another place than the PW page and the STATE of a Keystone. -/
def besideKs (u key : Nat) : Prop := ¬ supplyKey key ∧ key ≠ R.KS_STATUS_STATE.key u 0

/-- Beside STATE, fields of other places of the Keystones' pages are written. -/
theorem Dev.ksPut_writes (d : Dev) {u : Nat} (hu : u < 2) (st : Nat) :
    Dev.WritesFields (besideKs u) (d.set R.KS_STATUS_STATE st u) (d.ksPut u st) := by
  have hset {a b : Dev} (h : Dev.WritesFields (besideKs u) a b) (f : Fld)
      (v : Nat) {w : Nat} (hw : w < 2) (hf : f.blk = .ks ∧ f.off < 0x1000 ∧ f.lo < 32) (hne : f.Parted R.KS_STATUS_STATE) :
      Dev.WritesFields (besideKs u) a (b.set f v w) :=
    h.set f v ⟨not_supplyKey_ks hf hw, hne.key_ne _ _⟩
  have hrole {a b : Dev} (h : Dev.WritesFields (besideKs u) a b) :
      Dev.WritesFields (besideKs u) a b.showRole := by
    unfold Dev.showRole
    split
    · exact hset (hset h _ _ (by decide) (by decide) (by decide)) _ _ (by decide) (by decide) (by decide)
    · exact hset h _ _ (by decide) (by decide) (by decide)
  have hclaim := hset (hset (.refl (d.set R.KS_STATUS_STATE st u)) R.KS_STATUS_CLAIM (claimOf u st) hu (by decide) (by decide))
    R.KS_MATCHED_S 0 hu (by decide) (by decide)
  have hfw := Dev.WritesFields.ite (st < 2) (hset (hset hclaim R.KS_FW_RELEASE 0 hu (by decide) (by decide)) R.KS_FW_PAIR_MIN 0
    hu (by decide) (by decide)) hclaim
  exact hrole (.ite _ (hset hfw _ _ hu (by decide) (by decide)) hfw)

theorem Dev.SupplyStays.setKs (d : Dev) {u : Nat} (hu : u < 2) (st : Nat) : d.SupplyStays (d.setKs u st) := by
  have hput := ((Dev.SupplyStays.refl d).set R.KS_STATUS_STATE st u 0 (not_supplyKey_ks (by decide) hu)).trans
    ((d.ksPut_writes hu st).supplyStays fun _ h => h.1)
  exact hput.reported (d.setKs_reported u st)
    fun _ he => he ▸ not_supplyKey_ks ⟨rfl, show 0x010 < 0x1000 by decide, show 0 < 32 by decide⟩ hu

theorem Blk.apart_ks {u : Nat} (hu : u < 2) : Blk.ks.apart u := by
  simp only [Blk.apart, Blk.page, Blk.basePage, Blk.stride]
  omega

theorem Dev.setKs_state (d : Dev) {u : Nat} (hu : u < 2) (st : Nat) : (d.setKs u st).get R.KS_STATUS_STATE u = st % 16 := by
  rw [((d.setKs_reported u st).mono (more := reportKey) (fun _ he => he ▸ reportKey_raw _ _)).get_plain (by decide)
    (Blk.apart_ks hu), (d.ksPut_writes hu st).get (fun h => h.2 rfl), Dev.get_set_self]
  rfl

theorem Dev.SupplyStays.domainLost (d : Dev) (i : Nat) : d.SupplyStays (d.domainLost i) := by
  have hprogs (t : Tab Image) : d.SupplyStays { d with sched := { d.sched with progs := t } } := .of_eq rfl rfl rfl
  have hengine (e : Nat) : d.SupplyStays (d.clearUcode e) := by
    obtain ⟨v, hclear⟩ := d.clearUcode_eq e
    rw [hclear]
    iterate 6 refine Dev.SupplyStays.setAbove ?_ _ _ _ _ (by decide)
    exact .refl d
  unfold Dev.domainLost
  split
  next hi => exact (setKs d hi 0).imagesChanged
  next =>
    exact .ite _ ((hprogs _).setAbove _ _ _ _ (by decide)).imagesChanged
      (.ite _ (loseDomain d i) (.ite _ (hengine _).imagesChanged (.refl d)))

/-- A Keystone that loses its power is off. -/
theorem Dev.domainLost_keystone (d : Dev) {i : Nat} (hi : i < 2) : (d.domainLost i).get R.KS_STATUS_STATE i = 0 := by
  rw [Dev.domainLost, if_pos hi, Dev.imagesChanged_get _ (by decide) (by decide) (by decide), d.setKs_state hi]

/-- A Corbel group that loses its power loses its program store. -/
theorem Dev.domainLost_group (d : Dev) {i : Nat} (hi : ¬ i < 2 ∧ i < 18) :
    Tab.look (d.domainLost i).sched.progs (i - 2) = none ∧ (d.domainLost i).get R.SC_GROUP_VERSION 0 (i - 2) = 0 := by
  rw [Dev.domainLost, if_neg hi.1, if_pos hi.2]
  dsimp only
  constructor
  · obtain ⟨t, -, heq⟩ := Dev.imagesChanged_writes
      (({ d with sched := { d.sched with progs := Tab.del d.sched.progs (i - 2) } } : Dev).set R.SC_GROUP_VERSION 0 0 (i - 2))
    rw [heq]
    simp
  · rw [Dev.imagesChanged_get _ (by decide) (by decide) (by omega), Dev.get_set_self]
    rfl

/-- A domain that is fenced and without power. -/
def Dev.unpowered (d : Dev) (i : Nat) : Dev := ((d.fence i).set R.PW_DOM_STATUS_STATE 0 0 i).set R.PW_DOM_STATUS_MV 0 0 i

section
variable {d : Dev} {i : Nat} (req : Requester) (hindex : d.get R.PW_DOM_INDEX = i)
include hindex

theorem powerDomainOff_off (hi : i ≠ 48 ∧ i < 80) (h : d.get R.PW_DOM_STATUS_STATE 0 i = 0) : powerDomainOff req d = d := by
  subst hindex
  exact if_pos ⟨hi.1, hi.2, h⟩

theorem powerDomainOff_denied (h : d.get R.PW_DOM_STATUS_STATE 0 i ≠ 0) (hmay : d.mayOff i = false) :
    powerDomainOff req d = d.err .pw 0 req .policyDenied := by
  subst hindex
  exact (if_neg fun hoff => h hoff.2.2).trans (if_pos (by rw [hmay]; rfl))

theorem powerDomainOff_permitted (h : d.get R.PW_DOM_STATUS_STATE 0 i ≠ 0) (hmay : d.mayOff i = true) :
    powerDomainOff req d = ((d.unpowered i).domainLost i).raiseInt .pw 0 2 := by
  subst hindex
  exact (if_neg fun hoff => h hoff.2.2).trans (if_neg (by rw [hmay]; simp))

/-- What switching a domain off leaves. -/
theorem powerDomainOff_shown (hi : i < 80) (h : d.get R.PW_DOM_STATUS_STATE 0 i ≠ 0) (hmay : d.mayOff i = true) :
    let e := powerDomainOff req d
    e.get R.PW_DOM_STATUS_STATE 0 i = 0 ∧ e.get R.PW_DOM_STATUS_MV 0 i = 0 ∧ e.on R.PW_DOM_STATUS_FENCED 0 i = true ∧
      (e.get (R.INT_RAW .pw)).testBit 2 = true ∧
      (∀ k < 80, k ≠ i → e.get R.PW_DOM_STATUS_STATE 0 k = d.get R.PW_DOM_STATUS_STATE 0 k) ∧
      (i < 2 → e.get R.KS_STATUS_STATE i = 0) ∧
      (2 ≤ i → i < 18 → Tab.look e.sched.progs (i - 2) = none ∧ e.get R.SC_GROUP_VERSION 0 (i - 2) = 0) := by
  rw [powerDomainOff_permitted req hindex h hmay]
  dsimp only
  have hlost := Dev.SupplyStays.domainLost (d.unpowered i) i
  have hraise := ((d.unpowered i).domainLost i).raiseInt_reported .pw 0 2
  have hget {f : Fld} (hf : f.OfDomain) {k : Nat} (hk : k < 80) :
      (((d.unpowered i).domainLost i).raiseInt .pw 0 2).get f 0 k = (d.unpowered i).get f 0 k :=
    (hraise.get_domain hf hk).trans (hlost.get_domain hf hk)
  refine ⟨?state, ?mv, ?fenced, Dev.raiseInt_bit _ Blk.apart_pw (by decide), fun k hk hne => ?others, fun hks => ?keystone,
    fun h2 h18 => ?group⟩
  case state =>
    rw [hget (by decide) hi, Dev.unpowered, Dev.get_set_domain (by decide) (by decide) hi hi (.inl (by decide)),
      Dev.get_set_self]
    rfl
  case mv => rw [hget (by decide) hi, Dev.unpowered, Dev.get_set_self]; rfl
  case fenced =>
    rw [Dev.on, hget (by decide) hi, Dev.unpowered, Dev.get_set_domain (by decide) (by decide) hi hi (.inl (by decide)),
      Dev.get_set_domain (by decide) (by decide) hi hi (.inl (by decide)), (d.fence_stays i).get_domain (by decide) hi,
      Dev.get_set_self]
    rfl
  case others =>
    rw [hget (by decide) hk, Dev.unpowered, Dev.get_set_domain (by decide) (by decide) hi hk (.inr hne),
      Dev.get_set_domain (by decide) (by decide) hi hk (.inr hne), (d.fence_stays i).get_domain (by decide) hk,
      Dev.get_set_domain (by decide) (by decide) hi hk (.inr hne)]
  case keystone => rw [hraise.get_plain (by decide) (Blk.apart_ks hks), Dev.domainLost_keystone _ hks]
  case group =>
    obtain ⟨hprogs, hversion⟩ := (d.unpowered i).domainLost_group ⟨by omega, h18⟩
    refine ⟨by rw [hraise.work.sched]; exact hprogs, ?_⟩
    rw [hraise.get _ _ _ (markKey_false _ _ _ (by decide) (by decide) (by decide) (by decide) (by omega))
      (reportKey_false _ _ _ (by decide) (by decide) (by decide) (by decide) (by omega)), hversion]

end

/-! ## Plans (R517 to R519, R524) -/

/-- Two fields at different places, in whichever of their repetitions. -/
theorem Fld.Parted.key_ne_rep {f g : Fld} (h : f.Parted g) {i j k l : Nat} (hk : k < 0x1000) (hl : l < 0x1000) :
    f.key i k ≠ g.key j l := by
  obtain ⟨hne, ⟨hfo, hfl⟩, hgo, hgl⟩ := h
  rcases hne with hoff | hlo
  · exact Fld.key_ne_of_off _ _ _ _ _ _ hoff hfo hfl hk hgo hgl hl
  · exact Fld.key_ne_of_lo hlo hfl hgl hk hl

theorem Dev.get_set_rep {d : Dev} {f g : Fld} {v i j k l : Nat} (h : f.Parted g) (hk : k < 0x1000) (hl : l < 0x1000) :
    (d.set f v i k).get g j l = d.get g j l := Dev.get_set_ne _ _ _ _ _ _ _ _ (h.key_ne_rep hk hl)

/-- The slack that an island's minimum takes (R524). -/
def Dev.leastSlack (d : Dev) (since : Bool) (x : PlanItem) : Nat :=
  let least := d.get R.PL_SLACK_MIN_SLACK 0 x.island
  if since then (if least = 0 then x.slack else min least x.slack) else least

/-- What the PL page shows of an island's measurement and plan. -/
def Dev.planShown (d : Dev) (since : Bool) (x : PlanItem) : Dev :=
  (((((d.set R.PL_SLACK_SLACK x.slack 0 x.island).set R.PL_SLACK_MIN_SLACK (d.leastSlack since x) 0 x.island).set R.PL_PLAN_MV
    (max 620 (min 720 x.mv)) 0 x.island).set R.PL_PLAN_MHZ (islandMhz x.island x.mhz) 0 x.island).set R.PL_MARGIN x.margin 0
      x.island).set R.PL_LAST d.plinth.seconds 0 x.island

/-- The clock of Ashlar follows its plan (R519, R523). -/
def Dev.planClock (d : Dev) (x : PlanItem) : Dev :=
  if x.island = 4 then
    (d.set R.CK_DOM_FREQ (islandMhz 4 x.mhz * 1000) 0 4).set R.CK_DOM_TARGET (islandMhz 4 x.mhz * 1000) 0 4
  else d

/-- The report of a slack below the guard band. -/
def Dev.planGuard (d : Dev) (below : Bool) (x : PlanItem) : Dev :=
  if below then (d.raiseInt .pl 0 5).mark .plumbFloor .management x.island x.island x.slack (max 620 (min 720 x.mv)) else d

/-- The report of a margin that is used up. -/
def Dev.planMargin (d : Dev) (x : PlanItem) : Dev := if x.margin < 15 then d.raiseInt .pl 0 4 else d

theorem Dev.planIsland_eq (d : Dev) (since : Bool) (x : PlanItem) : d.planIsland since x =
    (((d.planShown since x).planClock x).planGuard (decide (x.slack < 10 * d.get R.PL_CTL_GUARD_PCT)) x).planMargin x := by
  unfold Dev.planGuard
  simp only [decide_eq_true_eq]
  rfl

/-- The record of a plan that changes something, and its interrupt (R518). -/
def Dev.planRecord (d : Dev) (mask : Nat) : Dev :=
  if mask = 0 then d else (d.mark .plumbPlan .management 0 mask (d.get R.PL_PLAN_MHZ 0 4)).raiseInt .pl 0 3

theorem Blk.apart_pl : Blk.pl.apart 0 := Blk.apart_zero (by decide)

theorem Dev.planGuard_reported (d : Dev) (below : Bool) (x : PlanItem) : Dev.Reported reportKey d (d.planGuard below x) :=
  .ite _ ((d.raiseInt_reported .pl 0 5).trans (Dev.mark_reported _ _ _ _ _ _ _ _ _)) (.refl d)

theorem Dev.planMargin_reported (d : Dev) (x : PlanItem) : Dev.Reported reportKey d (d.planMargin x) :=
  .ite _ (d.raiseInt_reported .pl 0 4) (.refl d)

theorem Dev.planIsland_reported (d : Dev) (since : Bool) (x : PlanItem) :
    Dev.Reported reportKey ((d.planShown since x).planClock x) (d.planIsland since x) := by
  rw [d.planIsland_eq]
  exact (Dev.planGuard_reported _ _ _).trans (Dev.planMargin_reported _ _)

/-- A slack below the guard band raises FLOOR, a margin that is used up raises MARGIN. -/
theorem Dev.planIsland_bits (d : Dev) (since : Bool) (x : PlanItem) :
    (x.slack < 10 * d.get R.PL_CTL_GUARD_PCT → ((d.planIsland since x).get (R.INT_RAW .pl)).testBit 5 = true) ∧
      (x.margin < 15 → ((d.planIsland since x).get (R.INT_RAW .pl)).testBit 4 = true) := by
  have hmargin (e : Dev) : Dev.Latched .pl 0 e (e.planMargin x) := by
    unfold Dev.planMargin
    split
    · exact (Dev.Latched.of_get rfl).raiseInt Blk.apart_pl .pl 0 4 (.inl ⟨rfl, rfl⟩)
    · exact .of_get rfl
  rw [d.planIsland_eq]
  refine ⟨fun h => hmargin _ 5 (by decide) ?_, fun h => ?_⟩
  · rw [Dev.planGuard, if_pos (decide_eq_true h), Dev.mark_get _ _ _ _ _ _ _ _ Blk.apart_pl (by decide)]
    exact Dev.raiseInt_bit _ Blk.apart_pl (by decide)
  · rw [Dev.planMargin, if_pos h]
    exact Dev.raiseInt_bit _ Blk.apart_pl (by decide)

/-- A plan of one island: its measurement, the interrupt of a plan that ends, and the reports of what it changes. -/
theorem Dev.plan_single (d : Dev) (since : Bool) {x : PlanItem} (hx : x.island < 16) : ∃ (moved : Bool) (mask : Nat),
    d.plan since [x] = Dev.planRecord (if moved then ((d.planIsland since x).raiseInt .pl 0 2).raiseInt .pw 0 21
      else (d.planIsland since x).raiseInt .pl 0 2) mask := by
  refine ⟨decide (((d.planIsland since x).raiseInt .pl 0 2).get R.PL_PLAN_MHZ 0 4 ≠ d.get R.PL_PLAN_MHZ 0 4),
    ((d.planIsland since x).raiseInt .pl 0 2).planChanges d, ?_⟩
  simp only [Dev.plan, List.filter_cons, List.filter_nil, hx, decide_true, if_true, List.foldl_cons, List.foldl_nil,
    decide_eq_true_eq]
  rfl

theorem Dev.planRecord_reported (d : Dev) (mask : Nat) : Dev.Reported reportKey d (d.planRecord mask) :=
  .ite _ (.refl d) ((Dev.mark_reported _ _ _ _ _ _ _ _ _).trans (Dev.raiseInt_reported _ _ _ _))

theorem Dev.planRecord_latched (d : Dev) (mask : Nat) : Dev.Latched .pl 0 d (d.planRecord mask) := by
  unfold Dev.planRecord
  split
  · exact .of_get rfl
  · exact ((Dev.Latched.of_get rfl).mark Blk.apart_pl _ _ _ _ _ _ _).raiseInt Blk.apart_pl .pl 0 3 (.inl ⟨rfl, rfl⟩)

/-- What a plan of one island leaves: a report, in which the island's own interrupts stay and the end of the plan is raised. -/
theorem Dev.plan_ends (d : Dev) (since : Bool) {x : PlanItem} (hx : x.island < 16) :
    Dev.Reported reportKey (d.planIsland since x) (d.plan since [x]) ∧
      Dev.Latched .pl 0 ((d.planIsland since x).raiseInt .pl 0 2) (d.plan since [x]) := by
  obtain ⟨moved, mask, heq⟩ := d.plan_single since hx
  rw [heq]
  cases moved with
  | false =>
    exact ⟨(Dev.raiseInt_reported _ _ _ _).trans (Dev.planRecord_reported _ _), Dev.planRecord_latched _ _⟩
  | true =>
    exact ⟨((Dev.raiseInt_reported _ _ _ _).trans (Dev.raiseInt_reported _ _ _ _)).trans (Dev.planRecord_reported _ _),
      ((Dev.Latched.of_get rfl).raiseInt Blk.apart_pl .pw 0 21 (.inr (by decide))).trans (Dev.planRecord_latched _ _)⟩

/-- The fields that a measurement and its plan write for an island. -/
abbrev Fld.OfPlan (f : Fld) : Prop :=
  f.blk = .pl ∧ f.Plain ∧ R.PL_CTL_MEASURE.Parted f ∧ R.CK_DOM_FREQ.Parted f ∧ R.CK_DOM_TARGET.Parted f

theorem Dev.planClock_get (d : Dev) (x : PlanItem) {f : Fld} (hf : f.OfPlan) {k : Nat} (hk : k < 0x1000) :
    (d.planClock x).get f 0 k = d.get f 0 k := by
  obtain ⟨-, -, -, hfreq, htarget⟩ := hf
  unfold Dev.planClock
  split
  · rw [Dev.get_set_rep htarget (by decide) hk, Dev.get_set_rep hfreq (by decide) hk]
  · rfl

theorem Dev.planClock_work (d : Dev) (x : PlanItem) : d.SameWork (d.planClock x) :=
  .ite _ ((Dev.SameWork.refl d).set _ _ _ _ |>.set _ _ _ _) (.refl d)

/-- What each field shows. -/
theorem Dev.planShown_get (d : Dev) (since : Bool) {x : PlanItem} (hx : x.island < 0x1000) :
    let e := d.planShown since x
    e.get R.PL_SLACK_SLACK 0 x.island = x.slack % 2 ^ 16 ∧ e.get R.PL_PLAN_MV 0 x.island = max 620 (min 720 x.mv) ∧
      e.get R.PL_PLAN_MHZ 0 x.island = islandMhz x.island x.mhz % 2 ^ 16 ∧
      e.get R.PL_MARGIN 0 x.island = x.margin % 2 ^ 32 ∧ e.get R.PL_LAST 0 x.island = d.plinth.seconds % 2 ^ 32 := by
  have hmv : max 620 (min 720 x.mv) < 2 ^ 16 := by omega
  unfold Dev.planShown
  dsimp only
  refine ⟨?slack, ?mv, ?mhz, ?margin, Dev.get_set_self _ _ _ _ _⟩
  case slack => simp +decide only [Dev.get_set_rep, hx, Dev.get_set_self]; rfl
  case mv =>
    simp +decide only [Dev.get_set_rep, hx, Dev.get_set_self]
    exact Nat.mod_eq_of_lt hmv
  case mhz => simp +decide only [Dev.get_set_rep, hx, Dev.get_set_self]; rfl
  case margin => simp +decide only [Dev.get_set_rep, hx, Dev.get_set_self]; rfl

/-- The voltages of the other islands stay. -/
theorem Dev.planShown_others (d : Dev) (since : Bool) {x : PlanItem} {k : Nat} (hx : x.island < 0x1000) (hk : k < 0x1000)
    (hne : k ≠ x.island) : (d.planShown since x).get R.PL_PLAN_MV 0 k = d.get R.PL_PLAN_MV 0 k := by
  have hkey : R.PL_PLAN_MV.key 0 x.island ≠ R.PL_PLAN_MV.key 0 k := by unfold Fld.key; omega
  unfold Dev.planShown
  simp +decide only [Dev.get_set_rep, hx, hk, Dev.get_set_ne _ _ _ _ _ _ _ _ hkey]

theorem Dev.planShown_work (d : Dev) (since : Bool) (x : PlanItem) : d.SameWork (d.planShown since x) := .of_regs rfl

theorem Dev.controller_isSome {d : Dev} (h : ∃ u < 2, d.get R.KS_STATUS_STATE u = 4) : d.controller.isSome = true := by
  obtain ⟨u, hu, hstate⟩ := h
  exact List.find?_isSome.mpr ⟨u, List.mem_range.mpr hu, beq_iff_eq.mpr hstate⟩

theorem plumbPlan_taken {d : Dev} {p : Perm} (l : List PlanItem) (hrun : d.power.stage = .running)
    (hmeasuring : d.power.measuring = true) (hcontrol : ∃ u < 2, d.get R.KS_STATUS_STATE u = 4) : plumbPlan l p d =
      (({ d with power := { d.power with measuring := false } } : Dev).plan (decide (p.lcState ≥ 3)) l).set
        R.PL_CTL_MEASURE 0 :=
  if_pos ⟨hrun, hmeasuring, Dev.controller_isSome hcontrol⟩

/-- What taking in the plan of one island leaves of a block whose measurement has ended. -/
structure Dev.PlanTaken (d : Dev) (x : PlanItem) (e : Dev) : Prop where
  idle : e.on R.PL_CTL_MEASURE = false
  ended : (e.get (R.INT_RAW .pl)).testBit 2 = true
  slack : e.get R.PL_SLACK_SLACK 0 x.island = x.slack % 2 ^ 16
  mv : e.get R.PL_PLAN_MV 0 x.island = max 620 (min 720 x.mv)
  margin : e.get R.PL_MARGIN 0 x.island = x.margin % 2 ^ 32
  last : e.get R.PL_LAST 0 x.island = d.plinth.seconds % 2 ^ 32
  mhz : e.get R.PL_PLAN_MHZ 0 x.island = islandMhz x.island x.mhz % 2 ^ 16
  guard : x.slack < 10 * d.get R.PL_CTL_GUARD_PCT → (e.get (R.INT_RAW .pl)).testBit 5 = true
  low : x.margin < 15 → (e.get (R.INT_RAW .pl)).testBit 4 = true
  others : ∀ k < 16, k ≠ x.island → e.get R.PL_PLAN_MV 0 k = d.get R.PL_PLAN_MV 0 k
  work : d.SameWork e

theorem Dev.plan_taken (d : Dev) (since : Bool) {x : PlanItem} (hx : x.island < 16) :
    d.PlanTaken x ((d.plan since [x]).set R.PL_CTL_MEASURE 0) := by
  obtain ⟨hreport, hlatched⟩ := d.plan_ends since hx
  obtain ⟨hslack, hmv, hmhz, hmargin, hlast⟩ := d.planShown_get since (x := x) (by omega)
  obtain ⟨hguard, hlow⟩ := d.planIsland_bits since x
  have hshown := (d.planIsland_reported since x).trans hreport
  have hget {f : Fld} (hf : f.OfPlan) {k : Nat} (hk : k < 16) :
      ((d.plan since [x]).set R.PL_CTL_MEASURE 0).get f 0 k = (d.planShown since x).get f 0 k := by
    obtain ⟨hblk, ⟨hraw, herr, ho, hl⟩, hmeasure, -⟩ := And.intro hf.1 hf.2
    have hpage : f.blk.page 0 ≠ 0x040 ∧ f.blk.page 0 ≠ 0x042 := by rw [hblk]; decide
    rw [Dev.get_set_rep hmeasure (by decide) (by omega),
      hshown.get f 0 k (markKey_false f 0 k hpage.1 hpage.2 ho hl (by omega))
        (reportKey_false f 0 k hraw herr ho hl (by omega)),
      Dev.planClock_get _ _ hf (by omega)]
  have hbit {n : Nat} (hn : n < 32) (h : (((d.planIsland since x).raiseInt .pl 0 2).get (R.INT_RAW .pl)).testBit n = true) :
      (((d.plan since [x]).set R.PL_CTL_MEASURE 0).get (R.INT_RAW .pl)).testBit n = true :=
    hlatched.set R.PL_CTL_MEASURE 0 0 (by decide) n hn h
  have hkept {n : Nat} (hn : n < 32) (h : ((d.planIsland since x).get (R.INT_RAW .pl)).testBit n = true) :=
    hbit hn (Dev.raiseInt_bit_mono 2 Blk.apart_pl hn h)
  refine ⟨?idle, hbit (by decide) (Dev.raiseInt_bit _ Blk.apart_pl (by decide)), (hget (by decide) hx).trans hslack,
    (hget (by decide) hx).trans hmv, (hget (by decide) hx).trans hmargin, (hget (by decide) hx).trans hlast,
    (hget (by decide) hx).trans hmhz, fun h => hkept (by decide) (hguard h), fun h => hkept (by decide) (hlow h),
    fun k hk hne => ?others, ?work⟩
  case idle => rw [Dev.on, Dev.get_set_self]; rfl
  case others => rw [hget (by decide) hk, d.planShown_others since (by omega) (by omega) hne]
  case work => exact (((d.planShown_work since x).trans (Dev.planClock_work _ x)).trans hshown.work).set _ _ _ _

/-! ## The measurement of the supplies (R504, R505, R522, R556) -/

/-- The readings that a measurement shows. -/
def Dev.supplyShown (d : Dev) (main aux iin power ballast : Nat) : Dev :=
  ((((d.set R.PW_SUPPLY_MAIN_MV main).set R.PW_SUPPLY_AUX_MV aux).set R.PW_INPUT_IIN iin).set R.PW_INPUT_POWER power).set
    R.PW_BALLAST ballast

/-- VIN_MAIN back above 11.4 V ends a dip (log entry 41). -/
def Dev.dipEnded (d : Dev) (main : Nat) : Dev :=
  { d with power := { d.power with dip := d.power.dip && decide (main ≤ 11400) } }

theorem supplyMeasurement_eq {d : Dev} (main aux iin power ballast : Nat) (h : d.power.main = true ∨ d.power.aux = true) :
    supplyMeasurement main aux iin power ballast d =
      ((((d.supplyShown main aux iin power ballast).dipEnded main).pwWhile
        ((10800 ≤ main && main < 11400) || main > 12600) 4).pwWhile ((2970 ≤ aux && aux < 3140) || aux > 3470) 5).pwWhile
          (decide (power > 3400)) 11 := by
  have hdip (e : Dev) : (if main > 11400 then { e with power := { e.power with dip := false } } else e) = e.dipEnded main := by
    unfold Dev.dipEnded
    split
    next hm => rw [decide_eq_false (by omega), Bool.and_false]
    next hm => rw [decide_eq_true (by omega), Bool.and_true]
  have hon : ¬ ((!d.power.main) = true ∧ (!d.power.aux) = true) := by rcases h with h | h <;> simp [h]
  rw [supplyMeasurement, if_neg hon]
  dsimp only
  rw [hdip]
  rfl

theorem Dev.pwWhile_reported (d : Dev) (c : Bool) (bit : Nat) : Dev.Reported reportKey d (d.pwWhile c bit) :=
  .ite _ (d.raiseInt_reported .pw 0 bit) (.refl d)

theorem Dev.pwWhile_latched (d : Dev) (c : Bool) (bit : Nat) : Dev.Latched .pw 0 d (d.pwWhile c bit) := by
  unfold Dev.pwWhile
  split
  · exact (Dev.Latched.of_get rfl).raiseInt Blk.apart_pw .pw 0 bit (.inl ⟨rfl, rfl⟩)
  · exact .of_get rfl

theorem Dev.pwWhile_bit (d : Dev) {c : Bool} {bit : Nat} (hc : c = true) (hbit : bit < 32) :
    ((d.pwWhile c bit).get (R.INT_RAW .pw)).testBit bit = true := by
  rw [Dev.pwWhile, if_pos hc]
  exact Dev.raiseInt_bit _ Blk.apart_pw hbit

theorem Dev.supplyShown_get (d : Dev) (main aux iin power ballast : Nat) :
    let e := d.supplyShown main aux iin power ballast
    e.get R.PW_SUPPLY_MAIN_MV = main % 2 ^ 16 ∧ e.get R.PW_SUPPLY_AUX_MV = aux % 2 ^ 16 ∧
      e.get R.PW_INPUT_IIN = iin % 2 ^ 16 ∧ e.get R.PW_INPUT_POWER = power % 2 ^ 16 ∧
      e.get R.PW_BALLAST = ballast % 2 ^ 32 := by
  unfold Dev.supplyShown
  simp (disch := decide) only [Dev.get_set_parted, Dev.get_set_self]
  exact ⟨rfl, rfl, rfl, rfl, rfl⟩

/-- What a measurement of the supplies leaves. -/
theorem supplyMeasurement_shown {d : Dev} (main aux iin power ballast : Nat) (h : d.power.main = true ∨ d.power.aux = true) :
    let e := supplyMeasurement main aux iin power ballast d
    e.get R.PW_SUPPLY_MAIN_MV = main % 2 ^ 16 ∧ e.get R.PW_SUPPLY_AUX_MV = aux % 2 ^ 16 ∧
      e.get R.PW_INPUT_IIN = iin % 2 ^ 16 ∧ e.get R.PW_INPUT_POWER = power % 2 ^ 16 ∧
      e.get R.PW_BALLAST = ballast % 2 ^ 32 ∧
      e.power = { d.power with dip := d.power.dip && decide (main ≤ 11400) } ∧
      ((10800 ≤ main ∧ main < 11400 ∨ 12600 < main) → (e.get (R.INT_RAW .pw)).testBit 4 = true) ∧
      ((2970 ≤ aux ∧ aux < 3140 ∨ 3470 < aux) → (e.get (R.INT_RAW .pw)).testBit 5 = true) ∧
      (3400 < power → (e.get (R.INT_RAW .pw)).testBit 11 = true) ∧ ({ d with power := e.power }).SameWork e := by
  rw [supplyMeasurement_eq main aux iin power ballast h]
  dsimp only
  obtain ⟨hmain, haux, hiin, hpower, hballast⟩ := d.supplyShown_get main aux iin power ballast
  have hreport (a b c : Bool) : Dev.Reported reportKey ((d.supplyShown main aux iin power ballast).dipEnded main)
      (((((d.supplyShown main aux iin power ballast).dipEnded main).pwWhile a 4).pwWhile b 5).pwWhile c 11) :=
    ((Dev.pwWhile_reported _ _ _).trans (Dev.pwWhile_reported _ _ _)).trans (Dev.pwWhile_reported _ _ _)
  have hget {f : Fld} (hf : f.blk = .pw ∧ f.Plain) (a b c : Bool) :
      (((((d.supplyShown main aux iin power ballast).dipEnded main).pwWhile a 4).pwWhile b 5).pwWhile c 11).get f =
        (d.supplyShown main aux iin power ballast).get f :=
    (hreport a b c).get_plain hf.2 (by rw [hf.1]; exact Blk.apart_pw)
  refine ⟨(hget (by decide) _ _ _).trans hmain, (hget (by decide) _ _ _).trans haux, (hget (by decide) _ _ _).trans hiin,
    (hget (by decide) _ _ _).trans hpower, (hget (by decide) _ _ _).trans hballast, (hreport _ _ _).work.power,
    fun hin => ?main, fun hin => ?aux, fun hin => Dev.pwWhile_bit _ (decide_eq_true hin) (by decide), ?work⟩
  case main =>
    refine Dev.pwWhile_latched _ _ 11 4 (by decide) (Dev.pwWhile_latched _ _ 5 4 (by decide) (Dev.pwWhile_bit _ ?_ (by decide)))
    simpa using hin
  case aux =>
    refine Dev.pwWhile_latched _ _ 11 5 (by decide) (Dev.pwWhile_bit _ ?_ (by decide))
    simpa using hin
  case work =>
    have hwork := (hreport ((10800 ≤ main && main < 11400) || main > 12600) ((2970 ≤ aux && aux < 3140) || aux > 3470)
      (decide (power > 3400))).work
    exact ⟨hwork.sched, hwork.wires, hwork.eng, hwork.keys, hwork.cards, hwork.plinth, hwork.cs, hwork.life, hwork.gates,
      hwork.pair, rfl, hwork.hbm, hwork.free⟩

/-! ## The management SMBus (R559) -/

theorem smbusBlockRead_dead {d : Dev} {cmd addr : Nat} {p : Perm} (h : (d.power.main || d.power.aux) = false ∨ cmd ≠ 1) :
    smbusBlockRead cmd addr p d = d := if_pos (h.imp_left (by simp))

theorem smbusBlockRead_reads {d : Dev} {addr : Nat} {p : Perm} (h : (d.power.main || d.power.aux) = true) :
    smbusBlockRead 1 addr p d = if smbusReads addr then
        (d.readAt p addr).2.send (.smbus (leBytes 4 (d.readAt p addr).1))
      else d.send (.smbus [0, 0, 0, 0]) := by
  refine if_neg (not_or.mpr ⟨?_, not_not.mpr rfl⟩)
  rcases (Bool.or_eq_true _ _).mp h with hon | hon <;> simp [hon]

/-! ## The statement -/

/-- Settles O58: a domain's crossings, jobs and images leave the PW page as the switch or the fault wrote it, and a plan and a
supply measurement are chains of writes under their reports. -/
theorem domainsPlansAndSupplies : Obligations.DomainsPlansAndSupplies := by
  refine ⟨?switch, ?fault, ?measure, ?plan, ?supply, ?reads, ?dead, ?alert⟩
  case switch =>
    intro s req i refused
    have hrefused : refused s.perm (s.dev.err .pw 0 req .policyDenied) :=
      ⟨rfl, Dev.err_code _ _ _ Blk.apart_pw, Dev.err_reported _ _ _ _ _⟩
    have hon {P : Perm → Dev → Prop} (h : P s.perm (powerDomainOn req s.perm s.dev)) : Completes (.powerDomainOn req) s P :=
      completes_afterWith (f := powerDomainOn req) rfl h
    have hoff {P : Perm → Dev → Prop} (h : P s.perm (powerDomainOff req s.dev)) : Completes (.powerDomainOff req) s P :=
      completes_after (f := powerDomainOff req) rfl h
    refine ⟨fun hi => hon ?_, fun h48 hi h0 h4 => hon ?_, fun h48 hi h => hon ?_, fun h48 hi h0 => hoff ?_,
      fun hi h hmay => hoff ?_, fun hi h hmay => hoff ?_⟩
    · rwa [powerDomainOn_denied req s.perm rfl hi]
    · exact ⟨rfl, powerDomainOn_busy req s.perm rfl ⟨h48, hi⟩ h0 h4⟩
    · exact ⟨rfl, powerDomainOn_shown req s.perm rfl ⟨h48, hi⟩ h⟩
    · exact ⟨rfl, powerDomainOff_off req rfl ⟨h48, hi⟩ h0⟩
    · rwa [powerDomainOff_denied req rfl h hmay]
    · exact ⟨rfl, powerDomainOff_shown req rfl hi h hmay⟩
  case fault =>
    intro s i mv
    refine ⟨fun h => completes_after (f := domainFault i mv) rfl ⟨rfl, ?_⟩,
      fun h => completes_after (f := domainFault i mv) rfl ⟨rfl, domainFault_off mv h⟩⟩
    obtain ⟨hstate, hmv, hfenced, hint, hothers, hpower, hkeys⟩ := domainFault_shown mv i.isLt h
    exact ⟨hstate, hmv, hfenced, hint, hothers, hpower, congrArg Keys.objs hkeys⟩
  case measure =>
    intro s hrun
    have hmeasure : plumbMeasure s.dev =
        { s.dev.set R.PL_CTL_MEASURE 1 with power := { s.dev.power with measuring := true } } :=
      (if_pos hrun).trans (if_pos hrun)
    refine ⟨completes_after (f := plumbMeasure) rfl ⟨rfl, ?_, hmeasure⟩,
      completes_after (f := Dev.measure) rfl ⟨rfl, if_pos hrun⟩⟩
    rw [hmeasure]
    exact congrArg (· == 1) (Dev.get_set_self s.dev R.PL_CTL_MEASURE 1 0 0)
  case plan =>
    intro s x hrun hmeasuring hcontrol hx
    refine completes_afterWith (f := plumbPlan [x]) rfl ⟨rfl, ?_⟩
    rw [plumbPlan_taken [x] hrun hmeasuring hcontrol]
    have h := Dev.plan_taken { s.dev with power := { s.dev.power with measuring := false } } (decide (s.perm.lcState ≥ 3)) hx
    have hashlar (h4 : x.island = 4) : islandMhz x.island x.mhz % 2 ^ 16 = max 1800 (min 1900 x.mhz) := by
      rw [islandMhz, if_pos h4]
      omega
    refine ⟨h.work.power, h.idle, h.ended, h.slack, h.mv, h.margin, h.last, fun h4 => h4 ▸ h.mhz.trans (hashlar h4),
      h.guard, h.low, h.others, ?_⟩
    rw [h.work.power]
    exact h.work
  case supply =>
    intro s main aux iin power ballast hpresent
    exact completes_after (f := supplyMeasurement main aux iin power ballast) rfl
      ⟨rfl, supplyMeasurement_shown main aux iin power ballast hpresent⟩
  case reads =>
    intro s addr h
    exact completes_afterWith (f := smbusBlockRead 1 addr.toNat) rfl ⟨rfl, smbusBlockRead_reads h⟩
  case dead =>
    intro s cmd addr h
    refine completes_afterWith (f := smbusBlockRead cmd.toNat addr.toNat) rfl ⟨rfl, smbusBlockRead_dead ?_⟩
    exact h.imp_right fun hne he => hne (BitVec.eq_of_toNat_eq he)
  case alert =>
    intro s
    exact completes_afterWith (f := smbusAlertResponse) rfl ⟨rfl, rfl⟩

end Sys2Proof.Machine

namespace Sys2Proof.Machine

/-! # O33: a Voussoir engine's job whose new key finds no room

The end of a KEY_PAIR_GENERATION stores its new key, and a session key that its bay's cache has no room for is counted among
the refusals of the bay (R197, R278, R291). The bay of a job is any natural number (see "Bays beyond the 256 of the module"
above), so that count can stand in the register in which the engine counts the job. -/

/-- Engine 0 runs the job, and its bay's cache has no room for the new key. -/
def engineStoreState : State :=
  ⟨[], Perm.reset, (Dev.roomless R.VS_JOBS).setEngine 0 { Core.idle with curJob := some (storingJob R.VS_JOBS) }⟩

theorem engineStoreState_jobs : engineStoreState.dev.get R.VS_JOBS 0 = 0 := by decide +kernel

/-- The job is counted by the engine and once more as a refusal of its bay. -/
theorem engineStoreState_end_jobs : (voussoirJobEnd 0 0 true .none engineStoreState.dev).get R.VS_JOBS 0 = 2 := by
  decide +kernel

/-- Refutes O33: at its fixed count, wiped and without a store error, the job of bay `farBay R.KC_BAY_BUSY R.VS_JOBS 0` ends
with a new key that finds no room, and the refusal raises VS_JOBS of engine 0 a second time. -/
theorem not_voussoirEnginesRunTheirJobs : ¬ Obligations.VoussoirEnginesRunTheirJobs := by
  intro h
  obtain ⟨-, -, hends, -⟩ := h
  obtain ⟨-, -, -, hjobs, -⟩ := Completes.after (f := voussoirJobEnd 0 0 true .none)
    (hends engineStoreState 0 (storingJob R.VS_JOBS) 0 rfl rfl (fun _ => rfl)) rfl
  have hone : (2 : Nat) = (0 + 1) % R.VS_JOBS.bound := by
    simpa only [Fin.val_zero, engineStoreState_end_jobs, engineStoreState_jobs] using hjobs
  exact absurd hone (by decide)

end Sys2Proof.Machine

namespace Sys2Proof.Machine

/-! # O46: streams, their records, event frames and the tick of UTC

Streams of sessions open, close and carry records (R363, R364); event frames carry items (R531, R532); a second passes
(R375, R459, R501). -/

/-! ## Free numbers -/

/-- A list without repetitions that is longer than the list of the numbers a test rejects has a number that passes it. -/
theorem find?_of_length_lt {l u : List Nat} {p : Nat → Bool} (hl : l.Nodup) (hlen : u.length < l.length)
    (hp : ∀ n ∈ l, p n = false → n ∈ u) : ∃ n, l.find? p = some n := by
  cases hfind : l.find? p with
  | some n => exact ⟨n, rfl⟩
  | none =>
    have hall : l ⊆ u := fun n hn => hp n hn (by simpa using List.find?_eq_none.mp hfind n hn)
    have hle := (List.subperm_of_subset hl hall).length_le
    omega

/-- A number that a table lists stands among its entries' numbers. -/
theorem Tab.mem_keys_of_look {α : Type} {t : Tab α} {k : Nat} (h : Tab.look t k ≠ none) : k ∈ t.map (·.1) := by
  obtain ⟨v, hv⟩ := Option.ne_none_iff_exists'.mp h
  exact List.mem_map_of_mem (f := (·.1)) (Tab.mem_of_look hv)

/-! ## Responses of one frame (R350) -/

/-- A response whose output fits one frame leaves the streams, and adds itself to what is sent. -/
theorem Dev.deliver_one {d : Dev} {id : Nat} {src : Client} {c : Session} {st : Status} {out : List Tlv} (reqId : Nat)
    (hs : Tab.look d.face.sessions id = some c) (hsent : c.sent + 1 < 2 ^ 64)
    (hlen : (encodeTlvs (if st = .ok then out else [])).length ≤ 8944) :
    (d.deliver (.session id src) reqId st out).face.streams = d.face.streams ∧
      (d.deliver (.session id src) reqId st out).outbox =
        d.outbox ++ [.response src id (c.sent + 1) reqId st (if st = .ok then out else [])] := by
  rw [Dev.deliver_live reqId hs (n := 1) (by omega) hsent]
  exact ⟨rfl, rfl⟩

/-! ## The opening of a stream (R363) -/

/-- A session, or the module, has as many streams as it may have. -/
def Dev.streamsFull (d : Dev) (session : Nat) : Prop :=
  64 ≤ (d.face.streams.filter (fun e => e.2.session == session)).length ∨ 16384 ≤ d.face.streams.length

section
variable {d : Dev} {h : FrameHdr} {x : Session} (hs : Tab.look d.face.sessions h.session = some x)
include hs

theorem streamOpen_full (reqId : Nat) (hfull : d.streamsFull h.session) :
    streamOpen h reqId d = d.deliver (.session h.session h.src) reqId .sessionLimit [] := by
  rw [streamOpen, hs]
  exact if_pos hfull

/-- The lowest number from 0x8000 on that no stream has is taken; fewer than 16,384 streams leave one of 16,385 free. -/
theorem streamOpen_free (reqId : Nat) (hfree : ¬ d.streamsFull h.session) : ∃ n : Nat, 0x8000 ≤ n ∧ n ≤ 0xC000 ∧
    Tab.look d.face.streams n = none ∧ (∀ k, 0x8000 ≤ k → k < n → Tab.look d.face.streams k ≠ none) ∧
    streamOpen h reqId d = ({ d with face := { d.face with
      streams := Tab.put d.face.streams n ⟨h.session, x.target, false, []⟩ } }).deliver (.session h.session h.src) reqId .ok
        [⟨0x8001, beBytes 2 n⟩] := by
  have hroom : d.face.streams.length < 16384 := by
    unfold Dev.streamsFull at hfree
    omega
  obtain ⟨i, hi⟩ := find?_of_length_lt (l := List.range 16385) (u := (d.face.streams.map (·.1)).map (· - 0x8000))
    (p := fun i => (Tab.look d.face.streams (i + 0x8000)).isNone) List.nodup_range (by simp; omega) (fun i _ hused => by
      have hlisted : i + 0x8000 ∈ d.face.streams.map (·.1) := Tab.mem_keys_of_look fun hnot => by
        simp [hnot] at hused
      exact List.mem_map.mpr ⟨_, hlisted, Nat.add_sub_cancel ..⟩)
  obtain ⟨hnone, hmem, hlow⟩ := List.find?_range_eq_some.mp hi
  have hlt := List.mem_range.mp hmem
  refine ⟨i + 0x8000, by omega, by omega, by simpa using hnone, fun k hk hki => ?_, ?_⟩
  · have hused := hlow (k - 0x8000) (by omega)
    rw [Nat.sub_add_cancel hk] at hused
    intro hnot
    simp [hnot] at hused
  · have hfind : ((List.range 16385).map (· + 0x8000)).find? (fun n => (Tab.look d.face.streams n).isNone) =
        some (i + 0x8000) := by
      rw [List.find?_map]
      exact congrArg (Option.map (· + 0x8000)) hi
    rw [streamOpen, hs]
    dsimp only
    rw [hfind]
    exact if_neg hfree

end

/-! ## The end of a stream (R363) -/

/-- Whether a stream has records depends on the engines and on the stream's own records in reassembly. -/
theorem Dev.streamBusy_closing {d : Dev} {n : Nat} {x : Stream} (hx : Tab.look d.face.streams n = some x) (c : Bool) :
    ({ d with face := { d.face with streams := Tab.put d.face.streams n { x with closing := c } } }).streamBusy n =
      d.streamBusy n := by
  unfold Dev.streamBusy
  dsimp only
  rw [Tab.look_put, if_pos rfl, hx]

/-- A sweep changes the streams alone, and of them at most its own, which it may take out. -/
theorem Dev.sweepStream_eq (d : Dev) (n : Nat) : d.sweepStream n = d ∨
    d.sweepStream n = { d with face := { d.face with streams := Tab.del d.face.streams n } } := by
  unfold Dev.sweepStream
  split
  · split
    · exact .inr rfl
    · exact .inl rfl
  · exact .inl rfl

theorem streamClose_own {d : Dev} {h : FrameHdr} {n : Nat} {x : Stream} (hx : Tab.look d.face.streams n = some x)
    (hown : x.session = h.session) : ∃ t : Tab Stream, streamClose h n d = { d with face := { d.face with streams := t } } ∧
      Tab.look t n = (if d.streamBusy n then some { x with closing := true } else none) ∧
      ∀ k, k ≠ n → Tab.look t k = Tab.look d.face.streams k := by
  have hsweep : streamClose h n d =
      ({ d with face := { d.face with streams := Tab.put d.face.streams n { x with closing := true } } }).sweepStream n := by
    rw [streamClose, hx]
    exact if_pos hown
  rw [hsweep, Dev.sweepStream]
  dsimp only
  rw [Tab.look_put, if_pos rfl, Dev.streamBusy_closing hx]
  dsimp only
  cases d.streamBusy n with
  | true => exact ⟨Tab.put d.face.streams n { x with closing := true }, rfl, by simp, fun k hk => by simp [hk.symm]⟩
  | false =>
    exact ⟨Tab.del (Tab.put d.face.streams n { x with closing := true }) n, rfl, by simp, fun k hk => by simp [hk.symm]⟩

theorem streamClose_other {d : Dev} {h : FrameHdr} {n : Nat} {x : Stream} (hx : Tab.look d.face.streams n = some x)
    (hother : x.session ≠ h.session) : streamClose h n d = d := by
  rw [streamClose, hx]
  exact if_neg hother

/-! ## The fragments of a record (R364) -/

/-- The record of a number as a stream has it, with no fragment where it is new. -/
def Stream.record (x : Stream) (number : Nat) : Reasm :=
  (x.reasm.find? (fun r => r.number == number)).getD ⟨number, none, [], none⟩

/-- The records of a stream but for one number. -/
def Stream.others (x : Stream) (number : Nat) : List Reasm := x.reasm.filter (fun r => r.number ≠ number)

/-- A record with one fragment more. -/
def BulkPiece.join (q : BulkPiece) (r : Reasm) : Reasm :=
  ⟨r.number, if q.desc.isSome then q.desc else r.desc, Tab.put r.pieces q.offset q.data,
    if q.last then some (q.offset + q.data.length) else r.last⟩

/-- A fragment breaks its record. -/
def BulkPiece.breaks (q : BulkPiece) (r : Reasm) : Bool :=
  piecesOverlap r.pieces q.offset q.data.length || (q.join r).broken

/-- A fragment of a stream is taken: its record is known, or may be begun. -/
def Dev.takesPiece (d : Dev) (x : Stream) (q : BulkPiece) : Prop :=
  (x.reasm.find? (fun r => r.number == q.number)).isSome = true ∨
    (d.recordBusy q.stream q.number = false ∧ x.closing = false ∧ x.reasm.length < 4)

theorem completes_bulkData {s : State} {h : FrameHdr} {q : BulkPiece} {P : Perm → Dev → Prop}
    (hp : P s.perm (bulkData s.perm.lcState (s.dev.workLevel s.perm.level) h q s.dev)) :
    Completes (.bulkData h q) s P := ⟨_, rfl, rfl, hp⟩

/-- A fragment that is taken joins its record, which ends, goes on to its checks, or waits for more. -/
theorem bulkData_joins {d : Dev} {h : FrameHdr} {q : BulkPiece} {y : Session} {x : Stream} (lc lvl : Nat)
    (hs : Tab.look d.face.sessions h.session = some y) (hx : Tab.look d.face.streams q.stream = some x)
    (hown : x.session = h.session) (hlen : q.data.length ≤ 8192) (hdata : q.data ≠ []) (htakes : d.takesPiece x q) :
    let e := d.setReasm q.stream x (x.others q.number)
    let r := q.join (x.record q.number)
    bulkData lc lvl h q d =
      if q.breaks (x.record q.number) then e.bulkComplete
        (e.streamRecord (.session h.session h.src) q.stream x.owner q.number (r.desc.getD BulkDesc.none) []) .reassembly []
      else if r.whole then e.bulkOffer lc lvl (e.streamRecord (.session h.session h.src) q.stream x.owner q.number
        (r.desc.getD BulkDesc.none) (r.pieces.flatMap (·.2)))
      else d.setReasm q.stream x (x.others q.number ++ [r]) := by
  have hdesc (r : Reasm) : q.desc.orElse (fun _ => r.desc) = if q.desc.isSome then q.desc else r.desc := by
    cases q.desc <;> rfl
  have hbusy : ((x.reasm.find? (fun r => r.number == q.number)).isNone && d.recordBusy q.stream q.number) = false := by
    obtain hold | ⟨hidle, -, -⟩ := htakes
    · rw [Option.isNone_eq_false_iff.mpr hold]; rfl
    · rw [hidle, Bool.and_false]
  have hclosing : ((x.reasm.find? (fun r => r.number == q.number)).isNone && x.closing) = false := by
    obtain hold | ⟨-, hopen, -⟩ := htakes
    · rw [Option.isNone_eq_false_iff.mpr hold]; rfl
    · rw [hopen, Bool.and_false]
  have hroom : ((x.reasm.find? (fun r => r.number == q.number)).isNone && decide (x.reasm.length ≥ 4)) = false := by
    obtain hold | ⟨-, -, hfour⟩ := htakes
    · rw [Option.isNone_eq_false_iff.mpr hold]; rfl
    · rw [decide_eq_false (by omega), Bool.and_false]
  unfold bulkData
  rw [hs]
  dsimp only
  rw [if_neg (by omega), hx]
  dsimp only
  rw [if_neg (by simp [hown]), hbusy, hclosing, hroom, if_neg hdata, hdesc]
  rfl

theorem Dev.bulkOffer_arrives {d : Dev} {lc lvl : Nat} {r : BulkRec} (hlc : lc = 4) (hlvl : lvl < 2)
    (hbay : 256 ≤ r.bay ∨ d.bayOpen r.bay = true) : d.bulkOffer lc lvl r = d.bulkArrive r := by
  have hopen : ¬ (r.bay < 256 ∧ (!d.bayOpen r.bay) = true) := by
    rintro ⟨hlow, hclosed⟩
    obtain hhigh | hopen := hbay
    · omega
    · simp [hopen] at hclosed
  rw [Dev.bulkOffer, if_neg (by simp [hlc]), if_neg hopen, if_neg (by omega)]

/-! ## A record that is late (R364) -/

/-- A record of a live session that fails is answered with its status in one frame, and its stream is swept. -/
theorem Dev.bulkComplete_fails {d : Dev} {r : BulkRec} {st : Status} {id : Nat} {src : Client} {c : Session}
    (hvia : r.via = .session id src) (hst : st ≠ .ok) (hs : Tab.look d.face.sessions id = some c) :
    d.bulkComplete r st [] = (((d.nextFrame id c 1).countTx src 1).send (.bulkFrames src id r.stream r.desc.reqId st
      (if r.iv = [] then zeros 12 else r.iv) [])).sweepStream r.stream := by
  unfold Dev.bulkComplete
  dsimp only
  rw [if_neg hst, if_neg hst, hvia]
  dsimp only
  rw [hs]
  rfl

theorem bulkReassemblyTimeout_late {d : Dev} {n number : Nat} {x : Stream} {c : Session} {r : Reasm}
    (hx : Tab.look d.face.streams n = some x) (hs : Tab.look d.face.sessions x.session = some c)
    (hr : x.reasm.find? (fun r => r.number == number) = some r) :
    ∃ iv, bulkReassemblyTimeout n number d =
      ((((d.setReasm n x (x.others number)).nextFrame x.session c 1).countTx c.src 1).send
        (.bulkFrames c.src x.session n (r.desc.getD BulkDesc.none).reqId .reassembly iv [])).sweepStream n := by
  rw [bulkReassemblyTimeout, hx]
  dsimp only
  rw [hr, hs]
  exact ⟨_, Dev.bulkComplete_fails rfl (by decide) hs⟩

/-! ## Event frames (R531, R532) -/

theorem eventFrame_sends {d : Dev} {id : Nat} {x : Session} {i : EvItem} {l : List EvItem}
    (hs : Tab.look d.face.sessions id = some x) (hitems : x.unsent = i :: l) (hsent : x.sent + 1 < 2 ^ 64) :
    let items := (x.unsent.takeWhile (fun j => j.kind == i.kind)).take (if i.kind = 1 then 64 else 32)
    eventFrame id d = ((({ d with face := { d.face with sessions := Tab.put d.face.sessions id { x with
      unsent := x.unsent.drop items.length, dropped := false, sent := x.sent + 1 } } }).countTx x.src).bumpSat
        R.IC_FRAMES).send (.eventFrame x.src id (x.sent + 1) x.dropped items) := by
  rw [eventFrame, hs]
  dsimp only
  rw [hitems]
  exact if_neg (Nat.not_le.mpr hsent)

/-! ## A second passes (R375, R459, R501) -/

/-- NF_UTC after a second. -/
def Dev.utcTicked (d : Dev) : Dev := if d.get R.NF_UTC = 0 then d else d.bumpWrap R.NF_UTC

/-- The seconds left of a debug session after a second. -/
def Dev.remainTicked (d : Dev) : Dev := if d.on R.DBG_STATUS_SESSION then d.set R.DBG_REMAIN (d.get R.DBG_REMAIN - 1) else d

/-- A Keystone's MATCHED seconds after a second. -/
def Dev.matchedTicked (d : Dev) (u : Nat) : Dev := if d.get R.KS_STATUS_STATE u = 3 then d.bumpSat R.KS_MATCHED_S u else d

theorem utcTick_eq (d : Dev) : utcTick d = ((d.utcTicked.remainTicked).matchedTicked 0).matchedTicked 1 := rfl

theorem Dev.utcTicked_get (d : Dev) {f : Fld} {i : Nat} (hf : R.NF_UTC.key 0 0 ≠ f.key i 0) :
    d.utcTicked.get f i = d.get f i := by
  unfold Dev.utcTicked
  split
  · rfl
  · exact Dev.get_set_ne _ _ _ _ _ _ _ _ hf

theorem Dev.remainTicked_get (d : Dev) {f : Fld} {i : Nat} (hf : R.DBG_REMAIN.key 0 0 ≠ f.key i 0) :
    d.remainTicked.get f i = d.get f i := by
  unfold Dev.remainTicked
  split
  · exact Dev.get_set_ne _ _ _ _ _ _ _ _ hf
  · rfl

theorem Dev.matchedTicked_get (d : Dev) {f : Fld} {u i : Nat} (hf : R.KS_MATCHED_S.key u 0 ≠ f.key i 0) :
    (d.matchedTicked u).get f i = d.get f i := by
  unfold Dev.matchedTicked
  split
  · exact Dev.get_set_ne _ _ _ _ _ _ _ _ hf
  · rfl

theorem Dev.matchedTicked_count (d : Dev) (u : Nat) : (d.matchedTicked u).get R.KS_MATCHED_S u =
    if d.get R.KS_STATUS_STATE u = 3 then min (R.KS_MATCHED_S.bound - 1) (d.get R.KS_MATCHED_S u + 1)
    else d.get R.KS_MATCHED_S u := by
  unfold Dev.matchedTicked
  split
  · exact d.bumpSat_get_self _ _ _ _
  · rfl

theorem utcTick_writes (d : Dev) : Dev.WritesFields (fun _ => True) d (utcTick d) := by
  have hutc : Dev.WritesFields (fun _ => True) d d.utcTicked := .ite _ (.refl d) ((Dev.WritesFields.refl d).set _ _ trivial)
  have hremain : Dev.WritesFields (fun _ => True) d d.utcTicked.remainTicked := .ite _ (hutc.set _ _ trivial) hutc
  have hmatched : Dev.WritesFields (fun _ => True) d (d.utcTicked.remainTicked.matchedTicked 0) :=
    .ite _ (hremain.set _ _ trivial) hremain
  exact .ite _ (hmatched.set _ _ trivial) hmatched

theorem utcTick_utc (d : Dev) : (utcTick d).get R.NF_UTC = if d.get R.NF_UTC = 0 then 0 else (d.get R.NF_UTC + 1) % 2 ^ 32 := by
  rw [utcTick_eq, Dev.matchedTicked_get _ (by decide), Dev.matchedTicked_get _ (by decide), Dev.remainTicked_get _ (by decide),
    Dev.utcTicked]
  split
  · assumption
  · exact Dev.get_set_self _ _ _ _ _

theorem utcTick_remain (d : Dev) : (utcTick d).get R.DBG_REMAIN =
    d.get R.DBG_REMAIN - (if d.on R.DBG_STATUS_SESSION then 1 else 0) := by
  have hlt (d : Dev) : d.get R.DBG_REMAIN - 1 < R.DBG_REMAIN.bound :=
    lt_of_le_of_lt (Nat.sub_le _ _) (Nat.mod_lt _ (Nat.two_pow_pos _))
  rw [utcTick_eq, Dev.matchedTicked_get _ (by decide), Dev.matchedTicked_get _ (by decide), Dev.remainTicked, Dev.on,
    Dev.utcTicked_get _ (by decide), ← Dev.on]
  split
  · rw [Dev.get_set_self, Nat.mod_eq_of_lt (hlt _), Dev.utcTicked_get _ (by decide)]
  · exact d.utcTicked_get (by decide)

theorem utcTick_matched (d : Dev) {u : Nat} (hu : u < 2) : (utcTick d).get R.KS_MATCHED_S u =
    if d.get R.KS_STATUS_STATE u = 3 then min (R.KS_MATCHED_S.bound - 1) (d.get R.KS_MATCHED_S u + 1)
    else d.get R.KS_MATCHED_S u := by
  have hclocks {f : Fld} {i : Nat} (hremain : R.DBG_REMAIN.key 0 0 ≠ f.key i 0) (hutc : R.NF_UTC.key 0 0 ≠ f.key i 0) :
      d.utcTicked.remainTicked.get f i = d.get f i := by
    rw [Dev.remainTicked_get _ hremain, Dev.utcTicked_get _ hutc]
  rw [utcTick_eq]
  obtain rfl | rfl : u = 0 ∨ u = 1 := by omega
  · rw [Dev.matchedTicked_get _ (by decide), Dev.matchedTicked_count, hclocks (by decide) (by decide),
      hclocks (by decide) (by decide)]
  · rw [Dev.matchedTicked_count, Dev.matchedTicked_get _ (by decide), Dev.matchedTicked_get _ (by decide),
      hclocks (by decide) (by decide), hclocks (by decide) (by decide)]

/-! ## The statement -/

/-- Settles O46: each command is its one write of the face's tables, with what it sends and counts. -/
theorem streamsCarryRecordsAndEvents : Obligations.StreamsCarryRecordsAndEvents := by
  refine ⟨?opens, ?closes, ?pieces, ?late, ?events, ?tick⟩
  case opens =>
    intro s h reqId x hs hsent
    refine ⟨fun hfull => completes_after rfl ⟨rfl, ?_⟩, fun hfree => completes_after rfl ⟨rfl, ?_⟩⟩
    · rw [streamOpen_full hs reqId hfull]
      obtain ⟨hstreams, hout⟩ := Dev.deliver_one (src := h.src) (st := .sessionLimit) (out := []) reqId hs hsent (by decide)
      exact ⟨hstreams, hout, (Dev.SameWork.refl _).deliver _ _ _ _⟩
    · obtain ⟨n, hlow, hhigh, hnone, hleast, heq⟩ := streamOpen_free hs reqId hfree
      obtain ⟨hstreams, hout⟩ := Dev.deliver_one (d := { s.dev with face := { s.dev.face with
        streams := Tab.put s.dev.face.streams n ⟨h.session, x.target, false, []⟩ } }) (src := h.src) (st := .ok)
        (out := [⟨0x8001, beBytes 2 n⟩]) reqId hs hsent (by simp [encodeTlvs, beBytes_length])
      rw [heq]
      refine ⟨n, hlow, hhigh, hnone, hleast, ?_, fun k hk => ?_, hout,
        (Dev.SameWork.of_parts s.dev s.dev.regs s.dev.log _ s.dev.outbox).deliver _ _ _ _⟩
      · rw [hstreams]; simp
      · rw [hstreams]; simp [hk.symm]
  case closes =>
    intro s h n x hx
    refine ⟨fun hown => completes_after rfl ⟨rfl, ?_⟩, fun hother => completes_after rfl ⟨rfl, streamClose_other hx hother⟩⟩
    obtain ⟨t, heq, hself, hothers⟩ := streamClose_own hx hown
    rw [heq]
    exact ⟨hself, hothers, rfl⟩
  case pieces =>
    intro s h q y x hs hx hown hlen hdata old htakes r0 r1 rest bad ends record
    have hjoins := bulkData_joins s.perm.lcState (s.dev.workLevel s.perm.level) hs hx hown hlen hdata htakes
    refine ⟨fun hgood hpart => completes_bulkData ⟨rfl, ?_⟩, fun hgood hwhole hlc hlvl hbay =>
      completes_bulkData ⟨rfl, ?_⟩, fun hbad => completes_bulkData ⟨rfl, ?_⟩⟩
    · exact hjoins.trans ((if_neg (ne_true_of_eq_false hgood)).trans (if_neg (ne_true_of_eq_false hpart)))
    · exact (hjoins.trans ((if_neg (ne_true_of_eq_false hgood)).trans (if_pos hwhole))).trans
        (Dev.bulkOffer_arrives hlc hlvl hbay)
    · exact hjoins.trans (if_pos hbad)
  case late =>
    intro s n number x y r hx hs hr
    refine completes_after rfl ⟨rfl, ?_⟩
    obtain ⟨iv, heq⟩ := bulkReassemblyTimeout_late hx hs hr
    have hwork : s.dev.SameWork ((((s.dev.setReasm n x (x.others number)).nextFrame x.session y 1).countTx y.src 1).send
        (.bulkFrames y.src x.session n (r.desc.getD BulkDesc.none).reqId .reassembly iv [])) :=
      ((Dev.SameWork.of_parts s.dev s.dev.regs s.dev.log _ s.dev.outbox).bumpSat _ _ _ _).send _
    have hput (k : Nat) : Tab.look (Tab.put s.dev.face.streams n { x with reasm := x.others number }) k =
        if n = k then some { x with reasm := x.others number } else Tab.look s.dev.face.streams k := Tab.look_put _ _ _ _
    rw [heq]
    obtain hstay | hgone := Dev.sweepStream_eq ((((s.dev.setReasm n x (x.others number)).nextFrame x.session y 1).countTx y.src
      1).send (.bulkFrames y.src x.session n (r.desc.getD BulkDesc.none).reqId .reassembly iv [])) n
    · rw [hstay]
      refine ⟨⟨iv, by simp [Dev.send]⟩, fun z hz => ?_, fun k hk => (hput k).trans (if_neg hk.symm), hwork⟩
      rw [← Option.some.inj (((hput n).trans (if_pos rfl)).symm.trans hz)]
      rfl
    · rw [hgone]
      refine ⟨⟨iv, by simp [Dev.send]⟩, fun z hz => ?_, fun k hk => ?_, hwork.trans (.of_parts _ _ _ _ _)⟩
      · simp at hz
      · rw [Tab.look_del, if_neg hk.symm]
        exact (hput k).trans (if_neg hk.symm)
  case events =>
    intro s session x i l hs hitems hsent items
    refine completes_after rfl ⟨rfl, ?_⟩
    rw [eventFrame_sends hs hitems hsent]
    refine ⟨rfl, (Tab.look_put _ _ _ _).trans (if_pos rfl), fun k hk => (Tab.look_put _ _ _ _).trans (if_neg hk.symm), ?_,
      (((Dev.SameWork.of_parts s.dev s.dev.regs s.dev.log _ s.dev.outbox).bumpSat _ _ _ _).bumpSat _ _ _ _).send _⟩
    rw [Dev.send_get, Dev.bumpSat_get_self, Dev.countTx, Dev.bumpSat, Dev.get_set_parted _ _ _ _ (by decide)]
    rfl
  case tick =>
    intro s
    refine completes_after rfl ⟨rfl, utcTick_utc _, utcTick_remain _, fun u hu => utcTick_matched _ hu, ?_⟩
    obtain ⟨t, -, heq⟩ := utcTick_writes s.dev
    rw [heq]
    exact ⟨rfl, rfl, rfl⟩

end Sys2Proof.Machine

namespace Sys2Proof.Machine

/-! # O44: ports, their links and the filter of received frames

Lane modes, training and link loss (R344 to R346, R374), and what a received frame leaves (R347, R349, R360, R361). -/

/-! ## The pages of the port groups (R43) -/

/-- The number is the place of a field of a port group's page. -/
def groupKey (g key : Nat) : Prop := key / 0x20000000 = Blk.nfp.page g

/-- A field of the page of a port group. -/
abbrev Fld.OfGroup (f : Fld) : Prop := f.blk = .nfp ∧ f.off < 0x1000 ∧ f.lo < 32

theorem Blk.apart_nfp (g : Nat) : Blk.nfp.apart g := by
  constructor <;> simp only [Blk.page, Blk.basePage, Blk.stride] <;> omega

theorem Blk.apart_nfc : Blk.nfc.apart 0 := Blk.apart_zero (by decide)

theorem Fld.OfGroup.key {f : Fld} (h : f.OfGroup) (g : Nat) {k : Nat} (hk : k < 0x1000) : groupKey g (f.key g k) := by
  rw [groupKey, f.key_page g k h.2.1 h.2.2 hk, h.1]

theorem groupKey_raw (g : Nat) : groupKey g ((R.INT_RAW .nfp).key g 0) :=
  Fld.OfGroup.key ⟨rfl, show 0x010 < 0x1000 by decide, show 0 < 32 by decide⟩ g (by decide)

/-- A field of the common page stands in no group's page. -/
theorem not_groupKey_nfc {f : Fld} (h : f.blk = .nfc ∧ f.off < 0x1000 ∧ f.lo < 32) {g k : Nat} (hg : g < 8)
    (hk : k < 0x1000) : ¬ groupKey g (f.key 0 k) := by
  rw [groupKey, f.key_page 0 k h.2.1 h.2.2 hk, h.1]
  simp only [Blk.page, Blk.basePage, Blk.stride]
  omega

theorem not_groupKey_other {f : Fld} (h : f.OfGroup) {g j k : Nat} (hne : g ≠ j) (hk : k < 0x1000) :
    ¬ groupKey g (f.key j k) := by
  rw [groupKey, f.key_page j k h.2.1 h.2.2 hk, h.1]
  simp only [Blk.page, Blk.basePage, Blk.stride]
  omega

/-- A report on a group's page leaves the fields of the common page. -/
theorem Dev.Reported.get_nfc {d e : Dev} {g : Nat} (h : Dev.Reported (groupKey g) d e) {f : Fld}
    (hf : f.blk = .nfc ∧ f.off < 0x1000 ∧ f.lo < 32) (hg : g < 8) {k : Nat} (hk : k < 0x1000) :
    e.get f 0 k = d.get f 0 k :=
  h.get f 0 k (markKey_false f 0 k (by rw [hf.1]; decide) (by rw [hf.1]; decide) hf.2.1 hf.2.2 hk)
    (not_groupKey_nfc hf hg hk)

/-- An interrupt of a group leaves the fields of its page but INT_RAW. -/
theorem Dev.raiseInt_group (d : Dev) {f : Fld} (hf : f.OfGroup) (hraw : f.off ≠ 0x010) (g n : Nat) {k : Nat}
    (hk : k < 0x1000) : (d.raiseInt .nfp g n).get f g k = d.get f g k := by
  obtain ⟨hblk, hoff, hlo⟩ := hf
  refine ((Dev.Reported.refl (own := fun key => key = (R.INT_RAW .nfp).key g 0) d).raiseInt _ _ _ (.inr rfl)).get f g k
    (markKey_false f g k ?_ ?_ hoff hlo hk) (Fld.key_ne_of_off _ _ _ _ _ _ hraw hoff hlo hk (by decide) (by decide)
      (by decide))
  · rw [hblk]; exact (Blk.apart_nfp g).1
  · rw [hblk]; exact (Blk.apart_nfp g).2

/-! ## Lane modes (R344, R345) -/

/-- A group shows a mode after its write: a mode that it had leaves its links, another takes them down and trains. -/
def Dev.ModeSet (d e : Dev) (g mode : Nat) : Prop :=
  e.get R.NF_LANE_MODE 0 g = mode ∧
    (d.get R.NF_LANE_MODE 0 g = mode → e.get R.NF_PORT_STATUS_LINK_UP g = d.get R.NF_PORT_STATUS_LINK_UP g) ∧
    (d.get R.NF_LANE_MODE 0 g ≠ mode → e.get R.NF_PORT_STATUS_MODE g = mode ∧
      e.get R.NF_PORT_STATUS_LINK_UP g = 0 ∧ e.get R.NF_PORT_STATUS_FEC_LOCK g = 0 ∧
      e.get R.NF_PORT_STATUS_TRAINING g = modePorts g mode ∧
      (d.get R.NF_PORT_STATUS_LINK_UP g ≠ 0 → (e.get (R.INT_RAW .nfp) g).testBit 2 = true))

/-- A group's mode and the fields of its page stay. -/
structure Dev.GroupStays (d e : Dev) (g : Nat) : Prop where
  mode : e.get R.NF_LANE_MODE 0 g = d.get R.NF_LANE_MODE 0 g
  page : ∀ f : Fld, f.OfGroup → e.get f g = d.get f g

theorem Dev.ModeSet.stays {d e x : Dev} {g mode : Nat} (h : d.ModeSet e g mode) (hs : e.GroupStays x g) :
    d.ModeSet x g mode := by
  unfold Dev.ModeSet at h ⊢
  rw [hs.mode, hs.page _ (by decide), hs.page _ (by decide), hs.page _ (by decide), hs.page _ (by decide),
    hs.page _ (by decide)]
  exact h

theorem Dev.GroupStays.sets {d e x : Dev} {g mode : Nat} (hs : d.GroupStays e g) (h : e.ModeSet x g mode) :
    d.ModeSet x g mode := by
  unfold Dev.ModeSet at h ⊢
  rwa [hs.mode, hs.page R.NF_PORT_STATUS_LINK_UP (by decide)] at h

/-- The writes of a group's new mode. -/
def Dev.modeShown (d : Dev) (g mode : Nat) : Dev :=
  ((((d.set R.NF_LANE_MODE mode 0 g).set R.NF_PORT_STATUS_MODE mode g).set R.NF_PORT_STATUS_LINK_UP 0 g).set
    R.NF_PORT_STATUS_FEC_LOCK 0 g).set R.NF_PORT_STATUS_TRAINING (modePorts g mode) g

theorem Dev.setLaneMode_eq (d : Dev) (g mode : Nat) : d.setLaneMode g mode =
    if d.get R.NF_LANE_MODE 0 g = mode then d
    else if d.get R.NF_PORT_STATUS_LINK_UP g = 0 then d.modeShown g mode
    else (d.modeShown g mode).raiseInt .nfp g 2 := rfl

/-- A write of a mode writes the group's mode and its page. -/
theorem Dev.setLaneMode_reported (d : Dev) (g mode : Nat) :
    Dev.Reported (fun key => key = R.NF_LANE_MODE.key 0 g ∨ groupKey g key) d (d.setLaneMode g mode) := by
  have hshown : Dev.Reported (fun key => key = R.NF_LANE_MODE.key 0 g ∨ groupKey g key) d (d.modeShown g mode) :=
    (((((Dev.Reported.refl d).set _ _ _ _ (.inr (.inl rfl))).set _ _ _ _
      (.inr (.inr (Fld.OfGroup.key (by decide) g (by decide))))).set _ _ _ _
      (.inr (.inr (Fld.OfGroup.key (by decide) g (by decide))))).set _ _ _ _
      (.inr (.inr (Fld.OfGroup.key (by decide) g (by decide))))).set _ _ _ _
      (.inr (.inr (Fld.OfGroup.key (by decide) g (by decide))))
  rw [Dev.setLaneMode_eq]
  exact .ite _ (Dev.Reported.refl d) (.ite _ hshown (hshown.raiseInt _ _ _ (.inr (.inr (groupKey_raw g)))))

theorem Dev.setLaneMode_face (d : Dev) (g mode : Nat) : (d.setLaneMode g mode).face = d.face := by
  rw [Dev.setLaneMode_eq]
  split
  · rfl
  · split
    · rfl
    · exact (Dev.raiseInt_signals _ _ _ _).face

theorem Dev.setLaneMode_stays (d : Dev) {g j : Nat} (hg : g < 8) (hj : j < 8) (hne : g ≠ j) (mode : Nat) :
    d.GroupStays (d.setLaneMode g mode) j := by
  have hreported := d.setLaneMode_reported g mode
  refine ⟨hreported.get _ _ _ (markKey_false _ _ _ (by decide) (by decide) (by decide) (by decide) (by omega)) ?_,
    fun f hf => hreported.get _ _ _ ?_ ?_⟩
  · rintro (hkey | hpage)
    · unfold Fld.key at hkey; omega
    · exact not_groupKey_nfc (by decide) hg (by omega) hpage
  · obtain ⟨hblk, hoff, hlo⟩ := hf
    have hapart := Blk.apart_nfp j
    exact markKey_false _ _ _ (by rw [hblk]; exact hapart.1) (by rw [hblk]; exact hapart.2) hoff hlo (by decide)
  · rintro (hkey | hpage)
    · refine not_groupKey_nfc (f := R.NF_LANE_MODE) (g := j) (k := g) (by decide) hj (by omega) ?_
      rw [← hkey]
      exact hf.key j (by decide)
    · exact not_groupKey_other hf hne (by decide) hpage

/-- What the new mode's writes show. -/
theorem Dev.modeShown_get (d : Dev) {g mode : Nat} (hg : g < 8) (hmode : mode < 4) :
    (d.modeShown g mode).get R.NF_LANE_MODE 0 g = mode ∧ (d.modeShown g mode).get R.NF_PORT_STATUS_MODE g = mode ∧
      (d.modeShown g mode).get R.NF_PORT_STATUS_LINK_UP g = 0 ∧ (d.modeShown g mode).get R.NF_PORT_STATUS_FEC_LOCK g = 0 ∧
      (d.modeShown g mode).get R.NF_PORT_STATUS_TRAINING g = modePorts g mode := by
  have hpage {f : Fld} (hf : f.OfGroup) : f.key g 0 ≠ R.NF_LANE_MODE.key 0 g := fun he =>
    not_groupKey_nfc (f := R.NF_LANE_MODE) (g := g) (k := g) (by decide) hg (by omega) (he ▸ hf.key g (by decide))
  have hports : modePorts g mode < 4 := by unfold modePorts; split_ifs <;> omega
  have hwidth {n : Nat} (hn : n < 4) : n % R.NF_LANE_MODE.bound = n := Nat.mod_eq_of_lt hn
  unfold Dev.modeShown
  refine ⟨?_, ?_, ?_, ?_, ?_⟩
  · rw [Dev.get_set_ne _ _ _ _ _ _ _ _ (hpage (by decide)), Dev.get_set_ne _ _ _ _ _ _ _ _ (hpage (by decide)),
      Dev.get_set_ne _ _ _ _ _ _ _ _ (hpage (by decide)), Dev.get_set_ne _ _ _ _ _ _ _ _ (hpage (by decide)),
      Dev.get_set_self]
    exact hwidth hmode
  · rw [Dev.get_set_parted _ _ _ _ (by decide), Dev.get_set_parted _ _ _ _ (by decide),
      Dev.get_set_parted _ _ _ _ (by decide), Dev.get_set_self]
    exact hwidth hmode
  · rw [Dev.get_set_parted _ _ _ _ (by decide), Dev.get_set_parted _ _ _ _ (by decide), Dev.get_set_self]
    rfl
  · rw [Dev.get_set_parted _ _ _ _ (by decide), Dev.get_set_self]
    rfl
  · rw [Dev.get_set_self]
    exact hwidth hports

theorem Dev.setLaneMode_set (d : Dev) {g mode : Nat} (hg : g < 8) (hmode : mode < 4) :
    d.ModeSet (d.setLaneMode g mode) g mode := by
  rw [Dev.setLaneMode_eq]
  by_cases hsame : d.get R.NF_LANE_MODE 0 g = mode
  · rw [if_pos hsame]
    exact ⟨hsame, fun _ => rfl, fun hne => absurd hsame hne⟩
  · obtain ⟨hlane, hshown, hup, hlock, htrain⟩ := d.modeShown_get hg hmode
    rw [if_neg hsame]
    by_cases hdown : d.get R.NF_PORT_STATUS_LINK_UP g = 0
    · rw [if_pos hdown]
      exact ⟨hlane, fun he => absurd he hsame, fun _ => ⟨hshown, hup, hlock, htrain, fun hne => absurd hdown hne⟩⟩
    · rw [if_neg hdown]
      refine ⟨?_, fun he => absurd he hsame, fun _ => ⟨?_, ?_, ?_, ?_, fun _ => Dev.raiseInt_bit _ (Blk.apart_nfp g) (by decide)⟩⟩
      · rw [((Dev.Reported.refl (own := groupKey g) _).raiseInt _ _ _ (.inr (groupKey_raw g))).get_nfc (by decide) hg
          (by omega)]
        exact hlane
      · rw [Dev.raiseInt_group _ (by decide) (by decide) _ _ (by decide)]; exact hshown
      · rw [Dev.raiseInt_group _ (by decide) (by decide) _ _ (by decide)]; exact hup
      · rw [Dev.raiseInt_group _ (by decide) (by decide) _ _ (by decide)]; exact hlock
      · rw [Dev.raiseInt_group _ (by decide) (by decide) _ _ (by decide)]; exact htrain

/-- What writing the modes of a list of groups leaves. -/
structure Dev.ModesSet (d e : Dev) (l : List Nat) (m : Nat → Nat) : Prop where
  work : d.SameWork e
  face : e.face = d.face
  groups : ∀ g ∈ l, d.ModeSet e g (m g)
  others : ∀ g < 8, g ∉ l → d.GroupStays e g

theorem Dev.GroupStays.trans {d e x : Dev} {g : Nat} (h : d.GroupStays e g) (k : e.GroupStays x g) : d.GroupStays x g :=
  ⟨k.mode.trans h.mode, fun f hf => (k.page f hf).trans (h.page f hf)⟩

theorem Dev.setLaneModes_set (d : Dev) (m : Nat → Nat) (hm : ∀ g, m g < 4) (l : List Nat) (hl : l.Nodup)
    (hlt : ∀ g ∈ l, g < 8) : d.ModesSet (l.foldl (fun a g => a.setLaneMode g (m g)) d) l m := by
  induction l generalizing d with
  | nil => exact ⟨.refl d, rfl, fun g hg => absurd hg List.not_mem_nil, fun g _ _ => ⟨rfl, fun _ _ => rfl⟩⟩
  | cons j l ih =>
    obtain ⟨hj, hl⟩ := List.nodup_cons.mp hl
    have hj8 : j < 8 := hlt j List.mem_cons_self
    obtain ⟨hwork, hface, hgroups, hothers⟩ := ih (d.setLaneMode j (m j)) hl fun g hg => hlt g (List.mem_cons_of_mem _ hg)
    refine ⟨(d.setLaneMode_reported j (m j)).work.trans hwork, hface.trans (d.setLaneMode_face j (m j)), fun g hg => ?_,
      fun g hg8 hg => ?_⟩
    · rcases List.mem_cons.mp hg with rfl | hg
      · exact (d.setLaneMode_set hj8 (hm g)).stays (hothers g hj8 hj)
      · have hne : j ≠ g := fun he => hj (he ▸ hg)
        exact (d.setLaneMode_stays hj8 (hlt g (List.mem_cons_of_mem _ hg)) hne (m j)).sets (hgroups g hg)
    · have hne : j ≠ g := fun he => hg (he ▸ List.mem_cons_self)
      exact (d.setLaneMode_stays hj8 hg8 hne (m j)).trans (hothers g hg8 fun he => hg (List.mem_cons_of_mem _ he))

/-- A pair of groups of which one alone is to have mode 3. -/
def splitsPair (v : Nat) : Prop := ∃ q < 4, ¬ (laneMode v (2 * q) = 3 ↔ laneMode v (2 * q + 1) = 3)

theorem laneModeWrite_eq (req : Requester) (v : Nat) (d : Dev) [Decidable (splitsPair v)] : laneModeWrite req v d =
    if splitsPair v then d.err .nfc 0 req .inputRange
    else (List.range 8).foldl (fun a g => a.setLaneMode g (laneMode v g)) d := by
  have hiff : (List.range 4).any (fun p => (laneMode v (2 * p) == 3) != (laneMode v (2 * p + 1) == 3)) = true ↔
      splitsPair v := by
    have hpair (a b : Nat) : ((a == 3) != (b == 3)) = true ↔ ¬ (a = 3 ↔ b = 3) := by
      by_cases ha : a = 3 <;> by_cases hb : b = 3 <;> simp [ha, hb]
    simp only [List.any_eq_true, List.mem_range, hpair, splitsPair]
  unfold laneModeWrite
  by_cases hsplit : splitsPair v
  · rw [if_pos (hiff.mpr hsplit), if_pos hsplit]
  · rw [if_neg (fun he => hsplit (hiff.mp he)), if_neg hsplit]

theorem modePorts_eq (g mode : Nat) : modePorts g mode =
    if mode = 1 then 3 else if mode = 2 ∨ (mode = 3 ∧ g % 2 = 0) then 1 else 0 := by
  unfold modePorts
  by_cases htwo : mode = 2 <;> simp [htwo]

/-! ## Bits of a group's two ports -/

/-- A set bit of two is cleared by subtraction, and the other stays. -/
theorem port_bit_off : ∀ x < 4, ∀ side < 2, x.testBit side = true →
    ((x - 2 ^ side) % 4).testBit side = false ∧ ((x - 2 ^ side) % 4).testBit (1 - side) = x.testBit (1 - side) := by decide

/-- A bit of two is set, and the other stays. -/
theorem port_bit_on : ∀ x < 4, ∀ side < 2,
    ((x ||| 2 ^ side) % 4).testBit side = true ∧ ((x ||| 2 ^ side) % 4).testBit (1 - side) = x.testBit (1 - side) := by decide

theorem bit_clear_iff (x n : Nat) : x / 2 ^ n % 2 = 0 ↔ x.testBit n = false := by
  rw [Nat.testBit_eq_decide_div_mod_eq, decide_eq_false_iff_not]
  omega

/-- A field of two bits holds less than 4. -/
theorem Dev.get_lt_four (d : Dev) {f : Fld} (hf : f.width = 2) (i k : Nat) : d.get f i k < 4 :=
  lt_of_lt_of_eq (Nat.mod_lt _ (Nat.two_pow_pos _)) (congrArg (2 ^ ·) hf)

/-! ## Training (R346) -/

/-- The losses of a port's lanes, written. -/
def Dev.lossesHeld (d : Dev) (port : Nat) (losses : List Byte) (n : Nat) : Dev :=
  (List.range n).foldl (fun a i => a.set R.NF_PORT_LOSS (losses.getD i 0#8).toNat ((portLane port + i) / 4 % 8)
    ((portLane port + i) % 4)) d

/-- The cable estimate and the partner's base page of a port, written. -/
def Dev.partnerHeld (d : Dev) (port cable partner : Nat) : Dev :=
  if port % 2 = 0 then
    ((d.set R.NF_PORT_CABLE_LEN_A cable (port / 2)).set R.NF_PORT_PARTNER_A_LO (partner % 2 ^ 32) (port / 2)).set
      R.NF_PORT_PARTNER_A_HI (partner / 2 ^ 32 % 2 ^ 16) (port / 2)
  else
    ((d.set R.NF_PORT_CABLE_LEN_B cable (port / 2)).set R.NF_PORT_PARTNER_B_LO (partner % 2 ^ 32) (port / 2)).set
      R.NF_PORT_PARTNER_B_HI (partner / 2 ^ 32 % 2 ^ 16) (port / 2)

/-- A port is shown up and trained. -/
def Dev.portUp (d : Dev) (port : Nat) : Dev :=
  ((d.set R.NF_PORT_STATUS_TRAINING (d.get R.NF_PORT_STATUS_TRAINING (port / 2) - 2 ^ (port % 2)) (port / 2)).set
    R.NF_PORT_STATUS_LINK_UP (d.get R.NF_PORT_STATUS_LINK_UP (port / 2) ||| 2 ^ (port % 2)) (port / 2)).set
    R.NF_PORT_STATUS_FEC_LOCK (d.get R.NF_PORT_STATUS_FEC_LOCK (port / 2) ||| 2 ^ (port % 2)) (port / 2)

/-- What LINK_TRAINING_DONE writes before its interrupts. -/
def Dev.trained (d : Dev) (port : Nat) (losses : List Byte) (cable partner : Nat) : Dev :=
  ((d.lossesHeld port losses losses.length).partnerHeld port cable partner).portUp port

theorem linkTrainingDone_trains {d : Dev} {port : Nat} (losses : List Byte) (cable partner : Nat)
    (htrains : (d.get R.NF_PORT_STATUS_TRAINING (port / 2)).testBit (port % 2) = true) :
    linkTrainingDone port losses cable partner d =
      ((d.trained port losses cable partner).raiseInt .nfp (port / 2) 2).raiseInt .nfp (port / 2) 3 := by
  unfold linkTrainingDone
  dsimp only
  rw [if_neg (by rw [bit_clear_iff, htrains]; decide)]
  have hup (e : Dev) : e.portUp port = ((e.set R.NF_PORT_STATUS_TRAINING
      (e.get R.NF_PORT_STATUS_TRAINING (port / 2) - 2 ^ (port % 2)) (port / 2)).set R.NF_PORT_STATUS_LINK_UP
      ((e.set R.NF_PORT_STATUS_TRAINING (e.get R.NF_PORT_STATUS_TRAINING (port / 2) - 2 ^ (port % 2)) (port / 2)).get
        R.NF_PORT_STATUS_LINK_UP (port / 2) ||| 2 ^ (port % 2)) (port / 2)).set R.NF_PORT_STATUS_FEC_LOCK
      ((e.set R.NF_PORT_STATUS_TRAINING (e.get R.NF_PORT_STATUS_TRAINING (port / 2) - 2 ^ (port % 2)) (port / 2)).get
        R.NF_PORT_STATUS_FEC_LOCK (port / 2) ||| 2 ^ (port % 2)) (port / 2) := by
    rw [Dev.get_set_parted _ _ _ _ (by decide), Dev.get_set_parted _ _ _ _ (by decide)]
    rfl
  rw [Dev.trained, hup]
  rfl

section
variable {port : Nat} (hport : port < 16)
include hport

/-- The lanes of a port within its group. -/
theorem portLane_group {i : Nat} (hi : i + 2 * (port % 2) < 4) :
    (portLane port + i) / 4 % 8 = port / 2 ∧ (portLane port + i) % 4 = 2 * (port % 2) + i := by
  unfold portLane
  omega

theorem Dev.lossesHeld_reported (d : Dev) (losses : List Byte) {n : Nat} (hn : n + 2 * (port % 2) ≤ 4) :
    Dev.Reported (groupKey (port / 2)) d (d.lossesHeld port losses n) := by
  induction n with
  | zero => exact Dev.Reported.refl d
  | succ n ih =>
    rw [Dev.lossesHeld, List.range_succ, List.foldl_append, List.foldl_cons, List.foldl_nil]
    have hlane := portLane_group hport (i := n) (by omega)
    refine (ih (by omega)).set _ _ _ _ (.inr ?_)
    rw [hlane.1]
    exact Fld.OfGroup.key (by decide) _ (by omega)

theorem Dev.lossesHeld_get (d : Dev) (losses : List Byte) {n : Nat} (hn : n + 2 * (port % 2) ≤ 4) {i : Nat} (hi : i < n) :
    (d.lossesHeld port losses n).get R.NF_PORT_LOSS (port / 2) (2 * (port % 2) + i) = (losses.getD i 0).toNat := by
  induction n with
  | zero => omega
  | succ n ih =>
    rw [Dev.lossesHeld, List.range_succ, List.foldl_append, List.foldl_cons, List.foldl_nil]
    obtain ⟨hgroup, hlane⟩ := portLane_group hport (i := n) (by omega)
    rw [hgroup, hlane]
    by_cases hlast : i = n
    · subst hlast
      rw [Dev.get_set_self]
      exact Nat.mod_eq_of_lt (BitVec.isLt _)
    · rw [Dev.get_set_ne _ _ _ _ _ _ _ _ (by unfold Fld.key; omega)]
      exact ih (by omega) (by omega)

end

theorem Dev.lossesHeld_other (d : Dev) (port : Nat) (losses : List Byte) (n : Nat) {f : Fld} (hf : R.NF_PORT_LOSS.Parted f)
    (i : Nat) : (d.lossesHeld port losses n).get f i = d.get f i := by
  induction n with
  | zero => rfl
  | succ n ih =>
    rw [Dev.lossesHeld, List.range_succ, List.foldl_append, List.foldl_cons, List.foldl_nil,
      Dev.get_set_rep hf (by omega) (by decide)]
    exact ih

/-- The places where a partner's data are held. -/
abbrev Fld.OfPartner (f : Fld) : Prop := f.OfGroup ∧ f.off ∈ [0x048, 0x04C, 0x050, 0x054, 0x058]

theorem Dev.partnerHeld_other (d : Dev) (port cable partner : Nat) {f : Fld} (hf : f.off < 0x1000 ∧ f.lo < 32)
    (hoff : f.off ∉ [0x048, 0x04C, 0x050, 0x054, 0x058]) (i : Nat) {k : Nat} (hk : k < 0x1000) :
    (d.partnerHeld port cable partner).get f i k = d.get f i k := by
  have hset {e : Dev} {g : Fld} (hg : g.OfPartner) (v j : Nat) : (e.set g v j).get f i k = e.get f i k :=
    Dev.get_set_rep ⟨.inl fun he => hoff (he ▸ hg.2), hg.1.2, hf⟩ (by decide) hk
  unfold Dev.partnerHeld
  split
  · rw [hset (by decide), hset (by decide), hset (by decide)]
  · rw [hset (by decide), hset (by decide), hset (by decide)]

/-- The cable estimate and the base page stand in the port's own registers. -/
theorem Dev.partnerHeld_get (d : Dev) (port : Nat) {cable partner : Nat} (hcable : cable < 32) (hpartner : partner < 2 ^ 48) :
    let e := d.partnerHeld port cable partner
    let g := port / 2
    if port % 2 = 0 then e.get R.NF_PORT_CABLE_LEN_A g = cable ∧
        e.get R.NF_PORT_PARTNER_A_HI g * 2 ^ 32 + e.get R.NF_PORT_PARTNER_A_LO g = partner
      else e.get R.NF_PORT_CABLE_LEN_B g = cable ∧
        e.get R.NF_PORT_PARTNER_B_HI g * 2 ^ 32 + e.get R.NF_PORT_PARTNER_B_LO g = partner := by
  have hwords : partner / 2 ^ 32 % 2 ^ 16 % 2 ^ 32 * 2 ^ 32 + partner % 2 ^ 32 % 2 ^ 32 = partner := by omega
  unfold Dev.partnerHeld
  dsimp only
  split
  · refine ⟨?_, ?_⟩
    · rw [Dev.get_set_parted _ _ _ _ (by decide), Dev.get_set_parted _ _ _ _ (by decide), Dev.get_set_self]
      exact Nat.mod_eq_of_lt hcable
    · rw [Dev.get_set_self, Dev.get_set_parted _ _ _ _ (by decide), Dev.get_set_self]
      exact hwords
  · refine ⟨?_, ?_⟩
    · rw [Dev.get_set_parted _ _ _ _ (by decide), Dev.get_set_parted _ _ _ _ (by decide), Dev.get_set_self]
      exact Nat.mod_eq_of_lt hcable
    · rw [Dev.get_set_self, Dev.get_set_parted _ _ _ _ (by decide), Dev.get_set_self]
      exact hwords

theorem Dev.portUp_other (d : Dev) (port : Nat) {f : Fld} (hf : f.off ≠ 0x040 ∧ f.off < 0x1000 ∧ f.lo < 32) (i : Nat)
    {k : Nat} (hk : k < 0x1000) : (d.portUp port).get f i k = d.get f i k := by
  have hset {e : Dev} {g : Fld} (hg : g.off = 0x040 ∧ g.lo < 32) (v j : Nat) : (e.set g v j).get f i k = e.get f i k :=
    Dev.get_set_rep ⟨.inl fun he => hf.1 (he ▸ hg.1), ⟨by rw [hg.1]; decide, hg.2⟩, hf.2⟩ (by decide) hk
  unfold Dev.portUp
  rw [hset (by decide), hset (by decide), hset (by decide)]

/-- A port that trained is up, and the other of its group is as it was. -/
theorem Dev.portUp_bits {d : Dev} {port : Nat}
    (htrains : (d.get R.NF_PORT_STATUS_TRAINING (port / 2)).testBit (port % 2) = true) :
    ((d.portUp port).get R.NF_PORT_STATUS_LINK_UP (port / 2)).testBit (port % 2) = true ∧
      ((d.portUp port).get R.NF_PORT_STATUS_TRAINING (port / 2)).testBit (port % 2) = false ∧
      ((d.portUp port).get R.NF_PORT_STATUS_LINK_UP (port / 2)).testBit (1 - port % 2) =
        (d.get R.NF_PORT_STATUS_LINK_UP (port / 2)).testBit (1 - port % 2) := by
  have hside : port % 2 < 2 := Nat.mod_lt _ (by decide)
  have hup : (d.portUp port).get R.NF_PORT_STATUS_LINK_UP (port / 2) =
      (d.get R.NF_PORT_STATUS_LINK_UP (port / 2) ||| 2 ^ (port % 2)) % 4 := by
    rw [Dev.portUp, Dev.get_set_parted _ _ _ _ (by decide), Dev.get_set_self]
    rfl
  have htrain : (d.portUp port).get R.NF_PORT_STATUS_TRAINING (port / 2) =
      (d.get R.NF_PORT_STATUS_TRAINING (port / 2) - 2 ^ (port % 2)) % 4 := by
    rw [Dev.portUp, Dev.get_set_parted _ _ _ _ (by decide), Dev.get_set_parted _ _ _ _ (by decide), Dev.get_set_self]
    rfl
  obtain ⟨hon, hother⟩ := port_bit_on _ (d.get_lt_four (f := R.NF_PORT_STATUS_LINK_UP) rfl (port / 2) 0) _ hside
  rw [hup, htrain]
  exact ⟨hon, (port_bit_off _ (d.get_lt_four rfl _ _) _ hside htrains).1, hother⟩

theorem Dev.trained_reported (d : Dev) {port : Nat} (hport : port < 16) {losses : List Byte} (cable partner : Nat)
    (hlen : losses.length + 2 * (port % 2) ≤ 4) :
    Dev.Reported (groupKey (port / 2)) d (d.trained port losses cable partner) := by
  have hkey {f : Fld} (hf : f.OfGroup) : markKey (f.key (port / 2) 0) ∨ groupKey (port / 2) (f.key (port / 2) 0) :=
    .inr (hf.key _ (by decide))
  have hlosses := d.lossesHeld_reported hport losses hlen
  have hpartner : Dev.Reported (groupKey (port / 2)) d
      ((d.lossesHeld port losses losses.length).partnerHeld port cable partner) :=
    .ite _ (((hlosses.set _ _ _ _ (hkey (by decide))).set _ _ _ _ (hkey (by decide))).set _ _ _ _ (hkey (by decide)))
      (((hlosses.set _ _ _ _ (hkey (by decide))).set _ _ _ _ (hkey (by decide))).set _ _ _ _ (hkey (by decide)))
  exact ((hpartner.set _ _ _ _ (hkey (by decide))).set _ _ _ _ (hkey (by decide))).set _ _ _ _ (hkey (by decide))

/-- A port that trains before its losses and its partner are written trains after. -/
theorem Dev.partnerHeld_status (d : Dev) (port : Nat) (losses : List Byte) (cable partner : Nat) {f : Fld}
    (hf : f.OfGroup ∧ f.off = 0x040) : ((d.lossesHeld port losses losses.length).partnerHeld port cable partner).get f
      (port / 2) = d.get f (port / 2) := by
  obtain ⟨⟨-, hplace⟩, hoff⟩ := hf
  rw [Dev.partnerHeld_other _ _ _ _ hplace (by rw [hoff]; decide) _ (by decide),
    Dev.lossesHeld_other _ _ _ _ ⟨.inl (by rw [hoff]; decide), by decide, hplace⟩]

/-! ## Link loss (R345, R374) -/

/-- FEC_LOCK without a port. -/
def Dev.lockLost (d : Dev) (port : Nat) : Dev :=
  if d.get R.NF_PORT_STATUS_FEC_LOCK (port / 2) / 2 ^ (port % 2) % 2 = 1 then
    d.set R.NF_PORT_STATUS_FEC_LOCK (d.get R.NF_PORT_STATUS_FEC_LOCK (port / 2) - 2 ^ (port % 2)) (port / 2)
  else d

/-- What LINK_DOWN writes before its interrupt. -/
def Dev.portDown (d : Dev) (port : Nat) : Dev :=
  let e := (d.set R.NF_PORT_STATUS_LINK_UP (d.get R.NF_PORT_STATUS_LINK_UP (port / 2) - 2 ^ (port % 2)) (port / 2)).lockLost port
  e.set R.NF_PORT_STATUS_TRAINING (e.get R.NF_PORT_STATUS_TRAINING (port / 2) ||| 2 ^ (port % 2)) (port / 2)

theorem linkDown_up {d : Dev} {port : Nat}
    (hup : (d.get R.NF_PORT_STATUS_LINK_UP (port / 2)).testBit (port % 2) = true) :
    linkDown port d = (d.portDown port).raiseInt .nfp (port / 2) 2 :=
  if_neg (by rw [bit_clear_iff, hup]; decide)

theorem Dev.lockLost_other (d : Dev) (port : Nat) {f : Fld} (hf : R.NF_PORT_STATUS_FEC_LOCK.Parted f) (i : Nat) :
    (d.lockLost port).get f i = d.get f i := by
  unfold Dev.lockLost
  split
  · exact d.get_set_parted _ _ _ hf
  · rfl

theorem Dev.lockLost_bit (d : Dev) (port : Nat) :
    ((d.lockLost port).get R.NF_PORT_STATUS_FEC_LOCK (port / 2)).testBit (port % 2) = false := by
  have hside : port % 2 < 2 := Nat.mod_lt _ (by decide)
  unfold Dev.lockLost
  split
  next hlock =>
    have hset : (d.get R.NF_PORT_STATUS_FEC_LOCK (port / 2)).testBit (port % 2) = true := by
      rw [Nat.testBit_eq_decide_div_mod_eq, decide_eq_true hlock]
    rw [Dev.get_set_self]
    exact (port_bit_off _ (d.get_lt_four rfl _ _) _ hside hset).1
  next hlock =>
    rw [← bit_clear_iff]
    omega

/-- A link that went down has lost its lock and trains, and the other of its group is as it was. -/
theorem Dev.portDown_bits {d : Dev} {port : Nat}
    (hup : (d.get R.NF_PORT_STATUS_LINK_UP (port / 2)).testBit (port % 2) = true) :
    ((d.portDown port).get R.NF_PORT_STATUS_LINK_UP (port / 2)).testBit (port % 2) = false ∧
      ((d.portDown port).get R.NF_PORT_STATUS_FEC_LOCK (port / 2)).testBit (port % 2) = false ∧
      ((d.portDown port).get R.NF_PORT_STATUS_TRAINING (port / 2)).testBit (port % 2) = true ∧
      ((d.portDown port).get R.NF_PORT_STATUS_LINK_UP (port / 2)).testBit (1 - port % 2) =
        (d.get R.NF_PORT_STATUS_LINK_UP (port / 2)).testBit (1 - port % 2) := by
  have hside : port % 2 < 2 := Nat.mod_lt _ (by decide)
  have hlink : (d.portDown port).get R.NF_PORT_STATUS_LINK_UP (port / 2) =
      (d.get R.NF_PORT_STATUS_LINK_UP (port / 2) - 2 ^ (port % 2)) % 4 := by
    rw [Dev.portDown, Dev.get_set_parted _ _ _ _ (by decide), Dev.lockLost_other _ _ (by decide), Dev.get_set_self]
    rfl
  obtain ⟨hoff, hother⟩ := port_bit_off _ (d.get_lt_four rfl _ _) _ hside hup
  rw [hlink]
  refine ⟨hoff, ?_, ?_, hother⟩
  · rw [Dev.portDown, Dev.get_set_parted _ _ _ _ (by decide)]
    exact Dev.lockLost_bit _ _
  · rw [Dev.portDown, Dev.get_set_self]
    exact (port_bit_on _ (Dev.get_lt_four _ rfl _ _) _ hside).1

theorem Dev.portDown_reported (d : Dev) (port : Nat) : Dev.Reported (groupKey (port / 2)) d (d.portDown port) := by
  have hkey {f : Fld} (hf : f.OfGroup) : markKey (f.key (port / 2) 0) ∨ groupKey (port / 2) (f.key (port / 2) 0) :=
    .inr (hf.key _ (by decide))
  have hlink := (Dev.Reported.refl d).set R.NF_PORT_STATUS_LINK_UP
    (d.get R.NF_PORT_STATUS_LINK_UP (port / 2) - 2 ^ (port % 2)) (port / 2) 0 (hkey (by decide))
  exact (Dev.Reported.ite _ (hlink.set _ _ _ _ (hkey (by decide))) hlink).set _ _ _ _ (hkey (by decide))

/-! ## A received frame (R345, R347, R374) -/

/-- A frame and its codewords, counted. -/
def Dev.frameReceived (d : Dev) (g corrected uncorrectable : Nat) : Dev :=
  let e := (d.bumpSat R.NF_PORT_RX g).bumpSat R.NF_PORT_FEC_CORR g 0 corrected
  if uncorrectable = 0 then e else (e.bumpSat R.NF_PORT_FEC_UNCORR g 0 uncorrectable).raiseInt .nfp g 4

/-- A counter of a group's page has risen. -/
def Dev.Up (d e : Dev) (g : Nat) (f : Fld) (n : Nat) : Prop := e.get f g = min (f.bound - 1) (d.get f g + n)

/-- What counting a frame leaves: the two counts, every field of the page but those of reception and INT_RAW, and the
faces. -/
structure Dev.Receives (d e : Dev) (g corrected : Nat) : Prop where
  rx : d.Up e g R.NF_PORT_RX 1
  corr : d.Up e g R.NF_PORT_FEC_CORR corrected
  others : ∀ f : Fld, f.OfGroup → f.off ∉ [0x010, 0x060, 0x068, 0x06C] → e.get f g = d.get f g
  face : e.face = d.face
  reported : Dev.Reported (groupKey g) d e

theorem Dev.frameReceived_receives (d : Dev) (g corrected uncorrectable : Nat) :
    d.Receives (d.frameReceived g corrected uncorrectable) g corrected := by
  have hkey {f : Fld} (hf : f.OfGroup) : markKey (f.key g 0) ∨ groupKey g (f.key g 0) := .inr (hf.key _ (by decide))
  have hcounted : d.Receives ((d.bumpSat R.NF_PORT_RX g).bumpSat R.NF_PORT_FEC_CORR g 0 corrected) g corrected := by
    refine ⟨?_, ?_, fun f hf hoff => ?_, rfl,
      ((Dev.Reported.refl d).bumpSat _ _ _ _ (hkey (by decide))).bumpSat _ _ _ _ (hkey (by decide))⟩
    · exact (Dev.get_set_parted _ _ _ _ (by decide)).trans (d.bumpSat_get_self _ _ _ _)
    · rw [Dev.Up, Dev.bumpSat_get_self, Dev.bumpSat, Dev.get_set_parted _ _ _ _ (by decide)]
    · obtain ⟨-, hplace⟩ := hf
      simp only [List.mem_cons, List.not_mem_nil, or_false, not_or] at hoff
      obtain ⟨-, hrx, hcorr, -⟩ := hoff
      rw [Dev.bumpSat, Dev.get_set_parted _ _ _ _ ⟨.inl (Ne.symm hcorr), by decide, hplace⟩, Dev.bumpSat,
        Dev.get_set_parted _ _ _ _ ⟨.inl (Ne.symm hrx), by decide, hplace⟩]
  unfold Dev.frameReceived
  dsimp only
  split
  · exact hcounted
  · obtain ⟨hrx, hcorr, hothers, hface, hreported⟩ := hcounted
    have hread (e : Dev) {f : Fld} (hf : f.OfGroup) (hraw : f.off ≠ 0x010) (hun : f.off ≠ 0x06C) :
        ((e.bumpSat R.NF_PORT_FEC_UNCORR g 0 uncorrectable).raiseInt .nfp g 4).get f g = e.get f g := by
      rw [Dev.raiseInt_group _ hf hraw _ _ (by decide)]
      exact Dev.get_set_parted _ _ _ _ ⟨.inl (Ne.symm hun), by decide, hf.2⟩
    refine ⟨?_, ?_, fun f hf hoff => ?_, (Dev.raiseInt_signals _ _ _ _).face.trans hface,
      (hreported.bumpSat _ _ _ _ (hkey (by decide))).raiseInt _ _ _ (.inr (groupKey_raw g))⟩
    · exact (hread _ (by decide) (by decide) (by decide)).trans hrx
    · exact (hread _ (by decide) (by decide) (by decide)).trans hcorr
    · have hne : f.off ≠ 0x010 ∧ f.off ≠ 0x06C := by
        simp only [List.mem_cons, List.not_mem_nil, or_false, not_or] at hoff
        exact ⟨hoff.1, hoff.2.2.2⟩
      exact (hread _ hf hne.1 hne.2).trans (hothers f hf hoff)

section
variable {d e : Dev} {port corrected : Nat} (h : d.Receives e (port / 2) corrected)
include h

/-- Counting a frame leaves what its filter reads. -/
theorem Dev.Receives.vlanOk (l : List Nat) : e.vlanOk port l = d.vlanOk port l := by
  unfold Dev.vlanOk Dev.on
  dsimp only
  rw [h.others R.NF_PORT_VLAN_VID_A (by decide) (by decide), h.others R.NF_PORT_VLAN_VID_B (by decide) (by decide),
    h.others R.NF_PORT_VLAN_EN_A (by decide) (by decide), h.others R.NF_PORT_VLAN_EN_B (by decide) (by decide)]

variable (hport : port < 16)
include hport

theorem Dev.Receives.common {f : Fld} (hf : f.blk = .nfc ∧ f.off < 0x1000 ∧ f.lo < 32) {k : Nat} (hk : k < 16) :
    e.get f 0 k = d.get f 0 k := h.reported.get_nfc hf (by omega) (by omega)

theorem Dev.Receives.ownAddress (v6 : Bool) (ip : Nat) : e.ownAddress port v6 ip = d.ownAddress port v6 ip := by
  have hcommon {f : Fld} (hf : f.blk = .nfc ∧ f.off < 0x1000 ∧ f.lo < 32) : e.get f 0 port = d.get f 0 port :=
    h.common hport hf hport
  unfold Dev.ownAddress Dev.portIpv6
  rw [hcommon (f := R.NF_ADDR_CTL) (by decide), hcommon (f := R.NF_ADDR_IPV4) (by decide),
    hcommon (f := R.NF_ADDR_IPV6_0) (by decide), hcommon (f := R.NF_ADDR_IPV6_1) (by decide),
    hcommon (f := R.NF_ADDR_IPV6_2) (by decide), hcommon (f := R.NF_ADDR_IPV6_3) (by decide)]

theorem Dev.Receives.udpOk (u : Datagram) : e.udpOk port u = d.udpOk port u := by
  unfold Dev.udpOk
  rw [h.ownAddress hport, h.common hport (f := R.NF_UDP) (by decide) (by decide)]

end

/-! ## The filter (R347, R349, R360, R361) -/

/-- A dropped frame is counted once, on its port's page. -/
structure Dev.DropsFrame (d e : Dev) (g corrected : Nat) (f : Fld) : Prop where
  drop : d.Up e g f 1
  rx : d.Up e g R.NF_PORT_RX 1
  corr : d.Up e g R.NF_PORT_FEC_CORR corrected
  reported : Dev.Reported (groupKey g) d e

/-- The counters of dropped frames. -/
abbrev Fld.OfDrops (f : Fld) : Prop := f = R.NF_PORT_DROP ∨ f = R.NF_PORT_AUTH_FAIL ∨ f = R.NF_PORT_REPLAY

theorem Dev.Receives.drops {d e : Dev} {port corrected : Nat} (h : d.Receives e (port / 2) corrected) {f : Fld}
    (hf : f.OfDrops) : d.DropsFrame (e.dropFrame port f) (port / 2) corrected f := by
  have hplace : f.OfGroup ∧ f.off ∉ [0x010, 0x060, 0x068, 0x06C] := by
    obtain rfl | rfl | rfl := hf <;> decide
  have hread {g : Fld} (hg : f.Parted g) : (e.dropFrame port f).get g (port / 2) = e.get g (port / 2) := by
    rw [Dev.dropFrame, Dev.occur_get]
    exact Dev.get_set_parted _ _ _ _ hg
  refine ⟨?_, (hread (by obtain rfl | rfl | rfl := hf <;> decide)).trans h.rx,
    (hread (by obtain rfl | rfl | rfl := hf <;> decide)).trans h.corr,
    (h.reported.bumpSat _ _ _ _ (.inr (hplace.1.key _ (by decide)))).occur _ _ _ _⟩
  rw [Dev.Up, Dev.dropFrame, Dev.occur_get, Dev.bumpSat_get_self, h.others f hplace.1 hplace.2]

section
variable {d : Dev} {x : EtherFrame} {corrected uncorrectable : Nat} (hport : x.src.port < 16)
  (hup : (d.get R.NF_PORT_STATUS_LINK_UP (x.src.port / 2)).testBit (x.src.port % 2) = true)
include hport hup

theorem ethernetFrame_up : ¬ (x.src.port ≥ 16 ∨
    d.get R.NF_PORT_STATUS_LINK_UP (x.src.port / 2) / 2 ^ (x.src.port % 2) % 2 = 0) := by
  rw [bit_clear_iff, hup]
  simp [hport]

theorem ethernetFrame_untagged (hvlan : d.vlanOk x.src.port x.vlans = false) : ethernetFrame x corrected uncorrectable d =
    (d.frameReceived (x.src.port / 2) corrected uncorrectable).dropFrame x.src.port R.NF_PORT_DROP := by
  have htags : (!(d.frameReceived (x.src.port / 2) corrected uncorrectable).vlanOk x.src.port x.vlans) = true := by
    rw [(d.frameReceived_receives _ _ _).vlanOk, hvlan]; rfl
  exact (if_neg (ethernetFrame_up hport hup)).trans (if_pos htags)

variable (hvlan : d.vlanOk x.src.port x.vlans = true)
include hvlan

omit hport hup in
theorem ethernetFrame_tags :
    ¬ (!(d.frameReceived (x.src.port / 2) corrected uncorrectable).vlanOk x.src.port x.vlans) = true := by
  rw [(d.frameReceived_receives _ _ _).vlanOk, hvlan]; decide

theorem ethernetFrame_pause (hbody : x.body = .pause) :
    ethernetFrame x corrected uncorrectable d = d.frameReceived (x.src.port / 2) corrected uncorrectable := by
  unfold ethernetFrame
  dsimp only
  rw [if_neg (ethernetFrame_up hport hup), hbody]
  exact if_neg (ethernetFrame_tags hvlan)

theorem ethernetFrame_other (hbody : x.body = .other) : ethernetFrame x corrected uncorrectable d =
    (d.frameReceived (x.src.port / 2) corrected uncorrectable).dropFrame x.src.port R.NF_PORT_DROP := by
  unfold ethernetFrame
  dsimp only
  rw [if_neg (ethernetFrame_up hport hup), hbody]
  exact if_neg (ethernetFrame_tags hvlan)

/-- An address resolution is answered for the port's own address alone. -/
theorem ethernetFrame_address {ip : Nat} {v6 : Bool} (hbody : x.body = if v6 then .neighbour ip else .arp ip) :
    ethernetFrame x corrected uncorrectable d =
      if d.ownAddress x.src.port v6 ip then ((d.frameReceived (x.src.port / 2) corrected uncorrectable).countTx x.src).send
        (.neighbourAnswer x.src ip (Config.portMac x.src.port).toNat)
      else (d.frameReceived (x.src.port / 2) corrected uncorrectable).dropFrame x.src.port R.NF_PORT_DROP := by
  rw [← (d.frameReceived_receives _ corrected uncorrectable).ownAddress hport]
  unfold ethernetFrame
  dsimp only
  rw [if_neg (ethernetFrame_up hport hup), hbody]
  cases v6 <;> exact if_neg (ethernetFrame_tags hvlan)

/-- A datagram goes on to its session's checks. -/
theorem ethernetFrame_datagram {u : Datagram} (hbody : x.body = .udp u) : ethernetFrame x corrected uncorrectable d =
    if !d.udpOk x.src.port u || !u.formOk then
      (d.frameReceived (x.src.port / 2) corrected uncorrectable).dropFrame x.src.port R.NF_PORT_DROP
    else if u.type = 0x01 ∨ u.type = 0x03 then d.frameReceived (x.src.port / 2) corrected uncorrectable
    else (d.frameReceived (x.src.port / 2) corrected uncorrectable).sessionFrame x.src u := by
  rw [← (d.frameReceived_receives _ corrected uncorrectable).udpOk hport]
  unfold ethernetFrame
  dsimp only
  rw [if_neg (ethernetFrame_up hport hup), hbody]
  exact if_neg (ethernetFrame_tags hvlan)

end

/-- The faces of both sides of a report replaced by one. -/
theorem Dev.Reported.withFace {own : Nat → Prop} {a b : Dev} (h : Dev.Reported own a b) (f : Face) :
    Dev.Reported own { a with face := f } { b with face := f } := by
  obtain ⟨hwork, hregs, -, hrings, hcounters, hshadow⟩ := h
  exact ⟨⟨hwork.sched, hwork.wires, hwork.eng, hwork.keys, hwork.cards, hwork.plinth, hwork.cs, hwork.life, hwork.gates,
    hwork.pair, hwork.power, hwork.hbm, hwork.free⟩, ⟨hregs.vals, hregs.eff, hregs.staged⟩, .of_eq rfl, hrings, hcounters,
    hshadow⟩

/-- The replay window takes a number that is above all it has, or one of its last 1,024 that it has not seen. -/
theorem Session.windowTakes_iff (y : Session) (seq : Nat) :
    y.windowTakes seq = true ↔ y.high < seq ∨ (y.high ≤ seq + 1023 ∧ seq ∉ y.seen) := by
  simp [Session.windowTakes]

section
variable {e : Dev} {src : Client} {u : Datagram}

theorem Dev.sessionFrame_unknown (h : u.auth = false ∨ Tab.look e.face.sessions u.session = none) :
    e.sessionFrame src u = e.dropFrame src.port R.NF_PORT_AUTH_FAIL := by
  unfold Dev.sessionFrame
  obtain hauth | hnone := h
  · split
    · rfl
    · exact if_pos (by rw [hauth]; rfl)
  · rw [hnone]

variable {y : Session} (hauth : u.auth = true) (hs : Tab.look e.face.sessions u.session = some y)
include hauth hs

theorem Dev.sessionFrame_replayed (hold : y.windowTakes u.seq = false) :
    e.sessionFrame src u = e.dropFrame src.port R.NF_PORT_REPLAY := by
  rw [Dev.sessionFrame, hs]
  exact (if_neg (by rw [hauth]; decide)).trans (if_neg (ne_true_of_eq_false hold))

theorem Dev.sessionFrame_accepted (hnew : y.windowTakes u.seq = true) : e.sessionFrame src u = ({ e with face := { e.face with
    sessions := Tab.put e.face.sessions u.session (y.accept u.seq src) } }).occur 0x070 none (src.port / 2) := by
  rw [Dev.sessionFrame, hs]
  exact (if_neg (by rw [hauth]; decide)).trans (if_pos hnew)

end

/-! ## The statement -/

theorem completes_ethernetFrame {s : State} {x : EtherFrame} {corrected uncorrectable : Nat} {P : Perm → Dev → Prop} {e : Dev}
    (heq : ethernetFrame x corrected uncorrectable s.dev = e) (h : P s.perm e) :
    Completes (.ethernetFrame x corrected uncorrectable) s P := ⟨_, rfl, rfl, heq ▸ h⟩

/-- Settles O44: a write of the modes is a fold over the groups, training and link loss are writes of one group's page, and a
frame is counted before its filter drops it, answers it or takes it. -/
theorem portsTrainAndFilterTheirFrames : Obligations.PortsTrainAndFilterTheirFrames := by
  refine ⟨?modes, ?trains, ?falls, ?frames⟩
  case modes =>
    classical
    intro s req v
    refine ⟨fun hsplit => ?_, fun hpairs => ?_⟩
    · exact completes_err (g := laneModeWrite req v.toNat) rfl ((laneModeWrite_eq _ _ _).trans (if_pos hsplit)) Blk.apart_nfc
    · have hwhole : ¬ splitsPair v.toNat := fun ⟨q, hq, hne⟩ => hne (hpairs q hq)
      refine completes_after (f := laneModeWrite req v.toNat) rfl ⟨rfl, ?_⟩
      rw [laneModeWrite_eq, if_neg hwhole]
      obtain ⟨hwork, hface, hgroups, -⟩ := s.dev.setLaneModes_set (laneMode v.toNat) (fun g => Nat.mod_lt _ (by decide))
        (List.range 8) List.nodup_range fun g hg => List.mem_range.mp hg
      refine ⟨hwork, hface, fun g hg => ?_⟩
      obtain ⟨hmode, hsame, hchanged⟩ := hgroups g (List.mem_range.mpr hg)
      exact ⟨hmode, hsame, fun hne => modePorts_eq g _ ▸ hchanged hne⟩
  case trains =>
    intro s port losses cable partner g side htrains hlen
    refine completes_after (f := linkTrainingDone port losses cable partner.toNat) rfl ⟨rfl, ?_⟩
    rw [linkTrainingDone_trains losses cable partner.toNat htrains]
    have hread {f : Fld} (hf : f.OfGroup) (hraw : f.off ≠ 0x010) {k : Nat} (hk : k < 0x1000) :
        (((s.dev.trained port losses cable partner.toNat).raiseInt .nfp (port / 2) 2).raiseInt .nfp (port / 2) 3).get f
          (port / 2) k = (s.dev.trained port losses cable partner.toNat).get f (port / 2) k := by
      rw [Dev.raiseInt_group _ hf hraw _ _ hk, Dev.raiseInt_group _ hf hraw _ _ hk]
    have hstatus {f : Fld} (hf : f.OfGroup ∧ f.off = 0x040) := s.dev.partnerHeld_status port losses cable partner.toNat hf
    obtain ⟨hup, hdone, hother⟩ := Dev.portUp_bits (d := (s.dev.lossesHeld port losses losses.length).partnerHeld port cable
      partner.toNat) (port := port) (by rw [hstatus (by decide)]; exact htrains)
    rw [hstatus (by decide)] at hother
    have hpartner := (s.dev.lossesHeld port losses losses.length).partnerHeld_get port cable.isLt partner.isLt
    have hheld {f : Fld} (hf : f.OfPartner) : (s.dev.trained port losses cable partner.toNat).get f (port / 2) =
        ((s.dev.lossesHeld port losses losses.length).partnerHeld port cable partner.toNat).get f (port / 2) := by
      refine Dev.portUp_other _ _ ⟨fun he => ?_, hf.1.2⟩ _ (by decide)
      have hoff := hf.2
      rw [he] at hoff
      exact absurd hoff (by decide)
    refine ⟨?_, ?_, ?_, fun i hi => ?_, ?_, ?_, Dev.raiseInt_bit _ (Blk.apart_nfp _) (by decide), ?_⟩
    · rw [hread (by decide) (by decide) (by decide)]; exact hup
    · rw [hread (by decide) (by decide) (by decide)]; exact hdone
    · rw [hread (by decide) (by decide) (by decide)]; exact hother
    · rw [hread (by decide) (by decide) (by omega), Dev.trained, Dev.portUp_other _ _ (by decide) _ (by omega),
        Dev.partnerHeld_other _ _ _ _ (by decide) (by decide) _ (by omega)]
      exact s.dev.lossesHeld_get port.isLt losses hlen hi
    · rw [hread (by decide) (by decide) (by decide), hread (by decide) (by decide) (by decide),
        hread (by decide) (by decide) (by decide), hread (by decide) (by decide) (by decide),
        hread (by decide) (by decide) (by decide), hread (by decide) (by decide) (by decide), hheld (by decide),
        hheld (by decide), hheld (by decide), hheld (by decide), hheld (by decide), hheld (by decide)]
      exact hpartner
    · exact Dev.raiseInt_bit_mono _ (Blk.apart_nfp _) (by decide) (Dev.raiseInt_bit _ (Blk.apart_nfp _) (by decide))
    · exact (((s.dev.trained_reported port.isLt cable partner.toNat hlen).raiseInt _ _ _ (.inr (groupKey_raw _))).raiseInt _ _ _
        (.inr (groupKey_raw _)))
  case falls =>
    intro s port g side hup
    refine completes_after (f := linkDown port) rfl ⟨rfl, ?_⟩
    rw [linkDown_up hup]
    obtain ⟨hlink, hlock, htrain, hother⟩ := Dev.portDown_bits hup
    refine ⟨?_, ?_, ?_, ?_, Dev.raiseInt_bit _ (Blk.apart_nfp _) (by decide),
      (s.dev.portDown_reported port).raiseInt _ _ _ (.inr (groupKey_raw _))⟩
    · rw [Dev.raiseInt_group _ (by decide) (by decide) _ _ (by decide)]; exact hlink
    · rw [Dev.raiseInt_group _ (by decide) (by decide) _ _ (by decide)]; exact hlock
    · rw [Dev.raiseInt_group _ (by decide) (by decide) _ _ (by decide)]; exact htrain
    · rw [Dev.raiseInt_group _ (by decide) (by decide) _ _ (by decide)]; exact hother
  case frames =>
    intro s x corrected uncorrectable port g up drops passes hport hlink
    have hreceives := s.dev.frameReceived_receives (x.src.port / 2) corrected uncorrectable
    have hdrops {f : Fld} (hf : f.OfDrops)
        (heq : ethernetFrame x corrected uncorrectable s.dev =
          (s.dev.frameReceived (x.src.port / 2) corrected uncorrectable).dropFrame x.src.port f) :
        Completes (.ethernetFrame x corrected uncorrectable) s (drops f) := by
      obtain ⟨hdrop, hrx, hcorr, hreported⟩ := hreceives.drops hf
      exact completes_ethernetFrame heq ⟨rfl, hdrop, hrx, hcorr, hreported⟩
    have hpasses {e : Dev} (hpage : ∀ f ∈ [R.NF_PORT_RX, R.NF_PORT_FEC_CORR, R.NF_PORT_DROP, R.NF_PORT_AUTH_FAIL,
        R.NF_PORT_REPLAY], e.get f (x.src.port / 2) =
          (s.dev.frameReceived (x.src.port / 2) corrected uncorrectable).get f (x.src.port / 2)) : passes e := by
      refine ⟨(hpage _ (by simp)).trans hreceives.rx, (hpage _ (by simp)).trans hreceives.corr, fun f hf => ?_⟩
      simp only [List.mem_cons, List.not_mem_nil, or_false] at hf
      obtain rfl | rfl | rfl := hf
      all_goals exact (hpage _ (by simp)).trans (hreceives.others _ (by decide) (by decide))
    refine ⟨fun hvlan => hdrops (.inl rfl) (ethernetFrame_untagged hport hlink hvlan), fun hvlan =>
      ⟨fun hbody => hdrops (.inl rfl) (ethernetFrame_other hport hlink hvlan hbody), fun hbody => completes_ethernetFrame
        (ethernetFrame_pause hport hlink hvlan hbody) ⟨rfl, hpasses fun _ _ => rfl, hreceives.reported⟩,
        fun ip v6 hbody => ⟨fun hown => ?_, fun hother => ?_⟩,
        fun u hbody => ⟨fun hbad => ?_, fun hudp hform hhello hfinish => ?_⟩⟩⟩
    · refine completes_ethernetFrame ((ethernetFrame_address hport hlink hvlan hbody).trans (if_pos hown)) ⟨rfl,
        hpasses fun f hf => ?_, ?_, List.mem_append_right _ (List.mem_singleton.mpr rfl),
        (hreceives.reported.bumpSat _ _ _ _ (.inr (Fld.OfGroup.key (by decide) _ (by decide)))).send _⟩
      · simp only [List.mem_cons, List.not_mem_nil, or_false] at hf
        obtain rfl | rfl | rfl | rfl | rfl := hf
        all_goals exact Dev.get_set_parted _ _ _ _ (by decide)
      · exact (Dev.bumpSat_get_self _ _ _ _ _).trans (by rw [hreceives.others _ (by decide) (by decide)])
    · exact hdrops (.inl rfl) ((ethernetFrame_address hport hlink hvlan hbody).trans (if_neg (ne_true_of_eq_false hother)))
    · refine hdrops (.inl rfl) ((ethernetFrame_datagram hport hlink hvlan hbody).trans (if_pos ?_))
      rw [Bool.or_eq_true, Bool.not_eq_true', Bool.not_eq_true']
      rw [not_and_or, Bool.not_eq_true, Bool.not_eq_true] at hbad
      exact hbad
    · have hsession : ethernetFrame x corrected uncorrectable s.dev =
          (s.dev.frameReceived (x.src.port / 2) corrected uncorrectable).sessionFrame x.src u :=
        (ethernetFrame_datagram hport hlink hvlan hbody).trans ((if_neg (by rw [hudp, hform]; decide)).trans
          (if_neg (by simp [hhello, hfinish])))
      refine ⟨fun hunknown => hdrops (.inr (.inl rfl)) ?_, fun y hauth hs => ⟨fun hold => hdrops (.inr (.inr rfl)) ?_,
        fun hnew => ?_⟩⟩
      · rw [hsession, Dev.sessionFrame_unknown (by rw [hreceives.face]; exact hunknown)]
      · rw [hsession, Dev.sessionFrame_replayed hauth (by rw [hreceives.face]; exact hs)
          (by rw [← Bool.not_eq_true, Session.windowTakes_iff]; exact hold)]
      · have haccepted := Dev.sessionFrame_accepted (src := x.src) hauth
          (show Tab.look (s.dev.frameReceived (x.src.port / 2) corrected uncorrectable).face.sessions u.session = some y by
            rw [hreceives.face]; exact hs) ((Session.windowTakes_iff y u.seq).mpr hnew)
        rw [hreceives.face] at haccepted
        have hface : (ethernetFrame x corrected uncorrectable s.dev).face = { s.dev.face with
            sessions := Tab.put s.dev.face.sessions u.session (y.accept u.seq x.src) } := by
          rw [hsession, haccepted]
          exact (Dev.occur_counts (own := fun _ => False) _ _ _ _ _).face
        refine completes_ethernetFrame rfl ⟨rfl, hpasses fun f _ => ?_, ?_, fun k hk => ?_, ?_⟩
        · rw [hsession, haccepted, Dev.occur_get]
          rfl
        · rw [hface]
          exact (Tab.look_put _ _ _ _).trans (if_pos rfl)
        · rw [hface]
          exact (Tab.look_put _ _ _ _).trans (if_neg hk.symm)
        · rw [hface, hsession, haccepted]
          exact (hreceives.reported.withFace _).occur _ _ _ _

end Sys2Proof.Machine

namespace Sys2Proof.Machine

/-! # O45: handshakes, and the sessions they open

HELLO_C, HELLO_S and FINISH_C (R354 to R358), late handshakes (R359), and the ends of sessions (R362). -/

/-! ## Sessions behind a report -/

/-- What maps each value of a table maps what the table lists. -/
theorem Tab.look_map {α β : Type} (g : α → β) (t : Tab α) (k : Nat) :
    Tab.look (t.map fun x => (x.1, g x.2)) k = (Tab.look t k).map g := by
  induction t with
  | nil => rfl
  | cons e t ih =>
    simp only [List.map_cons, Tab.look]
    split
    · rfl
    · exact ih

/-- A session without what it has queued (R531). -/
def Session.bare (x : Session) : Session := { x with unsent := [], dropped := false }

/-- Behind a report a session is listed that differs in what it has queued at most. -/
theorem Dev.SameFace.session {d e : Dev} (h : d.SameFace e) {id : Nat} {x : Session}
    (hx : Tab.look d.face.sessions id = some x) : ∃ y, Tab.look e.face.sessions id = some y ∧ y.bare = x.bare := by
  have hbare : (Tab.look e.face.sessions id).map Session.bare = some x.bare := by
    have hmap := congrArg (Tab.look · id) h.sessions
    exact (Tab.look_map Session.bare _ _).symm.trans (hmap.trans ((Tab.look_map Session.bare _ _).trans (congrArg _ hx)))
  exact Option.map_eq_some_iff.mp hbare

/-! ## The end of a handshake (R354, R357) -/

/-- The handshake is gone, its client has an ALERT with a status, and neither the other handshakes nor a session nor a stream
has changed. -/
def State.EndsHandshake (s : State) (id : Nat) (src : Client) (st : Status) (p : Perm) (d : Dev) : Prop :=
  p = s.perm ∧ Tab.look d.face.handshakes id = none ∧
    (∀ k, k ≠ id → Tab.look d.face.handshakes k = Tab.look s.dev.face.handshakes k) ∧ .alert src id st ∈ d.outbox ∧
    d.face.sessions = s.dev.face.sessions ∧ d.face.streams = s.dev.face.streams ∧
    ({ s.dev with keys := d.keys, free := d.free }).SameWork d

/-- The work but for the key island and the free bytes drawn. -/
theorem Dev.SameWork.but_keys {d e : Dev} (h : d.SameWork e) : ({ d with keys := e.keys, free := e.free }).SameWork e :=
  ⟨h.sched, h.wires, h.eng, rfl, h.cards, h.plinth, h.cs, h.life, h.gates, h.pair, h.power, h.hbm, rfl⟩

theorem Dev.failHandshake_ends {s : State} {e : Dev} (hface : e.face = s.dev.face) (hwork : s.dev.SameWork e) (id : Nat)
    (src : Client) (st : Status) : s.EndsHandshake id src st s.perm (e.failHandshake id src st) := by
  have hlook (k : Nat) : Tab.look (e.failHandshake id src st).face.handshakes k =
      if id = k then none else Tab.look s.dev.face.handshakes k := by
    rw [← hface]
    exact Tab.look_del _ _ _
  refine ⟨rfl, (hlook id).trans (if_pos rfl), fun k hk => (hlook k).trans (if_neg hk.symm),
    List.mem_append_right _ (List.mem_singleton.mpr rfl), show e.face.sessions = _ by rw [hface], show e.face.streams = _ by
      rw [hface], Dev.SameWork.but_keys ?_⟩
  exact ((hwork.trans (.of_parts e e.regs e.log _ e.outbox)).bumpSat _ _ _ _).send _

/-! ## HELLO_C (R354, R358) -/

/-- The session IDs that a new handshake may not take. -/
def Dev.usedIds (d : Dev) : List Nat := 0 :: (d.face.sessions.map (·.1) ++ d.face.handshakes.map (·.1))

/-- Numbers from one on, modulo 2^32, do not repeat within 2^32. -/
theorem nodup_range_shift (v : Nat) {n : Nat} (hn : n ≤ 2 ^ 32) :
    ((List.range n).map (fun i => (v + i) % 2 ^ 32)).Nodup := by
  refine List.Nodup.map_on (fun i hi j hj he => ?_) List.nodup_range
  rw [List.mem_range] at hi hj
  omega

/-- The session ID of a new handshake is not 0 and not in use: fewer are in use than are tried. -/
theorem Dev.freeSessionId_free {d : Dev} (hs : d.face.sessions.length ≤ 65536) (hh : d.face.handshakes.length < 4096)
    (v : Nat) : d.freeSessionId v ≠ 0 ∧ Tab.look d.face.sessions (d.freeSessionId v) = none ∧
      Tab.look d.face.handshakes (d.freeSessionId v) = none := by
  have hused (i : Nat) (hi : (!(decide (i = 0) || (Tab.look d.face.sessions i).isSome ||
      (Tab.look d.face.handshakes i).isSome)) = false) : i ∈ d.usedIds := by
    simp only [Bool.not_eq_false', Bool.or_eq_true, decide_eq_true_eq] at hi
    obtain (rfl | hsession) | hhandshake := hi
    · exact List.mem_cons_self
    · exact List.mem_cons_of_mem _ (List.mem_append_left _
        (Tab.mem_keys_of_look (Option.isSome_iff_ne_none.mp hsession)))
    · exact List.mem_cons_of_mem _ (List.mem_append_right _
        (Tab.mem_keys_of_look (Option.isSome_iff_ne_none.mp hhandshake)))
  obtain ⟨id, hid⟩ := find?_of_length_lt (nodup_range_shift v
    (n := d.face.sessions.length + d.face.handshakes.length + 2) (by omega)) (u := d.usedIds)
    (by simp [Dev.usedIds]) (fun i _ hi => hused i hi)
  have heq : d.freeSessionId v = id := by
    unfold Dev.freeSessionId
    dsimp only
    rw [hid]
    rfl
  have hfree := List.find?_some hid
  rw [heq]
  simpa [and_assoc] using hfree

section
variable {x : Hello} (hnonce : x.nonce.length = 32) (hpoint : x.point.length = 97) (hkem : x.kemKey.length = 1184)
  {lvl : Nat} (hlvl : lvl < 2) {d : Dev}
include hnonce hpoint hkem hlvl

theorem helloC_full (hfull : 4096 ≤ d.face.handshakes.length) :
    helloC lvl x d = (d.bumpSat R.NF_HS_DROPPED).blockEvent .nfc 0 4 := by
  rw [helloC, if_neg (by omega), if_neg (by omega), if_pos hfull]

/-- A handshake with room and healthy noise sources is kept under a free session ID, and its two jobs wait. -/
theorem helloC_starts (hroom : d.face.handshakes.length < 4096) (hfail : d.on R.RN_STATUS_FAIL = false) :
    ∃ (e : Dev) (v : Nat), d.Draws e 4 ∧ helloC lvl x d = (({ e with face := { e.face with
      handshakes := Tab.put e.face.handshakes (e.freeSessionId v) ⟨.jobs, x.src, x.pid, x.events, x.idePsk, x.nonce, [],
        x.point, x.kemKey, x.frame, [], .ok⟩ } }).vsSend (handshakeJob (e.freeSessionId v) 72000)).vsSend
          (handshakeJob (e.freeSessionId v) 60000) := by
  obtain ⟨e, hdraw, hdraws⟩ := Dev.drbgDraw_draws internalDrbg 4 hfail
  refine ⟨e, beNat (d.freeBytes 4), hdraws, ?_⟩
  rw [helloC, if_neg (by omega), if_neg (by omega), if_neg (by omega), hdraw]

end

/-! ## HELLO_S (R354, R355, R358) -/

/-- A key from 1 to n - 1 agrees on a secret with every point of P-384 (R274, R289). -/
theorem pkEcdh_p384_ok (x : Nat) {point : Bytes} (hform : p384.pointForm point = true)
    (hpoint : (p384.decode point).isSome = true) :
    (pkEcdh 2 (beBytes 48 (x % (p384.n - 1) + 1)) [point]).status = .ok := by
  have hlt : x % (p384.n - 1) < p384.n - 1 := Nat.mod_lt _ (by decide)
  have hkey : beNat (beBytes 48 (x % (p384.n - 1) + 1)) = x % (p384.n - 1) + 1 := by
    rw [beNat_beBytes]
    exact Nat.mod_eq_of_lt (lt_of_le_of_lt (Nat.succ_le_of_lt hlt) (by decide))
  obtain ⟨q, hq⟩ := Option.isSome_iff_exists.mp hpoint
  have hcurve : curveOf 2 = some p384 := rfl
  have hinput : inp [point] 0 = point := rfl
  unfold pkEcdh
  rw [hcurve]
  dsimp only
  rw [hinput, hform, if_neg (by decide), hkey, if_neg (by omega), hq]
  rfl

/-- An encapsulation key of the right length and form takes an encapsulation (R275, R289). -/
theorem pkKemEncaps_ok {set : KemSet} {key : Bytes} (rnd : Bytes) (hset : kemSet 0x21 = some set)
    (hlen : key.length = set.ekLen) (hkey : kemKeyOk set key = true) : (pkKemEncaps [[0x21#8], key] rnd).status = .ok := by
  have hcode : beNat (inp [[0x21#8], key] 0) = 0x21 := rfl
  have hinput : inp [[0x21#8], key] 1 = key := rfl
  unfold pkKemEncaps
  dsimp only
  rw [hcode, hset]
  dsimp only
  rw [hinput, if_neg (by simp [hlen]), hkey, if_neg (by decide)]
  rfl

/-- The two secrets agreed on, HELLO_S is sent and the handshake waits for FINISH_C. -/
theorem Dev.sendHelloS_sends {d : Dev} {id : Nat} {h : Handshake} (root rnd : Bytes) {set : KemSet}
    (hform : p384.pointForm h.pointC = true) (hpoint : (p384.decode h.pointC).isSome = true) (hset : kemSet 0x21 = some set)
    (hlen : h.kemKeyC.length = set.ekLen) (hkey : kemKeyOk set h.kemKeyC = true) :
    ∃ nonce point cipher sig okm : Bytes, d.sendHelloS id h root rnd =
      (({ d with face := { d.face with handshakes := Tab.put d.face.handshakes id { h with
        stage := .helloSent, nonceM := nonce, okm := okm } } }).countTx h.src).send
        (.helloS h.src id nonce point cipher (match d.keys.certificate with | some c => c.1 | none => []) sig) := by
  unfold Dev.sendHelloS
  dsimp only
  rw [if_neg (not_not_intro (pkEcdh_p384_ok _ hform hpoint)), if_neg (not_not_intro (pkKemEncaps_ok _ hset hlen hkey))]
  exact ⟨_, _, _, _, _, rfl⟩

section
variable {lvl id : Nat} {d : Dev} {h : Handshake} (hh : Tab.look d.face.handshakes id = some h) (hstage : h.stage = .jobs)
  (hidle : d.handshakeBusy id = false) (hlvl : lvl < 2)
include hh hstage hidle hlvl

theorem helloS_failed (hfailed : h.failed ≠ .ok) : helloS lvl id d = d.failHandshake id h.src h.failed := by
  rw [helloS, hh]
  dsimp only
  rw [if_neg (by simp [hstage, hidle]), if_neg (by omega), if_pos hfailed]

variable (hok : h.failed = .ok)
include hok

theorem helloS_rootless (hroot : d.keys.root = none) : helloS lvl id d = d.failHandshake id h.src .rootAbsent := by
  rw [helloS, hh]
  dsimp only
  rw [if_neg (by simp [hstage, hidle]), if_neg (by omega), if_neg (not_not_intro hok), hroot]

theorem helloS_answers {root : Bytes} (hroot : d.keys.root = some root) (hfail : d.on R.RN_STATUS_FAIL = false) :
    ∃ e, d.Draws e 194 ∧ helloS lvl id d = e.sendHelloS id h root (d.freeBytes 194) := by
  obtain ⟨e, hdraw, hdraws⟩ := Dev.drbgDraw_draws internalDrbg 194 hfail
  refine ⟨e, hdraws, ?_⟩
  rw [helloS, hh]
  dsimp only
  rw [if_neg (by simp [hstage, hidle]), if_neg (by omega), if_neg (not_not_intro hok), hroot, hdraw]

end

/-! ## FINISH_C (R357, R360, R370) -/

theorem finishC_dropped {d : Dev} {id : Nat} {auth : Bool} (lvl : Nat) (src : Client) (c : ClientCert)
    (hdrop : ∀ h, Tab.look d.face.handshakes id = some h → h.stage ≠ .helloSent ∨ auth = false) :
    finishC lvl src id auth c d = d.dropFrame src.port R.NF_PORT_AUTH_FAIL := by
  unfold finishC
  cases hh : Tab.look d.face.handshakes id with
  | none => rfl
  | some h =>
    have hcase : (!auth) = true ∨ h.stage ≠ .helloSent := by
      rw [Bool.not_eq_true']
      exact (hdrop h hh).symm
    exact if_pos hcase

/-- Counting an event leaves what the checks of FINISH_C read. -/
theorem Dev.occur_finish (d : Dev) (code q : Nat) (h : Handshake) (c : ClientCert) :
    (d.occur code none q).finishFault h c = d.finishFault h c ∧ (d.occur code none q).bound h.pid = d.bound h.pid := by
  obtain ⟨l, hl⟩ := d.occur_log code none q 1
  rw [hl]
  exact ⟨rfl, rfl⟩

section
variable {d : Dev} {id lvl : Nat} {h : Handshake} (src : Client) {c : ClientCert}
  (hh : Tab.look d.face.handshakes id = some h) (hstage : h.stage = .helloSent) (hlvl : lvl < 2)
include hh hstage hlvl

theorem finishC_fails {st : Status} (hfault : d.finishFault h c = some st) :
    finishC lvl src id true c d = (d.occur 0x070 none (src.port / 2)).failHandshake id src st := by
  obtain ⟨hfinish, -⟩ := d.occur_finish 0x070 (src.port / 2) h c
  rw [finishC, hh]
  dsimp only
  rw [if_neg (by simp [hstage]), if_neg (by omega), hfinish, hfault]

theorem finishC_opens {t : Nat} (hfault : d.finishFault h c = none) (hbound : d.bound h.pid = some t) :
    finishC lvl src id true c d = (d.occur 0x070 none (src.port / 2)).openSession id src h t := by
  obtain ⟨hfinish, hpid⟩ := d.occur_finish 0x070 (src.port / 2) h c
  rw [finishC, hh]
  dsimp only
  rw [if_neg (by simp [hstage]), if_neg (by omega), hfinish, hfault, hpid, hbound]

end

/-- The session that a handshake opens: H is 1 (R360). -/
def Handshake.opens (h : Handshake) (target : Nat) (src : Client) : Session :=
  ⟨h.pid, target, h.events, h.idePsk, 1, [1], src, 1, [], false, h.okm.take 72⟩

/-- What the opening of a session leaves. -/
structure Dev.OpensSession (d e : Dev) (id : Nat) (src : Client) (h : Handshake) (t : Nat) : Prop where
  session : ∃ x, Tab.look e.face.sessions id = some x ∧ x.bare = h.opens t src
  handshakes : e.face.handshakes = Tab.del d.face.handshakes id
  sent : .finishS src id t (d.get R.NF_SESSION_IDLE) ∈ e.outbox
  raised : (e.get (R.INT_RAW .nfc)).testBit 2 = true
  psk : h.idePsk = true → t = 256 → 72 < h.okm.length → e.face.psk = some (id, h.okm.drop 72)
  work : d.SameWork e

theorem Dev.openSession_opens (d : Dev) (id : Nat) (src : Client) (h : Handshake) (t : Nat) :
    d.OpensSession (d.openSession id src h t) id src h t := by
  unfold Dev.openSession
  dsimp only
  generalize hd1 : ({ d with face := _ } : Dev) = d1
  have hface := (((d1.countTx src).send (.finishS src id t (d.get R.NF_SESSION_IDLE))).blockEvent_reported .nfc 0 2).face
  have hopened : Tab.look d1.face.sessions id = some (h.opens t src) := by
    rw [← hd1]
    exact (Tab.look_put _ _ _ _).trans (if_pos rfl)
  refine ⟨hface.session hopened, ?_, ?_, Dev.blockEvent_bit _ (Blk.apart_zero (by decide)) (by decide),
    fun hide ht hlen => ?_, ?_⟩
  · rw [hface.handshakes, ← hd1]
    rfl
  · exact (Dev.Sends.refl _).blockEvent _ _ _ |>.mem (List.mem_append_right _ (List.mem_singleton.mpr rfl))
  · rw [hface.psk, ← hd1]
    exact if_pos (by simp [hide, ht, hlen, managerTarget])
  · rw [← hd1]
    exact (((Dev.SameWork.of_parts d d.regs d.log _ d.outbox).bumpSat _ _ _ _).send _).blockEvent _ _ _

/-! ## The end of a session (R362) -/

/-- A live session is taken out with its partial requests and its streams, and its end is raised. -/
theorem Dev.endSession_live {d : Dev} {id : Nat} {x : Session} (hx : Tab.look d.face.sessions id = some x) :
    d.endSession id = ({ d with face := { d.face with
      sessions := Tab.del d.face.sessions id
      partials := Tab.del d.face.partials id
      streams := d.face.streams.filter (fun e => e.2.session ≠ id) } }).blockEvent .nfc 0 3 := by
  rw [Dev.endSession, hx]

theorem Dev.endSession_none {d : Dev} {id : Nat} (hnone : Tab.look d.face.sessions id = none) : d.endSession id = d := by
  rw [Dev.endSession, hnone]

/-! ## The statement -/

theorem completes_helloC {s : State} {x : Hello} {P : Perm → Dev → Prop}
    (hp : P s.perm (helloC (s.dev.workLevel s.perm.level) x s.dev)) : Completes (.helloC x) s P := ⟨_, rfl, rfl, hp⟩

theorem completes_helloS {s : State} {session : Word} {P : Perm → Dev → Prop}
    (hp : P s.perm (helloS (s.dev.workLevel s.perm.level) session.toNat s.dev)) : Completes (.helloS session) s P :=
  ⟨_, rfl, rfl, hp⟩

theorem completes_finishC {s : State} {src : Client} {session : Word} {auth : Bool} {c : ClientCert} {P : Perm → Dev → Prop}
    (hp : P s.perm (finishC (s.dev.workLevel s.perm.level) src session.toNat auth c s.dev)) :
    Completes (.finishC src session auth c) s P := ⟨_, rfl, rfl, hp⟩

/-- Settles O45: each command is its one change of the face's tables, with what it sends, raises and draws. -/
theorem handshakesOpenSessions : Obligations.HandshakesOpenSessions := by
  refine ⟨?hello, ?answer, ?finish, ?late, ?gone⟩
  case hello =>
    intro s x hnonce hpoint hkem hlvl hsessions
    refine ⟨fun hroom hfail => completes_helloC ⟨rfl, ?_⟩, fun hfull => completes_helloC ⟨rfl, ?_⟩⟩
    · obtain ⟨e, v, hdraws, heq⟩ := helloC_starts hnonce hpoint hkem hlvl hroom hfail
      obtain ⟨t, g, rfl⟩ := hdraws.shape
      obtain ⟨hzero, hsession, hhandshake⟩ := Dev.freeSessionId_free (d := { s.dev with
        regs := { s.dev.regs with vals := t }, keys := { s.dev.keys with drbgs := g }, free := s.dev.free + 4 }) hsessions
        hroom v
      rw [heq]
      refine ⟨_, hzero, hsession, hhandshake, (Tab.look_put _ _ _ _).trans (if_pos rfl),
        fun k hk => (Tab.look_put _ _ _ _).trans (if_neg hk.symm), rfl, List.append_assoc _ _ _, ?_⟩
      exact ⟨rfl, rfl, rfl, rfl, rfl, rfl, rfl, rfl, rfl, rfl, rfl, rfl, rfl⟩
    · have hmark : ¬ markKey (R.NF_HS_DROPPED.key 0 0) := markKey_false _ _ _ (by decide) (by decide) (by decide)
        (by decide) (by decide)
      have hraw : R.NF_HS_DROPPED.key 0 0 ≠ (R.INT_RAW .nfc).key 0 0 := by decide
      rw [helloC_full hnonce hpoint hkem hlvl hfull]
      refine ⟨(Dev.blockEvent_get _ hmark hraw).trans (Dev.bumpSat_get_self _ _ _ _ _),
        Dev.blockEvent_bit _ (Blk.apart_zero (by decide)) (by decide), ?_⟩
      · exact ((Dev.Reported.refl _).bumpSat _ _ _ _ (.inr (.inl rfl))).blockEvent _ _ _ (.inr (.inr (reportKey_raw _ _)))
  case answer =>
    intro s session h root hh hstage hidle hlvl
    refine ⟨fun hfailed => completes_helloS ?_, fun hok hroot => completes_helloS ?_,
      fun set hok hroot hfail hform hpoint hset hlen hkey => completes_helloS ⟨rfl, ?_⟩⟩
    · rw [helloS_failed hh hstage hidle hlvl hfailed]
      exact Dev.failHandshake_ends rfl (.refl _) _ _ _
    · rw [helloS_rootless hh hstage hidle hlvl hok hroot]
      exact Dev.failHandshake_ends rfl (.refl _) _ _ _
    · obtain ⟨e, hdraws, heq⟩ := helloS_answers hh hstage hidle hlvl hok hroot hfail
      obtain ⟨t, g, rfl⟩ := hdraws.shape
      obtain ⟨nonce, point, cipher, sig, okm, hsends⟩ := Dev.sendHelloS_sends (id := session.toNat) (d := { s.dev with
        regs := { s.dev.regs with vals := t }, keys := { s.dev.keys with drbgs := g }, free := s.dev.free + 194 }) root
        (s.dev.freeBytes 194) hform hpoint hset hlen hkey
      rw [heq, hsends]
      refine ⟨nonce, point, cipher, sig, okm, rfl, (Tab.look_put _ _ _ _).trans (if_pos rfl),
        fun k hk => (Tab.look_put _ _ _ _).trans (if_neg hk.symm), rfl, rfl, ?_⟩
      exact ⟨rfl, rfl, rfl, rfl, rfl, rfl, rfl, rfl, rfl, rfl, rfl, rfl, rfl⟩
  case finish =>
    intro s src session auth c
    refine ⟨fun hdrop => completes_finishC ⟨rfl, ?_⟩, fun h hh hstage hauth hlvl =>
      ⟨fun st hfault => completes_finishC ?_, fun t hfault hbound => completes_finishC ⟨rfl, ?_⟩⟩⟩
    · rw [finishC_dropped _ _ _ hdrop]
      refine ⟨Dev.occur_face _ _ _ _ _, ((Dev.SameWork.refl _).bumpSat _ _ _ _).occur _ _ _ _, ?_⟩
      rw [Dev.dropFrame, Dev.occur_get, Dev.bumpSat_get_self]
    · rw [hauth, finishC_fails src hh hstage hlvl hfault]
      exact Dev.failHandshake_ends (Dev.occur_face _ _ _ _ _) ((Dev.SameWork.refl _).occur _ _ _ _) _ _ _
    · rw [hauth, finishC_opens src hh hstage hlvl hfault hbound]
      obtain ⟨hsession, hhandshakes, hsent, hraised, hpsk, hwork⟩ :=
        (s.dev.occur 0x070 none (src.port / 2)).openSession_opens session.toNat src h t
      rw [Dev.occur_get] at hsent
      rw [Dev.occur_face] at hhandshakes
      refine ⟨hsession, ?_, fun k hk => ?_, hsent, hraised, hpsk, ((Dev.SameWork.refl _).occur _ _ _ _).trans hwork⟩
      · rw [hhandshakes]
        exact (Tab.look_del _ _ _).trans (if_pos rfl)
      · rw [hhandshakes]
        exact (Tab.look_del _ _ _).trans (if_neg hk.symm)
  case late =>
    intro s session h hh hstage
    refine completes_after rfl ⟨rfl, ?_⟩
    rw [handshakeTimeout, hh]
    exact if_pos hstage
  case gone =>
    intro s h session x
    have hgone {id : Nat} (hx : Tab.look s.dev.face.sessions id = some x) :
        ((s.dev.endSession id).get (R.INT_RAW .nfc)).testBit 3 = true ∧ ({ s.dev with face := { s.dev.face with
          sessions := Tab.del s.dev.face.sessions id
          partials := Tab.del s.dev.face.partials id
          streams := s.dev.face.streams.filter (fun e => e.2.session ≠ id) } }).Reported (fun key => reportKey key)
          (s.dev.endSession id) := by
      rw [Dev.endSession_live hx]
      exact ⟨Dev.blockEvent_bit _ (Blk.apart_zero (by decide)) (by decide),
        (Dev.Reported.refl _).blockEvent _ _ _ (.inr (reportKey_raw _ _))⟩
    exact ⟨fun hx => completes_after (f := fun d => d.endSession _) rfl ⟨rfl, hgone hx⟩,
      fun hx => ⟨completes_after (f := fun d => d.endSession _) rfl ⟨rfl, hgone hx⟩,
        completes_after (f := fun d => d.endSession _) rfl ⟨rfl, hgone hx⟩⟩,
      fun hnone => completes_after (f := fun d => d.endSession _) rfl ⟨rfl, Dev.endSession_none hnone⟩⟩

end Sys2Proof.Machine

namespace Sys2Proof.Machine

/-! # O47: rings, their doorbells, and the PCIe link

Doorbells and ring settings (R366 to R368, R377), configuration requests and the link (R365, R369, R530), and the SPDM and
IDE messages (R370). -/

/-! ## The pages of ring pairs (R376, R377) -/

/-- Where a ring pair shows its errors and interrupts: its page of the bay's window, or the HF page for the manager. -/
def ringPage (b : Blk) (owner : Nat) : Blk × Nat := if owner < 256 then (b, owner) else (.hf, 0)

/-- The pages of ring pairs are neither EV's nor IC's. -/
theorem ringPage_apart {b : Blk} (hb : b = .hq ∨ b = .hqd) (owner : Nat) :
    (ringPage b owner).1.apart (ringPage b owner).2 := by
  unfold ringPage
  split
  · constructor <;> obtain rfl | rfl := hb <;> simp only [Blk.page, Blk.basePage, Blk.stride] <;> omega
  · exact Blk.apart_zero (by decide)

theorem Dev.ringErr_eq (d : Dev) (b : Blk) (owner : Nat) (st : Status) :
    ∃ req, d.ringErr b owner st = d.err (ringPage b owner).1 (ringPage b owner).2 req st := by
  unfold Dev.ringErr ringPage
  split <;> exact ⟨_, rfl⟩

theorem Dev.ringPasidError_eq (d : Dev) (owner : Nat) :
    ∃ req, d.ringPasidError owner = d.err (ringPage .hq owner).1 (ringPage .hq owner).2 req .ringPasid := by
  unfold Dev.ringPasidError ringPage
  split <;> exact ⟨_, rfl⟩

/-- A command that a ring pair refuses shows its status there, and reports. -/
theorem completes_ringErr {c : Instr} {s : State} {g : Dev → Dev} {b : Blk} {owner : Nat} {st : Status}
    (hb : b = .hq ∨ b = .hqd) (hc : exec c s = s.after g) (hg : g s.dev = s.dev.ringErr b owner st) :
    Completes c s (s.Refuses (ringPage b owner).1 (ringPage b owner).2 st) := by
  obtain ⟨req, hreq⟩ := s.dev.ringErr_eq b owner st
  exact completes_err hc (hg.trans hreq) (ringPage_apart hb owner)

/-- An interrupt and an error of a ring pair leave the fields of its page. -/
theorem Dev.Reported.get_ring {d e : Dev} (h : Dev.Reported reportKey d e) {f : Fld}
    (hf : f.blk = .hq ∧ f.off ≠ 0x010 ∧ f.off ≠ 0x024 ∧ f.off < 0x1000 ∧ f.lo < 32) (owner : Nat) {ring : Nat}
    (hring : ring < 4) : e.get f owner ring = d.get f owner ring := by
  obtain ⟨hblk, hraw, herr, hoff, hlo⟩ := hf
  exact h.get f owner ring (ringKey_mark ⟨hblk, hoff, hlo⟩ owner (by omega))
    (reportKey_false f owner ring hraw herr hoff hlo (by omega))

/-- The host-face state of ring pairs stays with the faces. -/
theorem Dev.SameFace.hostRing {d e : Dev} (h : d.SameFace e) (owner ring : Nat) :
    e.hostRing owner ring = d.hostRing owner ring := by
  rw [Dev.hostRing, h.rings, ← Dev.hostRing]

/-! ## Doorbells (R367, R368) -/

section
variable {d : Dev} {owner ring v : Nat} {pasid : Option Nat} {act : Dev → Dev}

theorem Dev.doorbell_dropped (hother : ∃ x, pasid = some x ∧ x ≠ d.get R.HQ_PASID owner ring) :
    d.doorbell owner ring pasid v act = d := by
  obtain ⟨x, rfl, hne⟩ := hother
  exact if_pos (by simp [hne])

variable (hown : ∀ x, pasid = some x → x = d.get R.HQ_PASID owner ring)
include hown

theorem Dev.doorbell_own : d.doorbell owner ring pasid v act =
    if low 16 v ≥ d.ringSize owner ring then d.ringErr .hqd owner .inputRange else act d := by
  refine if_neg ?_
  cases pasid with
  | none => simp
  | some x => simp [hown x rfl]

theorem Dev.doorbell_refused (hrange : d.ringSize owner ring ≤ low 16 v) :
    d.doorbell owner ring pasid v act = d.ringErr .hqd owner .inputRange :=
  (Dev.doorbell_own hown).trans (if_pos hrange)

theorem Dev.doorbell_acts (hrange : low 16 v < d.ringSize owner ring) : d.doorbell owner ring pasid v act = act d :=
  (Dev.doorbell_own hown).trans (if_neg (Nat.not_le.mpr hrange))

/-- A ring whose PASID is bound to no other target takes its new tail. -/
theorem hqDoorbell_tail (hrange : low 16 v < d.ringSize owner ring)
    (hbound : d.bound (d.get R.HQ_PASID owner ring) = none ∨ d.bound (d.get R.HQ_PASID owner ring) = some owner) :
    hqDoorbell owner ring pasid v d = d.setHostRing owner ring { d.hostRing owner ring with tail := low 16 v } := by
  refine (Dev.doorbell_acts hown hrange).trans (if_neg ?_)
  rintro ⟨-, hsome, hne⟩
  obtain hnone | hsame := hbound
  · exact absurd (hsome.symm.trans (congrArg Option.isSome hnone)) (by decide)
  · exact hne hsame

/-- A ring that would fetch under a PASID bound to another target halts. -/
theorem hqDoorbell_halts {t : Nat} (hrange : low 16 v < d.ringSize owner ring)
    (hbound : d.bound (d.get R.HQ_PASID owner ring) = some t) (hne : t ≠ owner)
    (hfetch : (d.setHostRing owner ring { d.hostRing owner ring with tail := low 16 v }).mayFetch owner ring = true) :
    hqDoorbell owner ring pasid v d = ((d.setHostRing owner ring
      { d.hostRing owner ring with tail := low 16 v }).haltRing owner ring).ringPasidError owner :=
  (Dev.doorbell_acts hown hrange).trans (if_pos ⟨hfetch, congrArg Option.isSome hbound, fun he =>
    hne (Option.some.inj (hbound.symm.trans he))⟩)

end

/-- What a doorbell that is taken writes: the host-face state of one ring pair. -/
theorem Dev.setHostRing_writes (d : Dev) (owner : Fin 257) (ring : Fin 4) (x : HostRing) :
    (d.setHostRing owner ring x).hostRing owner ring = x ∧
      (∀ (o : Fin 257) (r : Fin 4), (o, r) ≠ (owner, ring) → (d.setHostRing owner ring x).hostRing o r = d.hostRing o r) ∧
      { d with face := { d.face with rings := (d.setHostRing owner ring x).face.rings } } = d.setHostRing owner ring x := by
  refine ⟨Dev.hostRing_setHostRing _ _ _ _, fun o r hne => ?_, rfl⟩
  have hplace : owner.val * 4 + ring.val ≠ o.val * 4 + r.val := fun he =>
    hne (Prod.ext (Fin.ext (show o.val = owner.val by omega)) (Fin.ext (show r.val = ring.val by omega)))
  exact (Tab.get_set _ _ _ _ _).trans (if_neg hplace)

/-- A ring that halts shows it with the error of its PASID, and nothing else but a report has happened. -/
theorem Dev.halt_shows (d : Dev) (owner : Nat) {ring : Nat} (hring : ring < 4) :
    ((d.haltRing owner ring).ringPasidError owner).on R.HQ_STATUS_HALTED owner ring = true ∧
      ((d.haltRing owner ring).ringPasidError owner).get (R.ERR_CODE (ringPage .hq owner).1) (ringPage .hq owner).2 =
        Status.ringPasid.code ∧
      Dev.Reported reportKey (d.set R.HQ_STATUS_HALTED 1 owner ring) ((d.haltRing owner ring).ringPasidError owner) := by
  have hreported : Dev.Reported reportKey (d.set R.HQ_STATUS_HALTED 1 owner ring)
      ((d.haltRing owner ring).ringPasidError owner) :=
    (Dev.raiseHalted_reported _ _).trans (Dev.ringPasidError_reported _ _)
  refine ⟨?_, ?_, hreported⟩
  · rw [Dev.on, hreported.get_ring (by decide) _ hring, Dev.get_set_self]
    rfl
  · obtain ⟨req, hreq⟩ := (d.haltRing owner ring).ringPasidError_eq owner
    rw [hreq]
    exact Dev.err_code _ _ _ (ringPage_apart (.inl rfl) owner)

/-! ## Ring settings (R366, R377) -/

/-- A Bool stands in a field of one bit. -/
theorem b2n_mod_two (x : Bool) : (b2n x % 2 == 1) = x := by cases x <;> rfl

/-- Clearing EN writes EN and RUNNING, which shows whether completions are outstanding. -/
theorem Dev.ringDisabled (d : Dev) (owner : Nat) {ring : Nat} (hring : ring < 4) :
    let e := (d.set R.HQ_CFG_EN 0 owner ring).showRunning owner ring
    e.on R.HQ_CFG_EN owner ring = false ∧
      e.on R.HQ_STATUS_RUNNING owner ring = decide ((d.hostRing owner ring).inflight ≠ 0) ∧
      (∀ key, key ≠ R.HQ_CFG_EN.key owner ring → key ≠ R.HQ_STATUS_RUNNING.key owner ring →
        Tab.look e.regs.vals key = Tab.look d.regs.vals key) ∧ { d with regs := e.regs } = e := by
  have hen : (d.set R.HQ_CFG_EN 0 owner ring).on R.HQ_CFG_EN owner ring = false := by
    rw [Dev.on, Dev.get_set_self]
    rfl
  refine ⟨?_, ?_, fun key hkey hrun => ?_, rfl⟩
  · rw [Dev.on, Dev.showRunning, Dev.get_set_rep (by decide) (by omega) (by omega)]
    exact hen
  · rw [Dev.on, Dev.showRunning, Dev.get_set_self, hen, Bool.false_or]
    exact b2n_mod_two _
  · exact (Dev.look_set _ _ _ _ _ _ hrun.symm).trans (Dev.look_set _ _ _ _ _ _ hkey.symm)

/-- The settings of a ring pair as HQ_CFG_WRITE writes them. -/
def Dev.ringConfigured (d : Dev) (owner ring v : Nat) : Dev :=
  (((((d.set R.HQ_CFG_EN (bits v 31 31) owner ring).set R.HQ_CFG_KIND (bits v 30 30) owner ring).set R.HQ_CFG_LOG2_SIZE
    (bits v 20 16) owner ring).set R.HQ_CFG_MOD_COUNT (bits v 15 8) owner ring).set R.HQ_CFG_MOD_US (bits v 7 0) owner
    ring).showRunning owner ring

theorem Dev.ringConfigured_get (d : Dev) (owner v : Nat) {ring : Nat} (hring : ring < 4) :
    (d.ringConfigured owner ring v).get R.HQ_CFG_EN owner ring = v / 2 ^ 31 % 2 ∧
      (d.ringConfigured owner ring v).get R.HQ_CFG_KIND owner ring = v / 2 ^ 30 % 2 ∧
      (d.ringConfigured owner ring v).get R.HQ_CFG_LOG2_SIZE owner ring = v / 2 ^ 16 % 32 ∧
      (d.ringConfigured owner ring v).get R.HQ_CFG_MOD_COUNT owner ring = v / 2 ^ 8 % 256 ∧
      (d.ringConfigured owner ring v).get R.HQ_CFG_MOD_US owner ring = v % 256 := by
  have hother {e : Dev} {f g : Fld} {x : Nat} (h : f.Parted g) : (e.set f x owner ring).get g owner ring =
      e.get g owner ring := Dev.get_set_rep h (by omega) (by omega)
  unfold Dev.ringConfigured Dev.showRunning
  refine ⟨?_, ?_, ?_, ?_, ?_⟩
  · rw [hother (by decide), hother (by decide), hother (by decide), hother (by decide), hother (by decide),
      Dev.get_set_self]
    exact Nat.mod_mod _ _
  · rw [hother (by decide), hother (by decide), hother (by decide), hother (by decide), Dev.get_set_self]
    exact Nat.mod_mod _ _
  · rw [hother (by decide), hother (by decide), hother (by decide), Dev.get_set_self]
    exact Nat.mod_mod _ _
  · rw [hother (by decide), hother (by decide), Dev.get_set_self]
    exact Nat.mod_mod _ _
  · rw [hother (by decide), Dev.get_set_self, bits, pow_zero, Nat.div_one]
    exact Nat.mod_mod _ _

section
variable {d : Dev} {owner ring v : Nat}

theorem hqCfgWrite_disables (hen : d.on R.HQ_CFG_EN owner ring = true) (hv : v.testBit 31 = false) :
    hqCfgWrite owner ring v d = (d.set R.HQ_CFG_EN 0 owner ring).showRunning owner ring :=
  if_pos (by simp [bitOf, hen, hv])

theorem hqCfgWrite_running (hrun : (d.on R.HQ_CFG_EN owner ring = true ∧ v.testBit 31 = true) ∨
    (d.on R.HQ_CFG_EN owner ring = false ∧ d.on R.HQ_STATUS_RUNNING owner ring = true)) :
    hqCfgWrite owner ring v d = d.ringErr .hq owner .policyDenied := by
  unfold hqCfgWrite bitOf
  obtain ⟨hen, hv⟩ | ⟨hen, hrun⟩ := hrun
  · simp [hen, hv]
  · simp [hen, hrun]

variable (hen : d.on R.HQ_CFG_EN owner ring = false) (hrun : d.on R.HQ_STATUS_RUNNING owner ring = false)
include hen hrun

theorem hqCfgWrite_stopped : hqCfgWrite owner ring v d =
    if bits v 20 16 < 6 ∨ bits v 20 16 > 16 then d.ringErr .hq owner .inputRange else d.ringConfigured owner ring v := by
  unfold hqCfgWrite
  dsimp only
  rw [hen, hrun, if_neg (by simp), if_neg (by decide)]
  rfl

end

/-! ## Interrupt moderation (R377) -/

/-- The completion interrupt of a ring pair in its page. -/
theorem Dev.raiseCompletion_shows (d : Dev) (owner : Fin 257) (ring : Fin 4) :
    (d.raiseCompletion owner ring).face = d.face ∧ Dev.Reported reportKey d (d.raiseCompletion owner ring) ∧
      (if owner.val < 256 then ((d.raiseCompletion owner ring).get (R.INT_RAW .hq) owner).testBit (2 + ring.val) = true
        else ((d.raiseCompletion owner ring).get (R.INT_RAW .hf)).testBit (4 + ring.val) = true) := by
  unfold Dev.raiseCompletion
  split
  case isTrue hbay =>
    have hapart : Blk.hq.apart owner := by
      have hpage := ringPage_apart (.inl rfl) owner (b := .hq)
      rwa [ringPage, if_pos hbay] at hpage
    exact ⟨(Dev.raiseInt_signals _ _ _ _).face, Dev.raiseInt_reported _ _ _ _, Dev.raiseInt_bit _ hapart (by omega)⟩
  case isFalse =>
    exact ⟨(Dev.raiseInt_signals _ _ _ _).face, Dev.raiseInt_reported _ _ _ _,
      Dev.raiseInt_bit _ (Blk.apart_zero (by decide)) (by omega)⟩

/-! ## Configuration requests and the link (R365, R369, R530) -/

theorem Dev.flushVec_signals (d : Dev) (v : Nat) : d.Signals (d.flushVec v) := by
  unfold Dev.flushVec
  split
  · exact ⟨_, _, _, fun key hkey => Dev.look_set _ _ _ _ _ _ hkey.symm, rfl⟩
  · exact .refl d

/-- Sending the messages that can be sent signals. -/
theorem Dev.flushAll_signals (d : Dev) : d.Signals d.flushAll := by
  unfold Dev.flushAll
  generalize (d.log.irqHeld.map (fun i => d.get R.IC_MAP_VECTOR 0 i)).dedup = l
  induction l generalizing d with
  | nil => exact .refl d
  | cons v l ih => exact (d.flushVec_signals v).trans (ih _)

/-- Signals leave the endpoint's MSI-X control word. -/
theorem Dev.Signals.control {d e : Dev} (h : d.Signals e) :
    e.log.msixEnable = d.log.msixEnable ∧ e.log.funcMask = d.log.funcMask := by
  obtain ⟨t, l, o, -, rfl⟩ := h
  exact ⟨rfl, rfl⟩

section
variable {d : Dev} (hperst : d.face.perst = false) (hmain : d.power.main = true)
include hperst hmain

theorem pcieConfigRequest_up (control : Option (Bool × Bool)) : pcieConfigRequest control d =
    if !d.configReady then d.send (.config true)
    else match control with
      | none => d.send (.config false)
      | some c => (({ d with log := { d.log with msixEnable := c.1, funcMask := c.2 } }).flushAll).send (.config false) := by
  refine (if_neg (by simp [hperst, hmain])).trans ?_
  cases control <;> rfl

theorem pcieConfigRequest_ready (hready : d.configReady = true) (control : Option (Bool × Bool)) :
    (∀ c, control = some c → (pcieConfigRequest control d).log.msixEnable = c.1 ∧
        (pcieConfigRequest control d).log.funcMask = c.2) ∧
      (control = none → (pcieConfigRequest control d).log = d.log) ∧ .config false ∈ (pcieConfigRequest control d).outbox ∧
      d.Reported (fun _ => False) (pcieConfigRequest control d) := by
  have hanswer (e : Dev) : Output.config false ∈ (e.send (.config false)).outbox :=
    List.mem_append_right _ (List.mem_singleton.mpr rfl)
  rw [pcieConfigRequest_up hperst hmain, if_neg (by simp [hready])]
  cases control with
  | none => exact ⟨fun c hc => (nomatch hc), fun _ => rfl, hanswer d, (Dev.Reported.refl d).send _⟩
  | some c =>
    refine ⟨fun c' hc => ?_, fun hnone => (nomatch hnone), hanswer _, ?_⟩
    · obtain rfl := Option.some.inj hc
      exact (Dev.flushAll_signals { d with log := { d.log with msixEnable := c.1, funcMask := c.2 } }).control
    · exact (((Dev.Reported.refl d).log (l := { d.log with msixEnable := c.1, funcMask := c.2 }) rfl rfl rfl).flushAll).send _

end

/-- The state of the link in the HF page. -/
def Dev.linkShown (d : Dev) (up speed width : Nat) : Dev :=
  ((d.set R.HF_LINK_UP up).set R.HF_LINK_SPEED speed).set R.HF_LINK_WIDTH width

/-- What a change of the link leaves: its three fields, and LINK_CHANGE in INT_RAW. -/
structure Dev.LinkShows (d e : Dev) (up speed width : Nat) : Prop where
  up : e.get R.HF_LINK_UP = up
  speed : e.get R.HF_LINK_SPEED = speed
  width : e.get R.HF_LINK_WIDTH = width
  raised : (e.get (R.INT_RAW .hf)).testBit 2 = true
  reported : d.Reported (fun key => reportKey key ∨ ∃ f ∈ [R.HF_LINK_UP, R.HF_LINK_SPEED, R.HF_LINK_WIDTH],
    key = f.key 0 0) e

theorem Dev.linkShown_shows (d : Dev) {up speed width : Nat} (hup : up < 2) (hspeed : speed < 16) (hwidth : width < 32) :
    d.LinkShows ((d.linkShown up speed width).raiseInt .hf 0 2) up speed width := by
  have hraised := (d.linkShown up speed width).raiseInt_reported .hf 0 2
  have hapart : Blk.hf.apart 0 := Blk.apart_zero (by decide)
  refine ⟨?_, ?_, ?_, Dev.raiseInt_bit _ hapart (by decide), ?_⟩
  · rw [hraised.get_plain (by decide) hapart, Dev.linkShown, Dev.get_set_parted _ _ _ _ (by decide),
      Dev.get_set_parted _ _ _ _ (by decide), Dev.get_set_self]
    exact Nat.mod_eq_of_lt hup
  · rw [hraised.get_plain (by decide) hapart, Dev.linkShown, Dev.get_set_parted _ _ _ _ (by decide), Dev.get_set_self]
    exact Nat.mod_eq_of_lt hspeed
  · rw [hraised.get_plain (by decide) hapart, Dev.linkShown, Dev.get_set_self]
    exact Nat.mod_eq_of_lt hwidth
  · exact ((((Dev.Reported.refl d).set _ _ _ _ (.inr (.inr ⟨R.HF_LINK_UP, by simp, rfl⟩))).set _ _ _ _
      (.inr (.inr ⟨R.HF_LINK_SPEED, by simp, rfl⟩))).set _ _ _ _ (.inr (.inr ⟨R.HF_LINK_WIDTH, by simp, rfl⟩))).raiseInt _ _ _
      (.inr (.inl (reportKey_raw _ _)))

theorem Dev.LinkShows.flushAll {d e : Dev} {up speed width : Nat} (h : d.LinkShows e up speed width) :
    d.LinkShows e.flushAll up speed width := by
  have hget {f : Fld} (hf : R.IC_MSGS.key 0 0 ≠ f.key 0 0) : e.flushAll.get f = e.get f :=
    Dev.get_congr (Dev.flushAll_look _ _ hf)
  exact ⟨(hget (by decide)).trans h.up, (hget (by decide)).trans h.speed, (hget (by decide)).trans h.width,
    by rw [hget (by decide)]; exact h.raised, h.reported.flushAll⟩

/-! ## SPDM and IDE (R370) -/

theorem spdmPskExchange_known {d : Dev} {hint : Nat} {key : Bytes} (hup : d.on R.HF_LINK_UP = true)
    (hpsk : d.face.psk = some (hint, key)) (verified : Bool) : spdmPskExchange hint verified d = { d with
      face := { d.face with spdm := d.face.spdm || verified }
      outbox := d.outbox ++ [.doe verified []] } := by
  unfold spdmPskExchange
  rw [if_neg (by simp [hup]), hpsk]
  cases verified with
  | true => simp [Dev.send]
  | false => simp [Dev.send]

/-- The keys of an IDE stream and its state, as an IDE_KM message sets them. -/
def Dev.ideShown (d : Dev) (stream : Nat) (t : Tab Bytes) (st : Nat) : Dev :=
  ((({ d with face := { d.face with ideKeys := t } }).set R.HF_IDE_STATUS st 0 stream).raiseInt .hf 0 8).send (.doe true [])

/-- What an IDE_KM message that is taken leaves. -/
def Dev.SetsIde (d e : Dev) (stream : Fin 4) (st : Nat) : Prop :=
  e.get R.HF_IDE_STATUS 0 stream = st ∧ .doe true [] ∈ e.outbox ∧ (e.get (R.INT_RAW .hf)).testBit 8 = true ∧
    (∀ i, i ≠ stream.val → Tab.look e.face.ideKeys i = Tab.look d.face.ideKeys i) ∧
    ({ d with face := { d.face with ideKeys := e.face.ideKeys } }).Reported
      (fun key => reportKey key ∨ key = R.HF_IDE_STATUS.key 0 stream) e

theorem Dev.ideShown_keys (d : Dev) (stream : Nat) (t : Tab Bytes) (st : Nat) : (d.ideShown stream t st).face.ideKeys = t :=
  congrArg Face.ideKeys (Dev.raiseInt_signals _ _ _ _).face

theorem Dev.ideShown_sets (d : Dev) {stream : Fin 4} {t : Tab Bytes} {st : Nat} (hst : st < 16)
    (ht : ∀ i, i ≠ stream.val → Tab.look t i = Tab.look d.face.ideKeys i) :
    d.SetsIde (d.ideShown stream t st) stream st := by
  have hraised := (({ d with face := { d.face with ideKeys := t } }).set R.HF_IDE_STATUS st 0 stream).raiseInt_reported .hf 0 8
  refine ⟨?_, List.mem_append_right _ (List.mem_singleton.mpr rfl), Dev.raiseInt_bit _ (Blk.apart_zero (by decide)) (by decide),
    fun i hi => by rw [Dev.ideShown_keys]; exact ht i hi, ?_⟩
  · rw [Dev.ideShown, Dev.send_get, hraised.get _ _ _ (markKey_false _ _ _ (by decide) (by decide) (by decide) (by decide)
      (by omega)) (reportKey_false _ _ _ (by decide) (by decide) (by decide) (by decide) (by omega)), Dev.get_set_self]
    exact Nat.mod_eq_of_lt hst
  · rw [Dev.ideShown_keys]
    exact (((Dev.Reported.refl _).set _ _ _ _ (.inr (.inr rfl))).raiseInt _ _ _ (.inr (.inl (reportKey_raw _ _)))).send _

section
variable {d : Dev} {stream : Nat} (hspdm : d.face.spdm = true)
include hspdm

theorem ideKeyProg_keyProg (key : Bytes) :
    ideKeyProg stream (.keyProg key) d = d.ideShown stream (Tab.put d.face.ideKeys stream key) 1 :=
  if_neg (by simp [hspdm])

theorem ideKeyProg_keySetGo (hkeys : d.get R.HF_IDE_STATUS 0 stream = 1) :
    ideKeyProg stream .keySetGo d = d.ideShown stream d.face.ideKeys 2 :=
  (if_neg (by simp [hspdm])).trans (if_pos hkeys)

theorem ideKeyProg_keySetStop :
    ideKeyProg stream .keySetStop d = d.ideShown stream (Tab.del d.face.ideKeys stream) 0 := if_neg (by simp [hspdm])

end

theorem ideKeyProg_refused {d : Dev} {stream : Nat} {m : IdeMsg}
    (hrefused : d.face.spdm = false ∨ (m = .keySetGo ∧ d.get R.HF_IDE_STATUS 0 stream ≠ 1)) :
    ideKeyProg stream m d = d.send (.doe false []) := by
  by_cases hspdm : d.face.spdm = true
  · obtain hclosed | ⟨rfl, hkeys⟩ := hrefused
    · simp [hspdm] at hclosed
    · exact (if_neg (by simp [hspdm])).trans (if_neg hkeys)
  · exact if_pos (by simp [hspdm])

/-! ## The statement -/

/-- Settles O47: each command is its one write of the ring pair, the link or the IDE stream, with what it reports. -/
theorem ringsDoorbellsAndTheLink : Obligations.RingsDoorbellsAndTheLink := by
  refine ⟨?doorbells, ?settings, ?moderation, ?config, ?up, ?down, ?psk, ?ide⟩
  case doorbells =>
    intro s owner ring pasid v own n h
    refine ⟨?_, fun hpasid => ?_⟩
    · rintro ⟨x, rfl, hne⟩
      exact ⟨completes_after rfl ⟨rfl, Dev.doorbell_dropped ⟨_, rfl, hne⟩⟩,
        completes_after rfl ⟨rfl, Dev.doorbell_dropped ⟨_, rfl, hne⟩⟩⟩
    · have hown : ∀ x, pasid.map (·.toNat) = some x → x = s.dev.get R.HQ_PASID owner ring := by
        rintro x hx
        obtain ⟨y, hy, rfl⟩ := Option.map_eq_some_iff.mp hx
        exact hpasid y hy
      refine ⟨fun hrange => ⟨?_, ?_⟩, fun hrange => ⟨?_, fun hbound => ?_, fun t hbound hne hfetch => ?_⟩⟩
      · exact completes_ringErr (.inr rfl) rfl (Dev.doorbell_refused hown hrange)
      · exact completes_ringErr (.inr rfl) rfl (Dev.doorbell_refused hown hrange)
      · refine completes_after rfl ⟨rfl, ?_⟩
        rw [hqCplDoorbell, Dev.doorbell_acts hown hrange]
        exact s.dev.setHostRing_writes owner ring _
      · refine completes_after rfl ⟨rfl, ?_⟩
        rw [hqDoorbell_tail hown hrange hbound]
        exact s.dev.setHostRing_writes owner ring _
      · refine completes_after rfl ⟨rfl, ?_⟩
        rw [hqDoorbell_halts hown hrange hbound hne hfetch]
        obtain ⟨hhalted, hcode, hreported⟩ := Dev.halt_shows (s.dev.setHostRing owner ring { h with tail := n }) owner
          ring.isLt
        refine ⟨hhalted, hcode, ?_, (((Dev.SameWork.refl s.dev).setHostRing _ _ _).set _ _ _ _).trans hreported.work⟩
        exact (hreported.face.hostRing _ _).trans (Dev.hostRing_setHostRing s.dev _ _ _)
  case settings =>
    intro s owner ring v en run size
    refine ⟨fun hen hv => ?_, fun hbusy => ?_, fun hen hrun hsize => ?_, fun hen hrun hlow hhigh => ?_⟩
    · refine completes_after rfl ⟨rfl, ?_⟩
      rw [hqCfgWrite_disables hen hv]
      exact s.dev.ringDisabled owner ring.isLt
    · exact completes_ringErr (.inl rfl) rfl (hqCfgWrite_running hbusy)
    · exact completes_ringErr (.inl rfl) rfl ((hqCfgWrite_stopped hen hrun).trans (if_pos hsize))
    · have hsize : ¬ (bits v.toNat 20 16 < 6 ∨ bits v.toNat 20 16 > 16) := not_or.mpr ⟨Nat.not_lt.mpr hlow, Nat.not_lt.mpr hhigh⟩
      refine completes_after rfl ⟨rfl, ?_⟩
      rw [hqCfgWrite_stopped hen hrun, if_neg hsize]
      obtain ⟨hset, hkind, hlog, hcount, hus⟩ := s.dev.ringConfigured_get owner v.toNat ring.isLt
      exact ⟨hset, hkind, hlog, hcount, hus, rfl⟩
  case moderation =>
    intro s owner ring hheld
    refine completes_after rfl ⟨rfl, ?_⟩
    rw [moderationTimeout, if_neg hheld]
    obtain ⟨hface, hreported, hbit⟩ := (s.dev.setHostRing owner ring { s.dev.hostRing owner ring with
      unsignalled := 0 }).raiseCompletion_shows owner ring
    refine ⟨?_, hbit, ?_⟩
    · exact ((Dev.SameFace.of_eq hface).hostRing _ _).trans (Dev.hostRing_setHostRing _ _ _ _)
    · rw [hface]
      exact hreported
  case config =>
    intro s control hperst hmain
    refine ⟨fun hready => completes_after rfl ⟨rfl, ?_⟩, fun hready => completes_after rfl ⟨rfl, ?_⟩⟩
    · rw [pcieConfigRequest_up hperst hmain, if_pos (by simp [hready])]
      rfl
    · exact pcieConfigRequest_ready hperst hmain hready control
  case up =>
    intro s speed width hperst hmain hdown
    have hmeaning : pcieLinkUp speed width s.dev = ((s.dev.linkShown 1 speed width).raiseInt .hf 0 2).flushAll :=
      if_neg (by simp [hperst, hmain, hdown])
    refine completes_after rfl ⟨rfl, ?_⟩
    rw [hmeaning]
    obtain ⟨hup, hspeed, hwidth, hraised, hreported⟩ := (s.dev.linkShown_shows (up := 1) (speed := speed) (width := width)
      (by decide) (by omega) (by omega)).flushAll
    exact ⟨beq_iff_eq.mpr hup, hspeed, hwidth, hraised, hreported⟩
  case down =>
    intro s hup
    have hmeaning : s.dev.linkLost = (s.dev.linkShown 0 0 0).raiseInt .hf 0 2 := if_pos hup
    refine completes_after (f := Dev.linkLost) rfl ⟨rfl, ?_⟩
    rw [hmeaning]
    obtain ⟨hdown, hspeed, hwidth, hraised, hreported⟩ := s.dev.linkShown_shows (up := 0) (speed := 0) (width := 0)
      (by decide) (by decide) (by decide)
    exact ⟨by rw [Dev.on, hdown]; rfl, hspeed, hwidth, hraised, hreported⟩
  case psk =>
    intro s hint verified key hup hpsk
    exact completes_after rfl ⟨rfl, spdmPskExchange_known hup hpsk verified⟩
  case ide =>
    intro s stream m state
    refine ⟨fun hspdm => ⟨?_, ?_, ?_⟩, fun hrefused => completes_after rfl ⟨rfl, ideKeyProg_refused hrefused⟩⟩
    · rintro key rfl
      refine completes_after rfl ?_
      rw [ideKeyProg_keyProg hspdm]
      refine ⟨⟨rfl, s.dev.ideShown_sets (by decide) fun i hi => ?_⟩, ?_⟩
      · exact (Tab.look_put _ _ _ _).trans (if_neg hi.symm)
      · rw [Dev.ideShown_keys]
        exact (Tab.look_put _ _ _ _).trans (if_pos rfl)
    · rintro rfl hkeys
      refine completes_after rfl ?_
      rw [ideKeyProg_keySetGo hspdm hkeys]
      exact ⟨⟨rfl, s.dev.ideShown_sets (by decide) fun _ _ => rfl⟩, Dev.ideShown_keys _ _ _ _⟩
    · rintro rfl
      refine completes_after rfl ?_
      rw [ideKeyProg_keySetStop hspdm]
      refine ⟨⟨rfl, s.dev.ideShown_sets (by decide) fun i hi => ?_⟩, ?_⟩
      · exact (Tab.look_del _ _ _).trans (if_neg hi.symm)
      · rw [Dev.ideShown_keys]
        exact (Tab.look_del _ _ _).trans (if_pos rfl)

end Sys2Proof.Machine

namespace Sys2Proof.Machine

/-! # The custodian cards' registers, interfaces and interrupts (ch. 10)

What the operations of an interface leave: the fields of the CD pages that they do not write, interrupts that are pending, the
block's work, and what has been sent. -/

/-! ## Fields and interrupts of the CD pages -/

theorem Blk.apart_cd (i : Nat) : Blk.cd.apart i := by
  simp only [Blk.apart, Blk.page, Blk.basePage, Blk.stride]; omega

/-- Reports leave the plain fields of the CD pages. -/
theorem Dev.Reported.get_cd {d e : Dev} (h : Dev.Reported reportKey d e) {f : Fld} (hf : f.blk = .cd ∧ f.Plain) (i : Nat) :
    e.get f i = d.get f i := h.get_plain hf.2 (by rw [hf.1]; exact Blk.apart_cd i)

theorem Dev.raiseInt_get_cd (d : Dev) {f : Fld} (hf : f.blk = .cd ∧ f.Plain) (b : Blk) (j n i : Nat) :
    (d.raiseInt b j n).get f i = d.get f i := (d.raiseInt_reported b j n).get_cd hf i

/-- A pending interrupt of an interface stays pending when another is raised, of its own page or of the other. -/
theorem Dev.raiseInt_keeps_cd {d : Dev} {i n : Nat} (j m : Nat) (hn : n < 32)
    (h : (d.get (R.INT_RAW .cd) i).testBit n = true) : ((d.raiseInt .cd j m).get (R.INT_RAW .cd) i).testBit n = true := by
  by_cases hij : j = i
  case pos =>
    subst hij
    exact Dev.raiseInt_bit_mono m (Blk.apart_cd j) hn h
  case neg =>
    have hkey : (R.INT_RAW .cd).key i 0 ≠ (R.INT_RAW .cd).key j 0 := by
      simp only [Fld.key, R.INT_RAW, Blk.page, Blk.basePage, Blk.stride]; omega
    have hreport : Dev.Reported (fun key => key = (R.INT_RAW .cd).key j 0) d (d.raiseInt .cd j m) :=
      (Dev.Reported.refl d).raiseInt _ _ _ (.inr rfl)
    rwa [hreport.get _ _ _ (Blk.apart_raw (Blk.apart_cd i)) hkey]

/-! ## Interfaces (R379) -/

@[simp] theorem Dev.card_setCard (d : Dev) (i : Nat) (x : CardIf) : (d.setCard i x).card i = x :=
  (Tab.get_set _ _ _ _ _).trans (if_pos rfl)

@[simp] theorem Dev.card_set (d : Dev) (f : Fld) (v i k j : Nat) : (d.set f v i k).card j = d.card j := rfl

/-- A report leaves the interfaces. -/
theorem Dev.Reported.card {own : Nat → Prop} {d e : Dev} (h : Dev.Reported own d e) (i : Nat) : e.card i = d.card i :=
  congrArg (fun c : Cards => Tab.get c.ifs i CardIf.idle) h.work.cards

@[simp] theorem Dev.card_raiseInt (d : Dev) (b : Blk) (i n j : Nat) : (d.raiseInt b i n).card j = d.card j :=
  (d.raiseInt_reported b i n).card j

@[simp] theorem Dev.card_mark (d : Dev) (ev : Event) (isl : Island) (u p0 p1 p2 p3 j : Nat) :
    (d.mark ev isl u p0 p1 p2 p3).card j = d.card j := (d.mark_reported reportKey ev isl u p0 p1 p2 p3).card j

/-! ## What acts on the cards -/

/-- The work but the cards stays. -/
def Dev.SameButCards (d e : Dev) : Prop := ({ d with cards := e.cards }).SameWork e

theorem Dev.SameWork.butCards {d e : Dev} (h : d.SameWork e) : d.SameButCards e := by
  unfold Dev.SameButCards
  rw [h.cards]
  exact h

/-- Between two states something has acted on the cards: the work but the cards stays, what is sent stays sent, pending
interrupts of the interfaces stay pending, and so do the plain fields of their pages but those of a list. -/
structure Dev.CardActs (own : List Fld) (d e : Dev) : Prop where
  work : d.SameButCards e
  sends : d.Sends e
  bits : ∀ i n, n < 32 → (d.get (R.INT_RAW .cd) i).testBit n = true → (e.get (R.INT_RAW .cd) i).testBit n = true
  kept : ∀ f, (f.blk = .cd ∧ f.Plain ∧ ∀ g ∈ own, g.Parted f) → ∀ i, e.get f i = d.get f i

section
variable {own more : List Fld} {a b c : Dev}

theorem Dev.CardActs.refl (d : Dev) : d.CardActs own d := ⟨Dev.SameWork.refl d, .refl d, fun _ _ _ h => h, fun _ _ _ => rfl⟩

theorem Dev.CardActs.trans (h : a.CardActs own b) (g : b.CardActs own c) : a.CardActs own c where
  work := ⟨g.work.sched.trans h.work.sched, g.work.wires.trans h.work.wires, g.work.eng.trans h.work.eng,
    g.work.keys.trans h.work.keys, rfl, g.work.plinth.trans h.work.plinth, g.work.cs.trans h.work.cs,
    g.work.life.trans h.work.life, g.work.gates.trans h.work.gates, g.work.pair.trans h.work.pair,
    g.work.power.trans h.work.power, g.work.hbm.trans h.work.hbm, g.work.free.trans h.work.free⟩
  sends := h.sends.trans g.sends
  bits i n hn hd := g.bits i n hn (h.bits i n hn hd)
  kept f hf i := (g.kept f hf i).trans (h.kept f hf i)

theorem Dev.CardActs.mono (h : a.CardActs own b) (hm : ∀ f ∈ own, f ∈ more) : a.CardActs more b :=
  ⟨h.work, h.sends, h.bits, fun f ⟨hblk, hplain, hparted⟩ => h.kept f ⟨hblk, hplain, fun g hg => hparted g (hm g hg)⟩⟩

theorem Dev.CardActs.append (h : a.CardActs own b) (g : b.CardActs more c) : a.CardActs (own ++ more) c :=
  (h.mono fun _ hf => List.mem_append_left _ hf).trans (g.mono fun _ hf => List.mem_append_right _ hf)

theorem Dev.CardActs.ite (p : Prop) [Decidable p] (h : a.CardActs own b) (g : a.CardActs own c) :
    a.CardActs own (if p then b else c) := by split <;> assumption

theorem Dev.CardActs.foldl {α : Type} {l : List α} {f : Dev → α → Dev} (h : a.CardActs own b)
    (hf : ∀ x ∈ l, ∀ d : Dev, d.CardActs own (f d x)) : a.CardActs own (l.foldl f b) := by
  induction l generalizing b with
  | nil => exact h
  | cons x l ih => exact ih (h.trans (hf x (by simp) b)) (fun y hy => hf y (by simp [hy]))

theorem Dev.CardActs.set (h : a.CardActs own b) (f : Fld) (v i : Nat) (k : Nat := 0) (hf : f ∈ own ∧ f.Plain := by decide)
    (hk : k < 0x1000 := by decide) : a.CardActs own (b.set f v i k) := by
  obtain ⟨hown, hplain⟩ := hf
  obtain ⟨hoff, -, hplace⟩ := hplain
  have hraw : f.Parted (R.INT_RAW .cd) := ⟨.inl hoff, hplace, by decide⟩
  refine h.trans ⟨Dev.SameWork.of_parts _ _ _ _ _, .refl b, fun j n _ hd => ?_, fun g ⟨_, _, hparted⟩ j => ?_⟩
  · rwa [Dev.get_set_rep hraw hk (by decide)]
  · exact Dev.get_set_rep (hparted f hown) hk (by decide)

theorem Dev.CardActs.send (h : a.CardActs own b) (o : Output) : a.CardActs own (b.send o) :=
  h.trans ⟨Dev.SameWork.of_parts _ _ _ _ _, List.prefix_append _ _, fun _ _ _ hd => hd, fun _ _ _ => rfl⟩

theorem Dev.CardActs.withCards (h : a.CardActs own b) (s : Cards) : a.CardActs own { b with cards := s } :=
  h.trans ⟨Dev.SameWork.refl _, .refl b, fun _ _ _ hd => hd, fun _ _ _ => rfl⟩

theorem Dev.CardActs.setCard (h : a.CardActs own b) (i : Nat) (x : CardIf) : a.CardActs own (b.setCard i x) := h.withCards _

theorem Dev.CardActs.raiseInt (h : a.CardActs own b) (i n : Nat) : a.CardActs own (b.raiseInt .cd i n) := by
  have hreport := b.raiseInt_reported .cd i n
  exact h.trans ⟨hreport.work.butCards, (Dev.Sends.refl b).raiseInt _ _ _, fun j m hm hd => Dev.raiseInt_keeps_cd i n hm hd,
    fun f ⟨hblk, hplain, _⟩ j => hreport.get_cd ⟨hblk, hplain⟩ j⟩

theorem Dev.CardActs.mark (h : a.CardActs own b) (ev : Event) (isl : Island) (u p0 p1 p2 p3 : Nat) :
    a.CardActs own (b.mark ev isl u p0 p1 p2 p3) := by
  have hreport := b.mark_reported reportKey ev isl u p0 p1 p2 p3
  refine h.trans ⟨hreport.work.butCards, (Dev.Sends.refl b).mark _ _ _ _ _ _ _, fun j m _ hd => ?_,
    fun f ⟨hblk, hplain, _⟩ j => hreport.get_cd ⟨hblk, hplain⟩ j⟩
  rwa [Dev.mark_get _ _ _ _ _ _ _ _ (Blk.apart_cd j) (by decide)]

theorem Dev.CardActs.err (h : a.CardActs own b) (i : Nat) (req : Requester) (st : Status) :
    a.CardActs own (b.err .cd i req st) := by
  have hreport := b.err_reported .cd i req st
  have hevent : b.err .cd i req st = (((b.set (R.ERR_ISLAND .cd) req.island.code i).bumpSat (R.ERR_COUNT .cd) i).set
      (R.ERR_CODE .cd) st.code i).raiseInt .cd i 0 := by
    unfold Dev.err Dev.blockEvent
    exact if_neg (by decide)
  refine h.trans ⟨hreport.work.butCards, ?_, fun j m hm hd => ?_,
    fun f ⟨hblk, hplain, _⟩ j => hreport.get_cd ⟨hblk, hplain⟩ j⟩
  · rw [hevent]
    exact (((Dev.Sends.refl b).set _ _ _ _).set _ _ _ _ |>.set _ _ _ _).raiseInt _ _ _
  · rw [hevent]
    refine Dev.raiseInt_keeps_cd i 0 hm ?_
    simp (disch := decide) only [Dev.bumpSat, Dev.get_set_parted]
    exact hd

end

/-! ## Ceremonies that end (R402, R405) -/

/-- The fields of CD_CER_STATUS. -/
def cerFields : List Fld :=
  [R.CD_CER_STATUS_STATE, R.CD_CER_STATUS_CLASS, R.CD_CER_STATUS_BAY, R.CD_CER_STATUS_COUNT, R.CD_CER_STATUS_M]

/-- The cards when a ceremony has ended. -/
def Cards.ceremonyEnded (c : Cards) : Cards :=
  { c with counted := [], backup := none, shares := [], shareId := [], shareM := 0 }

theorem Dev.cerEnd_shape (d : Dev) (reason : Nat) : ∃ p0 p1 p2 : Nat, d.cerEnd reason =
    (({ d.cerCleared with cards := d.cards.ceremonyEnded }).mark .cerClosed .card 0 p0 p1 p2).raiseInt .cd 0 9 :=
  ⟨_, _, _, rfl⟩

theorem Dev.cerEnd_cards (d : Dev) (reason : Nat) : (d.cerEnd reason).cards = d.cards.ceremonyEnded := by
  obtain ⟨p0, p1, p2, he⟩ := d.cerEnd_shape reason
  rw [he, (Dev.raiseInt_reported _ _ _ _).work.cards, (Dev.mark_reported reportKey _ _ _ _ _ _ _ _).work.cards]

theorem Dev.cerEnd_acts (d : Dev) (reason : Nat) : d.CardActs cerFields (d.cerEnd reason) := by
  obtain ⟨p0, p1, p2, he⟩ := d.cerEnd_shape reason
  have hcleared : d.CardActs cerFields d.cerCleared :=
    (((((Dev.CardActs.refl d).set _ _ _).set _ _ _).set _ _ _).set _ _ _).set _ _ _
  rw [he]
  exact ((hcleared.withCards _).mark _ _ _ _ _ _ _).raiseInt _ _

theorem Dev.authDone_acts (d : Dev) : d.CardActs cerFields d.authDone := .ite _ (d.cerEnd_acts 0) (.refl d)

theorem Dev.card_authDone (d : Dev) (i : Nat) : d.authDone.card i = d.card i := by
  unfold Dev.authDone
  split
  · rw [Dev.card, Dev.cerEnd_cards]; rfl
  · rfl

/-! ## Exchanges that end (R398, R399, R409) -/

/-- The fields that the end of an exchange writes. -/
def exchangeFields : List Fld := [R.CD_CMD_STATUS_BUSY, R.CD_CMD_STATUS_STATUS, R.CD_PINBLK] ++ cerFields

theorem Dev.cerStep_reported (d : Dev) (i op slot : Nat) (st : Status) : Dev.Reported reportKey d (d.cerStep i op slot st) :=
  .ite _ (.refl d) (d.mark_reported _ _ _ _ _ _ _ _)

/-- What the end of a command shows, before it may end a ceremony. -/
def Dev.cardEndShown (d : Dev) (i op slot : Nat) (st : Status) : Dev :=
  let stepped := (d.setCard i { d.card i with exchange := none }).cerStep i op slot st
  (((if op = 3 then stepped.clearPinBlock i else stepped).set R.CD_CMD_STATUS_BUSY 0 i).set R.CD_CMD_STATUS_STATUS st.code
    i).raiseInt .cd i 4

theorem Dev.cardEnd_eq (d : Dev) (i op slot : Nat) (st : Status) : d.cardEnd i op slot st =
    if op = 4 ∧ st ≠ .ok ∧ (d.cardEndShown i op slot st).get R.CD_CER_STATUS_CLASS = 2 then
      (d.cardEndShown i op slot st).authDone
    else d.cardEndShown i op slot st := rfl

theorem Dev.clearPinBlock_acts (d : Dev) (i : Nat) : d.CardActs exchangeFields (d.clearPinBlock i) :=
  (Dev.CardActs.refl d).foldl fun k hk e =>
    (Dev.CardActs.refl e).set R.CD_PINBLK 0 i k (hk := by have := List.mem_range.mp hk; omega)

theorem Dev.cardEndShown_acts (d : Dev) (i op slot : Nat) (st : Status) :
    d.CardActs exchangeFields (d.cardEndShown i op slot st) := by
  have hstepped : d.CardActs exchangeFields ((d.setCard i { d.card i with exchange := none }).cerStep i op slot st) :=
    have hfree := (Dev.CardActs.refl d).setCard i { d.card i with exchange := none }
    .ite _ hfree (hfree.mark _ _ _ _ _ _ _)
  exact (((Dev.CardActs.ite _ (hstepped.trans (Dev.clearPinBlock_acts _ i)) hstepped).set _ _ _).set _ _ _).raiseInt _ _

theorem Dev.card_clearPinBlock (d : Dev) (i j : Nat) : (d.clearPinBlock i).card j = d.card j := by
  unfold Dev.clearPinBlock
  generalize List.range 32 = l
  induction l generalizing d with
  | nil => rfl
  | cons k l ih => exact ih _

theorem Dev.cardEnd_acts (d : Dev) (i op slot : Nat) (st : Status) : d.CardActs exchangeFields (d.cardEnd i op slot st) := by
  have hshown := d.cardEndShown_acts i op slot st
  rw [Dev.cardEnd_eq]
  exact .ite _ (hshown.trans ((Dev.authDone_acts _).mono (by decide))) hshown

/-- An exchange has ended with a status: BUSY reads 0, the status stands, and CMD_DONE is raised (R409, R410). -/
structure Dev.ExchangeEnded (d : Dev) (i : Nat) (st : Status) : Prop where
  busy : d.on R.CD_CMD_STATUS_BUSY i = false
  status : d.get R.CD_CMD_STATUS_STATUS i = st.code
  bit : (d.get (R.INT_RAW .cd) i).testBit 4 = true

theorem Dev.ExchangeEnded.acts {d e : Dev} {i : Nat} {st : Status} {own : List Fld} (h : d.ExchangeEnded i st)
    (g : d.CardActs own e) (hown : ∀ f ∈ own, f.Parted R.CD_CMD_STATUS_BUSY ∧ f.Parted R.CD_CMD_STATUS_STATUS) :
    e.ExchangeEnded i st where
  busy := (congrArg (· == 1) (g.kept R.CD_CMD_STATUS_BUSY ⟨rfl, by decide, fun f hf => (hown f hf).1⟩ i)).trans h.busy
  status := (g.kept R.CD_CMD_STATUS_STATUS ⟨rfl, by decide, fun f hf => (hown f hf).2⟩ i).trans h.status
  bit := g.bits i 4 (by decide) h.bit

theorem Dev.cardEndShown_ended (d : Dev) (i op slot : Nat) (st : Status) : (d.cardEndShown i op slot st).ExchangeEnded i st := by
  unfold Dev.cardEndShown
  refine ⟨?_, ?_, Dev.raiseInt_bit _ (Blk.apart_cd i) (by decide)⟩
  · rw [Dev.on, Dev.raiseInt_get_cd _ (by decide), Dev.get_set_parted _ _ _ _ (by decide), Dev.get_set_self]
    rfl
  · rw [Dev.raiseInt_get_cd _ (by decide), Dev.get_set_self]
    exact st.code_mod

theorem Dev.cardEnd_ended (d : Dev) (i op slot : Nat) (st : Status) : (d.cardEnd i op slot st).ExchangeEnded i st := by
  have hshown := d.cardEndShown_ended i op slot st
  rw [Dev.cardEnd_eq]
  split
  · exact hshown.acts (Dev.authDone_acts _) (by decide)
  · exact hshown

theorem Dev.card_cardEnd (d : Dev) (i op slot : Nat) (st : Status) :
    (d.cardEnd i op slot st).card i = { d.card i with exchange := none } := by
  have hstepped : ((d.setCard i { d.card i with exchange := none }).cerStep i op slot st).card i =
      { d.card i with exchange := none } := ((Dev.cerStep_reported _ i op slot st).card i).trans (Dev.card_setCard _ _ _)
  have hshown : (d.cardEndShown i op slot st).card i = { d.card i with exchange := none } := by
    unfold Dev.cardEndShown
    simp only [Dev.card_raiseInt, Dev.card_set]
    split
    · rw [Dev.card_clearPinBlock, hstepped]
    · exact hstepped
  rw [Dev.cardEnd_eq]
  split
  · rw [Dev.card_authDone, hshown]
  · exact hshown

/-- An exchange that is broken off ends its command; a timeout shows as one, in doubt or not (R398). -/
theorem Dev.breakExchange_ends {d : Dev} {i : Nat} {x : CardExchange} (h : (d.card i).exchange = some x) (st : Status) :
    ∃ (e : Dev) (st1 : Status), d.CardActs [] e ∧ e.card i = d.card i ∧ (st = .cardTimeout → st1 = st) ∧
      d.breakExchange i st = e.cardEnd i x.op x.slot st1 := by
  unfold Dev.breakExchange
  rw [h]
  dsimp only
  by_cases hsent : x.sent = true
  case pos =>
    rw [if_pos hsent]
    refine ⟨_, _, (((Dev.CardActs.refl d).withCards _).raiseInt _ _).mark _ _ _ _ _ _ _, ?_, ?_, rfl⟩
    · rw [Dev.card_mark, Dev.card_raiseInt]
      rfl
    · rintro rfl
      rfl
  case neg =>
    rw [if_neg hsent]
    exact ⟨d, st, .refl d, rfl, fun _ => rfl, rfl⟩

theorem Dev.breakExchange_none {d : Dev} {i : Nat} (h : (d.card i).exchange = none) (st : Status) : d.breakExchange i st = d := by
  rw [Dev.breakExchange, h]

theorem Dev.breakExchange_acts (d : Dev) (i : Nat) (st : Status) : d.CardActs exchangeFields (d.breakExchange i st) := by
  cases h : (d.card i).exchange with
  | none =>
    rw [Dev.breakExchange_none h]
    exact .refl d
  | some x =>
    obtain ⟨e, st1, hacts, -, -, he⟩ := Dev.breakExchange_ends h st
    exact he ▸ (hacts.mono (by decide)).trans (e.cardEnd_acts _ _ _ _)

theorem Dev.card_breakExchange (d : Dev) (i : Nat) (st : Status) :
    (d.breakExchange i st).card i = { d.card i with exchange := none } := by
  cases h : (d.card i).exchange with
  | none =>
    rw [Dev.breakExchange_none h, ← h]
  | some x =>
    obtain ⟨e, st1, -, hcard, -, he⟩ := Dev.breakExchange_ends h st
    rw [he, Dev.card_cardEnd, hcard]

/-! ## The end of a session, and the contacts (R384, R394, R397) -/

/-- The fields that the end of a session writes. -/
def sessionFields : List Fld := [R.CD_STATE_SESSION, R.CD_CARD_ID_LO, R.CD_CARD_ID_HI]

/-- The fields that a deactivation writes. -/
def contactFields : List Fld := [R.CD_STATE_STATE, R.CD_STATE_CLASS_USED] ++ sessionFields

theorem Dev.endCardSession_none {d : Dev} {i : Nat} (h : (d.card i).session = none) : d.endCardSession i = d := by
  rw [Dev.endCardSession, h]

theorem Dev.endCardSession_some {d : Dev} {i : Nat} {c : CardSession} (h : (d.card i).session = some c) : d.endCardSession i =
    ((((d.setCard i { d.card i with session := none }).set R.CD_STATE_SESSION 0 i).set R.CD_CARD_ID_LO 0 i).set
      R.CD_CARD_ID_HI 0 i).raiseInt .cd i 5 := by
  rw [Dev.endCardSession, h]

theorem Dev.endCardSession_acts (d : Dev) (i : Nat) : d.CardActs sessionFields (d.endCardSession i) := by
  cases h : (d.card i).session with
  | none =>
    rw [Dev.endCardSession_none h]
    exact .refl d
  | some c =>
    rw [Dev.endCardSession_some h]
    exact (((((Dev.CardActs.refl d).setCard _ _).set _ _ _).set _ _ _).set _ _ _).raiseInt _ _

theorem Dev.card_endCardSession (d : Dev) (i : Nat) : (d.endCardSession i).card i = { d.card i with session := none } := by
  cases h : (d.card i).session with
  | none => rw [Dev.endCardSession_none h, ← h]
  | some c => simp only [Dev.endCardSession_some h, Dev.card_raiseInt, Dev.card_set, Dev.card_setCard]

/-- SESSION reads 0 after the end of a session where it showed the session. -/
theorem Dev.endCardSession_session {d : Dev} {i : Nat} (h : d.on R.CD_STATE_SESSION i = (d.card i).session.isSome) :
    (d.endCardSession i).on R.CD_STATE_SESSION i = false := by
  cases hs : (d.card i).session with
  | none => rw [Dev.endCardSession_none hs, h, hs]; rfl
  | some c =>
    rw [Dev.endCardSession_some hs, Dev.on, Dev.raiseInt_get_cd _ (by decide), Dev.get_set_parted _ _ _ _ (by decide),
      Dev.get_set_parted _ _ _ _ (by decide), Dev.get_set_self]
    rfl

/-- An interface whose contacts have gone down. -/
def CardIf.down (x : CardIf) : CardIf :=
  { x with session := none, retryClass := false, retryPps := false, pps := none, ns := 0, vccBad := 0, exchange := none }

theorem Dev.deactivate_eq (d : Dev) (i state : Nat) : ∃ x, d.deactivate i state =
    ((((d.endCardSession i).setCard i x).set R.CD_STATE_STATE state i).set R.CD_STATE_CLASS_USED 0 i).send (.contacts i false) ∧
      x = (d.card i).down :=
  ⟨_, rfl, by rw [Dev.card_endCardSession]; rfl⟩

/-- The contacts of an interface have gone down: STATE, the class, the interface itself, and what is sent (R384, R409). -/
structure Dev.ContactsDown (d e : Dev) (i state : Nat) : Prop where
  state : e.get R.CD_STATE_STATE i = state
  cls : e.get R.CD_STATE_CLASS_USED i = 0
  card : e.card i = (d.card i).down
  sent : .contacts i false ∈ e.outbox

theorem Dev.deactivate_down (d : Dev) (i : Nat) {state : Nat} (hstate : state < 16) :
    d.ContactsDown (d.deactivate i state) i state := by
  obtain ⟨x, he, rfl⟩ := d.deactivate_eq i state
  rw [he]
  refine ⟨?_, ?_, Dev.card_setCard _ _ _, List.mem_append_right _ (List.mem_singleton.mpr rfl)⟩
  · rw [Dev.send_get, Dev.get_set_parted _ _ _ _ (by decide), Dev.get_set_self]
    exact Nat.mod_eq_of_lt hstate
  · rw [Dev.send_get, Dev.get_set_self]
    rfl

theorem Dev.deactivate_acts (d : Dev) (i state : Nat) : d.CardActs contactFields (d.deactivate i state) := by
  obtain ⟨x, he, -⟩ := d.deactivate_eq i state
  rw [he]
  exact (((((d.endCardSession_acts i).mono (by decide)).setCard _ _).set _ _ _).set _ _ _).send _

theorem Dev.deactivate_session {d : Dev} {i : Nat} (state : Nat) (h : d.on R.CD_STATE_SESSION i = (d.card i).session.isSome) :
    (d.deactivate i state).on R.CD_STATE_SESSION i = false := by
  obtain ⟨x, he, -⟩ := d.deactivate_eq i state
  rw [he, Dev.on, Dev.send_get, Dev.get_set_parted _ _ _ _ (by decide), Dev.get_set_parted _ _ _ _ (by decide)]
  exact Dev.endCardSession_session h

theorem Dev.restState_eq (d : Dev) (i : Nat) : d.restState i = if (d.card i).detect then 1 else 0 := by
  rw [Dev.restState, b2n]

theorem Dev.restState_lt (d : Dev) (i : Nat) : d.restState i < 16 := by
  rw [Dev.restState_eq]
  split <;> decide

/-- The contacts go down under an exchange, which is broken off (R397). -/
theorem Dev.breakExchange_down (d : Dev) (i : Nat) (st : Status) {state : Nat} (hstate : state < 16) :
    d.ContactsDown ((d.breakExchange i st).deactivate i state) i state := by
  obtain ⟨hshown, hcls, hcard, hsent⟩ := (d.breakExchange i st).deactivate_down i hstate
  exact ⟨hshown, hcls, hcard.trans (by rw [Dev.card_breakExchange]; rfl), hsent⟩

theorem Dev.breakExchange_rest (d : Dev) (i : Nat) (st : Status) : (d.breakExchange i st).restState i = d.restState i := by
  rw [Dev.restState, Dev.card_breakExchange]
  rfl

theorem Dev.breakDown_acts (d : Dev) (i : Nat) (st : Status) (state : Nat) :
    d.CardActs (exchangeFields ++ contactFields) ((d.breakExchange i st).deactivate i state) :=
  (d.breakExchange_acts i st).append (Dev.deactivate_acts _ i state)

end Sys2Proof.Machine

namespace Sys2Proof.Machine

/-! # O49: activation, samples of the supply, removal and insertion

Every command of an interface ends in one of a few ways: the contacts are powered, they go down, they wait for a retry, or
activation has failed. -/

/-! ## The ways an activation goes on (R381, R384, R386) -/

/-- A value that is put in effect is in effect, cut to its width. -/
theorem Dev.eff_setEff_self (d : Dev) (f : Fld) (v i k : Nat) : (d.setEff f v i k).eff f i k = v % f.bound := by
  simp only [Dev.eff, Dev.setEff, Tab.look_set, if_true]
  split
  · rename_i h; simp [← h]
  · simp

theorem Dev.activate_powers (d : Dev) (i : Nat) {cls : Nat} (noPps : Bool) (hcls : cls < 4) :
    (d.activate i cls noPps).get R.CD_STATE_STATE i = 2 ∧ (d.activate i cls noPps).get R.CD_STATE_CLASS_USED i = cls ∧
      (d.activate i cls noPps).eff R.CD_CLK_DIV i = d.get R.CD_CLK_DIV i ∧
      (d.activate i cls noPps).on R.CD_PARAM_PPS_DONE i = false ∧
      (d.activate i cls noPps).card i =
        { d.card i with retryClass := false, retryPps := false, noPps := noPps, pps := none, lowCurrent := true } ∧
      (d.activate i cls noPps).outbox = d.outbox ++ [.contacts i true] ∧
      d.SameButCards (d.activate i cls noPps) := by
  unfold Dev.activate
  refine ⟨?_, ?_, ?_, ?_, Dev.card_setCard _ _ _, rfl, Dev.SameWork.of_parts _ _ _ _ _⟩
  · rw [Dev.send_get, Dev.get_set_parted _ _ _ _ (by decide), Dev.get_set_parted _ _ _ _ (by decide)]
    exact Dev.get_set_self _ _ _ _ _
  · rw [Dev.send_get, Dev.get_set_parted _ _ _ _ (by decide), Dev.get_set_self]
    exact Nat.mod_eq_of_lt hcls
  · refine (Dev.eff_setEff_self d R.CD_CLK_DIV _ i 0).trans (Nat.mod_eq_of_lt ?_)
    exact Nat.mod_lt _ (Nat.two_pow_pos _)
  · rw [Dev.on, Dev.send_get, Dev.get_set_self]
    rfl

/-- Activation that fails, after something has acted on the cards (R381, R386). -/
theorem Dev.CardActs.fails {own : List Fld} {d e : Dev} (h : d.CardActs own e) (i : Nat) :
    (e.activationFails i).get R.CD_STATE_STATE i = 6 ∧ (e.activationFails i).get R.CD_STATE_CLASS_USED i = 0 ∧
      ((e.activationFails i).card i).session = none ∧ (e.activationFails i).get (R.ERR_CODE .cd) i = Status.cardAtr.code ∧
      .contacts i false ∈ (e.activationFails i).outbox ∧ d.SameButCards (e.activationFails i) := by
  have hdown := e.deactivate_down i (state := 6) (by decide)
  have hreport := (e.deactivate i 6).err_reported .cd i Requester.manager .cardAtr
  have hrefused : (e.deactivate i 6).CardActs [] (e.activationFails i) :=
    (Dev.CardActs.refl (e.deactivate i 6)).err i Requester.manager .cardAtr
  refine ⟨(hreport.get_cd (by decide) i).trans hdown.state, (hreport.get_cd (by decide) i).trans hdown.cls, ?_,
    Dev.err_code _ _ _ (Blk.apart_cd i), hrefused.sends.mem hdown.sent,
    (h.append ((e.deactivate_acts i 6).append hrefused)).work⟩
  rw [Dev.activationFails, hreport.card, hdown.card]
  rfl

theorem Dev.retryLater_waits (d : Dev) (i : Nat) (cls pps : Bool) :
    (d.retryLater i cls pps).card i = { d.card i with retryClass := cls, retryPps := pps, pps := none } ∧
      (d.retryLater i cls pps).regs = d.regs ∧ (d.retryLater i cls pps).outbox = d.outbox ++ [.contacts i false] ∧
      d.SameButCards (d.retryLater i cls pps) :=
  ⟨Dev.card_setCard _ _ _, rfl, rfl, Dev.SameWork.of_parts _ _ _ _ _⟩

end Sys2Proof.Machine

namespace Sys2Proof.Machine

theorem Dev.cardPowered_iff {d : Dev} {i : Nat} :
    d.cardPowered i = true ↔ 2 ≤ d.get R.CD_STATE_STATE i ∧ d.get R.CD_STATE_STATE i ≤ 4 := by
  simp only [Dev.cardPowered, Bool.and_eq_true, decide_eq_true_eq]
  rfl

theorem Dev.awaitsAtr_iff {d : Dev} {i : Nat} : d.awaitsAtr i = true ↔ d.get R.CD_STATE_STATE i = 2 ∧
    (d.card i).retryClass = false ∧ (d.card i).retryPps = false ∧ (d.card i).pps = none := by
  simp only [Dev.awaitsAtr, Dev.cardState, Bool.and_eq_true, beq_iff_eq, Bool.not_eq_true', Option.isNone_iff_eq_none, and_assoc]

/-! ## Activation and deactivation (R381, R384, R397) -/

theorem cardActivate_allowed {d : Dev} {i : Nat} (hoff : ¬ (2 ≤ d.get R.CD_STATE_STATE i ∧ d.get R.CD_STATE_STATE i ≤ 4))
    (hrun : d.power.stage = .running) : cardActivate i d =
      if !(d.card i).detect then d.err .cd i Requester.manager .cardAbsent
      else d.activate i (if d.get R.CD_CTL_CLASS i = 2 then 2 else 1) false := by
  refine if_neg ?_
  rw [← Dev.cardPowered_iff] at hoff
  simp [Dev.contactsAllowed, hrun, hoff]

theorem cardDeactivate_powered {d : Dev} {i : Nat} (hon : 2 ≤ d.get R.CD_STATE_STATE i ∧ d.get R.CD_STATE_STATE i ≤ 4) :
    cardDeactivate i d = (d.breakExchange i .cardSession).deactivate i (d.restState i) :=
  (if_pos (Dev.cardPowered_iff.mpr hon)).trans
    (congrArg ((d.breakExchange i .cardSession).deactivate i) (d.breakExchange_rest i .cardSession))

/-- A deactivation leaves no session, and SESSION reads 0 where it showed the session. -/
theorem cardDeactivate_ends {d : Dev} {i : Nat} (hon : 2 ≤ d.get R.CD_STATE_STATE i ∧ d.get R.CD_STATE_STATE i ≤ 4)
    (hsession : d.on R.CD_STATE_SESSION i = (d.card i).session.isSome) :
    d.ContactsDown (cardDeactivate i d) i (d.restState i) ∧ (cardDeactivate i d).on R.CD_STATE_SESSION i = false ∧
      d.SameButCards (cardDeactivate i d) := by
  rw [cardDeactivate_powered hon]
  refine ⟨d.breakExchange_down i _ (d.restState_lt i), Dev.deactivate_session _ ?_, (d.breakDown_acts i _ _).work⟩
  rw [Dev.on, (d.breakExchange_acts i _).kept _ (by decide), Dev.card_breakExchange]
  exact hsession

/-! ## The ATR and the PPS (R381, R385, R386) -/

/-- A pair is supported, and no faster than the card's and the limit's. -/
def ppsPasses (card : Nat × Nat) (limit v : Nat) : Bool :=
  match fiDi v with
  | some p => etuGe p card && (match fiDi limit with | some l => etuGe p l | none => v == 0x11)
  | none => false

/-- The better of the best pair so far and a pair that passes. -/
def ppsBetter (card : Nat × Nat) (limit : Nat) (best : Option Nat) (v : Nat) : Option Nat :=
  if ppsPasses card limit v then
    match best with
    | none => some v
    | some u => match fiDi v, fiDi u with
      | some p, some q => if etuGe p q then some u else some v
      | _, _ => best
  else best

theorem ppsChoice_eq {card limit : Nat} {c : Nat × Nat} (h : fiDi card = some c) :
    ppsChoice card limit = ((card :: List.range 256).foldl (ppsBetter c limit) none).getD 0x11 := by
  rw [ppsChoice, h]
  rfl

theorem ppsBetter_cases (card : Nat × Nat) (limit : Nat) (best : Option Nat) (v : Nat) :
    ppsBetter card limit best v = best ∨ (ppsPasses card limit v = true ∧ ppsBetter card limit best v = some v) := by
  unfold ppsBetter
  by_cases hpass : ppsPasses card limit v = true
  case neg => exact .inl (if_neg hpass)
  case pos =>
    rw [if_pos hpass]
    cases best with
    | none => exact .inr ⟨hpass, rfl⟩
    | some u =>
      dsimp only
      split
      · split
        · exact .inl rfl
        · exact .inr ⟨hpass, rfl⟩
      · exact .inl rfl

/-- PPS1 is a pair that the module supports. -/
theorem fiDi_ppsChoice (card limit : Nat) : (fiDi (ppsChoice card limit)).isSome = true := by
  cases hcard : fiDi card with
  | none =>
    have hdefault : ppsChoice card limit = 0x11 := by rw [ppsChoice, hcard]
    rw [hdefault]
    decide
  | some c =>
    have hsupported : ∀ v, (card :: List.range 256).foldl (ppsBetter c limit) none = some v → (fiDi v).isSome = true := by
      refine List.foldlRecOn (motive := fun b : Option Nat => ∀ v, b = some v → (fiDi v).isSome = true) _ _
        (fun v hv => nomatch hv) fun b hb v _ w hw => ?_
      obtain hkept | ⟨hpass, htaken⟩ := ppsBetter_cases c limit b v
      · exact hb w (hkept.symm.trans hw)
      · obtain rfl := Option.some.inj (htaken.symm.trans hw)
        unfold ppsPasses at hpass
        cases hv : fiDi v with
        | none => simp [hv] at hpass
        | some p => rfl
    rw [ppsChoice_eq hcard]
    cases hbest : (card :: List.range 256).foldl (ppsBetter c limit) none with
    | none => decide
    | some v => exact hsupported v hbest

section
variable {d : Dev} {i : Nat} {a : Atr}

theorem Atr.usable_parts (h : a.usable = true) :
    (fiDi a.ta1).isSome = true ∧ a.ifsc ≤ 254 ∧ a.bwi ≤ 9 ∧ a.cwi ≤ 15 := by
  simp only [Atr.usable, Bool.and_eq_true, decide_eq_true_eq] at h
  tauto

/-- A pair that the module supports is a byte. -/
theorem fiDi_lt {v : Nat} (h : (fiDi v).isSome = true) : v < 256 := by
  by_contra hge
  obtain ⟨n, hn⟩ := Nat.exists_eq_add_of_le' (show 16 ≤ v / 16 by omega)
  have hnone : fiDi v = none := by simp [fiDi, hn]
  rw [hnone] at h
  exact absurd h (by decide)

/-- The parameters of a usable ATR are taken (R385). -/
def Dev.atrTaken (d : Dev) (i : Nat) (a : Atr) : Dev :=
  ((((d.set R.CD_PARAM_IFSC a.ifsc i).set R.CD_PARAM_BWI a.bwi i).set R.CD_PARAM_CWI a.cwi i).set R.CD_PARAM_CLOCK_STOP
    (match a.clock with | some p => p.1 | none => 0) i).set R.CD_PARAM_CRC (b2n a.crc) i

variable (hawaits : d.awaitsAtr i = true)
include hawaits

theorem cardAtr_unusable (h : a.usable = false) : cardAtr i a d = d.activationFails i := by
  rw [cardAtr, if_neg (by simp [hawaits]), if_pos (by simp [h])]

theorem cardAtr_excluded (h : a.usable = true) (hcls : a.classOk (d.get R.CD_STATE_CLASS_USED i) = false) : cardAtr i a d =
    if d.get R.CD_STATE_CLASS_USED i = 1 ∧ d.get R.CD_CTL_CLASS i = 0 then d.retryLater i true false
    else d.activationFails i := by
  rw [cardAtr, if_neg (by simp [hawaits]), if_neg (by simp [h]), if_pos (by simp [hcls])]

/-- In specific mode, at the default rate, or without PPS, the interface is active at once. -/
theorem cardAtr_active (h : a.usable = true) (hcls : a.classOk (d.get R.CD_STATE_CLASS_USED i) = true)
    (hactive : a.ta2.isSome ∨ a.ta1 = 0x11 ∨ (d.card i).noPps = true) : cardAtr i a d =
      ((d.atrTaken i a).set R.CD_PARAM_TA1 (if a.ta2.isSome then a.ta1 else 0x11) i).cardActive i := by
  rw [cardAtr, if_neg (by simp [hawaits]), if_neg (by simp [h]), if_neg (by simp [hcls])]
  by_cases hspecific : a.ta2.isSome = true
  · rw [if_pos hspecific, if_pos hspecific]
    rfl
  · rw [if_neg hspecific, if_neg hspecific]
    exact if_pos (hactive.resolve_left hspecific)

theorem cardAtr_negotiates (h : a.usable = true) (hcls : a.classOk (d.get R.CD_STATE_CLASS_USED i) = true)
    (hactive : ¬ (a.ta2.isSome ∨ a.ta1 = 0x11 ∨ (d.card i).noPps = true)) :
    ∃ n : Nat, (fiDi n).isSome = true ∧ cardAtr i a d =
      ((d.atrTaken i a).setCard i { d.card i with pps := some n }).send (.card i [0xFF#8, 0x11#8, BitVec.ofNat 8 n]) := by
  obtain ⟨hnegotiable, hrate⟩ := not_or.mp hactive
  refine ⟨_, fiDi_ppsChoice a.ta1 ((d.atrTaken i a).get R.CD_CLK_MAX_FD i), ?_⟩
  rw [cardAtr, if_neg (by simp [hawaits]), if_neg (by simp [h]), if_neg (by simp [hcls])]
  exact (if_neg hnegotiable).trans (if_neg hrate)

theorem atrTimeout_awaited : atrTimeout i d =
    if d.get R.CD_STATE_CLASS_USED i = 1 ∧ d.get R.CD_CTL_CLASS i = 0 then d.retryLater i true false
    else (if (d.card i).lowCurrent then (d.raiseInt .cd i 6).mark .cdVccOpen .card i (d.get R.CD_VCC_MV i)
      (d.get R.CD_VCC_CURRENT i) else d).activationFails i := by
  rw [atrTimeout, if_neg (by simp [hawaits])]

end

/-- The interface shows the parameters of an ATR (R385, R410). -/
def Dev.ShowsAtr (d : Dev) (i : Nat) (a : Atr) : Prop :=
  d.get R.CD_PARAM_IFSC i = a.ifsc ∧ d.get R.CD_PARAM_BWI i = a.bwi ∧ d.get R.CD_PARAM_CWI i = a.cwi ∧
    d.on R.CD_PARAM_CRC i = a.crc

theorem Dev.ShowsAtr.acts {d e : Dev} {i : Nat} {a : Atr} {own : List Fld} (h : d.ShowsAtr i a) (g : d.CardActs own e)
    (hown : ∀ f ∈ [R.CD_PARAM_IFSC, R.CD_PARAM_BWI, R.CD_PARAM_CWI, R.CD_PARAM_CRC], ∀ x ∈ own, x.Parted f) :
    e.ShowsAtr i a := by
  simp only [List.forall_mem_cons, List.not_mem_nil, false_implies, implies_true, and_true] at hown
  obtain ⟨hifsc, hbwi, hcwi, hcrc⟩ := hown
  unfold Dev.ShowsAtr Dev.on
  rw [g.kept _ ⟨rfl, by decide, hifsc⟩, g.kept _ ⟨rfl, by decide, hbwi⟩, g.kept _ ⟨rfl, by decide, hcwi⟩,
    g.kept _ ⟨rfl, by decide, hcrc⟩]
  exact h

theorem Dev.atrTaken_acts (d : Dev) (i : Nat) (a : Atr) : d.CardActs [R.CD_PARAM_IFSC, R.CD_PARAM_BWI, R.CD_PARAM_CWI,
    R.CD_PARAM_CLOCK_STOP, R.CD_PARAM_CRC] (d.atrTaken i a) :=
  (((((Dev.CardActs.refl d).set _ _ _).set _ _ _).set _ _ _).set _ _ _).set _ _ _

theorem Dev.atrTaken_shows (d : Dev) (i : Nat) {a : Atr} (h : a.usable = true) : (d.atrTaken i a).ShowsAtr i a := by
  obtain ⟨-, hifsc, hbwi, hcwi⟩ := a.usable_parts h
  unfold Dev.ShowsAtr Dev.atrTaken Dev.on
  simp (disch := decide) only [Dev.get_set_parted, Dev.get_set_self]
  exact ⟨Nat.mod_eq_of_lt (Nat.lt_of_le_of_lt hifsc (by decide)), Nat.mod_eq_of_lt (Nat.lt_of_le_of_lt hbwi (by decide)),
    Nat.mod_eq_of_lt (Nat.lt_of_le_of_lt hcwi (by decide)), b2n_mod_two a.crc⟩

/-- An interface becomes active with a TA1 (R387, R410). -/
theorem Dev.cardActive_shows (d : Dev) (i : Nat) {ta1 : Nat} (h : ta1 < 256) :
    ((d.set R.CD_PARAM_TA1 ta1 i).cardActive i).get R.CD_STATE_STATE i = 3 ∧
      (((d.set R.CD_PARAM_TA1 ta1 i).cardActive i).get (R.INT_RAW .cd) i).testBit 3 = true ∧
      ((d.set R.CD_PARAM_TA1 ta1 i).cardActive i).get R.CD_PARAM_TA1 i = ta1 ∧
      d.CardActs [R.CD_PARAM_TA1, R.CD_STATE_STATE] ((d.set R.CD_PARAM_TA1 ta1 i).cardActive i) := by
  unfold Dev.cardActive
  refine ⟨?_, Dev.raiseInt_bit _ (Blk.apart_cd i) (by decide), ?_, (((Dev.CardActs.refl d).set _ _ _).set _ _ _).raiseInt _ _⟩
  · rw [Dev.raiseInt_get_cd _ (by decide), Dev.get_set_self]
    rfl
  · rw [Dev.raiseInt_get_cd _ (by decide), Dev.get_set_parted _ _ _ _ (by decide), Dev.get_set_self]
    exact Nat.mod_eq_of_lt h

/-- A usable ATR whose classes include the class in use makes the interface active, or sends its PPS. -/
theorem cardAtr_takes {d : Dev} {i : Nat} {a : Atr} (hawaits : d.awaitsAtr i = true) (h : a.usable = true)
    (hcls : a.classOk (d.get R.CD_STATE_CLASS_USED i) = true) :
    (cardAtr i a d).ShowsAtr i a ∧
      (if a.ta2.isSome ∨ a.ta1 = 0x11 ∨ (d.card i).noPps = true then
        (cardAtr i a d).get R.CD_STATE_STATE i = 3 ∧ ((cardAtr i a d).get (R.INT_RAW .cd) i).testBit 3 = true ∧
          (cardAtr i a d).get R.CD_PARAM_TA1 i = (if a.ta2.isSome then a.ta1 else 0x11)
      else ∃ n : Nat, ((cardAtr i a d).card i).pps = some n ∧ (fiDi n).isSome = true ∧
        (cardAtr i a d).get R.CD_STATE_STATE i = 2 ∧ .card i [0xFF#8, 0x11#8, BitVec.ofNat 8 n] ∈ (cardAtr i a d).outbox) ∧
      d.SameButCards (cardAtr i a d) := by
  have hshows := d.atrTaken_shows i h
  have hacts := d.atrTaken_acts i a
  by_cases hactive : a.ta2.isSome ∨ a.ta1 = 0x11 ∨ (d.card i).noPps = true
  case pos =>
    have hrate : (if a.ta2.isSome then a.ta1 else 0x11) < 256 := by
      split
      · exact fiDi_lt (a.usable_parts h).1
      · decide
    obtain ⟨hstate, hbit, hta1, hdone⟩ := (d.atrTaken i a).cardActive_shows i hrate
    rw [if_pos hactive, cardAtr_active hawaits h hcls hactive]
    exact ⟨hshows.acts hdone (by decide), ⟨hstate, hbit, hta1⟩, (hacts.append hdone).work⟩
  case neg =>
    obtain ⟨n, hpair, he⟩ := cardAtr_negotiates hawaits h hcls hactive
    rw [if_neg hactive, he]
    refine ⟨hshows, ⟨n, congrArg CardIf.pps (Dev.card_setCard _ _ _), hpair, ?_,
      List.mem_append_right _ (List.mem_singleton.mpr rfl)⟩, ((hacts.setCard _ _).send _).work⟩
    exact (hacts.kept R.CD_STATE_STATE (by decide) i).trans (Dev.awaitsAtr_iff.mp hawaits).1

/-! ## Samples of the supply (R380, R383) -/

/-- A sample shows in CD_VCC. -/
def Dev.vccShown (d : Dev) (i mv current : Nat) : Dev := (d.set R.CD_VCC_MV mv i).set R.CD_VCC_CURRENT current i

theorem Dev.vccShown_acts (d : Dev) (i mv current : Nat) :
    d.CardActs [R.CD_VCC_MV, R.CD_VCC_CURRENT] (d.vccShown i mv current) :=
  ((Dev.CardActs.refl d).set _ _ _).set _ _ _

/-- CD_VCC shows a sample (R409). -/
def Dev.ShowsVcc (d : Dev) (i : Nat) (mv current : BitVec 16) : Prop :=
  d.get R.CD_VCC_MV i = mv.toNat ∧ d.get R.CD_VCC_CURRENT i = current.toNat

theorem Dev.vccShown_shows (d : Dev) (i : Nat) (mv current : BitVec 16) :
    (d.vccShown i mv.toNat current.toNat).ShowsVcc i mv current := by
  unfold Dev.ShowsVcc Dev.vccShown
  simp (disch := decide) only [Dev.get_set_parted, Dev.get_set_self]
  exact ⟨Nat.mod_eq_of_lt mv.isLt, Nat.mod_eq_of_lt current.isLt⟩

theorem Dev.ShowsVcc.acts {d e : Dev} {i : Nat} {mv current : BitVec 16} {own : List Fld} (h : d.ShowsVcc i mv current)
    (g : d.CardActs own e) (hown : ∀ f ∈ own, f.Parted R.CD_VCC_MV ∧ f.Parted R.CD_VCC_CURRENT) : e.ShowsVcc i mv current :=
  ⟨(g.kept _ ⟨rfl, by decide, fun f hf => (hown f hf).1⟩ i).trans h.1,
    (g.kept _ ⟨rfl, by decide, fun f hf => (hown f hf).2⟩ i).trans h.2⟩

/-- Samples of VCC out of tolerance in a row, this one with them (R383). -/
def Dev.vccBadAfter (d : Dev) (i mv : Nat) : Nat :=
  if 3 ≤ d.get R.CD_STATE_STATE i ∧ ¬ (if d.get R.CD_STATE_CLASS_USED i = 1 then 1710 ≤ mv ∧ mv ≤ 1890
    else 2850 ≤ mv ∧ mv ≤ 3150) then (d.card i).vccBad + 1 else 0

/-- A sample is counted at its interface. -/
def Dev.vccCounted (d : Dev) (i mv current : Nat) : Dev :=
  (d.vccShown i mv current).setCard i { d.card i with
    lowCurrent := (d.card i).lowCurrent && decide (current < 20)
    vccBad := d.vccBadAfter i mv }

/-- A fault of the supply takes the contacts down (R383). -/
def Dev.vccFault (d : Dev) (i mv current : Nat) (e : Event) : Dev :=
  let broken := ((d.breakExchange i .cardVcc).raiseInt .cd i 6).mark e .card i mv current
  broken.deactivate i (broken.restState i)

theorem vccOk_iff {cls mv : Nat} : vccOk cls mv = true ↔
    if cls = 1 then 1710 ≤ mv ∧ mv ≤ 1890 else 2850 ≤ mv ∧ mv ≤ 3150 := by
  unfold vccOk
  split <;> simp

section
variable {d : Dev} {i mv current : Nat}

theorem cardVccSample_unpowered (hoff : ¬ (2 ≤ d.get R.CD_STATE_STATE i ∧ d.get R.CD_STATE_STATE i ≤ 4)) :
    cardVccSample i mv current d = d.vccShown i mv current := by
  have hkept : (d.vccShown i mv current).get R.CD_STATE_STATE i = d.get R.CD_STATE_STATE i :=
    (d.vccShown_acts i mv current).kept _ (by decide) i
  have hdown : (d.vccShown i mv current).cardPowered i = false :=
    Bool.eq_false_iff.mpr fun h => hoff (hkept ▸ Dev.cardPowered_iff.mp h)
  refine if_pos (show (!(d.vccShown i mv current).cardPowered i || _ || _) = true from ?_)
  rw [hdown]
  rfl

theorem cardVccSample_powered (hon : 2 ≤ d.get R.CD_STATE_STATE i ∧ d.get R.CD_STATE_STATE i ≤ 4)
    (hcls : (d.card i).retryClass = false) (hpps : (d.card i).retryPps = false) : cardVccSample i mv current d =
      if current > (if d.get R.CD_STATE_CLASS_USED i = 1 then 3500 else 6000) then
        (d.vccCounted i mv current).vccFault i mv current .cdVccOver
      else if d.vccBadAfter i mv > 10 then (d.vccCounted i mv current).vccFault i mv current .cdVccRange
      else d.vccCounted i mv current := by
  have hkept : (d.vccShown i mv current).get R.CD_STATE_STATE i = d.get R.CD_STATE_STATE i :=
    (d.vccShown_acts i mv current).kept _ (by decide) i
  have hpowered : (d.vccShown i mv current).cardPowered i = true := Dev.cardPowered_iff.mpr (by rw [hkept]; exact hon)
  have hbad : (if (d.vccShown i mv current).cardState i ≥ 3 ∧ !vccOk (d.get R.CD_STATE_CLASS_USED i) mv then
      (d.card i).vccBad + 1 else 0) = d.vccBadAfter i mv := by
    refine if_congr ?_ rfl rfl
    rw [Dev.cardState, hkept, ← vccOk_iff]
    simp
  refine (if_neg (show ¬ (!(d.vccShown i mv current).cardPowered i || ((d.vccShown i mv current).card i).retryClass ||
    ((d.vccShown i mv current).card i).retryPps) = true from ?_)).trans ?_
  · have hcard : (d.vccShown i mv current).card i = d.card i := rfl
    simp [hpowered, hcard, hcls, hpps]
  · rw [Dev.vccCounted, ← hbad]
    rfl

end

theorem Dev.vccCounted_acts (d : Dev) (i mv current : Nat) :
    d.CardActs [R.CD_VCC_MV, R.CD_VCC_CURRENT] (d.vccCounted i mv current) := (d.vccShown_acts i mv current).setCard _ _

/-- A fault of the supply is recorded, and leaves the interface at rest without a session. -/
theorem Dev.vccFault_ends (d : Dev) (i mv current : Nat) (e : Event) :
    d.ContactsDown (d.vccFault i mv current e) i (d.restState i) ∧
      ((d.vccFault i mv current e).get (R.INT_RAW .cd) i).testBit 6 = true ∧
      d.CardActs (exchangeFields ++ contactFields) (d.vccFault i mv current e) := by
  have hrecorded (b : Dev) : b.CardActs exchangeFields ((b.raiseInt .cd i 6).mark e .card i mv current) :=
    ((Dev.CardActs.refl b).raiseInt _ _).mark _ _ _ _ _ _ _
  have hbit (b : Dev) : (((b.raiseInt .cd i 6).mark e .card i mv current).get (R.INT_RAW .cd) i).testBit 6 = true := by
    rw [Dev.mark_get _ _ _ _ _ _ _ _ (Blk.apart_cd i) (by decide)]
    exact Dev.raiseInt_bit _ (Blk.apart_cd i) (by decide)
  have hcard : (((d.breakExchange i .cardVcc).raiseInt .cd i 6).mark e .card i mv current).card i =
      { d.card i with exchange := none } := by
    rw [Dev.card_mark, Dev.card_raiseInt, Dev.card_breakExchange]
  have hrest : (((d.breakExchange i .cardVcc).raiseInt .cd i 6).mark e .card i mv current).restState i = d.restState i := by
    rw [Dev.restState, hcard]
    rfl
  unfold Dev.vccFault
  dsimp only
  rw [hrest]
  obtain ⟨hstate, hcls, hdown, hsent⟩ := Dev.deactivate_down
    (((d.breakExchange i .cardVcc).raiseInt .cd i 6).mark e .card i mv current) i (d.restState_lt i)
  refine ⟨⟨hstate, hcls, hdown.trans (by rw [hcard]; rfl), hsent⟩,
    (Dev.deactivate_acts _ i _).bits i 6 (by decide) (hbit _), ?_⟩
  exact ((d.breakExchange_acts i .cardVcc).trans (hrecorded _)).append (Dev.deactivate_acts _ i _)

/-- A sample within its limits shows in CD_VCC, and is counted. -/
theorem cardVccSample_counts {d : Dev} {i : Nat} {mv current : BitVec 16}
    (hon : 2 ≤ d.get R.CD_STATE_STATE i ∧ d.get R.CD_STATE_STATE i ≤ 4)
    (hcls : (d.card i).retryClass = false) (hpps : (d.card i).retryPps = false)
    (htrip : ¬ (if d.get R.CD_STATE_CLASS_USED i = 1 then 3500 else 6000) < current.toNat)
    (hbad : d.vccBadAfter i mv.toNat ≤ 10) :
    cardVccSample i mv.toNat current.toNat d = d.vccCounted i mv.toNat current.toNat :=
  (cardVccSample_powered hon hcls hpps).trans ((if_neg htrip).trans (if_neg (Nat.not_lt.mpr hbad)))

/-- An overload, or an eleventh bad sample in a row, takes the contacts down (R383). -/
theorem cardVccSample_faults {d : Dev} {i : Nat} {mv current : BitVec 16}
    (hon : 2 ≤ d.get R.CD_STATE_STATE i ∧ d.get R.CD_STATE_STATE i ≤ 4)
    (hcls : (d.card i).retryClass = false) (hpps : (d.card i).retryPps = false)
    (hfault : (if d.get R.CD_STATE_CLASS_USED i = 1 then 3500 else 6000) < current.toNat ∨ 10 < d.vccBadAfter i mv.toNat) :
    ∃ e, cardVccSample i mv.toNat current.toNat d =
      (d.vccCounted i mv.toNat current.toNat).vccFault i mv.toNat current.toNat e := by
  rw [cardVccSample_powered hon hcls hpps]
  by_cases htrip : (if d.get R.CD_STATE_CLASS_USED i = 1 then 3500 else 6000) < current.toNat
  · exact ⟨_, if_pos htrip⟩
  · exact ⟨_, (if_neg htrip).trans (if_pos (hfault.resolve_left htrip))⟩

/-! ## Removal and insertion (R397) -/

/-- A removal shows and is recorded, whatever follows. -/
def Dev.removalShown (d : Dev) (i : Nat) : Dev :=
  (((d.setCard i { d.card i with detect := false }).set R.CD_STATE_PRESENT 0 i).mark .cdRemoved .card i (d.cardState i)
    (d.get R.CD_CTL_REMOVE_MODE i)).raiseInt .cd i 2

theorem Dev.removalShown_acts (d : Dev) (i : Nat) : d.CardActs [R.CD_STATE_PRESENT] (d.removalShown i) :=
  ((((Dev.CardActs.refl d).setCard _ _).set _ _ _).mark _ _ _ _ _ _ _).raiseInt _ _

/-- An interface whose removal has shown: no card is detected, PRESENT reads 0, and the interrupt is pending. -/
structure Dev.ShowsRemoval (d : Dev) (i : Nat) : Prop where
  detect : (d.card i).detect = false
  present : d.on R.CD_STATE_PRESENT i = false
  bit : (d.get (R.INT_RAW .cd) i).testBit 2 = true

theorem Dev.card_removalShown (d : Dev) (i : Nat) : (d.removalShown i).card i = { d.card i with detect := false } := by
  unfold Dev.removalShown
  rw [Dev.card_raiseInt, Dev.card_mark, Dev.card_set, Dev.card_setCard]

theorem Dev.removalShown_shows (d : Dev) (i : Nat) : (d.removalShown i).ShowsRemoval i where
  detect := congrArg CardIf.detect (d.card_removalShown i)
  present := by
    rw [Dev.on, Dev.removalShown, Dev.raiseInt_get_cd _ (by decide), Dev.mark_get _ _ _ _ _ _ _ _ (Blk.apart_cd i) (by decide),
      Dev.get_set_self]
    rfl
  bit := Dev.raiseInt_bit _ (Blk.apart_cd i) (by decide)

theorem Dev.ShowsRemoval.acts {d e : Dev} {i : Nat} {own : List Fld} (h : d.ShowsRemoval i) (g : d.CardActs own e)
    (hown : ∀ f ∈ own, f.Parted R.CD_STATE_PRESENT) (hcard : (e.card i).detect = (d.card i).detect) : e.ShowsRemoval i where
  detect := hcard.trans h.detect
  present := (congrArg (· == 1) (g.kept R.CD_STATE_PRESENT ⟨rfl, by decide, hown⟩ i)).trans h.present
  bit := g.bits i 2 (by decide) h.bit

theorem cardRemoved_eq {d : Dev} {i : Nat} (h : (d.card i).detect = true) : cardRemoved i d =
    if ¬ (2 ≤ d.get R.CD_STATE_STATE i ∧ d.get R.CD_STATE_STATE i ≤ 4) then (d.removalShown i).set R.CD_STATE_STATE 0 i
    else if d.get R.CD_CTL_REMOVE_MODE i = 0 ∧ (d.card i).exchange.isSome then d.removalShown i
    else ((d.removalShown i).breakExchange i .cardRemoved).deactivate i 0 := by
  have hstate : (d.removalShown i).get R.CD_STATE_STATE i = d.get R.CD_STATE_STATE i :=
    (d.removalShown_acts i).kept _ (by decide) i
  have hexchange : ((d.removalShown i).card i).exchange = (d.card i).exchange := by rw [Dev.card_removalShown]
  rw [cardRemoved, if_neg (by simp [h])]
  refine if_congr ?_ rfl (if_congr ?_ rfl rfl)
  · show (!(d.removalShown i).cardPowered i) = true ↔ _
    rw [Bool.not_eq_true', ← Bool.not_eq_true, Dev.cardPowered_iff, hstate]
  · show _ ∧ ((d.removalShown i).card i).exchange.isSome = true ↔ _
    rw [hexchange]

/-- A removal shows; in OBSERVE mode an exchange in progress goes on, and else the contacts are down (R397). -/
theorem cardRemoved_shows {d : Dev} {i : Nat} (h : (d.card i).detect = true) :
    (cardRemoved i d).ShowsRemoval i ∧
      (if d.on R.CD_CTL_REMOVE_MODE i = false ∧ (d.card i).exchange.isSome = true ∧
          2 ≤ d.get R.CD_STATE_STATE i ∧ d.get R.CD_STATE_STATE i ≤ 4 then
        (cardRemoved i d).get R.CD_STATE_STATE i = d.get R.CD_STATE_STATE i ∧
          ((cardRemoved i d).card i).exchange = (d.card i).exchange
      else (cardRemoved i d).get R.CD_STATE_STATE i = 0) ∧
      d.SameButCards (cardRemoved i d) := by
  have hshows := d.removalShown_shows i
  have hacts := d.removalShown_acts i
  have hmode : d.on R.CD_CTL_REMOVE_MODE i = false ↔ d.get R.CD_CTL_REMOVE_MODE i = 0 := by
    have hbit : d.get R.CD_CTL_REMOVE_MODE i < 2 := Nat.mod_lt _ (Nat.two_pow_pos 1)
    rw [Dev.on, beq_eq_false_iff_ne]
    omega
  rw [cardRemoved_eq h]
  by_cases hon : 2 ≤ d.get R.CD_STATE_STATE i ∧ d.get R.CD_STATE_STATE i ≤ 4
  case neg =>
    rw [if_pos hon, if_neg (fun hobserved => hon hobserved.2.2)]
    have hset := (Dev.CardActs.refl (own := [R.CD_STATE_STATE]) (d.removalShown i)).set R.CD_STATE_STATE 0 i
    exact ⟨hshows.acts hset (by decide) rfl, Dev.get_set_self _ _ _ _ _, (hacts.append hset).work⟩
  case pos =>
    rw [if_neg (not_not_intro hon)]
    by_cases hobserved : d.get R.CD_CTL_REMOVE_MODE i = 0 ∧ (d.card i).exchange.isSome
    case pos =>
      rw [if_pos hobserved, if_pos ⟨hmode.mpr hobserved.1, hobserved.2, hon⟩]
      exact ⟨hshows, ⟨hacts.kept _ (by decide) i, by rw [Dev.card_removalShown]⟩, hacts.work⟩
    case neg =>
      rw [if_neg hobserved, if_neg (fun hgoes => hobserved ⟨hmode.mp hgoes.1, hgoes.2.1⟩)]
      have hdown := (d.removalShown i).breakExchange_down i .cardRemoved (state := 0) (by decide)
      have hbroken := (d.removalShown i).breakDown_acts i .cardRemoved 0
      exact ⟨hshows.acts hbroken (by decide) (by rw [hdown.card]; rfl), hdown.state, (hacts.append hbroken).work⟩

/-- An insertion shows in PRESENT. -/
def Dev.insertionShown (d : Dev) (i : Nat) : Dev := (d.setCard i { d.card i with detect := true }).set R.CD_STATE_PRESENT 1 i

theorem cardInserted_eq {d : Dev} {i : Nat} (h : (d.card i).detect = false) : cardInserted i d =
    (if 2 ≤ d.get R.CD_STATE_STATE i ∧ d.get R.CD_STATE_STATE i ≤ 4 then d.insertionShown i
      else (d.insertionShown i).set R.CD_STATE_STATE 1 i).raiseInt .cd i 2 := by
  have hstate : (d.insertionShown i).get R.CD_STATE_STATE i = d.get R.CD_STATE_STATE i :=
    Dev.get_set_parted _ _ _ _ (by decide)
  rw [cardInserted, if_neg (by simp [h])]
  refine congrArg (Dev.raiseInt · .cd i 2) (if_congr ?_ rfl rfl)
  show (d.insertionShown i).cardPowered i = true ↔ _
  rw [Dev.cardPowered_iff, hstate]

/-- An insertion shows; an interface at rest is present and inactive (R397). -/
theorem cardInserted_shows {d : Dev} {i : Nat} (h : (d.card i).detect = false) :
    (cardInserted i d).card i = { d.card i with detect := true } ∧ (cardInserted i d).on R.CD_STATE_PRESENT i = true ∧
      ((cardInserted i d).get (R.INT_RAW .cd) i).testBit 2 = true ∧
      (cardInserted i d).get R.CD_STATE_STATE i = (if 2 ≤ d.get R.CD_STATE_STATE i ∧ d.get R.CD_STATE_STATE i ≤ 4 then
        d.get R.CD_STATE_STATE i else 1) ∧
      d.SameButCards (cardInserted i d) := by
  have hplaced : d.CardActs [R.CD_STATE_PRESENT, R.CD_STATE_STATE] (d.insertionShown i) :=
    ((Dev.CardActs.refl d).setCard _ _).set _ _ _
  have hset : d.CardActs [R.CD_STATE_PRESENT, R.CD_STATE_STATE]  ((d.insertionShown i).set R.CD_STATE_STATE 1 i) :=
    hplaced.set _ _ _
  rw [cardInserted_eq h]
  refine ⟨?_, ?_, Dev.raiseInt_bit _ (Blk.apart_cd i) (by decide), ?_, ((Dev.CardActs.ite _ hplaced hset).raiseInt _ _).work⟩
  · rw [Dev.card_raiseInt, apply_ite (Dev.card · i), Dev.card_set, ite_self]
    exact Dev.card_setCard _ _ _
  · rw [Dev.on, Dev.raiseInt_get_cd _ (by decide), apply_ite (Dev.get · R.CD_STATE_PRESENT i 0),
      Dev.get_set_parted _ _ _ _ (by decide), ite_self, Dev.insertionShown, Dev.get_set_self]
    rfl
  · rw [Dev.raiseInt_get_cd _ (by decide), apply_ite (Dev.get · R.CD_STATE_STATE i 0), Dev.get_set_self]
    exact if_congr Iff.rfl (Dev.get_set_parted _ _ _ _ (by decide)) rfl

/-! ## The statement -/

/-- Settles O49: each command of an interface by the way it goes on: powered, down, waiting for a retry, or failed. -/
theorem cardsActivateAndComeAndGo : Obligations.CardsActivateAndComeAndGo := by
  unfold Obligations.CardsActivateAndComeAndGo
  intro frame powered awaits activating down failed waits
  refine ⟨?activate, ?deactivate, ?atr, ?classRetry, ?ppsRetry, ?echo, ?clock, ?sample, ?removed, ?inserted⟩
  case activate =>
    intro s i hoff hrun
    refine ⟨fun hcard => completes_after (f := cardActivate i) rfl ⟨rfl, ?_⟩,
      fun hcard => completes_after (f := cardActivate i) rfl ⟨rfl, ?_⟩⟩
    · rw [cardActivate_allowed hoff hrun, if_neg (by simp [hcard])]
      exact s.dev.activate_powers i _ (by split <;> decide)
    · rw [cardActivate_allowed hoff hrun, if_pos (by simp [hcard])]
      exact ⟨Dev.err_code _ _ _ (Blk.apart_cd i), s.dev.err_reported _ _ _ _⟩
  case deactivate =>
    intro s i hon hsession
    obtain ⟨hdown, hended, hwork⟩ := cardDeactivate_ends hon hsession
    exact completes_after (f := cardDeactivate i) rfl ⟨rfl, hdown.state.trans (s.dev.restState_eq i), hdown.cls, hended,
      congrArg CardIf.session hdown.card, congrArg CardIf.exchange hdown.card, hdown.sent, hwork⟩
  case atr =>
    intro s i a hawaits cls mayB
    have hwait : s.dev.awaitsAtr i = true := Dev.awaitsAtr_iff.mpr hawaits
    refine ⟨fun hbad => ?_, fun husable hcls => ⟨fun hB => ?_, fun hB => ?_⟩, fun husable hcls => ?_,
      fun hB => ?_, fun hB => ?_, ?_⟩
    · refine completes_after (f := cardAtr i a) rfl ⟨rfl, ?_⟩
      rw [cardAtr_unusable hwait hbad]
      exact (Dev.CardActs.refl (own := []) s.dev).fails i
    · refine completes_after (f := cardAtr i a) rfl ⟨rfl, ?_⟩
      rw [cardAtr_excluded hwait husable hcls, if_pos hB]
      exact s.dev.retryLater_waits i true false
    · refine completes_after (f := cardAtr i a) rfl ⟨rfl, ?_⟩
      rw [cardAtr_excluded hwait husable hcls, if_neg hB]
      exact (Dev.CardActs.refl (own := []) s.dev).fails i
    · obtain ⟨⟨hifsc, hbwi, hcwi, hcrc⟩, hgoes, hwork⟩ := cardAtr_takes hwait husable hcls
      exact completes_after (f := cardAtr i a) rfl ⟨rfl, hifsc, hbwi, hcwi, hcrc, hgoes, hwork⟩
    · refine completes_after (f := atrTimeout i) rfl ⟨rfl, ?_⟩
      rw [atrTimeout_awaited hwait, if_pos hB]
      exact s.dev.retryLater_waits i true false
    · refine completes_after (f := atrTimeout i) rfl ⟨rfl, ?_⟩
      rw [atrTimeout_awaited hwait, if_neg hB]
      have hopen : s.dev.CardActs [] (if (s.dev.card i).lowCurrent then (s.dev.raiseInt .cd i 6).mark .cdVccOpen .card i
          (s.dev.get R.CD_VCC_MV i) (s.dev.get R.CD_VCC_CURRENT i) else s.dev) :=
        .ite _ (((Dev.CardActs.refl s.dev).raiseInt _ _).mark _ _ _ _ _ _ _) (.refl s.dev)
      exact hopen.fails i
    · refine completes_after (f := atrCompletionTimeout i) rfl ⟨rfl, ?_⟩
      rw [atrCompletionTimeout, if_pos hwait]
      exact (Dev.CardActs.refl (own := []) s.dev).fails i
  case classRetry =>
    intro s i hretry
    refine completes_after (f := classRetry i) rfl ⟨rfl, ?_⟩
    rw [classRetry, if_pos hretry]
    exact s.dev.activate_powers i _ (by decide)
  case ppsRetry =>
    intro s i hretry
    refine completes_after (f := ppsRetry i) rfl ⟨rfl, ?_⟩
    rw [ppsRetry, if_pos hretry]
    exact s.dev.activate_powers i true (Dev.get_lt_four _ rfl _ _)
  case echo =>
    intro s i hpps
    have hfails : ppsEchoTimeout i s.dev = s.dev.ppsFails i := if_pos hpps
    refine ⟨fun hno => completes_after (f := ppsEchoTimeout i) rfl ⟨rfl, ?_⟩,
      fun hno => completes_after (f := ppsEchoTimeout i) rfl ⟨rfl, ?_⟩⟩
    · rw [hfails, Dev.ppsFails, if_pos hno]
      exact (Dev.CardActs.refl (own := []) s.dev).fails i
    · rw [hfails, Dev.ppsFails, if_neg (by simp [hno])]
      exact s.dev.retryLater_waits i false true
  case clock =>
    intro s i hstate hexchange hstop
    exact completes_after (f := cardClockStop i) rfl ⟨rfl, if_pos ⟨hstate, by simp [hexchange], hstop⟩⟩
  case sample =>
    intro s i mv current cls outside bad trip shown
    refine ⟨fun hoff => ?_, fun hon hcls hpps => ⟨fun htrip hbad => ?_, fun hfault => ?_⟩⟩
    · refine completes_after (f := cardVccSample i mv.toNat current.toNat) rfl ⟨rfl, ?_⟩
      rw [cardVccSample_unpowered hoff]
      exact ⟨s.dev.vccShown_shows i mv current, rfl⟩
    · refine completes_after (f := cardVccSample i mv.toNat current.toNat) rfl ⟨rfl, ?_⟩
      have hacts := s.dev.vccCounted_acts i mv.toNat current.toNat
      rw [cardVccSample_counts hon hcls hpps htrip hbad]
      exact ⟨s.dev.vccShown_shows i mv current, hacts.kept _ (by decide) i, Dev.card_setCard _ _ _, rfl, hacts.work⟩
    · obtain ⟨e, he⟩ := cardVccSample_faults hon hcls hpps hfault
      refine completes_after (f := cardVccSample i mv.toNat current.toNat) rfl ⟨rfl, ?_⟩
      obtain ⟨hdown, hbit, hacts⟩ := (s.dev.vccCounted i mv.toNat current.toNat).vccFault_ends i mv.toNat current.toNat e
      have hrest : (s.dev.vccCounted i mv.toNat current.toNat).restState i = s.dev.restState i := by
        rw [Dev.restState, Dev.vccCounted, Dev.card_setCard]
        rfl
      have hshown : (s.dev.vccCounted i mv.toNat current.toNat).ShowsVcc i mv current := s.dev.vccShown_shows i mv current
      rw [he]
      exact ⟨hshown.acts hacts (by decide), hdown.state.trans (hrest.trans (s.dev.restState_eq i)),
        congrArg CardIf.session hdown.card, congrArg CardIf.exchange hdown.card, hbit, hdown.sent,
        ((s.dev.vccCounted_acts i mv.toNat current.toNat).append hacts).work⟩
  case removed =>
    intro s i hcard
    obtain ⟨⟨hdetect, hpresent, hbit⟩, hgoes, hwork⟩ := cardRemoved_shows hcard
    exact completes_after (f := cardRemoved i) rfl ⟨rfl, hdetect, hpresent, hbit, hgoes, hwork⟩
  case inserted =>
    intro s i hcard
    exact completes_after (f := cardInserted i) rfl ⟨rfl, cardInserted_shows hcard⟩

end Sys2Proof.Machine

namespace Sys2Proof.Machine

/-! # O50: card commands, the card's responses, and ceremonies

A command that passes its checks starts an exchange. A response has its effect on the interface, and then the exchange ends in
one place for all of them; so do ceremonies. -/

/-! ## The checks of a command (R409) -/

/-- The commands of CD_CMD that a word may start. -/
def cardCommands (req : Requester) (i : Fin 2) (v : Word) : List Instr :=
  [.cardOpenSession req i v, .cardReadSlot req i v, .cardVerify req i v, .cardWriteShare req i v, .cardProtectSlot req i v,
    .cardWake req i v, .cardClose req i v]

/-- Every command of CD_CMD makes the same checks. -/
theorem exec_cardCommands {req : Requester} {i : Fin 2} {v : Word} {c : Instr} (h : c ∈ cardCommands req i v) (s : State) :
    ∃ (op : Nat) (go : Dev → Dev), exec c s = s.after (·.cardCommand req i op v.toNat go) := by
  simp only [cardCommands, List.mem_cons, List.not_mem_nil, or_false] at h
  obtain rfl | rfl | rfl | rfl | rfl | rfl | rfl := h <;> exact ⟨_, _, rfl⟩

section
variable {d : Dev} {req : Requester} {i op v : Nat} {go : Dev → Dev}

theorem Dev.cardCommand_stranger (h : req.origin ≠ .supervisor) :
    d.cardCommand req i op v go = d.err .cd i req .policyDenied := if_pos h

variable (hreq : req.origin = .supervisor)
include hreq

theorem Dev.cardCommand_busy (h : d.on R.CD_CMD_STATUS_BUSY i = true) :
    d.cardCommand req i op v go = d.err .cd i req .cerState := (if_neg (not_not_intro hreq)).trans (if_pos h)

variable (hbusy : d.on R.CD_CMD_STATUS_BUSY i = false) (hslot : v / 256 % 256 ≤ 15)
include hbusy hslot

theorem Dev.cardCommand_idle : d.cardCommand req i op v go =
    if !d.on R.CD_STATE_PRESENT i then (d.set R.CD_CMD_STATUS_STATUS Status.cardAbsent.code i).raiseInt .cd i 4
    else if d.cardState i ≠ 3 ∧ !(d.cardState i = 4 ∧ op = 6) then
      (d.set R.CD_CMD_STATUS_STATUS Status.cardSession.code i).raiseInt .cd i 4
    else if op ≠ 1 ∧ (d.card i).session.isNone then
      (d.set R.CD_CMD_STATUS_STATUS Status.cardSession.code i).raiseInt .cd i 4
    else go d :=
  (if_neg (not_not_intro hreq)).trans ((if_neg (by simp [hbusy])).trans (if_neg (Nat.not_lt.mpr hslot)))

theorem Dev.cardCommand_absent (h : d.on R.CD_STATE_PRESENT i = false) :
    d.cardCommand req i op v go = (d.set R.CD_CMD_STATUS_STATUS Status.cardAbsent.code i).raiseInt .cd i 4 :=
  (Dev.cardCommand_idle hreq hbusy hslot).trans (if_pos (by simp [h]))

theorem Dev.cardCommand_goes (h : d.on R.CD_STATE_PRESENT i = true)
    (hstate : d.get R.CD_STATE_STATE i = 3 ∨ (d.get R.CD_STATE_STATE i = 4 ∧ op = 6))
    (hsession : op = 1 ∨ ∃ x, (d.card i).session = some x) : d.cardCommand req i op v go = go d := by
  rw [Dev.cardCommand_idle hreq hbusy hslot, if_neg (by simp [h]), if_neg, if_neg]
  · rintro ⟨hop, hnone⟩
    obtain ⟨x, hx⟩ := hsession.resolve_left hop
    simp [hx] at hnone
  · rintro ⟨hne, hstopped⟩
    obtain ⟨hstate, hop⟩ := hstate.resolve_left hne
    simp [show d.cardState i = 4 from hstate, hop] at hstopped

end

/-! ## Exchanges that start (R391, R409) -/

/-- An exchange has started: BUSY is set, and the command has gone to the card. -/
def Dev.Starts (d e : Dev) (i : Nat) (x : CardExchange) (apdu : Bytes) : Prop :=
  (e.card i).exchange = some x ∧ e.on R.CD_CMD_STATUS_BUSY i = true ∧ .card i apdu ∈ e.outbox ∧
    d.SameButCards e

theorem Dev.card_cardStart (d : Dev) (i : Nat) (x : CardExchange) (apdu : Bytes) :
    (d.cardStart i x apdu).card i = { d.card i with exchange := some x } := Dev.card_setCard _ _ _

theorem Dev.cardStart_acts (d : Dev) (i : Nat) (x : CardExchange) (apdu : Bytes) :
    d.CardActs [R.CD_CMD_STATUS_BUSY] (d.cardStart i x apdu) :=
  (((Dev.CardActs.refl d).setCard _ _).set _ _ _).send _

theorem Dev.CardActs.starts {own : List Fld} {d e : Dev} (h : d.CardActs own e) (i : Nat) (x : CardExchange) (apdu : Bytes) :
    d.Starts (e.cardStart i x apdu) i x apdu := by
  refine ⟨by rw [Dev.card_cardStart], ?_, List.mem_append_right _ (List.mem_singleton.mpr rfl),
    (h.append (e.cardStart_acts i x apdu)).work⟩
  rw [Dev.on, Dev.cardStart, Dev.send_get, Dev.get_set_self]
  rfl

theorem Dev.cardStart_starts (d : Dev) (i : Nat) (x : CardExchange) (apdu : Bytes) :
    d.Starts (d.cardStart i x apdu) i x apdu := (Dev.CardActs.refl (own := []) d).starts i x apdu

/-- The argument of a command is the upper half of its word. -/
theorem bits_arg (v : Word) : bits v.toNat 31 16 = v.toNat / 65536 := by
  have hlt := v.isLt
  unfold bits
  omega

section
variable {d : Dev} {req : Requester} {i : Nat} {v : Word} (hreq : req.origin = .supervisor)
  (hbusy : d.on R.CD_CMD_STATUS_BUSY i = false) (hslot : v.toNat / 256 % 256 ≤ 15) (hcard : d.on R.CD_STATE_PRESENT i = true)
include hreq hbusy hslot hcard

theorem cardOpenSession_starts (hstate : d.get R.CD_STATE_STATE i = 3) :
    d.Starts (cardOpenSession req i v.toNat d) i (newExchange 1 0 []) [0xA4#8] ∧
      ((cardOpenSession req i v.toNat d).card i).session = none := by
  rw [cardOpenSession, Dev.cardCommand_goes hreq hbusy hslot hcard (.inl hstate) (.inl rfl)]
  refine ⟨(d.endCardSession_acts i).starts _ _ _, ?_⟩
  rw [Dev.card_cardStart, Dev.card_endCardSession]

section
variable (hstate : d.get R.CD_STATE_STATE i = 3) {x : CardSession} (hsession : (d.card i).session = some x)
include hstate hsession

theorem cardReadSlot_starts : d.Starts (cardReadSlot req i v.toNat d) i (newExchange 2 (v.toNat / 256 % 256) [])
    [0xB0#8, BitVec.ofNat 8 (v.toNat / 256 % 256)] := by
  rw [cardReadSlot, Dev.cardCommand_goes hreq hbusy hslot hcard (.inl hstate) (.inr ⟨x, hsession⟩)]
  exact d.cardStart_starts _ _ _

theorem cardVerify_starts (hmin : 16 ≤ v.toNat / 65536) (hmax : v.toNat / 65536 ≤ 128) :
    d.Starts (cardVerify req i v.toNat d) i (newExchange 3 0 []) (0x20#8 :: d.pinBlockBytes i (v.toNat / 65536)) := by
  rw [cardVerify, Dev.cardCommand_goes hreq hbusy hslot hcard (.inl hstate) (.inr ⟨x, hsession⟩)]
  dsimp only
  rw [bits_arg, if_neg (by omega)]
  exact d.cardStart_starts _ _ _

theorem cardWriteShare_starts {k : BackupKey} (hkey : d.cards.backup = some k) (hceremony : d.get R.CD_CER_STATUS_STATE = 3)
    (hmin : 1 ≤ v.toNat / 65536) (hmax : v.toNat / 65536 ≤ k.n) : d.Starts (cardWriteShare req i v.toNat d) i
      (newExchange 4 (v.toNat / 256 % 256) (k.slotData (v.toNat / 65536))) [0xB0#8, BitVec.ofNat 8 (v.toNat / 256 % 256)] := by
  rw [cardWriteShare, Dev.cardCommand_goes hreq hbusy hslot hcard (.inl hstate) (.inr ⟨x, hsession⟩), hkey]
  dsimp only
  rw [if_neg (not_not_intro hceremony), bits_arg, if_neg (by omega)]
  exact d.cardStart_starts _ _ _

theorem cardProtectSlot_starts : d.Starts (cardProtectSlot req i v.toNat d) i (newExchange 5 (v.toNat / 256 % 256) [])
    [0xDA#8, BitVec.ofNat 8 (v.toNat / 256 % 256)] := by
  rw [cardProtectSlot, Dev.cardCommand_goes hreq hbusy hslot hcard (.inl hstate) (.inr ⟨x, hsession⟩)]
  exact d.cardStart_starts _ _ _

theorem cardClose_starts : d.Starts (cardClose req i v.toNat d) i (newExchange 7 0 []) [0x14#8] := by
  rw [cardClose, Dev.cardCommand_goes hreq hbusy hslot hcard (.inl hstate) (.inr ⟨x, hsession⟩)]
  exact d.cardStart_starts _ _ _

end

/-- A wake-up runs the clock again, and raises the session's counter (R390, R394). -/
theorem cardWake_starts (hstate : d.get R.CD_STATE_STATE i = 3 ∨ d.get R.CD_STATE_STATE i = 4) {x : CardSession}
    (hsession : (d.card i).session = some x) :
    d.Starts (cardWake req i v.toNat d) i (newExchange 6 0 []) (0x12#8 :: beBytes 4 (x.counter + 1)) ∧
      (cardWake req i v.toNat d).get R.CD_STATE_STATE i = 3 ∧
      ((cardWake req i v.toNat d).card i).session = some { x with counter := x.counter + 1 } := by
  rw [cardWake, Dev.cardCommand_goes hreq hbusy hslot hcard (hstate.imp id fun h => ⟨h, rfl⟩) (.inr ⟨x, hsession⟩),
    hsession]
  dsimp only
  refine ⟨(((Dev.CardActs.refl (own := [R.CD_STATE_STATE]) d).setCard _ _).set _ _ _).starts _ _ _, ?_, ?_⟩
  · rw [(Dev.cardStart_acts _ _ _ _).kept _ (by decide), Dev.get_set_self]
    rfl
  · rw [Dev.card_cardStart, Dev.card_set, Dev.card_setCard]

end

end Sys2Proof.Machine

namespace Sys2Proof.Machine

/-! ## Exchanges that a response ends (R388, R391, R402, R409) -/

theorem Dev.backupDone_eq (d : Dev) : d.backupDone = d ∨ d.backupDone = d.authDone := by
  unfold Dev.backupDone
  split
  · split
    · exact .inr rfl
    · exact .inl rfl
  · exact .inl rfl

theorem Dev.backupDone_acts (d : Dev) : d.CardActs cerFields d.backupDone := by
  obtain h | h := d.backupDone_eq <;> rw [h]
  · exact .refl d
  · exact d.authDone_acts

theorem Dev.card_backupDone (d : Dev) (i : Nat) : d.backupDone.card i = d.card i := by
  obtain h | h := d.backupDone_eq <;> rw [h]
  exact d.card_authDone i

/-- The end of an exchange with a status, and of the ceremony whose last share it wrote. -/
def Dev.answered (d : Dev) (i : Nat) (x : CardExchange) (st : Status) : Dev := (d.cardEnd i x.op x.slot st).backupDone

theorem Dev.answered_acts (d : Dev) (i : Nat) (x : CardExchange) (st : Status) :
    d.CardActs exchangeFields (d.answered i x st) :=
  (d.cardEnd_acts i x.op x.slot st).trans ((Dev.backupDone_acts _).mono (by decide))

theorem Dev.answered_ended (d : Dev) (i : Nat) (x : CardExchange) (st : Status) : (d.answered i x st).ExchangeEnded i st :=
  (d.cardEnd_ended i x.op x.slot st).acts (Dev.backupDone_acts _) (by decide)

theorem Dev.card_answered (d : Dev) (i : Nat) (x : CardExchange) (st : Status) :
    (d.answered i x st).card i = { d.card i with exchange := none } := by
  rw [Dev.answered, Dev.card_backupDone, Dev.card_cardEnd]

/-- An exchange has ended with a status, and only the cards and their pages have changed. -/
def Dev.Ended (d e : Dev) (i : Nat) (st : Status) : Prop :=
  (e.card i).exchange = none ∧ e.on R.CD_CMD_STATUS_BUSY i = false ∧ e.get R.CD_CMD_STATUS_STATUS i = st.code ∧
    (e.get (R.INT_RAW .cd) i).testBit 4 = true ∧ d.SameButCards e

theorem Dev.CardActs.answers {own : List Fld} {d e : Dev} (h : d.CardActs own e) (i : Nat) (x : CardExchange) (st : Status) :
    d.Ended (e.answered i x st) i st := by
  obtain ⟨hbusy, hstatus, hbit⟩ := e.answered_ended i x st
  exact ⟨by rw [Dev.card_answered], hbusy, hstatus, hbit, (h.append (e.answered_acts i x st)).work⟩

theorem Dev.card_blockDone (d : Dev) (i : Nat) (x : CardExchange) : (d.blockDone i x).card i =
    { d.card i with ns := 1 - (d.card i).ns, exchange := some { x with tries := 0, resynchs := 0, wtx := 0 } } :=
  Dev.card_setCard _ _ _

theorem Dev.blockDone_session {d : Dev} {i : Nat} {c : CardSession} (h : (d.card i).session = some c) (x : CardExchange) :
    ((d.blockDone i x).card i).session = some c := by
  rw [Dev.card_blockDone]
  exact h

theorem Dev.blockDone_acts (d : Dev) (i : Nat) (x : CardExchange) : d.CardActs [] (d.blockDone i x) :=
  (Dev.CardActs.refl d).setCard _ _

section
variable {d e : Dev} {lc i : Nat} {x : CardExchange} {a : CardAnswer} {st : Status}
  (hx : (d.card i).exchange = some x) (hpps : (d.card i).pps = none)
include hx hpps

/-- A response that ends the operation, from a card that is present. -/
theorem cardT1Block_answered (hcard : (d.card i).detect = true) (h : (d.blockDone i x).cardAnswer lc i x a = (some st, e)) :
    cardT1Block lc i (.response a) d = e.answered i x st := by
  unfold cardT1Block
  rw [hpps, hx]
  dsimp only
  rw [h]
  exact if_pos hcard

/-- A response after which the operation goes on. -/
theorem cardT1Block_goesOn (h : (d.blockDone i x).cardAnswer lc i x a = (none, e)) : cardT1Block lc i (.response a) d = e := by
  unfold cardT1Block
  rw [hpps, hx]
  dsimp only
  rw [h]

theorem cardT1Block_bad : cardT1Block lc i .bad d = d.blockFails i x false := by
  unfold cardT1Block
  rw [hpps, hx]

end

theorem cardWaitTimeout_running {d : Dev} {i : Nat} {x : CardExchange} (hx : (d.card i).exchange = some x) :
    cardWaitTimeout i d = d.blockFails i x true := by
  rw [cardWaitTimeout, hx]

/-- A failed block is asked for again while tries are left (R388). -/
theorem Dev.blockFails_retries {d : Dev} {i : Nat} {x : CardExchange} (overrun : Bool) (hsynch : x.resynchs = 0)
    (htries : x.tries < d.get R.CD_T1_RETRY i) : d.blockFails i x overrun =
      (d.setCard i { d.card i with exchange := some { x with tries := x.tries + 1, timeout := overrun, wtx := 0 } }).send
        (.card i [0x82#8]) := if_pos ⟨htries, hsynch⟩

/-! ## What a response does (R391 to R396) -/

/-- A session is open, and its card shows (R394, R410). -/
def Dev.sessionOpened (d : Dev) (i : Nat) (c : CardSession) : Dev :=
  ((((d.setCard i { d.card i with session := some c }).set R.CD_STATE_SESSION 1 i).set R.CD_CARD_ID_LO (c.cardId % 2 ^ 32)
    i).set R.CD_CARD_ID_HI (c.cardId / 2 ^ 32) i).raiseInt .cd i 5

theorem Dev.card_sessionOpened (d : Dev) (i : Nat) (c : CardSession) :
    (d.sessionOpened i c).card i = { d.card i with session := some c } := by
  simp only [Dev.sessionOpened, Dev.card_raiseInt, Dev.card_set, Dev.card_setCard]

theorem Dev.sessionOpened_acts (d : Dev) (i : Nat) (c : CardSession) : d.CardActs sessionFields (d.sessionOpened i c) :=
  (((((Dev.CardActs.refl d).setCard _ _).set _ _ _).set _ _ _).set _ _ _).raiseInt _ _

theorem Dev.sessionOpened_session (d : Dev) (i : Nat) (c : CardSession) :
    (d.sessionOpened i c).on R.CD_STATE_SESSION i = true := by
  unfold Dev.sessionOpened
  rw [Dev.on, Dev.raiseInt_get_cd _ (by decide), Dev.get_set_parted _ _ _ _ (by decide),
    Dev.get_set_parted _ _ _ _ (by decide), Dev.get_set_self]
  rfl

theorem Dev.resolveDoubt_acts (d : Dev) (id slot : Nat) (y : SlotImage) : d.CardActs [] (d.resolveDoubt id slot y) := by
  unfold Dev.resolveDoubt
  split
  · exact .refl d
  · have hlisted := Dev.CardActs.withCards (.refl (own := []) d)
    exact .ite _ ((hlisted _).mark _ _ _ _ _ _ _) (hlisted _)

theorem Dev.card_resolveDoubt (d : Dev) (id slot i : Nat) (y : SlotImage) : (d.resolveDoubt id slot y).card i = d.card i := by
  unfold Dev.resolveDoubt
  split
  · rfl
  · dsimp only
    split
    · rw [Dev.card_mark]
      rfl
    · rfl

theorem Dev.takeShare_eq (d : Dev) (y : SlotImage) : ∃ (l : List (Nat × Bytes)) (id : Bytes) (m : Nat),
    d.takeShare y = { d with cards := { d.cards with shares := l, shareId := id, shareM := m } } := by
  unfold Dev.takeShare
  dsimp only
  split
  · exact ⟨_, _, _, rfl⟩
  · split
    · exact ⟨_, _, _, rfl⟩
    · split
      · exact ⟨_, _, _, rfl⟩
      · split <;> exact ⟨_, _, _, rfl⟩

/-- What a slot whose CRC passes shows. -/
def Dev.slotShown (d : Dev) (i slot : Nat) (c : CardSession) (y : SlotImage) : Dev :=
  let d0 := d.resolveDoubt c.cardId slot y
  ((d0.setCard i { d0.card i with session := some { c with flags := Tab.put c.flags slot y.flags } }).set R.CD_CMD_STATUS_FLAGS
    (y.flags % 4) i).set R.CD_SLOT_VERSION y.version i

theorem Dev.slotShown_acts (d : Dev) (i slot : Nat) (c : CardSession) (y : SlotImage) :
    d.CardActs [R.CD_CMD_STATUS_FLAGS, R.CD_SLOT_VERSION] (d.slotShown i slot c y) :=
  (((d.resolveDoubt_acts _ _ _).mono (by simp)).setCard _ _ |>.set _ _ _).set _ _ _

theorem Dev.card_slotShown (d : Dev) (i slot : Nat) (c : CardSession) (y : SlotImage) : (d.slotShown i slot c y).card i =
    { d.card i with session := some { c with flags := Tab.put c.flags slot y.flags } } := by
  unfold Dev.slotShown
  rw [Dev.card_set, Dev.card_set, Dev.card_setCard, Dev.card_resolveDoubt]

theorem Dev.slotShown_shows (d : Dev) (i slot : Nat) (c : CardSession) (y : SlotImage) :
    (d.slotShown i slot c y).get R.CD_CMD_STATUS_FLAGS i = y.flags % 4 ∧
      (d.slotShown i slot c y).get R.CD_SLOT_VERSION i = y.version % 2 ^ 32 := by
  unfold Dev.slotShown
  refine ⟨?_, Dev.get_set_self _ _ _ _ _⟩
  rw [Dev.get_set_parted _ _ _ _ (by decide), Dev.get_set_self]
  exact Nat.mod_eq_of_lt (lt_trans (Nat.mod_lt _ (by decide)) (by decide))

section
variable {d : Dev} {lc i : Nat} {x : CardExchange}

theorem Dev.cardAnswer_session {id hash : Nat} {e : RosterEntry} (hop : x.op = 1)
    (hroster : d.cards.roster.find? (fun e => e.keyHash == hash && e.cardId == id) = some e) :
    d.cardAnswer lc i x (.session id hash true) = (some .ok, d.sessionOpened i ⟨id, hash, e.classes, false, [], 0⟩) := by
  have hopens : d.sessionOpens lc i id hash true = (.ok, d.sessionOpened i ⟨id, hash, e.classes, false, [], 0⟩) := by
    unfold Dev.sessionOpens
    rw [hroster]
    exact if_neg (by simp)
  refine (if_pos hop).trans ?_
  rw [hopens]

variable {y : SlotImage} {c : CardSession} (hsession : (d.card i).session = some c)
include hsession

theorem Dev.cardAnswer_slot_ok (hop : x.op = 2) (hcrc : y.crcOk = true) :
    d.cardAnswer lc i x (.slot y) = (some .ok, (d.slotShown i x.slot c y).takeShare y) := by
  unfold Dev.cardAnswer
  rw [hsession]
  refine (if_pos hop).trans ?_
  rw [Dev.slotRead, if_pos hcrc]
  rfl

theorem Dev.cardAnswer_slot_undefined (hop : x.op = 2) (hcrc : y.crcOk = false) : d.cardAnswer lc i x (.slot y) =
    (some .slotUndefined, (d.resolveDoubt c.cardId x.slot y).set R.CD_CMD_STATUS_FLAGS 64 i) := by
  unfold Dev.cardAnswer
  rw [hsession]
  refine (if_pos hop).trans ?_
  rw [Dev.slotRead, if_neg (by simp [hcrc])]

/-- WRITE SLOT follows the read of a slot that is not protected (R396). -/
theorem Dev.cardAnswer_writes (hop : x.op = 4) (hsent : x.sent = false) (hcrc : y.crcOk = true) (hflags : y.flags % 4 = 0) :
    d.cardAnswer lc i x (.slot y) = (none, (d.setCard i { d.card i with
      exchange := some { x with sent := true, version := y.version, tries := 0, wtx := 0 } }).send
        (.card i [0xD0#8, BitVec.ofNat 8 x.slot])) := by
  unfold Dev.cardAnswer
  rw [hsession]
  refine (if_neg (by rw [hop]; decide)).trans ((if_pos ⟨hop, by simp [hsent]⟩).trans ?_)
  exact (if_neg (by simp [hcrc])).trans (if_neg (not_not_intro hflags))

theorem Dev.cardAnswer_written (n : Nat) (hop : x.op = 4) (hsent : x.sent = true) : ∃ s : Cards,
    d.cardAnswer lc i x (.written n) = (some .ok, ({ d with cards := s } : Dev).set R.CD_SLOT_VERSION n i) := by
  unfold Dev.cardAnswer
  rw [hsession]
  exact ⟨_, if_pos (c := x.op = 4 ∧ x.sent = true) ⟨hop, hsent⟩⟩

end

section
variable {d : Dev} {lc i : Nat} {x : CardExchange} (hx : (d.card i).exchange = some x) (hpps : (d.card i).pps = none)
  (hcard : (d.card i).detect = true)
include hx hpps hcard

/-- The response of a card of the roster opens its session, and ends the command (R394). -/
theorem cardT1Block_session {id hash : Nat} {e : RosterEntry} (hop : x.op = 1)
    (hroster : d.cards.roster.find? (fun e => e.keyHash == hash && e.cardId == id) = some e) :
    let e' := cardT1Block lc i (.response (.session id hash true)) d
    d.Ended e' i .ok ∧ (e'.card i).session = some ⟨id, hash, e.classes, false, [], 0⟩ ∧
      e'.on R.CD_STATE_SESSION i = true := by
  dsimp only
  rw [cardT1Block_answered hx hpps hcard (Dev.cardAnswer_session hop hroster)]
  refine ⟨((d.blockDone_acts i x).append (Dev.sessionOpened_acts _ i _)).answers i x .ok, ?_, ?_⟩
  · rw [Dev.card_answered, Dev.card_sessionOpened]
  · rw [Dev.on, (Dev.answered_acts _ i x .ok).kept _ (by decide)]
    exact Dev.sessionOpened_session _ _ _

variable {c : CardSession} (hsession : (d.card i).session = some c)
include hsession

/-- The read of a slot shows its flags and its version, and notes its flags in the session (R393). -/
theorem cardT1Block_slot {y : SlotImage} (hop : x.op = 2) (hcrc : y.crcOk = true) :
    let e := cardT1Block lc i (.response (.slot y)) d
    d.Ended e i .ok ∧ e.get R.CD_CMD_STATUS_FLAGS i = y.flags % 4 ∧ e.get R.CD_SLOT_VERSION i = y.version % 2 ^ 32 ∧
      (e.card i).session = some { c with flags := Tab.put c.flags x.slot y.flags } := by
  have hopen := Dev.blockDone_session hsession x
  dsimp only
  rw [cardT1Block_answered hx hpps hcard (Dev.cardAnswer_slot_ok hopen hop hcrc)]
  obtain ⟨l, id, m, hshare⟩ := ((d.blockDone i x).slotShown i x.slot c y).takeShare_eq y
  obtain ⟨hflags, hversion⟩ := (d.blockDone i x).slotShown_shows i x.slot c y
  have hended (e : Dev) := e.answered_acts i x .ok
  rw [hshare]
  refine ⟨(((d.blockDone_acts i x).append (Dev.slotShown_acts _ i x.slot c y)).withCards _).answers i x .ok, ?_, ?_, ?_⟩
  · exact ((hended _).kept _ (by decide) i).trans hflags
  · exact ((hended _).kept _ (by decide) i).trans hversion
  · rw [Dev.card_answered]
    exact congrArg CardIf.session (Dev.card_slotShown _ _ _ _ _)

theorem cardT1Block_slotUndefined {y : SlotImage} (hop : x.op = 2) (hcrc : y.crcOk = false) :
    let e := cardT1Block lc i (.response (.slot y)) d
    d.Ended e i .slotUndefined ∧ e.get R.CD_CMD_STATUS_FLAGS i = 64 := by
  have hopen := Dev.blockDone_session hsession x
  have hread := (Dev.resolveDoubt_acts (d.blockDone i x) c.cardId x.slot y).mono (more := [R.CD_CMD_STATUS_FLAGS]) (by simp)
  dsimp only
  rw [cardT1Block_answered hx hpps hcard (Dev.cardAnswer_slot_undefined hopen hop hcrc)]
  refine ⟨((d.blockDone_acts i x).append (hread.set _ _ _)).answers i x .slotUndefined, ?_⟩
  rw [(Dev.answered_acts _ i x .slotUndefined).kept _ (by decide), Dev.get_set_self]
  rfl

omit hcard in
/-- The read of a slot that is not protected is followed by WRITE SLOT (R396). -/
theorem cardT1Block_writes {y : SlotImage} (hop : x.op = 4) (hsent : x.sent = false) (hcrc : y.crcOk = true)
    (hflags : y.flags % 4 = 0) :
    let e := cardT1Block lc i (.response (.slot y)) d
    (∃ z, (e.card i).exchange = some z ∧ z.sent = true ∧ z.version = y.version ∧ z.data = x.data ∧ z.slot = x.slot) ∧
      .card i [0xD0#8, BitVec.ofNat 8 x.slot] ∈ e.outbox ∧ d.SameButCards e := by
  have hopen := Dev.blockDone_session hsession x
  dsimp only
  rw [cardT1Block_goesOn hx hpps (Dev.cardAnswer_writes hopen hop hsent hcrc hflags)]
  exact ⟨⟨_, congrArg CardIf.exchange (Dev.card_setCard _ _ _), rfl, rfl, rfl, rfl⟩,
    List.mem_append_right _ (List.mem_singleton.mpr rfl), (((d.blockDone_acts i x).setCard _ _).send _).work⟩

theorem cardT1Block_written (n : Nat) (hop : x.op = 4) (hsent : x.sent = true) :
    let e := cardT1Block lc i (.response (.written n)) d
    d.Ended e i .ok ∧ e.get R.CD_SLOT_VERSION i = n % 2 ^ 32 := by
  have hopen := Dev.blockDone_session hsession x
  obtain ⟨s, hanswer⟩ := Dev.cardAnswer_written (lc := lc) hopen n hop hsent
  have hacts := (((d.blockDone_acts i x).withCards s).mono (more := [R.CD_SLOT_VERSION]) (by simp)).set R.CD_SLOT_VERSION n i
  dsimp only
  rw [cardT1Block_answered hx hpps hcard hanswer]
  refine ⟨hacts.answers i x .ok, ?_⟩
  rw [(Dev.answered_acts _ i x .ok).kept _ (by decide), Dev.get_set_self]
  rfl

end

/-- The limit of a command ends its exchange with a timeout, and takes the contacts down (R389). -/
theorem wtxLimit_ends {d : Dev} {i : Nat} {x : CardExchange} (hx : (d.card i).exchange = some x)
    (hcard : (d.card i).detect = true) :
    d.Ended (wtxLimit i d) i .cardTimeout ∧ (wtxLimit i d).get R.CD_STATE_STATE i = 1 ∧
      ((wtxLimit i d).card i).session = none ∧ .contacts i false ∈ (wtxLimit i d).outbox := by
  have hlimit : wtxLimit i d = (d.breakExchange i .cardTimeout).deactivate i 1 := by
    have hrest := d.breakExchange_rest i .cardTimeout
    rw [d.restState_eq, if_pos hcard] at hrest
    rw [wtxLimit, if_pos (by rw [hx]; rfl), if_pos hcard]
    dsimp only
    rw [hrest]
  have hdown := d.breakExchange_down i .cardTimeout (state := 1) (by decide)
  obtain ⟨e, st, -, -, hst, hbroken⟩ := Dev.breakExchange_ends hx .cardTimeout
  have hended : (d.breakExchange i .cardTimeout).ExchangeEnded i .cardTimeout := by
    rw [hbroken, hst rfl]
    exact e.cardEnd_ended _ _ _ _
  obtain ⟨hbusy, hstatus, hbit⟩ := hended.acts (Dev.deactivate_acts _ i 1) (by decide)
  rw [hlimit]
  exact ⟨⟨by rw [hdown.card]; rfl, hbusy, hstatus, hbit, (d.breakDown_acts i _ _).work⟩, hdown.state,
    by rw [hdown.card]; rfl, hdown.sent⟩

/-! ## Ceremonies (R402, R404, R406) -/

/-- What a ceremony that opens shows, but for its record. -/
def Dev.ceremonyShown (d : Dev) (cls bay m : Nat) : Dev :=
  ((((d.set R.CD_CER_STATUS_STATE 1).set R.CD_CER_STATUS_CLASS cls).set R.CD_CER_STATUS_BAY bay).set R.CD_CER_STATUS_COUNT
    0).set R.CD_CER_STATUS_M m

/-- The bay that a ceremony covers (R401). -/
theorem bayScoped_bits (v : Nat) : (if bayScoped (v / 256 % 256) then bits v 23 16 else 0) =
    if v / 256 % 256 = 5 ∨ v / 256 % 256 = 6 ∨ v / 256 % 256 = 10 then v / 65536 % 256 else 0 := by
  refine if_congr ?_ rfl rfl
  simp [bayScoped, or_assoc]

section
variable {d : Dev} {lvl v : Nat} {req : Requester}

theorem ceremonyOpen_running (h : d.get R.CD_CER_STATUS_STATE ≠ 0) :
    ceremonyOpen lvl req v d = d.err .cd 0 req .cerState := if_pos h

variable (hidle : d.get R.CD_CER_STATUS_STATE = 0)
include hidle

theorem ceremonyOpen_outOfRange (h : v / 256 % 256 < 1 ∨ 10 < v / 256 % 256 ∨ d.threshold (v / 256 % 256) = 0) :
    ceremonyOpen lvl req v d = d.err .cd 0 req .inputRange := (if_neg (not_not_intro hidle)).trans (if_pos h)

theorem ceremonyOpen_opens (hmin : 1 ≤ v / 256 % 256) (hmax : v / 256 % 256 ≤ 10) (hm : d.threshold (v / 256 % 256) ≠ 0)
    (hlevel : lvl < 2) : ceremonyOpen lvl req v d =
      (d.ceremonyShown (v / 256 % 256) (if bayScoped (v / 256 % 256) then bits v 23 16 else 0)
        (d.threshold (v / 256 % 256))).mark .cerOpen .card 0 (v / 256 % 256)
          (if bayScoped (v / 256 % 256) then bits v 23 16 else 0) (d.threshold (v / 256 % 256)) :=
  (if_neg (not_not_intro hidle)).trans ((if_neg (by
    rintro (h | h | h)
    · exact absurd hmin (Nat.not_le.mpr h)
    · exact absurd hmax (Nat.not_le.mpr h)
    · exact hm h)).trans (if_neg (Nat.not_le.mpr hlevel)))

end

theorem Dev.ceremonyShown_shows (d : Dev) {cls bay m : Nat} (hcls : cls < 16) (hbay : bay < 256) (hm : m < 32) :
    (d.ceremonyShown cls bay m).get R.CD_CER_STATUS_STATE = 1 ∧ (d.ceremonyShown cls bay m).get R.CD_CER_STATUS_CLASS = cls ∧
      (d.ceremonyShown cls bay m).get R.CD_CER_STATUS_COUNT = 0 ∧ (d.ceremonyShown cls bay m).get R.CD_CER_STATUS_M = m ∧
      (d.ceremonyShown cls bay m).get R.CD_CER_STATUS_BAY = bay := by
  unfold Dev.ceremonyShown
  simp (disch := decide) only [Dev.get_set_parted, Dev.get_set_self]
  exact ⟨rfl, Nat.mod_eq_of_lt hcls, rfl, Nat.mod_eq_of_lt hm, Nat.mod_eq_of_lt hbay⟩

theorem Dev.mark_get_cd (d : Dev) (ev : Event) (isl : Island) (u p0 p1 p2 p3 : Nat) {f : Fld} (hf : f.blk = .cd ∧ f.Plain) :
    (d.mark ev isl u p0 p1 p2 p3).get f = d.get f := (d.mark_reported reportKey ev isl u p0 p1 p2 p3).get_cd hf 0

/-- Opening a ceremony shows its class, its bay and its threshold, and is recorded. -/
theorem ceremonyOpen_shows {d : Dev} {lvl v : Nat} {req : Requester} (hidle : d.get R.CD_CER_STATUS_STATE = 0)
    (hmin : 1 ≤ v / 256 % 256) (hmax : v / 256 % 256 ≤ 10) (hm : d.threshold (v / 256 % 256) ≠ 0)
    (hfew : d.threshold (v / 256 % 256) < 32) (hlevel : lvl < 2) :
    let e := ceremonyOpen lvl req v d
    e.get R.CD_CER_STATUS_STATE = 1 ∧ e.get R.CD_CER_STATUS_CLASS = v / 256 % 256 ∧ e.get R.CD_CER_STATUS_COUNT = 0 ∧
      e.get R.CD_CER_STATUS_M = d.threshold (v / 256 % 256) ∧ e.get R.CD_CER_STATUS_BAY =
        (if v / 256 % 256 = 5 ∨ v / 256 % 256 = 6 ∨ v / 256 % 256 = 10 then v / 65536 % 256 else 0) ∧ d.SameWork e := by
  dsimp only
  rw [ceremonyOpen_opens hidle hmin hmax hm hlevel, bayScoped_bits]
  simp (disch := decide) only [Dev.mark_get_cd]
  obtain ⟨hstate, hcls, hcount, hthreshold, hbay⟩ := d.ceremonyShown_shows (cls := v / 256 % 256) (bay :=
    if v / 256 % 256 = 5 ∨ v / 256 % 256 = 6 ∨ v / 256 % 256 = 10 then v / 65536 % 256 else 0) (by omega)
    (by split <;> omega) hfew
  exact ⟨hstate, hcls, hcount, hthreshold, hbay,
    (Dev.SameWork.of_regs rfl : d.SameWork (d.ceremonyShown _ _ _)).trans (Dev.mark_reported reportKey _ _ _ _ _ _ _ _).work⟩

/-- A ceremony that ends is cleared, and its end is raised (R402, R405). -/
theorem Dev.cerEnd_clears (d : Dev) (reason : Nat) :
    (∀ f ∈ cerFields, (d.cerEnd reason).get f = 0) ∧ ((d.cerEnd reason).get (R.INT_RAW .cd)).testBit 9 = true ∧
      (d.cerEnd reason).cards = d.cards.ceremonyEnded ∧ d.SameButCards (d.cerEnd reason) := by
  refine ⟨fun f hf => ?_, ?_, d.cerEnd_cards reason, (d.cerEnd_acts reason).work⟩
  · obtain ⟨s, hreport⟩ := d.cerEnd_reported reason
    have hplain : ∀ g ∈ cerFields, g.blk = .cd ∧ g.Plain := by decide
    rw [Dev.Reported.get_cd hreport (hplain f hf)]
    show d.cerCleared.get f = 0
    unfold Dev.cerCleared
    simp only [cerFields, List.mem_cons, List.not_mem_nil, or_false] at hf
    obtain rfl | rfl | rfl | rfl | rfl := hf <;>
      simp (disch := decide) only [Dev.get_set_parted, Dev.get_set_self, Nat.zero_mod]
  · obtain ⟨p0, p1, p2, he⟩ := d.cerEnd_shape reason
    rw [he]
    exact Dev.raiseInt_bit _ (Blk.apart_cd 0) (by decide)

/-! ## The statement -/

/-- Settles O50: commands by the checks they share, responses by what each does before the exchange ends, and ceremonies by
the registers they show. -/
theorem cardCommandsAndCeremonies : Obligations.CardCommandsAndCeremonies := by
  unfold Obligations.CardCommandsAndCeremonies
  intro frame commands
  refine ⟨?checks, ?starts, ?responses, ?opens, ?ends⟩
  case checks =>
    intro s req i v c hc refused
    obtain ⟨op, go, hexec⟩ := exec_cardCommands hc s
    refine ⟨fun hreq => completes_after hexec ⟨rfl, ?_⟩, fun hreq hbusy => completes_after hexec ⟨rfl, ?_⟩,
      fun hreq hbusy hslot habsent => completes_after hexec ⟨rfl, ?_⟩⟩
    · rw [Dev.cardCommand_stranger hreq]
      exact ⟨Dev.err_code _ _ _ (Blk.apart_cd i), s.dev.err_reported _ _ _ _⟩
    · rw [Dev.cardCommand_busy hreq hbusy]
      exact ⟨Dev.err_code _ _ _ (Blk.apart_cd i), s.dev.err_reported _ _ _ _⟩
    · rw [Dev.cardCommand_absent hreq hbusy hslot habsent]
      refine ⟨?_, Dev.raiseInt_bit _ (Blk.apart_cd i) (by decide), ?_⟩
      · rw [Dev.raiseInt_get_cd _ (by decide), Dev.get_set_self]
        exact Status.code_mod _
      · exact ((Dev.Reported.refl s.dev).set _ _ _ _ (.inr (.inl rfl))).raiseInt _ _ _ (.inr (.inr (reportKey_raw _ _)))
  case starts =>
    intro s req i v slot arg starts hreq hbusy hslot hcard
    refine ⟨fun hstate => ?_, fun x hstate hsession =>
      ⟨?_, fun hmin hmax => ?_, fun k hkey hceremony hmin hmax => ?_, ?_, ?_⟩,
      fun x hstate hsession => ?_⟩
    · obtain ⟨hstarts, hnone⟩ := cardOpenSession_starts hreq hbusy hslot hcard hstate
      exact completes_after (f := cardOpenSession req i v.toNat) rfl ⟨⟨rfl, hstarts⟩, hnone⟩
    · exact completes_after (f := cardReadSlot req i v.toNat) rfl
        ⟨rfl, cardReadSlot_starts hreq hbusy hslot hcard hstate hsession⟩
    · exact completes_after (f := cardVerify req i v.toNat) rfl
        ⟨rfl, cardVerify_starts hreq hbusy hslot hcard hstate hsession hmin hmax⟩
    · exact completes_after (f := cardWriteShare req i v.toNat) rfl
        ⟨rfl, cardWriteShare_starts hreq hbusy hslot hcard hstate hsession hkey hceremony hmin hmax⟩
    · exact completes_after (f := cardProtectSlot req i v.toNat) rfl
        ⟨rfl, cardProtectSlot_starts hreq hbusy hslot hcard hstate hsession⟩
    · exact completes_after (f := cardClose req i v.toNat) rfl
        ⟨rfl, cardClose_starts hreq hbusy hslot hcard hstate hsession⟩
    · obtain ⟨hstarts, hactive, hraised⟩ := cardWake_starts hreq hbusy hslot hcard hstate hsession
      exact completes_after (f := cardWake req i v.toNat) rfl ⟨⟨rfl, hstarts⟩, hactive, hraised⟩
  case responses =>
    intro s i x hx hpps hcard ends
    have hends {st : Status} {e : Dev} (h : s.dev.Ended e i st) : ends st s.perm e := ⟨rfl, h⟩
    have hblock {b : T1Block} {P : Perm → Dev → Prop} (h : P s.perm (cardT1Block s.perm.lcState i b s.dev)) :
        Completes (.cardT1Block i b) s P := completes_afterWith (f := fun p d => cardT1Block p.lcState i b d) rfl h
    refine ⟨fun id hash e hop hroster => ?_, fun y c hop hsession => ⟨fun hcrc => ?_, fun hcrc => ?_⟩,
      fun y c hop hsent hsession hcrc hflags => ?_, fun n c hop hsent hsession => ?_, fun overrun hsynch htries => ?_, ?_⟩
    · obtain ⟨hended, hopened⟩ := cardT1Block_session (lc := s.perm.lcState) hx hpps hcard hop hroster
      exact hblock ⟨hends hended, hopened⟩
    · obtain ⟨hended, hshown⟩ := cardT1Block_slot (lc := s.perm.lcState) hx hpps hcard hsession hop hcrc
      exact hblock ⟨hends hended, hshown⟩
    · obtain ⟨hended, hshown⟩ := cardT1Block_slotUndefined (lc := s.perm.lcState) hx hpps hcard hsession hop hcrc
      exact hblock ⟨hends hended, hshown⟩
    · exact hblock ⟨rfl, cardT1Block_writes hx hpps hsession hop hsent hcrc hflags⟩
    · obtain ⟨hended, hshown⟩ := cardT1Block_written (lc := s.perm.lcState) hx hpps hcard hsession n hop hsent
      exact hblock ⟨hends hended, hshown⟩
    · have hasked : ∀ e, e = s.dev.blockFails i x overrun → (e.card i).exchange =
          some { x with tries := x.tries + 1, timeout := overrun, wtx := 0 } ∧
            e.outbox = s.dev.outbox ++ [.card i [0x82#8]] ∧ frame s e := by
        rintro e rfl
        rw [Dev.blockFails_retries overrun hsynch htries]
        exact ⟨congrArg CardIf.exchange (Dev.card_setCard _ _ _), rfl,
          (((Dev.CardActs.refl (own := []) s.dev).setCard _ _).send _).work⟩
      cases overrun with
      | false => exact hblock ⟨rfl, hasked _ (cardT1Block_bad hx hpps)⟩
      | true => exact completes_after (f := cardWaitTimeout i) rfl ⟨rfl, hasked _ (cardWaitTimeout_running hx)⟩
    · obtain ⟨hended, hdown⟩ := wtxLimit_ends hx hcard
      exact completes_after (f := wtxLimit i) rfl ⟨hends hended, hdown⟩
  case opens =>
    intro s req v cls m refused
    have hopen {P : Perm → Dev → Prop} (h : P s.perm (ceremonyOpen s.perm.level req v.toNat s.dev)) :
        Completes (.ceremonyOpen req v) s P :=
      completes_afterWith (f := fun p d => ceremonyOpen p.level req v.toNat d) rfl h
    refine ⟨fun hrunning => hopen ⟨rfl, ?_⟩, fun hidle hmin hmax hm hfew hlevel => hopen ⟨rfl, ?_⟩,
      fun hidle _ hrange => hopen ⟨rfl, ?_⟩⟩
    · rw [ceremonyOpen_running hrunning]
      exact ⟨Dev.err_code _ _ _ (Blk.apart_cd 0), s.dev.err_reported _ _ _ _⟩
    · exact ceremonyOpen_shows hidle hmin hmax hm hfew hlevel
    · rw [ceremonyOpen_outOfRange hidle hrange]
      exact ⟨Dev.err_code _ _ _ (Blk.apart_cd 0), s.dev.err_reported _ _ _ _⟩
  case ends =>
    intro s req state ended
    refine ⟨fun hstate => completes_after (f := ceremonyClose req) rfl ⟨rfl, ?_⟩,
      fun hstate => completes_after (f := ceremonyTimeout) rfl ⟨rfl, ?_⟩,
      fun hstate => completes_after (f := authorizationLapse) rfl ⟨rfl, ?_⟩⟩
    · rw [ceremonyClose, if_pos hstate]
      exact s.dev.cerEnd_clears 1
    · rw [ceremonyTimeout, if_pos hstate]
      exact s.dev.cerEnd_clears 2
    · rw [authorizationLapse, if_pos hstate]
      exact s.dev.cerEnd_clears 3

end Sys2Proof.Machine
